-- ==== Sys2Proof/Word.lean ====
section
/-! DEFINITION. Word.lean: the widths the spec counts in (R2, R4) and nothing else. -/

namespace Sys2Proof

/-- A 32-bit register, bus word or sample word. -/
abbrev Word := BitVec 32
/-- A byte of memory or of an instruction. -/
abbrev Byte := BitVec 8
/-- A 16-bit field. -/
abbrev Word16 := BitVec 16
/-- A 48-bit link address. -/
abbrev Word48 := BitVec 48
/-- A 64-bit count or code. -/
abbrev Word64 := BitVec 64
/-- A P register: a q39 value, 8 guard bits above a q31 value (R4). -/
abbrev PWord := BitVec 40
/-- One part of an accumulator, real or imaginary. -/
abbrev AWord := BitVec 72
/-- An address register: an a, m or l register. -/
abbrev QWord := BitVec 24

end Sys2Proof
end

