-- ==== Sys2Proof/Syntax.lean ====
section
/-! DEFINITION. Syntax.lean: the commands of the block. One constructor of `Instr` per row of spec/opcode_table.json. The table
gives no row any bits, so a command carries its operands as data: an instruction of the sample engines and the crook carries the
processor that issues it, its prefixes (R101) and the raw fields of its format class (R104, R105); a register row carries the
requester (R17) and the word written; an event of the block carries what the outside world or a physical measurement
contributes to it. Written from the table and from the rules it names. -/

namespace Sys2Proof

/-- Who makes an access to the address map (R20). -/
inductive Req where
  | crook
  | host
  | dma (ring : BitVec 5)
  deriving DecidableEq, Repr

/-- Which processor issues an instruction: a sample engine by its physical number (R14), or the crook. -/
inductive Proc where
  | engine (n : Fin 17)
  | crook
  deriving DecidableEq, Repr

/-- Is it the crook? -/
def Proc.isCrook : Proc → Bool
  | .crook => true
  | .engine _ => false

/-- A repeat prefix with its payload byte (R101). -/
inductive Rep where
  | u (n1 : Byte)
  | i (n1 : Byte)
  | r (k : Byte)
  deriving DecidableEq, Repr

/-- The prefixes of an instruction (R101), each at most once and in ascending order (R103). Payload bytes are kept whole, so
that one with a reserved bit set is still a term and the machine judges it (R109). -/
structure Px where
  rep : Option Rep
  cond : Option Byte
  sm : Option Byte
  bswap : Bool
  split : Bool
  wabs : Option Byte
  deriving DecidableEq, Repr

/-- No prefix. -/
def Px.none : Px := ⟨.none, .none, .none, false, false, .none⟩

/-- One update of the interleave corrections as the estimator forms it (R302): the changes of the two offsets in units of
2^-10 LSB, of the gain in 2^-24 of full gain and of the skew in 1/16 fs, and the image level it then estimates. `block`: the
Flenan receiver has a block in progress (R350). -/
structure IlcStep where
  off0 : Int
  off1 : Int
  gain : Int
  skew : Int
  img : BitVec 8
  block : Bool
  deriving DecidableEq, Repr

/-- A Reed–Solomon codeword as received, and the information bytes its decoder finds for it (R354, R358). -/
structure RxWord where
  rx : List (BitVec 8)
  info : List (BitVec 8)
  deriving DecidableEq, Repr

/-- A burst that the Flenan receiver has taken in (R351 to R358): its header, its codewords in order, and the arrival of its
reference instant at RFB_IN in local time, in units of 1/768 ns since STC 0. -/
structure BurstRx where
  hdr : RxWord
  words : List RxWord
  arr : Int
  deriving DecidableEq, Repr

/-- What the receiver measured in a slot unit (R374): the unit, counted from STC 0; its mean power from 1 µs after its start as −v
dBm; the header of the burst that is being received in it, where there is one; and whether that header lies in this unit. -/
structure StrayMeas where
  unit : Nat
  power : BitVec 8
  burst : Option RxWord
  head : Bool
  deriving DecidableEq, Repr

/-- What the receiver heard in the unit before a join request (R368): its mean power from 9 µs on as −v dBm, and whether a burst of
the drove was being received in it. -/
structure UnitHeard where
  power : BitVec 8
  own : Bool
  deriving DecidableEq, Repr

/-- A configuration register of a tracking channel (R338). -/
inductive ChCfgReg where
  | cfg
  | space
  | code
  | sec
  deriving DecidableEq, Repr

/-- The request of a ring that waits for its response (R250). -/
inductive DmaPhase where
  | read
  | write
  | fetch
  | status
  deriving DecidableEq, Repr

/-- A unit under test (R418): a physical engine or a physical bank. -/
inductive TestUnit where
  | engine (n : Fin 17)
  | bank (b : Fin 49)
  deriving DecidableEq, Repr

/-- What the test datapath counted and formed on a unit (R414). -/
structure TestRes where
  unit : TestUnit
  count : Nat
  sig : Word
  deriving DecidableEq, Repr

/-- A mailbox channel (R403). -/
inductive MbCh where
  | host
  | crook
  deriving DecidableEq, Repr

/-- The commands: one constructor per row of spec/opcode_table.json, in its order. -/
inductive Instr where
  /-- REGISTER_WRITE (R6). A write to a register that has no row of its own takes effect under the access codes of its fields. -/
  | registerWrite (r : Req) (addr : Word) (v : Word)
  /-- SE_CYC_READ (R7). A read of SE_CYC returns max and clears it. -/
  | seCycRead (r : Req) (n : Fin 17)
  /-- SE_OVR_CNT_READ (R7). A read of SE_OVR_CNT returns the overrun count and clears it. -/
  | seOvrCntRead (r : Req) (n : Fin 17)
  /-- PAS_ECC_CNT_READ (R7). A read of PAS_ECC_CNT returns the ECC counts and clears them. -/
  | pasEccCntRead (r : Req)
  /-- PAS_MISS_CNT_READ (R7). A read of PAS_MISS_CNT returns the slot-miss count and clears it. -/
  | pasMissCntRead (r : Req)
  /-- PRT_LANE_SLIP_READ (R7). A read of PRT_LANE_SLIP returns the slip counts and clears them. -/
  | prtLaneSlipRead (r : Req) (n : BitVec 5)
  /-- PRT_GRP_FERR_READ (R7). A read of PRT_GRP_FERR returns the framing-error count and clears it. -/
  | prtGrpFerrRead (r : Req) (g : BitVec 3)
  /-- EVT_Q_DROP_READ (R7). A read of EVT_Q_DROP returns the dropped-occurrence count and clears it. -/
  | evtQDropRead (r : Req)
  /-- EVT_TALLY_READ (R280). A read of EVT_TALLY returns both tallies of the selected event and clears them. -/
  | evtTallyRead (r : Req)
  /-- GUARD_CH_PEAK_CNT_READ (R7). A read of GUARD_CH_PEAK_CNT returns the limited-frame count and clears it. -/
  | guardChPeakCntRead (r : Req) (c : BitVec 6)
  /-- RF_OVL_CNT_READ (R7). A read of RF_OVL_CNT returns the overload-start count and clears it. -/
  | rfOvlCntRead (r : Req)
  /-- RF_TX_LATE_CNT_READ (R7). A read of RF_TX_LATE_CNT returns the late-abandonment count and clears it. -/
  | rfTxLateCntRead (r : Req)
  /-- LNK_AUD_CNT_READ (R7). A read of LNK_AUD_CNT returns the recovered and lost packet counts and clears them. -/
  | lnkAudCntRead (r : Req)
  /-- LNK_STRAY_CNT_READ (R7). A read of LNK_STRAY_CNT returns the stray count and clears it. -/
  | lnkStrayCntRead (r : Req)
  /-- BST_TALLY_READ (R7). A read of BST_TALLY returns the pass and fail tallies and clears them. -/
  | bstTallyRead (r : Req)
  /-- ROOT_PLL_LOCK (R27). The root PLL reaches lock after being enabled, and the divided clocks and STC run. -/
  | rootPllLock (n32k : Nat)
  /-- CLK_UNLOCK (R27). Loss of root lock freezes steering and discipline, discards marks and holds the time pulses inactive. -/
  | clkUnlock
  /-- ROOT_PLL_RELOCK (R27). Root lock returns and steering, discipline, captures and pulses resume from their frozen state. -/
  | rootPllRelock
  /-- STEERING_STEP (R30). Every 192 ticks the applied steering word moves towards the target by at most 109 units. -/
  | steeringStep
  /-- SOURCE_SELECTION (R33). Every millisecond the first valid discipline source in priority order is selected. -/
  | sourceSelection
  /-- CLK_PERR_SAT_WRITE (R32). A firmware write of a satellite phase error delivers one satellite-time sample. -/
  | clkPerrSatWrite (r : Req) (v : Word)
  /-- SAT_TIMEOUT (R32). No satellite error write within sat_to makes satellite time invalid. -/
  | satTimeout
  /-- LINK_TIMEOUT (R32). link_to superframes without a link sample make link time invalid. -/
  | linkTimeout
  /-- TMARK_TIMEOUT (R32). No accepted mark within twice the mark period makes TMARK_IN invalid. -/
  | tmarkTimeout
  /-- HOLD_LIMIT (R36). HOLD lasting hold_lim seconds moves discipline to FREE with a zero target. -/
  | holdLimit
  /-- LOOP_ENABLE (R35). Setting CLK_CTRL.loop_en from 0 to 1 loads the integrator with the applied steering word. -/
  | loopEnable (r : Req) (v : Word)
  /-- FRAME_BOUNDARY (R38). At each frame boundary inputs latch, outputs leave through the guard and running engines start at address 0. -/
  | frameBoundary
  /-- SUPERFRAME_BOUNDARY (R348). At each 2 ms superframe boundary the link applies its slot plan and rotation checks are made. -/
  | superframeBoundary
  /-- WHOLE_SECOND (R38). At each whole second of the STC second-aligned actions take place. -/
  | wholeSecond
  /-- STC_SNAPSHOT (R39). A read of TIME_STC_LO takes the requester's snapshot of count and fraction. -/
  | stcSnapshot (r : Req)
  /-- STC_LOAD_REQUEST (R40). A write of TIME_LOAD_CTRL.go requests an STC load, applied at once when nothing runs. -/
  | stcLoadRequest (r : Req) (v : Word)
  /-- STC_LOAD_APPLY (R40). At the next whole second a pending load is judged and applied or refused. -/
  | stcLoadApply
  /-- TP_APPLY_REQUEST (R46). A write of TIME_TPn_CTRL.apply marks the shadow configuration for the next second. -/
  | tpApplyRequest (r : Req) (n : Bool) (v : Word)
  /-- TP_CONFIG_APPLY (R46). At the next whole second the TPn shadow moves into use and is checked for validity. -/
  | tpConfigApply (n : Bool)
  /-- TIME_PULSE_START (R44). At each scheduled local time an enabled time pulse goes active. -/
  | timePulseStart (n : Bool)
  /-- TIME_PULSE_END (R44). A time pulse ends when its width expires. -/
  | timePulseEnd (n : Bool)
  /-- TMARK_EDGE (R48). An enabled TMARK_IN edge captures the STC and is accepted as a discipline sample or rejected. -/
  | tmarkEdge (falling : Bool)
  /-- TMARK_CAP_READ (R49). A read of TIME_TMARK_CAP_LO clears new. -/
  | tmarkCapRead (r : Req)
  /-- FOLD_GO (R69). A write of FOLD_CTRL.go starts a fold load, or is rejected while busy or shut down. -/
  | foldGo (r : Req) (v : Word)
  /-- FOLD_CHECKS_END (R70). The fold checks end; a pass waits for B and a failure returns to IDLE. -/
  | foldChecksEnd
  /-- FOLD_APPLY (R70). At B engines stop, roles and banks are assigned, paddocks change and zeroing begins. -/
  | foldApply
  /-- FOLD_ZEROING_END (R70). Pasture zeroing ends and waiting window accesses are served. -/
  | foldZeroingEnd
  /-- FOLD_DONE (R70). At R the new rate, ports and tables take effect, engines start unless held, and FOLD_DONE is raised. -/
  | foldDone
  /-- RUN_REQ (R86). A write of SE_CTRL.run_req arms a stopped role to start at a later boundary. -/
  | runReq (r : Req) (n : Fin 17) (v : Word)
  /-- STOP_REQ (R86). A write of SE_CTRL.stop_req requests a stop of the role at a later boundary. -/
  | stopReq (r : Req) (n : Fin 17) (v : Word)
  /-- ROLE_START (R87). An armed role loads its seed and starts running at its boundary. -/
  | roleStart (n : Fin 17)
  /-- ROLE_STOP (R88). A role stops at its boundary and its output words are cleared after they leave. -/
  | roleStop (n : Fin 17)
  /-- ENGINE_CLEAR (R89). A write of SE_CTRL.clr starts clearing the state of a stopped engine. -/
  | engineClear (r : Req) (n : Fin 17) (v : Word)
  /-- ENGINE_CLEAR_DONE (R89). The state clear completes and clr reads 0. -/
  | engineClearDone (n : Fin 17)
  /-- FORCED_FRAME_END (R77). An engine not at fend by the first tail cycle is ended by force. -/
  | forcedFrameEnd (n : Fin 17)
  /-- ROTATION_DUE (R91). At D a due rotation chooses a role, its engine and the spare, or waits. -/
  | rotationDue
  /-- PROGRAM_COPY (R92). At H − 2 the spare enters PREP and receives the outgoing engine's program store. -/
  | programCopy
  /-- SCRATCH_MIRROR (R92). In frame H − 1 scratch writes are mirrored and a sweep copies scratch to the spare. -/
  | scratchMirror
  /-- STATE_COPY (R79). In the tail of H − 1 the engine state is copied to the spare. -/
  | stateCopy
  /-- TWIN_FRAME_START (R92). At H the spare enters TWIN and both engines run the role. -/
  | twinFrameStart
  /-- TWIN_COMPARE (R92). After the drain of frame H the output words of both engines are compared. -/
  | twinCompare
  /-- HANDOVER (R92). At H + 1 the spare takes the role and the outgoing engine enters TEST. -/
  | handover
  /-- ILLEGAL_ENCODING (R109). An illegal or context-illegal instruction is an engine fault or a crook trap. -/
  | illegalEncoding (w : Proc) (bytes : List Byte)
  /-- CROOK_LOAD_RETURN (R123). Data of a crook load from outside crook RAM returns and issue resumes. -/
  | crookLoadReturn
  /-- INTERRUPT_ENTRY (R266). Between instructions the crook takes the lowest pending unmasked line. -/
  | interruptEntry
  /-- WATCHDOG_ENABLE (R268). A write of CRK_WDT_CTRL.en starts the watchdog until the crook is reset. -/
  | watchdogEnable (r : Req) (v : Word)
  /-- WATCHDOG_KICK (R268). The key written to CRK_WDT_KICK by the privileged crook reloads the count. -/
  | watchdogKick (r : Req) (v : Word)
  /-- WATCHDOG_EXPIRY (R268). A watchdog expiry warns the crook, or requests the crook watchdog reset at the second. -/
  | watchdogExpiry
  /-- SCRUB_REQUEST (R182). Every 16 × per cycles the scrubber requests one row read in each bank. -/
  | scrubRequest
  /-- GAP_SLOT_GRANT (R186). In a gap slot the bank cycle is granted round robin to a window, sweep or scrub request. -/
  | gapSlotGrant (lb : Fin 48) (cycle : Nat)
  /-- MIRROR_START (R192). At D a due bank rotation starts write-through and the sweep to the spare bank. -/
  | mirrorStart
  /-- BANK_SWAP (R192). At the first boundary after the sweep the logical bank maps to the spare and the old bank enters test. -/
  | bankSwap
  /-- COMMIT (R199). A CO_COMMIT write with at_time 0 requests an untimed commit of a group. -/
  | commit (r : Req) (v : Word)
  /-- TIMED_COMMIT (R200). A CO_COMMIT write with at_time 1 requests a commit at the boundary of CO_AT. -/
  | timedCommit (r : Req) (v : Word)
  /-- COMMIT_LAND (R202). At its boundary a pending commit copies shadows to active copies or starts glides. -/
  | commitLand
  /-- GLIDE_END (R204). A glide reaching its 2^k-th step takes its target and its slot becomes idle. -/
  | glideEnd (slot : BitVec 12)
  /-- GROUP_DESCRIPTOR_WRITE (R198). A write to a group descriptor is refused while the group has a commit pending. -/
  | groupDescriptorWrite (r : Req) (g : BitVec 8) (len : Bool) (v : Word)
  /-- GLIDE_DATA_WRITE (R206). A write of CO_GLIDE_DATA sets an idle slot, is refused on a busy one, and may advance slot. -/
  | glideDataWrite (r : Req) (v : Word)
  /-- GLIDE_DATA_READ (R206). A read of CO_GLIDE_DATA with ainc set advances the selected slot. -/
  | glideDataRead (r : Req)
  /-- GROUP_HALT (R211). A write of 1 to PRT_GRP_CTRL.halt is accepted or refused. -/
  | groupHalt (r : Req) (g : BitVec 3)
  /-- GROUP_RELEASE (R211). A write of 0 to PRT_GRP_CTRL.halt requests a release or cancels a pending halt. -/
  | groupRelease (r : Req) (g : BitVec 3)
  /-- GROUP_HALT_EFFECT (R211). An accepted halt stops the group's clocks at its boundary. -/
  | groupHaltEffect (g : BitVec 3)
  /-- GROUP_RELEASE_EFFECT (R211). A released group restarts its clocks or frame search at its boundary. -/
  | groupReleaseEffect (g : BitVec 3)
  /-- FRAME_START (R213). A slave group detects a frame start on FSY and checks it against the prediction. -/
  | frameStart (g : BitVec 3) (bits : Nat) (phase : Word16)
  /-- SLAVE_CLOCK_LOSS (R214). No frame start for 250 µs clears clk_ok and stops the serial side. -/
  | slaveClockLoss (g : BitVec 3)
  /-- ASRC_LOCK_CHANGE (R222). A converter gains (`locked`) or loses lock on the measured FSY ratio. -/
  | asrcLockChange (g : BitVec 3) (locked : Bool) (ratio : Word)
  /-- SERIAL_WORD (R217). An enabled slot word completes or begins on a lane's serial side. -/
  | serialWord (n : BitVec 5) (slot : BitVec 4) (w : Word)
  /-- LANE_FILL_REACHED (R221). A waiting slip-capable lane reaches its fill level and begins to pass words. -/
  | laneFillReached (n : BitVec 5)
  /-- MASK_WRITE (R226). A write of PRT_LANE_MASK.mask is accepted or refused. -/
  | maskWrite (r : Req) (n : BitVec 5) (v : Word) (late : Bool)
  /-- MASK_APPLY (R225). An accepted mask takes effect from its serial frame. -/
  | maskApply (n : BitVec 5)
  /-- LANE_START_REQUEST (R227). A write of PRT_LANE_CTRL.start on a stopped lane schedules its start. -/
  | laneStartRequest (r : Req) (n : BitVec 5) (v : Word)
  /-- LANE_START (R227). At its boundary a lane clears its buffer and starts. -/
  | laneStart (n : BitVec 5)
  /-- LANE_STOP_REQUEST (R228). A write of PRT_LANE_CTRL.stop schedules a stop or cancels a pending start. -/
  | laneStopRequest (r : Req) (n : BitVec 5) (v : Word)
  /-- LANE_STOP (R228). At its boundary a lane stops and its buffer is discarded. -/
  | laneStop (n : BitVec 5)
  /-- ALIGN_GO (R230). A write of PRT_ALIGN_CTRL_a.go requests a triggered start or is refused. -/
  | alignGo (r : Req) (a : BitVec 3) (v : Word)
  /-- TRIGGERED_START (R230). At the trigger boundary every lane of the alignment group starts and lost clears. -/
  | triggeredStart (a : BitVec 3)
  /-- ALIGN_STOP (R231). A write of PRT_ALIGN_CTRL_a.stop stops the group's lanes and cancels a pending trigger. -/
  | alignStop (r : Req) (a : BitVec 3) (v : Word)
  /-- RING_START (R244). A write of DMA_RING_CTRL.start fetches HEAD and enters RUNNING, or is refused. -/
  | ringStart (r : Req) (n : BitVec 5) (v : Word)
  /-- RING_ABORT (R244). A write of abort stops new reads and fetches of the ring. -/
  | ringAbort (r : Req) (n : BitVec 5) (v : Word)
  /-- RING_ABORT_DONE (R244). An aborted ring's transactions drain and it enters IDLE. -/
  | ringAbortDone (n : BitVec 5)
  /-- RING_PAUSE (R245). Setting pause in RUNNING enters PAUSING. -/
  | ringPause (r : Req) (n : BitVec 5) (v : Word)
  /-- RING_RESUME (R245). Clearing pause returns the ring to RUNNING from its exact position. -/
  | ringResume (r : Req) (n : BitVec 5) (v : Word)
  /-- RING_PAUSED (R245). A pausing ring's last transaction drains and it enters PAUSED. -/
  | ringPaused (n : BitVec 5)
  /-- DESCRIPTOR_FETCH (R237). A ring fetches and validates its next descriptor. -/
  | descriptorFetch (n : BitVec 5)
  /-- READ_TRANSACTION (R242). The read engine issues one read transaction for an eligible ring. -/
  | readTransaction (n : BitVec 5)
  /-- READ_RESPONSE (R238). Read data returns to the shared buffer or the transaction fails. -/
  | readResponse (n : BitVec 5)
  /-- WRITE_BURST (R238). The write engine writes a buffered transaction as one or two bursts. -/
  | writeBurst (n : BitVec 5)
  /-- WRITE_RESPONSE (R248). A target confirms or fails a write burst. -/
  | writeResponse (n : BitVec 5)
  /-- TRANSACTION_TIMEOUT (R250). A request without a response within the timeout fails. -/
  | transactionTimeout (n : BitVec 5) (k : DmaPhase)
  /-- LANE_BEAT (R239). A lane ring moves one word when the lane buffer holds data or space. -/
  | laneBeat (n : BitVec 5)
  /-- DESCRIPTOR_END (R236). When its writes are confirmed a descriptor's STATUS is written and the ring advances. -/
  | descriptorEnd (n : BitVec 5)
  /-- DDR_ENABLE (R252). A write of DMA_DDR_CTRL.en with a size starts LPDDR4X initialisation and training. -/
  | ddrEnable (r : Req) (v : Word)
  /-- DDR_TRAINING_END (R252). Training ends with ready and FEAT2 set, or with fail. -/
  | ddrTrainingEnd (converged : Bool) (density : BitVec 3)
  /-- DDR_DISABLE (R253). A write of en 0 clears ext_mem and refuses new LPDDR4X accesses. -/
  | ddrDisable (r : Req) (v : Word)
  /-- QUEUE_POP (R277). A write of EVT_Q_POP.pop removes the head queue entry. -/
  | queuePop (r : Req) (v : Word)
  /-- LINGER_END (R281). An ancestor's linger expires and it stops suppressing. -/
  | lingerEnd (id : Word16)
  /-- DC_LATCH (R288). A DC offset held over 50 ms latches and the channel sends zero. -/
  | dcLatch (c : BitVec 6)
  /-- DC_LATCH_CLEAR (R289). A write of 1 to GUARD_CH_STAT.dc clears the latch when the offset has gone. -/
  | dcLatchClear (r : Req) (c : BitVec 6) (v : Word)
  /-- ADC_ENABLE (R295). Setting RF_CTRL.adc_en starts the ADC and the receive side in START. -/
  | adcEnable (r : Req) (v : Word)
  /-- ADC_DISABLE (R313). Clearing adc_en turns the receive side OFF. -/
  | adcDisable (r : Req) (v : Word)
  /-- ADC_VALID (R295). The ADC delivers valid samples 100 µs after the enable. -/
  | adcValid
  /-- LNA_GAIN_APPLY (R295). A written LNA gain lands at the next slot-unit boundary. -/
  | lnaGainApply
  /-- RX_RETUNE (R299). A written link receive channel retunes the down-converter at the next slot-unit boundary. -/
  | rxRetune
  /-- RF_ADC_OVERLOAD (R300). 16 clipped samples in a 1,024-sample window start an overload. -/
  | rfAdcOverload
  /-- RF_ADC_OVERLOAD_END (R300). 64 windows without overload end it. -/
  | rfAdcOverloadEnd
  /-- ILC_UPDATE (R302). An interleave correction update lands at a permitted slot-unit boundary. -/
  | ilcUpdate (d : IlcStep)
  /-- ILC_OK (R303). The image estimate reaches −70 dBc, ilc_ok sets and the receive side enters RUN. -/
  | ilcOk (img : Byte)
  /-- MONITOR_SCAN (R304). Every 1 ms the spectrum monitor scans and records its peaks. -/
  | monitorScan (bins : List Byte)
  /-- TX_ENABLE (R305). Setting RF_CTRL.tx_en starts the synthesiser. -/
  | txEnable (r : Req) (v : Word)
  /-- TX_DISABLE (R314). Clearing tx_en ends keying, abandons a calibration and stops the synthesiser. -/
  | txDisable (r : Req) (v : Word)
  /-- SYNTH_RETUNE (R305). The synthesiser starts a retune to a new channel. -/
  | synthRetune
  /-- SYNTH_LOCK (R305). The synthesiser reports lock on its channel. -/
  | synthLock
  /-- RF_SYNTH_UNLOCK (R309). Loss of synthesiser lock ends a keyed interval and makes the event active. -/
  | rfSynthUnlock
  /-- TRANSMISSION_START (R308). At S a posted transmission passes or fails the gate, fuse, root, airtime and power checks. -/
  | transmissionStart
  /-- TX_KEY (R307). At K the PA is keyed if the synthesiser has locked. -/
  | txKey
  /-- KEYED_END (R307). A keyed interval ends after its last sample or at its run's end. -/
  | keyedEnd
  /-- PROTECT_START (R310). 1 µs before K the RFB LNA enters protect. -/
  | protectStart
  /-- PROTECT_END (R310). 1 µs after a keyed interval the RFB LNA leaves protect. -/
  | protectEnd
  /-- LO_CAL_REQUEST (R311). A write of RF_CAL_REQ.lo makes LO leakage calibration pending. -/
  | loCalRequest (r : Req) (v : Word)
  /-- IQ_CAL_REQUEST (R311). A write of RF_CAL_REQ.iq makes IQ balance calibration pending. -/
  | iqCalRequest (r : Req) (v : Word)
  /-- CAL_START (R311). A pending calibration starts at an idle run long enough for it. -/
  | calStart
  /-- CAL_COMPLETE (R312). A calibration stores its result for the channel and clears its request. -/
  | calComplete (res : Byte)
  /-- WAKE_FRAME (R316). A received wake frame is matched against the group and owner codes. -/
  | wakeFrame (n : Bool) (code : Word64)
  /-- WAKE_TX_GO (R318). A write of RF_WAKE_TX_CTRL.go posts one wake frame or is refused. -/
  | wakeTxGo (r : Req) (v : Word)
  /-- NOTCH_ADAPT (R323). After each 1,024 output samples an adaptive notch moves its centre. -/
  | notchAdapt (i : BitVec 3) (xs : List (Int × Int))
  /-- NOTCH_DISENGAGE (R324). An auto notch not refreshed for 16 scans disengages. -/
  | notchDisengage (i : BitVec 3)
  /-- NOTCH_FREQ_WRITE (R323). A write of GN_NOTCH_FREQ sets the centre and the reference centre. -/
  | notchFreqWrite (r : Req) (i : BitVec 3) (v : Word)
  /-- ACQ_GO (R326). A write of GN_ACQ_CTRL.go requests a capture and search or is refused. -/
  | acqGo (r : Req) (v : Word)
  /-- CAPTURE_START (R325). At the next millisecond or frame boundary the capture into the acquisition buffer begins. -/
  | captureStart
  /-- CAPTURE_OVERFLOW (R325). A full capture FIFO abandons the capture with ovf. -/
  | captureOverflow
  /-- CAPTURE_END (R328). The capture completes and the FFT search begins. -/
  | captureEnd (samples : List (Int × Int))
  /-- SEARCH_END (R327). The search on signal `sig` ends and records the peak of each PRN. -/
  | searchEnd (sig : BitVec 4)
  /-- ACQ_ABORT (R329). A write of abort ends a capture or search at once. -/
  | acqAbort (r : Req) (v : Word)
  /-- CHANNEL_START_REQUEST (R331). A write of GN_CH_CTRL.start schedules a channel start or is refused. -/
  | channelStartRequest (r : Req) (n : Fin 96) (v : Word)
  /-- CHANNEL_START (R331). At its start instant a channel loads its phases and enters PULL. -/
  | channelStart (n : Fin 96)
  /-- CHANNEL_STOP_REQUEST (R336). A write of GN_CH_CTRL.stop requests a stop at the next dump boundary. -/
  | channelStopRequest (r : Req) (n : Fin 96) (v : Word)
  /-- CHANNEL_STOP (R336). A stopping channel becomes IDLE at its dump boundary. -/
  | channelStop (n : Fin 96)
  /-- DUMP (R333). Each code millisecond a channel's correlators dump their sums. -/
  | dump (n : Fin 96) (xs : List (Int × Int))
  /-- INTEGRATION_END (R335). At the end of acc dumps the loops update and the lock detector judges the state. -/
  | integrationEnd (n : Fin 96)
  /-- PULL_TIMEOUT (R336). A channel still in PULL after coast ms becomes IDLE with fail. -/
  | pullTimeout (n : Fin 96)
  /-- COAST_TIMEOUT (R336). A channel in LOST for coast ms becomes IDLE. -/
  | coastTimeout (n : Fin 96)
  /-- CHANNEL_CONFIG_WRITE (R338). A write to a channel's configuration is accepted only in IDLE. -/
  | channelConfigWrite (r : Req) (n : Fin 96) (k : ChCfgReg) (v : Word)
  /-- EPOCH (R339). At each measurement epoch every channel's record and the STC are latched. -/
  | epoch
  /-- EPOCH_RATE_APPLY (R339). A written epoch rate applies from the next whole second. -/
  | epochRateApply
  /-- LINK_CONTROL_APPLY (R365). LNK_CTRL writes apply at the next superframe boundary and change link state. -/
  | linkControlApply
  /-- BEACON (R366). A decoded beacon sets d2, the next plan, grants, probe and hop announcements. -/
  | beacon (b : BurstRx)
  /-- AUDIO_BURST (R380). A received audio burst is rebuilt and written to the link receive paddock. -/
  | audioBurst (b : BurstRx)
  /-- UPLINK (R371). A decoded uplink yields d4 at the bellwether and bwm reports at any node. -/
  | uplink (b : BurstRx)
  /-- JOIN_REQUEST (R367). The bellwether decodes a join request and assigns a node number. -/
  | joinRequest (b : BurstRx)
  /-- STRAY_UNIT (R374). A measured unit is judged as a stray unit, and a stray closes at the next clean unit. -/
  | strayUnit (m : StrayMeas)
  /-- BEACON_SEND (R362). The bellwether posts its beacon for the beacon run. -/
  | beaconSend
  /-- AUDIO_MULTICAST_SEND (R379). The bellwether posts the previous superframe's audio in its multicast run. -/
  | audioMulticastSend
  /-- UPLINK_SEND (R362). A member posts its uplink in its run. -/
  | uplinkSend
  /-- JOIN_REQUEST_SEND (R368). A joining node sends a join request after its backoff in a contention run. -/
  | joinRequestSend (unit : BitVec 7) (heard : UnitHeard)
  /-- JOIN_BACKOFF (R368). Four beacons without a grant double the window and redraw the backoff. -/
  | joinBackoff
  /-- MEMBER_DROP (R369). lost_n superframes without an uplink drop a member. -/
  | memberDrop (k : BitVec 5)
  /-- BEACON_LOSS (R370). bl_n missed beacons in a row change link state. -/
  | beaconLoss
  /-- CHANNEL_SCAN_STEP (R365). With scan set, 64 superframes without a beacon step the SEARCH channel. -/
  | channelScanStep
  /-- HOLD_EXPIRY (R365). hold superframes in HOLD return the node to SEARCH without a number. -/
  | holdExpiry
  /-- HOP_REQUEST (R376). A write of LNK_HOP.go at the bellwether requests a hop at sfn plus lead. -/
  | hopRequest (r : Req) (v : Word)
  /-- HOP (R376). At the hop superframe a node changes its link channel. -/
  | hop
  /-- FUSE_REPAIR (R387). The fuses are sensed, weak bits reburnt and the shadows and FEAT2 loaded. -/
  | fuseRepair
  /-- START_TEST_END (R424). The start test ends at its last verdict and marks failing units. -/
  | startTestEnd (res : List TestRes)
  /-- HEADER_CHECK (R394). At t1 bundle headers are read and checked and a source selected. -/
  | headerCheck
  /-- SECTION_VERIFY (R395). Each section is copied, read back and hashed against the table. -/
  | sectionVerify
  /-- PASS (R397). Every check passes, the crook and blocks leave reset and the gate opens. -/
  | pass
  /-- LOAD_STREAM (R399). The host command loads a bundle word by word through SHP_MB_DATA. -/
  | loadStream (r : Req)
  /-- BOOT_FLASH (R394). The host command reruns bundle selection from flash. -/
  | bootFlash (r : Req)
  /-- FUSE_PROG (R404). The command burns permitted fuse bits. -/
  | fuseProg (r : Req)
  /-- ARB_ADVANCE (R401). The command advances the anti-rollback counter to a target. -/
  | arbAdvance (r : Req)
  /-- REVOKE (R404). The command burns the revoke bit of a key. -/
  | revoke (r : Req)
  /-- LC_SECURE (R385). The command burns lc_secured for the next start. -/
  | lcSecure (r : Req)
  /-- CHALLENGE (R409). The command fills the challenge registers for debug or return. -/
  | challenge (r : Req)
  /-- RESPOND (R409). The command verifies a signed response and unlocks debug or burns lc_return. -/
  | respond (r : Req)
  /-- GATE_SET (R397). The command closes or reopens gate parts up to their values at pass. -/
  | gateSet (r : Req)
  /-- RESET_REQ (R439). The command resets the blocks named in its domain mask. -/
  | resetReq (r : Req)
  /-- MAILBOX_DONE (R403). A mailbox command completes, writes its results and clears busy. -/
  | mailboxDone (ch : MbCh)
  /-- MB_DATA_WRITE (R399). A host word written to SHP_MB_DATA enters the stream FIFO. -/
  | mbDataWrite (r : Req) (v : Word)
  /-- STREAM_TIMEOUT (R399). No stream word for 1 s fails the stream with code 0x0B. -/
  | streamTimeout
  /-- DBG_ENTER (R408). The TAP instruction zeroises secrets and enters debug when allowed. -/
  | dbgEnter
  /-- SCAN_ENTER (R408). The TAP instruction zeroises secrets and enables scan when allowed. -/
  | scanEnter
  /-- BYPASS (R407). The TAP instruction selects the bypass register. -/
  | bypass
  /-- IDCODE (R407). The TAP instruction selects the identification register. -/
  | idcode
  /-- WAKE_DIGEST (R406). On wake the digest is recomputed and the gate restored, or a full start runs. -/
  | wakeDigest
  /-- TEST_COMPLETE (R415). A test completes and its count and signature give a verdict. -/
  | testComplete (u : TestUnit) (count : Nat) (sig : Word)
  /-- TEST_DEADLINE (R415). A test not complete by its deadline gets a verdict with cnt_short. -/
  | testDeadline (u : TestUnit) (count : Nat) (sig : Word)
  /-- TEST_STATE_CHANGE (R417). At the first frame boundary after a verdict the unit becomes spare or unusable. -/
  | testStateChange (u : TestUnit)
  /-- IDLE_TEST_START (R418). At a superframe boundary an idle engine's background test starts. -/
  | idleTestStart
  /-- SPARE_TEST_START (R418). A requested test of the spare starts at a free superframe boundary. -/
  | spareTestStart (bank : Bool)
  /-- TEST_REQUEST (R419). A write of BST_REQ.go requests a test of an engine or bank or is refused. -/
  | testRequest (r : Req) (v : Word)
  /-- MARK_CLEAR (R422). The key written to BST_MARK_CLR sets clr in the mark record. -/
  | markClear (r : Req) (v : Word)
  /-- SHUTDOWN_REQUEST (R425). A write of BST_SHUTDOWN.go requests the shutdown test or is refused. -/
  | shutdownRequest (r : Req) (v : Word)
  /-- SHUTDOWN_START (R425). At Z everything stops and the shutdown tests start. -/
  | shutdownStart
  /-- SHUTDOWN_END (R425). The last shutdown verdict writes the mark record with shut set. -/
  | shutdownEnd
  /-- SLEEP_COMMAND (R430). A host write of PWR_CMD.sleep is accepted into ENTERING or refused. -/
  | sleepCommand (r : Req) (v : Word)
  /-- SLEEP_ENTRY (R431). At Q the crook, engines, DMA, GN and link stop and the wake record is hashed. -/
  | sleepEntry
  /-- SLEEP_ENTERED (R431). The root is switched off, the STC recorded and the state becomes SLEEP. -/
  | sleepEntered
  /-- WAKE (R433). WAKE_IN and PWR_GOOD high at a CLK32K edge start the wake. -/
  | wake
  /-- WAKE_APPLY (R433). At B_w the kept fold is applied without checks and zeroing begins. -/
  | wakeApply
  /-- RUN_READY (R433). At R_w engines start and the state becomes RUN. -/
  | runReady
  /-- ALARM (R435). PWR_TMR reaching PWR_ALARM sets alarm and drives WAKE_OUT. -/
  | alarm
  /-- POWER_ON_RESET (R436). The retention supply rising resets every domain. -/
  | powerOnReset
  /-- RST_N_RESET (R436). RST_N low for 1 µs resets shepherd and core domains. -/
  | rstNReset
  /-- PWR_GOOD_RESET (R436). PWR_GOOD low outside SLEEP resets shepherd and core domains. -/
  | pwrGoodReset
  /-- HOST_SOFT_RESET (R436). The host key written to PWR_RESET resets shepherd and core domains. -/
  | hostSoftReset (r : Req) (v : Word)
  /-- PWR_OVERTEMP (R444). The die sensor reaching the threshold makes PWR_OVERTEMP active. -/
  | pwrOvertemp (temp : BitVec 12)
  /-- OVERTEMP_END (R444). The sensor falling 3 °C below the threshold ends PWR_OVERTEMP. -/
  | overtempEnd (temp : BitVec 12)
  /-- WRITE (R447). The host command writes data words at incrementing addresses. -/
  | write (addr : Word) (ws : List Word) (tail : Nat)
  /-- WRITE_FIXED (R447). The host command writes data words to one address. -/
  | writeFixed (addr : Word) (ws : List Word) (tail : Nat)
  /-- READ (R449). The host command reads cells at incrementing addresses. -/
  | read (addr : Word) (n : Nat)
  /-- READ_FIXED (R449). The host command reads cells from one address. -/
  | readFixed (addr : Word) (n : Nat)
  /-- STREAM (R454). The host command writes words into the stream region. -/
  | stream (ws : List Word) (tail : Nat)
  /-- STATUS (R452). The host command returns the four status bytes. -/
  | status
  /-- BAD_COMMAND (R447). An unknown command byte sets badcmd and the transaction is ignored. -/
  | badCommand (code : Byte)
  /-- CELL_TIMEOUT (R450). A read cell reaching wmax wait bytes ends with an error token. -/
  | cellTimeout
  /-- BUFFER_DRAIN (R451). A host write word leaves the write buffer to its target. -/
  | bufferDrain
  /-- STREAM_ENABLE (R454). A write of HIF_STRM_CTRL.en checks the stream region and enables it or sets cfg_err. -/
  | streamEnable (r : Req) (v : Word)
  /-- MAC (R135). Complex multiply-accumulate into an accumulator. -/
  | mac (w : Proc) (px : Px) (f : Word16)
  /-- MACN (R135). Complex multiply-subtract from an accumulator. -/
  | macn (w : Proc) (px : Px) (f : Word16)
  /-- MPY (R135). Complex multiply into an accumulator. -/
  | mpy (w : Proc) (px : Px) (f : Word16)
  /-- MPYN (R135). Negated complex multiply into an accumulator. -/
  | mpyn (w : Proc) (px : Px) (f : Word16)
  /-- MACJ (R135). Conjugate complex multiply-accumulate. -/
  | macj (w : Proc) (px : Px) (f : Word16)
  /-- MACJN (R135). Conjugate complex multiply-subtract. -/
  | macjn (w : Proc) (px : Px) (f : Word16)
  /-- MPYJ (R135). Conjugate complex multiply. -/
  | mpyj (w : Proc) (px : Px) (f : Word16)
  /-- MPYJN (R135). Negated conjugate complex multiply. -/
  | mpyjn (w : Proc) (px : Px) (f : Word16)
  /-- RMAC (R136). Real multiply-accumulate. -/
  | rmac (w : Proc) (px : Px) (f : Word16)
  /-- RMACN (R136). Real multiply-subtract. -/
  | rmacn (w : Proc) (px : Px) (f : Word16)
  /-- RMPY (R136). Real multiply into an accumulator. -/
  | rmpy (w : Proc) (px : Px) (f : Word16)
  /-- RMPYN (R136). Negated real multiply into an accumulator. -/
  | rmpyn (w : Proc) (px : Px) (f : Word16)
  /-- DMAC (R137). Dual real multiply-accumulate, or split form with packed coefficients. -/
  | dmac (w : Proc) (px : Px) (f : Word16)
  /-- DMACN (R137). Dual real multiply-subtract. -/
  | dmacn (w : Proc) (px : Px) (f : Word16)
  /-- DMPY (R137). Dual real multiply into an accumulator. -/
  | dmpy (w : Proc) (px : Px) (f : Word16)
  /-- DMPYN (R137). Negated dual real multiply. -/
  | dmpyn (w : Proc) (px : Px) (f : Word16)
  /-- ADD (R142). Add two data registers with saturation. -/
  | add (w : Proc) (px : Px) (f : Word16)
  /-- SUB (R142). Subtract two data registers with saturation. -/
  | sub (w : Proc) (px : Px) (f : Word16)
  /-- ADDC (R142). Add with carry. -/
  | addc (w : Proc) (px : Px) (f : Word16)
  /-- SUBC (R142). Subtract with borrow. -/
  | subc (w : Proc) (px : Px) (f : Word16)
  /-- NEG (R142). Negate a data register. -/
  | neg (w : Proc) (px : Px) (f : Word16)
  /-- ABS (R142). Absolute value of a data register. -/
  | abs (w : Proc) (px : Px) (f : Word16)
  /-- MIN (R142). Smaller of two data registers. -/
  | min (w : Proc) (px : Px) (f : Word16)
  /-- MAX (R142). Larger of two data registers. -/
  | max (w : Proc) (px : Px) (f : Word16)
  /-- CMP (R142). Compare two data registers and set flags. -/
  | cmp (w : Proc) (px : Px) (f : Word16)
  /-- TST (R142). Set Z and N from a data register. -/
  | tst (w : Proc) (px : Px) (f : Word16)
  /-- CADD (R142). Complex add of register pairs. -/
  | cadd (w : Proc) (px : Px) (f : Word16)
  /-- CSUB (R142). Complex subtract of register pairs. -/
  | csub (w : Proc) (px : Px) (f : Word16)
  /-- CNEG (R142). Complex negate of a register pair. -/
  | cneg (w : Proc) (px : Px) (f : Word16)
  /-- CONJ (R142). Complex conjugate of a register pair. -/
  | conj (w : Proc) (px : Px) (f : Word16)
  /-- MAG2 (R142). Squared magnitude of a register pair. -/
  | mag2 (w : Proc) (px : Px) (f : Word16)
  /-- SAT (R142). Saturate a data register to q31. -/
  | sat (w : Proc) (px : Px) (f : Word16)
  /-- ACLR (R140). Clear accumulator parts. -/
  | aclr (w : Proc) (px : Px) (f : Word16)
  /-- ACPY (R140). Copy accumulator parts. -/
  | acpy (w : Proc) (px : Px) (f : Word16)
  /-- AADD (R140). Add accumulator parts. -/
  | aadd (w : Proc) (px : Px) (f : Word16)
  /-- ASUB (R140). Subtract accumulator parts. -/
  | asub (w : Proc) (px : Px) (f : Word16)
  /-- ASHL (R140). Shift accumulator parts by a signed count. -/
  | ashl (w : Proc) (px : Px) (f : Word16)
  /-- ANEG (R140). Negate accumulator parts. -/
  | aneg (w : Proc) (px : Px) (f : Word16)
  /-- ARD (R141). Move accumulator parts into data registers. -/
  | ard (w : Proc) (px : Px) (f : Word16)
  /-- AWR (R141). Move data registers into accumulator parts. -/
  | awr (w : Proc) (px : Px) (f : Word16)
  /-- ADDI (R142). Add an immediate to a data register. -/
  | addi (w : Proc) (px : Px) (f8 : Byte) (imm : Word16)
  /-- SUBI (R142). Subtract an immediate from a data register. -/
  | subi (w : Proc) (px : Px) (f8 : Byte) (imm : Word16)
  /-- CMPI (R142). Compare a data register with an immediate. -/
  | cmpi (w : Proc) (px : Px) (f8 : Byte) (imm : Word16)
  /-- MUL (R139). Real q31 multiply into a data register. -/
  | mul (w : Proc) (px : Px) (f : Word16)
  /-- CMUL (R139). Complex multiply into a register pair. -/
  | cmul (w : Proc) (px : Px) (f : Word16)
  /-- CMULJ (R139). Conjugate complex multiply into a register pair. -/
  | cmulj (w : Proc) (px : Px) (f : Word16)
  /-- SQR (R139). Square a data register. -/
  | sqr (w : Proc) (px : Px) (f : Word16)
  /-- ASL (R144). Arithmetic shift left by a register count. -/
  | asl (w : Proc) (px : Px) (f : Word16)
  /-- ASR (R144). Arithmetic shift right by a register count. -/
  | asr (w : Proc) (px : Px) (f : Word16)
  /-- LSL (R144). Logical shift left by a register count. -/
  | lsl (w : Proc) (px : Px) (f : Word16)
  /-- LSR (R144). Logical shift right by a register count. -/
  | lsr (w : Proc) (px : Px) (f : Word16)
  /-- ASLI (R144). Arithmetic shift left by an immediate. -/
  | asli (w : Proc) (px : Px) (f8 : Byte) (imm : Word16)
  /-- ASRI (R144). Arithmetic shift right by an immediate. -/
  | asri (w : Proc) (px : Px) (f8 : Byte) (imm : Word16)
  /-- LSLI (R144). Logical shift left by an immediate. -/
  | lsli (w : Proc) (px : Px) (f8 : Byte) (imm : Word16)
  /-- LSRI (R144). Logical shift right by an immediate. -/
  | lsri (w : Proc) (px : Px) (f8 : Byte) (imm : Word16)
  /-- NORM (R146). Normalise a data register. -/
  | norm (w : Proc) (px : Px) (f : Word16)
  /-- EXP (R146). Exponent of a data register. -/
  | exp (w : Proc) (px : Px) (f : Word16)
  /-- BEXP (R146). Running block exponent of a data register. -/
  | bexp (w : Proc) (px : Px) (f : Word16)
  /-- BEXPC (R146). Running block exponent of a register pair. -/
  | bexpc (w : Proc) (px : Px) (f : Word16)
  /-- ANORM (R146). Normalise accumulator parts. -/
  | anorm (w : Proc) (px : Px) (f : Word16)
  /-- AEXP (R146). Exponent of accumulator parts. -/
  | aexp (w : Proc) (px : Px) (f : Word16)
  /-- ROL (R144). Rotate left. -/
  | rol (w : Proc) (px : Px) (f : Word16)
  /-- ROR (R144). Rotate right. -/
  | ror (w : Proc) (px : Px) (f : Word16)
  /-- AND (R144). Bitwise and. -/
  | and (w : Proc) (px : Px) (f : Word16)
  /-- OR (R144). Bitwise or. -/
  | or (w : Proc) (px : Px) (f : Word16)
  /-- XOR (R144). Bitwise exclusive or. -/
  | xor (w : Proc) (px : Px) (f : Word16)
  /-- NOT (R144). Bitwise not. -/
  | not (w : Proc) (px : Px) (f : Word16)
  /-- ANDI (R144). Bitwise and with an immediate. -/
  | andi (w : Proc) (px : Px) (f8 : Byte) (imm : Word16)
  /-- ORI (R144). Bitwise or with an immediate. -/
  | ori (w : Proc) (px : Px) (f8 : Byte) (imm : Word16)
  /-- XORI (R144). Bitwise exclusive or with an immediate. -/
  | xori (w : Proc) (px : Px) (f8 : Byte) (imm : Word16)
  /-- BSET (R144). Set one bit. -/
  | bset (w : Proc) (px : Px) (f8 : Byte) (imm : Word16)
  /-- BCLR (R144). Clear one bit. -/
  | bclr (w : Proc) (px : Px) (f8 : Byte) (imm : Word16)
  /-- BTST (R144). Test one bit. -/
  | btst (w : Proc) (px : Px) (f8 : Byte) (imm : Word16)
  /-- BCHG (R144). Invert one bit. -/
  | bchg (w : Proc) (px : Px) (f8 : Byte) (imm : Word16)
  /-- POPC (R144). Count one bits. -/
  | popc (w : Proc) (px : Px) (f : Word16)
  /-- CLZ (R144). Count leading zeros. -/
  | clz (w : Proc) (px : Px) (f : Word16)
  /-- LDX (R153). Load a word from the X bus. -/
  | ldx (w : Proc) (px : Px) (m : Word16) (disp : Word16)
  /-- STX (R153). Store a word to the X bus. -/
  | stx (w : Proc) (px : Px) (m : Word16) (disp : Word16)
  /-- LDY (R153). Load a word from the Y bus. -/
  | ldy (w : Proc) (px : Px) (m : Word16) (disp : Word16)
  /-- STY (R153). Store a word to the Y bus in the crook. -/
  | sty (w : Proc) (px : Px) (m : Word16) (disp : Word16)
  /-- LDZ (R153). Load a word from the Z bus. -/
  | ldz (w : Proc) (px : Px) (m : Word16) (disp : Word16)
  /-- STZ (R153). Store a word to the Z bus. -/
  | stz (w : Proc) (px : Px) (m : Word16) (disp : Word16)
  /-- LDXC (R153). Load a pair from the X bus. -/
  | ldxc (w : Proc) (px : Px) (m : Word16) (disp : Word16)
  /-- STXC (R153). Store a pair to the X bus. -/
  | stxc (w : Proc) (px : Px) (m : Word16) (disp : Word16)
  /-- LDYC (R153). Load a pair from the Y bus. -/
  | ldyc (w : Proc) (px : Px) (m : Word16) (disp : Word16)
  /-- LDZC (R153). Load a pair from the Z bus. -/
  | ldzc (w : Proc) (px : Px) (m : Word16) (disp : Word16)
  /-- STZC (R153). Store a pair to the Z bus. -/
  | stzc (w : Proc) (px : Px) (m : Word16) (disp : Word16)
  /-- LDG (R153). Load a gate-buffer word. -/
  | ldg (w : Proc) (px : Px) (f8 : Byte) (g8 : Byte)
  /-- STG (R153). Store an output gate-buffer word with conversion. -/
  | stg (w : Proc) (px : Px) (f8 : Byte) (g8 : Byte)
  /-- MOV (R157). Move a data register. -/
  | mov (w : Proc) (px : Px) (f : Word16)
  /-- MOVC (R157). Move a register pair. -/
  | movc (w : Proc) (px : Px) (f : Word16)
  /-- LDI (R157). Load a 32-bit immediate. -/
  | ldi (w : Proc) (px : Px) (f8 : Byte) (imm : Word)
  /-- MVAR (R157). Move an address-file register to a data register. -/
  | mvar (w : Proc) (px : Px) (f : Word16)
  /-- MVRA (R157). Move a data register to an address-file register. -/
  | mvra (w : Proc) (px : Px) (f : Word16)
  /-- LDAI (R157). Load an address-file register with an immediate. -/
  | ldai (w : Proc) (px : Px) (f8 : Byte) (imm : Word)
  /-- ADDAI (R157). Add an immediate to an address-file register. -/
  | addai (w : Proc) (px : Px) (f8 : Byte) (imm : Word16)
  /-- MVF (R157). Move the flags to a data register, optionally clearing V and S. -/
  | mvf (w : Proc) (px : Px) (f8 : Byte) (g8 : Byte)
  /-- MTF (R157). Move a data register to the flags. -/
  | mtf (w : Proc) (px : Px) (f8 : Byte) (g8 : Byte)
  /-- MVFEAT (R157). Read a feature register. -/
  | mvfeat (w : Proc) (px : Px) (f8 : Byte) (g8 : Byte)
  /-- LD8 (R153). Load a byte in the crook. -/
  | ld8 (w : Proc) (px : Px) (m : Word16) (disp : Word16)
  /-- ST8 (R153). Store a byte in the crook. -/
  | st8 (w : Proc) (px : Px) (m : Word16) (disp : Word16)
  /-- LD16 (R153). Load a half-word in the crook. -/
  | ld16 (w : Proc) (px : Px) (m : Word16) (disp : Word16)
  /-- ST16 (R153). Store a half-word in the crook. -/
  | st16 (w : Proc) (px : Px) (m : Word16) (disp : Word16)
  /-- MAC_PL (R151). Complex MAC with two parallel loads. -/
  | macPl (w : Proc) (px : Px) (f : Word16) (v24 : BitVec 24)
  /-- MACN_PL (R151). Complex multiply-subtract with two parallel loads. -/
  | macnPl (w : Proc) (px : Px) (f : Word16) (v24 : BitVec 24)
  /-- MPY_PL (R151). Complex multiply with two parallel loads. -/
  | mpyPl (w : Proc) (px : Px) (f : Word16) (v24 : BitVec 24)
  /-- MPYN_PL (R151). Negated complex multiply with two parallel loads. -/
  | mpynPl (w : Proc) (px : Px) (f : Word16) (v24 : BitVec 24)
  /-- MACJ_PL (R151). Conjugate complex MAC with two parallel loads. -/
  | macjPl (w : Proc) (px : Px) (f : Word16) (v24 : BitVec 24)
  /-- MACJN_PL (R151). Conjugate complex multiply-subtract with two parallel loads. -/
  | macjnPl (w : Proc) (px : Px) (f : Word16) (v24 : BitVec 24)
  /-- RMAC_PL (R151). Real MAC with two parallel loads. -/
  | rmacPl (w : Proc) (px : Px) (f : Word16) (v24 : BitVec 24)
  /-- RMACN_PL (R151). Real multiply-subtract with two parallel loads. -/
  | rmacnPl (w : Proc) (px : Px) (f : Word16) (v24 : BitVec 24)
  /-- DMAC_PL (R151). Dual MAC with two parallel pair loads. -/
  | dmacPl (w : Proc) (px : Px) (f : Word16) (v24 : BitVec 24)
  /-- DMACN_PL (R151). Dual multiply-subtract with two parallel pair loads. -/
  | dmacnPl (w : Proc) (px : Px) (f : Word16) (v24 : BitVec 24)
  /-- DMPY_PL (R151). Dual multiply with two parallel pair loads. -/
  | dmpyPl (w : Proc) (px : Px) (f : Word16) (v24 : BitVec 24)
  /-- ADD_PL (R151). Add with two parallel loads. -/
  | addPl (w : Proc) (px : Px) (f : Word16) (v24 : BitVec 24)
  /-- SUB_PL (R151). Subtract with two parallel loads. -/
  | subPl (w : Proc) (px : Px) (f : Word16) (v24 : BitVec 24)
  /-- MOV_PL (R160). Register move with two parallel loads. -/
  | movPl (w : Proc) (px : Px) (f : Word16) (v24 : BitVec 24)
  /-- CADD_PL (R151). Complex add with two parallel loads. -/
  | caddPl (w : Proc) (px : Px) (f : Word16) (v24 : BitVec 24)
  /-- CSUB_PL (R151). Complex subtract with two parallel loads. -/
  | csubPl (w : Proc) (px : Px) (f : Word16) (v24 : BitVec 24)
  /-- MAC_PS (R151). Complex MAC with a parallel store and load. -/
  | macPs (w : Proc) (px : Px) (f : Word16) (v24 : BitVec 24)
  /-- MACN_PS (R151). Complex multiply-subtract with a parallel store and load. -/
  | macnPs (w : Proc) (px : Px) (f : Word16) (v24 : BitVec 24)
  /-- RMAC_PS (R151). Real MAC with a parallel store and load. -/
  | rmacPs (w : Proc) (px : Px) (f : Word16) (v24 : BitVec 24)
  /-- DMAC_PS (R151). Dual MAC with a parallel pair store and load. -/
  | dmacPs (w : Proc) (px : Px) (f : Word16) (v24 : BitVec 24)
  /-- ADD_PS (R151). Add with a parallel store and load. -/
  | addPs (w : Proc) (px : Px) (f : Word16) (v24 : BitVec 24)
  /-- MOV_PS (R160). Register move with a parallel store and load. -/
  | movPs (w : Proc) (px : Px) (f : Word16) (v24 : BitVec 24)
  /-- PMV_PL (R160). Two parallel loads only. -/
  | pmvPl (w : Proc) (px : Px) (f : Word16) (v24 : BitVec 24)
  /-- PMV_PS (R160). A parallel store and load only. -/
  | pmvPs (w : Proc) (px : Px) (f : Word16) (v24 : BitVec 24)
  /-- BR (R162). Conditional relative branch with two delay slots. -/
  | br (w : Proc) (px : Px) (c8 : Byte) (off : BitVec 24)
  /-- CALL (R163). Conditional relative call that raises the window. -/
  | call (w : Proc) (px : Px) (c8 : Byte) (off : BitVec 24)
  /-- JR (R162). Conditional jump to an address register. -/
  | jr (w : Proc) (px : Px) (c8 : Byte)
  /-- CALLR (R163). Conditional call to an address register. -/
  | callr (w : Proc) (px : Px) (c8 : Byte)
  /-- RET (R163). Conditional return that lowers the window. -/
  | ret (w : Proc) (px : Px) (c8 : Byte)
  /-- BREP (R166). Open a block-repeat level with an immediate count. -/
  | brep (w : Proc) (px : Px) (f8 : Byte) (cnt : Word16) (blen : Word16)
  /-- BREPR (R166). Open a block-repeat level with a register count. -/
  | brepr (w : Proc) (px : Px) (f8 : Byte) (cnt : Word16) (blen : Word16)
  /-- BBRK (R167). End the innermost block repeat after the current pass. -/
  | bbrk (w : Proc) (px : Px)
  /-- FEND (R169). End the engine's frame. -/
  | fend (w : Proc) (px : Px)
  /-- NOP (R169). Do nothing for one cycle. -/
  | nop (w : Proc) (px : Px)
  /-- TRAP (R169). Raise a software trap in the crook. -/
  | trap (w : Proc) (px : Px) (f8 : Byte) (g8 : Byte)
  /-- DADD (R173). Packed BCD add. -/
  | dadd (w : Proc) (px : Px) (f : Word16)
  /-- DSUB (R173). Packed BCD subtract. -/
  | dsub (w : Proc) (px : Px) (f : Word16)
  /-- DADJ (R174). Adjust a value to packed BCD. -/
  | dadj (w : Proc) (px : Px) (f : Word16)
  /-- BCD (R175). Convert binary to packed BCD. -/
  | bcd (w : Proc) (px : Px) (f : Word16)
  /-- BIN (R175). Convert packed BCD to binary. -/
  | bin (w : Proc) (px : Px) (f : Word16)
  /-- BFX (R176). Extract a signed bit field. -/
  | bfx (w : Proc) (px : Px) (f : Word16) (imm : Word16)
  /-- BFXU (R176). Extract an unsigned bit field. -/
  | bfxu (w : Proc) (px : Px) (f : Word16) (imm : Word16)
  /-- BFI (R176). Insert a bit field. -/
  | bfi (w : Proc) (px : Px) (f : Word16) (imm : Word16)
  /-- RTI (R262). Return from an interrupt or trap. -/
  | rti (w : Proc) (px : Px)
  /-- MVSR (R170). Read a system register. -/
  | mvsr (w : Proc) (px : Px) (f8 : Byte) (imm : Word16)
  /-- MTSR (R170). Write a system register. -/
  | mtsr (w : Proc) (px : Px) (f8 : Byte) (imm : Word16)
  /-- WAIT (R170). Hold issue until an unmasked interrupt is pending. -/
  | wait (w : Proc) (px : Px)
  /-- EI (R170). Enable interrupts. -/
  | ei (w : Proc) (px : Px)
  /-- DI (R170). Disable interrupts. -/
  | di (w : Proc) (px : Px)
  /-- SPILL (R172). Spill the oldest window level to the stack. -/
  | spill (w : Proc) (px : Px)
  /-- FILL (R172). Fill a window level back from the stack. -/
  | fill (w : Proc) (px : Px)
  /-- SYNC (R170). Hold issue until earlier crook memory accesses complete. -/
  | sync (w : Proc) (px : Px)
  /-- RST_N_RELEASE (R436). The rise of RST_N after an RST_N reset, or as the later release after power-on, starts the start sequence of R383 at t0. -/
  | rstNRelease
  /-- PWR_GOOD_RELEASE (R436). The rise of PWR_GOOD after a PWR_GOOD reset, or as the later release after power-on, starts the start sequence of R383 at t0. -/
  | pwrGoodRelease
  /-- RETENTION_SUPPLY_LOSS (R428). The retention supply falling takes the device to OFF and loses every retained content. -/
  | retentionSupplyLoss
  /-- ILC_OK_CLEAR (R303). The interleave image estimate rising above −64 dBc clears RF_STAT.ilc_ok while the receive side stays in RUN. -/
  | ilcOkClear (img : Byte)
  /-- BOUNDARY_SCAN (R407). A boundary-scan instruction of IEEE 1149.1 loaded into the TAP instruction register selects the boundary-scan register. -/
  | boundaryScan (ir : Byte)
  /-- CROOK_ACCESS_COMPLETE (R156). The completion of a crook store that held issue, or of every earlier access awaited by sync, resumes crook issue. -/
  | crookAccessComplete
  deriving DecidableEq, Repr

end Sys2Proof
end

