-- ==== Sys2Proof/Decode.lean ====
section
/-! DEFINITION. Decode.lean: the command that a word spells by the bits of spec/opcode_table.json. The table gives no row any bits
(every row's list of fields is empty), so no word spells a command. What the sample engines and the crook read from raw bytes
(R98 to R109) is in Machine/Legal.lean. -/

namespace Sys2Proof

/-- The command that `nbits` bits `w` spell by the opcode table: none, since no row has bits. -/
def decodeTableWord (_nbits _w : Nat) : Option Instr := none

end Sys2Proof
end

