-- ==== Sys2Proof/Config.lean ====
section
/-! DEFINITION. Config.lean: what the spec leaves open. Every constant here is opaque: no proof can see a value of it, so a claim
holds whatever it is. -/

namespace Sys2Proof

/-- Free values, one for each count of the state's `free` counter (assumption 3). -/
opaque Config.freeValue : Nat → Nat

/-- Free rationals, by the same counter (assumption 3). -/
opaque Config.freeRat : Nat → Rat

/-- The 32 bits of the TAP's identification register, which the spec does not give (R13, R407). -/
opaque Config.idcode : BitVec 32

/-- A converter's filter (R222, R223): the value at instant 0 of the band-limited signal whose words stand at the given instants, in
periods of their own rate; the ratio of the FSY rate to F is 8.24. The spec bounds its passband and rejection and gives no filter. -/
opaque Config.resample : Nat → List (Rat × BitVec 32) → BitVec 32

/-! ## The positioning baseband (chapter 14) -/

/-- Chip `i` of the primary code, and of the secondary code, of a signal's pilot (true) or data component for a PRN, as the interface
documents of R13 define them: the spec gives no table (R320, assumption 81). True stands for −1. -/
opaque Config.primaryCode : Nat → Bool → Nat → Nat → Bool
opaque Config.secondaryCode : Nat → Bool → Nat → Nat → Bool

/-- Of a signal with two components, whether the acquisition engine correlates against the pilot: the spec does not say (R327). -/
opaque Config.acqPilot : Nat → Bool

/-- The acquisition engine's resampler (R325): the value at instant 0 of the band-limited signal whose samples stand at the given
instants, in root cycles. The spec bounds its passband and gives no filter. -/
opaque Config.acqResample : List (Int × (Int × Int)) → Int × Int

/-- The 16-bit value that a notch filter's output takes: the spec does not say how it is cut (R322). -/
opaque Config.notchOut : Rat → BitVec 16

/-- Fraction bits of the loop states above 32, and of the carrier and the code NCO: the spec gives no width (R335). -/
opaque Config.loopBits : Nat
opaque Config.carrierBits : Nat
opaque Config.codeBits : Nat

/-! The real functions of chapter 14, as the device rounds them (assumption 18). -/

/-- atan2(y, x) / (2π), in turns. -/
opaque Config.atan2 : Rat → Rat → Rat

/-- atan(y / x) / (2π), in turns. -/
opaque Config.atan : Rat → Rat → Rat

/-- The magnitude of a complex number. -/
opaque Config.mag : Int → Int → Rat

/-- 10 × log10(a / b). -/
opaque Config.dB : Rat → Rat → Rat

/-- cos and sin of an angle in turns. -/
opaque Config.cos : Rat → Rat
opaque Config.sin : Rat → Rat

end Sys2Proof
end

