-- ==== Sys2Proof/Machine/Bits.lean ====
section
/-! DEFINITION. Bits.lean: the pseudocode helpers of R11 and the views of a data register of R113 and R131. -/

namespace Sys2Proof.Machine

/-- `div(a, b)`: the quotient rounded towards minus infinity (R11). -/
def fdiv (a b : Int) : Int := Int.fdiv a b

/-- `mod(a, b)` (R11). -/
def fmod (a b : Int) : Int := Int.fmod a b

/-- `sat(x, lo, hi)` (R11). -/
def satInt (x lo hi : Int) : Int := if x < lo then lo else if hi < x then hi else x

/-- x[h:l] of a natural number, as `width` bits from `lo` (R11). -/
def field (x lo width : Nat) : Nat := x / 2 ^ lo % 2 ^ width

/-- Bit `i`. -/
def bitAt (x i : Nat) : Bool := decide (x / 2 ^ i % 2 = 1)

/-- `sext(x, n)` (R11). -/
def sext (x n : Nat) : Int :=
  if x % 2 ^ n < 2 ^ (n - 1) then Int.ofNat (x % 2 ^ n) else Int.ofNat (x % 2 ^ n) - 2 ^ n

/-- The low `n` bits of an integer, as a natural number: `mod(x, 2^n)`. -/
def wrap (x : Int) (n : Nat) : Nat := (x % 2 ^ n).toNat

/-- 0 or 1. -/
def b2n (b : Bool) : Nat := if b then 1 else 0

/-- `xres(v)`: bits 31:0 of v with bit 31 copied into the guard bits (R131). -/
def xres (v : Nat) : PWord := BitVec.ofInt 40 (sext v 32)

/-- A 32-bit word into a data register (R113). -/
def wordToP (v : Word) : PWord := v.signExtend 40

/-- u(f): bits 31:0 (R131). -/
def pU (v : PWord) : Nat := v.toNat % 2 ^ 32

/-- r(f): the signed 40-bit value (R131). -/
def pR (v : PWord) : Int := v.toInt

end Sys2Proof.Machine
end

