-- ==== Sys2Proof/Machine/EventIds.lean ====
section
/-! DEFINITION. EventIds.lean: the event IDs of R271 with their type, class and LOC kind, and the default dependency tree of R283. -/

namespace Sys2Proof.Machine

/-- One row of the table of R271. -/
structure EvRow where
  id : Nat
  level : Bool
  cls : Nat
  deriving DecidableEq, Repr

/-! The IDs by name. -/
namespace Ev
def SYS_ACCESS_VIOLATION : Nat := 0x0101
def CLK_UNLOCK : Nat := 0x0201
def CLK_AT_LIMIT : Nat := 0x0202
def CLK_SRC_CHANGE : Nat := 0x0203
def CLK_STATE : Nat := 0x0204
def STC_LOAD_REFUSED : Nat := 0x0205
def TMARK_WILD : Nat := 0x0206
def FOLD_ERR : Nat := 0x0301
def FOLD_DONE : Nat := 0x0302
def SE_OVERRUN : Nat := 0x0401
def SE_ENGINE_FAULT : Nat := 0x0402
def SE_RELAY_CLASH : Nat := 0x0403
def SE_TWIN_MISMATCH : Nat := 0x0404
def SE_ENGINE_UNUSABLE : Nat := 0x0405
def SE_ROT_STOP : Nat := 0x0406
def PAS_ECC_CORR : Nat := 0x0501
def PAS_ECC_UNCORR : Nat := 0x0502
def PAS_SLOT_MISS : Nat := 0x0503
def PAS_BANK_UNUSABLE : Nat := 0x0504
def PAS_ROT_STOP : Nat := 0x0505
def CO_COMMIT_DONE : Nat := 0x0601
def CO_REFUSED : Nat := 0x0602
def PRT_FRAMING : Nat := 0x0701
def PRT_CLK_LOSS : Nat := 0x0702
def PRT_UNDERRUN : Nat := 0x0703
def PRT_OVERRUN : Nat := 0x0704
def PRT_ASRC_LOCK : Nat := 0x0705
def PRT_REFUSED : Nat := 0x0706
def PRT_ALIGN_LOST : Nat := 0x0707
def DMA_DESC_IRQ : Nat := 0x0801
def DMA_MISMATCH : Nat := 0x0802
def DMA_CHAIN_END : Nat := 0x0803
def DMA_PAUSED : Nat := 0x0804
def DMA_ERROR : Nat := 0x0805
def DMA_DDR_FAIL : Nat := 0x0806
def CRK_DOUBLE_FAULT : Nat := 0x0901
def CRK_WDT_WARN : Nat := 0x0902
def GUARD_PEAK : Nat := 0x0a01
def GUARD_THERMAL : Nat := 0x0a02
def GUARD_DC : Nat := 0x0a03
def RF_ADC_OVERLOAD : Nat := 0x0b01
def RF_SYNTH_UNLOCK : Nat := 0x0b02
def TX_LATE : Nat := 0x0b03
def RF_PWR_CLAMP : Nat := 0x0b04
def RF_AIRTIME : Nat := 0x0b05
def RF_CAL_DONE : Nat := 0x0b06
def RF_WAKE : Nat := 0x0b07
def GN_LOCK_LOST : Nat := 0x0c01
def GN_ACQ_DONE : Nat := 0x0c02
def GN_EPOCH : Nat := 0x0c03
def LNK_BEACON_LOST : Nat := 0x0d01
def LNK_PEER_BW_MISSING : Nat := 0x0d02
def LNK_NODE_LOST : Nat := 0x0d03
def LNK_TT_FAIL : Nat := 0x0d04
def LNK_PKT_LOST : Nat := 0x0d05
def LNK_STRAY : Nat := 0x0d06
def LNK_HOP : Nat := 0x0d07
def SHP_MBOX : Nat := 0x0e01
def SHP_SECURITY : Nat := 0x0e02
def BST_FAIL : Nat := 0x0f01
def BST_DONE : Nat := 0x0f02
def PWR_DONE : Nat := 0x1001
def PWR_OVERTEMP : Nat := 0x1002
end Ev

/-- The table of R271; exactly these IDs are defined. -/
def evTable : List EvRow := [
  ⟨Ev.SYS_ACCESS_VIOLATION, false, 2⟩,
  ⟨Ev.CLK_UNLOCK, true, 2⟩,
  ⟨Ev.CLK_AT_LIMIT, true, 1⟩,
  ⟨Ev.CLK_SRC_CHANGE, false, 0⟩,
  ⟨Ev.CLK_STATE, false, 0⟩,
  ⟨Ev.STC_LOAD_REFUSED, false, 1⟩,
  ⟨Ev.TMARK_WILD, false, 1⟩,
  ⟨Ev.FOLD_ERR, false, 2⟩,
  ⟨Ev.FOLD_DONE, false, 0⟩,
  ⟨Ev.SE_OVERRUN, false, 2⟩,
  ⟨Ev.SE_ENGINE_FAULT, false, 2⟩,
  ⟨Ev.SE_RELAY_CLASH, false, 2⟩,
  ⟨Ev.SE_TWIN_MISMATCH, false, 2⟩,
  ⟨Ev.SE_ENGINE_UNUSABLE, false, 2⟩,
  ⟨Ev.SE_ROT_STOP, false, 1⟩,
  ⟨Ev.PAS_ECC_CORR, false, 0⟩,
  ⟨Ev.PAS_ECC_UNCORR, false, 2⟩,
  ⟨Ev.PAS_SLOT_MISS, false, 2⟩,
  ⟨Ev.PAS_BANK_UNUSABLE, false, 2⟩,
  ⟨Ev.PAS_ROT_STOP, false, 1⟩,
  ⟨Ev.CO_COMMIT_DONE, false, 0⟩,
  ⟨Ev.CO_REFUSED, false, 1⟩,
  ⟨Ev.PRT_FRAMING, false, 1⟩,
  ⟨Ev.PRT_CLK_LOSS, true, 2⟩,
  ⟨Ev.PRT_UNDERRUN, false, 1⟩,
  ⟨Ev.PRT_OVERRUN, false, 1⟩,
  ⟨Ev.PRT_ASRC_LOCK, false, 0⟩,
  ⟨Ev.PRT_REFUSED, false, 1⟩,
  ⟨Ev.PRT_ALIGN_LOST, false, 1⟩,
  ⟨Ev.DMA_DESC_IRQ, false, 0⟩,
  ⟨Ev.DMA_MISMATCH, false, 0⟩,
  ⟨Ev.DMA_CHAIN_END, false, 0⟩,
  ⟨Ev.DMA_PAUSED, false, 0⟩,
  ⟨Ev.DMA_ERROR, false, 2⟩,
  ⟨Ev.DMA_DDR_FAIL, false, 2⟩,
  ⟨Ev.CRK_DOUBLE_FAULT, false, 2⟩,
  ⟨Ev.CRK_WDT_WARN, false, 2⟩,
  ⟨Ev.GUARD_PEAK, false, 3⟩,
  ⟨Ev.GUARD_THERMAL, true, 3⟩,
  ⟨Ev.GUARD_DC, true, 3⟩,
  ⟨Ev.RF_ADC_OVERLOAD, true, 2⟩,
  ⟨Ev.RF_SYNTH_UNLOCK, true, 2⟩,
  ⟨Ev.TX_LATE, false, 1⟩,
  ⟨Ev.RF_PWR_CLAMP, false, 3⟩,
  ⟨Ev.RF_AIRTIME, true, 3⟩,
  ⟨Ev.RF_CAL_DONE, false, 0⟩,
  ⟨Ev.RF_WAKE, false, 0⟩,
  ⟨Ev.GN_LOCK_LOST, false, 1⟩,
  ⟨Ev.GN_ACQ_DONE, false, 0⟩,
  ⟨Ev.GN_EPOCH, false, 0⟩,
  ⟨Ev.LNK_BEACON_LOST, true, 2⟩,
  ⟨Ev.LNK_PEER_BW_MISSING, false, 1⟩,
  ⟨Ev.LNK_NODE_LOST, false, 1⟩,
  ⟨Ev.LNK_TT_FAIL, false, 1⟩,
  ⟨Ev.LNK_PKT_LOST, false, 1⟩,
  ⟨Ev.LNK_STRAY, false, 0⟩,
  ⟨Ev.LNK_HOP, false, 0⟩,
  ⟨Ev.SHP_MBOX, false, 0⟩,
  ⟨Ev.SHP_SECURITY, false, 2⟩,
  ⟨Ev.BST_FAIL, false, 2⟩,
  ⟨Ev.BST_DONE, false, 0⟩,
  ⟨Ev.PWR_DONE, false, 0⟩,
  ⟨Ev.PWR_OVERTEMP, true, 2⟩]

/-- The default tree of R283: (child, parent). -/
def defaultTree : List (Nat × Nat) := [
  (Ev.CLK_STATE, Ev.CLK_UNLOCK),
  (Ev.CLK_SRC_CHANGE, Ev.CLK_UNLOCK),
  (Ev.TMARK_WILD, Ev.CLK_UNLOCK),
  (Ev.RF_SYNTH_UNLOCK, Ev.CLK_UNLOCK),
  (Ev.PRT_FRAMING, Ev.PRT_CLK_LOSS),
  (Ev.PRT_UNDERRUN, Ev.PRT_CLK_LOSS),
  (Ev.PRT_OVERRUN, Ev.PRT_CLK_LOSS),
  (Ev.PRT_ASRC_LOCK, Ev.PRT_CLK_LOSS),
  (Ev.PRT_ALIGN_LOST, Ev.PRT_CLK_LOSS),
  (Ev.GN_LOCK_LOST, Ev.RF_ADC_OVERLOAD),
  (Ev.LNK_BEACON_LOST, Ev.RF_ADC_OVERLOAD),
  (Ev.LNK_PEER_BW_MISSING, Ev.LNK_BEACON_LOST),
  (Ev.LNK_NODE_LOST, Ev.LNK_BEACON_LOST),
  (Ev.LNK_TT_FAIL, Ev.LNK_BEACON_LOST),
  (Ev.LNK_PKT_LOST, Ev.LNK_BEACON_LOST)]

/-- The row of an ID, none where R271 does not define it. -/
def evRow? (id : Nat) : Option EvRow := evTable.find? fun r => decide (r.id = id)

/-- The class of an ID. -/
def evClass (id : Nat) : Nat :=
  match evRow? id with
  | some r => r.cls
  | none => 0

/-- The route of an ID at reset (R276): `q` = 1, `line` = 0, `hgrp` the block code, `h` = 1 for classes 2 and 3. -/
def evRouteReset (id : Nat) : BitVec 32 :=
  match evRow? id with
  | some r => BitVec.ofNat 32 (id / 256 * 2048 + (if 2 ≤ r.cls then 1024 else 0) + 512)
  | none => 0

end Sys2Proof.Machine
end

