-- ==== Sys2Proof/Machine/KMap.lean ====
section
/-! DEFINITION. KMap.lean: the one representation of sparse data by key: memories, register files, unit arrays.
A list of (key, value) pairs with strictly rising keys and no entry equal to what an unlisted key reads as, so that
equal contents are equal data. -/

namespace Sys2Proof.Machine

/-- Sparse data by key. What an unlisted key reads as is an argument of every operation. -/
abbrev KMap (α : Type) := List (Nat × α)

/-- The value at `k`; `d` where `k` is not listed. -/
def KMap.get {α : Type} (d : α) (k : Nat) : KMap α → α
  | [] => d
  | (j, v) :: m => if j = k then v else KMap.get d k m

/-- The list without its entries at `k`. -/
def KMap.erase {α : Type} (k : Nat) : KMap α → KMap α
  | [] => []
  | (j, v) :: m => if j = k then KMap.erase k m else (j, v) :: KMap.erase k m

/-- Put `(k, v)` before the first larger key. -/
def KMap.insert {α : Type} (k : Nat) (v : α) : KMap α → KMap α
  | [] => [(k, v)]
  | (j, w) :: m => if k < j then (k, v) :: (j, w) :: m else (j, w) :: KMap.insert k v m

/-- Write `v` at `k`; writing what an unlisted key reads as (`d`) removes the entry. -/
def KMap.set {α : Type} [DecidableEq α] (d : α) (k : Nat) (v : α) (m : KMap α) : KMap α :=
  if v = d then KMap.erase k m else KMap.insert k v (KMap.erase k m)

/-- Rising keys, each above `lo`, and no entry equal to the default of its key. -/
def KMap.wfFrom {α : Type} [DecidableEq α] (dflt : Nat → α) : Option Nat → KMap α → Bool
  | _, [] => true
  | lo, (j, v) :: m =>
    (match lo with
      | none => true
      | some l => decide (l < j)) && decide (v ≠ dflt j) && KMap.wfFrom dflt (some j) m

/-- The canonical form. -/
def KMap.wf {α : Type} [DecidableEq α] (dflt : Nat → α) (m : KMap α) : Bool :=
  KMap.wfFrom dflt none m

/-- Keep the entries whose key satisfies `p`: the rest read as their default again. -/
def KMap.keep {α : Type} (p : Nat → Bool) (m : KMap α) : KMap α :=
  m.filter fun e => p e.1

/-- Replace the entries at `lo` to `lo + n - 1` by `f 0` to `f (n - 1)`. -/
def KMap.refill {α : Type} [DecidableEq α] (d : α) (lo n : Nat) (f : Nat → α) (m : KMap α) : KMap α :=
  (m.filter fun e => decide (e.1 < lo)) ++
    ((List.range n).filterMap fun i => if f i = d then none else some (lo + i, f i)) ++
    (m.filter fun e => decide (lo + n ≤ e.1))

/-! A memory is the same list with bytes: `List Host.Cell`. -/

/-- A byte memory keyed by address. An unlisted byte reads as zero (assumption 2). -/
abbrev Mem := KMap (BitVec 8)

/-- One byte. -/
def Mem.byte (m : Mem) (a : Nat) : BitVec 8 := KMap.get 0 a m

/-- Write one byte. -/
def Mem.setByte (a : Nat) (v : BitVec 8) (m : Mem) : Mem := KMap.set 0 a v m

/-- Little-endian read of `n` bytes (R2). -/
def Mem.read (m : Mem) (a : Nat) : Nat → Nat
  | 0 => 0
  | n + 1 => (m.byte a).toNat + 256 * Mem.read m (a + 1) n

/-- Little-endian write of `n` bytes (R2). -/
def Mem.write (a : Nat) (v : Nat) (m : Mem) : Nat → Mem
  | 0 => m
  | n + 1 => Mem.write (a + 1) (v / 256) (Mem.setByte a (BitVec.ofNat 8 v) m) n

/-- The canonical form of a byte memory. -/
def Mem.wf (m : Mem) : Bool := KMap.wf (fun _ => 0) m

end Sys2Proof.Machine
end

