-- ==== Sys2Proof/Machine/RegNames.lean ====
section
/-! DEFINITION. RegNames.lean: the address of every register and the place of every field, as the register tables of
spec/ chapters 02 to 19 give them (bases: R24). A register of a group takes its unit numbers. Written from those tables. -/

namespace Sys2Proof.Machine

/-- A field of a register: the register's byte address, its lowest bit and its width. -/
structure Fld where
  addr : Nat
  lo : Nat
  width : Nat
  deriving DecidableEq, Repr

/-! Register addresses. -/
namespace R
def CLK_CTRL : Nat := 0x40001000
def CLK_STAT : Nat := 0x40001004
def CLK_STEER : Nat := 0x40001008
def CLK_TARGET : Nat := 0x4000100c
def CLK_MANUAL : Nat := 0x40001010
def CLK_LOOP : Nat := 0x40001014
def CLK_HOLD : Nat := 0x40001018
def CLK_LOCK_THR : Nat := 0x4000101c
def CLK_PERR_SAT : Nat := 0x40001020
def CLK_PERR_LAST : Nat := 0x40001024
def CLK_INTEG : Nat := 0x40001028
def TIME_STC_LO : Nat := 0x40002000
def TIME_STC_HI : Nat := 0x40002004
def TIME_STC_FRAC : Nat := 0x40002008
def TIME_LOAD_LO : Nat := 0x40002010
def TIME_LOAD_HI : Nat := 0x40002014
def TIME_LOAD_CTRL : Nat := 0x40002018
def TIME_TP_CTRL (n : Nat) : Nat := 0x40002020 + 0x20 * n
def TIME_TP_PER_S (n : Nat) : Nat := 0x40002024 + 0x20 * n
def TIME_TP_PER_NS (n : Nat) : Nat := 0x40002028 + 0x20 * n
def TIME_TP_OFS (n : Nat) : Nat := 0x4000202c + 0x20 * n
def TIME_TP_WIDTH (n : Nat) : Nat := 0x40002030 + 0x20 * n
def TIME_TP_DLY (n : Nat) : Nat := 0x40002034 + 0x20 * n
def TIME_TMARK_CTRL : Nat := 0x40002060
def TIME_TMARK_DLY : Nat := 0x40002064
def TIME_TMARK_CAP_LO : Nat := 0x40002068
def TIME_TMARK_CAP_HI : Nat := 0x4000206c
def TIME_TMARK_CAP_FRAC : Nat := 0x40002070
def TIME_TMARK_ERR : Nat := 0x40002074
def FOLD_STAT : Nat := 0x40003000
def FOLD_ERR_OFS : Nat := 0x40003004
def FOLD_ID : Nat := 0x40003008
def FOLD_CTRL : Nat := 0x4000300c
def FOLD_SRC_ADDR : Nat := 0x40003010
def FOLD_SRC_LEN : Nat := 0x40003014
def FOLD_AT_LO : Nat := 0x40003018
def FOLD_AT_HI : Nat := 0x4000301c
def FOLD_ENGINE (n : Nat) : Nat := 0x40003040 + 0x4 * n
def FOLD_BANK (n : Nat) : Nat := 0x400030c0 + 0x4 * n
def SE_CTRL (n : Nat) : Nat := 0x40010000 + 0x1000 * n
def SE_STAT (n : Nat) : Nat := 0x40010004 + 0x1000 * n
def SE_CYC (n : Nat) : Nat := 0x40010008 + 0x1000 * n
def SE_OVR_CNT (n : Nat) : Nat := 0x4001000c + 0x1000 * n
def SE_FAULT (n : Nat) : Nat := 0x40010010 + 0x1000 * n
def SE_FAULT_PC (n : Nat) : Nat := 0x40010014 + 0x1000 * n
def SE_SEED (n : Nat) : Nat := 0x40010018 + 0x1000 * n
def SE_ROT_CTRL : Nat := 0x40010800
def SE_ROT_STAT : Nat := 0x40010804
def SE_ROT_COUNT : Nat := 0x40010808
def SE_TWIN_INFO : Nat := 0x4001080c
def PAS_SCRUB : Nat := 0x40030000
def PAS_ECC_CNT : Nat := 0x40030004
def PAS_ECC_INFO : Nat := 0x40030008
def PAS_UNC_LB_LO : Nat := 0x4003000c
def PAS_UNC_LB_HI : Nat := 0x40030010
def PAS_MISS_CNT : Nat := 0x40030014
def PAS_MISS_INFO : Nat := 0x40030018
def PAS_ROT_CTRL : Nat := 0x40030020
def PAS_ROT_STAT : Nat := 0x40030024
def PAS_ROT_PROG : Nat := 0x40030028
def PAS_ROT_COUNT : Nat := 0x4003002c
def PAS_R_STC_LO : Nat := 0x40030030
def PAS_R_STC_HI : Nat := 0x40030034
def PAS_SP (n : Nat) : Nat := 0x40030100 + 0x4 * n
def PAS_PAD_BASE (n : Nat) : Nat := 0x40030200 + 0x8 * n
def PAS_PAD_LEN (n : Nat) : Nat := 0x40030204 + 0x8 * n
def PAS_SCHED (n : Nat) : Nat := 0x40030400 + 0x4 * n
def CO_COMMIT : Nat := 0x40031000
def CO_AT_LO : Nat := 0x40031004
def CO_AT_HI : Nat := 0x40031008
def CO_STAT : Nat := 0x4003100c
def CO_LAND_CNT : Nat := 0x40031010
def CO_GLIDE_SEL : Nat := 0x40031014
def CO_GLIDE_DATA : Nat := 0x40031018
def CO_GLIDE_STEP : Nat := 0x4003101c
def CO_PEND (n : Nat) : Nat := 0x40031020 + 0x4 * n
def CO_GRP_BASE (n : Nat) : Nat := 0x40031400 + 0x8 * n
def CO_GRP_LEN (n : Nat) : Nat := 0x40031404 + 0x8 * n
def PRT_LANE_CTRL (n : Nat) : Nat := 0x40040000 + 0x100 * n
def PRT_LANE_CFG (n : Nat) : Nat := 0x40040004 + 0x100 * n
def PRT_LANE_MASK (n : Nat) : Nat := 0x40040008 + 0x100 * n
def PRT_LANE_STAT (n : Nat) : Nat := 0x4004000c + 0x100 * n
def PRT_LANE_SLIP (n : Nat) : Nat := 0x40040010 + 0x100 * n
def PRT_GRP_CFG (n : Nat) : Nat := 0x40042000 + 0x20 * n
def PRT_GRP_STAT (n : Nat) : Nat := 0x40042004 + 0x20 * n
def PRT_GRP_PHASE (n : Nat) : Nat := 0x40042008 + 0x20 * n
def PRT_GRP_RATIO (n : Nat) : Nat := 0x4004200c + 0x20 * n
def PRT_GRP_FERR (n : Nat) : Nat := 0x40042010 + 0x20 * n
def PRT_GRP_CTRL (n : Nat) : Nat := 0x40042014 + 0x20 * n
def PRT_MCK : Nat := 0x40042100
def PRT_ALIGN_CTRL (n : Nat) : Nat := 0x40042200 + 0x10 * n
def PRT_ALIGN_AT_LO (n : Nat) : Nat := 0x40042204 + 0x10 * n
def PRT_ALIGN_AT_HI (n : Nat) : Nat := 0x40042208 + 0x10 * n
def DMA_TO : Nat := 0x40050000
def DMA_STAT : Nat := 0x40050004
def DMA_DDR_CTRL : Nat := 0x40050010
def DMA_DDR_STAT : Nat := 0x40050014
def DMA_RING_CTRL (n : Nat) : Nat := 0x40051000 + 0x80 * n
def DMA_RING_STAT (n : Nat) : Nat := 0x40051004 + 0x80 * n
def DMA_RING_HEAD (n : Nat) : Nat := 0x40051008 + 0x80 * n
def DMA_RING_CUR (n : Nat) : Nat := 0x4005100c + 0x80 * n
def DMA_RING_SRC (n : Nat) : Nat := 0x40051010 + 0x80 * n
def DMA_RING_DST (n : Nat) : Nat := 0x40051014 + 0x80 * n
def DMA_RING_REM (n : Nat) : Nat := 0x40051018 + 0x80 * n
def DMA_RING_LAST (n : Nat) : Nat := 0x4005101c + 0x80 * n
def DMA_RING_DONE_CNT (n : Nat) : Nat := 0x40051020 + 0x80 * n
def CRK_STAT : Nat := 0x40060000
def CRK_ENTRY : Nat := 0x40060004
def CRK_LAST_CAUSE : Nat := 0x40060008
def CRK_LAST_EPC : Nat := 0x4006000c
def CRK_LAST_FADDR : Nat := 0x40060010
def CRK_WDT_CTRL : Nat := 0x40060020
def CRK_WDT_KICK : Nat := 0x40060024
def CRK_WDT_STAT : Nat := 0x40060028
def CRK_MPU_BASE (n : Nat) : Nat := 0x40060100 + 0x8 * n
def CRK_MPU_LIM (n : Nat) : Nat := 0x40060104 + 0x8 * n
def EVT_STAT : Nat := 0x40070000
def EVT_Q_THR : Nat := 0x40070004
def EVT_Q_DROP : Nat := 0x40070008
def EVT_Q_W0 : Nat := 0x40070010
def EVT_Q_W1 : Nat := 0x40070014
def EVT_Q_W2 : Nat := 0x40070018
def EVT_Q_W3 : Nat := 0x4007001c
def EVT_Q_POP : Nat := 0x40070020
def EVT_SEL : Nat := 0x40070030
def EVT_ROUTE : Nat := 0x40070034
def EVT_TALLY : Nat := 0x40070038
def EVT_INFO : Nat := 0x4007003c
def EVT_LINGER : Nat := 0x40070040
def EVT_LPEND_LO : Nat := 0x40070048
def EVT_LPEND_HI : Nat := 0x4007004c
def EVT_HSUM : Nat := 0x40070050
def EVT_HMASK : Nat := 0x40070054
def GUARD_GATE : Nat := 0x40071000
def GUARD_RADIO_FUSE : Nat := 0x40071010
def GUARD_RADIO_LIM : Nat := 0x40071014
def GUARD_AIR_CNT : Nat := 0x40071018
def GUARD_CH_FUSE (n : Nat) : Nat := 0x40071100 + 0x20 * n
def GUARD_CH_FUSE2 (n : Nat) : Nat := 0x40071104 + 0x20 * n
def GUARD_CH_LIM (n : Nat) : Nat := 0x40071108 + 0x20 * n
def GUARD_CH_CTRL (n : Nat) : Nat := 0x4007110c + 0x20 * n
def GUARD_CH_STAT (n : Nat) : Nat := 0x40071110 + 0x20 * n
def GUARD_CH_HEAT (n : Nat) : Nat := 0x40071114 + 0x20 * n
def GUARD_CH_DCM (n : Nat) : Nat := 0x40071118 + 0x20 * n
def GUARD_CH_PEAK_CNT (n : Nat) : Nat := 0x4007111c + 0x20 * n
def RF_CTRL : Nat := 0x40080000
def RF_STAT : Nat := 0x40080004
def RF_LNA : Nat := 0x40080008
def RF_LNK_RX : Nat := 0x4008000c
def RF_OVL_CNT : Nat := 0x40080010
def RF_ILC_STAT : Nat := 0x40080014
def RF_TX_STAT : Nat := 0x40080020
def RF_TX_LATE_CNT : Nat := 0x40080024
def RF_CAL_REQ : Nat := 0x40080030
def RF_CAL_RES (n : Nat) : Nat := 0x40080040 + 0x4 * n
def RF_MON_CTRL : Nat := 0x40080060
def RF_MON_SEQ : Nat := 0x40080064
def RF_MON_PEAK (n : Nat) : Nat := 0x40080070 + 0x4 * n
def RF_WAKE_CTRL : Nat := 0x40080100
def RF_WAKE_CODE0_LO : Nat := 0x40080104
def RF_WAKE_CODE0_HI : Nat := 0x40080108
def RF_WAKE_STAT : Nat := 0x4008010c
def RF_WAKE_TX_CTRL : Nat := 0x40080110
def RF_WAKE_TX_LO : Nat := 0x40080114
def RF_WAKE_TX_HI : Nat := 0x40080118
def GN_CTRL : Nat := 0x40090000
def GN_EPOCH_SEQ : Nat := 0x40090004
def GN_EPOCH_STC_LO : Nat := 0x40090008
def GN_EPOCH_STC_HI : Nat := 0x4009000c
def GN_EPOCH_STEER : Nat := 0x40090010
def GN_NOTCH_CTRL (n : Nat) : Nat := 0x40090040 + 0x8 * n
def GN_NOTCH_FREQ (n : Nat) : Nat := 0x40090044 + 0x8 * n
def GN_ACQ_CTRL : Nat := 0x40091000
def GN_ACQ_PRM : Nat := 0x40091004
def GN_ACQ_DOP : Nat := 0x40091008
def GN_ACQ_SIG : Nat := 0x4009100c
def GN_ACQ_PRN (n : Nat) : Nat := 0x40091010 + 0x4 * n
def GN_ACQ_THR : Nat := 0x40091020
def GN_ACQ_STAT : Nat := 0x40091024
def GN_ACQ_T0_LO : Nat := 0x40091028
def GN_ACQ_T0_HI : Nat := 0x4009102c
def GN_ACQ_RES_A (n : Nat) : Nat := 0x40091100 + 0x8 * n
def GN_ACQ_RES_B (n : Nat) : Nat := 0x40091104 + 0x8 * n
def GN_CH_CFG (n : Nat) : Nat := 0x400a0000 + 0x100 * n
def GN_CH_SPACE (n : Nat) : Nat := 0x400a0004 + 0x100 * n
def GN_CH_CTRL (n : Nat) : Nat := 0x400a0008 + 0x100 * n
def GN_CH_STAT (n : Nat) : Nat := 0x400a000c + 0x100 * n
def GN_CH_DOP (n : Nat) : Nat := 0x400a0010 + 0x100 * n
def GN_CH_CODE (n : Nat) : Nat := 0x400a0014 + 0x100 * n
def GN_CH_SEC (n : Nat) : Nat := 0x400a0018 + 0x100 * n
def GN_CH_T0 (n : Nat) : Nat := 0x400a001c + 0x100 * n
def GN_CH_LOOP_A (n : Nat) : Nat := 0x400a0020 + 0x100 * n
def GN_CH_LOOP_B (n : Nat) : Nat := 0x400a0024 + 0x100 * n
def GN_CH_LOCK (n : Nat) : Nat := 0x400a0028 + 0x100 * n
def GN_CH_COAST (n : Nat) : Nat := 0x400a002c + 0x100 * n
def GN_CH_MEAS (n i : Nat) : Nat := 0x400a0040 + 0x100 * n + 0x4 * i
def LNK_CTRL : Nat := 0x400b0000
def LNK_STAT : Nat := 0x400b0004
def LNK_DROVE : Nat := 0x400b0008
def LNK_ADDR_LO : Nat := 0x400b000c
def LNK_ADDR_HI : Nat := 0x400b0010
def LNK_MEMBERS : Nat := 0x400b0014
def LNK_BW_OFS_LO : Nat := 0x400b0018
def LNK_BW_OFS_HI : Nat := 0x400b001c
def LNK_TT_ERR : Nat := 0x400b0020
def LNK_TT_DLY : Nat := 0x400b0024
def LNK_TMO : Nat := 0x400b0028
def LNK_LBT : Nat := 0x400b002c
def LNK_HOP : Nat := 0x400b0030
def LNK_AUD : Nat := 0x400b0034
def LNK_TX_STRIDE : Nat := 0x400b0038
def LNK_RX_STRIDE : Nat := 0x400b003c
def LNK_AUD_CNT : Nat := 0x400b0040
def LNK_PROBE : Nat := 0x400b0044
def LNK_PROBE_SF_LO : Nat := 0x400b0048
def LNK_PROBE_SF_HI : Nat := 0x400b004c
def LNK_FOUL (n : Nat) : Nat := 0x400b0060 + 0x4 * n
def LNK_STRAY_CNT : Nat := 0x400b0070
def LNK_STRAY_LOG_W0 (n : Nat) : Nat := 0x400b0100 + 0x10 * n
def LNK_STRAY_LOG_W1 (n : Nat) : Nat := 0x400b0104 + 0x10 * n
def LNK_STRAY_LOG_W2 (n : Nat) : Nat := 0x400b0108 + 0x10 * n
def SHP_STAT : Nat := 0x400c0000
def SHP_BOOT_ERR : Nat := 0x400c0004
def SHP_CTR : Nat := 0x400c0008
def SHP_KEYS : Nat := 0x400c000c
def SHP_HOST_WIN : Nat := 0x400c0010
def SHP_MB_CMD (n : Nat) : Nat := 0x400c0100 + 0x40 * n
def SHP_MB_ARG0 (n : Nat) : Nat := 0x400c0104 + 0x40 * n
def SHP_MB_ARG1 (n : Nat) : Nat := 0x400c0108 + 0x40 * n
def SHP_MB_ARG2 (n : Nat) : Nat := 0x400c010c + 0x40 * n
def SHP_MB_ARG3 (n : Nat) : Nat := 0x400c0110 + 0x40 * n
def SHP_MB_RES0 (n : Nat) : Nat := 0x400c0118 + 0x40 * n
def SHP_MB_RES1 (n : Nat) : Nat := 0x400c011c + 0x40 * n
def SHP_MB_RES2 (n : Nat) : Nat := 0x400c0120 + 0x40 * n
def SHP_MB_RES3 (n : Nat) : Nat := 0x400c0124 + 0x40 * n
def SHP_MB_STAT (n : Nat) : Nat := 0x400c0114 + 0x40 * n
def SHP_MB_DATA : Nat := 0x400c0180
def SHP_MB_SPACE : Nat := 0x400c0184
def SHP_CHAL (n : Nat) : Nat := 0x400c01a0 + 0x4 * n
def SHP_FUSE (n : Nat) : Nat := 0x400c0400 + 0x4 * n
def BST_CTRL : Nat := 0x400d0000
def BST_STAT : Nat := 0x400d0004
def BST_SHUTDOWN : Nat := 0x400d0008
def BST_REQ : Nat := 0x400d000c
def BST_MARK_ENG : Nat := 0x400d0010
def BST_MARK_BANK_LO : Nat := 0x400d0014
def BST_MARK_BANK_HI : Nat := 0x400d0018
def BST_MARK_CLR : Nat := 0x400d001c
def BST_EXP_ENG : Nat := 0x400d0020
def BST_EXP_BANK : Nat := 0x400d0024
def BST_TALLY : Nat := 0x400d0028
def BST_ENG_A (n : Nat) : Nat := 0x400d0100 + 0x8 * n
def BST_ENG_B (n : Nat) : Nat := 0x400d0104 + 0x8 * n
def BST_BANK_A (n : Nat) : Nat := 0x400d0200 + 0x8 * n
def BST_BANK_B (n : Nat) : Nat := 0x400d0204 + 0x8 * n
def PWR_STAT : Nat := 0x400e0000
def PWR_CMD : Nat := 0x400e0004
def PWR_RESET : Nat := 0x400e0008
def PWR_WAKE_TIME : Nat := 0x400e000c
def PWR_TMR : Nat := 0x400e0010
def PWR_ALARM : Nat := 0x400e0014
def PWR_WAKE : Nat := 0x400e0018
def PWR_TEMP : Nat := 0x400e001c
def SYS_ID : Nat := 0x40000000
def SYS_DIE_LO : Nat := 0x40000004
def SYS_DIE_HI : Nat := 0x40000008
def SYS_GPIO_OUT : Nat := 0x40000020
def SYS_GPIO_OE : Nat := 0x40000024
def SYS_GPIO_IN : Nat := 0x40000028
def HIF_CFG : Nat := 0x400f0000
def HIF_STAT : Nat := 0x400f0004
def HIF_IRQ_EN : Nat := 0x400f0008
def HIF_ERR_ADDR : Nat := 0x400f000c
def HIF_STRM_CTRL : Nat := 0x400f0010
def HIF_STRM_BASE : Nat := 0x400f0014
def HIF_STRM_LEN : Nat := 0x400f0018
def HIF_STRM_PTR : Nat := 0x400f001c
def HIF_STRM_CNT : Nat := 0x400f0020
def SYS_FEAT0 : Nat := 0x40000010
def SYS_FEAT1 : Nat := 0x40000014
def SYS_FEAT2 : Nat := 0x40000018
def SYS_FEAT3 : Nat := 0x4000001c
end R

/-! Fields, named REGISTER_field. -/
namespace F
def CLK_CTRL_prio2 : Fld := ⟨R.CLK_CTRL, 8, 2⟩
def CLK_CTRL_prio1 : Fld := ⟨R.CLK_CTRL, 6, 2⟩
def CLK_CTRL_prio0 : Fld := ⟨R.CLK_CTRL, 4, 2⟩
def CLK_CTRL_tmark_en : Fld := ⟨R.CLK_CTRL, 3, 1⟩
def CLK_CTRL_link_en : Fld := ⟨R.CLK_CTRL, 2, 1⟩
def CLK_CTRL_sat_en : Fld := ⟨R.CLK_CTRL, 1, 1⟩
def CLK_CTRL_loop_en : Fld := ⟨R.CLK_CTRL, 0, 1⟩
def CLK_STAT_tmark_valid : Fld := ⟨R.CLK_STAT, 11, 1⟩
def CLK_STAT_link_valid : Fld := ⟨R.CLK_STAT, 10, 1⟩
def CLK_STAT_sat_valid : Fld := ⟨R.CLK_STAT, 9, 1⟩
def CLK_STAT_coarse : Fld := ⟨R.CLK_STAT, 8, 1⟩
def CLK_STAT_slewing : Fld := ⟨R.CLK_STAT, 7, 1⟩
def CLK_STAT_at_limit : Fld := ⟨R.CLK_STAT, 6, 1⟩
def CLK_STAT_src : Fld := ⟨R.CLK_STAT, 4, 2⟩
def CLK_STAT_state : Fld := ⟨R.CLK_STAT, 1, 3⟩
def CLK_STAT_locked : Fld := ⟨R.CLK_STAT, 0, 1⟩
def CLK_STEER_steer : Fld := ⟨R.CLK_STEER, 0, 32⟩
def CLK_TARGET_target : Fld := ⟨R.CLK_TARGET, 0, 32⟩
def CLK_MANUAL_target : Fld := ⟨R.CLK_MANUAL, 0, 32⟩
def CLK_LOOP_kp : Fld := ⟨R.CLK_LOOP, 16, 16⟩
def CLK_LOOP_ki : Fld := ⟨R.CLK_LOOP, 0, 16⟩
def CLK_HOLD_hold_lim : Fld := ⟨R.CLK_HOLD, 16, 16⟩
def CLK_HOLD_link_to : Fld := ⟨R.CLK_HOLD, 8, 8⟩
def CLK_HOLD_sat_to : Fld := ⟨R.CLK_HOLD, 0, 8⟩
def CLK_LOCK_THR_thr : Fld := ⟨R.CLK_LOCK_THR, 0, 16⟩
def CLK_PERR_SAT_e : Fld := ⟨R.CLK_PERR_SAT, 0, 32⟩
def CLK_PERR_LAST_e : Fld := ⟨R.CLK_PERR_LAST, 0, 32⟩
def CLK_INTEG_integ : Fld := ⟨R.CLK_INTEG, 0, 32⟩
def TIME_STC_LO_stc : Fld := ⟨R.TIME_STC_LO, 0, 32⟩
def TIME_STC_HI_stc : Fld := ⟨R.TIME_STC_HI, 0, 32⟩
def TIME_STC_FRAC_frac : Fld := ⟨R.TIME_STC_FRAC, 0, 14⟩
def TIME_LOAD_LO_stc : Fld := ⟨R.TIME_LOAD_LO, 0, 32⟩
def TIME_LOAD_HI_stc : Fld := ⟨R.TIME_LOAD_HI, 0, 32⟩
def TIME_LOAD_CTRL_refused : Fld := ⟨R.TIME_LOAD_CTRL, 17, 1⟩
def TIME_LOAD_CTRL_go : Fld := ⟨R.TIME_LOAD_CTRL, 16, 1⟩
def TIME_LOAD_CTRL_frac : Fld := ⟨R.TIME_LOAD_CTRL, 0, 14⟩
def TIME_TP_CTRL_cfg_err (n : Nat) : Fld := ⟨R.TIME_TP_CTRL n, 4, 1⟩
def TIME_TP_CTRL_apply (n : Nat) : Fld := ⟨R.TIME_TP_CTRL n, 3, 1⟩
def TIME_TP_CTRL_qual (n : Nat) : Fld := ⟨R.TIME_TP_CTRL n, 2, 1⟩
def TIME_TP_CTRL_pol (n : Nat) : Fld := ⟨R.TIME_TP_CTRL n, 1, 1⟩
def TIME_TP_CTRL_en (n : Nat) : Fld := ⟨R.TIME_TP_CTRL n, 0, 1⟩
def TIME_TP_PER_S_per_s (n : Nat) : Fld := ⟨R.TIME_TP_PER_S n, 0, 6⟩
def TIME_TP_PER_NS_per_ns (n : Nat) : Fld := ⟨R.TIME_TP_PER_NS n, 0, 30⟩
def TIME_TP_OFS_ofs (n : Nat) : Fld := ⟨R.TIME_TP_OFS n, 0, 30⟩
def TIME_TP_WIDTH_width (n : Nat) : Fld := ⟨R.TIME_TP_WIDTH n, 0, 30⟩
def TIME_TP_DLY_dly (n : Nat) : Fld := ⟨R.TIME_TP_DLY n, 0, 16⟩
def TIME_TMARK_CTRL_new : Fld := ⟨R.TIME_TMARK_CTRL, 11, 1⟩
def TIME_TMARK_CTRL_stepped : Fld := ⟨R.TIME_TMARK_CTRL, 10, 1⟩
def TIME_TMARK_CTRL_wild : Fld := ⟨R.TIME_TMARK_CTRL, 9, 1⟩
def TIME_TMARK_CTRL_ovr : Fld := ⟨R.TIME_TMARK_CTRL, 8, 1⟩
def TIME_TMARK_CTRL_per_s : Fld := ⟨R.TIME_TMARK_CTRL, 2, 6⟩
def TIME_TMARK_CTRL_edge : Fld := ⟨R.TIME_TMARK_CTRL, 1, 1⟩
def TIME_TMARK_CTRL_en : Fld := ⟨R.TIME_TMARK_CTRL, 0, 1⟩
def TIME_TMARK_DLY_dly : Fld := ⟨R.TIME_TMARK_DLY, 0, 16⟩
def TIME_TMARK_CAP_LO_stc : Fld := ⟨R.TIME_TMARK_CAP_LO, 0, 32⟩
def TIME_TMARK_CAP_HI_stc : Fld := ⟨R.TIME_TMARK_CAP_HI, 0, 32⟩
def TIME_TMARK_CAP_FRAC_frac : Fld := ⟨R.TIME_TMARK_CAP_FRAC, 0, 14⟩
def TIME_TMARK_ERR_e : Fld := ⟨R.TIME_TMARK_ERR, 0, 32⟩
def FOLD_STAT_err : Fld := ⟨R.FOLD_STAT, 16, 8⟩
def FOLD_STAT_sect : Fld := ⟨R.FOLD_STAT, 12, 4⟩
def FOLD_STAT_rate : Fld := ⟨R.FOLD_STAT, 4, 2⟩
def FOLD_STAT_held : Fld := ⟨R.FOLD_STAT, 3, 1⟩
def FOLD_STAT_state : Fld := ⟨R.FOLD_STAT, 1, 2⟩
def FOLD_STAT_loaded : Fld := ⟨R.FOLD_STAT, 0, 1⟩
def FOLD_ERR_OFS_ofs : Fld := ⟨R.FOLD_ERR_OFS, 0, 16⟩
def FOLD_ID_fold_id : Fld := ⟨R.FOLD_ID, 0, 32⟩
def FOLD_CTRL_rej : Fld := ⟨R.FOLD_CTRL, 3, 1⟩
def FOLD_CTRL_at_time : Fld := ⟨R.FOLD_CTRL, 2, 1⟩
def FOLD_CTRL_hold : Fld := ⟨R.FOLD_CTRL, 1, 1⟩
def FOLD_CTRL_go : Fld := ⟨R.FOLD_CTRL, 0, 1⟩
def FOLD_SRC_ADDR_addr : Fld := ⟨R.FOLD_SRC_ADDR, 0, 32⟩
def FOLD_SRC_LEN_len : Fld := ⟨R.FOLD_SRC_LEN, 0, 17⟩
def FOLD_AT_LO_stc : Fld := ⟨R.FOLD_AT_LO, 0, 32⟩
def FOLD_AT_HI_stc : Fld := ⟨R.FOLD_AT_HI, 0, 32⟩
def FOLD_ENGINE_status (n : Nat) : Fld := ⟨R.FOLD_ENGINE n, 14, 2⟩
def FOLD_ENGINE_flock (n : Nat) : Fld := ⟨R.FOLD_ENGINE n, 8, 3⟩
def FOLD_ENGINE_role (n : Nat) : Fld := ⟨R.FOLD_ENGINE n, 0, 5⟩
def FOLD_BANK_status (n : Nat) : Fld := ⟨R.FOLD_BANK n, 14, 2⟩
def FOLD_BANK_logical (n : Nat) : Fld := ⟨R.FOLD_BANK n, 0, 6⟩
def SE_CTRL_clr (n : Nat) : Fld := ⟨R.SE_CTRL n, 4, 1⟩
def SE_CTRL_ovr_stop (n : Nat) : Fld := ⟨R.SE_CTRL n, 3, 1⟩
def SE_CTRL_stop_req (n : Nat) : Fld := ⟨R.SE_CTRL n, 1, 1⟩
def SE_CTRL_run_req (n : Nat) : Fld := ⟨R.SE_CTRL n, 0, 1⟩
def SE_STAT_role (n : Nat) : Fld := ⟨R.SE_STAT n, 16, 5⟩
def SE_STAT_flock (n : Nat) : Fld := ⟨R.SE_STAT n, 12, 3⟩
def SE_STAT_rej (n : Nat) : Fld := ⟨R.SE_STAT n, 7, 1⟩
def SE_STAT_state (n : Nat) : Fld := ⟨R.SE_STAT n, 0, 4⟩
def SE_CYC_max (n : Nat) : Fld := ⟨R.SE_CYC n, 16, 16⟩
def SE_CYC_last (n : Nat) : Fld := ⟨R.SE_CYC n, 0, 16⟩
def SE_OVR_CNT_count (n : Nat) : Fld := ⟨R.SE_OVR_CNT n, 0, 16⟩
def SE_FAULT_store_ref (n : Nat) : Fld := ⟨R.SE_FAULT n, 5, 1⟩
def SE_FAULT_unusable (n : Nat) : Fld := ⟨R.SE_FAULT n, 4, 1⟩
def SE_FAULT_twin (n : Nat) : Fld := ⟨R.SE_FAULT n, 3, 1⟩
def SE_FAULT_relay (n : Nat) : Fld := ⟨R.SE_FAULT n, 2, 1⟩
def SE_FAULT_eng (n : Nat) : Fld := ⟨R.SE_FAULT n, 1, 1⟩
def SE_FAULT_ovr (n : Nat) : Fld := ⟨R.SE_FAULT n, 0, 1⟩
def SE_FAULT_PC_pc (n : Nat) : Fld := ⟨R.SE_FAULT_PC n, 0, 16⟩
def SE_SEED_seed (n : Nat) : Fld := ⟨R.SE_SEED n, 0, 32⟩
def SE_ROT_CTRL_en : Fld := ⟨R.SE_ROT_CTRL, 16, 1⟩
def SE_ROT_CTRL_per : Fld := ⟨R.SE_ROT_CTRL, 0, 16⟩
def SE_ROT_STAT_stopped : Fld := ⟨R.SE_ROT_STAT, 31, 1⟩
def SE_ROT_STAT_role : Fld := ⟨R.SE_ROT_STAT, 24, 5⟩
def SE_ROT_STAT_spare : Fld := ⟨R.SE_ROT_STAT, 16, 5⟩
def SE_ROT_STAT_from : Fld := ⟨R.SE_ROT_STAT, 8, 5⟩
def SE_ROT_STAT_phase : Fld := ⟨R.SE_ROT_STAT, 0, 3⟩
def SE_ROT_COUNT_count : Fld := ⟨R.SE_ROT_COUNT, 0, 32⟩
def SE_TWIN_INFO_kind : Fld := ⟨R.SE_TWIN_INFO, 30, 2⟩
def SE_TWIN_INFO_index : Fld := ⟨R.SE_TWIN_INFO, 16, 8⟩
def SE_TWIN_INFO_cycle : Fld := ⟨R.SE_TWIN_INFO, 0, 16⟩
def PAS_SCRUB_en : Fld := ⟨R.PAS_SCRUB, 16, 1⟩
def PAS_SCRUB_per : Fld := ⟨R.PAS_SCRUB, 0, 8⟩
def PAS_ECC_CNT_uncorr : Fld := ⟨R.PAS_ECC_CNT, 16, 16⟩
def PAS_ECC_CNT_corr : Fld := ⟨R.PAS_ECC_CNT, 0, 16⟩
def PAS_ECC_INFO_src : Fld := ⟨R.PAS_ECC_INFO, 30, 2⟩
def PAS_ECC_INFO_paddock : Fld := ⟨R.PAS_ECC_INFO, 24, 6⟩
def PAS_ECC_INFO_bank : Fld := ⟨R.PAS_ECC_INFO, 18, 6⟩
def PAS_ECC_INFO_word : Fld := ⟨R.PAS_ECC_INFO, 0, 17⟩
def PAS_UNC_LB_LO_lb : Fld := ⟨R.PAS_UNC_LB_LO, 0, 32⟩
def PAS_UNC_LB_HI_lb : Fld := ⟨R.PAS_UNC_LB_HI, 0, 32⟩
def PAS_MISS_CNT_count : Fld := ⟨R.PAS_MISS_CNT, 0, 16⟩
def PAS_MISS_INFO_engine : Fld := ⟨R.PAS_MISS_INFO, 27, 5⟩
def PAS_MISS_INFO_role : Fld := ⟨R.PAS_MISS_INFO, 22, 5⟩
def PAS_MISS_INFO_lbank : Fld := ⟨R.PAS_MISS_INFO, 16, 6⟩
def PAS_MISS_INFO_cycle : Fld := ⟨R.PAS_MISS_INFO, 0, 14⟩
def PAS_ROT_CTRL_en : Fld := ⟨R.PAS_ROT_CTRL, 16, 1⟩
def PAS_ROT_CTRL_per : Fld := ⟨R.PAS_ROT_CTRL, 0, 16⟩
def PAS_ROT_STAT_stopped : Fld := ⟨R.PAS_ROT_STAT, 31, 1⟩
def PAS_ROT_STAT_spare : Fld := ⟨R.PAS_ROT_STAT, 24, 6⟩
def PAS_ROT_STAT_from : Fld := ⟨R.PAS_ROT_STAT, 16, 6⟩
def PAS_ROT_STAT_logical : Fld := ⟨R.PAS_ROT_STAT, 8, 6⟩
def PAS_ROT_STAT_phase : Fld := ⟨R.PAS_ROT_STAT, 0, 2⟩
def PAS_ROT_PROG_rows : Fld := ⟨R.PAS_ROT_PROG, 0, 17⟩
def PAS_ROT_COUNT_count : Fld := ⟨R.PAS_ROT_COUNT, 0, 32⟩
def PAS_R_STC_LO_stc : Fld := ⟨R.PAS_R_STC_LO, 0, 32⟩
def PAS_R_STC_HI_stc : Fld := ⟨R.PAS_R_STC_HI, 0, 32⟩
def PAS_SP_sp (n : Nat) : Fld := ⟨R.PAS_SP n, 0, 23⟩
def PAS_PAD_BASE_owner (n : Nat) : Fld := ⟨R.PAS_PAD_BASE n, 24, 8⟩
def PAS_PAD_BASE_base (n : Nat) : Fld := ⟨R.PAS_PAD_BASE n, 0, 24⟩
def PAS_PAD_LEN_length (n : Nat) : Fld := ⟨R.PAS_PAD_LEN n, 0, 23⟩
def PAS_SCHED_slots (n : Nat) : Fld := ⟨R.PAS_SCHED n, 0, 32⟩
def CO_COMMIT_go : Fld := ⟨R.CO_COMMIT, 16, 1⟩
def CO_COMMIT_at_time : Fld := ⟨R.CO_COMMIT, 8, 1⟩
def CO_COMMIT_grp : Fld := ⟨R.CO_COMMIT, 0, 8⟩
def CO_AT_LO_stc : Fld := ⟨R.CO_AT_LO, 0, 32⟩
def CO_AT_HI_stc : Fld := ⟨R.CO_AT_HI, 0, 32⟩
def CO_STAT_glide_ref : Fld := ⟨R.CO_STAT, 3, 1⟩
def CO_STAT_grp_ref : Fld := ⟨R.CO_STAT, 2, 1⟩
def CO_STAT_at_ref : Fld := ⟨R.CO_STAT, 1, 1⟩
def CO_STAT_dup : Fld := ⟨R.CO_STAT, 0, 1⟩
def CO_LAND_CNT_count : Fld := ⟨R.CO_LAND_CNT, 0, 32⟩
def CO_GLIDE_SEL_ainc : Fld := ⟨R.CO_GLIDE_SEL, 12, 1⟩
def CO_GLIDE_SEL_slot : Fld := ⟨R.CO_GLIDE_SEL, 0, 12⟩
def CO_GLIDE_DATA_busy : Fld := ⟨R.CO_GLIDE_DATA, 31, 1⟩
def CO_GLIDE_DATA_en : Fld := ⟨R.CO_GLIDE_DATA, 30, 1⟩
def CO_GLIDE_DATA_split : Fld := ⟨R.CO_GLIDE_DATA, 29, 1⟩
def CO_GLIDE_DATA_k : Fld := ⟨R.CO_GLIDE_DATA, 17, 4⟩
def CO_GLIDE_DATA_word : Fld := ⟨R.CO_GLIDE_DATA, 0, 17⟩
def CO_GLIDE_STEP_j : Fld := ⟨R.CO_GLIDE_STEP, 0, 16⟩
def CO_PEND_pend (n : Nat) : Fld := ⟨R.CO_PEND n, 0, 32⟩
def CO_GRP_BASE_base (n : Nat) : Fld := ⟨R.CO_GRP_BASE n, 0, 17⟩
def CO_GRP_LEN_len (n : Nat) : Fld := ⟨R.CO_GRP_LEN n, 0, 18⟩
def PRT_LANE_CTRL_lvl (n : Nat) : Fld := ⟨R.PRT_LANE_CTRL n, 8, 6⟩
def PRT_LANE_CTRL_stop (n : Nat) : Fld := ⟨R.PRT_LANE_CTRL n, 1, 1⟩
def PRT_LANE_CTRL_start (n : Nat) : Fld := ⟨R.PRT_LANE_CTRL n, 0, 1⟩
def PRT_LANE_CFG_en (n : Nat) : Fld := ⟨R.PRT_LANE_CFG n, 16, 1⟩
def PRT_LANE_CFG_ring (n : Nat) : Fld := ⟨R.PRT_LANE_CFG n, 8, 5⟩
def PRT_LANE_CFG_src (n : Nat) : Fld := ⟨R.PRT_LANE_CFG n, 5, 1⟩
def PRT_LANE_CFG_dir (n : Nat) : Fld := ⟨R.PRT_LANE_CFG n, 4, 1⟩
def PRT_LANE_CFG_locked (n : Nat) : Fld := ⟨R.PRT_LANE_CFG n, 3, 1⟩
def PRT_LANE_CFG_group (n : Nat) : Fld := ⟨R.PRT_LANE_CFG n, 0, 3⟩
def PRT_LANE_MASK_active (n : Nat) : Fld := ⟨R.PRT_LANE_MASK n, 16, 16⟩
def PRT_LANE_MASK_mask (n : Nat) : Fld := ⟨R.PRT_LANE_MASK n, 0, 16⟩
def PRT_LANE_STAT_shift (n : Nat) : Fld := ⟨R.PRT_LANE_STAT n, 16, 8⟩
def PRT_LANE_STAT_fill (n : Nat) : Fld := ⟨R.PRT_LANE_STAT n, 8, 7⟩
def PRT_LANE_STAT_mask_ref (n : Nat) : Fld := ⟨R.PRT_LANE_STAT n, 5, 1⟩
def PRT_LANE_STAT_ovr (n : Nat) : Fld := ⟨R.PRT_LANE_STAT n, 4, 1⟩
def PRT_LANE_STAT_udr (n : Nat) : Fld := ⟨R.PRT_LANE_STAT n, 3, 1⟩
def PRT_LANE_STAT_waiting (n : Nat) : Fld := ⟨R.PRT_LANE_STAT n, 2, 1⟩
def PRT_LANE_STAT_state (n : Nat) : Fld := ⟨R.PRT_LANE_STAT n, 0, 2⟩
def PRT_LANE_SLIP_ovr_cnt (n : Nat) : Fld := ⟨R.PRT_LANE_SLIP n, 16, 16⟩
def PRT_LANE_SLIP_udr_cnt (n : Nat) : Fld := ⟨R.PRT_LANE_SLIP n, 0, 16⟩
def PRT_GRP_CFG_align (n : Nat) : Fld := ⟨R.PRT_GRP_CFG n, 24, 8⟩
def PRT_GRP_CFG_en (n : Nat) : Fld := ⟨R.PRT_GRP_CFG n, 22, 1⟩
def PRT_GRP_CFG_asrc (n : Nat) : Fld := ⟨R.PRT_GRP_CFG n, 21, 1⟩
def PRT_GRP_CFG_role (n : Nat) : Fld := ⟨R.PRT_GRP_CFG n, 20, 1⟩
def PRT_GRP_CFG_fmt (n : Nat) : Fld := ⟨R.PRT_GRP_CFG n, 18, 2⟩
def PRT_GRP_CFG_width (n : Nat) : Fld := ⟨R.PRT_GRP_CFG n, 8, 8⟩
def PRT_GRP_CFG_slots (n : Nat) : Fld := ⟨R.PRT_GRP_CFG n, 0, 5⟩
def PRT_GRP_STAT_halt_ref (n : Nat) : Fld := ⟨R.PRT_GRP_STAT n, 5, 1⟩
def PRT_GRP_STAT_halted (n : Nat) : Fld := ⟨R.PRT_GRP_STAT n, 4, 1⟩
def PRT_GRP_STAT_clk_loss (n : Nat) : Fld := ⟨R.PRT_GRP_STAT n, 3, 1⟩
def PRT_GRP_STAT_fsy_err (n : Nat) : Fld := ⟨R.PRT_GRP_STAT n, 2, 1⟩
def PRT_GRP_STAT_asrc_lock (n : Nat) : Fld := ⟨R.PRT_GRP_STAT n, 1, 1⟩
def PRT_GRP_STAT_clk_ok (n : Nat) : Fld := ⟨R.PRT_GRP_STAT n, 0, 1⟩
def PRT_GRP_PHASE_phase (n : Nat) : Fld := ⟨R.PRT_GRP_PHASE n, 0, 16⟩
def PRT_GRP_RATIO_ratio (n : Nat) : Fld := ⟨R.PRT_GRP_RATIO n, 0, 32⟩
def PRT_GRP_FERR_count (n : Nat) : Fld := ⟨R.PRT_GRP_FERR n, 0, 16⟩
def PRT_GRP_CTRL_halt (n : Nat) : Fld := ⟨R.PRT_GRP_CTRL n, 0, 1⟩
def PRT_MCK_mck1 : Fld := ⟨R.PRT_MCK, 1, 1⟩
def PRT_MCK_mck0 : Fld := ⟨R.PRT_MCK, 0, 1⟩
def PRT_ALIGN_CTRL_state (n : Nat) : Fld := ⟨R.PRT_ALIGN_CTRL n, 4, 2⟩
def PRT_ALIGN_CTRL_refused (n : Nat) : Fld := ⟨R.PRT_ALIGN_CTRL n, 3, 1⟩
def PRT_ALIGN_CTRL_lost (n : Nat) : Fld := ⟨R.PRT_ALIGN_CTRL n, 2, 1⟩
def PRT_ALIGN_CTRL_stop (n : Nat) : Fld := ⟨R.PRT_ALIGN_CTRL n, 1, 1⟩
def PRT_ALIGN_CTRL_go (n : Nat) : Fld := ⟨R.PRT_ALIGN_CTRL n, 0, 1⟩
def PRT_ALIGN_AT_LO_stc (n : Nat) : Fld := ⟨R.PRT_ALIGN_AT_LO n, 0, 32⟩
def PRT_ALIGN_AT_HI_stc (n : Nat) : Fld := ⟨R.PRT_ALIGN_AT_HI n, 0, 32⟩
def DMA_TO_to : Fld := ⟨R.DMA_TO, 0, 16⟩
def DMA_STAT_quota_sum : Fld := ⟨R.DMA_STAT, 16, 9⟩
def DMA_STAT_buf_used : Fld := ⟨R.DMA_STAT, 7, 9⟩
def DMA_STAT_inflight : Fld := ⟨R.DMA_STAT, 0, 7⟩
def DMA_DDR_CTRL_size : Fld := ⟨R.DMA_DDR_CTRL, 1, 3⟩
def DMA_DDR_CTRL_en : Fld := ⟨R.DMA_DDR_CTRL, 0, 1⟩
def DMA_DDR_STAT_busy : Fld := ⟨R.DMA_DDR_STAT, 2, 1⟩
def DMA_DDR_STAT_fail : Fld := ⟨R.DMA_DDR_STAT, 1, 1⟩
def DMA_DDR_STAT_ready : Fld := ⟨R.DMA_DDR_STAT, 0, 1⟩
def DMA_RING_CTRL_hop_lim (n : Nat) : Fld := ⟨R.DMA_RING_CTRL n, 16, 16⟩
def DMA_RING_CTRL_quota (n : Nat) : Fld := ⟨R.DMA_RING_CTRL n, 8, 8⟩
def DMA_RING_CTRL_prio (n : Nat) : Fld := ⟨R.DMA_RING_CTRL n, 4, 1⟩
def DMA_RING_CTRL_soe (n : Nat) : Fld := ⟨R.DMA_RING_CTRL n, 3, 1⟩
def DMA_RING_CTRL_pause (n : Nat) : Fld := ⟨R.DMA_RING_CTRL n, 2, 1⟩
def DMA_RING_CTRL_abort (n : Nat) : Fld := ⟨R.DMA_RING_CTRL n, 1, 1⟩
def DMA_RING_CTRL_start (n : Nat) : Fld := ⟨R.DMA_RING_CTRL n, 0, 1⟩
def DMA_RING_STAT_hops (n : Nat) : Fld := ⟨R.DMA_RING_STAT n, 16, 16⟩
def DMA_RING_STAT_code (n : Nat) : Fld := ⟨R.DMA_RING_STAT n, 8, 5⟩
def DMA_RING_STAT_fresh (n : Nat) : Fld := ⟨R.DMA_RING_STAT n, 7, 1⟩
def DMA_RING_STAT_mis (n : Nat) : Fld := ⟨R.DMA_RING_STAT n, 6, 1⟩
def DMA_RING_STAT_err (n : Nat) : Fld := ⟨R.DMA_RING_STAT n, 5, 1⟩
def DMA_RING_STAT_rf (n : Nat) : Fld := ⟨R.DMA_RING_STAT n, 4, 1⟩
def DMA_RING_STAT_rej (n : Nat) : Fld := ⟨R.DMA_RING_STAT n, 3, 1⟩
def DMA_RING_STAT_state (n : Nat) : Fld := ⟨R.DMA_RING_STAT n, 0, 3⟩
def DMA_RING_HEAD_addr (n : Nat) : Fld := ⟨R.DMA_RING_HEAD n, 5, 27⟩
def DMA_RING_CUR_addr (n : Nat) : Fld := ⟨R.DMA_RING_CUR n, 0, 32⟩
def DMA_RING_SRC_addr (n : Nat) : Fld := ⟨R.DMA_RING_SRC n, 0, 32⟩
def DMA_RING_DST_addr (n : Nat) : Fld := ⟨R.DMA_RING_DST n, 0, 32⟩
def DMA_RING_REM_rem (n : Nat) : Fld := ⟨R.DMA_RING_REM n, 0, 24⟩
def DMA_RING_LAST_status (n : Nat) : Fld := ⟨R.DMA_RING_LAST n, 0, 32⟩
def DMA_RING_DONE_CNT_count (n : Nat) : Fld := ⟨R.DMA_RING_DONE_CNT n, 0, 32⟩
def CRK_STAT_halted : Fld := ⟨R.CRK_STAT, 8, 1⟩
def CRK_STAT_wd : Fld := ⟨R.CRK_STAT, 4, 4⟩
def CRK_STAT_running : Fld := ⟨R.CRK_STAT, 3, 1⟩
def CRK_STAT_exc : Fld := ⟨R.CRK_STAT, 2, 1⟩
def CRK_STAT_ie : Fld := ⟨R.CRK_STAT, 1, 1⟩
def CRK_STAT_level : Fld := ⟨R.CRK_STAT, 0, 1⟩
def CRK_ENTRY_entry : Fld := ⟨R.CRK_ENTRY, 0, 32⟩
def CRK_LAST_CAUSE_value : Fld := ⟨R.CRK_LAST_CAUSE, 0, 32⟩
def CRK_LAST_EPC_value : Fld := ⟨R.CRK_LAST_EPC, 0, 32⟩
def CRK_LAST_FADDR_value : Fld := ⟨R.CRK_LAST_FADDR, 0, 32⟩
def CRK_WDT_CTRL_en : Fld := ⟨R.CRK_WDT_CTRL, 16, 1⟩
def CRK_WDT_CTRL_per : Fld := ⟨R.CRK_WDT_CTRL, 0, 16⟩
def CRK_WDT_KICK_key : Fld := ⟨R.CRK_WDT_KICK, 0, 32⟩
def CRK_WDT_STAT_stage : Fld := ⟨R.CRK_WDT_STAT, 30, 2⟩
def CRK_WDT_STAT_count : Fld := ⟨R.CRK_WDT_STAT, 0, 30⟩
def CRK_MPU_BASE_en (n : Nat) : Fld := ⟨R.CRK_MPU_BASE n, 31, 1⟩
def CRK_MPU_BASE_p_x (n : Nat) : Fld := ⟨R.CRK_MPU_BASE n, 24, 1⟩
def CRK_MPU_BASE_p_w (n : Nat) : Fld := ⟨R.CRK_MPU_BASE n, 23, 1⟩
def CRK_MPU_BASE_u_x (n : Nat) : Fld := ⟨R.CRK_MPU_BASE n, 22, 1⟩
def CRK_MPU_BASE_u_w (n : Nat) : Fld := ⟨R.CRK_MPU_BASE n, 21, 1⟩
def CRK_MPU_BASE_u_r (n : Nat) : Fld := ⟨R.CRK_MPU_BASE n, 20, 1⟩
def CRK_MPU_BASE_base (n : Nat) : Fld := ⟨R.CRK_MPU_BASE n, 0, 20⟩
def CRK_MPU_LIM_lim (n : Nat) : Fld := ⟨R.CRK_MPU_LIM n, 0, 20⟩
def EVT_STAT_ovf : Fld := ⟨R.EVT_STAT, 16, 1⟩
def EVT_STAT_count : Fld := ⟨R.EVT_STAT, 0, 9⟩
def EVT_Q_THR_thr : Fld := ⟨R.EVT_Q_THR, 0, 9⟩
def EVT_Q_DROP_count : Fld := ⟨R.EVT_Q_DROP, 0, 16⟩
def EVT_Q_W0_word : Fld := ⟨R.EVT_Q_W0, 0, 32⟩
def EVT_Q_W1_word : Fld := ⟨R.EVT_Q_W1, 0, 32⟩
def EVT_Q_W2_word : Fld := ⟨R.EVT_Q_W2, 0, 32⟩
def EVT_Q_W3_word : Fld := ⟨R.EVT_Q_W3, 0, 32⟩
def EVT_Q_POP_pop : Fld := ⟨R.EVT_Q_POP, 0, 1⟩
def EVT_SEL_id : Fld := ⟨R.EVT_SEL, 0, 16⟩
def EVT_ROUTE_hgrp : Fld := ⟨R.EVT_ROUTE, 11, 5⟩
def EVT_ROUTE_h : Fld := ⟨R.EVT_ROUTE, 10, 1⟩
def EVT_ROUTE_q : Fld := ⟨R.EVT_ROUTE, 9, 1⟩
def EVT_ROUTE_line : Fld := ⟨R.EVT_ROUTE, 0, 6⟩
def EVT_TALLY_supp : Fld := ⟨R.EVT_TALLY, 16, 16⟩
def EVT_TALLY_total : Fld := ⟨R.EVT_TALLY, 0, 16⟩
def EVT_INFO_parent : Fld := ⟨R.EVT_INFO, 16, 16⟩
def EVT_INFO_supp : Fld := ⟨R.EVT_INFO, 4, 1⟩
def EVT_INFO_active : Fld := ⟨R.EVT_INFO, 3, 1⟩
def EVT_INFO_level : Fld := ⟨R.EVT_INFO, 2, 1⟩
def EVT_INFO_cls : Fld := ⟨R.EVT_INFO, 0, 2⟩
def EVT_LINGER_ms : Fld := ⟨R.EVT_LINGER, 0, 8⟩
def EVT_LPEND_LO_pend : Fld := ⟨R.EVT_LPEND_LO, 2, 30⟩
def EVT_LPEND_HI_pend : Fld := ⟨R.EVT_LPEND_HI, 0, 32⟩
def EVT_HSUM_sum : Fld := ⟨R.EVT_HSUM, 0, 32⟩
def EVT_HMASK_mask : Fld := ⟨R.EVT_HMASK, 0, 32⟩
def GUARD_GATE_gpio : Fld := ⟨R.GUARD_GATE, 3, 1⟩
def GUARD_GATE_tx : Fld := ⟨R.GUARD_GATE, 2, 1⟩
def GUARD_GATE_cap : Fld := ⟨R.GUARD_GATE, 1, 1⟩
def GUARD_GATE_audio : Fld := ⟨R.GUARD_GATE, 0, 1⟩
def GUARD_RADIO_FUSE_air_max : Fld := ⟨R.GUARD_RADIO_FUSE, 16, 16⟩
def GUARD_RADIO_FUSE_pwr_max : Fld := ⟨R.GUARD_RADIO_FUSE, 0, 6⟩
def GUARD_RADIO_LIM_air : Fld := ⟨R.GUARD_RADIO_LIM, 16, 16⟩
def GUARD_RADIO_LIM_pwr : Fld := ⟨R.GUARD_RADIO_LIM, 0, 6⟩
def GUARD_AIR_CNT_count : Fld := ⟨R.GUARD_AIR_CNT, 0, 16⟩
def GUARD_CH_FUSE_entry (n : Nat) : Fld := ⟨R.GUARD_CH_FUSE n, 0, 32⟩
def GUARD_CH_FUSE2_entry (n : Nat) : Fld := ⟨R.GUARD_CH_FUSE2 n, 0, 32⟩
def GUARD_CH_LIM_hlim (n : Nat) : Fld := ⟨R.GUARD_CH_LIM n, 16, 16⟩
def GUARD_CH_LIM_pk (n : Nat) : Fld := ⟨R.GUARD_CH_LIM n, 0, 16⟩
def GUARD_CH_CTRL_mute (n : Nat) : Fld := ⟨R.GUARD_CH_CTRL n, 8, 1⟩
def GUARD_CH_CTRL_dc (n : Nat) : Fld := ⟨R.GUARD_CH_CTRL n, 0, 6⟩
def GUARD_CH_STAT_lane (n : Nat) : Fld := ⟨R.GUARD_CH_STAT n, 16, 5⟩
def GUARD_CH_STAT_slot (n : Nat) : Fld := ⟨R.GUARD_CH_STAT n, 12, 4⟩
def GUARD_CH_STAT_en (n : Nat) : Fld := ⟨R.GUARD_CH_STAT n, 3, 1⟩
def GUARD_CH_STAT_dc (n : Nat) : Fld := ⟨R.GUARD_CH_STAT n, 2, 1⟩
def GUARD_CH_STAT_trip (n : Nat) : Fld := ⟨R.GUARD_CH_STAT n, 1, 1⟩
def GUARD_CH_STAT_peak (n : Nat) : Fld := ⟨R.GUARD_CH_STAT n, 0, 1⟩
def GUARD_CH_HEAT_value (n : Nat) : Fld := ⟨R.GUARD_CH_HEAT n, 0, 32⟩
def GUARD_CH_DCM_value (n : Nat) : Fld := ⟨R.GUARD_CH_DCM n, 0, 32⟩
def GUARD_CH_PEAK_CNT_count (n : Nat) : Fld := ⟨R.GUARD_CH_PEAK_CNT n, 0, 16⟩
def RF_CTRL_mon_en : Fld := ⟨R.RF_CTRL, 9, 1⟩
def RF_CTRL_ilc_frz : Fld := ⟨R.RF_CTRL, 8, 1⟩
def RF_CTRL_tx_en : Fld := ⟨R.RF_CTRL, 7, 1⟩
def RF_CTRL_ddc_lnk : Fld := ⟨R.RF_CTRL, 6, 1⟩
def RF_CTRL_ddc_l5 : Fld := ⟨R.RF_CTRL, 5, 1⟩
def RF_CTRL_ddc_l1 : Fld := ⟨R.RF_CTRL, 4, 1⟩
def RF_CTRL_lna_b : Fld := ⟨R.RF_CTRL, 3, 1⟩
def RF_CTRL_lna_a : Fld := ⟨R.RF_CTRL, 2, 1⟩
def RF_CTRL_adc_en : Fld := ⟨R.RF_CTRL, 0, 1⟩
def RF_STAT_protect : Fld := ⟨R.RF_STAT, 11, 1⟩
def RF_STAT_synth_lock : Fld := ⟨R.RF_STAT, 10, 1⟩
def RF_STAT_ovl : Fld := ⟨R.RF_STAT, 9, 1⟩
def RF_STAT_ilc_ok : Fld := ⟨R.RF_STAT, 8, 1⟩
def RF_STAT_tx : Fld := ⟨R.RF_STAT, 4, 3⟩
def RF_STAT_rx : Fld := ⟨R.RF_STAT, 0, 2⟩
def RF_LNA_gain_b : Fld := ⟨R.RF_LNA, 4, 4⟩
def RF_LNA_gain_a : Fld := ⟨R.RF_LNA, 0, 4⟩
def RF_LNK_RX_ch : Fld := ⟨R.RF_LNK_RX, 0, 3⟩
def RF_OVL_CNT_count : Fld := ⟨R.RF_OVL_CNT, 0, 16⟩
def RF_ILC_STAT_img : Fld := ⟨R.RF_ILC_STAT, 8, 8⟩
def RF_TX_STAT_late : Fld := ⟨R.RF_TX_STAT, 8, 1⟩
def RF_TX_STAT_cut : Fld := ⟨R.RF_TX_STAT, 7, 1⟩
def RF_TX_STAT_ref_root : Fld := ⟨R.RF_TX_STAT, 6, 1⟩
def RF_TX_STAT_ref_fuse : Fld := ⟨R.RF_TX_STAT, 5, 1⟩
def RF_TX_STAT_ref_gate : Fld := ⟨R.RF_TX_STAT, 4, 1⟩
def RF_TX_STAT_ch : Fld := ⟨R.RF_TX_STAT, 0, 3⟩
def RF_TX_LATE_CNT_count : Fld := ⟨R.RF_TX_LATE_CNT, 0, 16⟩
def RF_CAL_REQ_iq : Fld := ⟨R.RF_CAL_REQ, 1, 1⟩
def RF_CAL_REQ_lo : Fld := ⟨R.RF_CAL_REQ, 0, 1⟩
def RF_CAL_RES_valid (n : Nat) : Fld := ⟨R.RF_CAL_RES n, 31, 1⟩
def RF_CAL_RES_lo_res (n : Nat) : Fld := ⟨R.RF_CAL_RES n, 16, 8⟩
def RF_CAL_RES_img_res (n : Nat) : Fld := ⟨R.RF_CAL_RES n, 8, 8⟩
def RF_MON_CTRL_thr : Fld := ⟨R.RF_MON_CTRL, 8, 8⟩
def RF_MON_SEQ_count : Fld := ⟨R.RF_MON_SEQ, 0, 32⟩
def RF_MON_PEAK_valid (n : Nat) : Fld := ⟨R.RF_MON_PEAK n, 31, 1⟩
def RF_MON_PEAK_bin (n : Nat) : Fld := ⟨R.RF_MON_PEAK n, 16, 11⟩
def RF_MON_PEAK_lvl (n : Nat) : Fld := ⟨R.RF_MON_PEAK n, 0, 8⟩
def RF_WAKE_CTRL_tol : Fld := ⟨R.RF_WAKE_CTRL, 4, 2⟩
def RF_WAKE_CTRL_en1 : Fld := ⟨R.RF_WAKE_CTRL, 1, 1⟩
def RF_WAKE_CTRL_en0 : Fld := ⟨R.RF_WAKE_CTRL, 0, 1⟩
def RF_WAKE_CODE0_LO_code : Fld := ⟨R.RF_WAKE_CODE0_LO, 0, 32⟩
def RF_WAKE_CODE0_HI_code : Fld := ⟨R.RF_WAKE_CODE0_HI, 0, 32⟩
def RF_WAKE_STAT_hit1 : Fld := ⟨R.RF_WAKE_STAT, 1, 1⟩
def RF_WAKE_STAT_hit0 : Fld := ⟨R.RF_WAKE_STAT, 0, 1⟩
def RF_WAKE_TX_CTRL_ch : Fld := ⟨R.RF_WAKE_TX_CTRL, 12, 3⟩
def RF_WAKE_TX_CTRL_pwr : Fld := ⟨R.RF_WAKE_TX_CTRL, 6, 6⟩
def RF_WAKE_TX_CTRL_ref : Fld := ⟨R.RF_WAKE_TX_CTRL, 1, 1⟩
def RF_WAKE_TX_CTRL_go : Fld := ⟨R.RF_WAKE_TX_CTRL, 0, 1⟩
def RF_WAKE_TX_LO_code : Fld := ⟨R.RF_WAKE_TX_LO, 0, 32⟩
def RF_WAKE_TX_HI_code : Fld := ⟨R.RF_WAKE_TX_HI, 0, 32⟩
def GN_CTRL_ep_en : Fld := ⟨R.GN_CTRL, 8, 1⟩
def GN_CTRL_rate : Fld := ⟨R.GN_CTRL, 0, 3⟩
def GN_EPOCH_SEQ_value : Fld := ⟨R.GN_EPOCH_SEQ, 0, 32⟩
def GN_EPOCH_STC_LO_value : Fld := ⟨R.GN_EPOCH_STC_LO, 0, 32⟩
def GN_EPOCH_STC_HI_value : Fld := ⟨R.GN_EPOCH_STC_HI, 0, 32⟩
def GN_EPOCH_STEER_value : Fld := ⟨R.GN_EPOCH_STEER, 0, 32⟩
def GN_NOTCH_CTRL_en (n : Nat) : Fld := ⟨R.GN_NOTCH_CTRL n, 31, 1⟩
def GN_NOTCH_CTRL_adapt (n : Nat) : Fld := ⟨R.GN_NOTCH_CTRL n, 30, 1⟩
def GN_NOTCH_CTRL_auto (n : Nat) : Fld := ⟨R.GN_NOTCH_CTRL n, 29, 1⟩
def GN_NOTCH_CTRL_engaged (n : Nat) : Fld := ⟨R.GN_NOTCH_CTRL n, 28, 1⟩
def GN_NOTCH_CTRL_k (n : Nat) : Fld := ⟨R.GN_NOTCH_CTRL n, 20, 4⟩
def GN_NOTCH_CTRL_mu (n : Nat) : Fld := ⟨R.GN_NOTCH_CTRL n, 16, 4⟩
def GN_NOTCH_CTRL_span (n : Nat) : Fld := ⟨R.GN_NOTCH_CTRL n, 0, 8⟩
def GN_NOTCH_FREQ_theta (n : Nat) : Fld := ⟨R.GN_NOTCH_FREQ n, 0, 32⟩
def GN_ACQ_CTRL_pad : Fld := ⟨R.GN_ACQ_CTRL, 8, 5⟩
def GN_ACQ_CTRL_src : Fld := ⟨R.GN_ACQ_CTRL, 4, 2⟩
def GN_ACQ_CTRL_abort : Fld := ⟨R.GN_ACQ_CTRL, 1, 1⟩
def GN_ACQ_CTRL_go : Fld := ⟨R.GN_ACQ_CTRL, 0, 1⟩
def GN_ACQ_PRM_sh : Fld := ⟨R.GN_ACQ_PRM, 24, 4⟩
def GN_ACQ_PRM_nb : Fld := ⟨R.GN_ACQ_PRM, 16, 7⟩
def GN_ACQ_PRM_nn : Fld := ⟨R.GN_ACQ_PRM, 8, 7⟩
def GN_ACQ_PRM_tc : Fld := ⟨R.GN_ACQ_PRM, 0, 4⟩
def GN_ACQ_DOP_step : Fld := ⟨R.GN_ACQ_DOP, 16, 16⟩
def GN_ACQ_DOP_ctr : Fld := ⟨R.GN_ACQ_DOP, 0, 16⟩
def GN_ACQ_SIG_cnt : Fld := ⟨R.GN_ACQ_SIG, 8, 5⟩
def GN_ACQ_SIG_sig : Fld := ⟨R.GN_ACQ_SIG, 0, 4⟩
def GN_ACQ_PRN_prn (n : Nat) : Fld := ⟨R.GN_ACQ_PRN n, 0, 32⟩
def GN_ACQ_THR_thr : Fld := ⟨R.GN_ACQ_THR, 0, 16⟩
def GN_ACQ_STAT_ovl : Fld := ⟨R.GN_ACQ_STAT, 6, 1⟩
def GN_ACQ_STAT_ovf : Fld := ⟨R.GN_ACQ_STAT, 5, 1⟩
def GN_ACQ_STAT_ref : Fld := ⟨R.GN_ACQ_STAT, 4, 1⟩
def GN_ACQ_STAT_state : Fld := ⟨R.GN_ACQ_STAT, 0, 2⟩
def GN_ACQ_T0_LO_stc : Fld := ⟨R.GN_ACQ_T0_LO, 0, 32⟩
def GN_ACQ_T0_HI_stc : Fld := ⟨R.GN_ACQ_T0_HI, 0, 32⟩
def GN_ACQ_RES_A_valid (n : Nat) : Fld := ⟨R.GN_ACQ_RES_A n, 31, 1⟩
def GN_ACQ_RES_A_det (n : Nat) : Fld := ⟨R.GN_ACQ_RES_A n, 30, 1⟩
def GN_ACQ_RES_A_bin (n : Nat) : Fld := ⟨R.GN_ACQ_RES_A n, 16, 6⟩
def GN_ACQ_RES_A_sample (n : Nat) : Fld := ⟨R.GN_ACQ_RES_A n, 0, 14⟩
def GN_ACQ_RES_B_metric (n : Nat) : Fld := ⟨R.GN_ACQ_RES_B n, 16, 16⟩
def GN_CH_CFG_prn (n : Nat) : Fld := ⟨R.GN_CH_CFG n, 24, 8⟩
def GN_CH_CFG_sig (n : Nat) : Fld := ⟨R.GN_CH_CFG n, 20, 4⟩
def GN_CH_CFG_comp (n : Nat) : Fld := ⟨R.GN_CH_CFG n, 18, 2⟩
def GN_CH_CFG_sec (n : Nat) : Fld := ⟨R.GN_CH_CFG n, 17, 1⟩
def GN_CH_CFG_pll (n : Nat) : Fld := ⟨R.GN_CH_CFG n, 16, 1⟩
def GN_CH_CFG_acc (n : Nat) : Fld := ⟨R.GN_CH_CFG n, 11, 5⟩
def GN_CH_CFG_aph (n : Nat) : Fld := ⟨R.GN_CH_CFG n, 6, 5⟩
def GN_CH_SPACE_vsp (n : Nat) : Fld := ⟨R.GN_CH_SPACE n, 8, 5⟩
def GN_CH_SPACE_sp (n : Nat) : Fld := ⟨R.GN_CH_SPACE n, 0, 5⟩
def GN_CH_CTRL_hold (n : Nat) : Fld := ⟨R.GN_CH_CTRL n, 2, 1⟩
def GN_CH_CTRL_stop (n : Nat) : Fld := ⟨R.GN_CH_CTRL n, 1, 1⟩
def GN_CH_CTRL_start (n : Nat) : Fld := ⟨R.GN_CH_CTRL n, 0, 1⟩
def GN_CH_STAT_gap (n : Nat) : Fld := ⟨R.GN_CH_STAT n, 7, 1⟩
def GN_CH_STAT_fail (n : Nat) : Fld := ⟨R.GN_CH_STAT n, 6, 1⟩
def GN_CH_STAT_lost (n : Nat) : Fld := ⟨R.GN_CH_STAT n, 5, 1⟩
def GN_CH_STAT_rej (n : Nat) : Fld := ⟨R.GN_CH_STAT n, 4, 1⟩
def GN_CH_STAT_state (n : Nat) : Fld := ⟨R.GN_CH_STAT n, 0, 2⟩
def GN_CH_DOP_dop (n : Nat) : Fld := ⟨R.GN_CH_DOP n, 0, 32⟩
def GN_CH_CODE_code (n : Nat) : Fld := ⟨R.GN_CH_CODE n, 0, 32⟩
def GN_CH_SEC_sec (n : Nat) : Fld := ⟨R.GN_CH_SEC n, 0, 16⟩
def GN_CH_T0_t0 (n : Nat) : Fld := ⟨R.GN_CH_T0 n, 0, 32⟩
def GN_CH_LOOP_A_kp (n : Nat) : Fld := ⟨R.GN_CH_LOOP_A n, 16, 16⟩
def GN_CH_LOOP_A_kf (n : Nat) : Fld := ⟨R.GN_CH_LOOP_A n, 0, 16⟩
def GN_CH_LOOP_B_kfl (n : Nat) : Fld := ⟨R.GN_CH_LOOP_B n, 16, 16⟩
def GN_CH_LOOP_B_kc (n : Nat) : Fld := ⟨R.GN_CH_LOOP_B n, 0, 16⟩
def GN_CH_LOCK_thr (n : Nat) : Fld := ⟨R.GN_CH_LOCK n, 24, 8⟩
def GN_CH_LOCK_lost_n (n : Nat) : Fld := ⟨R.GN_CH_LOCK n, 16, 8⟩
def GN_CH_LOCK_cn0_min (n : Nat) : Fld := ⟨R.GN_CH_LOCK n, 0, 16⟩
def GN_CH_COAST_coast (n : Nat) : Fld := ⟨R.GN_CH_COAST n, 0, 16⟩
def GN_CH_MEAS_word (n i : Nat) : Fld := ⟨R.GN_CH_MEAS n i, 0, 32⟩
def LNK_CTRL_pwr : Fld := ⟨R.LNK_CTRL, 16, 6⟩
def LNK_CTRL_node : Fld := ⟨R.LNK_CTRL, 8, 5⟩
def LNK_CTRL_aud_tx : Fld := ⟨R.LNK_CTRL, 6, 1⟩
def LNK_CTRL_scan : Fld := ⟨R.LNK_CTRL, 5, 1⟩
def LNK_CTRL_admit : Fld := ⟨R.LNK_CTRL, 4, 1⟩
def LNK_CTRL_join : Fld := ⟨R.LNK_CTRL, 3, 1⟩
def LNK_CTRL_role : Fld := ⟨R.LNK_CTRL, 2, 1⟩
def LNK_CTRL_en : Fld := ⟨R.LNK_CTRL, 0, 1⟩
def LNK_STAT_node : Fld := ⟨R.LNK_STAT, 16, 5⟩
def LNK_STAT_ch : Fld := ⟨R.LNK_STAT, 9, 3⟩
def LNK_STAT_hop_pend : Fld := ⟨R.LNK_STAT, 8, 1⟩
def LNK_STAT_fit : Fld := ⟨R.LNK_STAT, 7, 1⟩
def LNK_STAT_aligned : Fld := ⟨R.LNK_STAT, 6, 1⟩
def LNK_STAT_state : Fld := ⟨R.LNK_STAT, 0, 3⟩
def LNK_DROVE_drove : Fld := ⟨R.LNK_DROVE, 0, 16⟩
def LNK_ADDR_LO_addr : Fld := ⟨R.LNK_ADDR_LO, 0, 32⟩
def LNK_ADDR_HI_addr : Fld := ⟨R.LNK_ADDR_HI, 0, 32⟩
def LNK_MEMBERS_members : Fld := ⟨R.LNK_MEMBERS, 0, 32⟩
def LNK_BW_OFS_LO_d2 : Fld := ⟨R.LNK_BW_OFS_LO, 0, 32⟩
def LNK_BW_OFS_HI_d2 : Fld := ⟨R.LNK_BW_OFS_HI, 0, 32⟩
def LNK_TT_ERR_value : Fld := ⟨R.LNK_TT_ERR, 0, 32⟩
def LNK_TT_DLY_value : Fld := ⟨R.LNK_TT_DLY, 0, 32⟩
def LNK_TMO_lost_n : Fld := ⟨R.LNK_TMO, 16, 8⟩
def LNK_TMO_hold : Fld := ⟨R.LNK_TMO, 8, 8⟩
def LNK_TMO_bl_n : Fld := ⟨R.LNK_TMO, 0, 8⟩
def LNK_LBT_stray_thr : Fld := ⟨R.LNK_LBT, 24, 8⟩
def LNK_LBT_thr : Fld := ⟨R.LNK_LBT, 16, 8⟩
def LNK_LBT_cwmax : Fld := ⟨R.LNK_LBT, 8, 3⟩
def LNK_LBT_cwmin : Fld := ⟨R.LNK_LBT, 0, 3⟩
def LNK_HOP_lead : Fld := ⟨R.LNK_HOP, 16, 8⟩
def LNK_HOP_ch : Fld := ⟨R.LNK_HOP, 8, 3⟩
def LNK_HOP_go : Fld := ⟨R.LNK_HOP, 0, 1⟩
def LNK_AUD_grp : Fld := ⟨R.LNK_AUD, 12, 4⟩
def LNK_AUD_w : Fld := ⟨R.LNK_AUD, 8, 1⟩
def LNK_AUD_ch : Fld := ⟨R.LNK_AUD, 0, 5⟩
def LNK_TX_STRIDE_stride : Fld := ⟨R.LNK_TX_STRIDE, 0, 23⟩
def LNK_RX_STRIDE_stride : Fld := ⟨R.LNK_RX_STRIDE, 0, 23⟩
def LNK_AUD_CNT_rec : Fld := ⟨R.LNK_AUD_CNT, 16, 16⟩
def LNK_AUD_CNT_lost : Fld := ⟨R.LNK_AUD_CNT, 0, 16⟩
def LNK_PROBE_valid : Fld := ⟨R.LNK_PROBE, 31, 1⟩
def LNK_PROBE_node : Fld := ⟨R.LNK_PROBE, 0, 5⟩
def LNK_PROBE_SF_LO_sfn : Fld := ⟨R.LNK_PROBE_SF_LO, 0, 32⟩
def LNK_PROBE_SF_HI_sfn : Fld := ⟨R.LNK_PROBE_SF_HI, 0, 32⟩
def LNK_FOUL_foul (n : Nat) : Fld := ⟨R.LNK_FOUL n, 0, 32⟩
def LNK_STRAY_CNT_next : Fld := ⟨R.LNK_STRAY_CNT, 16, 4⟩
def LNK_STRAY_CNT_count : Fld := ⟨R.LNK_STRAY_CNT, 0, 16⟩
def LNK_STRAY_LOG_W0_stc (n : Nat) : Fld := ⟨R.LNK_STRAY_LOG_W0 n, 0, 32⟩
def LNK_STRAY_LOG_W1_kind (n : Nat) : Fld := ⟨R.LNK_STRAY_LOG_W1 n, 24, 1⟩
def LNK_STRAY_LOG_W1_level (n : Nat) : Fld := ⟨R.LNK_STRAY_LOG_W1 n, 16, 8⟩
def LNK_STRAY_LOG_W1_units (n : Nat) : Fld := ⟨R.LNK_STRAY_LOG_W1 n, 0, 16⟩
def LNK_STRAY_LOG_W2_drove (n : Nat) : Fld := ⟨R.LNK_STRAY_LOG_W2 n, 0, 16⟩
def SHP_STAT_phase : Fld := ⟨R.SHP_STAT, 20, 3⟩
def SHP_STAT_dbg_unl : Fld := ⟨R.SHP_STAT, 19, 1⟩
def SHP_STAT_wake_miss : Fld := ⟨R.SHP_STAT, 18, 1⟩
def SHP_STAT_early : Fld := ⟨R.SHP_STAT, 17, 1⟩
def SHP_STAT_lc_pend : Fld := ⟨R.SHP_STAT, 16, 1⟩
def SHP_STAT_repaired : Fld := ⟨R.SHP_STAT, 8, 8⟩
def SHP_STAT_slot : Fld := ⟨R.SHP_STAT, 4, 2⟩
def SHP_STAT_lc : Fld := ⟨R.SHP_STAT, 0, 2⟩
def SHP_BOOT_ERR_last : Fld := ⟨R.SHP_BOOT_ERR, 24, 8⟩
def SHP_BOOT_ERR_host : Fld := ⟨R.SHP_BOOT_ERR, 16, 8⟩
def SHP_BOOT_ERR_slot_b : Fld := ⟨R.SHP_BOOT_ERR, 8, 8⟩
def SHP_BOOT_ERR_slot_a : Fld := ⟨R.SHP_BOOT_ERR, 0, 8⟩
def SHP_CTR_key : Fld := ⟨R.SHP_CTR, 28, 2⟩
def SHP_CTR_ver : Fld := ⟨R.SHP_CTR, 16, 9⟩
def SHP_CTR_ctr : Fld := ⟨R.SHP_CTR, 0, 9⟩
def SHP_KEYS_revoked : Fld := ⟨R.SHP_KEYS, 4, 4⟩
def SHP_KEYS_prog : Fld := ⟨R.SHP_KEYS, 0, 4⟩
def SHP_HOST_WIN_en : Fld := ⟨R.SHP_HOST_WIN, 31, 1⟩
def SHP_HOST_WIN_lim : Fld := ⟨R.SHP_HOST_WIN, 8, 8⟩
def SHP_HOST_WIN_base : Fld := ⟨R.SHP_HOST_WIN, 0, 8⟩
def SHP_MB_CMD_code (n : Nat) : Fld := ⟨R.SHP_MB_CMD n, 0, 8⟩
def SHP_MB_ARG0_value (n : Nat) : Fld := ⟨R.SHP_MB_ARG0 n, 0, 32⟩
def SHP_MB_ARG1_value (n : Nat) : Fld := ⟨R.SHP_MB_ARG1 n, 0, 32⟩
def SHP_MB_ARG2_value (n : Nat) : Fld := ⟨R.SHP_MB_ARG2 n, 0, 32⟩
def SHP_MB_ARG3_value (n : Nat) : Fld := ⟨R.SHP_MB_ARG3 n, 0, 32⟩
def SHP_MB_RES0_value (n : Nat) : Fld := ⟨R.SHP_MB_RES0 n, 0, 32⟩
def SHP_MB_RES1_value (n : Nat) : Fld := ⟨R.SHP_MB_RES1 n, 0, 32⟩
def SHP_MB_RES2_value (n : Nat) : Fld := ⟨R.SHP_MB_RES2 n, 0, 32⟩
def SHP_MB_RES3_value (n : Nat) : Fld := ⟨R.SHP_MB_RES3 n, 0, 32⟩
def SHP_MB_STAT_result (n : Nat) : Fld := ⟨R.SHP_MB_STAT n, 8, 8⟩
def SHP_MB_STAT_rej (n : Nat) : Fld := ⟨R.SHP_MB_STAT n, 2, 1⟩
def SHP_MB_STAT_done (n : Nat) : Fld := ⟨R.SHP_MB_STAT n, 1, 1⟩
def SHP_MB_STAT_busy (n : Nat) : Fld := ⟨R.SHP_MB_STAT n, 0, 1⟩
def SHP_MB_DATA_data : Fld := ⟨R.SHP_MB_DATA, 0, 32⟩
def SHP_MB_SPACE_space : Fld := ⟨R.SHP_MB_SPACE, 0, 7⟩
def SHP_CHAL_bytes (n : Nat) : Fld := ⟨R.SHP_CHAL n, 0, 32⟩
def SHP_FUSE_row (n : Nat) : Fld := ⟨R.SHP_FUSE n, 0, 32⟩
def BST_CTRL_idle_en : Fld := ⟨R.BST_CTRL, 0, 1⟩
def BST_STAT_shut : Fld := ⟨R.BST_STAT, 16, 2⟩
def BST_STAT_skipped : Fld := ⟨R.BST_STAT, 9, 1⟩
def BST_STAT_rec_valid : Fld := ⟨R.BST_STAT, 8, 1⟩
def BST_STAT_start_fails : Fld := ⟨R.BST_STAT, 0, 8⟩
def BST_SHUTDOWN_ref : Fld := ⟨R.BST_SHUTDOWN, 1, 1⟩
def BST_SHUTDOWN_go : Fld := ⟨R.BST_SHUTDOWN, 0, 1⟩
def BST_REQ_ref : Fld := ⟨R.BST_REQ, 17, 1⟩
def BST_REQ_go : Fld := ⟨R.BST_REQ, 16, 1⟩
def BST_REQ_bank : Fld := ⟨R.BST_REQ, 8, 1⟩
def BST_REQ_unit : Fld := ⟨R.BST_REQ, 0, 6⟩
def BST_MARK_ENG_marks : Fld := ⟨R.BST_MARK_ENG, 0, 32⟩
def BST_MARK_BANK_LO_marks : Fld := ⟨R.BST_MARK_BANK_LO, 0, 32⟩
def BST_MARK_BANK_HI_marks : Fld := ⟨R.BST_MARK_BANK_HI, 0, 32⟩
def BST_MARK_CLR_key : Fld := ⟨R.BST_MARK_CLR, 0, 32⟩
def BST_EXP_ENG_sig : Fld := ⟨R.BST_EXP_ENG, 0, 32⟩
def BST_EXP_BANK_sig : Fld := ⟨R.BST_EXP_BANK, 0, 32⟩
def BST_TALLY_fail : Fld := ⟨R.BST_TALLY, 16, 16⟩
def BST_TALLY_pass : Fld := ⟨R.BST_TALLY, 0, 16⟩
def BST_ENG_A_valid (n : Nat) : Fld := ⟨R.BST_ENG_A n, 31, 1⟩
def BST_ENG_A_sig_bad (n : Nat) : Fld := ⟨R.BST_ENG_A n, 30, 1⟩
def BST_ENG_A_cnt_short (n : Nat) : Fld := ⟨R.BST_ENG_A n, 29, 1⟩
def BST_ENG_A_abandoned (n : Nat) : Fld := ⟨R.BST_ENG_A n, 28, 1⟩
def BST_ENG_A_src (n : Nat) : Fld := ⟨R.BST_ENG_A n, 25, 3⟩
def BST_ENG_A_count (n : Nat) : Fld := ⟨R.BST_ENG_A n, 0, 21⟩
def BST_ENG_B_sig (n : Nat) : Fld := ⟨R.BST_ENG_B n, 0, 32⟩
def BST_BANK_A_valid (n : Nat) : Fld := ⟨R.BST_BANK_A n, 31, 1⟩
def BST_BANK_A_sig_bad (n : Nat) : Fld := ⟨R.BST_BANK_A n, 30, 1⟩
def BST_BANK_A_cnt_short (n : Nat) : Fld := ⟨R.BST_BANK_A n, 29, 1⟩
def BST_BANK_A_abandoned (n : Nat) : Fld := ⟨R.BST_BANK_A n, 28, 1⟩
def BST_BANK_A_src (n : Nat) : Fld := ⟨R.BST_BANK_A n, 25, 3⟩
def BST_BANK_A_count (n : Nat) : Fld := ⟨R.BST_BANK_A n, 0, 21⟩
def BST_BANK_B_sig (n : Nat) : Fld := ⟨R.BST_BANK_B n, 0, 32⟩
def PWR_STAT_cause : Fld := ⟨R.PWR_STAT, 12, 4⟩
def PWR_STAT_pg : Fld := ⟨R.PWR_STAT, 7, 1⟩
def PWR_STAT_otemp : Fld := ⟨R.PWR_STAT, 6, 1⟩
def PWR_STAT_ref : Fld := ⟨R.PWR_STAT, 5, 1⟩
def PWR_STAT_state : Fld := ⟨R.PWR_STAT, 0, 3⟩
def PWR_CMD_sleep : Fld := ⟨R.PWR_CMD, 0, 1⟩
def PWR_RESET_key : Fld := ⟨R.PWR_RESET, 0, 32⟩
def PWR_WAKE_TIME_us : Fld := ⟨R.PWR_WAKE_TIME, 0, 16⟩
def PWR_TMR_count : Fld := ⟨R.PWR_TMR, 0, 32⟩
def PWR_ALARM_at : Fld := ⟨R.PWR_ALARM, 0, 32⟩
def PWR_WAKE_alarm_en : Fld := ⟨R.PWR_WAKE, 3, 1⟩
def PWR_WAKE_alarm : Fld := ⟨R.PWR_WAKE, 2, 1⟩
def PWR_WAKE_hit1 : Fld := ⟨R.PWR_WAKE, 1, 1⟩
def PWR_WAKE_hit0 : Fld := ⟨R.PWR_WAKE, 0, 1⟩
def PWR_TEMP_thr : Fld := ⟨R.PWR_TEMP, 24, 8⟩
def PWR_TEMP_temp : Fld := ⟨R.PWR_TEMP, 0, 12⟩
def SYS_ID_part : Fld := ⟨R.SYS_ID, 16, 16⟩
def SYS_ID_rev : Fld := ⟨R.SYS_ID, 8, 8⟩
def SYS_DIE_LO_die : Fld := ⟨R.SYS_DIE_LO, 0, 32⟩
def SYS_DIE_HI_die : Fld := ⟨R.SYS_DIE_HI, 0, 32⟩
def SYS_GPIO_OUT_gp : Fld := ⟨R.SYS_GPIO_OUT, 0, 24⟩
def SYS_GPIO_OE_gp : Fld := ⟨R.SYS_GPIO_OE, 0, 24⟩
def SYS_GPIO_IN_gp : Fld := ⟨R.SYS_GPIO_IN, 0, 24⟩
def HIF_CFG_wmax : Fld := ⟨R.HIF_CFG, 16, 16⟩
def HIF_CFG_pp : Fld := ⟨R.HIF_CFG, 0, 1⟩
def HIF_STAT_free : Fld := ⟨R.HIF_STAT, 8, 7⟩
def HIF_STAT_badcmd : Fld := ⟨R.HIF_STAT, 4, 1⟩
def HIF_STAT_short : Fld := ⟨R.HIF_STAT, 3, 1⟩
def HIF_STAT_tmo : Fld := ⟨R.HIF_STAT, 2, 1⟩
def HIF_STAT_wovf : Fld := ⟨R.HIF_STAT, 1, 1⟩
def HIF_STAT_err : Fld := ⟨R.HIF_STAT, 0, 1⟩
def HIF_IRQ_EN_mbox : Fld := ⟨R.HIF_IRQ_EN, 5, 1⟩
def HIF_IRQ_EN_en : Fld := ⟨R.HIF_IRQ_EN, 0, 5⟩
def HIF_ERR_ADDR_addr : Fld := ⟨R.HIF_ERR_ADDR, 0, 32⟩
def HIF_STRM_CTRL_cfg_err : Fld := ⟨R.HIF_STRM_CTRL, 1, 1⟩
def HIF_STRM_CTRL_en : Fld := ⟨R.HIF_STRM_CTRL, 0, 1⟩
def HIF_STRM_BASE_base : Fld := ⟨R.HIF_STRM_BASE, 2, 30⟩
def HIF_STRM_LEN_len : Fld := ⟨R.HIF_STRM_LEN, 0, 17⟩
def HIF_STRM_PTR_ptr : Fld := ⟨R.HIF_STRM_PTR, 0, 16⟩
def HIF_STRM_CNT_cnt : Fld := ⟨R.HIF_STRM_CNT, 0, 32⟩
def SYS_FEAT0_dslots : Fld := ⟨R.SYS_FEAT0, 24, 4⟩
def SYS_FEAT0_rep_levels : Fld := ⟨R.SYS_FEAT0, 20, 4⟩
def SYS_FEAT0_depth : Fld := ⟨R.SYS_FEAT0, 16, 4⟩
def SYS_FEAT0_loop_buf : Fld := ⟨R.SYS_FEAT0, 8, 8⟩
def SYS_FEAT0_isa_rev : Fld := ⟨R.SYS_FEAT0, 0, 8⟩
def SYS_FEAT1_coef_kw : Fld := ⟨R.SYS_FEAT1, 24, 8⟩
def SYS_FEAT1_regs16 : Fld := ⟨R.SYS_FEAT1, 16, 8⟩
def SYS_FEAT1_scratch_kib : Fld := ⟨R.SYS_FEAT1, 8, 8⟩
def SYS_FEAT1_prog_kib : Fld := ⟨R.SYS_FEAT1, 0, 8⟩
def SYS_FEAT2_grade : Fld := ⟨R.SYS_FEAT2, 8, 1⟩
def SYS_FEAT2_radio_fused : Fld := ⟨R.SYS_FEAT2, 7, 1⟩
def SYS_FEAT2_owner_code : Fld := ⟨R.SYS_FEAT2, 6, 1⟩
def SYS_FEAT2_guard_fused : Fld := ⟨R.SYS_FEAT2, 5, 1⟩
def SYS_FEAT2_ext_size : Fld := ⟨R.SYS_FEAT2, 1, 3⟩
def SYS_FEAT2_ext_mem : Fld := ⟨R.SYS_FEAT2, 0, 1⟩
def SYS_FEAT3_ctx : Fld := ⟨R.SYS_FEAT3, 31, 1⟩
def SYS_FEAT3_role : Fld := ⟨R.SYS_FEAT3, 16, 5⟩
def SYS_FEAT3_flock : Fld := ⟨R.SYS_FEAT3, 12, 3⟩
def SYS_FEAT3_rate : Fld := ⟨R.SYS_FEAT3, 0, 2⟩
end F

end Sys2Proof.Machine
end

