-- ==== Sys2Proof/Machine/RegTable.lean ====
section
/-! DEFINITION. RegTable.lean: for every register of spec/ chapters 02 to 19 its address, its reset value and, for each
access code of R6, the mask of its bits with that code. Reserved bits stand in no mask (R9). -/

namespace Sys2Proof.Machine

/-- One register of the map, or `n1 * n2` registers of one layout at strides `s1` and `s2`. `rc`, `so`, `w1c`, `w1s` and
`rw` are the bits with that access code (R6); every other bit takes no plain write. -/
structure RegRow where
  base : Nat
  n1 : Nat
  s1 : Nat
  n2 : Nat
  s2 : Nat
  reset : Word
  rw : Word
  w1c : Word
  w1s : Word
  rc : Word
  so : Word
  deriving DecidableEq, Repr

/-- Is `a` an address of the row? -/
def RegRow.has (r : RegRow) (a : Nat) : Bool :=
  decide (r.base ≤ a) &&
    (let d := a - r.base
     let i := if r.s1 = 0 then 0 else min (d / r.s1) (r.n1 - 1)
     let e := d - i * r.s1
     let j := if r.s2 = 0 then 0 else e / r.s2
     decide (i < r.n1) && decide (j < r.n2) && decide (e = j * r.s2))

/-- The registers of page SYS. -/
def rowsSYS : List RegRow := [
  ⟨0x40000000, 1, 0x0, 1, 0x0, 0x7232a100, 0x0, 0x0, 0x0, 0x0, 0x0⟩, /- SYS_ID -/
  ⟨0x40000004, 1, 0x0, 1, 0x0, 0x0, 0x0, 0x0, 0x0, 0x0, 0x0⟩, /- SYS_DIE_LO -/
  ⟨0x40000008, 1, 0x0, 1, 0x0, 0x0, 0x0, 0x0, 0x0, 0x0, 0x0⟩, /- SYS_DIE_HI -/
  ⟨0x40000020, 1, 0x0, 1, 0x0, 0x0, 0xffffff, 0x0, 0x0, 0x0, 0x0⟩, /- SYS_GPIO_OUT -/
  ⟨0x40000024, 1, 0x0, 1, 0x0, 0x0, 0xffffff, 0x0, 0x0, 0x0, 0x0⟩, /- SYS_GPIO_OE -/
  ⟨0x40000028, 1, 0x0, 1, 0x0, 0x0, 0x0, 0x0, 0x0, 0x0, 0x0⟩, /- SYS_GPIO_IN -/
  ⟨0x40000010, 1, 0x0, 1, 0x0, 0x24e2001, 0x0, 0x0, 0x0, 0x0, 0x0⟩, /- SYS_FEAT0 -/
  ⟨0x40000014, 1, 0x0, 1, 0x0, 0x80100430, 0x0, 0x0, 0x0, 0x0, 0x0⟩, /- SYS_FEAT1 -/
  ⟨0x40000018, 1, 0x0, 1, 0x0, 0x0, 0x0, 0x0, 0x0, 0x0, 0x0⟩, /- SYS_FEAT2 -/
  ⟨0x4000001c, 1, 0x0, 1, 0x0, 0x801f0003, 0x0, 0x0, 0x0, 0x0, 0x0⟩ /- SYS_FEAT3 -/
]

/-- The registers of page CLK. -/
def rowsCLK : List RegRow := [
  ⟨0x40001000, 1, 0x0, 1, 0x0, 0x240, 0x3ff, 0x0, 0x0, 0x0, 0x0⟩, /- CLK_CTRL -/
  ⟨0x40001004, 1, 0x0, 1, 0x0, 0x38, 0x0, 0x0, 0x0, 0x0, 0x0⟩, /- CLK_STAT -/
  ⟨0x40001008, 1, 0x0, 1, 0x0, 0x0, 0x0, 0x0, 0x0, 0x0, 0x0⟩, /- CLK_STEER -/
  ⟨0x4000100c, 1, 0x0, 1, 0x0, 0x0, 0x0, 0x0, 0x0, 0x0, 0x0⟩, /- CLK_TARGET -/
  ⟨0x40001010, 1, 0x0, 1, 0x0, 0x0, 0xffffffff, 0x0, 0x0, 0x0, 0x0⟩, /- CLK_MANUAL -/
  ⟨0x40001014, 1, 0x0, 1, 0x0, 0x0, 0xffffffff, 0x0, 0x0, 0x0, 0x0⟩, /- CLK_LOOP -/
  ⟨0x40001018, 1, 0x0, 1, 0x0, 0x3214, 0xffffffff, 0x0, 0x0, 0x0, 0x0⟩, /- CLK_HOLD -/
  ⟨0x4000101c, 1, 0x0, 1, 0x0, 0x320, 0xffff, 0x0, 0x0, 0x0, 0x0⟩, /- CLK_LOCK_THR -/
  ⟨0x40001020, 1, 0x0, 1, 0x0, 0x0, 0x0, 0x0, 0x0, 0x0, 0x0⟩, /- CLK_PERR_SAT -/
  ⟨0x40001024, 1, 0x0, 1, 0x0, 0x0, 0x0, 0x0, 0x0, 0x0, 0x0⟩, /- CLK_PERR_LAST -/
  ⟨0x40001028, 1, 0x0, 1, 0x0, 0x0, 0x0, 0x0, 0x0, 0x0, 0x0⟩ /- CLK_INTEG -/
]

/-- The registers of page TIME. -/
def rowsTIME : List RegRow := [
  ⟨0x40002000, 1, 0x0, 1, 0x0, 0x0, 0x0, 0x0, 0x0, 0x0, 0x0⟩, /- TIME_STC_LO -/
  ⟨0x40002004, 1, 0x0, 1, 0x0, 0x0, 0x0, 0x0, 0x0, 0x0, 0x0⟩, /- TIME_STC_HI -/
  ⟨0x40002008, 1, 0x0, 1, 0x0, 0x0, 0x0, 0x0, 0x0, 0x0, 0x0⟩, /- TIME_STC_FRAC -/
  ⟨0x40002010, 1, 0x0, 1, 0x0, 0x0, 0xffffffff, 0x0, 0x0, 0x0, 0x0⟩, /- TIME_LOAD_LO -/
  ⟨0x40002014, 1, 0x0, 1, 0x0, 0x0, 0xffffffff, 0x0, 0x0, 0x0, 0x0⟩, /- TIME_LOAD_HI -/
  ⟨0x40002018, 1, 0x0, 1, 0x0, 0x0, 0x3fff, 0x20000, 0x10000, 0x0, 0x0⟩, /- TIME_LOAD_CTRL -/
  ⟨0x40002020, 2, 0x20, 1, 0x0, 0x0, 0x7, 0x0, 0x8, 0x0, 0x0⟩, /- TIME_TP_CTRL -/
  ⟨0x40002024, 2, 0x20, 1, 0x0, 0x1, 0x3f, 0x0, 0x0, 0x0, 0x0⟩, /- TIME_TP_PER_S -/
  ⟨0x40002028, 2, 0x20, 1, 0x0, 0x0, 0x3fffffff, 0x0, 0x0, 0x0, 0x0⟩, /- TIME_TP_PER_NS -/
  ⟨0x4000202c, 2, 0x20, 1, 0x0, 0x0, 0x3fffffff, 0x0, 0x0, 0x0, 0x0⟩, /- TIME_TP_OFS -/
  ⟨0x40002030, 2, 0x20, 1, 0x0, 0x5f5e100, 0x3fffffff, 0x0, 0x0, 0x0, 0x0⟩, /- TIME_TP_WIDTH -/
  ⟨0x40002034, 2, 0x20, 1, 0x0, 0x0, 0xffff, 0x0, 0x0, 0x0, 0x0⟩, /- TIME_TP_DLY -/
  ⟨0x40002060, 1, 0x0, 1, 0x0, 0x4, 0xff, 0x700, 0x0, 0x0, 0x0⟩, /- TIME_TMARK_CTRL -/
  ⟨0x40002064, 1, 0x0, 1, 0x0, 0x0, 0xffff, 0x0, 0x0, 0x0, 0x0⟩, /- TIME_TMARK_DLY -/
  ⟨0x40002068, 1, 0x0, 1, 0x0, 0x0, 0x0, 0x0, 0x0, 0x0, 0x0⟩, /- TIME_TMARK_CAP_LO -/
  ⟨0x4000206c, 1, 0x0, 1, 0x0, 0x0, 0x0, 0x0, 0x0, 0x0, 0x0⟩, /- TIME_TMARK_CAP_HI -/
  ⟨0x40002070, 1, 0x0, 1, 0x0, 0x0, 0x0, 0x0, 0x0, 0x0, 0x0⟩, /- TIME_TMARK_CAP_FRAC -/
  ⟨0x40002074, 1, 0x0, 1, 0x0, 0x0, 0x0, 0x0, 0x0, 0x0, 0x0⟩ /- TIME_TMARK_ERR -/
]

/-- The registers of page FOLD. -/
def rowsFOLD : List RegRow := [
  ⟨0x40003000, 1, 0x0, 1, 0x0, 0x30, 0x0, 0x0, 0x0, 0x0, 0x0⟩, /- FOLD_STAT -/
  ⟨0x40003004, 1, 0x0, 1, 0x0, 0x0, 0x0, 0x0, 0x0, 0x0, 0x0⟩, /- FOLD_ERR_OFS -/
  ⟨0x40003008, 1, 0x0, 1, 0x0, 0x0, 0x0, 0x0, 0x0, 0x0, 0x0⟩, /- FOLD_ID -/
  ⟨0x4000300c, 1, 0x0, 1, 0x0, 0x0, 0x6, 0x8, 0x1, 0x0, 0x0⟩, /- FOLD_CTRL -/
  ⟨0x40003010, 1, 0x0, 1, 0x0, 0x0, 0xffffffff, 0x0, 0x0, 0x0, 0x0⟩, /- FOLD_SRC_ADDR -/
  ⟨0x40003014, 1, 0x0, 1, 0x0, 0x0, 0x1ffff, 0x0, 0x0, 0x0, 0x0⟩, /- FOLD_SRC_LEN -/
  ⟨0x40003018, 1, 0x0, 1, 0x0, 0x0, 0xffffffff, 0x0, 0x0, 0x0, 0x0⟩, /- FOLD_AT_LO -/
  ⟨0x4000301c, 1, 0x0, 1, 0x0, 0x0, 0xffffffff, 0x0, 0x0, 0x0, 0x0⟩, /- FOLD_AT_HI -/
  ⟨0x40003040, 17, 0x4, 1, 0x0, 0x0, 0x0, 0x0, 0x0, 0x0, 0x0⟩, /- FOLD_ENGINE -/
  ⟨0x400030c0, 49, 0x4, 1, 0x0, 0x0, 0x0, 0x0, 0x0, 0x0, 0x0⟩ /- FOLD_BANK -/
]

/-- The registers of page SE n. -/
def rowsSE : List RegRow := [
  ⟨0x40010000, 17, 0x1000, 1, 0x0, 0x0, 0x8, 0x0, 0x13, 0x0, 0x0⟩, /- SE_CTRL -/
  ⟨0x40010004, 17, 0x1000, 1, 0x0, 0x0, 0x0, 0x80, 0x0, 0x0, 0x0⟩, /- SE_STAT -/
  ⟨0x40010008, 17, 0x1000, 1, 0x0, 0x0, 0x0, 0x0, 0x0, 0xffff0000, 0x0⟩, /- SE_CYC -/
  ⟨0x4001000c, 17, 0x1000, 1, 0x0, 0x0, 0x0, 0x0, 0x0, 0xffff, 0x0⟩, /- SE_OVR_CNT -/
  ⟨0x40010010, 17, 0x1000, 1, 0x0, 0x0, 0x0, 0x3f, 0x0, 0x0, 0x0⟩, /- SE_FAULT -/
  ⟨0x40010014, 17, 0x1000, 1, 0x0, 0x0, 0x0, 0x0, 0x0, 0x0, 0x0⟩, /- SE_FAULT_PC -/
  ⟨0x40010018, 17, 0x1000, 1, 0x0, 0x1, 0xffffffff, 0x0, 0x0, 0x0, 0x0⟩, /- SE_SEED -/
  ⟨0x40010800, 1, 0x0, 1, 0x0, 0x10020, 0x1ffff, 0x0, 0x0, 0x0, 0x0⟩, /- SE_ROT_CTRL -/
  ⟨0x40010804, 1, 0x0, 1, 0x0, 0x1f0000, 0x0, 0x0, 0x0, 0x0, 0x0⟩, /- SE_ROT_STAT -/
  ⟨0x40010808, 1, 0x0, 1, 0x0, 0x0, 0x0, 0x0, 0x0, 0x0, 0x0⟩, /- SE_ROT_COUNT -/
  ⟨0x4001080c, 1, 0x0, 1, 0x0, 0x0, 0x0, 0x0, 0x0, 0x0, 0x0⟩ /- SE_TWIN_INFO -/
]

/-- The registers of page PAS. -/
def rowsPAS : List RegRow := [
  ⟨0x40030000, 1, 0x0, 1, 0x0, 0x10010, 0x100ff, 0x0, 0x0, 0x0, 0x0⟩, /- PAS_SCRUB -/
  ⟨0x40030004, 1, 0x0, 1, 0x0, 0x0, 0x0, 0x0, 0x0, 0xffffffff, 0x0⟩, /- PAS_ECC_CNT -/
  ⟨0x40030008, 1, 0x0, 1, 0x0, 0x3f000000, 0x0, 0x0, 0x0, 0x0, 0x0⟩, /- PAS_ECC_INFO -/
  ⟨0x4003000c, 1, 0x0, 1, 0x0, 0x0, 0x0, 0x0, 0x0, 0x0, 0x0⟩, /- PAS_UNC_LB_LO -/
  ⟨0x40030010, 1, 0x0, 1, 0x0, 0x0, 0x0, 0x0, 0x0, 0x0, 0x0⟩, /- PAS_UNC_LB_HI -/
  ⟨0x40030014, 1, 0x0, 1, 0x0, 0x0, 0x0, 0x0, 0x0, 0xffff, 0x0⟩, /- PAS_MISS_CNT -/
  ⟨0x40030018, 1, 0x0, 1, 0x0, 0x0, 0x0, 0x0, 0x0, 0x0, 0x0⟩, /- PAS_MISS_INFO -/
  ⟨0x40030020, 1, 0x0, 1, 0x0, 0x10040, 0x1ffff, 0x0, 0x0, 0x0, 0x0⟩, /- PAS_ROT_CTRL -/
  ⟨0x40030024, 1, 0x0, 1, 0x0, 0x30000000, 0x0, 0x0, 0x0, 0x0, 0x0⟩, /- PAS_ROT_STAT -/
  ⟨0x40030028, 1, 0x0, 1, 0x0, 0x0, 0x0, 0x0, 0x0, 0x0, 0x0⟩, /- PAS_ROT_PROG -/
  ⟨0x4003002c, 1, 0x0, 1, 0x0, 0x0, 0x0, 0x0, 0x0, 0x0, 0x0⟩, /- PAS_ROT_COUNT -/
  ⟨0x40030030, 1, 0x0, 1, 0x0, 0x0, 0x0, 0x0, 0x0, 0x0, 0x0⟩, /- PAS_R_STC_LO -/
  ⟨0x40030034, 1, 0x0, 1, 0x0, 0x0, 0x0, 0x0, 0x0, 0x0, 0x0⟩, /- PAS_R_STC_HI -/
  ⟨0x40030100, 32, 0x4, 1, 0x0, 0x0, 0x0, 0x0, 0x0, 0x0, 0x0⟩, /- PAS_SP -/
  ⟨0x40030200, 32, 0x8, 1, 0x0, 0x0, 0x0, 0x0, 0x0, 0x0, 0x0⟩, /- PAS_PAD_BASE -/
  ⟨0x40030204, 32, 0x8, 1, 0x0, 0x0, 0x0, 0x0, 0x0, 0x0, 0x0⟩, /- PAS_PAD_LEN -/
  ⟨0x40030400, 192, 0x4, 1, 0x0, 0xffffffff, 0x0, 0x0, 0x0, 0x0, 0x0⟩ /- PAS_SCHED -/
]

/-- The registers of page CO. -/
def rowsCO : List RegRow := [
  ⟨0x40031000, 1, 0x0, 1, 0x0, 0x0, 0x0, 0x0, 0x0, 0x0, 0x0⟩, /- CO_COMMIT -/
  ⟨0x40031004, 1, 0x0, 1, 0x0, 0x0, 0xffffffff, 0x0, 0x0, 0x0, 0x0⟩, /- CO_AT_LO -/
  ⟨0x40031008, 1, 0x0, 1, 0x0, 0x0, 0xffffffff, 0x0, 0x0, 0x0, 0x0⟩, /- CO_AT_HI -/
  ⟨0x4003100c, 1, 0x0, 1, 0x0, 0x0, 0x0, 0xf, 0x0, 0x0, 0x0⟩, /- CO_STAT -/
  ⟨0x40031010, 1, 0x0, 1, 0x0, 0x0, 0x0, 0x0, 0x0, 0x0, 0x0⟩, /- CO_LAND_CNT -/
  ⟨0x40031014, 1, 0x0, 1, 0x0, 0x0, 0x1fff, 0x0, 0x0, 0x0, 0x0⟩, /- CO_GLIDE_SEL -/
  ⟨0x40031018, 1, 0x0, 1, 0x0, 0x0, 0x601fffff, 0x0, 0x0, 0x0, 0x0⟩, /- CO_GLIDE_DATA -/
  ⟨0x4003101c, 1, 0x0, 1, 0x0, 0x0, 0x0, 0x0, 0x0, 0x0, 0x0⟩, /- CO_GLIDE_STEP -/
  ⟨0x40031020, 8, 0x4, 1, 0x0, 0x0, 0x0, 0x0, 0x0, 0x0, 0x0⟩, /- CO_PEND -/
  ⟨0x40031400, 256, 0x8, 1, 0x0, 0x0, 0x1ffff, 0x0, 0x0, 0x0, 0x0⟩, /- CO_GRP_BASE -/
  ⟨0x40031404, 256, 0x8, 1, 0x0, 0x0, 0x3ffff, 0x0, 0x0, 0x0, 0x0⟩ /- CO_GRP_LEN -/
]

/-- The registers of page PRT lanes. -/
def rowsPRTLanes : List RegRow := [
  ⟨0x40040000, 32, 0x100, 1, 0x0, 0x0, 0x3f00, 0x0, 0x3, 0x0, 0x0⟩, /- PRT_LANE_CTRL -/
  ⟨0x40040004, 32, 0x100, 1, 0x0, 0x0, 0x0, 0x0, 0x0, 0x0, 0x0⟩, /- PRT_LANE_CFG -/
  ⟨0x40040008, 32, 0x100, 1, 0x0, 0x0, 0xffff, 0x0, 0x0, 0x0, 0x0⟩, /- PRT_LANE_MASK -/
  ⟨0x4004000c, 32, 0x100, 1, 0x0, 0x0, 0x0, 0x38, 0x0, 0x0, 0x0⟩, /- PRT_LANE_STAT -/
  ⟨0x40040010, 32, 0x100, 1, 0x0, 0x0, 0x0, 0x0, 0x0, 0xffffffff, 0x0⟩ /- PRT_LANE_SLIP -/
]

/-- The registers of page PRT groups. -/
def rowsPRTGroups : List RegRow := [
  ⟨0x40042000, 8, 0x20, 1, 0x0, 0xff000000, 0x0, 0x0, 0x0, 0x0, 0x0⟩, /- PRT_GRP_CFG -/
  ⟨0x40042004, 8, 0x20, 1, 0x0, 0x0, 0x0, 0x2c, 0x0, 0x0, 0x0⟩, /- PRT_GRP_STAT -/
  ⟨0x40042008, 8, 0x20, 1, 0x0, 0x0, 0x0, 0x0, 0x0, 0x0, 0x0⟩, /- PRT_GRP_PHASE -/
  ⟨0x4004200c, 8, 0x20, 1, 0x0, 0x0, 0x0, 0x0, 0x0, 0x0, 0x0⟩, /- PRT_GRP_RATIO -/
  ⟨0x40042010, 8, 0x20, 1, 0x0, 0x0, 0x0, 0x0, 0x0, 0xffff, 0x0⟩, /- PRT_GRP_FERR -/
  ⟨0x40042014, 8, 0x20, 1, 0x0, 0x0, 0x1, 0x0, 0x0, 0x0, 0x0⟩, /- PRT_GRP_CTRL -/
  ⟨0x40042100, 1, 0x0, 1, 0x0, 0x0, 0x0, 0x0, 0x0, 0x0, 0x0⟩, /- PRT_MCK -/
  ⟨0x40042200, 8, 0x10, 1, 0x0, 0x0, 0x0, 0x8, 0x3, 0x0, 0x0⟩, /- PRT_ALIGN_CTRL -/
  ⟨0x40042204, 8, 0x10, 1, 0x0, 0x0, 0xffffffff, 0x0, 0x0, 0x0, 0x0⟩, /- PRT_ALIGN_AT_LO -/
  ⟨0x40042208, 8, 0x10, 1, 0x0, 0x0, 0xffffffff, 0x0, 0x0, 0x0, 0x0⟩ /- PRT_ALIGN_AT_HI -/
]

/-- The registers of page DMA global. -/
def rowsDMAGlobal : List RegRow := [
  ⟨0x40050000, 1, 0x0, 1, 0x0, 0x100, 0xffff, 0x0, 0x0, 0x0, 0x0⟩, /- DMA_TO -/
  ⟨0x40050004, 1, 0x0, 1, 0x0, 0x0, 0x0, 0x0, 0x0, 0x0, 0x0⟩, /- DMA_STAT -/
  ⟨0x40050010, 1, 0x0, 1, 0x0, 0x0, 0xf, 0x0, 0x0, 0x0, 0x0⟩, /- DMA_DDR_CTRL -/
  ⟨0x40050014, 1, 0x0, 1, 0x0, 0x0, 0x0, 0x2, 0x0, 0x0, 0x0⟩ /- DMA_DDR_STAT -/
]

/-- The registers of page DMA rings. -/
def rowsDMARings : List RegRow := [
  ⟨0x40051000, 32, 0x80, 1, 0x0, 0x100100, 0xffffff1c, 0x0, 0x3, 0x0, 0x0⟩, /- DMA_RING_CTRL -/
  ⟨0x40051004, 32, 0x80, 1, 0x0, 0x0, 0x0, 0x68, 0x0, 0x0, 0x0⟩, /- DMA_RING_STAT -/
  ⟨0x40051008, 32, 0x80, 1, 0x0, 0x0, 0xffffffe0, 0x0, 0x0, 0x0, 0x0⟩, /- DMA_RING_HEAD -/
  ⟨0x4005100c, 32, 0x80, 1, 0x0, 0x0, 0x0, 0x0, 0x0, 0x0, 0x0⟩, /- DMA_RING_CUR -/
  ⟨0x40051010, 32, 0x80, 1, 0x0, 0x0, 0x0, 0x0, 0x0, 0x0, 0x0⟩, /- DMA_RING_SRC -/
  ⟨0x40051014, 32, 0x80, 1, 0x0, 0x0, 0x0, 0x0, 0x0, 0x0, 0x0⟩, /- DMA_RING_DST -/
  ⟨0x40051018, 32, 0x80, 1, 0x0, 0x0, 0x0, 0x0, 0x0, 0x0, 0x0⟩, /- DMA_RING_REM -/
  ⟨0x4005101c, 32, 0x80, 1, 0x0, 0x0, 0x0, 0x0, 0x0, 0x0, 0x0⟩, /- DMA_RING_LAST -/
  ⟨0x40051020, 32, 0x80, 1, 0x0, 0x0, 0x0, 0x0, 0x0, 0x0, 0x0⟩ /- DMA_RING_DONE_CNT -/
]

/-- The registers of page CRK. -/
def rowsCRK : List RegRow := [
  ⟨0x40060000, 1, 0x0, 1, 0x0, 0x0, 0x0, 0x0, 0x0, 0x0, 0x0⟩, /- CRK_STAT -/
  ⟨0x40060004, 1, 0x0, 1, 0x0, 0x0, 0x0, 0x0, 0x0, 0x0, 0xffffffff⟩, /- CRK_ENTRY -/
  ⟨0x40060008, 1, 0x0, 1, 0x0, 0x0, 0x0, 0x0, 0x0, 0x0, 0x0⟩, /- CRK_LAST_CAUSE -/
  ⟨0x4006000c, 1, 0x0, 1, 0x0, 0x0, 0x0, 0x0, 0x0, 0x0, 0x0⟩, /- CRK_LAST_EPC -/
  ⟨0x40060010, 1, 0x0, 1, 0x0, 0x0, 0x0, 0x0, 0x0, 0x0, 0x0⟩, /- CRK_LAST_FADDR -/
  ⟨0x40060020, 1, 0x0, 1, 0x0, 0x1000, 0xffff, 0x0, 0x10000, 0x0, 0x0⟩, /- CRK_WDT_CTRL -/
  ⟨0x40060024, 1, 0x0, 1, 0x0, 0x0, 0x0, 0x0, 0x0, 0x0, 0x0⟩, /- CRK_WDT_KICK -/
  ⟨0x40060028, 1, 0x0, 1, 0x0, 0x0, 0x0, 0x0, 0x0, 0x0, 0x0⟩, /- CRK_WDT_STAT -/
  ⟨0x40060100, 8, 0x8, 1, 0x0, 0x0, 0x81ffffff, 0x0, 0x0, 0x0, 0x0⟩, /- CRK_MPU_BASE -/
  ⟨0x40060104, 8, 0x8, 1, 0x0, 0x0, 0xfffff, 0x0, 0x0, 0x0, 0x0⟩ /- CRK_MPU_LIM -/
]

/-- The registers of page EVT. -/
def rowsEVT : List RegRow := [
  ⟨0x40070000, 1, 0x0, 1, 0x0, 0x0, 0x0, 0x10000, 0x0, 0x0, 0x0⟩, /- EVT_STAT -/
  ⟨0x40070004, 1, 0x0, 1, 0x0, 0xc0, 0x1ff, 0x0, 0x0, 0x0, 0x0⟩, /- EVT_Q_THR -/
  ⟨0x40070008, 1, 0x0, 1, 0x0, 0x0, 0x0, 0x0, 0x0, 0xffff, 0x0⟩, /- EVT_Q_DROP -/
  ⟨0x40070010, 1, 0x0, 1, 0x0, 0x0, 0x0, 0x0, 0x0, 0x0, 0x0⟩, /- EVT_Q_W0 -/
  ⟨0x40070014, 1, 0x0, 1, 0x0, 0x0, 0x0, 0x0, 0x0, 0x0, 0x0⟩, /- EVT_Q_W1 -/
  ⟨0x40070018, 1, 0x0, 1, 0x0, 0x0, 0x0, 0x0, 0x0, 0x0, 0x0⟩, /- EVT_Q_W2 -/
  ⟨0x4007001c, 1, 0x0, 1, 0x0, 0x0, 0x0, 0x0, 0x0, 0x0, 0x0⟩, /- EVT_Q_W3 -/
  ⟨0x40070020, 1, 0x0, 1, 0x0, 0x0, 0x0, 0x0, 0x0, 0x0, 0x0⟩, /- EVT_Q_POP -/
  ⟨0x40070030, 1, 0x0, 1, 0x0, 0x0, 0xffff, 0x0, 0x0, 0x0, 0x0⟩, /- EVT_SEL -/
  ⟨0x40070034, 1, 0x0, 1, 0x0, 0x200, 0xfe3f, 0x0, 0x0, 0x0, 0x0⟩, /- EVT_ROUTE -/
  ⟨0x40070038, 1, 0x0, 1, 0x0, 0x0, 0x0, 0x0, 0x0, 0xffffffff, 0x0⟩, /- EVT_TALLY -/
  ⟨0x4007003c, 1, 0x0, 1, 0x0, 0x0, 0x0, 0x0, 0x0, 0x0, 0x0⟩, /- EVT_INFO -/
  ⟨0x40070040, 1, 0x0, 1, 0x0, 0x14, 0xff, 0x0, 0x0, 0x0, 0x0⟩, /- EVT_LINGER -/
  ⟨0x40070048, 1, 0x0, 1, 0x0, 0x0, 0x0, 0xfffffffc, 0x0, 0x0, 0x0⟩, /- EVT_LPEND_LO -/
  ⟨0x4007004c, 1, 0x0, 1, 0x0, 0x0, 0x0, 0xffffffff, 0x0, 0x0, 0x0⟩, /- EVT_LPEND_HI -/
  ⟨0x40070050, 1, 0x0, 1, 0x0, 0x0, 0x0, 0xffffffff, 0x0, 0x0, 0x0⟩, /- EVT_HSUM -/
  ⟨0x40070054, 1, 0x0, 1, 0x0, 0x0, 0xffffffff, 0x0, 0x0, 0x0, 0x0⟩ /- EVT_HMASK -/
]

/-- The registers of page GUARD. -/
def rowsGUARD : List RegRow := [
  ⟨0x40071000, 1, 0x0, 1, 0x0, 0x2, 0x0, 0x0, 0x0, 0x0, 0xf⟩, /- GUARD_GATE -/
  ⟨0x40071010, 1, 0x0, 1, 0x0, 0x0, 0x0, 0x0, 0x0, 0x0, 0x0⟩, /- GUARD_RADIO_FUSE -/
  ⟨0x40071014, 1, 0x0, 1, 0x0, 0xffff003f, 0xffff003f, 0x0, 0x0, 0x0, 0x0⟩, /- GUARD_RADIO_LIM -/
  ⟨0x40071018, 1, 0x0, 1, 0x0, 0x0, 0x0, 0x0, 0x0, 0x0, 0x0⟩, /- GUARD_AIR_CNT -/
  ⟨0x40071100, 64, 0x20, 1, 0x0, 0x0, 0x0, 0x0, 0x0, 0x0, 0x0⟩, /- GUARD_CH_FUSE -/
  ⟨0x40071104, 64, 0x20, 1, 0x0, 0x0, 0x0, 0x0, 0x0, 0x0, 0x0⟩, /- GUARD_CH_FUSE2 -/
  ⟨0x40071108, 64, 0x20, 1, 0x0, 0xffffffff, 0xffffffff, 0x0, 0x0, 0x0, 0x0⟩, /- GUARD_CH_LIM -/
  ⟨0x4007110c, 64, 0x20, 1, 0x0, 0x0, 0x13f, 0x0, 0x0, 0x0, 0x0⟩, /- GUARD_CH_CTRL -/
  ⟨0x40071110, 64, 0x20, 1, 0x0, 0x0, 0x0, 0x5, 0x0, 0x0, 0x0⟩, /- GUARD_CH_STAT -/
  ⟨0x40071114, 64, 0x20, 1, 0x0, 0x0, 0x0, 0x0, 0x0, 0x0, 0x0⟩, /- GUARD_CH_HEAT -/
  ⟨0x40071118, 64, 0x20, 1, 0x0, 0x0, 0x0, 0x0, 0x0, 0x0, 0x0⟩, /- GUARD_CH_DCM -/
  ⟨0x4007111c, 64, 0x20, 1, 0x0, 0x0, 0x0, 0x0, 0x0, 0xffff, 0x0⟩ /- GUARD_CH_PEAK_CNT -/
]

/-- The registers of page RF. -/
def rowsRF : List RegRow := [
  ⟨0x40080000, 1, 0x0, 1, 0x0, 0x0, 0x3fd, 0x0, 0x0, 0x0, 0x0⟩, /- RF_CTRL -/
  ⟨0x40080004, 1, 0x0, 1, 0x0, 0x0, 0x0, 0x0, 0x0, 0x0, 0x0⟩, /- RF_STAT -/
  ⟨0x40080008, 1, 0x0, 1, 0x0, 0x88, 0xff, 0x0, 0x0, 0x0, 0x0⟩, /- RF_LNA -/
  ⟨0x4008000c, 1, 0x0, 1, 0x0, 0x0, 0x7, 0x0, 0x0, 0x0, 0x0⟩, /- RF_LNK_RX -/
  ⟨0x40080010, 1, 0x0, 1, 0x0, 0x0, 0x0, 0x0, 0x0, 0xffff, 0x0⟩, /- RF_OVL_CNT -/
  ⟨0x40080014, 1, 0x0, 1, 0x0, 0x0, 0x0, 0x0, 0x0, 0x0, 0x0⟩, /- RF_ILC_STAT -/
  ⟨0x40080020, 1, 0x0, 1, 0x0, 0x0, 0x0, 0x1f0, 0x0, 0x0, 0x0⟩, /- RF_TX_STAT -/
  ⟨0x40080024, 1, 0x0, 1, 0x0, 0x0, 0x0, 0x0, 0x0, 0xffff, 0x0⟩, /- RF_TX_LATE_CNT -/
  ⟨0x40080030, 1, 0x0, 1, 0x0, 0x0, 0x0, 0x0, 0x3, 0x0, 0x0⟩, /- RF_CAL_REQ -/
  ⟨0x40080040, 7, 0x4, 1, 0x0, 0x0, 0x0, 0x0, 0x0, 0x0, 0x0⟩, /- RF_CAL_RES -/
  ⟨0x40080060, 1, 0x0, 1, 0x0, 0x2800, 0xff00, 0x0, 0x0, 0x0, 0x0⟩, /- RF_MON_CTRL -/
  ⟨0x40080064, 1, 0x0, 1, 0x0, 0x0, 0x0, 0x0, 0x0, 0x0, 0x0⟩, /- RF_MON_SEQ -/
  ⟨0x40080070, 8, 0x4, 1, 0x0, 0x0, 0x0, 0x0, 0x0, 0x0, 0x0⟩, /- RF_MON_PEAK -/
  ⟨0x40080100, 1, 0x0, 1, 0x0, 0x0, 0x33, 0x0, 0x0, 0x0, 0x0⟩, /- RF_WAKE_CTRL -/
  ⟨0x40080104, 1, 0x0, 1, 0x0, 0x0, 0xffffffff, 0x0, 0x0, 0x0, 0x0⟩, /- RF_WAKE_CODE0_LO -/
  ⟨0x40080108, 1, 0x0, 1, 0x0, 0x0, 0xffffffff, 0x0, 0x0, 0x0, 0x0⟩, /- RF_WAKE_CODE0_HI -/
  ⟨0x4008010c, 1, 0x0, 1, 0x0, 0x0, 0x0, 0x3, 0x0, 0x0, 0x0⟩, /- RF_WAKE_STAT -/
  ⟨0x40080110, 1, 0x0, 1, 0x0, 0x0, 0x7fc0, 0x2, 0x1, 0x0, 0x0⟩, /- RF_WAKE_TX_CTRL -/
  ⟨0x40080114, 1, 0x0, 1, 0x0, 0x0, 0xffffffff, 0x0, 0x0, 0x0, 0x0⟩, /- RF_WAKE_TX_LO -/
  ⟨0x40080118, 1, 0x0, 1, 0x0, 0x0, 0xffffffff, 0x0, 0x0, 0x0, 0x0⟩ /- RF_WAKE_TX_HI -/
]

/-- The registers of page GN global. -/
def rowsGNGlobal : List RegRow := [
  ⟨0x40090000, 1, 0x0, 1, 0x0, 0x0, 0x107, 0x0, 0x0, 0x0, 0x0⟩, /- GN_CTRL -/
  ⟨0x40090004, 1, 0x0, 1, 0x0, 0x0, 0x0, 0x0, 0x0, 0x0, 0x0⟩, /- GN_EPOCH_SEQ -/
  ⟨0x40090008, 1, 0x0, 1, 0x0, 0x0, 0x0, 0x0, 0x0, 0x0, 0x0⟩, /- GN_EPOCH_STC_LO -/
  ⟨0x4009000c, 1, 0x0, 1, 0x0, 0x0, 0x0, 0x0, 0x0, 0x0, 0x0⟩, /- GN_EPOCH_STC_HI -/
  ⟨0x40090010, 1, 0x0, 1, 0x0, 0x0, 0x0, 0x0, 0x0, 0x0, 0x0⟩, /- GN_EPOCH_STEER -/
  ⟨0x40090040, 8, 0x8, 1, 0x0, 0xa4000a, 0xe0ff00ff, 0x0, 0x0, 0x0, 0x0⟩, /- GN_NOTCH_CTRL -/
  ⟨0x40090044, 8, 0x8, 1, 0x0, 0x0, 0xffffffff, 0x0, 0x0, 0x0, 0x0⟩ /- GN_NOTCH_FREQ -/
]

/-- The registers of page GN acquisition. -/
def rowsGNAcquisition : List RegRow := [
  ⟨0x40091000, 1, 0x0, 1, 0x0, 0x0, 0x1f30, 0x0, 0x3, 0x0, 0x0⟩, /- GN_ACQ_CTRL -/
  ⟨0x40091004, 1, 0x0, 1, 0x0, 0x8150101, 0xf7f7f0f, 0x0, 0x0, 0x0, 0x0⟩, /- GN_ACQ_PRM -/
  ⟨0x40091008, 1, 0x0, 1, 0x0, 0x1f40000, 0xffffffff, 0x0, 0x0, 0x0, 0x0⟩, /- GN_ACQ_DOP -/
  ⟨0x4009100c, 1, 0x0, 1, 0x0, 0x100, 0x1f0f, 0x0, 0x0, 0x0, 0x0⟩, /- GN_ACQ_SIG -/
  ⟨0x40091010, 4, 0x4, 1, 0x0, 0x0, 0xffffffff, 0x0, 0x0, 0x0, 0x0⟩, /- GN_ACQ_PRN -/
  ⟨0x40091020, 1, 0x0, 1, 0x0, 0xc00, 0xffff, 0x0, 0x0, 0x0, 0x0⟩, /- GN_ACQ_THR -/
  ⟨0x40091024, 1, 0x0, 1, 0x0, 0x0, 0x0, 0x70, 0x0, 0x0, 0x0⟩, /- GN_ACQ_STAT -/
  ⟨0x40091028, 1, 0x0, 1, 0x0, 0x0, 0x0, 0x0, 0x0, 0x0, 0x0⟩, /- GN_ACQ_T0_LO -/
  ⟨0x4009102c, 1, 0x0, 1, 0x0, 0x0, 0x0, 0x0, 0x0, 0x0, 0x0⟩, /- GN_ACQ_T0_HI -/
  ⟨0x40091100, 16, 0x8, 1, 0x0, 0x0, 0x0, 0x0, 0x0, 0x0, 0x0⟩, /- GN_ACQ_RES_A -/
  ⟨0x40091104, 16, 0x8, 1, 0x0, 0x0, 0x0, 0x0, 0x0, 0x0, 0x0⟩ /- GN_ACQ_RES_B -/
]

/-- The registers of page GN channels. -/
def rowsGNChannels : List RegRow := [
  ⟨0x400a0000, 96, 0x100, 1, 0x0, 0x10800, 0xffffffc0, 0x0, 0x0, 0x0, 0x0⟩, /- GN_CH_CFG -/
  ⟨0x400a0004, 96, 0x100, 1, 0x0, 0x1008, 0x1f1f, 0x0, 0x0, 0x0, 0x0⟩, /- GN_CH_SPACE -/
  ⟨0x400a0008, 96, 0x100, 1, 0x0, 0x0, 0x4, 0x0, 0x3, 0x0, 0x0⟩, /- GN_CH_CTRL -/
  ⟨0x400a000c, 96, 0x100, 1, 0x0, 0x0, 0x0, 0xf0, 0x0, 0x0, 0x0⟩, /- GN_CH_STAT -/
  ⟨0x400a0010, 96, 0x100, 1, 0x0, 0x0, 0xffffffff, 0x0, 0x0, 0x0, 0x0⟩, /- GN_CH_DOP -/
  ⟨0x400a0014, 96, 0x100, 1, 0x0, 0x0, 0xffffffff, 0x0, 0x0, 0x0, 0x0⟩, /- GN_CH_CODE -/
  ⟨0x400a0018, 96, 0x100, 1, 0x0, 0x0, 0xffff, 0x0, 0x0, 0x0, 0x0⟩, /- GN_CH_SEC -/
  ⟨0x400a001c, 96, 0x100, 1, 0x0, 0x0, 0x0, 0x0, 0x0, 0x0, 0x0⟩, /- GN_CH_T0 -/
  ⟨0x400a0020, 96, 0x100, 1, 0x0, 0xa40034, 0xffffffff, 0x0, 0x0, 0x0, 0x0⟩, /- GN_CH_LOOP_A -/
  ⟨0x400a0024, 96, 0x100, 1, 0x0, 0x40000010, 0xffffffff, 0x0, 0x0, 0x0, 0x0⟩, /- GN_CH_LOOP_B -/
  ⟨0x400a0028, 96, 0x100, 1, 0x0, 0xcc010af0, 0xffffffff, 0x0, 0x0, 0x0, 0x0⟩, /- GN_CH_LOCK -/
  ⟨0x400a002c, 96, 0x100, 1, 0x0, 0x3e8, 0xffff, 0x0, 0x0, 0x0, 0x0⟩, /- GN_CH_COAST -/
  ⟨0x400a0040, 96, 0x100, 8, 0x4, 0x0, 0x0, 0x0, 0x0, 0x0, 0x0⟩ /- GN_CH_MEAS -/
]

/-- The registers of page LNK. -/
def rowsLNK : List RegRow := [
  ⟨0x400b0000, 1, 0x0, 1, 0x0, 0x200000, 0x3f1f7d, 0x0, 0x0, 0x0, 0x0⟩, /- LNK_CTRL -/
  ⟨0x400b0004, 1, 0x0, 1, 0x0, 0x0, 0x0, 0x80, 0x0, 0x0, 0x0⟩, /- LNK_STAT -/
  ⟨0x400b0008, 1, 0x0, 1, 0x0, 0x0, 0xffff, 0x0, 0x0, 0x0, 0x0⟩, /- LNK_DROVE -/
  ⟨0x400b000c, 1, 0x0, 1, 0x0, 0x0, 0xffffffff, 0x0, 0x0, 0x0, 0x0⟩, /- LNK_ADDR_LO -/
  ⟨0x400b0010, 1, 0x0, 1, 0x0, 0x0, 0xffffffff, 0x0, 0x0, 0x0, 0x0⟩, /- LNK_ADDR_HI -/
  ⟨0x400b0014, 1, 0x0, 1, 0x0, 0x0, 0x0, 0x0, 0x0, 0x0, 0x0⟩, /- LNK_MEMBERS -/
  ⟨0x400b0018, 1, 0x0, 1, 0x0, 0x0, 0x0, 0x0, 0x0, 0x0, 0x0⟩, /- LNK_BW_OFS_LO -/
  ⟨0x400b001c, 1, 0x0, 1, 0x0, 0x0, 0x0, 0x0, 0x0, 0x0, 0x0⟩, /- LNK_BW_OFS_HI -/
  ⟨0x400b0020, 1, 0x0, 1, 0x0, 0x0, 0x0, 0x0, 0x0, 0x0, 0x0⟩, /- LNK_TT_ERR -/
  ⟨0x400b0024, 1, 0x0, 1, 0x0, 0x0, 0x0, 0x0, 0x0, 0x0, 0x0⟩, /- LNK_TT_DLY -/
  ⟨0x400b0028, 1, 0x0, 1, 0x0, 0x81004, 0xffffff, 0x0, 0x0, 0x0, 0x0⟩, /- LNK_TMO -/
  ⟨0x400b002c, 1, 0x0, 1, 0x0, 0x55480601, 0xffff0707, 0x0, 0x0, 0x0, 0x0⟩, /- LNK_LBT -/
  ⟨0x400b0030, 1, 0x0, 1, 0x0, 0x100000, 0xff0700, 0x0, 0x1, 0x0, 0x0⟩, /- LNK_HOP -/
  ⟨0x400b0034, 1, 0x0, 1, 0x0, 0x4101, 0xf11f, 0x0, 0x0, 0x0, 0x0⟩, /- LNK_AUD -/
  ⟨0x400b0038, 1, 0x0, 1, 0x0, 0x200, 0x7fffff, 0x0, 0x0, 0x0, 0x0⟩, /- LNK_TX_STRIDE -/
  ⟨0x400b003c, 1, 0x0, 1, 0x0, 0x200, 0x7fffff, 0x0, 0x0, 0x0, 0x0⟩, /- LNK_RX_STRIDE -/
  ⟨0x400b0040, 1, 0x0, 1, 0x0, 0x0, 0x0, 0x0, 0x0, 0xffffffff, 0x0⟩, /- LNK_AUD_CNT -/
  ⟨0x400b0044, 1, 0x0, 1, 0x0, 0x0, 0x8000001f, 0x0, 0x0, 0x0, 0x0⟩, /- LNK_PROBE -/
  ⟨0x400b0048, 1, 0x0, 1, 0x0, 0x0, 0xffffffff, 0x0, 0x0, 0x0, 0x0⟩, /- LNK_PROBE_SF_LO -/
  ⟨0x400b004c, 1, 0x0, 1, 0x0, 0x0, 0xffffffff, 0x0, 0x0, 0x0, 0x0⟩, /- LNK_PROBE_SF_HI -/
  ⟨0x400b0060, 4, 0x4, 1, 0x0, 0x0, 0x0, 0x0, 0x0, 0x0, 0x0⟩, /- LNK_FOUL -/
  ⟨0x400b0070, 1, 0x0, 1, 0x0, 0x0, 0x0, 0x0, 0x0, 0xffff, 0x0⟩, /- LNK_STRAY_CNT -/
  ⟨0x400b0100, 16, 0x10, 1, 0x0, 0x0, 0x0, 0x0, 0x0, 0x0, 0x0⟩, /- LNK_STRAY_LOG_W0 -/
  ⟨0x400b0104, 16, 0x10, 1, 0x0, 0x0, 0x0, 0x0, 0x0, 0x0, 0x0⟩, /- LNK_STRAY_LOG_W1 -/
  ⟨0x400b0108, 16, 0x10, 1, 0x0, 0x0, 0x0, 0x0, 0x0, 0x0, 0x0⟩ /- LNK_STRAY_LOG_W2 -/
]

/-- The registers of page SHP mailbox. -/
def rowsSHPMailbox : List RegRow := [
  ⟨0x400c0000, 1, 0x0, 1, 0x0, 0x30, 0x0, 0x0, 0x0, 0x0, 0x0⟩, /- SHP_STAT -/
  ⟨0x400c0004, 1, 0x0, 1, 0x0, 0x0, 0x0, 0x0, 0x0, 0x0, 0x0⟩, /- SHP_BOOT_ERR -/
  ⟨0x400c0008, 1, 0x0, 1, 0x0, 0x0, 0x0, 0x0, 0x0, 0x0, 0x0⟩, /- SHP_CTR -/
  ⟨0x400c000c, 1, 0x0, 1, 0x0, 0x0, 0x0, 0x0, 0x0, 0x0, 0x0⟩, /- SHP_KEYS -/
  ⟨0x400c0010, 1, 0x0, 1, 0x0, 0x0, 0x8000ffff, 0x0, 0x0, 0x0, 0x0⟩, /- SHP_HOST_WIN -/
  ⟨0x400c0100, 2, 0x40, 1, 0x0, 0x0, 0x0, 0x0, 0x0, 0x0, 0x0⟩, /- SHP_MB_CMD -/
  ⟨0x400c0104, 2, 0x40, 1, 0x0, 0x0, 0xffffffff, 0x0, 0x0, 0x0, 0x0⟩, /- SHP_MB_ARG0 -/
  ⟨0x400c0108, 2, 0x40, 1, 0x0, 0x0, 0xffffffff, 0x0, 0x0, 0x0, 0x0⟩, /- SHP_MB_ARG1 -/
  ⟨0x400c010c, 2, 0x40, 1, 0x0, 0x0, 0xffffffff, 0x0, 0x0, 0x0, 0x0⟩, /- SHP_MB_ARG2 -/
  ⟨0x400c0110, 2, 0x40, 1, 0x0, 0x0, 0xffffffff, 0x0, 0x0, 0x0, 0x0⟩, /- SHP_MB_ARG3 -/
  ⟨0x400c0118, 2, 0x40, 1, 0x0, 0x0, 0x0, 0x0, 0x0, 0x0, 0x0⟩, /- SHP_MB_RES0 -/
  ⟨0x400c011c, 2, 0x40, 1, 0x0, 0x0, 0x0, 0x0, 0x0, 0x0, 0x0⟩, /- SHP_MB_RES1 -/
  ⟨0x400c0120, 2, 0x40, 1, 0x0, 0x0, 0x0, 0x0, 0x0, 0x0, 0x0⟩, /- SHP_MB_RES2 -/
  ⟨0x400c0124, 2, 0x40, 1, 0x0, 0x0, 0x0, 0x0, 0x0, 0x0, 0x0⟩, /- SHP_MB_RES3 -/
  ⟨0x400c0114, 2, 0x40, 1, 0x0, 0x0, 0x0, 0x6, 0x0, 0x0, 0x0⟩, /- SHP_MB_STAT -/
  ⟨0x400c0180, 1, 0x0, 1, 0x0, 0x0, 0x0, 0x0, 0x0, 0x0, 0x0⟩, /- SHP_MB_DATA -/
  ⟨0x400c0184, 1, 0x0, 1, 0x0, 0x40, 0x0, 0x0, 0x0, 0x0, 0x0⟩, /- SHP_MB_SPACE -/
  ⟨0x400c01a0, 8, 0x4, 1, 0x0, 0x0, 0x0, 0x0, 0x0, 0x0, 0x0⟩, /- SHP_CHAL -/
  ⟨0x400c0400, 256, 0x4, 1, 0x0, 0x0, 0x0, 0x0, 0x0, 0x0, 0x0⟩ /- SHP_FUSE -/
]

/-- The registers of page BST. -/
def rowsBST : List RegRow := [
  ⟨0x400d0000, 1, 0x0, 1, 0x0, 0x1, 0x1, 0x0, 0x0, 0x0, 0x0⟩, /- BST_CTRL -/
  ⟨0x400d0004, 1, 0x0, 1, 0x0, 0x0, 0x0, 0x0, 0x0, 0x0, 0x0⟩, /- BST_STAT -/
  ⟨0x400d0008, 1, 0x0, 1, 0x0, 0x0, 0x0, 0x2, 0x1, 0x0, 0x0⟩, /- BST_SHUTDOWN -/
  ⟨0x400d000c, 1, 0x0, 1, 0x0, 0x0, 0x13f, 0x20000, 0x10000, 0x0, 0x0⟩, /- BST_REQ -/
  ⟨0x400d0010, 1, 0x0, 1, 0x0, 0x0, 0x0, 0x0, 0x0, 0x0, 0x0⟩, /- BST_MARK_ENG -/
  ⟨0x400d0014, 1, 0x0, 1, 0x0, 0x0, 0x0, 0x0, 0x0, 0x0, 0x0⟩, /- BST_MARK_BANK_LO -/
  ⟨0x400d0018, 1, 0x0, 1, 0x0, 0x0, 0x0, 0x0, 0x0, 0x0, 0x0⟩, /- BST_MARK_BANK_HI -/
  ⟨0x400d001c, 1, 0x0, 1, 0x0, 0x0, 0x0, 0x0, 0x0, 0x0, 0x0⟩, /- BST_MARK_CLR -/
  ⟨0x400d0020, 1, 0x0, 1, 0x0, 0x5d3a91c4, 0x0, 0x0, 0x0, 0x0, 0x0⟩, /- BST_EXP_ENG -/
  ⟨0x400d0024, 1, 0x0, 1, 0x0, 0xe7b26f1, 0x0, 0x0, 0x0, 0x0, 0x0⟩, /- BST_EXP_BANK -/
  ⟨0x400d0028, 1, 0x0, 1, 0x0, 0x0, 0x0, 0x0, 0x0, 0xffffffff, 0x0⟩, /- BST_TALLY -/
  ⟨0x400d0100, 17, 0x8, 1, 0x0, 0x0, 0x0, 0x0, 0x0, 0x0, 0x0⟩, /- BST_ENG_A -/
  ⟨0x400d0104, 17, 0x8, 1, 0x0, 0x0, 0x0, 0x0, 0x0, 0x0, 0x0⟩, /- BST_ENG_B -/
  ⟨0x400d0200, 49, 0x8, 1, 0x0, 0x0, 0x0, 0x0, 0x0, 0x0, 0x0⟩, /- BST_BANK_A -/
  ⟨0x400d0204, 49, 0x8, 1, 0x0, 0x0, 0x0, 0x0, 0x0, 0x0, 0x0⟩ /- BST_BANK_B -/
]

/-- The registers of page PWR. -/
def rowsPWR : List RegRow := [
  ⟨0x400e0000, 1, 0x0, 1, 0x0, 0x0, 0x0, 0x20, 0x0, 0x0, 0x0⟩, /- PWR_STAT -/
  ⟨0x400e0004, 1, 0x0, 1, 0x0, 0x0, 0x0, 0x0, 0x1, 0x0, 0x0⟩, /- PWR_CMD -/
  ⟨0x400e0008, 1, 0x0, 1, 0x0, 0x0, 0x0, 0x0, 0x0, 0x0, 0x0⟩, /- PWR_RESET -/
  ⟨0x400e000c, 1, 0x0, 1, 0x0, 0x0, 0x0, 0x0, 0x0, 0x0, 0x0⟩, /- PWR_WAKE_TIME -/
  ⟨0x400e0010, 1, 0x0, 1, 0x0, 0x0, 0x0, 0x0, 0x0, 0x0, 0x0⟩, /- PWR_TMR -/
  ⟨0x400e0014, 1, 0x0, 1, 0x0, 0x0, 0xffffffff, 0x0, 0x0, 0x0, 0x0⟩, /- PWR_ALARM -/
  ⟨0x400e0018, 1, 0x0, 1, 0x0, 0x0, 0x8, 0x7, 0x0, 0x0, 0x0⟩, /- PWR_WAKE -/
  ⟨0x400e001c, 1, 0x0, 1, 0x0, 0x69000000, 0xff000000, 0x0, 0x0, 0x0, 0x0⟩ /- PWR_TEMP -/
]

/-- The registers of page HIF. -/
def rowsHIF : List RegRow := [
  ⟨0x400f0000, 1, 0x0, 1, 0x0, 0x2000000, 0xffff0001, 0x0, 0x0, 0x0, 0x0⟩, /- HIF_CFG -/
  ⟨0x400f0004, 1, 0x0, 1, 0x0, 0x4000, 0x0, 0x1f, 0x0, 0x0, 0x0⟩, /- HIF_STAT -/
  ⟨0x400f0008, 1, 0x0, 1, 0x0, 0x0, 0x3f, 0x0, 0x0, 0x0, 0x0⟩, /- HIF_IRQ_EN -/
  ⟨0x400f000c, 1, 0x0, 1, 0x0, 0x0, 0x0, 0x0, 0x0, 0x0, 0x0⟩, /- HIF_ERR_ADDR -/
  ⟨0x400f0010, 1, 0x0, 1, 0x0, 0x0, 0x1, 0x2, 0x0, 0x0, 0x0⟩, /- HIF_STRM_CTRL -/
  ⟨0x400f0014, 1, 0x0, 1, 0x0, 0x0, 0xfffffffc, 0x0, 0x0, 0x0, 0x0⟩, /- HIF_STRM_BASE -/
  ⟨0x400f0018, 1, 0x0, 1, 0x0, 0x0, 0x1ffff, 0x0, 0x0, 0x0, 0x0⟩, /- HIF_STRM_LEN -/
  ⟨0x400f001c, 1, 0x0, 1, 0x0, 0x0, 0xffff, 0x0, 0x0, 0x0, 0x0⟩, /- HIF_STRM_PTR -/
  ⟨0x400f0020, 1, 0x0, 1, 0x0, 0x0, 0x0, 0x0, 0x0, 0x0, 0x0⟩ /- HIF_STRM_CNT -/
]

/-- The page extents of R24: first address, last address, registers. -/
def pages : List (Nat × Nat × List RegRow) := [
  (0x40000000, 0x40000fff, rowsSYS),
  (0x40001000, 0x40001fff, rowsCLK),
  (0x40002000, 0x40002fff, rowsTIME),
  (0x40003000, 0x40003fff, rowsFOLD),
  (0x40010000, 0x40020fff, rowsSE),
  (0x40030000, 0x40030fff, rowsPAS),
  (0x40031000, 0x40031fff, rowsCO),
  (0x40040000, 0x40041fff, rowsPRTLanes),
  (0x40042000, 0x40042fff, rowsPRTGroups),
  (0x40050000, 0x40050fff, rowsDMAGlobal),
  (0x40051000, 0x40051fff, rowsDMARings),
  (0x40060000, 0x40060fff, rowsCRK),
  (0x40070000, 0x40070fff, rowsEVT),
  (0x40071000, 0x40071fff, rowsGUARD),
  (0x40080000, 0x40080fff, rowsRF),
  (0x40090000, 0x40090fff, rowsGNGlobal),
  (0x40091000, 0x40091fff, rowsGNAcquisition),
  (0x400a0000, 0x400a5fff, rowsGNChannels),
  (0x400b0000, 0x400b0fff, rowsLNK),
  (0x400c0000, 0x400c0fff, rowsSHPMailbox),
  (0x400d0000, 0x400d0fff, rowsBST),
  (0x400e0000, 0x400e0fff, rowsPWR),
  (0x400f0000, 0x400f0fff, rowsHIF)]

/-- The page that holds an address. -/
def pageOf (a : Nat) : Option (Nat × Nat × List RegRow) :=
  pages.find? fun p => decide (p.1 ≤ a) && decide (a ≤ p.2.1)

/-- The rotation registers of the engine pages, offsets 0x800 to 0xFFF, are one set that every engine page shows (chapter 04). -/
def regCanon (a : Nat) : Nat :=
  if 0x40010000 ≤ a ∧ a ≤ 0x40020fff ∧ 0x800 ≤ a % 0x1000 then 0x40010000 + a % 0x1000 else a

/-- The row of a register, none where no register stands at `a`. -/
def regRow? (a : Nat) : Option RegRow :=
  match pageOf a with
  | some p => p.2.2.find? fun r => r.has (regCanon a)
  | none => none

/-- What a register holds until it is written: the reset value of its table. -/
def regReset (a : Nat) : Word :=
  match regRow? a with
  | some r => r.reset
  | none => 0

end Sys2Proof.Machine
end

