-- ==== Sys2Proof/Machine/State.lean ====
section
/-! DEFINITION. State.lean: the state of the block as plain data, what every register and memory holds at reset, and the
reasons a step can stop. Register-visible values, the read-only ones too, live in `regs` alone and are read and written through
the fields of RegNames.lean; the structures below hold what no register shows. -/

namespace Sys2Proof.Machine

/-! ## Root clock and time (chapter 02) -/

/-- A time-pulse configuration in use (R46): what its registers held when the shadow was applied. -/
structure TpCfg where
  en : Bool
  pol : Bool
  qual : Bool
  perS : Nat
  perNs : Nat
  ofs : Nat
  width : Nat
  dly : Nat
  deriving DecidableEq, Repr

/-- One time pulse: the configuration in use, whether a pulse is active, the root cycle at which it ends, and the instant of the
write that a pending apply waits from (R46). -/
structure TpSt where
  cfg : TpCfg
  active : Bool
  endAt : Nat
  reqAt : Nat
  deriving DecidableEq, Repr

/-- A snapshot of count and fraction (R39). -/
structure Snap where
  stc : Nat
  frac : Nat
  deriving DecidableEq, Repr

/-- The clock root's state outside its registers. -/
structure TimeSt where
  /-- STC, 64 bits (R37). -/
  stc : Nat
  /-- Fraction, 0 to 15,359 root cycles (R37). -/
  frac : Fin 15360
  /-- The root PLL has been enabled and the divided clocks run (R27). -/
  rootOn : Bool
  snapCrook : Snap
  snapHost : Snap
  snapDma : Snap
  /-- Consecutive samples of each source, for validity (R32). -/
  satRun : Nat
  linkRun : Nat
  tmarkRun : Nat
  /-- Consecutive samples within and beyond the lock threshold (R36). -/
  inThr : Nat
  outThr : Nat
  /-- A source has been valid since power-on (R36). -/
  everValid : Bool
  tp0 : TpSt
  tp1 : TpSt
  /-- Count and fraction recorded on entry to SLEEP (R43). -/
  sleepStc : Nat
  sleepFrac : Nat
  /-- A source was selected at entry to SLEEP (R43). -/
  sleepSel : Bool
  /-- The instant of the write that a pending load of the counter waits from (R40). -/
  loadAt : Nat
  /-- The instants of the last sample of each source, for validity (R32), and of the entry to HOLD (R36), in root cycles. -/
  satAt : Nat
  linkAt : Nat
  tmarkAt : Nat
  holdAt : Nat
  /-- The STC of the last steering step (R30). -/
  steerAt : Option Nat
  deriving DecidableEq, Repr

/-! ## Event fabric (chapter 12) -/

/-- An occurrence raised in the command in progress, not yet routed (R272). -/
structure Occ where
  id : Nat
  loc : Word
  arg : Word
  /-- For an end occurrence: was its start queued (R281)? -/
  startQueued : Bool
  /-- The instant at which it occurs, in root cycles. -/
  inst : Int
  /-- For an end occurrence: the instant at which the level began; else `inst`. -/
  since : Int
  deriving DecidableEq, Repr

/-- A queue entry (R274); `cls` follows from `id`. -/
structure EvEntry where
  more : Nat
  id : Nat
  loc : Word
  stc : Word
  arg : Word
  deriving DecidableEq, Repr

/-- A level event that is active (R272) with the number of occurrences it has suppressed (R282). -/
structure EvLevel where
  id : Nat
  loc : Word
  queued : Bool
  supp : Nat
  /-- The instant at which it began, in root cycles. -/
  since : Int
  deriving DecidableEq, Repr

structure EvtSt where
  batch : List Occ
  queue : List EvEntry
  /-- Routes by ID (R276), as EVT_ROUTE shows them. -/
  routes : KMap Word
  /-- Tallies by ID (R280): `supp` in bits 31:16, `total` in bits 15:0. -/
  tallies : KMap Word
  active : List EvLevel
  /-- Events that are no longer active, each with the last CLK_FAB cycle in which it was (R281), as a multiple of 8 root cycles. -/
  linger : List (Nat × Int)
  /-- The tree in force: (child, parent) (R281). -/
  tree : List (Nat × Nat)
  deriving DecidableEq, Repr

/-! ## Fold (chapter 03) -/

/-- A paddock descriptor (R58). -/
structure Pad where
  owner : Nat
  base : Nat
  length : Nat
  deriving DecidableEq, Repr

/-- A clock group descriptor (R60). -/
structure GrpDesc where
  en : Nat
  role : Nat
  fmt : Nat
  slots : Nat
  width : Nat
  asrc : Nat
  align : Nat
  deriving DecidableEq, Repr

/-- A lane descriptor (R60). -/
structure LaneDesc where
  en : Nat
  dir : Nat
  group : Nat
  src : Nat
  ring : Nat
  mask : Nat
  deriving DecidableEq, Repr

/-- A route (R60). -/
structure Route where
  lane : Nat
  slot : Nat
  role : Nat
  word : Nat
  deriving DecidableEq, Repr

/-- A parsed fold image (R51 to R64). -/
structure Fold where
  foldId : Word
  rate : Nat
  mck : Nat
  clkCtrl : Nat
  /-- Engines and relay words per flock (R56). -/
  flocks : List (Nat × Nat)
  pads : List Pad
  /-- 768 schedule bytes (R59). -/
  sched : List Nat
  groups : List GrpDesc
  lanes : List LaneDesc
  routes : List Route
  /-- Source and paddock per correlator channel (R61); empty when absent. -/
  corr : List (Nat × Nat)
  /-- Link channel and 128 unit codes (R62). -/
  plan : Option (Nat × List Nat)
  /-- Lane and slot per guarded channel (R63). -/
  guard : List (Nat × Nat)
  /-- (child, parent) edges (R64); none when absent. -/
  tree : Option (List (Nat × Nat))
  deriving DecidableEq, Repr

structure FoldSt where
  /-- The fold in force. -/
  cur : Option Fold
  /-- The fold that has passed its checks and waits for B or R. -/
  next : Option Fold
  /-- `at_time`, `hold` and FOLD_AT as taken at the write of `go` (R70). -/
  atTime : Bool
  hold : Bool
  at_ : Nat
  /-- STC of B and of R of the load under way. -/
  bAt : Nat
  rAt : Nat
  /-- Zeroing of the pasture runs (R70). -/
  zeroing : Bool
  /-- The shepherd's fold buffer (R50): the fold section that the load in force came from, which a wake applies (R433). -/
  buf : List Byte
  /-- The bundle as the write of `go` copied it into the fold buffer, which the checks alone read (R50, R70); where it could not be
  copied, the code that says why: 0x0C for a source outside its ranges (R69), 0x09 for a flash read error (R392). -/
  bundle : List Byte
  srcErr : Option Nat
  /-- The load under way is the start load or a wake, not a refold of firmware (R72, R433). -/
  startLoad : Bool
  deriving DecidableEq, Repr

/-! ## Sample engines and the crook's core (chapters 04 to 07) -/

/-- A write that has issued and not yet landed (R126). -/
inductive Wr where
  /-- Physical data register. -/
  | p (i : Nat) (v : PWord)
  /-- Accumulator part: key 2n real, 2n + 1 imaginary. -/
  | acc (k : Nat) (v : AWord)
  /-- A MAC result: the exact sums for the real and, where written, the imaginary part; `add`: onto the addend read one
  cycle before landing. -/
  | mac (n : Nat) (add : Bool) (re : Int) (im : Option Int)
  /-- Address-file register 0 to 47 (R116). -/
  | q (i : Nat) (v : QWord)
  /-- Z, N and C. -/
  | znc (z n c : Bool)
  /-- V and S, ORed. -/
  | vs (v s : Bool)
  /-- All five flags (`mtf`). -/
  | fl (f : BitVec 5)
  /-- V and S to 0 (`mvf.c`). -/
  | clrVS
  /-- A scratch word. -/
  | scratch (i : Nat) (v : Word)
  /-- A gate-buffer output word. -/
  | outw (i : Nat) (v : Word)
  /-- `n` bytes of crook RAM. -/
  | ram (a n v : Nat)
  /-- A system register of the crook (R171, R270). -/
  | sys (k : Nat) (v : Word)
  deriving DecidableEq, Repr

/-- What a taken control-flow instruction does to the window and the return stack at its target, with the depth at which it issued
(R112, R163). -/
inductive Link where
  /-- `br`, `jr`. -/
  | jump
  | call (w : Nat)
  | ret (w : Nat)
  deriving DecidableEq, Repr

/-- The link after a window shift in a delay slot has moved the level it names (R172): down for `spill`, up for `fill`. -/
def Link.shift (up : Bool) : Link → Link
  | .jump => .jump
  | .call w => .call (if up then w + 1 else w - 1)
  | .ret w => .ret (if up then w + 1 else w - 1)

/-- Where the program stands behind a control-flow instruction (R129). -/
inductive Slot where
  | none
  /-- Delay slots left; where taken, the target and the link. -/
  | delay (left : Nat) (taken : Option (Nat × Link))
  /-- Setup slots left. -/
  | setup (left : Nat)
  deriving DecidableEq, Repr

def Slot.shift (up : Bool) : Slot → Slot
  | .delay left (some (t, l)) => .delay left (some (t, l.shift up))
  | s => s

/-- The registers of R110 with the writes under way, for an engine or the crook. -/
structure Core where
  p : KMap PWord
  acc : KMap AWord
  q : KMap QWord
  /-- Z, N, C, V, S in bits 0 to 4 (R117). -/
  fl : BitVec 5
  wd : Nat
  lc : KMap Nat
  ls : KMap Nat
  le : KMap Nat
  rs : KMap Nat
  pc : Nat
  /-- Dither generator (engines). -/
  g : Word
  /-- The cycle of the next issue: CLK_SE cycle of the frame (engine), CLK_FAB cycle since release (crook). -/
  cyc : Nat
  pend : List (Nat × Wr)
  slot : Slot
  /-- Engine: `fend`, a forced end or a fault has ended the frame (R76 to R78). -/
  ended : Bool
  scratch : KMap Word
  outw : KMap Word
  inw : KMap Word
  deriving DecidableEq, Repr

/-- Everything zero. -/
def Core.zero : Core where
  p := []
  acc := []
  q := []
  fl := 0
  wd := 0
  lc := []
  ls := []
  le := []
  rs := []
  pc := 0
  g := 0
  cyc := 0
  pend := []
  slot := .none
  ended := false
  scratch := []
  outw := []
  inw := []

/-- A physical engine: its core, the frame boundaries until a pending `run_req` or `stop_req` takes effect (0: none;
R86), and the role it works for where `SE_STAT.role` does not show it (PREP, TWIN). -/
structure Eng where
  core : Core
  runIn : Nat
  stopIn : Nat
  deriving DecidableEq, Repr

def Eng.zero : Eng := ⟨Core.zero, 0, 0⟩

/-- Engine rotation (R91 to R97). -/
structure RotSt where
  /-- STC of the last completed handover's H, or of R (R91). -/
  lastH : Nat
  /-- The last released role; none after a fold load. -/
  lastRole : Option Nat
  /-- Roles claimed for an out-of-turn release, oldest first, each with the engine E whose pass made the claim (R94). -/
  claims : List (Nat × Nat)
  /-- A handover under way: role, E, S, STC of H. -/
  cur : Option (Nat × Fin 17 × Fin 17 × Nat)
  /-- The handover under way is cancelled; S returns to SPARE at the next boundary (R96). -/
  cancel : Bool
  /-- The role whose E is under test after a mismatch (R94). -/
  mism : Option Nat
  /-- E's and S's stores in the twin frame: cycle, kind (2 pasture, 3 relay), address or index, data. -/
  storesE : List (Nat × Nat × Nat × Nat)
  storesS : List (Nat × Nat × Nat × Nat)
  /-- E's bus reads of the twin frame: key cycle × 16 + place, data. -/
  readsE : KMap PWord
  deriving DecidableEq, Repr

/-! ## Pasture and coefficient store (chapter 08) -/

/-- Who waits for a pasture window word. -/
inductive WinReq where
  /-- A crook load: word `i` of the held loads. -/
  | crookLoad (i : Nat)
  /-- A crook store: held store `i`. -/
  | crookStore (i : Nat)
  | hostRead (id : Nat)
  | hostWrite (v : Word)
  /-- A DMA ring reads word `k` of the transaction `id` (`snd`: of the second side of a compare), or writes one of its words. -/
  | dmaRead (ring id k : Nat) (snd : Bool)
  | dmaWrite (ring id : Nat) (v : Word)
  /-- Writes of the acquisition buffer and the link receive buffer; the link transmit buffer reads its word `i`. -/
  | acqWrite (v : Word)
  | linkWrite (v : Word)
  | linkRead (i : Nat)
  deriving DecidableEq, Repr

/-- A write of one word of a physical bank (R179): its bank cycle, counted from the start of the frame in progress, so that one of the
frame before is negative; its key; the value and the check-bit state it leaves. -/
structure PasWr where
  cyc : Int
  key : Nat
  val : Word
  err : Nat
  deriving DecidableEq, Repr

/-- A bank mirror (R192 to R194): logical bank, P, S, next row of the sweep, and frame boundaries still to pass before the one
at which the banks swap. -/
structure Mirror where
  lb : Nat
  p : Fin 49
  s : Fin 49
  row : Nat
  wait : Nat
  deriving DecidableEq, Repr

structure PasSt where
  /-- Words of the physical banks: key bank × 131,072 + word. -/
  words : KMap Word
  /-- Check-bit state of a word: 0 good, 1 single-bit error, 2 uncorrectable. -/
  err : KMap Nat
  /-- Writes not yet in `words`: those of this frame, and of the last bank cycle of the frame before (R179). -/
  pend : List PasWr
  /-- The last store of an engine in this frame to a word: logical word, value (R344). -/
  stores : KMap (Option Word)
  /-- The paddocks and schedule in force from B (R70). -/
  pads : List Pad
  sched : List Nat
  /-- Waiting window words per logical bank, in order of arrival (R187): word of the window, requester. -/
  queue : List (Nat × WinReq)
  /-- Scrub: logical banks with a request pending, and write-backs waiting: their physical keys. -/
  scrubReq : List Nat
  scrubBack : List Nat
  /-- The next row per logical bank. -/
  scrubRow : KMap Nat
  /-- The instant at which the scrubber's next request falls due, in root cycles; none where none does (R182). -/
  scrubAt : Option Nat
  /-- The requester class granted last per logical bank: 0 W, 1 M, 2 C; default 2 (R186). -/
  lastGrant : KMap Nat
  mirror : Option Mirror
  /-- STC of the last swap, or of R (R191). -/
  lastH : Nat
  /-- The logical bank last released. -/
  lastLb : Option Nat
  /-- Relay words: key flock × 64 + index (R82). -/
  relay : KMap PWord
  /-- Relay writes of this frame: cycle, key, value, role, engine. -/
  relayPend : List (Nat × Nat × PWord × Nat × Nat)
  deriving DecidableEq, Repr

/-- A pending commit (R199 to R201): group, range as accepted, the earliest STC and fraction as a root-cycle count, or the
timed boundary. -/
structure Commit where
  grp : Nat
  base : Nat
  len : Nat
  /-- none: untimed. -/
  atStc : Option Nat
  /-- Untimed: the earliest instant, in root cycles of STC time. -/
  earliest : Nat
  /-- Requested with no fold in force (R472). -/
  noFold : Bool
  deriving DecidableEq, Repr

/-- A glide in progress on a slot (R204). -/
structure Glide where
  slot : Nat
  word : Nat
  split : Bool
  k : Nat
  a : Word
  b : Word
  j : Nat
  deriving DecidableEq, Repr

structure CoSt where
  active : KMap Word
  shadow : KMap Word
  /-- Glide table: key slot; bit 30 en, 29 split, 20:17 k, 16:0 word. -/
  slots : KMap Word
  glides : List Glide
  /-- What engines read in the frame before this one, for each word whose glide stepped at the last boundary (R204). -/
  prev : KMap Word
  commits : List Commit
  deriving DecidableEq, Repr

/-! ## The crook (chapter 11) -/

/-- How a returned crook load writes its register (R154). -/
inductive LoadDst where
  /-- Sign-extended word into a physical register. -/
  | word (p : Nat)
  /-- Zero-extended byte or half-word. -/
  | zext (p : Nat) (bytes : Nat)
  /-- `fill`: low word or guard byte of a register, or RS0. -/
  | fillLo (p : Nat)
  | fillHi (p : Nat)
  | rs0
  deriving DecidableEq, Repr

/-- A crook load that holds issue until its data returns (R123). -/
structure HeldLoad where
  addr : Nat
  bytes : Nat
  dst : LoadDst
  lat : Nat
  /-- The data of a pasture window word once its gap slot has served it. -/
  val : Option Word
  deriving DecidableEq, Repr

/-- A crook store that holds issue until it completes (R156). -/
structure HeldStore where
  addr : Nat
  bytes : Nat
  val : Nat
  done : Bool
  deriving DecidableEq, Repr

structure CrookSt where
  core : Core
  repc : Nat
  xb : Word
  yb : Word
  zb : Word
  /-- level, ie, exc in bits 0 to 2 (R255). -/
  mode : BitVec 3
  epc : Nat
  estat : BitVec 8
  cause : BitVec 17
  faddr : Word
  vbase : Word
  /-- Bit i: line i enabled. -/
  imask : Word64
  scr : KMap Word
  /-- What a read of CYC_LO left for CYC_HI (R270). -/
  cycSnap : Nat
  /-- Root cycle of STC time at which the crook was released. -/
  relAt : Int
  /-- Iterations left of a repeat under way, which an interrupt or a held access has divided (R123, R156, R165); 0: none. `repHeld`: it
  takes no interrupt between them (R163). -/
  repLeft : Nat
  repHeld : Bool
  /-- `rti` was the last instruction issued (R165). -/
  afterRti : Bool
  /-- A watchdog warning waits to be taken (R268). -/
  wdWarn : Bool
  /-- Remaining CLK_FAB cycles of the watchdog stage, and root cycles that have passed of the one under way. -/
  wdCount : Nat
  wdFrac : Nat
  /-- The cycle by which every access to crook RAM issued so far has completed (R170). -/
  memAt : Nat
  loads : List HeldLoad
  stores : List HeldStore
  /-- `wait` or `sync` holds issue. -/
  waiting : Bool
  syncing : Bool
  deriving DecidableEq, Repr

def CrookSt.zero : CrookSt where
  core := Core.zero
  repc := 0
  xb := 0
  yb := 0
  zb := 0
  mode := 0
  epc := 0
  estat := 0
  cause := 0
  faddr := 0
  vbase := 0
  imask := 0
  scr := []
  cycSnap := 0
  relAt := 0
  repLeft := 0
  repHeld := false
  afterRti := false
  wdWarn := false
  wdCount := 0
  wdFrac := 0
  memAt := 0
  loads := []
  stores := []
  waiting := false
  syncing := false

/-! ## Output guard (chapter 12) -/

/-- The state of a guarded channel (R288), and the effective d in force since the last frame boundary (R289). -/
structure GuardCh where
  m : Int
  s1 : Int
  s2 : Int
  n : Nat
  d : Nat
  deriving DecidableEq, Repr

def GuardCh.zero : GuardCh := ⟨0, 0, 0, 0, 0⟩

structure GuardSt where
  ch : KMap GuardCh
  deriving DecidableEq, Repr


/-! ## Serial audio ports (chapter 09) -/

/-- A lane: its buffer (R217), the words a frame-locked lane holds by slot for the serial frames of R220, its pending start and
stop (instants in root cycles), its pending mask (R225) and what it drives on its pin. -/
structure Lane where
  buf : List Word
  /-- Frame-locked input: words of the serial frame in progress and of the one before, by slot. -/
  inCur : KMap (Option Word)
  inPrev : KMap (Option Word)
  /-- Frame-locked output: words still to be sent of the serial frame in progress, and those of the next, by slot. -/
  outCur : KMap (Option Word)
  outNext : KMap (Option Word)
  /-- The frame side's words of the last frame boundary, by slot: what an input lane delivered (R80), or what was taken for an
  output lane from the routed output words (R81). -/
  side : KMap Word
  startAt : Option Nat
  stopAt : Option Nat
  /-- The pending start is a triggered one (R230). -/
  trig : Bool
  /-- Accepted masks, oldest first, with the serial frame starts left until each applies. -/
  maskPend : List (Nat × Nat)
  /-- The serial side takes part (R227, R228). -/
  serialOn : Bool
  /-- It took part in the previous serial frame, and the mask in force there: in I²S and TDM that frame's last word completes in this
  one (R212). -/
  serialPrev : Bool
  maskPrev : Nat
  /-- An output lane with `src` = 1 sends zero words before this instant (R71). -/
  muteTo : Nat
  /-- What a converter's channels hold (R222 to R224), by slot, newest first: each word and the start of its serial frame, or for an
  output lane the frame boundary at which it was taken. -/
  hist : KMap (List (Int × Word))
  /-- Masks in force on a converter's lane, newest first, each with the instant from which (R225). -/
  maskLog : List (Int × Nat)
  /-- A slip has been reported in the serial frame in progress (R219). -/
  slipU : Bool
  slipO : Bool
  /-- The word driven in the slot in progress; none: high-impedance (R216). -/
  pin : Option Word
  deriving DecidableEq, Repr

def Lane.zero : Lane := ⟨[], [], [], [], [], [], none, none, false, [], false, false, 0, 0, [], [], false, false, none⟩

/-- A clock group: pending halt and release (instants), and the slave's frame search and clock (R213, R214, R222). -/
structure Grp where
  haltAt : Option Nat
  relAt : Option Nat
  /-- A frame start has been seen since R, a release or a loss of clock. -/
  seen : Bool
  /-- Consecutive frame starts at the predicted count. -/
  good : Nat
  /-- The instants of the last 17 frame starts, newest first. -/
  starts : List Int
  /-- The ratios measured at the last 64 frame starts, newest first (R222). -/
  ratios : List Nat
  /-- The instant at which a slave that sees no frame start is without clock (R214). -/
  lossAt : Option Nat
  deriving DecidableEq, Repr

def Grp.zero : Grp := ⟨none, none, false, 0, [], [], none⟩

/-- An alignment group: its pending trigger (STC) and the instant of a pending stop. -/
structure AlignSt where
  trigAt : Option Nat
  stopAt : Option Nat
  deriving DecidableEq, Repr

def AlignSt.zero : AlignSt := ⟨none, none⟩

structure PrtSt where
  lanes : KMap Lane
  grps : KMap Grp
  aligns : KMap AlignSt
  deriving DecidableEq, Repr


/-! ## Self-test (chapter 17) -/

/-- A verdict whose state change waits for the first frame boundary after it (R417). -/
structure Verdict where
  unit : TestUnit
  pass : Bool
  due : Bool
  deriving DecidableEq, Repr

/-- A test under way (R413, R418): its unit, what started it, and the instant of its start. -/
structure RunTest where
  unit : TestUnit
  src : Nat
  start : Nat
  deriving DecidableEq, Repr

structure BstSt where
  tests : List RunTest
  verdicts : List Verdict
  /-- Pending requests (R419). -/
  reqEng : Option (Fin 17)
  reqBank : Option (Fin 49)
  /-- The idle engine tested last (R418). -/
  lastIdle : Option Nat
  /-- STC of Z of an accepted shutdown request (R425). -/
  zAt : Nat
  /-- Units that failed the shutdown test so far. -/
  shutFails : Nat
  deriving DecidableEq, Repr


/-! ## DMA (chapter 10) -/

/-- A transaction (R238): its number, its offset in the descriptor and its size in bytes. -/
structure Txn where
  id : Nat
  ofs : Nat
  bytes : Nat
  /-- The instant at which its read was issued (R250). -/
  issued : Int
  /-- The words read so far, by place; of a compare's second side too. -/
  data : KMap Word
  data2 : KMap Word
  /-- Words that have come from a lane, and window words of its read not yet served. -/
  got : Nat
  owed : Nat
  /-- Its data stand in the buffer. -/
  ready : Bool
  /-- Words handed to the target, window words of them not yet written, and the issue instants of its bursts not yet confirmed. -/
  sent : Nat
  open_ : Nat
  bursts : List Int
  /-- A failed read or write: the code. -/
  err : Option Nat
  /-- It drains after an earlier one of its descriptor failed; its data are discarded (R248). -/
  dead : Bool
  deriving DecidableEq, Repr

/-- A descriptor under way (R234, R240): where it lies, its words, bytes whose reads have been issued, bytes handed to the write
engine, and how it fails: the code, the first beat not written, whether STATUS can be written. -/
structure DescRun where
  addr : Nat
  ctrl : Nat
  len : Nat
  src : Nat
  dst : Nat
  pat : Word
  next : Nat
  rd : Nat
  wr : Nat
  fail : Option (Nat × Nat × Bool)
  mis : Option Nat
  txns : List Txn
  deriving DecidableEq, Repr

/-- A ring outside its registers: descriptors under way, oldest first; the next transaction's number; an abort under way; the instants
at which a descriptor fetch and a STATUS write that wait for their response were issued (R250). -/
structure Ring where
  descs : List DescRun
  nextId : Nat
  aborting : Bool
  fetchAt : Option Int
  statusAt : Option Int
  deriving DecidableEq, Repr

def Ring.zero : Ring := ⟨[], 0, false, none, none⟩

structure DmaSt where
  rings : KMap Ring
  /-- The rings served last by the read and by the write engine (R242). -/
  lastRd : Nat
  lastWr : Nat
  deriving DecidableEq, Repr


/-! ## RF front end (chapter 13) -/

/-- What a transmission carries: a burst of the link (R351 to R361) with its header and its data codewords' information bytes, or a
wake frame's code (R315). -/
inductive TxBody where
  | burst (hdr : List Byte) (mod8 : Bool) (nb : Nat) (words : List (List Byte))
  | wake (code : Word64)
  deriving DecidableEq, Repr

/-- A posted transmission (R308): its first slot unit, counted from STC 0, its length in units, its channel and power entry. -/
structure Tx where
  s : Nat
  units : Nat
  ch : Nat
  pwr : Nat
  body : TxBody
  deriving DecidableEq, Repr

structure RfSt where
  /-- Transmissions posted and not yet decided, oldest first (R308). -/
  posted : List Tx
  /-- The transmission that has passed the checks made at S. -/
  cur : Option Tx
  /-- The PA is keyed (R307). -/
  keyed : Bool
  /-- Slot units of the keyed interval counted so far (R291). -/
  counted : Nat
  /-- The symbol phases that leave in the keyed interval, in units of 1/1024 turn; for a wake frame its bits (R315, R353). -/
  air : List Nat
  /-- The end of the last keyed interval, in root cycles (R310). -/
  endAt : Nat
  /-- The ADC delivers valid samples; the instant from which it does (R295). -/
  adcValid : Bool
  adcAt : Nat
  /-- LNA gains in force and the slot-unit boundary at which a written gain lands (R295). -/
  gainA : Nat
  gainB : Nat
  gainAt : Option Nat
  /-- The channel of the link down-converter, and the boundary of a pending retune (R299). -/
  rxCh : Nat
  rxAt : Option Nat
  /-- Interleave corrections (retention domain, R303), in the units of `IlcStep`, and the instant of the last update. -/
  off0 : Int
  off1 : Int
  gain : Int
  skew : Int
  ilcAt : Option Nat
  /-- A foreground calibration under way (R312): IQ balance rather than LO leakage; the end of its run of idle units. -/
  cal : Option Bool
  calTo : Nat
  /-- The start of the monitor's next scan (R304). -/
  monAt : Option Nat
  /-- The last instant at which an overload, protect or a calibration ended, and at which protect ended (R304, R310). -/
  blindTo : Int
  protTo : Int
  deriving DecidableEq, Repr

def RfSt.zero : RfSt where
  posted := []
  cur := none
  keyed := false
  counted := 0
  air := []
  endAt := 0
  adcValid := false
  adcAt := 0
  gainA := 8
  gainB := 8
  gainAt := none
  rxCh := 0
  rxAt := none
  off0 := 0
  off1 := 0
  gain := 0
  skew := 0
  ilcAt := none
  cal := none
  calTo := 0
  monAt := none
  blindTo := -1
  protTo := -1


/-! ## Positioning baseband (chapter 14) -/

/-- The sums of a channel's correlators, VE, E, P, L and VL, real part first (R332, R334). -/
structure Sums where
  ve : Int × Int
  e : Int × Int
  p : Int × Int
  l : Int × Int
  vl : Int × Int
  deriving DecidableEq, Repr

def Sums.zero : Sums := ⟨(0, 0), (0, 0), (0, 0), (0, 0), (0, 0)⟩

/-- A channel's state, flag, Doppler phase, C/N0 and lock time before the loop update of an instant (R339). -/
structure LoopWas where
  inst : Nat
  state : Nat
  cont : Bool
  adr : Rat
  cn0 : Rat
  lockMs : Nat
  deriving DecidableEq, Repr

/-- A tracking channel outside its registers (R331 to R340). Phases and loop states are exact rationals: chips, cycles, Hz and
chips per second. -/
structure Chan where
  /-- The start instant of an accepted start, in root cycles. -/
  startAt : Option Nat
  /-- Prompt code phase within the primary period, primary periods completed, carrier phase, Doppler phase since TRACK. -/
  code : Rat
  periods : Nat
  carr : Rat
  adr : Rat
  /-- The instant at which the phases stand, in root cycles. -/
  at_ : Nat
  w : Rat
  fdop : Rat
  codeAdj : Rat
  rate : Rat
  /-- Dumps since the start (R334). -/
  ms : Nat
  sec : Nat
  /-- The integration under way: its sums so far; `full`: it waits for its end. -/
  sums : Option Sums
  full : Bool
  ovlInt : Bool
  ipPrev : Int
  qpPrev : Int
  lk : Rat
  sig2 : Rat
  spAvg : Rat
  cn0 : Rat
  /-- Consecutive good and not good integrations; ms in the state; ms since TRACK was entered. -/
  good : Nat
  bad : Nat
  msIn : Nat
  lockMs : Nat
  /-- A value written to GN_CH_DOP for the next integration end. -/
  aid : Option Word
  /-- Flags of the next record (R340). -/
  cont : Bool
  gap : Bool
  /-- What the correlators have summed since the last dump boundary, noise last (R333, R344). -/
  ai : Sums
  an : Int × Int
  /-- Milliseconds of code time at the next dump boundary, and the dumps that have ended and wait for their row, oldest first. -/
  msNext : Int
  ready : List (Sums × (Int × Int))
  /-- Frequency and code rate that apply from the next dump boundary (R335). -/
  due : Option (Rat × Rat)
  /-- What the last loop update replaced, for an epoch on its cycle (R339). -/
  was : Option LoopWas
  deriving DecidableEq, Repr

def Chan.zero : Chan where
  startAt := none
  code := 0
  periods := 0
  carr := 0
  adr := 0
  at_ := 0
  w := 0
  fdop := 0
  codeAdj := 0
  rate := 0
  ms := 0
  sec := 0
  sums := none
  full := false
  ovlInt := false
  ipPrev := 0
  qpPrev := 0
  lk := 0
  sig2 := 0
  spAvg := 0
  cn0 := 0
  good := 0
  bad := 0
  msIn := 0
  lockMs := 0
  aid := none
  cont := false
  gap := false
  ai := Sums.zero
  an := (0, 0)
  msNext := 0
  ready := []
  due := none
  was := none

/-- A notch filter outside its registers (R322 to R324): v, the last output, the reference centre, the scans since an auto notch was
refreshed, and of the block of 1,024 output samples in progress the sum a and the samples so far. -/
structure Notch where
  v : Rat × Rat
  y : Rat × Rat
  ref : Int
  age : Nat
  sum : Rat × Rat
  cnt : Nat
  deriving DecidableEq, Repr

def Notch.zero : Notch := ⟨(0, 0), (0, 0), 0, 0, (0, 0), 0⟩

/-- A search as requested (R326, R327): signal, PRNs, coherent segments, sums, bins, bin step in Hz and centre in units of 4 Hz. -/
structure SearchReq where
  sig : Nat
  prns : List Nat
  tc : Nat
  nn : Nat
  nb : Nat
  step : Nat
  ctr : Int
  deriving DecidableEq, Repr

def SearchReq.zero : SearchReq := ⟨0, [], 0, 0, 0, 0, 0⟩

/-- The acquisition engine outside its registers (R325). -/
structure AcqSt where
  /-- The instant of the capture start of an accepted `go`. -/
  startAt : Nat
  capturing : Bool
  /-- The request as accepted: src, pad, quantising shift, words to capture. -/
  src : Nat
  pad : Nat
  sh : Nat
  words : Nat
  /-- Words handed to the paddock so far, and an even sample that waits for its odd one. -/
  done : Nat
  half : Option (Int × Int)
  /-- RF_ADC_OVERLOAD was active during the capture (R329). -/
  ovl : Bool
  /-- The notch outputs of the capture's band since its start, with their instants, and the samples made of them (R325). -/
  band : List (Nat × (Int × Int))
  made : Nat
  /-- The capture FIFO has been full. -/
  fifoFull : Bool
  /-- The search that follows, and the instant at which it begins (R328). -/
  req : SearchReq
  searchAt : Nat
  deriving DecidableEq, Repr

def AcqSt.zero : AcqSt := ⟨0, false, 0, 0, 0, 0, 0, none, false, [], 0, false, SearchReq.zero, 0⟩

structure GnSt where
  ch : KMap Chan
  notch : KMap Notch
  acq : AcqSt
  /-- The epoch rate code in force (R339) and the STC of the last epoch. -/
  rate : Nat
  rateAt : Option Nat
  epochAt : Option Nat
  /-- The instants up to which the samples of the L1 and the L5 down-converter have been taken, in root cycles (R298). -/
  l1At : Nat
  l5At : Nat
  /-- The root was unlocked since the last epoch (R337). -/
  ru : Bool
  /-- RF_ADC_OVERLOAD was active since the last epoch (R340). -/
  ovl : Bool
  deriving DecidableEq, Repr

def GnSt.zero : GnSt := ⟨[], [], AcqSt.zero, 0, none, none, 0, 0, false, false⟩


/-! ## The Flenan link (chapter 15) -/

/-- A grant that waits for its beacons (R367): node number, address, beacons left. -/
structure Grant where
  node : Nat
  addr : Word48
  left : Nat
  deriving DecidableEq, Repr

/-- A stray that has not closed (R374). -/
structure Stray where
  stc : Word
  units : Nat
  level : Nat
  kind : Bool
  drove : Nat
  deriving DecidableEq, Repr

/-- Audio of a superframe on its way from the link transmit paddock to its burst (R378, R379): the superframe, channels, sample width
(true: 24 bits) and parity group, and its words in the order of the samples; none: not read yet. -/
structure AudJob where
  sf : Nat
  ch : Nat
  wide : Bool
  grp : Nat
  words : List (Option Word)
  deriving DecidableEq, Repr

structure LnkSt where
  /-- LNK_CTRL as it was applied at the last superframe boundary, and the boundary of a pending write (R365). -/
  ctrl : Word
  ctrlAt : Option Nat
  /-- The plan in force: 128 codes; none without a SLOTPLAN section (R363, R54). The plan of the next superframe, where a beacon
  has given one. -/
  plan : Option (List Nat)
  nextPlan : Option (List Nat)
  /-- The superframe number up to which SUPERFRAME_BOUNDARY has acted. -/
  sfDone : Option Nat
  /-- A hop: H and the channel (R376). -/
  hop : Option (Nat × Nat)
  /-- The hop that this bellwether announces in every beacon up to H (R376). -/
  hopAnn : Option (Nat × Nat)
  /-- A beacon of the drove was decoded in this superframe; missed beacons in a row; superframes in SEARCH without one; superframes
  in HOLD. -/
  heard : Bool
  missed : Nat
  scanCnt : Nat
  holdCnt : Nat
  /-- Addresses of the members by node number (bellwether). -/
  table : KMap (Option Word48)
  grants : List Grant
  /-- Node number granted, to be held from the next boundary (R368). -/
  granted : Option Nat
  /-- d4 by superframe and node: key sfn × 32 + node (R371). -/
  d4 : KMap (Option Int)
  /-- Uplinks decoded in this superframe; superframes without one, by node (R369). -/
  upSeen : List Nat
  upLost : KMap Nat
  /-- `bwm` of each node's last uplink since the last decoded beacon (R370). -/
  bwm : KMap (Option Bool)
  /-- The last measured d2 and its superframe; the superframe and node number of each uplink sent that has no sample yet (R371, R372). -/
  d2 : Option (Nat × Int)
  sentUp : List (Nat × Nat)
  /-- Join backoff: window, draw, and the beacons still to pass after a request (R368). -/
  cw : Nat
  b : Nat
  joinWait : Option Nat
  stray : Option Stray
  /-- Of this superframe: stray units, units with power above the stray threshold, and units with a valid header (R374, R375). -/
  foul : List Nat
  loud : List Nat
  heads : List Nat
  /-- The audio that the bellwether reads for its multicast run (R379). -/
  aud : Option AudJob
  /-- No audio before this STC (R381). -/
  audFrom : Nat
  deriving DecidableEq, Repr

def LnkSt.zero : LnkSt where
  ctrl := 0x200000
  ctrlAt := none
  plan := none
  nextPlan := none
  sfDone := none
  hop := none
  hopAnn := none
  heard := false
  missed := 0
  scanCnt := 0
  holdCnt := 0
  table := []
  grants := []
  granted := none
  d4 := []
  upSeen := []
  upLost := []
  bwm := []
  d2 := none
  sentUp := []
  cw := 0
  b := 0
  joinWait := none
  stray := none
  foul := []
  loud := []
  heads := []
  aud := none
  audFrom := 0


/-! ## Shepherd (chapter 16) -/

/-- Stages of the start sequence (R383): the shepherd in reset; from t0 until the root PLL locks; until the fuses are repaired; until
the start test ends; until the headers are checked; until every section is verified; until pass; passed; boot-hold. -/
inductive Stage where
  | inReset
  | t0
  | sense
  | test
  | select
  | verify
  | passing
  | passed
  | hold
  deriving DecidableEq, Repr

/-- A mailbox command that is running or waiting (R403): its code and arguments as accepted, the result once its work is done, and
the fuse bits it burns (row, bit), in order. -/
structure MbCmd where
  code : Nat
  arg0 : Word
  arg1 : Word
  result : Option Nat
  burns : List (Nat × Nat)
  deriving DecidableEq, Repr

/-- A bundle under way (R394 to R399): where it comes from (0 A, 1 B, 2 host), its header bytes, the sections verified so far, and
the bytes of a host stream that have arrived. -/
structure Boot where
  src : Nat
  hdr : List Byte
  next : Nat
  /-- The other slot's header, where it passed. -/
  alt : Option (List Byte)
  /-- Ranges written so far: address and length (R395). -/
  wrote : List (Nat × Nat)
  /-- Host stream: length of ARG0 and the bytes so far. -/
  len : Nat
  bytes : List Byte
  checked : Bool
  /-- CROOK sections have been copied and the crook runs; their hashes are still to be compared (R396). -/
  late : Bool
  deriving DecidableEq, Repr

structure ShpSt where
  stage : Stage
  /-- Fuse rows: bits fully burnt, bits that have received part of a burn, and bits that do not take a burn (a property of the
  part; R386, R387). -/
  fuse : KMap Word
  weak : KMap Word
  dud : KMap Word
  /-- Shadow rows (R388). -/
  shadow : KMap Word
  /-- Key RAM: the public key of the running image and the challenge (R409). -/
  key : List Byte
  chal : Option (List Byte)
  fails : Nat
  boot : Option Boot
  /-- Ranges of the flash, address and length, whose reads fail or bring no response (a property of the board; code 0x09). -/
  flashErr : List (Nat × Nat)
  /-- GUARD_GATE at pass (R397). -/
  gatePass : Word
  hostCmd : Option MbCmd
  crookCmd : Option MbCmd
  /-- Channels whose burns run or wait, in order of acceptance (true: host), and the instant the first one began (R403). -/
  burnQ : List Bool
  burnAt : Nat
  /-- The FIFO behind SHP_MB_DATA. -/
  fifo : List Word
  /-- A stream has failed: its later words are discarded until a command starts (R399). -/
  drop : Bool
  /-- The TAP's instruction register (R407). -/
  tap : Byte
  /-- CRK_ENTRY kept beside the wake record (R434). -/
  entryKept : Word
  deriving DecidableEq, Repr

def ShpSt.zero : ShpSt where
  stage := .inReset
  fuse := []
  weak := []
  dud := []
  shadow := []
  key := []
  chal := none
  fails := 0
  boot := none
  flashErr := []
  gatePass := 0
  hostCmd := none
  crookCmd := none
  burnQ := []
  burnAt := 0
  fifo := []
  drop := false
  tap := 0x01
  entryKept := 0


/-! ## Power and reset (chapter 18) -/

structure PwrSt where
  /-- Levels of the pins RST_N and PWR_GOOD, and of the retention supply. -/
  rstN : Bool
  pg : Bool
  supply : Bool
  /-- Root cycles since the last CLK32K edge counted in PWR_TMR (R435). -/
  frac32 : Nat
  /-- STC of Q of an accepted sleep command (R431). -/
  qAt : Nat
  /-- The entry sequence has passed Q. -/
  atQ : Bool
  /-- CLK32K cycles counted in SLEEP (R43), and those since the WAKE_IN sample (R433). -/
  slept : Nat
  /-- The instant of the WAKE_IN sample, in root cycles of STC time after relock. -/
  wakeAt : Nat
  /-- The end of the hashes of a wake, in root cycles (R406). -/
  hashAt : Nat
  /-- Engines that ran at Q (R434). -/
  ran : List Nat
  /-- STC of B_w, and whether B_w has passed. -/
  bwAt : Option Nat
  /-- CLK32K count of the last clear of GUARD_AIR_CNT; a reset has intervened (R441). -/
  airClear : Nat
  airReset : Bool
  /-- SE_STAT, FOLD_ENGINE, FOLD_BANK and the spare of both rotations as they stood at Q: the assignment that a wake keeps (R433). -/
  kept : KMap Word
  deriving DecidableEq, Repr

def PwrSt.zero : PwrSt := ⟨true, true, true, 0, 0, false, 0, 0, 0, [], none, 0, false, []⟩


/-! ## Host interface (chapter 19) -/

/-- A word in the write buffer: to an address, or of the stream region (R451, R454). -/
inductive HostWord where
  | to (addr : Nat) (v : Word)
  | stream (v : Word)
  deriving DecidableEq, Repr

/-- A read cell of the transaction (R449). -/
inductive Cell where
  | wait (addr : Nat)
  | word (v : Word)
  | error
  deriving DecidableEq, Repr

structure HifSt where
  buf : List HostWord
  /-- The cells of the last read transaction. -/
  cells : List Cell
  /-- Cells still to begin: next address, how many, fixed address. -/
  todo : Nat × Nat × Bool
  /-- The number of the window read that the waiting cell expects. -/
  rid : Nat
  /-- Reads of cells that ended while earlier writes still held them: their values are discarded (R449 to R451). -/
  late : List Nat
  /-- The root cycle in which the cell in progress began (R450). -/
  cellAt : Nat
  /-- The bytes of the last STATUS (R452). -/
  status : List Byte
  deriving DecidableEq, Repr

def HifSt.zero : HifSt := ⟨[], [], (0, 0, false), 0, [], 0, []⟩

/-- What hardware has set in the CLK_FAB cycle `cyc` of STC time (R7): W1C bits by register; and for each register with an RC field, and
each tally at 2^32 + ID, what it held before the changes of that cycle and what those make of zero. -/
structure Fresh where
  cyc : Nat
  bits : KMap Word
  was : KMap (Option Word)
  new : KMap Word
  deriving DecidableEq, Repr

def Fresh.zero : Fresh := ⟨0, [], [], []⟩

/-- The data that the last read returned to each requester. -/
structure BusSt where
  crook : Word
  host : Word
  dma : Word
  deriving DecidableEq, Repr

/-! ## The whole block -/

/-- Everything but the command queue. -/
structure Chip where
  /-- Registers by byte address; an unlisted one holds its reset value (`regReset`). -/
  regs : KMap Word
  /-- What hardware has set in the CLK_FAB cycle in progress (R7). -/
  fresh : Fresh
  /-- Counter of the free values drawn so far (the model's own field; assumption 3). -/
  free : Nat
  time : TimeSt
  evt : EvtSt
  fold : FoldSt
  eng : KMap Eng
  rot : RotSt
  pas : PasSt
  co : CoSt
  crook : CrookSt
  guard : GuardSt
  prt : PrtSt
  bst : BstSt
  dma : DmaSt
  rf : RfSt
  gn : GnSt
  lnk : LnkSt
  shp : ShpSt
  pwr : PwrSt
  hif : HifSt
  bus : BusSt
  /-- Retained RAM, 16 KiB by offset (R405, R420). -/
  ret : Mem
  /-- Crook RAM, program stores, LPDDR4X and the board's flash by byte address of the map (R20). -/
  mem : Mem
  deriving DecidableEq, Repr

/-! ## Reset -/

def TpCfg.zero : TpCfg := ⟨false, false, false, 0, 0, 0, 0, 0⟩
def TpSt.zero : TpSt := ⟨TpCfg.zero, false, 0, 0⟩

def TimeSt.zero : TimeSt where
  stc := 0
  frac := 0
  rootOn := false
  snapCrook := ⟨0, 0⟩
  snapHost := ⟨0, 0⟩
  snapDma := ⟨0, 0⟩
  satRun := 0
  linkRun := 0
  tmarkRun := 0
  inThr := 0
  outThr := 0
  everValid := false
  tp0 := TpSt.zero
  tp1 := TpSt.zero
  sleepStc := 0
  sleepFrac := 0
  sleepSel := false
  loadAt := 0
  satAt := 0
  linkAt := 0
  tmarkAt := 0
  holdAt := 0
  steerAt := none

def EvtSt.zero : EvtSt where
  batch := []
  queue := []
  routes := []
  tallies := []
  active := []
  linger := []
  tree := defaultTree

def FoldSt.zero : FoldSt where
  cur := none
  next := none
  atTime := false
  hold := false
  at_ := 0
  bAt := 0
  rAt := 0
  zeroing := false
  buf := []
  bundle := []
  srcErr := none
  startLoad := false

def RotSt.zero : RotSt where
  lastH := 0
  lastRole := none
  claims := []
  cur := none
  cancel := false
  mism := none
  storesE := []
  storesS := []
  readsE := []

def PasSt.zero : PasSt where
  words := []
  err := []
  pend := []
  stores := []
  pads := []
  sched := []
  queue := []
  scrubReq := []
  scrubBack := []
  scrubRow := []
  scrubAt := none
  lastGrant := []
  mirror := none
  lastH := 0
  lastLb := none
  relay := []
  relayPend := []

def CoSt.zero : CoSt := ⟨[], [], [], [], [], []⟩
def BstSt.zero : BstSt := ⟨[], [], none, none, none, 0, 0⟩
def BusSt.zero : BusSt := ⟨0, 0, 0⟩

/-- The device after a power-on reset with PWR_GOOD and RST_N up, at t0 of the start sequence (R383, R436): every register holds the
reset value of its table, fuses are unburnt, memories list nothing. -/
def Chip.powerOn : Chip where
  regs := []
  fresh := Fresh.zero
  free := 0
  time := TimeSt.zero
  evt := EvtSt.zero
  fold := FoldSt.zero
  eng := []
  rot := RotSt.zero
  pas := PasSt.zero
  co := CoSt.zero
  crook := CrookSt.zero
  guard := ⟨[]⟩
  prt := ⟨[], [], []⟩
  bst := BstSt.zero
  dma := ⟨[], 0, 0⟩
  rf := RfSt.zero
  gn := GnSt.zero
  lnk := LnkSt.zero
  shp := { ShpSt.zero with stage := .t0 }
  pwr := PwrSt.zero
  hif := HifSt.zero
  bus := BusSt.zero
  ret := []
  mem := []

/-- The block: what it holds and the commands that wait, first in, first out. -/
structure State where
  pending : List Instr
  chip : Chip
  deriving DecidableEq, Repr

/-- The state right after reset: nothing waits. -/
def State.reset : State := ⟨[], Chip.powerOn⟩

/-- No command of this block ends in a fault: it has no exception entry, and an error is an event or a flag of its state. The
type has no constructor; nobody raises it (safe). -/
inductive Fault where
  deriving DecidableEq, Repr

/-- Why a command has no meaning. -/
inductive Refusal where
  /-- An arm of `exec` that has no meaning yet, by the mnemonic of its row (safe: the machine stops where the hardware goes
  on). -/
  | notModelled (mnemonic : String)
  deriving DecidableEq, Repr

end Sys2Proof.Machine
end

