-- ==== Sys2Proof/Machine/Ops.lean ====
section
/-! DEFINITION. Ops.lean: the named operations over the state: registers and their fields, events, time, free values, and the
processors' cores. -/

namespace Sys2Proof.Machine

/-! ## Registers -/

/-- What the register at byte address `a` holds. -/
def Chip.rd (c : Chip) (a : Nat) : Word := KMap.get (regReset a) a c.regs

/-- Set a whole register, as hardware does: no access code applies. -/
def Chip.wr (c : Chip) (a : Nat) (v : Word) : Chip := { c with regs := KMap.set (regReset a) a v c.regs }

/-- The bits of a field in place. -/
def Fld.mask (f : Fld) : Word := BitVec.ofNat 32 ((2 ^ f.width - 1) * 2 ^ f.lo)

/-- A field's value. -/
def Chip.get (c : Chip) (f : Fld) : Nat := (c.rd f.addr).toNat / 2 ^ f.lo % 2 ^ f.width

/-- A field of one bit, as a truth value. -/
def Chip.bit (c : Chip) (f : Fld) : Bool := decide (c.get f ≠ 0)

/-- A field as a signed number. -/
def Chip.getS (c : Chip) (f : Fld) : Int := sext (c.get f) f.width

/-- A word with a field replaced. -/
def Fld.ins (f : Fld) (w : Word) (v : Nat) : Word :=
  (w &&& ~~~f.mask) ||| BitVec.ofNat 32 (v % 2 ^ f.width * 2 ^ f.lo)

/-- Set a field; the register's other bits stay. -/
def Chip.put (c : Chip) (f : Fld) (v : Nat) : Chip := c.wr f.addr (f.ins (c.rd f.addr) v)

/-- Set a one-bit field. -/
def Chip.putB (c : Chip) (f : Fld) (b : Bool) : Chip := c.put f (b2n b)

/-- Set a field to the low bits of a signed number. -/
def Chip.putS (c : Chip) (f : Fld) (v : Int) : Chip := c.put f (wrap v f.width)

/-- Add to a wrapping count field. -/
def Chip.incr (c : Chip) (f : Fld) : Chip := c.put f (c.get f + 1)

/-- A 64-bit register pair. -/
def Chip.rd64 (c : Chip) (lo hi : Nat) : Nat := (c.rd hi).toNat * 2 ^ 32 + (c.rd lo).toNat

/-- A field of a word that is being written. -/
def Fld.of (f : Fld) (v : Word) : Nat := v.toNat / 2 ^ f.lo % 2 ^ f.width

/-- A one-bit field of a word that is being written. -/
def Fld.ofB (f : Fld) (v : Word) : Bool := decide (f.of v ≠ 0)

/-- The register a plain write leaves, by the access codes of R6: RW bits take the data, W1C bits written 1 clear, W1S bits
written 1 set; every other bit stays. -/
def RegRow.written (r : RegRow) (old v : Word) : Word :=
  (((old &&& ~~~r.rw) ||| (v &&& r.rw)) &&& ~~~(v &&& r.w1c)) ||| (v &&& r.w1s)

/-! ## Bits and counts that hardware sets as software clears them (R7) -/

/-- Root cycles per tick (R26). -/
def rootPerTick : Nat := 15360

/-- Now, in root cycles of STC time. -/
def Chip.now (c : Chip) : Nat := c.time.stc * rootPerTick + c.time.frac.val

/-- What hardware has set in the CLK_FAB cycle of now. -/
def Chip.freshNow (c : Chip) : Fresh := if c.fresh.cyc = c.now / 8 then c.fresh else { Fresh.zero with cyc := c.now / 8 }

def Chip.setFresh (c : Chip) (f : Fresh) : Chip := { c with fresh := f }

/-- Hardware has set the bits `m` of the W1C register at `a`. -/
def Chip.noteBits (c : Chip) (a : Nat) (m : Word) : Chip :=
  let f := c.freshNow
  c.setFresh { f with bits := KMap.set 0 a (KMap.get 0 a f.bits ||| m) f.bits }

/-- Hardware changes an RC field, or a tally, that held `old` with the rest of its word: `g` is the change. -/
def Chip.noteRc (c : Chip) (key : Nat) (old : Word) (g : Word → Word) : Chip :=
  let f := c.freshNow
  c.setFresh { f with
    was := KMap.set none key (some ((KMap.get none key f.was).getD old)) f.was
    new := KMap.set 0 key (g (KMap.get 0 key f.new)) f.new }

/-- Hardware sets a W1C bit. -/
def Chip.latch (c : Chip) (f : Fld) : Chip := (c.put f 1).noteBits f.addr f.mask

/-- Hardware sets W1C bits of a register. -/
def Chip.latchBits (c : Chip) (a : Nat) (m : Word) : Chip := (c.wr a (c.rd a ||| m)).noteBits a m

/-- The bits of `v` that hardware has set in this cycle. -/
def Chip.collide (c : Chip) (a : Nat) (v : Word) : Word := KMap.get 0 a c.freshNow.bits &&& v

/-- A write has met them; a later write falls in another cycle, since a page takes one access in each (R18). -/
def Chip.dropBits (c : Chip) (a : Nat) (v : Word) : Chip :=
  let f := c.freshNow
  c.setFresh { f with bits := KMap.set 0 a (KMap.get 0 a f.bits &&& ~~~v) f.bits }

/-- Software writes 1 to a W1C bit. -/
def Chip.w1c (c : Chip) (f : Fld) : Chip := (if c.collide f.addr f.mask = 0 then c.put f 0 else c).dropBits f.addr f.mask

/-- A count one higher, saturating at the field's largest value. -/
def Fld.up (f : Fld) (n : Nat) : Nat := if n + 1 < 2 ^ f.width then n + 1 else 2 ^ f.width - 1

/-- Hardware changes an RC field (R7). -/
def Chip.rcChange (c : Chip) (f : Fld) (g : Nat → Nat) : Chip :=
  (c.put f (g (c.get f))).noteRc f.addr (c.rd f.addr) fun w => f.ins w (g (f.of w))

/-- Hardware counts in an RC field, saturating at its largest value. -/
def Chip.bump (c : Chip) (f : Fld) : Chip := c.rcChange f f.up

/-- The fields `rc` of the register or tally at `key`, which holds `cur`, are read: what the read returns, what the register holds
afterwards, and the record of the cycle (R7). -/
def Chip.readRc (c : Chip) (key : Nat) (cur rc : Word) : Word × Word × Fresh :=
  let f := c.freshNow
  match KMap.get none key f.was with
  | none => (cur, cur &&& ~~~rc, f)
  | some w => ((cur &&& ~~~rc) ||| (w &&& rc), (cur &&& ~~~rc) ||| (KMap.get 0 key f.new &&& rc),
      { f with was := KMap.set none key none f.was, new := KMap.set 0 key 0 f.new })

/-- A write under the access codes alone, with no effect of its own: a W1C bit that hardware has set in this cycle stays set (R7). -/
def Chip.plainWrite (c : Chip) (a : Nat) (v : Word) : Chip :=
  match regRow? a with
  | some r => (c.wr (regCanon a) (r.written (c.rd (regCanon a)) v ||| (c.collide (regCanon a) v &&& r.w1c))).dropBits (regCanon a) v
  | none => c

/-! ## Free values -/

/-- The next free value and the state that has drawn it (assumption 3). -/
def Chip.draw (c : Chip) : Nat × Chip := (Config.freeValue c.free, { c with free := c.free + 1 })

/-! ## Time (R37) -/

/-- Put the count at an instant given in root cycles. -/
def Chip.setNow (c : Chip) (n : Nat) : Chip :=
  { c with time := { c.time with stc := n / rootPerTick % 2 ^ 64, frac := Fin.ofNat 15360 n } }

/-- Root cycles per CLK32K cycle (R43): 15,360 × 375/64. -/
def rootPer32k : Nat := 90000

/-- Time passes: the count moves on by `d` root cycles, the crook's cycle count follows its own clock (one cycle per 8 root
cycles, R25), the watchdog counts down while it is on (R268), and the sleep timer counts CLK32K cycles (R435). -/
def Chip.advance (c : Chip) (d : Nat) : Chip :=
  let c1 := c.setNow (c.now + d)
  let k := c1.crook
  let cyc := if c1.bit F.CRK_STAT_running then max k.core.cyc ((Int.ofNat c1.now - k.relAt) / 8).toNat else k.core.cyc
  let wd := if c1.bit F.CRK_WDT_CTRL_en then (k.wdCount - (k.wdFrac + d) / 8, (k.wdFrac + d) % 8) else (k.wdCount, k.wdFrac)
  let t32 := c.pwr.frac32 + d
  let c2 : Chip := { c1 with
    crook := { k with core := { k.core with cyc := cyc }, wdCount := wd.1, wdFrac := wd.2 }
    pwr := { c.pwr with frac32 := t32 % rootPer32k } }
  c2.wr R.PWR_TMR (c2.rd R.PWR_TMR + BitVec.ofNat 32 (t32 / rootPer32k))

/-- Move time to the instant `n` where it lies ahead. -/
def Chip.advanceTo (c : Chip) (n : Nat) : Chip := if c.now < n then c.advance (n - c.now) else c

/-- Ticks per frame of a rate code (R38); none for code 3. -/
def frameTicks? : Nat → Option Nat
  | 0 => some 4
  | 1 => some 2
  | 2 => some 1
  | _ => none

/-- Ticks per frame of the fold in force, in a wake of the fold that is kept (R433); 4 where there is none. -/
def Chip.frameTicks (c : Chip) : Nat :=
  let kept := if c.get F.PWR_STAT_state = 4 then c.fold.next.map (·.rate) else none
  (frameTicks? (kept.getD (c.get F.FOLD_STAT_rate))).getD 4

/-- One frame period in root cycles (R199). -/
def Chip.framePeriod (c : Chip) : Nat := c.frameTicks * rootPerTick

/-- The instant of cycle `k` of the frame in progress, in root cycles. -/
def Chip.cycleRoot (c : Chip) (k : Nat) : Nat := c.now / c.framePeriod * c.framePeriod + 4 * k

/-- The CLK_SE cycle of the frame that now lies in (4 root cycles each, R25). -/
def Chip.seCycle (c : Chip) : Nat := c.now % c.framePeriod / 4

/-- CLK_SE cycles per frame (R74). -/
def Chip.frameCycles (c : Chip) : Nat := c.frameTicks * 3840

/-- The first tail cycle (R74). -/
def Chip.tailCycle (c : Chip) : Nat := c.frameCycles - 320

/-- The STC of the next frame boundary after now (R38). -/
def Chip.nextBoundary (c : Chip) : Nat := (c.time.stc / c.frameTicks + 1) * c.frameTicks

/-- The instant of the next frame boundary, in root cycles. -/
def Chip.boundaryRoot (c : Chip) : Nat := c.nextBoundary * rootPerTick

/-- The STC of the next superframe boundary after now (R348). -/
def Chip.nextSuperframe (c : Chip) : Nat := (c.time.stc / 384 + 1) * 384

/-- Is now a frame boundary of `ticks` per frame? -/
def Chip.atBoundary (c : Chip) (ticks : Nat) : Bool := decide (c.time.frac.val = 0 ∧ c.time.stc % ticks = 0)

/-! ## Events (R271 to R283) -/

/-- LOC of each kind (R275). -/
def locNone : Word := 0
def locEngine (flock n : Nat) : Word := BitVec.ofNat 32 (0x10000000 + flock % 8 * 256 + n % 32)
def locWord (pad bank : Nat) : Word := BitVec.ofNat 32 (0x20000000 + pad % 64 * 256 + bank % 64)
def locLane (lane slot : Nat) : Word := BitVec.ofNat 32 (0x30000000 + lane % 32 * 256 + slot % 16)
def locLaneAll (lane : Nat) : Word := BitVec.ofNat 32 (0x30000000 + lane % 32 * 256 + 128)
def locChannel (n : Nat) : Word := BitVec.ofNat 32 (0x40000000 + n % 128)
def locRing (n : Nat) : Word := BitVec.ofNat 32 (0x50000000 + n % 32)
def locGuard (ch lane slot : Nat) : Word := BitVec.ofNat 32 (0x60000000 + ch % 64 * 65536 + lane % 32 * 256 + slot % 16)
def locNode (n : Nat) : Word := BitVec.ofNat 32 (0x70000000 + n % 32)
def locGroup (g : Nat) : Word := BitVec.ofNat 32 (0x80000000 + g % 8)
def locAlign (g : Nat) : Word := BitVec.ofNat 32 (0x90000000 + g % 8)
def locReq : Req → Word
  | .crook => 0xA0000000
  | .host => 0xA0000001
  | .dma ring => BitVec.ofNat 32 (0xA0000002 + ring.toNat * 256)

/-- Bit 27 of LOC: the end occurrence of a level event. -/
def endBit : Word := 0x08000000

/-- Raise an occurrence of a pulse event at an instant; it is routed when the command ends. -/
def Chip.raiseAt (c : Chip) (t : Int) (id : Nat) (loc arg : Word) : Chip :=
  { c with evt := { c.evt with batch := c.evt.batch ++ [⟨id, loc, arg, false, t, t⟩] } }

/-- Raise an occurrence of a pulse event now. -/
def Chip.raise (c : Chip) (id : Nat) (loc arg : Word) : Chip := c.raiseAt c.now id loc arg

/-- The occurrences raised after the first `n` occur at the instant `t`: that of the instruction or the grant that raises them (R274). -/
def Chip.restamp (c : Chip) (n : Nat) (t : Int) : Chip :=
  if c.evt.batch.length ≤ n then c
  else { c with evt := { c.evt with batch := c.evt.batch.take n ++ (c.evt.batch.drop n).map fun o =>
      { o with inst := t, since := if o.loc &&& endBit ≠ 0 then o.since else t } } }

/-- Is the level event with this LOC active? -/
def EvtSt.isOn (e : EvtSt) (id : Nat) (loc : Word) : Bool := e.active.any fun l => decide (l.id = id ∧ l.loc = loc)

/-- A level event's condition begins (R272). No effect where it holds already. -/
def Chip.levelOn (c : Chip) (id : Nat) (loc arg : Word) : Chip :=
  if c.evt.isOn id loc then c
  else { c with evt := { c.evt with
    batch := c.evt.batch ++ [⟨id, loc, arg, false, c.now, c.now⟩]
    active := c.evt.active ++ [⟨id, loc, false, 0, c.now⟩] } }

/-- A level event's condition ends: an end occurrence whose argument is the number of occurrences it suppressed (R282). -/
def Chip.levelOff (c : Chip) (id : Nat) (loc : Word) : Chip :=
  match c.evt.active.find? fun l => decide (l.id = id ∧ l.loc = loc) with
  | none => c
  | some l => { c with evt := { c.evt with
      batch := c.evt.batch ++ [⟨id, loc ||| endBit, BitVec.ofNat 32 (min l.supp 0xFFFFFFFF), l.queued, c.now, l.since⟩]
      active := c.evt.active.filter fun x => !decide (x.id = id ∧ x.loc = loc) } }

/-- Ancestors of an event in a tree (R281), nearest first; at most `n` of them (R65 code 0x1E allows 7). -/
def ancestors (tree : List (Nat × Nat)) : Nat → Nat → List Nat
  | 0, _ => []
  | n + 1, id =>
    match tree.find? fun e => decide (e.1 = id) with
    | some e => e.2 :: ancestors tree n e.2
    | none => []

/-- The tree's depth limit. -/
def treeDepth : Nat := 7

/-- The route of an ID (R276). -/
def EvtSt.route (e : EvtSt) (id : Nat) : Word := KMap.get (evRouteReset id) id e.routes

/-- Is it the end occurrence of a level event? -/
def Occ.isEnd (o : Occ) : Bool := decide (o.loc &&& endBit ≠ 0)

/-- The CLK_FAB cycle of an instant. -/
def fabOf (t : Int) : Int := t.fdiv 8

/-- The last CLK_FAB cycle in which an event was active: a pulse's own, and the one before a level's end (R272). -/
def Occ.lastOn (o : Occ) : Int := if o.isEnd then fabOf o.inst - 1 else fabOf o.inst

/-- `EVT_LINGER.ms` in CLK_FAB cycles (R281). -/
def Chip.lingerCycles (c : Chip) : Int := Int.ofNat (c.get F.EVT_LINGER_ms * 368640)

/-- Does an event suppress its descendants in CLK_FAB cycle `t` (R281)? It is active then, or was within the linger; `batch`: the
occurrences of the command in progress. -/
def Chip.suppresses (c : Chip) (batch : List Occ) (t : Int) (id : Nat) : Bool :=
  let level := match evRow? id with
    | some r => r.level
    | none => false
  c.evt.active.any (fun l => decide (l.id = id ∧ fabOf l.since ≤ t)) ||
  c.evt.linger.any (fun e => decide (e.1 = id ∧ t ≤ e.2 / 8 + c.lingerCycles)) ||
  batch.any (fun o => decide (o.id = id) && (!level || o.isEnd) && decide (fabOf o.since ≤ t) && decide (t ≤ o.lastOn + c.lingerCycles))

/-- The ancestors that suppress an occurrence. -/
def Chip.heldBy (c : Chip) (batch : List Occ) (o : Occ) : List Nat :=
  (ancestors c.evt.tree treeDepth o.id).filter (c.suppresses batch (fabOf o.inst))

/-- A tally one occurrence later (R280): `total` counts always, `supp` where suppressed; both saturate. -/
def tallyUp (supp : Bool) (t : Word) : Word :=
  BitVec.ofNat 32 (min (t.toNat / 65536 + b2n supp) 65535 * 65536 + min (t.toNat % 65536 + 1) 65535)

/-- Count an occurrence (R280). -/
def EvtSt.tally (e : EvtSt) (id : Nat) (supp : Bool) : EvtSt :=
  { e with tallies := KMap.set 0 id (tallyUp supp (KMap.get 0 id e.tallies)) e.tallies }

/-- Mark the start of a level event as queued (R281). -/
def EvtSt.markQueued (e : EvtSt) (o : Occ) : EvtSt :=
  { e with active := e.active.map fun l => if l.id = o.id ∧ l.loc = o.loc then { l with queued := true } else l }

/-- Queue an unsuppressed occurrence (R277): coalesce, drop at a full queue, or add at the tail. -/
def Chip.enqueue (c : Chip) (o : Occ) : Chip :=
  if c.evt.queue.any (fun e => decide (e.id = o.id ∧ e.loc = o.loc)) then
    { c with evt := { (c.evt.markQueued o) with
      queue := c.evt.queue.map fun e =>
        if e.id = o.id ∧ e.loc = o.loc then { e with more := min (e.more + 1) 255 } else e } }
  else if 256 ≤ c.evt.queue.length then (c.bump F.EVT_Q_DROP_count).latch F.EVT_STAT_ovf
  else { c with evt := { (c.evt.markQueued o) with
    queue := c.evt.queue ++ [⟨0, o.id, o.loc, BitVec.ofInt 32 (o.inst.fdiv 15360), o.arg⟩] } }

/-- Set the latch of a direct line (R278). -/
def Chip.setLine (c : Chip) (line : Nat) : Chip :=
  if line < 2 then c
  else if line < 32 then c.latchBits R.EVT_LPEND_LO (BitVec.ofNat 32 (2 ^ line))
  else c.latchBits R.EVT_LPEND_HI (BitVec.ofNat 32 (2 ^ (line - 32)))

/-- The effects of one unsuppressed occurrence (R277 to R279). -/
def Chip.routeOcc (c : Chip) (o : Occ) : Chip :=
  let r := (c.evt.route o.id).toNat
  let c1 := if bitAt r 9 && (!o.isEnd || o.startQueued) then c.enqueue o else c
  let c2 := c1.setLine (field r 0 6)
  if bitAt r 10 then c2.latchBits R.EVT_HSUM (BitVec.ofNat 32 (2 ^ field r 11 5)) else c2

/-- An end occurrence's argument, with the occurrences of this command that its level suppressed (R282), and whether its start was
queued in this command. -/
def Chip.endArg (c : Chip) (batch : List Occ) (o : Occ) : Occ :=
  if !o.isEnd then o
  else
    let more := (batch.filter fun x => decide (o.since ≤ x.inst) && decide (x.inst < o.inst) && (c.heldBy batch x).contains o.id).length
    let began := c.evt.queue.any fun e => decide (e.id = o.id ∧ e.loc ||| endBit = o.loc) &&
      batch.any fun x => !x.isEnd && decide (x.id = o.id ∧ x.loc ||| endBit = o.loc)
    { o with arg := BitVec.ofNat 32 (min (o.arg.toNat + more) 0xFFFFFFFF), startQueued := o.startQueued || began }

/-- One occurrence: tally it, and either count it with the active level events that suppress it (R282) or route it. -/
def Chip.deliver (batch : List Occ) (c : Chip) (o : Occ) : Chip :=
  let anc := c.heldBy batch o
  let held := !anc.isEmpty
  let c1 := ({ c with evt := c.evt.tally o.id held }).noteRc (2 ^ 32 + o.id) (KMap.get 0 o.id c.evt.tallies) (tallyUp held)
  if held then
    { c1 with evt := { c1.evt with active := c1.evt.active.map fun l =>
        if (anc.contains l.id) = true ∧ l.since ≤ o.inst then { l with supp := l.supp + 1 } else l } }
  else c1.routeOcc (c.endArg batch o)

/-- The order of occurrences (R277): by cycle, within a cycle by ascending ID, then by ascending LOC. -/
def Occ.le (a b : Occ) : Bool :=
  let x := fabOf a.inst
  let y := fabOf b.inst
  decide (x < y) || (decide (x = y) &&
    (decide (a.id < b.id) || (decide (a.id = b.id) && decide (a.loc.toNat ≤ b.loc.toNat))))

/-- Put an occurrence in its place of a sorted list. -/
def insertOcc (o : Occ) : List Occ → List Occ
  | [] => [o]
  | x :: l => if o.le x then o :: x :: l else x :: insertOcc o l

/-- The occurrences of a command in order. -/
def sortOcc (l : List Occ) : List Occ := l.foldr insertOcc []

/-- An event that is no longer active lingers from its last active cycle (R281); one record per event, the latest. -/
def lingerNote (l : List (Nat × Int)) (o : Occ) : List (Nat × Int) :=
  let last := max (8 * o.lastOn) (((l.find? fun e => decide (e.1 = o.id)).map (·.2)).getD (8 * o.lastOn))
  (l.filter fun e => !decide (e.1 = o.id)) ++ [(o.id, last)]

/-- After a command: what its occurrences leave lingering. -/
def Chip.startLinger (c : Chip) (batch : List Occ) : Chip :=
  let gone := batch.filter fun o => o.isEnd || !(match evRow? o.id with
    | some r => r.level
    | none => false)
  { c with evt := { c.evt with linger := gone.foldl lingerNote c.evt.linger } }

/-- Route the occurrences of the command in progress, in order. -/
def Chip.flush (c : Chip) : Chip :=
  match c.evt.batch with
  | [] => c
  | o :: rest =>
    let b := sortOcc (o :: rest)
    let c0 := { c with evt := { c.evt with batch := [] } }
    (b.foldl (Chip.deliver b) c0).startLinger b

/-- The device reports an access violation (R8, R10, R21). -/
def Chip.violation (c : Chip) (r : Req) (addr : Nat) : Chip :=
  c.raise Ev.SYS_ACCESS_VIOLATION (locReq r) (BitVec.ofNat 32 addr)

/-! ## Engines and the crook's core -/

def Chip.engine (c : Chip) (n : Nat) : Eng := KMap.get Eng.zero n c.eng
def Chip.setEngine (c : Chip) (n : Nat) (e : Eng) : Chip := { c with eng := KMap.set Eng.zero n e c.eng }

/-- The core of a processor. -/
def Chip.core (c : Chip) : Proc → Core
  | .engine n => (c.engine n).core
  | .crook => c.crook.core

def Chip.setCore (c : Chip) (w : Proc) (k : Core) : Chip :=
  match w with
  | .engine n => c.setEngine n { c.engine n with core := k }
  | .crook => { c with crook := { c.crook with core := k } }

/-- Engine states (R85). -/
def seIdle : Nat := 0
def seStopped : Nat := 1
def seArmed : Nat := 2
def seRunning : Nat := 3
def seSpare : Nat := 4
def sePrep : Nat := 5
def seTwin : Nat := 6
def seTest : Nat := 7
def seUnusable : Nat := 8

/-- The state of engine `n`. -/
def Chip.seState (c : Chip) (n : Nat) : Nat := c.get (F.SE_STAT_state n)

/-- The role an engine holds, or the role a spare in PREP or TWIN takes over. -/
def Chip.roleOf (c : Chip) (n : Nat) : Option Nat :=
  let st := c.seState n
  if st = seStopped ∨ st = seArmed ∨ st = seRunning then some (c.get (F.SE_STAT_role n))
  else if st = sePrep ∨ st = seTwin then c.rot.cur.map (·.1)
  else none

/-- The flock of a role in a list of flocks (R57). -/
def flockOfRole : List (Nat × Nat) → Nat → Nat → Nat
  | [], _, f => f
  | (n, _) :: l, r, f => if r < n then f else flockOfRole l (r - n) (f + 1)

/-- The fold whose roles hold: from B of a load the new one, else the one in force. -/
def Chip.roleFold (c : Chip) : Option Fold :=
  if c.get F.FOLD_STAT_state = 3 then c.fold.next else c.fold.cur

/-- The flock an engine reports (R15): of its role, or of the role it takes over; 0 where it has none. -/
def Chip.flockOf (c : Chip) (n : Nat) : Nat :=
  match c.roleOf n, c.roleFold with
  | some r, some f => flockOfRole f.flocks r 0
  | _, _ => 0

/-- LOC of an engine event (R15). -/
def Chip.locEng (c : Chip) (n : Nat) : Word := locEngine (c.flockOf n) n

/-! ## Writes that land (R126 to R128) -/

/-- One write lands. `base` is the core before any write of this cycle landed: a MAC reads its addend there. -/
def Wr.land (base k : Core) : Wr → Core
  | .p i v => { k with p := KMap.set 0 i v k.p }
  | .acc i v => { k with acc := KMap.set 0 i v k.acc }
  | .mac n add re im =>
    let part := fun (key : Nat) (x : Int) (m : KMap AWord) =>
      let a := if add then (KMap.get 0 key base.acc).toInt else 0
      KMap.set 0 key (BitVec.ofInt 72 (satInt (a + x) (-(2 ^ 71)) (2 ^ 71 - 1))) m
    let m1 := part (2 * n) re k.acc
    { k with acc := match im with
      | some x => part (2 * n + 1) x m1
      | none => m1 }
  | .q i v => { k with q := KMap.set 0 i v k.q }
  | .znc z n c => { k with fl := (k.fl &&& 0b11000) ||| BitVec.ofNat 5 (b2n z + 2 * b2n n + 4 * b2n c) }
  | .vs _ _ => k
  | .fl f => { k with fl := f }
  | .clrVS => { k with fl := k.fl &&& 0b00111 }
  | .scratch i v => { k with scratch := KMap.set 0 i v k.scratch }
  | .outw i v => { k with outw := KMap.set 0 i v k.outw }
  | .ram _ _ _ => k
  | .sys _ _ => k

/-- Does a MAC part leave the accumulator range (R131)? -/
def macOver (base : Core) (add : Bool) (key : Nat) (x : Int) : Bool :=
  let a := if add then (KMap.get 0 key base.acc).toInt else 0
  decide (a + x < -(2 ^ 71) ∨ 2 ^ 71 - 1 < a + x)

/-- The V and S bits a write ORs in where it lands: V in bit 3, S in bit 4. -/
def Wr.ors (base : Core) : Wr → BitVec 5
  | .vs v s => BitVec.ofNat 5 (8 * b2n v + 16 * b2n s)
  | .mac n add re im =>
    let vi := match im with
      | some x => macOver base add (2 * n + 1) x
      | none => false
    BitVec.ofNat 5 (8 * b2n (macOver base add (2 * n) re || vi))
  | _ => 0

/-- The writes of one cycle land together: in issue order, and V and S take the OR of all (R128). -/
def Core.landGroup (base : Core) (ws : List Wr) : Core :=
  let k := ws.foldl (Wr.land base) base
  { k with fl := ws.foldl (fun f w => f ||| w.ors base) k.fl }

/-- The earliest landing cycle of a list. -/
def firstLand : List (Nat × Wr) → Option Nat
  | [] => none
  | (l, _) :: r =>
    match firstLand r with
    | none => some l
    | some m => some (min l m)

/-- Land every write due at `cyc` or earlier, cycle by cycle (`fuel` bounds the number of landing cycles). -/
def Core.landSteps (cyc : Nat) : Nat → Core → Core
  | 0, k => k
  | fuel + 1, k =>
    match firstLand k.pend with
    | none => k
    | some l =>
      if l ≤ cyc then
        let ws := (k.pend.filter fun e => decide (e.1 = l)).map (·.2)
        let rest := k.pend.filter fun e => !decide (e.1 = l)
        Core.landSteps cyc fuel { Core.landGroup { k with pend := [] } ws with pend := rest }
      else k

def Core.landTo (k : Core) (cyc : Nat) : Core := Core.landSteps cyc k.pend.length k

/-- The crook's own writes that land outside its core: RAM bytes and system registers. -/
def CrookSt.setSys (s : CrookSt) (k : Nat) (v : Word) : CrookSt :=
  let n := v.toNat
  let kc := s.core
  if k = 0x0 then { s with repc := n % 2 ^ 9 }
  else if k = 0x1 then { s with xb := v }
  else if k = 0x2 then { s with yb := v }
  else if k = 0x3 then { s with zb := v }
  else if k = 0x4 then { s with core := { kc with wd := n % 16 } }
  else if 0x8 ≤ k ∧ k ≤ 0xB then { s with core := { kc with lc := KMap.set 0 (k - 0x8) (n % 2 ^ 17) kc.lc } }
  else if 0xC ≤ k ∧ k ≤ 0xF then { s with core := { kc with ls := KMap.set 0 (k - 0xC) (n % 2 ^ 20) kc.ls } }
  else if 0x10 ≤ k ∧ k ≤ 0x13 then { s with core := { kc with le := KMap.set 0 (k - 0x10) (n % 2 ^ 20) kc.le } }
  else if 0x20 ≤ k ∧ k ≤ 0x2D then { s with core := { kc with rs := KMap.set 0 (k - 0x20) (n % 2 ^ 20) kc.rs } }
  else if k = 0x100 then { s with epc := n % 2 ^ 20 }
  else if k = 0x101 then { s with estat := BitVec.ofNat 8 n }
  else if k = 0x104 then { s with mode := BitVec.ofNat 3 n }
  else if k = 0x105 then { s with vbase := BitVec.ofNat 32 (n / 2048 * 2048) }
  else if k = 0x108 then { s with imask := BitVec.ofNat 64 (s.imask.toNat / 2 ^ 32 * 2 ^ 32 + n) }
  else if k = 0x109 then { s with imask := BitVec.ofNat 64 (n * 2 ^ 32 + s.imask.toNat % 2 ^ 32) }
  else if 0x10C ≤ k ∧ k ≤ 0x10F then { s with scr := KMap.set 0 (k - 0x10C) v s.scr }
  else s

/-- The outer effect of a crook write that has landed. -/
def Chip.landOuter (c : Chip) : Wr → Chip
  | .ram a n v => { c with mem := Mem.write a v c.mem n }
  | .sys k v => { c with crook := c.crook.setSys k v }
  | _ => c

/-- Land what is due at `cyc` on a processor. -/
def Chip.landTo (c : Chip) (w : Proc) (cyc : Nat) : Chip :=
  let k := c.core w
  let due := (k.pend.filter fun e => decide (e.1 ≤ cyc)).map (·.2)
  if due.isEmpty then c
  else match w with
    | .engine _ => c.setCore w (k.landTo cyc)
    | .crook => due.foldl Chip.landOuter (c.setCore w (k.landTo cyc))

end Sys2Proof.Machine
end

