-- ==== Sys2Proof/Machine/Flags.lean ====
section
/-! DEFINITION. Flags.lean: the flags FL (R117), the condition codes (R118), and the flag writes of each instruction group
(R134). -/

namespace Sys2Proof.Machine

/-- Z, N, C, V, S (R117). -/
def flZ (f : BitVec 5) : Bool := f.getLsbD 0
def flN (f : BitVec 5) : Bool := f.getLsbD 1
def flC (f : BitVec 5) : Bool := f.getLsbD 2
def flV (f : BitVec 5) : Bool := f.getLsbD 3
def flS (f : BitVec 5) : Bool := f.getLsbD 4

/-- Is condition `cc` true (R118)? Codes 13 to 15 are reserved and never reach this. -/
def condTrue (cc : Nat) (f : BitVec 5) : Bool :=
  if cc = 0 then true
  else if cc = 1 then flZ f
  else if cc = 2 then !flZ f
  else if cc = 3 then flN f
  else if cc = 4 then !flN f
  else if cc = 5 then flZ f || flN f
  else if cc = 6 then !flZ f && !flN f
  else if cc = 7 then flC f
  else if cc = 8 then !flC f
  else if cc = 9 then flV f
  else if cc = 10 then !flV f
  else if cc = 11 then flS f
  else if cc = 12 then !flS f
  else false

/-- Z and N of a 40-bit result with the carry `c` (data arithmetic, R134). -/
def znc40 (v : PWord) (c : Bool) : Nat × Wr := (1, .znc (decide (v = 0)) v.msb c)

/-- Z from bits 31:0 of the result and N = result bit 31, with the carry `c` (logic and shift, R134). -/
def znc32 (v : PWord) (c : Bool) : Nat × Wr := (1, .znc (decide (pU v = 0)) (bitAt (pU v) 31) c)

/-- The carry of an addition and the borrow of a subtraction on 32-bit unsigned values (R142). -/
def c32 (a b k : Nat) : Bool := decide (2 ^ 32 ≤ a + b + k)
def b32 (a b k : Nat) : Bool := decide (a < b + k)

end Sys2Proof.Machine
end

