-- ==== Sys2Proof/Machine/Operands.lean ====
section
/-! DEFINITION. Operands.lean: how an instruction reads its operands (R104, R111, R113, R131, R133), how it limits its results
(R131), the effective addresses of R119, and the conversion of a store (R147 to R150). -/

namespace Sys2Proof.Machine

/-- What one iteration of an instruction sees: its processor, that processor's core as it stands at the issue cycle, and the
instruction's prefixes. -/
structure Ctx where
  w : Proc
  k : Core
  px : Px
  deriving DecidableEq, Repr

/-- The physical register a d field names: through the window (R111) or through `wabs` (R101). At WD = 15 the number wraps modulo 256 (DESIGN
CHOICE; assumption 134). -/
def Ctx.preg (x : Ctx) (f : Nat) : Nat :=
  match x.px.wabs with
  | some b => (b.toNat + f) % 256
  | none => (16 * x.k.wd + f) % 256

/-- d_f, all 40 bits. -/
def Ctx.d (x : Ctx) (f : Nat) : PWord := KMap.get 0 (x.preg f) x.k.p
/-- r(f) of R131. -/
def Ctx.r (x : Ctx) (f : Nat) : Int := pR (x.d f)
/-- u(f) of R131. -/
def Ctx.u (x : Ctx) (f : Nat) : Nat := pU (x.d f)
/-- i(f) of R131. -/
def Ctx.i (x : Ctx) (f : Nat) : Int := sext (x.u f) 32
/-- re(n) and im(n) of R131. -/
def Ctx.re (x : Ctx) (n : Nat) : Int := (KMap.get 0 (2 * n) x.k.acc).toInt
def Ctx.im (x : Ctx) (n : Nat) : Int := (KMap.get 0 (2 * n + 1) x.k.acc).toInt
/-- An address-file register (R116); 48 to 63 read as zero (R157). -/
def Ctx.q (x : Ctx) (n : Nat) : QWord := if n < 48 then KMap.get 0 n x.k.q else 0

/-- sop(f) of R131: the q31 value. -/
def Ctx.sop (x : Ctx) (f : Nat) : Int := satInt (x.r f) (-(2 ^ 31)) (2 ^ 31 - 1)
/-- Does sop(f) limit, and so set S? -/
def Ctx.sopLim (x : Ctx) (f : Nat) : Bool := decide (x.r f < -(2 ^ 31) ∨ 2 ^ 31 - 1 < x.r f)

/-- dres(v) of R131. -/
def dres (v : Int) : PWord := BitVec.ofInt 40 (satInt v (-(2 ^ 39)) (2 ^ 39 - 1))
/-- Does dres(v) limit, and so set V? -/
def dresLim (v : Int) : Bool := decide (v < -(2 ^ 39) ∨ 2 ^ 39 - 1 < v)
/-- ares(v) of R131. -/
def ares (v : Int) : AWord := BitVec.ofInt 72 (satInt v (-(2 ^ 71)) (2 ^ 71 - 1))
def aresLim (v : Int) : Bool := decide (v < -(2 ^ 71) ∨ 2 ^ 71 - 1 < v)

/-- A write of d_f after `lat` cycles. -/
def Ctx.setD (x : Ctx) (lat f : Nat) (v : PWord) : Nat × Wr := (lat, .p (x.preg f) v)

/-- A write of V and S where one of them is set. -/
def vsW (lat : Nat) (v s : Bool) : List (Nat × Wr) := if v || s then [(lat, .vs v s)] else []

/-! ## Fields of the format classes (R104) -/

def fRd (f : Nat) : Nat := field f 0 5
def fRs1 (f : Nat) : Nat := field f 5 5
def fRs2 (f : Nat) : Nat := field f 10 5
def fAcc (f : Nat) : Nat := field f 0 3
def fOpt (f : Nat) : Nat := field f 3 2
def fX (f : Nat) : Nat := field f 5 5
def fY (f : Nat) : Nat := field f 10 5
def fAcc2 (f : Nat) : Nat := field f 5 3

/-! ## Multiplier operands (R133) -/

/-- P(x, y) of R133 in units of 2⁻⁶³. -/
def Ctx.prod (x : Ctx) (opt a b : Nat) : Int :=
  if opt = 0 then 2 * x.sop a * x.sop b
  else if opt = 1 then 4 * x.sop a * x.sop b
  else if opt = 2 then x.sop a * Int.ofNat (x.u b)
  else Int.ofNat (x.u a * x.u b / 2)

/-- Which operands pass sop under an option, and so may set S: both, the first, or none. -/
def Ctx.prodLim (x : Ctx) (opt a b : Nat) : Bool :=
  if opt = 0 ∨ opt = 1 then x.sopLim a || x.sopLim b
  else if opt = 2 then x.sopLim a
  else false

/-! ## Effective addresses (R119) -/

/-- The smallest power of two at or above `l`, from `2^k` on. -/
def pow2AtLeast (l : Nat) : Nat → Nat → Nat
  | 0, b => b
  | n + 1, b => if l ≤ b then b else pow2AtLeast l n (2 * b)

/-- ea and the new address register of modes 0 to 5; `w` is the number of units, `disp` the index where `hasDisp`. -/
def addrMode (mode : Nat) (a m : QWord) (l : QWord) (w scale : Nat) (hasDisp : Bool) (disp : Int) : Nat × QWord :=
  if mode = 0 then (a.toNat, a)
  else if mode = 1 then (a.toNat, a + BitVec.ofNat 24 w)
  else if mode = 2 then (a.toNat, a + m)
  else if mode = 3 then ((a - BitVec.ofNat 24 w).toNat, a - BitVec.ofNat 24 w)
  else if mode = 4 then
    ((BitVec.ofInt 24 (Int.ofNat a.toNat + (if hasDisp then disp else m.toInt) * Int.ofNat (2 ^ scale))).toNat, a)
  else
    (a.toNat,
      if l.toNat = 0 then a + m
      else
        let size := pow2AtLeast l.toNat 25 1
        let base := a.toNat - a.toNat % size
        BitVec.ofNat 24 (base + (fmod (Int.ofNat (a.toNat - base) + m.toInt) (Int.ofNat l.toNat)).toNat))

/-! ## Conversion to 32 bits (R147 to R150) -/

/-- One step of the dither generator (R149). -/
def ditherNext (g : Word) : Word :=
  let g1 := g ^^^ (g <<< 13)
  let g2 := g1 ^^^ (g1 >>> 17)
  g2 ^^^ (g2 <<< 5)

/-- dither(q) from a generator value (R149). -/
def ditherVal (g : Word) (q : Nat) : Int :=
  fdiv ((Int.ofNat (g.toNat / 65536) + Int.ofNat (g.toNat % 65536) - 65535) * Int.ofNat q) 65536

/-- The conversion of `v` in store mode `mode` (0 T, 1 H, 2 D) with step `q`: the word, and whether S sets (R148). In mode D
`g` is the generator after its step; the crook passes mode T for D (R150). -/
def convert (mode q : Nat) (g : Word) (v : Int) : Word × Bool :=
  let x0 := if mode = 1 then v + fdiv (Int.ofNat q) 2 else if mode = 2 then v + ditherVal g q else v
  let x := x0 - fmod x0 (Int.ofNat q)
  let hi : Int := 2 ^ 31 - Int.ofNat q
  (BitVec.ofInt 32 (satInt x (-(2 ^ 31)) hi), decide (x < -(2 ^ 31) ∨ hi < x))

/-- The store mode of an instruction: T without the prefix; D acts as T in the crook (R147, R150). -/
def Ctx.storeMode (x : Ctx) : Nat :=
  match x.px.sm with
  | none => 0
  | some b => if b.toNat = 2 ∧ x.w.isCrook then 0 else b.toNat

end Sys2Proof.Machine
end

