-- ==== Sys2Proof/Machine/Legal.lean ====
section
/-! DEFINITION. Legal.lean: which encodings are legal (R98, R101 to R109): the format class and length of every opcode, the
fields that must be zero or even, the prefixes each opcode accepts, and the contexts it is legal in. A decoder of raw bytes for
ILLEGAL_ENCODING stands at the end. -/

namespace Sys2Proof.Machine

/-- The format classes of R104. -/
inductive Cls where
  | n | j | r | a | q | g | m | i16 | ri | b | i32 | l | p
  deriving DecidableEq, Repr

/-- Is `o` in `lo` to `hi`? -/
def inR (o lo hi : Nat) : Bool := decide (lo ≤ o) && decide (o ≤ hi)

/-- The format class of an opcode (R107); none where the opcode map reserves it (R106). -/
def classOf (o : Nat) : Option Cls :=
  if inR o 0x00 0x0F || inR o 0x20 0x27 || inR o 0x4C 0x4D then some .a
  else if inR o 0x10 0x1F || inR o 0x30 0x33 || inR o 0x40 0x43 || inR o 0x48 0x4B || inR o 0x4E 0x53 ||
      inR o 0x5B 0x5C || inR o 0x70 0x71 || inR o 0xC0 0xC4 then some .r
  else if inR o 0x28 0x2A || inR o 0x44 0x47 || inR o 0x54 0x5A || o == 0x77 || inR o 0xD1 0xD2 then some .i16
  else if inR o 0x60 0x6A || inR o 0x7B 0x7E then some .m
  else if inR o 0x6B 0x6C || inR o 0x78 0x7A || o == 0xB0 then some .g
  else if o == 0x72 || o == 0x76 then some .i32
  else if inR o 0x74 0x75 then some .q
  else if inR o 0x80 0x97 then some .p
  else if inR o 0xA0 0xA1 then some .b
  else if inR o 0xA2 0xA4 then some .j
  else if inR o 0xA5 0xA6 then some .l
  else if inR o 0xA7 0xA9 || o == 0xD0 || inR o 0xD3 0xD8 then some .n
  else if inR o 0xC6 0xC8 then some .ri
  else none

/-- Bytes of an instruction from its opcode on (R104); class M adds its displacement bytes. -/
def classLen (c : Cls) (pl : Nat) : Nat :=
  match c with
  | .n => 1
  | .j => 2
  | .r => 3
  | .a => 3
  | .q => 3
  | .g => 3
  | .m => 3 + min (field pl 14 2) 2
  | .i16 => 4
  | .ri => 5
  | .b => 5
  | .i32 => 6
  | .l => 6
  | .p => 6

/-- An encoded instruction without its prefixes: the opcode and the bytes after it as one little-endian number. -/
structure Enc where
  op : Nat
  pl : Nat
  deriving DecidableEq, Repr

/-- Its length in bytes; a reserved opcode is one byte. -/
def Enc.len (e : Enc) : Nat :=
  match classOf e.op with
  | some c => classLen c e.pl
  | none => 1

/-- Bytes of the prefixes with their payloads (R101). -/
def pxLen (px : Px) : Nat :=
  2 * (b2n px.rep.isSome + b2n px.cond.isSome + b2n px.sm.isSome + b2n px.wabs.isSome) + b2n px.bswap + b2n px.split

/-- Bytes of the whole instruction. -/
def instrLen (px : Px) (e : Enc) : Nat := pxLen px + e.len

/-- Names an even register (R114). -/
def even (n : Nat) : Bool := n % 2 == 0

/-- Fields of a class A instruction (R104, R135 to R141, R146). -/
def fieldsA (o f : Nat) (split : Bool) : Bool :=
  !bitAt f 15 &&
  (if inR o 0x00 0x07 then even (fX f) && even (fY f)
   else if inR o 0x08 0x0B then true
   else if inR o 0x0C 0x0F then even (fX f) && even (fY f) && (!split || !bitAt f 4)
   else if o == 0x20 || o == 0x25 then field f 5 10 == 0
   else if inR o 0x21 0x23 then field f 8 7 == 0
   else if o == 0x24 then fX f == 0
   else if o == 0x26 || o == 0x27 then fY f == 0 && (fOpt f != 2 || even (fX f))
   else if o == 0x4C then field f 5 10 == 0
   else fY f == 0 && (fOpt f != 3 || even (fX f)))

/-- Fields of a class R instruction (R104, R139, R142 to R146, R157, R173 to R175). -/
def fieldsR (o f : Nat) : Bool :=
  !bitAt f 15 &&
  (if o == 0x14 || o == 0x15 || o == 0x1F || o == 0x33 || o == 0x48 || o == 0x49 || o == 0x53 || o == 0x5B || o == 0x5C ||
      o == 0x70 || inR o 0xC2 0xC4 then fRs2 f == 0
   else if o == 0x18 then fRd f == 0
   else if o == 0x19 then fRd f == 0 && fRs2 f == 0
   else if o == 0x1A || o == 0x1B || o == 0x31 || o == 0x32 then even (fRd f) && even (fRs1 f) && even (fRs2 f)
   else if o == 0x1C || o == 0x1D || o == 0x71 then even (fRd f) && even (fRs1 f) && fRs2 f == 0
   else if o == 0x1E then even (fRs1 f) && fRs2 f == 0
   else if o == 0x4B then even (fRs1 f)
   else true)

/-- The bus of a class M opcode: 0 X, 1 Y, 2 Z (R153). -/
def busOfM (o : Nat) : Nat :=
  if o == 0x62 || o == 0x63 || o == 0x68 then 1
  else if o == 0x64 || o == 0x65 || o == 0x69 || o == 0x6A then 2
  else 0

/-- Fields of a class M instruction (R104, R109, R152, R153). -/
def fieldsM (crook : Bool) (o f : Nat) : Bool :=
  let mode := field f 9 3
  let dsz := field f 14 2
  dsz != 3 && mode != 7 &&
  (mode == 4 || mode == 6 || (dsz == 0 && field f 12 2 == 0)) &&
  (mode != 6 || (!crook && busOfM o == 0)) &&
  (!(inR o 0x66 0x6A) || even (fRd f))

/-- A move field of class P as (d, address register number, mode): first or second (R105). -/
def moveField (v24 : Nat) (second : Bool) : Nat × Nat × Nat :=
  if second then (field v24 11 5, 8 + field v24 16 3, field v24 19 3)
  else (field v24 0 5, field v24 5 3, field v24 8 3)

/-- The bus of a move field: 0 X, 1 Y, 2 Z (R105). -/
def moveBus (v24 : Nat) (bswap second : Bool) : Nat :=
  let pair := field v24 22 2
  let first := if pair == 0 || pair == 1 then 0 else 2
  let secnd := if pair == 0 || pair == 2 then 1 else 2
  if second != bswap then secnd else first

/-- Does a move field move a pair (R159)? -/
def movePair (o f : Nat) (second : Bool) : Bool :=
  if inR o 0x88 0x8A || o == 0x93 then true
  else if o == 0x96 || o == 0x97 then bitAt f (if second then 1 else 0)
  else false

/-- Does the first move field store (R105)? -/
def moveStores (o : Nat) : Bool := inR o 0x90 0x95 || o == 0x97

/-- The opcode of the arithmetic part of a class P instruction (R151, R160). -/
def arithOf (o : Nat) : Option Nat :=
  if inR o 0x80 0x85 then some (o - 0x80)
  else if o == 0x86 then some 0x08
  else if o == 0x87 then some 0x09
  else if inR o 0x88 0x8A then some (o - 0x88 + 0x0C)
  else if o == 0x8B then some 0x10
  else if o == 0x8C then some 0x11
  else if o == 0x8D then some 0x70
  else if o == 0x8E then some 0x1A
  else if o == 0x8F then some 0x1B
  else if o == 0x90 then some 0x00
  else if o == 0x91 then some 0x01
  else if o == 0x92 then some 0x08
  else if o == 0x93 then some 0x0C
  else if o == 0x94 then some 0x10
  else if o == 0x95 then some 0x70
  else none

/-- One move field is legal (R109, R159). -/
def moveOk (crook : Bool) (o f v24 : Nat) (bswap second : Bool) : Bool :=
  let (d, _, mode) := moveField v24 second
  let bus := moveBus v24 bswap second
  mode != 7 && (mode != 6 || (!crook && bus == 0)) && (!movePair o f second || even d) &&
  (crook || second || !moveStores o || bus != 1)

/-- Fields of a class P instruction (R104, R105, R109, R151, R159, R160). -/
def fieldsP (crook : Bool) (o pl : Nat) (px : Px) : Bool :=
  let f := pl % 65536
  let v24 := pl / 65536
  (match arithOf o with
    | some a => if decide (a < 0x10) then fieldsA a f px.split else fieldsR a f
    | none => field f 2 14 == 0) &&
  moveOk crook o f v24 px.bswap false && moveOk crook o f v24 px.bswap true

/-- Every field that the class or the instruction requires to be zero, even or unreserved (R104, R109). -/
def fieldsOk (crook : Bool) (px : Px) (e : Enc) : Bool :=
  let o := e.op
  let pl := e.pl
  match classOf o with
  | none => false
  | some .n => true
  | some .j => decide (field pl 0 4 ≤ 12) && (o != 0xA4 || field pl 4 4 == 0)
  | some .r => fieldsR o pl
  | some .a => fieldsA o pl px.split
  | some .q => field pl 11 5 == 0
  | some .g =>
    field pl 5 3 == 0 &&
    (let g8 := pl / 256
     if o == 0x6B then decide (g8 < 128)
     else if o == 0x6C then decide (g8 < 64)
     else if o == 0x78 then decide (g8 ≤ 1)
     else if o == 0x79 then g8 == 0
     else if o == 0x7A then decide (g8 < 4)
     else field pl 0 8 == 0)
  | some .m => fieldsM crook o pl
  | some .i16 =>
    let imm := pl / 256
    if o == 0x77 then field pl 6 2 == 0
    else field pl 5 3 == 0 &&
      (if inR o 0x44 0x47 then decide (imm < 64) else if inR o 0x57 0x5A then decide (imm < 32) else true)
  | some .ri => !bitAt pl 15 && decide (pl / 65536 < 1024) && (o == 0xC8 || fRs2 pl == 0)
  | some .b => field pl 4 4 == 0 && decide (field pl 0 4 ≤ 12)
  | some .i32 => if o == 0x72 then field pl 5 3 == 0 else field pl 6 2 == 0 && decide (pl / 2 ^ 32 = 0)
  | some .l => if o == 0xA5 then field pl 0 8 == 0 else field pl 5 3 == 0 && field pl 8 16 == 0
  | some .p => fieldsP crook o pl px

/-- Opcodes that take no repeat, condition or `wabs` prefix (R103). -/
def plainOnly (o : Nat) : Bool := inR o 0xA0 0xBF || inR o 0xD0 0xDF

/-- The prefixes are accepted on the opcode and their payloads are not reserved (R101, R103, R109). `slot`: the instruction
stands in a delay slot or a setup slot. -/
def prefixOk (crook slot : Bool) (px : Px) (o : Nat) : Bool :=
  (match px.rep with
    | none => true
    | some (.u _) => !plainOnly o && !slot
    | some (.i _) => !plainOnly o && !slot && crook
    | some (.r k) => !plainOnly o && !slot && field k.toNat 5 2 == 0 && (crook || !bitAt k.toNat 7)) &&
  (match px.cond with
    | none => true
    | some b => !plainOnly o && decide (b.toNat ≤ 12)) &&
  (match px.sm with
    | none => true
    | some b => decide (b.toNat ≤ 2) && (o == 0x61 || o == 0x63 || o == 0x65 || o == 0x67 || o == 0x6A || o == 0x6C ||
        inR o 0x90 0x95 || o == 0x97)) &&
  (!px.bswap || inR o 0x80 0x97) &&
  (!px.split || inR o 0x0C 0x11 || o == 0x16 || o == 0x17 || inR o 0x88 0x8C || o == 0x93 || o == 0x94) &&
  (match px.wabs with
    | none => true
    | some _ => !plainOnly o)

/-- Legal in this processor, privilege apart (R108). -/
def contextOk (crook : Bool) (o : Nat) : Bool :=
  if crook then !(o == 0x6B || o == 0x6C || o == 0xA8)
  else !(o == 0x63 || inR o 0x7B 0x7E || o == 0xB0 || inR o 0xD0 0xD8)

/-- Instructions of the crook's privileged level (R108). -/
def privileged (o : Nat) : Bool := inR o 0xD0 0xD7

/-- Not an illegal encoding (R109), privilege apart. The range 0xA0 to 0xBF is barred from slots whole (assumption 12). -/
def encodingOk (crook slot : Bool) (px : Px) (e : Enc) : Bool :=
  fieldsOk crook px e && prefixOk crook slot px e.op && contextOk crook e.op && decide (instrLen px e ≤ 8) &&
  (!slot || !inR e.op 0xA0 0xBF)

/-! ## Raw bytes -/

/-- Little-endian value of the first `n` bytes; missing bytes read as zero. -/
def leBytes : List Byte → Nat → Nat
  | _, 0 => 0
  | [], _ => 0
  | b :: l, n + 1 => b.toNat + 256 * leBytes l n

/-- Read the prefixes of an instruction in strictly ascending order (R101, R103). None where a prefix byte is reserved, out of
order or repeated. -/
def readPrefixes : Nat → Nat → Px → List Byte → Option (Px × List Byte)
  | 0, _, _, _ => none
  | _, _, px, [] => some (px, [])
  | n + 1, last, px, b :: l =>
    let v := b.toNat
    if v < 0xF0 then some (px, b :: l)
    else if v ≤ last ∨ 0xF7 < v then none
    else if v = 0xF5 then readPrefixes n v { px with bswap := true } l
    else if v = 0xF6 then readPrefixes n v { px with split := true } l
    else
      match l with
      | [] => none
      | y :: l' =>
        if v = 0xF0 then readPrefixes n 0xF2 { px with rep := some (.u y) } l'
        else if v = 0xF1 then readPrefixes n 0xF2 { px with rep := some (.i y) } l'
        else if v = 0xF2 then readPrefixes n 0xF2 { px with rep := some (.r y) } l'
        else if v = 0xF3 then readPrefixes n v { px with cond := some y } l'
        else if v = 0xF4 then readPrefixes n v { px with sm := some y } l'
        else readPrefixes n v { px with wabs := some y } l'

/-- Decode raw bytes: prefixes, opcode and fields; none where no instruction can be read. -/
def decodeBytes (bs : List Byte) : Option (Px × Enc) :=
  match readPrefixes 9 0xEF Px.none bs with
  | none => none
  | some (_, []) => none
  | some (px, b :: l) =>
    let e0 : Enc := ⟨b.toNat, leBytes l 2⟩
    some (px, ⟨b.toNat, leBytes l (e0.len - 1)⟩)

/-- The bytes that a processor has fetched of an instruction that cannot be read when it meets the byte that refuses it; where the bytes
given end before that, one more. -/
def refusedLen : Nat → Nat → List Byte → Nat
  | 0, _, _ => 1
  | _, _, [] => 1
  | n + 1, last, b :: l =>
    let v := b.toNat
    if v < 0xF0 ∨ v ≤ last ∨ 0xF7 < v then 1
    else if v = 0xF5 ∨ v = 0xF6 then 1 + refusedLen n v l
    else 2 + refusedLen n (if v < 0xF3 then 0xF2 else v) (l.drop 1)

/-- The length of the instruction at address `a` of a program. A byte that starts no instruction counts as one of length 1. -/
def lenAt (m : Mem) (base a : Nat) : Nat :=
  match decodeBytes ((List.range 8).map fun i => m.byte (base + a + i)) with
  | some (px, e) => max (instrLen px e) 1
  | none => 1

/-- Instructions from address `a` up to `stop` in a memory, counted once each in program order (R124). -/
def countInstrs (m : Mem) (base : Nat) : Nat → Nat → Nat → Nat
  | 0, _, _ => 0
  | fuel + 1, a, stop => if stop ≤ a then 0 else 1 + countInstrs m base fuel (a + lenAt m base a) stop

/-- The address of the instruction that follows the next `n` in program order (R166). -/
def addrAfter (m : Mem) (base : Nat) : Nat → Nat → Nat
  | 0, a => a
  | n + 1, a => addrAfter m base n (a + lenAt m base a)

end Sys2Proof.Machine
end

