-- ==== Sys2Proof/Machine/PastureOps.lean ====
section
/-! DEFINITION. PastureOps.lean: one word of the pasture at one bank cycle (R178 to R185), and what engines and the window share
in reaching it: the bank map (R22, R67), check bits (R180, R181), write-through of a mirror (R192), paddock ownership. -/

namespace Sys2Proof.Machine

/-- Words per bank (R178). -/
def bankWords : Nat := 131072

/-- The physical bank that holds a logical bank (R67): the one whose FOLD_BANK status is 1 with that number. -/
def Chip.physOf (c : Chip) (lb : Nat) : Option Nat :=
  (List.range 49).find? fun b =>
    decide (c.get (F.FOLD_BANK_status b) = 1) && decide (c.get (F.FOLD_BANK_logical b) = lb)

/-- The paddock that owns a logical word; 0x3F where none does (R15, R275). -/
def padOfWord (pads : List Pad) (w : Nat) : Nat :=
  match pads.findIdx? fun p => decide (p.base ≤ w ∧ w < p.base + p.length) with
  | some i => i
  | none => 0x3F

/-- The later of two writes by bank cycle (R127, R179); `e` stands behind `b`. -/
def PasWr.later (b : Option PasWr) (e : PasWr) : Option PasWr :=
  match b with
  | some x => if x.cyc ≤ e.cyc then some e else b
  | none => some e

/-- The last write to a physical key whose bank cycle is k − 2 or earlier (R179). -/
def PasSt.lastWrite (p : PasSt) (k key : Nat) : Option PasWr :=
  (p.pend.filter fun e => decide (e.key = key ∧ e.cyc + 2 ≤ Int.ofNat k)).foldl PasWr.later none

/-- What bank cycle `k` reads at a physical key (R179). -/
def PasSt.readAt (p : PasSt) (k key : Nat) : Word :=
  match p.lastWrite k key with
  | some e => e.val
  | none => KMap.get 0 key p.words

/-- The check-bit state that bank cycle `k` meets at a physical key: that of the word it reads (R179 to R181). -/
def PasSt.errAt (p : PasSt) (k key : Nat) : Nat :=
  match p.lastWrite k key with
  | some e => e.err
  | none => KMap.get 0 key p.err

/-- A write of one word in bank cycle `k`: data and check bits (R181), carried to the spare during a mirror (R192). -/
def Chip.pasWrite (c : Chip) (k lb bank w : Nat) (v : Word) : Chip :=
  let key := bank * bankWords + w
  let p := c.pas
  let keys := match p.mirror with
    | some m => if m.lb = lb ∧ m.p.val = bank then [key, m.s.val * bankWords + w] else [key]
    | none => [key]
  { c with pas := { p with pend := p.pend ++ keys.map fun x => ⟨Int.ofNat k, x, v, 0⟩ } }

/-- An uncorrectable word was found (R181): `src` 0 engine, 1 window, 2 scrub, 3 sweep. -/
def Chip.pasUncorr (c : Chip) (src lb bank w : Nat) : Chip :=
  let pad := padOfWord c.pas.pads (lb * bankWords + w)
  let c1 := (((((c.bump F.PAS_ECC_CNT_uncorr).put F.PAS_ECC_INFO_src src).put F.PAS_ECC_INFO_paddock pad).put
    F.PAS_ECC_INFO_bank bank).put F.PAS_ECC_INFO_word w)
  let c2 := if lb < 32 then c1.wr R.PAS_UNC_LB_LO (c1.rd R.PAS_UNC_LB_LO ||| BitVec.ofNat 32 (2 ^ lb))
    else c1.wr R.PAS_UNC_LB_HI (c1.rd R.PAS_UNC_LB_HI ||| BitVec.ofNat 32 (2 ^ (lb - 32)))
  c2.raise Ev.PAS_ECC_UNCORR (locWord pad bank) 0

/-- A single-bit error was corrected on the way out (R180). -/
def Chip.pasCorr (c : Chip) (lb bank w : Nat) : Chip :=
  (c.bump F.PAS_ECC_CNT_corr).raise Ev.PAS_ECC_CORR (locWord (padOfWord c.pas.pads (lb * bankWords + w)) bank) 0

/-- A read of one word in bank cycle `k`: the data (corrected; zero where uncorrectable), whether it is good, and the reports. -/
def Chip.pasRead (c : Chip) (src k lb bank w : Nat) : Word × Bool × Chip :=
  let key := bank * bankWords + w
  let e := c.pas.errAt k key
  if e = 0 then (c.pas.readAt k key, true, c)
  else if e = 1 then (c.pas.readAt k key, true, c.pasCorr lb bank w)
  else (0, false, c.pasUncorr src lb bank w)

/-- A slot miss of a role on an engine (R185). -/
def Chip.slotMiss (c : Chip) (n role lb cyc : Nat) : Chip :=
  ((((((c.bump F.PAS_MISS_CNT_count).put F.PAS_MISS_INFO_engine n).put F.PAS_MISS_INFO_role role).put
    F.PAS_MISS_INFO_lbank lb).put F.PAS_MISS_INFO_cycle cyc)).raise Ev.PAS_SLOT_MISS (c.locEng n) 0

/-- Does the schedule grant the cycle's slot of logical bank `lb` to the role (R183, R184)? -/
def PasSt.grants (p : PasSt) (lb cyc role : Nat) : Bool := decide (p.sched[16 * lb + cyc % 16]? = some role)

/-- Is logical word `w`, with `first` the first word of its pair, served (R184, R185)? The second word of a pair misses when it
lies in another bank, or in the same half. -/
def PasSt.serves (p : PasSt) (cyc role w : Nat) (first : Option Nat) : Bool :=
  p.grants (w / bankWords) cyc role &&
  (match first with
    | none => true
    | some v => decide (v / bankWords = w / bankWords) && decide (v % 2 ≠ w % 2))

/-- The paddock owner code of a flock's paddock is the flock number (R58). -/
def PasSt.owned (p : PasSt) (flock w : Nat) : Bool :=
  p.pads.any fun q => decide (q.owner = flock ∧ q.base ≤ w ∧ w < q.base + q.length)

end Sys2Proof.Machine
end

