-- ==== Sys2Proof/Machine/Hold.lean ====
section
/-! DEFINITION. Hold.lean: what the device holds at all times, whatever the command was: a time pulse that may not run is at its
inactive level (R47), and the PA is keyed only while every condition of R284, R293 and R309 holds. -/

namespace Sys2Proof.Machine

/-! ## Time pulses -/

/-- The period P of a configuration in ns (R44). -/
def TpCfg.period (t : TpCfg) : Nat := t.perS * 1000000000 + t.perNs

/-- Is the configuration valid (R45)? -/
def TpCfg.valid (t : TpCfg) : Bool :=
  decide (1000 ≤ t.period ∧ t.period ≤ 60 * 1000000000 ∧ t.ofs < t.period ∧ t.dly < t.period ∧ 20 ≤ t.width ∧
    t.width + 20 ≤ t.period)

def Chip.tp (c : Chip) (n : Bool) : TpSt := if n then c.time.tp1 else c.time.tp0
def Chip.setTp (c : Chip) (n : Bool) (t : TpSt) : Chip :=
  { c with time := if n then { c.time with tp1 := t } else { c.time with tp0 := t } }

/-- Does TPn drive its inactive level (R45, R47)? A qualification loss lets a running pulse end by its width. -/
def Chip.tpHeld (c : Chip) (n : Bool) : Bool :=
  let t := c.tp n
  !t.cfg.en || !t.cfg.valid || !c.bit F.GUARD_GATE_gpio || !c.bit F.CLK_STAT_locked

/-- A pulse that may not go on ends at once (R47), one of the configuration before an apply too (assumption 122). -/
def Chip.endHeldPulse (c : Chip) (n : Bool) : Chip :=
  if c.tpHeld n then c.setTp n { c.tp n with active := false } else c

/-! ## The PA -/

/-- Root cycles per slot unit (R348): three ticks. -/
def rootPerUnit : Nat := 46080

/-- A time in ns as root cycles, rounded up; a root cycle is 3125/9216 ns. -/
def nsCeil (ns : Nat) : Nat := (ns * 9216 + 3124) / 3125

def Chip.setRf (c : Chip) (f : RfSt → RfSt) : Chip := { c with rf := f c.rf }

/-- Is the transmission a wake frame (R318)? -/
def Tx.isWake (t : Tx) : Bool :=
  match t.body with
  | .wake _ => true
  | _ => false

/-- The instants of a transmission in root cycles: S, the keying point K (R307), the end of its last unit. -/
def Tx.sAt (t : Tx) : Nat := t.s * rootPerUnit
def Tx.keyAt (t : Tx) : Nat := t.sAt + 2949 * 8
def Tx.cutAt (t : Tx) : Nat := (t.s + t.units) * rootPerUnit

/-- The end of its last sample (R318, R349). -/
def Tx.endAt (t : Tx) : Nat :=
  match t.body with
  | .burst _ _ nb _ => t.sAt + nsCeil (8900 + 57600 * (1 + nb))
  | .wake _ => t.keyAt + nsCeil 800000

/-- Slot units keyed up to now (R291). -/
def Tx.unitsBy (t : Tx) (now : Nat) : Nat := min t.units (max 1 ((now - t.sAt + (rootPerUnit - 1)) / rootPerUnit))

/-- Count the slot units keyed so far (R291, R292). -/
def Chip.countAir (c : Chip) : Chip :=
  match c.rf.cur with
  | some t =>
    let n := t.unitsBy c.now
    if c.rf.keyed ∧ c.rf.counted < n then
      (c.put F.GUARD_AIR_CNT_count (min (c.get F.GUARD_AIR_CNT_count + (n - c.rf.counted)) 65535)).setRf fun r => { r with counted := n }
    else c
  | none => c

/-- The transmit state that RF_STAT.tx shows (R314). -/
def Chip.txState (c : Chip) : Nat :=
  let base := if c.rf.cal.isSome then 4 else if c.bit F.RF_STAT_synth_lock then 2 else 1
  if !c.bit F.RF_CTRL_tx_en then 0
  else match c.rf.cur with
    | some t => if t.isWake then 5 else if c.rf.keyed then 3 else base
    | none => base

def Chip.showTx (c : Chip) : Chip := c.put F.RF_STAT_tx c.txState

/-- The transmission in hand is over: the PA is not keyed, and `go` of a wake frame clears (R318). -/
def Chip.endTx (c : Chip) : Chip :=
  let wake := match c.rf.cur with
    | some t => t.isWake
    | none => false
  let c1 := c.setRf fun r => { r with cur := none, keyed := false, counted := 0, air := [], endAt := if r.keyed then c.now else r.endAt }
  (if wake then c1.put F.RF_WAKE_TX_CTRL_go 0 else c1).showTx

/-- A keyed interval is cut (R307, R309). -/
def Chip.cutKeyed (c : Chip) : Chip := if c.rf.keyed then (c.countAir.latch F.RF_TX_STAT_cut).endTx else c

/-- May the PA be keyed (R284, R293, R309, R312)? -/
def Chip.paAllowed (c : Chip) : Bool :=
  c.bit F.GUARD_GATE_tx && c.bit F.SYS_FEAT2_radio_fused && c.bit F.CLK_STAT_locked && c.bit F.RF_STAT_synth_lock &&
    c.bit F.RF_CTRL_tx_en && c.rf.cal.isNone

def Chip.holdPa (c : Chip) : Chip := if c.paAllowed then c else c.cutKeyed

/-- What holds after every command; each keyed unit has been counted (R292). -/
def Chip.hold (c : Chip) : Chip := ((c.countAir.holdPa).endHeldPulse false).endHeldPulse true

end Sys2Proof.Machine
end

