-- ==== Sys2Proof/Machine/Settle.lean ====
section
/-! DEFINITION. Settle.lean: what holds at the end of every command. -/

namespace Sys2Proof.Machine

/-- The end of a command: its occurrences are routed, and what the device holds at all times holds. -/
def Chip.settle (c : Chip) : Chip := c.flush.hold

/-- A command's effect on everything but the queue. -/
def State.act (s : State) (f : Chip → Chip) : Host.Outcome State Fault Refusal :=
  .next { s with chip := (f s.chip).settle }

end Sys2Proof.Machine
end

