-- ==== Sys2Proof/Machine/Access.lean ====
section
/-! DEFINITION. Access.lean: which accesses to the address map are refused, and how (R8, R10, R20, R21, R90, R402, R403, R431). -/

namespace Sys2Proof.Machine

/-- Is the access by the host? -/
def reqHost : Req → Bool
  | .host => true
  | _ => false
def reqCrook : Req → Bool
  | .crook => true
  | _ => false

/-- An address inside `lo` to `hi`. -/
def within (a lo hi : Nat) : Bool := decide (lo ≤ a) && decide (a ≤ hi)

/-- The lifecycle state of a row 0 (R384): 0 BLANK, 1 SECURED, 2 RETURN. -/
def lifecycle (row0 : Nat) : Nat := if bitAt row0 1 then 2 else if bitAt row0 0 then 1 else 0

/-- The lifecycle state in force (R384, R385): that of the strict reads of this start, which `SHP_STAT.lc` shows from the sense on; before
the sense, that of the fuses themselves. -/
def Chip.lifeState (c : Chip) : Nat :=
  let st := c.shp.stage
  if st = .inReset ∨ st = .t0 ∨ st = .sense then lifecycle (KMap.get 0 0 c.shp.fuse).toNat else c.get F.SHP_STAT_lc

/-- Size of the fitted LPDDR4X in bytes (FEAT2 `ext_size`; R20, R252); 0 where none is fitted and ready. -/
def Chip.ddrBytes (c : Chip) : Nat :=
  if c.bit F.SYS_FEAT2_ext_mem then
    match c.get F.SYS_FEAT2_ext_size with
    | 1 => 2 ^ 27
    | 2 => 2 ^ 28
    | 3 => 2 ^ 29
    | 4 => 2 ^ 30
    | _ => 0
  else 0

/-- Has the shepherd passed (R383)? -/
def Chip.passed (c : Chip) : Bool := decide (c.get F.SHP_STAT_phase = 3)

/-- Refused by the address map itself: unmapped, or a width, alignment or kind its range does not accept (R20, R21, R24); the
pasture window from Z of a shutdown test (R425), and that of a logical bank that no fold load has mapped yet (assumption 120). -/
def Chip.rangeRefused (c : Chip) (r : Req) (wr : Bool) (a bytes : Nat) : Bool :=
  let word := bytes == 4 && a % 4 == 0
  if a < 0x100000 then !(a % bytes == 0)
  else if within a 0x10000000 0x117FFFFF then
    !word || (c.physOf ((a - 0x10000000) / 4 / bankWords)).isNone || decide (2 ≤ c.get F.BST_STAT_shut)
  else if within a 0x18000000 0x1807FFFF then !word || wr
  else if within a 0x18080000 0x180FFFFF then !word
  else if within a 0x20000000 0x2010FFFF then !word || decide (0xC000 ≤ a % 0x10000)
  else if within a 0x40000000 0x400FFFFF then !word || (pageOf a).isNone
  else if within a 0x80000000 0xBFFFFFFF then !(a % bytes == 0) || decide (c.ddrBytes ≤ a - 0x80000000)
  else if within a 0xC0000000 0xC7FFFFFF then
    !word || wr || (match r with
      | .dma _ => false
      | _ => true)
  else true

/-- Limited for the host by phase and lifecycle state (R402). -/
def Chip.hostLimited (c : Chip) (wr : Bool) (a : Nat) : Bool :=
  let page := fun (lo hi : Nat) => within a lo hi
  if !c.passed then
    !(page 0x40000000 0x40000FFF || page 0x400F0000 0x400F0FFF || (page 0x40003000 0x40003FFF && !wr) ||
      (page 0x400C0000 0x400C0FFF &&
        (!wr && !within a 0x400C0140 0x400C0167 && a != R.SHP_HOST_WIN || within a 0x400C0100 0x400C0127 || within a 0x400C0180 0x400C0187)))
  else if c.lifeState = 1 then
    wr && ((a < 0x100000 && !(c.bit F.SHP_HOST_WIN_en && decide (c.get F.SHP_HOST_WIN_base ≤ a / 4096) &&
        decide (a / 4096 ≤ c.get F.SHP_HOST_WIN_lim))) ||
      within a 0x20000000 0x2010FFFF || page 0x40060000 0x40060FFF || page 0x40050000 0x40051FFF)
  else false

/-- Refused by the mailbox: a write to the other issuer's channel, to SHP_HOST_WIN by the host, or to SHP_MB_DATA by any other
requester (R402, R403). -/
def mailboxRefused (r : Req) (wr : Bool) (a : Nat) : Bool :=
  wr && ((within a 0x400C0140 0x400C0167 && !(reqCrook r)) || (within a 0x400C0100 0x400C0127 && !(reqHost r)) ||
    (a == R.SHP_HOST_WIN && reqHost r) || (a == R.SHP_MB_DATA && !reqHost r))

/-- A program store whose engine is not STOPPED takes no write (R90): the engine. Its offsets 0xC000 to 0xFFFF, which R20 leaves unmapped,
count as the store's (DESIGN CHOICE; assumption 129). -/
def Chip.storeRefused (c : Chip) (wr : Bool) (a : Nat) : Option Nat :=
  if wr && within a 0x20000000 0x2010FFFF && decide (c.seState ((a - 0x20000000) / 0x10000) ≠ seStopped) then
    some ((a - 0x20000000) / 0x10000)
  else none

/-- Destinations of a bundle that is being copied take no write until pass or failure (R395). -/
def Chip.bootRefused (c : Chip) (wr : Bool) (a bytes : Nat) : Bool :=
  wr && (match c.shp.boot with
    | some b => b.wrote.any fun p => decide (p.1 < a + bytes) && decide (a < p.1 + p.2)
    | none => false)

/-- The rights at one byte of a kind of access: 0 read, 1 write, 2 execute (R257). -/
def Chip.mpuAllows (c : Chip) (kind addr : Nat) : Bool :=
  let level := c.crook.mode.getLsbD 0
  let inPage := fun (lo : Nat) => decide (lo ≤ addr ∧ addr < lo + 0x1000)
  if !level && (inPage 0x40060000 || inPage 0x400C0000) then false
  else
    match (List.range 8).find? fun n =>
      c.bit (F.CRK_MPU_BASE_en n) && decide (c.get (F.CRK_MPU_BASE_base n) ≤ addr / 4096) &&
        decide (addr / 4096 ≤ c.get (F.CRK_MPU_LIM_lim n)) with
    | none => level
    | some n =>
      if level then
        if kind = 0 then true else if kind = 1 then c.bit (F.CRK_MPU_BASE_p_w n) else c.bit (F.CRK_MPU_BASE_p_x n)
      else
        if kind = 0 then c.bit (F.CRK_MPU_BASE_u_r n) else if kind = 1 then c.bit (F.CRK_MPU_BASE_u_w n)
        else c.bit (F.CRK_MPU_BASE_u_x n)

/-- The lowest denied byte address among accesses (kind, address, bytes) (R258). -/
def Chip.mpuDenied (c : Chip) (accs : List (Nat × Nat × Nat)) : Option Nat :=
  let bad := (accs.flatMap fun (kind, a, n) =>
    ((List.range n).map fun i => (a + i) % 2 ^ 32).filter fun b => !c.mpuAllows kind b)
  bad.foldl (fun m b => match m with
    | none => some b
    | some x => some (min x b)) none

/-- How an access ends before it reaches its target. -/
inductive Gate where
  | accept
  /-- Refused, with the access-violation event. -/
  | refuse
  /-- No event: the target is in reset or has no clock (R383, R431). -/
  | silent
  deriving DecidableEq, Repr

/-- Is the target of an access held in reset (R383): DMA, RF, ports, GN, LNK and BST until pass, and for writes an engine's page until B
of the first fold load, from whose registers reads give the reset values (assumption 100)? -/
def Chip.heldInReset (c : Chip) (wr : Bool) (a : Nat) : Bool :=
  let blocks := within a 0x40040000 0x40042FFF || within a 0x40050000 0x40051FFF || within a 0x40080000 0x400B0FFF ||
    within a 0x400D0000 0x400D0FFF
  (blocks && !c.passed && decide (c.shp.stage ≠ .passed)) ||
    (wr && within a 0x40010000 0x40020FFF && c.fold.cur.isNone && decide (c.get F.FOLD_STAT_state ≠ 3))

/-- Judge an access (R20, R21, R383, R402, R403, R431). -/
def Chip.gateOf (c : Chip) (r : Req) (wr : Bool) (a bytes : Nat) : Gate :=
  let inPwr := within a 0x400E0000 0x400E0FFF
  let st := c.get F.PWR_STAT_state
  if !c.time.rootOn && !(reqHost r && inPwr && (st == 3 || st == 4)) then .silent
  else if reqHost r && decide (st = 2) && within a 0x40000000 0x400FFFFF && !inPwr then .refuse
  else if c.rangeRefused r wr a bytes then .refuse
  else if reqHost r && c.hostLimited wr a then .refuse
  else if mailboxRefused r wr a then .refuse
  else if (c.storeRefused wr a).isSome then .refuse
  else if c.bootRefused wr a bytes then .refuse
  else if c.heldInReset wr a then .silent
  else .accept

/-- A refused access: the event, and `store_ref` for a program store (R21, R90). -/
def Chip.refused (c : Chip) (r : Req) (wr : Bool) (a : Nat) : Chip :=
  let c1 := match c.storeRefused wr a with
    | some n => c.latch (F.SE_FAULT_store_ref n)
    | none => c
  c1.violation r a

/-- Judge the access that a command row makes (R254, R257): an access of the crook's that its level or the protection regions deny does
not happen, and the trap belongs to the instruction that would make it (assumption 133). -/
def Chip.rowGate (c : Chip) (r : Req) (wr : Bool) (a : Nat) : Gate :=
  if reqCrook r && (c.mpuDenied [(b2n wr, a, 4)]).isSome then .silent else c.gateOf r wr a 4

/-- Perform an accepted register write; a refused one has no effect but its event. The rows that name one register go through
here, so a requester they do not admit is turned away. -/
def Chip.guarded (c : Chip) (r : Req) (a : Nat) (f : Chip → Chip) : Chip :=
  match c.rowGate r true a with
  | .accept => f c
  | .refuse => c.refused r true a
  | .silent => c

/-- The same for a register read: what a refused read returns is zero (R21). -/
def Chip.guardedRead (c : Chip) (r : Req) (a : Nat) (f : Chip → Word × Chip) : Word × Chip :=
  match c.rowGate r false a with
  | .accept => f c
  | .refuse => (0, c.refused r false a)
  | .silent => (0, c)

end Sys2Proof.Machine
end

