-- ==== Sys2Proof/Machine/Buses.lean ====
section
/-! DEFINITION. Buses.lean: what an engine and the crook reach on the X, Y and Z buses (R120 to R123), with the protection of
the crook's memory (R257, R258) and the loads and stores of both (R153 to R156). -/

namespace Sys2Proof.Machine

/-- Why an instruction takes no effect: in the crook the vector (R260) and the fault address; an engine commits an engine fault
whatever they hold (R78). -/
abbrev Trap := Nat × Option Word

/-- An engine fault. -/
def engFault : Trap := (1, none)

/-- The quarter sine of R121: entry i is sin(pi i / 512) in q31, for i = 0 to 256. -/
def sineTable : List Nat :=
  [0, 13176712, 26352928, 39528151, 52701887, 65873638, 79042909, 92209205] ++
  [105372028, 118530885, 131685278, 144834714, 157978697, 171116733, 184248325, 197372981] ++
  [210490206, 223599506, 236700388, 249792358, 262874923, 275947592, 289009871, 302061269] ++
  [315101295, 328129457, 341145265, 354148230, 367137861, 380113669, 393075166, 406021865] ++
  [418953276, 431868915, 444768294, 457650927, 470516330, 483364019, 496193509, 509004318] ++
  [521795963, 534567963, 547319836, 560051104, 572761285, 585449903, 598116479, 610760536] ++
  [623381598, 635979190, 648552838, 661102068, 673626408, 686125387, 698598533, 711045377] ++
  [723465451, 735858287, 748223418, 760560380, 772868706, 785147934, 797397602, 809617249] ++
  [821806413, 833964638, 846091463, 858186435, 870249095, 882278992, 894275671, 906238681] ++
  [918167572, 930061894, 941921200, 953745043, 965532978, 977284562, 988999351, 1000676905] ++
  [1012316784, 1023918550, 1035481766, 1047005996, 1058490808, 1069935768, 1081340445, 1092704411] ++
  [1104027237, 1115308496, 1126547765, 1137744621, 1148898640, 1160009405, 1171076495, 1182099496] ++
  [1193077991, 1204011567, 1214899813, 1225742318, 1236538675, 1247288478, 1257991320, 1268646800] ++
  [1279254516, 1289814068, 1300325060, 1310787095, 1321199781, 1331562723, 1341875533, 1352137822] ++
  [1362349204, 1372509294, 1382617710, 1392674072, 1402678000, 1412629117, 1422527051, 1432371426] ++
  [1442161874, 1451898025, 1461579514, 1471205974, 1480777044, 1490292364, 1499751576, 1509154322] ++
  [1518500250, 1527789007, 1537020244, 1546193612, 1555308768, 1564365367, 1573363068, 1582301533] ++
  [1591180426, 1599999411, 1608758157, 1617456335, 1626093616, 1634669676, 1643184191, 1651636841] ++
  [1660027308, 1668355276, 1676620432, 1684822463, 1692961062, 1701035922, 1709046739, 1716993211] ++
  [1724875040, 1732691928, 1740443581, 1748129707, 1755750017, 1763304224, 1770792044, 1778213194] ++
  [1785567396, 1792854372, 1800073849, 1807225553, 1814309216, 1821324572, 1828271356, 1835149306] ++
  [1841958164, 1848697674, 1855367581, 1861967634, 1868497586, 1874957189, 1881346202, 1887664383] ++
  [1893911494, 1900087301, 1906191570, 1912224073, 1918184581, 1924072871, 1929888720, 1935631910] ++
  [1941302225, 1946899451, 1952423377, 1957873796, 1963250501, 1968553292, 1973781967, 1978936331] ++
  [1984016189, 1989021350, 1993951625, 1998806829, 2003586779, 2008291295, 2012920201, 2017473321] ++
  [2021950484, 2026351522, 2030676269, 2034924562, 2039096241, 2043191150, 2047209133, 2051150040] ++
  [2055013723, 2058800036, 2062508835, 2066139983, 2069693342, 2073168777, 2076566160, 2079885360] ++
  [2083126254, 2086288720, 2089372638, 2092377892, 2095304370, 2098151960, 2100920556, 2103610054] ++
  [2106220352, 2108751352, 2111202959, 2113575080, 2115867626, 2118080511, 2120213651, 2122266967] ++
  [2124240380, 2126133817, 2127947206, 2129680480, 2131333572, 2132906420, 2134398966, 2135811153] ++
  [2137142927, 2138394240, 2139565043, 2140655293, 2141664948, 2142593971, 2143442326, 2144209982] ++
  [2144896910, 2145503083, 2146028480, 2146473080, 2146836866, 2147119825, 2147321946, 2147443222] ++
  [2147483647]

/-! ## Engines -/

/-- Is engine `n` the outgoing engine, or the spare, of a twin frame (R92)? -/
def Chip.twinE (c : Chip) (n : Nat) : Bool :=
  match c.rot.cur with
  | some (_, e, s, _) => decide (e = n) && decide (c.seState s = seTwin)
  | none => false

def Chip.twinS (c : Chip) (n : Nat) : Bool := decide (c.seState n = seTwin)

/-- The read-only words of the Z bus (R121): 0x400 to 0x520. -/
def zConst (a : Nat) : Option Word :=
  if a = 0x400 then some 0x7FFFFFFF
  else if 0x401 ≤ a ∧ a ≤ 0x41F then some (BitVec.ofNat 32 (2 ^ (31 - (a - 0x400))))
  else if 0x420 ≤ a ∧ a ≤ 0x520 then (sineTable[a - 0x420]?).map (BitVec.ofNat 32)
  else none

/-- Relay words of a flock (R56, R82). -/
def Chip.relayCount (c : Chip) (flock : Nat) : Nat :=
  match c.roleFold with
  | some f => ((f.flocks[flock]?).getD (0, 0)).2
  | none => 0

/-- A relay word as a read at cycle `k` sees it (R83): the last write at k − 8 or earlier; of two in one cycle the highest
role's stands (R84). -/
def PasSt.relayAt (p : PasSt) (k key : Nat) : PWord :=
  let vis := p.relayPend.filter fun e => decide (e.2.1 = key ∧ e.1 + 8 ≤ k)
  (vis.foldl (fun (b : Option (Nat × Nat × PWord)) e =>
    match b with
    | none => some (e.1, e.2.2.2.1, e.2.2.1)
    | some (cy, r, v) =>
      if cy < e.1 ∨ (cy = e.1 ∧ r ≤ e.2.2.2.1) then some (e.1, e.2.2.2.1, e.2.2.1) else some (cy, r, v)) none
    |>.map (·.2.2)).getD (KMap.get 0 key p.relay)

/-- One word read on the Z bus by engine `n` of flock `fl` (R121). -/
def Chip.zRead (c : Chip) (n fl cyc a : Nat) : Except Trap PWord :=
  if a < 0x400 then .ok (wordToP (KMap.get 0 a (c.engine n).core.scratch))
  else if 0x600 ≤ a ∧ a ≤ 0x63F then
    if a - 0x600 < c.relayCount fl then .ok (c.pas.relayAt cyc (fl * 64 + (a - 0x600))) else .error engFault
  else
    match zConst a with
    | some v => .ok (wordToP v)
    | none => .error engFault

/-- Place of a bus word in the record of a twin frame. -/
def twinPlace (cyc bus i : Nat) : Nat := cyc * 16 + bus * 2 + i

/-- Record what E's read returned, for S (R92). -/
def Chip.noteRead (c : Chip) (n cyc bus i : Nat) (v : PWord) : Chip :=
  if c.twinE n then { c with rot := { c.rot with
    readsE := KMap.insert (twinPlace cyc bus i) v (KMap.erase (twinPlace cyc bus i) c.rot.readsE) } }
  else c

/-- What S reads in the twin frame: the data of E's read in the same cycle; where E made none, the spec states no value
(assumption 14). -/
def Chip.twinRead (c : Chip) (cyc bus i : Nat) : PWord × Chip :=
  match c.rot.readsE.find? fun e => decide (e.1 = twinPlace cyc bus i) with
  | some e => (e.2, c)
  | none => let (v, c1) := c.draw
            (BitVec.ofNat 40 v, c1)

/-- One X word read by engine `n` in role `r` at cycle `cyc` (R184, R185). -/
def Chip.xReadWord (c : Chip) (n r cyc w : Nat) (first : Option Nat) : PWord × Chip :=
  let lb := w / bankWords
  if c.pas.serves cyc r w first then
    match c.physOf lb with
    | some b => let (v, _, c1) := c.pasRead 0 cyc lb b (w % bankWords)
                (wordToP v, c1)
    | none => (0, c.slotMiss n r lb cyc)
  else (0, c.slotMiss n r lb cyc)

/-- Reads of one or two words on a bus by an engine (R120). -/
def Chip.engLoad (c : Chip) (n cyc bus : Nat) (ws : List Nat) : Except Trap (List PWord × Chip) :=
  let fl := c.flockOf n
  let r := (c.roleOf n).getD 0
  let step := fun (st : Except Trap (List PWord × Chip × Option Nat)) (w : Nat) =>
    match st with
    | .error t => .error t
    | .ok (vs, c, first) =>
      let i := vs.length
      if bus = 0 then
        if !c.pas.owned fl w then .error engFault
        else
          let (v, c1) := if c.twinS n then c.twinRead cyc 0 i else c.xReadWord n r cyc w first
          .ok (vs ++ [v], c1.noteRead n cyc 0 i v, some w)
      else if bus = 1 then
        if 131071 < w then .error engFault
        else
          let (v, c1) := if c.twinS n then c.twinRead cyc 1 i else (wordToP (KMap.get 0 w c.co.active), c)
          .ok (vs ++ [v], c1.noteRead n cyc 1 i v, some w)
      else
        match c.zRead n fl cyc w with
        | .error t => .error t
        | .ok v => .ok (vs ++ [v], c, some w)
  match ws.foldl step (.ok ([], c, none)) with
  | .error t => .error t
  | .ok (vs, c1, _) => .ok (vs, c1)

/-- Convert the words of a store in order; in mode D each conversion first steps the generator (R147 to R149). -/
def convWords (mode q : Nat) : Word → List PWord → List Word × Bool × Word
  | g, [] => ([], false, g)
  | g, v :: vs =>
    let g1 := if mode = 2 then ditherNext g else g
    let (w, s) := convert mode q g1 (pR v)
    let (ws, s', g2) := convWords mode q g1 vs
    (w :: ws, s || s', g2)

/-- A relay write by engine `n` in role `r` (R83, R84): two engines on one word in one cycle clash. -/
def Chip.relayWrite (c : Chip) (n r cyc key : Nat) (v : PWord) : Chip :=
  let others := ((c.pas.relayPend.filter fun e =>
    decide (e.1 = cyc ∧ e.2.1 = key ∧ e.2.2.2.2 ≠ n)).map (·.2.2.2.2)).eraseDups
  let fresh := match others with
    | [] => []
    | [o] => [o, n]
    | _ => [n]
  let c1 := { c with pas := { c.pas with relayPend := c.pas.relayPend ++ [(cyc, key, v, r, n)] } }
  fresh.foldl (fun c m => (c.latch (F.SE_FAULT_relay m)).raise Ev.SE_RELAY_CLASH (c.locEng m) 0) c1

/-- Note a pasture or relay store of a twin frame (R93). -/
def Chip.noteStore (c : Chip) (n : Nat) (st : Nat × Nat × Nat × Nat) : Chip :=
  if c.twinS n then { c with rot := { c.rot with storesS := c.rot.storesS ++ [st] } }
  else if c.twinE n then { c with rot := { c.rot with storesE := c.rot.storesE ++ [st] } }
  else c

/-- One X word stored by engine `n` in role `r` (R184, R185); S's stores do not land (R92). -/
def Chip.xWriteWord (c : Chip) (n r cyc w : Nat) (first : Option Nat) (v : Word) : Chip :=
  let lb := w / bankWords
  let c1 := c.noteStore n (cyc, 2, w, v.toNat)
  if c.twinS n then c1
  else if c.pas.serves cyc r w first then
    match c.physOf lb with
    | some b =>
      let c2 := c1.pasWrite cyc lb b (w % bankWords) v
      { c2 with pas := { c2.pas with stores := KMap.set none w (some v) c2.pas.stores } }
    | none => c1.slotMiss n r lb cyc
  else c1.slotMiss n r lb cyc

/-- Stores of one or two registers on a bus by an engine (R120, R121, R155): the state, the writes under way and S. -/
def Chip.engStore (c : Chip) (n cyc bus mode : Nat) (ws : List Nat) (vs : List PWord) :
    Except Trap (Chip × List (Nat × Wr)) :=
  let fl := c.flockOf n
  let r := (c.roleOf n).getD 0
  let k := (c.engine n).core
  if bus = 1 then .error engFault
  else if bus = 2 ∧ ws.all (fun a => decide (0x600 ≤ a ∧ a < 0x600 + c.relayCount fl ∧ a ≤ 0x63F)) then
    .ok ((ws.zip vs).foldl (fun c p =>
      let c1 := c.noteStore n (cyc, 3, p.1 - 0x600, p.2.toNat)
      if c.twinS n then c1 else c1.relayWrite n r cyc (fl * 64 + (p.1 - 0x600)) p.2) c, [])
  else if bus = 2 ∧ !(ws.all fun a => decide (a < 0x400)) then .error engFault
  else if bus = 0 ∧ !(ws.all fun w => c.pas.owned fl w) then .error engFault
  else
    let (words, s, g) := convWords mode 1 k.g vs
    let c1 := c.setCore (.engine (Fin.ofNat 17 n)) { k with g := g }
    let sw := vsW 1 false s
    if bus = 2 then .ok (c1, (ws.zip words).map (fun p => (2, Wr.scratch p.1 p.2)) ++ sw)
    else
      .ok (((ws.zip words).foldl (fun (st : Chip × Option Nat) p =>
        (st.1.xWriteWord n r cyc p.1 st.2 p.2, some p.1)) (c1, none)).1, sw)

/-! ## The crook -/

/-- The bus base (R123). -/
def CrookSt.busBase (s : CrookSt) (bus : Nat) : Nat := if bus = 0 then s.xb.toNat else if bus = 1 then s.yb.toNat else s.zb.toNat

/-- A crook access to crook RAM. -/
def isRam (a : Nat) : Bool := decide (a < 0x100000)

/-- Is the address in the pasture window (R22)? -/
def inPasture (a : Nat) : Bool := within a 0x10000000 0x117FFFFF

/-- A load from outside crook RAM holds issue (R123). A window word is asked for at once, to be served in a gap slot (R187); where
the window refuses it, it loads zero (R21). -/
def Chip.holdLoad (c : Chip) (a bytes : Nat) (dst : LoadDst) (lat : Nat) : Chip :=
  let i := c.crook.loads.length
  let keep := fun (c : Chip) (v : Option Word) =>
    { c with crook := { c.crook with loads := c.crook.loads ++ [⟨a, bytes, dst, lat, v⟩] } }
  if !inPasture a then keep c none
  else match c.gateOf .crook false a bytes with
    | .accept => keep { c with pas := { c.pas with queue := c.pas.queue ++ [((a - 0x10000000) / 4, .crookLoad i)] } } none
    | .refuse => keep (c.refused .crook false a) (some 0)
    | .silent => keep c (some 0)

/-- A store to outside crook RAM holds issue (R123, R156). -/
def Chip.holdStore (c : Chip) (a bytes v : Nat) : Chip :=
  let i := c.crook.stores.length
  let keep := fun (c : Chip) (done : Bool) =>
    { c with crook := { c.crook with stores := c.crook.stores ++ [⟨a, bytes, v, done⟩] } }
  if !inPasture a then keep c false
  else match c.gateOf .crook true a bytes with
    | .accept => keep { c with pas := { c.pas with queue := c.pas.queue ++ [((a - 0x10000000) / 4, .crookStore i)] } } false
    | .refuse => keep (c.refused .crook true a) true
    | .silent => keep c true

/-- An access of the crook to its RAM, issued now, completes after `lat` cycles (R126, R170). -/
def Chip.ramAccess (c : Chip) (lat : Nat) : Chip :=
  { c with crook := { c.crook with memAt := max c.crook.memAt (c.crook.core.cyc + lat) } }

/-- A load by the crook of `bytes` bytes (R123, R154): from RAM at the bus latency, from elsewhere issue holds. A misaligned
access to RAM is refused and loads zero (R21, R153). -/
def Chip.crookLoad (c : Chip) (lat a bytes : Nat) (dst : LoadDst) : Chip × List (Nat × Wr) :=
  if isRam a then
    let ok := a % bytes == 0
    let v := if ok then Mem.read c.mem a bytes else 0
    let c1 := if ok then c.ramAccess lat else c.violation .crook a
    match dst with
    | .word p => (c1, [(lat, .p p (wordToP (BitVec.ofNat 32 v)))])
    | .zext p _ => (c1, [(lat, .p p (BitVec.ofNat 40 v))])
    | _ => (c1, [])
  else (c.holdLoad a bytes dst lat, [])

/-- A store by the crook (R155, R156); while a bundle is copied to it, RAM takes none (R395). -/
def Chip.crookStore (c : Chip) (a bytes v : Nat) : Chip × List (Nat × Wr) :=
  if isRam a then
    if a % bytes == 0 && !c.bootRefused true a bytes then (c.ramAccess 2, [(2, .ram a bytes v)]) else (c.violation .crook a, [])
  else (c.holdStore a bytes v, [])

/-! ## One memory operand of an instruction -/

/-- A memory operand: bus, effective word or byte addresses in order, the d registers they meet, and the address register's
update. -/
structure MemOp where
  bus : Nat
  addrs : List Nat
  bytes : Nat
  regs : List Nat
  upd : Option (Nat × QWord)
  deriving DecidableEq, Repr

/-- Effective addresses of an operand (R119): `ar` the address register's number, `units` 1 or 2 words (engine) or the bytes of
one register and whether it is a pair (crook). -/
def Chip.operand (c : Chip) (x : Ctx) (bus d ar mode scale : Nat) (hasDisp : Bool) (disp : Int) (pair : Bool) (bytes : Nat) :
    Except Trap MemOp :=
  let a := x.q ar
  let m := x.q (16 + ar)
  let l := x.q (32 + ar)
  let regs := if pair then [d, d + 1] else [d]
  if mode = 6 then
    match x.w with
    | .crook => .error engFault
    | .engine n =>
      let pad := l.toNat % 32
      match c.pas.pads[pad]? with
      | none => .error engFault
      | some p =>
        if p.owner ≠ c.flockOf n.val then .error engFault
        else
          let off := a.toInt + disp * Int.ofNat (2 ^ scale)
          let sp := Int.ofNat (c.get (F.PAS_SP_sp pad))
          let word := fun (i : Int) => p.base + (fmod (sp + off + i) (Int.ofNat p.length)).toNat
          .ok ⟨bus, if pair then [word 0, word 1] else [word 0], 4, regs, some (ar, a + m)⟩
  else
    let units := if x.w.isCrook then (if pair then 2 * bytes else bytes) else (if pair then 2 else 1)
    let (ea, a') := addrMode mode a m l units scale hasDisp disp
    let base := if x.w.isCrook then c.crook.busBase bus + ea else ea
    let step := if x.w.isCrook then bytes else 1
    let wrapA := fun (n : Nat) => if x.w.isCrook then n % 2 ^ 32 else n
    .ok ⟨bus, if pair then [wrapA base, wrapA (base + step)] else [wrapA base], bytes, regs,
      if mode = 0 ∨ mode = 4 then none else some (ar, a')⟩

/-- The address-register write of an operand (R126). -/
def MemOp.updW (o : MemOp) : List (Nat × Wr) :=
  match o.upd with
  | some (ar, v) => [(1, .q ar v)]
  | none => []

/-- The load latency of a bus (R126). -/
def busLat (bus : Nat) : Nat := if bus = 0 then 4 else if bus = 1 then 3 else 2

/-- Load the operand into its registers (R154). -/
def Chip.doLoad (c : Chip) (x : Ctx) (o : MemOp) (zext : Bool) : Except Trap (Chip × List (Nat × Wr)) :=
  match x.w with
  | .engine n =>
    match c.engLoad n.val x.k.cyc o.bus o.addrs with
    | .error t => .error t
    | .ok (vs, c1) => .ok (c1, (o.regs.zip vs).map (fun p => x.setD (busLat o.bus) p.1 p.2) ++ o.updW)
  | .crook =>
    let r := (o.regs.zip o.addrs).foldl (fun (st : Chip × List (Nat × Wr)) p =>
      let dst := if zext then LoadDst.zext (x.preg p.1) o.bytes else LoadDst.word (x.preg p.1)
      let (c1, ws) := st.1.crookLoad (busLat o.bus) p.2 o.bytes dst
      (c1, st.2 ++ ws)) (c, [])
    .ok (r.1, r.2 ++ o.updW)

/-- Store the operand's registers (R155); `raw`: bytes and half-words without conversion. -/
def Chip.doStore (c : Chip) (x : Ctx) (o : MemOp) (raw : Bool) : Except Trap (Chip × List (Nat × Wr)) :=
  let vs := o.regs.map x.d
  match x.w with
  | .engine n =>
    match c.engStore n.val x.k.cyc o.bus x.storeMode o.addrs vs with
    | .error t => .error t
    | .ok (c1, ws) => .ok (c1, ws ++ o.updW)
  | .crook =>
    let (words, s, _) := convWords x.storeMode 1 0 vs
    let data := if raw then vs.map (fun v => pU v % 2 ^ (8 * o.bytes)) else words.map (·.toNat)
    let r := (o.addrs.zip data).foldl (fun (st : Chip × List (Nat × Wr)) p =>
      let (c1, ws) := st.1.crookStore p.1 o.bytes p.2
      (c1, st.2 ++ ws)) (c, [])
    .ok (r.1, r.2 ++ vsW 1 false (s && !raw) ++ o.updW)

/-- The protection check of the crook's operands, before any effect (R258): (writes?, operand) for each. -/
def Chip.protect (c : Chip) (x : Ctx) (ops : List (Bool × MemOp)) : Except Trap Unit :=
  match x.w with
  | .engine _ => .ok ()
  | .crook =>
    match c.mpuDenied (ops.flatMap fun (wr, o) => o.addrs.map fun a => (b2n wr, a, o.bytes)) with
    | some a => .error (5, some (BitVec.ofNat 32 a))
    | none => .ok ()

end Sys2Proof.Machine
end

