-- ==== Sys2Proof/Machine/Issue.lean ====
section
/-! DEFINITION. Issue.lean: how a processor issues an instruction: whether it may issue at all (R76, R77, R85, R123, R265), the
fetch limits (R100, R256), the legality of the encoding (R109), repeat prefixes (R164, R165), the condition prefix (R102), the
program counter with delay slots, setup slots and block repeats (R129, R162 to R168), engine faults (R78) and the crook's traps
(R260 to R265). What the instruction itself does is a `Body`, which the family files give. -/

namespace Sys2Proof.Machine

/-- How an instruction leaves the program counter. -/
inductive Flow where
  /-- The next instruction in program order. -/
  | seq
  /-- A control-flow instruction: where taken, its target and its link (R162, R163). -/
  | branch (taken : Option (Nat × Link))
  /-- `brep`, `brepr`: passes and body length (R166). -/
  | setup (n blen : Nat)
  | bbrk
  | fend
  | trap (t : Nat)
  | rti
  /-- The instruction holds issue for this many further cycles (R172). -/
  | hold (extra : Nat)
  deriving DecidableEq, Repr

/-- What one iteration does: a trap with no effect, or the state, the writes it issues (latency, write) and its flow. -/
abbrev Body := Chip → Ctx → Except Trap (Chip × List (Nat × Wr) × Flow)

/-- The interrupt lines the event fabric drives (R278). -/
def Chip.lines (c : Chip) : Word64 :=
  let n := c.evt.queue.length
  let thr := max (c.get F.EVT_Q_THR_thr) 1
  let latched := (c.rd R.EVT_LPEND_HI).toNat * 2 ^ 32 + (c.rd R.EVT_LPEND_LO).toNat / 4 * 4
  BitVec.ofNat 64 (latched + b2n (decide (0 < n)) + 2 * b2n (decide (thr ≤ n) || c.bit F.EVT_STAT_ovf))

/-- The lowest line that is pending and unmasked (R266). -/
def Chip.pendingLine (c : Chip) : Option Nat :=
  (List.range 64).find? fun i => (c.lines &&& c.crook.imask).getLsbD i

/-- May the processor issue an instruction now? An engine: RUNNING or TWIN, its frame not ended, before the tail (R76, R77,
R92). The crook: released, not halted, and not held by an access, `sync` or `wait` (R123, R156, R170, R265). -/
def Chip.canIssue (c : Chip) : Proc → Bool
  | .engine n =>
    let st := c.seState n.val
    let k := (c.engine n.val).core
    (decide (st = seRunning) || decide (st = seTwin)) && !k.ended && decide (k.cyc < c.tailCycle)
  | .crook =>
    c.bit F.CRK_STAT_running && !c.bit F.CRK_STAT_halted && c.crook.loads.isEmpty && c.crook.stores.isEmpty &&
      !c.crook.syncing && (!c.crook.waiting || c.pendingLine.isSome)

/-- The instant of a processor's cycle, in root cycles (R25): an engine counts CLK_SE cycles of its frame, the crook CLK_FAB cycles since
its release. -/
def Chip.instant (c : Chip) (w : Proc) : Int :=
  match w with
  | .engine n => Int.ofNat (c.cycleRoot (c.core (.engine n)).cyc)
  | .crook => c.crook.relAt + 8 * Int.ofNat c.crook.core.cyc

/-- `SE_CYC`: `last` and the largest since it was read. -/
def Chip.noteCycle (c : Chip) (n cyc : Nat) : Chip :=
  (c.put (F.SE_CYC_last n) cyc).rcChange (F.SE_CYC_max n) (max cyc)

/-- An engine fault at the issue cycle (R78): the frame ends, the fault and its address are recorded. `SE_CTRL.ovr_stop` asks for no stop
on a fault, which is no overrun (DESIGN CHOICE; assumption 131). -/
def Chip.engineFault (c : Chip) (n : Nat) : Chip :=
  let e := c.engine n
  let c1 := c.setEngine n { e with core := { e.core with ended := true } }
  ((((c1.noteCycle n e.core.cyc).latch (F.SE_FAULT_eng n)).put (F.SE_FAULT_PC_pc n) e.core.pc).raiseAt (c.cycleRoot e.core.cyc)
    Ev.SE_ENGINE_FAULT (c.locEng n) 0)

/-- The last cycle at which a write is still to land. -/
def Core.lastLand (k : Core) : Nat := k.pend.foldl (fun m e => max m e.1) k.cyc

/-- The crook stops on a double fault (R265); writes issued before it land (R261). -/
def Chip.doubleFault (c : Chip) (cause : BitVec 17) (epc : Nat) (faddr : Word) : Chip :=
  (((((c.landTo .crook c.crook.core.lastLand).put F.CRK_STAT_halted 1).wr R.CRK_LAST_CAUSE (cause.zeroExtend 32)).wr R.CRK_LAST_EPC
    (BitVec.ofNat 32 (epc % 2 ^ 20))).wr R.CRK_LAST_FADDR faddr).raiseAt (c.instant .crook) Ev.CRK_DOUBLE_FAULT locNone 0

/-- Take a trap or interrupt in place of an issue (R261). `sync`: a synchronous trap or the watchdog warning, which halts the
crook where one is being handled (R265). -/
def Chip.takeTrap (c : Chip) (vec epc t : Nat) (ds sync : Bool) (fa : Option Word) : Chip :=
  let s := c.crook
  let cause := BitVec.ofNat 17 (vec + (if vec = 7 then t * 256 else 0) + 65536 * b2n ds)
  let faddr := fa.getD s.faddr
  if sync && s.mode.getLsbD 2 then c.doubleFault cause epc faddr
  else
    let k := s.core
    let pc := s.vbase.toNat + 16 * vec
    let c1 := { c with crook := { s with
      epc := epc % 2 ^ 20
      estat := (s.mode.zeroExtend 8 <<< 5) ||| k.fl.zeroExtend 8
      cause := cause
      faddr := faddr
      mode := 0b101
      waiting := false
      afterRti := false
      repLeft := 0
      repHeld := false
      core := { k with pc := pc, slot := .none, cyc := k.cyc + 3 } } }
    let c2 := (((c1.wr R.CRK_LAST_CAUSE (cause.zeroExtend 32)).wr R.CRK_LAST_EPC (BitVec.ofNat 32 (epc % 2 ^ 20))).wr
      R.CRK_LAST_FADDR faddr)
    if 2 ^ 20 ≤ pc then c2.doubleFault 0 pc (BitVec.ofNat 32 pc) else c2

/-- An instruction fails: an engine fault, or the crook's synchronous trap; `left`: iterations of a repeat not yet completed,
the failing one included (R264). -/
def Chip.fail (c : Chip) (w : Proc) (repeated : Bool) (left : Nat) (t : Trap) : Chip :=
  match w with
  | .engine n => c.engineFault n.val
  | .crook =>
    let ds := match c.crook.core.slot with
      | .delay _ _ => true
      | _ => false
    let c1 := if repeated then { c with crook := { c.crook with repc := left % 512 } } else c
    c1.takeTrap t.1 c.crook.core.pc 0 ds true t.2

/-- The first byte an instruction may not be fetched from (R100, R256). -/
def Chip.fetchFault (c : Chip) (w : Proc) (pc len : Nat) : Option Trap :=
  match w with
  | .engine _ => if pc + len ≤ 0xC000 then none else some engFault
  | .crook =>
    if 2 ^ 20 < pc + len then some (0, some (BitVec.ofNat 32 (max pc (2 ^ 20))))
    else (c.mpuDenied [(2, pc, len)]).map fun a => (0, some (BitVec.ofNat 32 a))

/-! ## Block repeats -/

/-- The number of passes left on level `i`; 0: closed. -/
def Core.lcAt (k : Core) (i : Nat) : Nat := KMap.get 0 i k.lc

/-- The loop-back check at the issue of an instruction whose next address is `next` (R167), from level `n − 1` down: the core,
where the program goes on, and whether a level looped back. -/
def Core.loopCheck (next : Nat) : Nat → Core → Core × Nat × Option Nat
  | 0, k => (k, next, none)
  | n + 1, k =>
    if k.lcAt n = 0 then Core.loopCheck next n k
    else if KMap.get 0 n k.le ≠ next then (k, next, none)
    else if 1 < k.lcAt n then ({ k with lc := KMap.set 0 n (k.lcAt n - 1) k.lc }, KMap.get 0 n k.ls, some n)
    else Core.loopCheck next n { k with lc := KMap.set 0 n 0 k.lc }

/-- The lowest closed level (R166); none where four are open. -/
def Core.freeLevel (k : Core) : Option Nat := (List.range 4).find? fun i => decide (k.lcAt i = 0)

/-- The innermost open level. -/
def Core.innermost (k : Core) : Option Nat := [3, 2, 1, 0].find? fun i => decide (k.lcAt i ≠ 0)

/-- Close every level from the outermost one that a taken `br` or `jr` leaves (R167). -/
def Core.closeOutside (k : Core) (target : Nat) : Core :=
  match (List.range 4).find? fun i => decide (k.lcAt i ≠ 0) &&
      !(decide (KMap.get 0 i k.ls ≤ target) && decide (target < KMap.get 0 i k.le)) with
  | none => k
  | some i => { k with lc := KMap.keep (fun j => decide (j < i)) k.lc }

/-- Open a level over `blen` bytes from `start` (R166). -/
def Core.openLevel (k : Core) (n start blen : Nat) : Core :=
  match k.freeLevel with
  | none => k
  | some i => { k with lc := KMap.set 0 i n k.lc, ls := KMap.set 0 i (start % 2 ^ 20) k.ls,
                       le := KMap.set 0 i ((start + blen) % 2 ^ 20) k.le }

/-- Where a processor's program lies in the memory of the map. -/
def progBase : Proc → Nat
  | .engine n => 0x20000000 + n.val * 0x10000
  | .crook => 0

/-- What a taken control-flow instruction does as its target comes to issue: a jump closes the levels it leaves (R167, R168); a call at
depth w writes its return address into RS_w and raises WD to w + 1, a return lowers it to w − 1 (R112, R163). -/
def Core.link (k : Core) (next target : Nat) : Link → Core
  | .jump => k.closeOutside target
  | .call w => { k with wd := w + 1, rs := KMap.set 0 w next k.rs }
  | .ret w => { k with wd := w - 1 }

/-- The core after an instruction in a taken delay slot: the target wins over any loop-back (R168); behind the last slot the
program goes on at the target. -/
def Core.stepDelay (k : Core) (next left target : Nat) (l : Link) : Core :=
  if left ≤ 1 then { (k.link next target l) with pc := target, slot := .none }
  else { k with pc := next, slot := .delay (left - 1) (some (target, l)) }

/-- The core after any other instruction: `brep` and `brepr` open their level over the body that starts at `body`, the loop-back
check is made, and slots count down (R129, R166, R167). `tooBig` says whether the body of a level exceeds the loop buffer
(R124). -/
def Core.stepSeq (k : Core) (next : Nat) (flow : Flow) (body : Nat) (tooBig : Nat → Nat → Bool) : Core :=
  let k0 := match flow with
    | .setup n blen => k.openLevel n body blen
    | .bbrk =>
      match k.innermost with
      | some i => { k with lc := KMap.set 0 i 1 k.lc }
      | none => k
    | _ => k
  let (k1, pc, looped) := k0.loopCheck next 4
  let extra := match looped with
    | some i => b2n (tooBig (KMap.get 0 i k1.ls) (KMap.get 0 i k1.le))
    | none => 0
  let k2 := { k1 with pc := pc, cyc := k1.cyc + extra }
  match k.slot with
  | .delay left none => { k2 with slot := if left ≤ 1 then .none else .delay (left - 1) none }
  | .setup left => { k2 with slot := if left ≤ 1 then .none else .setup (left - 1) }
  | _ => k2

/-- Move on past an instruction of `len` bytes (R129, R162 to R168). -/
def Chip.advancePc (c : Chip) (w : Proc) (len : Nat) (flow : Flow) : Chip :=
  let k := c.core w
  let next := if w.isCrook then (k.pc + len) % 2 ^ 20 else k.pc + len
  let k3 := match k.slot with
    | .delay left (some (t, l)) => k.stepDelay next left t l
    | _ => k.stepSeq next flow (addrAfter c.mem (progBase w) 3 next) fun ls le =>
        decide (32 < countInstrs c.mem (progBase w) 4096 ls le)
  match flow with
  | .branch taken => c.setCore w { k3 with slot := .delay 2 taken }
  | .setup _ _ => c.setCore w { k3 with slot := .setup 3 }
  | .hold extra => c.setCore w { k3 with cyc := k3.cyc + extra }
  | .fend =>
    let c1 := c.setCore w { k3 with ended := true, lc := [] }
    match w with
    | .engine n => c1.noteCycle n.val (k.cyc - 1)
    | .crook => c1
  | .trap t => (c.setCore w { k3 with cyc := k3.cyc - 1 }).takeTrap 7 k3.pc t false true none
  | .rti =>
    let s := c.crook
    { c with crook := { s with
      mode := BitVec.ofNat 3 (s.estat.toNat / 32)
      afterRti := true
      core := { k3 with pc := s.epc, fl := BitVec.ofNat 5 (s.estat.toNat % 32), slot := .none, cyc := k3.cyc + 2 } } }
  | _ => c.setCore w k3

/-! ## Iterations -/

/-- How a run of iterations ended. -/
inductive Ran where
  | done (c : Chip) (f : Flow)
  /-- Trapped with this many iterations left. -/
  | trapped (c : Chip) (left : Nat) (t : Trap)
  /-- Cut by the tail (R77). -/
  | cut (c : Chip)
  /-- An access outside crook RAM holds issue with this many iterations left (R123, R156). -/
  | held (c : Chip) (left : Nat)

/-- Is an iteration nullified (R102)? -/
def Ctx.nullified (x : Ctx) : Bool :=
  match x.px.cond with
  | none => false
  | some cc => !condTrue cc.toNat x.k.fl

/-- Issue `n` iterations in consecutive cycles (R164); each lands what is due, reads, and leaves its writes under way. An iteration whose
access holds the crook's issue holds the ones behind it, which the same instruction's next command issues. -/
def Chip.iterate (w : Proc) (px : Px) (body : Body) : Nat → Chip → Ran
  | 0, c => .done c .seq
  | n + 1, c =>
    let cyc := (c.core w).cyc
    if !w.isCrook && decide (c.tailCycle ≤ cyc) then .cut c
    else
      let c1 := c.landTo w cyc
      let x : Ctx := ⟨w, c1.core w, px⟩
      if x.nullified then
        let c2 := c1.setCore w { x.k with cyc := cyc + 1 }
        Chip.iterate w px body n c2
      else
        match body c1 x with
        | .error t => .trapped c1 (n + 1) t
        | .ok (c2', ws, f) =>
          let c2 := c2'.restamp c1.evt.batch.length (c1.instant w)
          let k := c2.core w
          let c3 := c2.setCore w { k with pend := k.pend ++ ws.map (fun p => (cyc + p.1, p.2)), cyc := cyc + 1 }
          if n = 0 then .done c3 f
          else if w.isCrook && !(c3.crook.loads.isEmpty && c3.crook.stores.isEmpty) then .held c3 n
          else Chip.iterate w px body n c3

/-- The count of a repeat prefix (R101). -/
def Ctx.repCount (x : Ctx) : Nat :=
  match x.px.rep with
  | none => 1
  | some (.u n) => n.toNat + 1
  | some (.i n) => n.toNat + 1
  | some (.r k) => x.u (k.toNat % 32) % 256 + 1

/-- Is the repeat interruptible (R101)? -/
def interruptible : Option Rep → Bool
  | some (.i _) => true
  | some (.r k) => bitAt k.toNat 7
  | _ => false

/-- Issue an instruction: nothing where the processor may not issue; else a fetch fault, an illegal encoding, a privilege trap, or
its iterations and the move to the next instruction. -/
def Chip.issue (c : Chip) (w : Proc) (px : Px) (e : Enc) (body : Body) : Chip :=
  if !c.canIssue w then c
  else
    let len := instrLen px e
    let c0 := c.landTo w (c.core w).cyc
    let k := c0.core w
    let slot := decide (k.slot ≠ .none)
    match c0.fetchFault w k.pc len with
    | some t => c0.fail w false 0 t
    | none =>
      if !encodingOk w.isCrook slot px e then c0.fail w false 0 (1, none)
      else if w.isCrook && privileged e.op && !c0.crook.mode.getLsbD 0 then c0.fail w false 0 (2, none)
      else
        let s := c0.crook
        let resume := w.isCrook && s.afterRti && px.rep.isSome && decide (s.repc ≠ 0)
        let c1 := if w.isCrook then { c0 with crook := { s with
            waiting := false, afterRti := false, repc := if resume then 0 else s.repc } } else c0
        let n := if resume then s.repc
          else if w.isCrook && decide (s.repLeft ≠ 0) then s.repLeft
          else Ctx.repCount ⟨w, k, px⟩
        if w.isCrook && interruptible px.rep && decide (1 < n) then
          match Chip.iterate w px body 1 c1 with
          | .done c2 _ => { c2 with crook := { c2.crook with repLeft := n - 1, repHeld := false } }
          | .trapped c2 _ t => c2.fail w true n t
          | .cut c2 => c2
          | .held c2 _ => c2
        else
          let c1 := if w.isCrook then { c1 with crook := { c1.crook with repLeft := 0, repHeld := false } } else c1
          match Chip.iterate w px body n c1 with
          | .done c2 f => c2.advancePc w len f
          | .trapped c2 left t => c2.fail w px.rep.isSome left t
          | .cut c2 => c2
          | .held c2 left => { c2 with crook := { c2.crook with repLeft := left, repHeld := true } }

/-- A body that only writes registers and flags. -/
def pureBody (f : Ctx → List (Nat × Wr)) : Body := fun c x => .ok (c, f x, .seq)

end Sys2Proof.Machine
end

