-- ==== Sys2Proof/Machine/AccOps.lean ====
section
/-! DEFINITION. AccOps.lean: accumulator operations (0x20 to 0x27; R140, R141) and normalise and exponent (0x48 to 0x4D; R145,
R146). -/

namespace Sys2Proof.Machine

/-! ## Accumulator operations -/

/-- Write the selected parts of accn through ares (R140): option 0 both, 1 the real, 2 the imaginary part, 3 both. -/
def accW (f : Nat) (re im : Int) : List (Nat × Wr) :=
  let n := fAcc f
  let o := fOpt f
  let r := o != 2
  let i := o != 1
  (if r then [(1, .acc (2 * n) (ares re))] else []) ++ (if i then [(1, .acc (2 * n + 1) (ares im))] else []) ++
    vsW 1 ((r && aresLim re) || (i && aresLim im)) false

/-- The part of accm that meets the real and the imaginary part of accn: crossed under option 3 (R140). -/
def Ctx.matchRe (x : Ctx) (f : Nat) : Int := if fOpt f = 3 then x.im (fAcc2 f) else x.re (fAcc2 f)
def Ctx.matchIm (x : Ctx) (f : Nat) : Int := if fOpt f = 3 then x.re (fAcc2 f) else x.im (fAcc2 f)

def opAclr (f : Nat) (_ : Ctx) : List (Nat × Wr) := accW f 0 0
def opAcpy (f : Nat) (x : Ctx) : List (Nat × Wr) := accW f (x.matchRe f) (x.matchIm f)
def opAadd (f : Nat) (x : Ctx) : List (Nat × Wr) := accW f (x.re (fAcc f) + x.matchRe f) (x.im (fAcc f) + x.matchIm f)
def opAsub (f : Nat) (x : Ctx) : List (Nat × Wr) := accW f (x.re (fAcc f) - x.matchRe f) (x.im (fAcc f) - x.matchIm f)

/-- The shift of `ashl` (R140). -/
def ashlVal (k p : Int) : Int := if 0 ≤ k then p * 2 ^ k.toNat else fdiv p (2 ^ (-k).toNat)

def opAshl (f : Nat) (x : Ctx) : List (Nat × Wr) :=
  let k := sext (x.u (fY f) % 128) 7
  accW f (ashlVal k (x.re (fAcc f))) (ashlVal k (x.im (fAcc f)))
def opAneg (f : Nat) (x : Ctx) : List (Nat × Wr) := accW f (-x.re (fAcc f)) (-x.im (fAcc f))

/-- `ard` (R141). -/
def opArd (f : Nat) (x : Ctx) : List (Nat × Wr) :=
  let n := fAcc f
  let hi := fun (v : Int) => (BitVec.ofInt 40 (fdiv v (2 ^ 32)) : PWord)
  if fOpt f = 0 then [x.setD 1 (fX f) (hi (x.re n))]
  else if fOpt f = 1 then [x.setD 1 (fX f) (hi (x.im n))]
  else if fOpt f = 2 then [x.setD 1 (fX f) (hi (x.re n)), x.setD 1 (fX f + 1) (hi (x.im n))]
  else [x.setD 1 (fX f) (xres (wrap (x.re n) 32))]

/-- `awr` (R141). -/
def opAwr (f : Nat) (x : Ctx) : List (Nat × Wr) :=
  let n := fAcc f
  let up := fun (v : Int) => (BitVec.ofInt 72 (v * 2 ^ 32) : AWord)
  if fOpt f = 0 then [(1, .acc (2 * n) (up (x.r (fX f))))]
  else if fOpt f = 1 then [(1, .acc (2 * n + 1) (up (x.r (fX f))))]
  else if fOpt f = 2 then [(1, .acc (2 * n) (up (x.r (fX f)))), (1, .acc (2 * n + 1) (up (x.r (fX f + 1))))]
  else [(1, .acc (2 * n) (BitVec.ofInt 72 (fdiv (x.re n) (2 ^ 32) * 2 ^ 32 + Int.ofNat (x.u (fX f)))))]

/-! ## Normalise and exponent -/

/-- How many bits from bit `i` − 1 downwards equal `top`, up to the first that differs. -/
def signRun (v : Nat) (top : Bool) : Nat → Nat
  | 0 => 0
  | i + 1 => if bitAt v i = top then 1 + signRun v top i else 0

/-- The exponent of a `w`-bit value (R145). -/
def expOf (w : Nat) (v : BitVec w) : Int := Int.ofNat (signRun v.toNat v.msb (w - 1)) - 8

/-- sh(v, e) (R146). -/
def shE (v e : Int) : Int := if 0 ≤ e then v * 2 ^ e.toNat else fdiv v (2 ^ (-e).toNat)

/-- xres of an integer. -/
def xresI (v : Int) : PWord := xres (wrap v 32)

def opNorm (f : Nat) (x : Ctx) : List (Nat × Wr) :=
  [x.setD 2 (fRd f) (BitVec.ofInt 40 (shE (x.r (fRs1 f)) (expOf 40 (x.d (fRs1 f)))))]
def opExp (f : Nat) (x : Ctx) : List (Nat × Wr) := [x.setD 2 (fRd f) (xresI (expOf 40 (x.d (fRs1 f))))]
def opBexp (f : Nat) (x : Ctx) : List (Nat × Wr) :=
  [x.setD 2 (fRd f) (xresI (min (expOf 40 (x.d (fRs1 f))) (x.i (fRs2 f))))]
def opBexpc (f : Nat) (x : Ctx) : List (Nat × Wr) :=
  [x.setD 2 (fRd f) (xresI (min (min (expOf 40 (x.d (fRs1 f))) (expOf 40 (x.d (fRs1 f + 1)))) (x.i (fRs2 f))))]

/-- The exponents of the parts of accn. -/
def Ctx.eRe (x : Ctx) (n : Nat) : Int := expOf 72 (KMap.get 0 (2 * n) x.k.acc)
def Ctx.eIm (x : Ctx) (n : Nat) : Int := expOf 72 (KMap.get 0 (2 * n + 1) x.k.acc)

/-- `anorm` (R146). -/
def opAnorm (f : Nat) (x : Ctx) : List (Nat × Wr) :=
  let n := fAcc f
  let re := fun e => ((2, Wr.acc (2 * n) (BitVec.ofInt 72 (shE (x.re n) e))) : Nat × Wr)
  let im := fun e => ((2, Wr.acc (2 * n + 1) (BitVec.ofInt 72 (shE (x.im n) e))) : Nat × Wr)
  if fOpt f = 0 then [re (x.eRe n)]
  else if fOpt f = 1 then [im (x.eIm n)]
  else if fOpt f = 2 then [re (min (x.eRe n) (x.eIm n)), im (min (x.eRe n) (x.eIm n))]
  else [re (x.eRe n), im (x.eIm n)]

/-- `aexp` (R146). -/
def opAexp (f : Nat) (x : Ctx) : List (Nat × Wr) :=
  let n := fAcc f
  if fOpt f = 0 then [x.setD 2 (fX f) (xresI (x.eRe n))]
  else if fOpt f = 1 then [x.setD 2 (fX f) (xresI (x.eIm n))]
  else if fOpt f = 2 then [x.setD 2 (fX f) (xresI (min (x.eRe n) (x.eIm n)))]
  else [x.setD 2 (fX f) (xresI (x.eRe n)), x.setD 2 (fX f + 1) (xresI (x.eIm n))]

/-! ## Meanings -/

/-- `aclr`, opcode 0x20 (R140, R141). -/
def execAclr (w : Proc) (px : Px) (f : Word16) (s : State) : Host.Outcome State Fault Refusal :=
  s.act fun c => c.issue w px ⟨0x20, f.toNat⟩ (pureBody (opAclr f.toNat))

/-- `acpy`, opcode 0x21 (R140, R141). -/
def execAcpy (w : Proc) (px : Px) (f : Word16) (s : State) : Host.Outcome State Fault Refusal :=
  s.act fun c => c.issue w px ⟨0x21, f.toNat⟩ (pureBody (opAcpy f.toNat))

/-- `aadd`, opcode 0x22 (R140, R141). -/
def execAadd (w : Proc) (px : Px) (f : Word16) (s : State) : Host.Outcome State Fault Refusal :=
  s.act fun c => c.issue w px ⟨0x22, f.toNat⟩ (pureBody (opAadd f.toNat))

/-- `asub`, opcode 0x23 (R140, R141). -/
def execAsub (w : Proc) (px : Px) (f : Word16) (s : State) : Host.Outcome State Fault Refusal :=
  s.act fun c => c.issue w px ⟨0x23, f.toNat⟩ (pureBody (opAsub f.toNat))

/-- `ashl`, opcode 0x24 (R140, R141). -/
def execAshl (w : Proc) (px : Px) (f : Word16) (s : State) : Host.Outcome State Fault Refusal :=
  s.act fun c => c.issue w px ⟨0x24, f.toNat⟩ (pureBody (opAshl f.toNat))

/-- `aneg`, opcode 0x25 (R140, R141). -/
def execAneg (w : Proc) (px : Px) (f : Word16) (s : State) : Host.Outcome State Fault Refusal :=
  s.act fun c => c.issue w px ⟨0x25, f.toNat⟩ (pureBody (opAneg f.toNat))

/-- `ard`, opcode 0x26 (R140, R141). -/
def execArd (w : Proc) (px : Px) (f : Word16) (s : State) : Host.Outcome State Fault Refusal :=
  s.act fun c => c.issue w px ⟨0x26, f.toNat⟩ (pureBody (opArd f.toNat))

/-- `awr`, opcode 0x27 (R140, R141). -/
def execAwr (w : Proc) (px : Px) (f : Word16) (s : State) : Host.Outcome State Fault Refusal :=
  s.act fun c => c.issue w px ⟨0x27, f.toNat⟩ (pureBody (opAwr f.toNat))

/-- `norm`, opcode 0x48 (R146). -/
def execNorm (w : Proc) (px : Px) (f : Word16) (s : State) : Host.Outcome State Fault Refusal :=
  s.act fun c => c.issue w px ⟨0x48, f.toNat⟩ (pureBody (opNorm f.toNat))

/-- `exp`, opcode 0x49 (R146). -/
def execExp (w : Proc) (px : Px) (f : Word16) (s : State) : Host.Outcome State Fault Refusal :=
  s.act fun c => c.issue w px ⟨0x49, f.toNat⟩ (pureBody (opExp f.toNat))

/-- `bexp`, opcode 0x4A (R146). -/
def execBexp (w : Proc) (px : Px) (f : Word16) (s : State) : Host.Outcome State Fault Refusal :=
  s.act fun c => c.issue w px ⟨0x4A, f.toNat⟩ (pureBody (opBexp f.toNat))

/-- `bexpc`, opcode 0x4B (R146). -/
def execBexpc (w : Proc) (px : Px) (f : Word16) (s : State) : Host.Outcome State Fault Refusal :=
  s.act fun c => c.issue w px ⟨0x4B, f.toNat⟩ (pureBody (opBexpc f.toNat))

/-- `anorm`, opcode 0x4C (R146). -/
def execAnorm (w : Proc) (px : Px) (f : Word16) (s : State) : Host.Outcome State Fault Refusal :=
  s.act fun c => c.issue w px ⟨0x4C, f.toNat⟩ (pureBody (opAnorm f.toNat))

/-- `aexp`, opcode 0x4D (R146). -/
def execAexp (w : Proc) (px : Px) (f : Word16) (s : State) : Host.Outcome State Fault Refusal :=
  s.act fun c => c.issue w px ⟨0x4D, f.toNat⟩ (pureBody (opAexp f.toNat))

end Sys2Proof.Machine
end

