-- ==== Sys2Proof/Machine/Arith.lean ====
section
/-! DEFINITION. Arith.lean: the multiply-accumulate class, the register multiplies and the data arithmetic (0x00 to 0x1F, 0x28 to
0x2A, 0x30 to 0x33; R133 to R139, R142, R143). Every operation is a function from what an iteration sees to the writes it
issues; each instruction's meaning issues it. -/

namespace Sys2Proof.Machine

/-- Complex MACs (R135): y conjugated where `conj`; negated where `neg`; onto the addend where `add`. -/
def opMac (conj neg add : Bool) (f : Nat) (x : Ctx) : List (Nat × Wr) :=
  let o := fOpt f
  let a := fX f
  let b := fY f
  let rr := x.prod o a b
  let ii := x.prod o (a + 1) (b + 1)
  let ri := x.prod o a (b + 1)
  let ir := x.prod o (a + 1) b
  let re := if conj then rr + ii else rr - ii
  let im := if conj then ir - ri else ri + ir
  let s := x.prodLim o a b || x.prodLim o (a + 1) (b + 1)
  (3, .mac (fAcc f) add (if neg then -re else re) (some (if neg then -im else im))) :: vsW 3 false s

/-- Real MACs (R136): the imaginary part stays. -/
def opRmac (neg add : Bool) (f : Nat) (x : Ctx) : List (Nat × Wr) :=
  let p := x.prod (fOpt f) (fX f) (fY f)
  (3, .mac (fAcc f) add (if neg then -p else p) none) :: vsW 3 false (x.prodLim (fOpt f) (fX f) (fY f))

/-- The packed q15 halves of a word as q31 (R138). -/
def q15hi (u : Nat) : Int := sext (field u 16 16) 16 * 65536
def q15lo (u : Nat) : Int := sext (field u 0 16) 16 * 65536

/-- Dual MACs (R137), and under the split prefix two filters on packed coefficients (R138). -/
def opDmac (neg add : Bool) (f : Nat) (x : Ctx) : List (Nat × Wr) :=
  let o := fOpt f
  let a := fX f
  let b := fY f
  if x.px.split then
    let k : Int := if o = 0 then 2 else 4
    let re := k * (x.sop a * q15hi (x.u b) + x.sop (a + 1) * q15hi (x.u (b + 1)))
    let im := k * (x.sop a * q15lo (x.u b) + x.sop (a + 1) * q15lo (x.u (b + 1)))
    (3, .mac (fAcc f) add (if neg then -re else re) (some (if neg then -im else im))) ::
      vsW 3 false (x.sopLim a || x.sopLim (a + 1))
  else
    let p := x.prod o a b + x.prod o (a + 1) (b + 1)
    (3, .mac (fAcc f) add (if neg then -p else p) none) :: vsW 3 false (x.prodLim o a b || x.prodLim o (a + 1) (b + 1))

/-- `mul` (R139). -/
def opMul (f : Nat) (x : Ctx) : List (Nat × Wr) :=
  let v := fdiv (x.sop (fRs1 f) * x.sop (fRs2 f)) (2 ^ 31)
  x.setD 3 (fRd f) (dres v) :: vsW 3 (dresLim v) (x.sopLim (fRs1 f) || x.sopLim (fRs2 f))

/-- `cmul`, and `cmulj` with rs2 conjugated (R139). -/
def opCmul (conj : Bool) (f : Nat) (x : Ctx) : List (Nat × Wr) :=
  let ar := x.sop (fRs1 f)
  let ai := x.sop (fRs1 f + 1)
  let br := x.sop (fRs2 f)
  let bi := if conj then -x.sop (fRs2 f + 1) else x.sop (fRs2 f + 1)
  let re := fdiv (ar * br - ai * bi) (2 ^ 31)
  let im := fdiv (ar * bi + ai * br) (2 ^ 31)
  [x.setD 3 (fRd f) (dres re), x.setD 3 (fRd f + 1) (dres im)] ++
    vsW 3 (dresLim re || dresLim im)
      (x.sopLim (fRs1 f) || x.sopLim (fRs1 f + 1) || x.sopLim (fRs2 f) || x.sopLim (fRs2 f + 1))

/-- `sqr` (R139). -/
def opSqr (f : Nat) (x : Ctx) : List (Nat × Wr) :=
  let v := fdiv (x.sop (fRs1 f) * x.sop (fRs1 f)) (2 ^ 31)
  x.setD 3 (fRd f) (dres v) :: vsW 3 (dresLim v) (x.sopLim (fRs1 f))

/-- A real result of the data arithmetic: dres, Z and N from the 40-bit result, the carry, V and S (R134, R142). -/
def aluW (x : Ctx) (rd : Nat) (v : Int) (cy s : Bool) : List (Nat × Wr) :=
  [x.setD 1 rd (dres v), znc40 (dres v) cy] ++ vsW 1 (dresLim v) s

/-- A complex result: Z where both parts are zero, N of the real part (R134). -/
def aluPairW (x : Ctx) (rd : Nat) (re im : Int) : List (Nat × Wr) :=
  [x.setD 1 rd (dres re), x.setD 1 (rd + 1) (dres im),
    (1, .znc (decide (dres re = 0 ∧ dres im = 0)) (dres re).msb false)] ++ vsW 1 (dresLim re || dresLim im) false

/-- The split forms of `add`, `sub`, `min` and `max` (R143). -/
def opSplit (op : Int → Int → Int) (f : Nat) (x : Ctx) : List (Nat × Wr) :=
  let a := x.u (fRs1 f)
  let b := x.u (fRs2 f)
  let h := op (sext (field a 16 16) 16) (sext (field b 16 16) 16)
  let l := op (sext (field a 0 16) 16) (sext (field b 0 16) 16)
  let out := fun (v : Int) => decide (v < -32768 ∨ 32767 < v)
  let hs := satInt h (-32768) 32767
  let ls := satInt l (-32768) 32767
  let v := xres (wrap hs 16 * 65536 + wrap ls 16)
  [x.setD 1 (fRd f) v, (1, .znc (decide (hs = 0 ∧ ls = 0)) (bitAt (pU v) 31) false)] ++ vsW 1 false (out h || out l)

/-- `add`, `addc` (carry in `k`) (R142). -/
def opAdd (carry : Bool) (f : Nat) (x : Ctx) : List (Nat × Wr) :=
  let k := if carry then b2n (flC x.k.fl) else 0
  if x.px.split then opSplit (· + ·) f x
  else aluW x (fRd f) (x.r (fRs1 f) + x.r (fRs2 f) + Int.ofNat k) (c32 (x.u (fRs1 f)) (x.u (fRs2 f)) k) false

/-- `sub`, `subc` (R142). -/
def opSub (carry : Bool) (f : Nat) (x : Ctx) : List (Nat × Wr) :=
  let k := if carry then b2n (flC x.k.fl) else 0
  if x.px.split then opSplit (· - ·) f x
  else aluW x (fRd f) (x.r (fRs1 f) - x.r (fRs2 f) - Int.ofNat k) (b32 (x.u (fRs1 f)) (x.u (fRs2 f)) k) false

/-- `min`, `max` (R142). -/
def opMin (f : Nat) (x : Ctx) : List (Nat × Wr) :=
  if x.px.split then opSplit min f x else aluW x (fRd f) (min (x.r (fRs1 f)) (x.r (fRs2 f))) false false
def opMax (f : Nat) (x : Ctx) : List (Nat × Wr) :=
  if x.px.split then opSplit max f x else aluW x (fRd f) (max (x.r (fRs1 f)) (x.r (fRs2 f))) false false

/-- `neg`, `abs` (R142). -/
def opNeg (f : Nat) (x : Ctx) : List (Nat × Wr) := aluW x (fRd f) (-x.r (fRs1 f)) false false
def opAbs (f : Nat) (x : Ctx) : List (Nat × Wr) := aluW x (fRd f) (Int.ofNat (x.r (fRs1 f)).natAbs) false false

/-- The flags of a comparison of a register with a value; `b` is the value's 32-bit unsigned view (R142). -/
def cmpW (ra rb : Int) (ua ub : Nat) : List (Nat × Wr) := [(1, .znc (decide (ra = rb)) (decide (ra < rb)) (b32 ua ub 0))]

/-- `cmp`, `tst` (R142). -/
def opCmp (f : Nat) (x : Ctx) : List (Nat × Wr) := cmpW (x.r (fRs1 f)) (x.r (fRs2 f)) (x.u (fRs1 f)) (x.u (fRs2 f))
def opTst (f : Nat) (x : Ctx) : List (Nat × Wr) := [znc40 (x.d (fRs1 f)) false]

/-- `cadd`, `csub`, `cneg`, `conj` (R142). -/
def opCadd (f : Nat) (x : Ctx) : List (Nat × Wr) :=
  aluPairW x (fRd f) (x.r (fRs1 f) + x.r (fRs2 f)) (x.r (fRs1 f + 1) + x.r (fRs2 f + 1))
def opCsub (f : Nat) (x : Ctx) : List (Nat × Wr) :=
  aluPairW x (fRd f) (x.r (fRs1 f) - x.r (fRs2 f)) (x.r (fRs1 f + 1) - x.r (fRs2 f + 1))
def opCneg (f : Nat) (x : Ctx) : List (Nat × Wr) := aluPairW x (fRd f) (-x.r (fRs1 f)) (-x.r (fRs1 f + 1))
def opConj (f : Nat) (x : Ctx) : List (Nat × Wr) := aluPairW x (fRd f) (x.r (fRs1 f)) (-x.r (fRs1 f + 1))

/-- `mag2`, `sat` (R142). -/
def opMag2 (f : Nat) (x : Ctx) : List (Nat × Wr) :=
  let a := x.sop (fRs1 f)
  let b := x.sop (fRs1 f + 1)
  aluW x (fRd f) (fdiv (a * a + b * b) (2 ^ 31)) false (x.sopLim (fRs1 f) || x.sopLim (fRs1 f + 1))
def opSat (f : Nat) (x : Ctx) : List (Nat × Wr) := aluW x (fRd f) (x.sop (fRs1 f)) false (x.sopLim (fRs1 f))

/-- imm16 sign-extended to 32 bits, unsigned (R142). -/
def imm32u (imm : Word16) : Nat := wrap (sext imm.toNat 16) 32

/-- `addi`, `subi`, `cmpi` (R142). -/
def opAddi (f8 : Nat) (imm : Word16) (x : Ctx) : List (Nat × Wr) :=
  let k := f8 % 32
  aluW x k (x.r k + sext imm.toNat 16) (c32 (x.u k) (imm32u imm) 0) false
def opSubi (f8 : Nat) (imm : Word16) (x : Ctx) : List (Nat × Wr) :=
  let k := f8 % 32
  aluW x k (x.r k - sext imm.toNat 16) (b32 (x.u k) (imm32u imm) 0) false
def opCmpi (f8 : Nat) (imm : Word16) (x : Ctx) : List (Nat × Wr) :=
  let k := f8 % 32
  cmpW (x.r k) (sext imm.toNat 16) (x.u k) (imm32u imm)

/-! ## Meanings -/

/-- `mac`, opcode 0x00 (R135). -/
def execMac (w : Proc) (px : Px) (f : Word16) (s : State) : Host.Outcome State Fault Refusal :=
  s.act fun c => c.issue w px ⟨0x00, f.toNat⟩ (pureBody (opMac false false true f.toNat))

/-- `macn`, opcode 0x01 (R135). -/
def execMacn (w : Proc) (px : Px) (f : Word16) (s : State) : Host.Outcome State Fault Refusal :=
  s.act fun c => c.issue w px ⟨0x01, f.toNat⟩ (pureBody (opMac false true true f.toNat))

/-- `mpy`, opcode 0x02 (R135). -/
def execMpy (w : Proc) (px : Px) (f : Word16) (s : State) : Host.Outcome State Fault Refusal :=
  s.act fun c => c.issue w px ⟨0x02, f.toNat⟩ (pureBody (opMac false false false f.toNat))

/-- `mpyn`, opcode 0x03 (R135). -/
def execMpyn (w : Proc) (px : Px) (f : Word16) (s : State) : Host.Outcome State Fault Refusal :=
  s.act fun c => c.issue w px ⟨0x03, f.toNat⟩ (pureBody (opMac false true false f.toNat))

/-- `macj`, opcode 0x04 (R135). -/
def execMacj (w : Proc) (px : Px) (f : Word16) (s : State) : Host.Outcome State Fault Refusal :=
  s.act fun c => c.issue w px ⟨0x04, f.toNat⟩ (pureBody (opMac true false true f.toNat))

/-- `macjn`, opcode 0x05 (R135). -/
def execMacjn (w : Proc) (px : Px) (f : Word16) (s : State) : Host.Outcome State Fault Refusal :=
  s.act fun c => c.issue w px ⟨0x05, f.toNat⟩ (pureBody (opMac true true true f.toNat))

/-- `mpyj`, opcode 0x06 (R135). -/
def execMpyj (w : Proc) (px : Px) (f : Word16) (s : State) : Host.Outcome State Fault Refusal :=
  s.act fun c => c.issue w px ⟨0x06, f.toNat⟩ (pureBody (opMac true false false f.toNat))

/-- `mpyjn`, opcode 0x07 (R135). -/
def execMpyjn (w : Proc) (px : Px) (f : Word16) (s : State) : Host.Outcome State Fault Refusal :=
  s.act fun c => c.issue w px ⟨0x07, f.toNat⟩ (pureBody (opMac true true false f.toNat))

/-- `rmac`, opcode 0x08 (R136). -/
def execRmac (w : Proc) (px : Px) (f : Word16) (s : State) : Host.Outcome State Fault Refusal :=
  s.act fun c => c.issue w px ⟨0x08, f.toNat⟩ (pureBody (opRmac false true f.toNat))

/-- `rmacn`, opcode 0x09 (R136). -/
def execRmacn (w : Proc) (px : Px) (f : Word16) (s : State) : Host.Outcome State Fault Refusal :=
  s.act fun c => c.issue w px ⟨0x09, f.toNat⟩ (pureBody (opRmac true true f.toNat))

/-- `rmpy`, opcode 0x0A (R136). -/
def execRmpy (w : Proc) (px : Px) (f : Word16) (s : State) : Host.Outcome State Fault Refusal :=
  s.act fun c => c.issue w px ⟨0x0A, f.toNat⟩ (pureBody (opRmac false false f.toNat))

/-- `rmpyn`, opcode 0x0B (R136). -/
def execRmpyn (w : Proc) (px : Px) (f : Word16) (s : State) : Host.Outcome State Fault Refusal :=
  s.act fun c => c.issue w px ⟨0x0B, f.toNat⟩ (pureBody (opRmac true false f.toNat))

/-- `dmac`, opcode 0x0C (R137, R138). -/
def execDmac (w : Proc) (px : Px) (f : Word16) (s : State) : Host.Outcome State Fault Refusal :=
  s.act fun c => c.issue w px ⟨0x0C, f.toNat⟩ (pureBody (opDmac false true f.toNat))

/-- `dmacn`, opcode 0x0D (R137, R138). -/
def execDmacn (w : Proc) (px : Px) (f : Word16) (s : State) : Host.Outcome State Fault Refusal :=
  s.act fun c => c.issue w px ⟨0x0D, f.toNat⟩ (pureBody (opDmac true true f.toNat))

/-- `dmpy`, opcode 0x0E (R137, R138). -/
def execDmpy (w : Proc) (px : Px) (f : Word16) (s : State) : Host.Outcome State Fault Refusal :=
  s.act fun c => c.issue w px ⟨0x0E, f.toNat⟩ (pureBody (opDmac false false f.toNat))

/-- `dmpyn`, opcode 0x0F (R137, R138). -/
def execDmpyn (w : Proc) (px : Px) (f : Word16) (s : State) : Host.Outcome State Fault Refusal :=
  s.act fun c => c.issue w px ⟨0x0F, f.toNat⟩ (pureBody (opDmac true false f.toNat))

/-- `add`, opcode 0x10 (R142). -/
def execAdd (w : Proc) (px : Px) (f : Word16) (s : State) : Host.Outcome State Fault Refusal :=
  s.act fun c => c.issue w px ⟨0x10, f.toNat⟩ (pureBody (opAdd false f.toNat))

/-- `sub`, opcode 0x11 (R142). -/
def execSub (w : Proc) (px : Px) (f : Word16) (s : State) : Host.Outcome State Fault Refusal :=
  s.act fun c => c.issue w px ⟨0x11, f.toNat⟩ (pureBody (opSub false f.toNat))

/-- `addc`, opcode 0x12 (R142). -/
def execAddc (w : Proc) (px : Px) (f : Word16) (s : State) : Host.Outcome State Fault Refusal :=
  s.act fun c => c.issue w px ⟨0x12, f.toNat⟩ (pureBody (opAdd true f.toNat))

/-- `subc`, opcode 0x13 (R142). -/
def execSubc (w : Proc) (px : Px) (f : Word16) (s : State) : Host.Outcome State Fault Refusal :=
  s.act fun c => c.issue w px ⟨0x13, f.toNat⟩ (pureBody (opSub true f.toNat))

/-- `neg`, opcode 0x14 (R142). -/
def execNeg (w : Proc) (px : Px) (f : Word16) (s : State) : Host.Outcome State Fault Refusal :=
  s.act fun c => c.issue w px ⟨0x14, f.toNat⟩ (pureBody (opNeg f.toNat))

/-- `abs`, opcode 0x15 (R142). -/
def execAbs (w : Proc) (px : Px) (f : Word16) (s : State) : Host.Outcome State Fault Refusal :=
  s.act fun c => c.issue w px ⟨0x15, f.toNat⟩ (pureBody (opAbs f.toNat))

/-- `min`, opcode 0x16 (R142). -/
def execMin (w : Proc) (px : Px) (f : Word16) (s : State) : Host.Outcome State Fault Refusal :=
  s.act fun c => c.issue w px ⟨0x16, f.toNat⟩ (pureBody (opMin f.toNat))

/-- `max`, opcode 0x17 (R142). -/
def execMax (w : Proc) (px : Px) (f : Word16) (s : State) : Host.Outcome State Fault Refusal :=
  s.act fun c => c.issue w px ⟨0x17, f.toNat⟩ (pureBody (opMax f.toNat))

/-- `cmp`, opcode 0x18 (R142). -/
def execCmp (w : Proc) (px : Px) (f : Word16) (s : State) : Host.Outcome State Fault Refusal :=
  s.act fun c => c.issue w px ⟨0x18, f.toNat⟩ (pureBody (opCmp f.toNat))

/-- `tst`, opcode 0x19 (R142). -/
def execTst (w : Proc) (px : Px) (f : Word16) (s : State) : Host.Outcome State Fault Refusal :=
  s.act fun c => c.issue w px ⟨0x19, f.toNat⟩ (pureBody (opTst f.toNat))

/-- `cadd`, opcode 0x1A (R142). -/
def execCadd (w : Proc) (px : Px) (f : Word16) (s : State) : Host.Outcome State Fault Refusal :=
  s.act fun c => c.issue w px ⟨0x1A, f.toNat⟩ (pureBody (opCadd f.toNat))

/-- `csub`, opcode 0x1B (R142). -/
def execCsub (w : Proc) (px : Px) (f : Word16) (s : State) : Host.Outcome State Fault Refusal :=
  s.act fun c => c.issue w px ⟨0x1B, f.toNat⟩ (pureBody (opCsub f.toNat))

/-- `cneg`, opcode 0x1C (R142). -/
def execCneg (w : Proc) (px : Px) (f : Word16) (s : State) : Host.Outcome State Fault Refusal :=
  s.act fun c => c.issue w px ⟨0x1C, f.toNat⟩ (pureBody (opCneg f.toNat))

/-- `conj`, opcode 0x1D (R142). -/
def execConj (w : Proc) (px : Px) (f : Word16) (s : State) : Host.Outcome State Fault Refusal :=
  s.act fun c => c.issue w px ⟨0x1D, f.toNat⟩ (pureBody (opConj f.toNat))

/-- `mag2`, opcode 0x1E (R142). -/
def execMag2 (w : Proc) (px : Px) (f : Word16) (s : State) : Host.Outcome State Fault Refusal :=
  s.act fun c => c.issue w px ⟨0x1E, f.toNat⟩ (pureBody (opMag2 f.toNat))

/-- `sat`, opcode 0x1F (R142). -/
def execSat (w : Proc) (px : Px) (f : Word16) (s : State) : Host.Outcome State Fault Refusal :=
  s.act fun c => c.issue w px ⟨0x1F, f.toNat⟩ (pureBody (opSat f.toNat))

/-- `addi`, opcode 0x28 (R142). -/
def execAddi (w : Proc) (px : Px) (f8 : Byte) (imm : Word16) (s : State) : Host.Outcome State Fault Refusal :=
  s.act fun c => c.issue w px ⟨0x28, (f8.toNat + 256 * imm.toNat)⟩ (pureBody (opAddi f8.toNat imm))

/-- `subi`, opcode 0x29 (R142). -/
def execSubi (w : Proc) (px : Px) (f8 : Byte) (imm : Word16) (s : State) : Host.Outcome State Fault Refusal :=
  s.act fun c => c.issue w px ⟨0x29, (f8.toNat + 256 * imm.toNat)⟩ (pureBody (opSubi f8.toNat imm))

/-- `cmpi`, opcode 0x2A (R142). -/
def execCmpi (w : Proc) (px : Px) (f8 : Byte) (imm : Word16) (s : State) : Host.Outcome State Fault Refusal :=
  s.act fun c => c.issue w px ⟨0x2A, (f8.toNat + 256 * imm.toNat)⟩ (pureBody (opCmpi f8.toNat imm))

/-- `mul`, opcode 0x30 (R139). -/
def execMul (w : Proc) (px : Px) (f : Word16) (s : State) : Host.Outcome State Fault Refusal :=
  s.act fun c => c.issue w px ⟨0x30, f.toNat⟩ (pureBody (opMul f.toNat))

/-- `cmul`, opcode 0x31 (R139). -/
def execCmul (w : Proc) (px : Px) (f : Word16) (s : State) : Host.Outcome State Fault Refusal :=
  s.act fun c => c.issue w px ⟨0x31, f.toNat⟩ (pureBody (opCmul false f.toNat))

/-- `cmulj`, opcode 0x32 (R139). -/
def execCmulj (w : Proc) (px : Px) (f : Word16) (s : State) : Host.Outcome State Fault Refusal :=
  s.act fun c => c.issue w px ⟨0x32, f.toNat⟩ (pureBody (opCmul true f.toNat))

/-- `sqr`, opcode 0x33 (R139). -/
def execSqr (w : Proc) (px : Px) (f : Word16) (s : State) : Host.Outcome State Fault Refusal :=
  s.act fun c => c.issue w px ⟨0x33, f.toNat⟩ (pureBody (opSqr f.toNat))

end Sys2Proof.Machine
end

