-- ==== Sys2Proof/Machine/Control.lean ====
section
/-! DEFINITION. Control.lean: branches, calls, returns, block repeats, end of frame, `nop` and `trap` (0xA0 to 0xA9, 0xB0; R162 to
R169). -/

namespace Sys2Proof.Machine

/-- A class B target: the exact sum of the opcode's address and sext(off24, 24) (R100, R104). A sum below zero, kept modulo 2^24 in an
engine and 2^32 in the crook, lies outside the program store and crook RAM like any other beyond them (assumption 13). -/
def relTarget (x : Ctx) (off : BitVec 24) : Nat :=
  let t : Int := Int.ofNat (x.k.pc + pxLen x.px) + off.toInt
  wrap t (if x.w.isCrook then 32 else 24)

/-- A branch to `t` where the condition holds (R162). -/
def opBr (cc : Nat) (t : Ctx → Nat) : Body := fun c x =>
  .ok (c, [], .branch (if condTrue (cc % 16) x.k.fl then some (t x, .jump) else none))

/-- A call: one level deeper at the target; at WD = 14 an engine fault or the window-overflow trap (R112, R163). -/
def opCall (cc : Nat) (t : Ctx → Nat) : Body := fun c x =>
  if condTrue (cc % 16) x.k.fl then
    if 14 ≤ x.k.wd then .error (3, none) else .ok (c, [], .branch (some (t x, .call x.k.wd)))
  else .ok (c, [], .branch none)

/-- A return: to RS_(w − 1), one level up; at WD = 0 an engine fault or the window-underflow trap (R112, R163). -/
def opRet (cc : Nat) : Body := fun c x =>
  if condTrue (cc % 16) x.k.fl then
    if x.k.wd = 0 then .error (4, none)
    else .ok (c, [], .branch (some (KMap.get 0 (x.k.wd - 1) x.k.rs, .ret x.k.wd)))
  else .ok (c, [], .branch none)

/-- The target of `jr` and `callr`: all 24 bits of a_k (R162). -/
def regTarget (c8 : Nat) (x : Ctx) : Nat := (x.q (c8 / 16)).toNat

/-- `brep`, `brepr` (R166): a fifth level is an engine fault or the illegal-instruction trap. -/
def opBrep (n : Ctx → Nat) (blen : Nat) : Body := fun c x =>
  match x.k.freeLevel with
  | none => .error (1, none)
  | some _ => .ok (c, [], .setup (n x) blen)

/-- An instruction whose whole effect is on the flow of the program. -/
def opFlow (f : Flow) : Body := fun c _ => .ok (c, [], f)

/-! ## Meanings -/

/-- `br`, opcode 0xA0 (R162 to R169). -/
def execBr (w : Proc) (px : Px) (c8 : Byte) (off : BitVec 24) (s : State) : Host.Outcome State Fault Refusal :=
  s.act fun c => c.issue w px ⟨0xA0, (c8.toNat + 256 * off.toNat)⟩ (opBr c8.toNat fun x => relTarget x off)

/-- `call`, opcode 0xA1 (R162 to R169). -/
def execCall (w : Proc) (px : Px) (c8 : Byte) (off : BitVec 24) (s : State) : Host.Outcome State Fault Refusal :=
  s.act fun c => c.issue w px ⟨0xA1, (c8.toNat + 256 * off.toNat)⟩ (opCall c8.toNat fun x => relTarget x off)

/-- `jr`, opcode 0xA2 (R162 to R169). -/
def execJr (w : Proc) (px : Px) (c8 : Byte) (s : State) : Host.Outcome State Fault Refusal :=
  s.act fun c => c.issue w px ⟨0xA2, c8.toNat⟩ (opBr c8.toNat (regTarget c8.toNat))

/-- `callr`, opcode 0xA3 (R162 to R169). -/
def execCallr (w : Proc) (px : Px) (c8 : Byte) (s : State) : Host.Outcome State Fault Refusal :=
  s.act fun c => c.issue w px ⟨0xA3, c8.toNat⟩ (opCall c8.toNat (regTarget c8.toNat))

/-- `ret`, opcode 0xA4 (R162 to R169). -/
def execRet (w : Proc) (px : Px) (c8 : Byte) (s : State) : Host.Outcome State Fault Refusal :=
  s.act fun c => c.issue w px ⟨0xA4, c8.toNat⟩ (opRet c8.toNat)

/-- `brep`, opcode 0xA5 (R162 to R169). -/
def execBrep (w : Proc) (px : Px) (f8 : Byte) (cnt : Word16) (blen : Word16) (s : State) : Host.Outcome State Fault Refusal :=
  s.act fun c => c.issue w px ⟨0xA5, (f8.toNat + 256 * cnt.toNat + 2 ^ 24 * blen.toNat)⟩ (opBrep (fun _ => cnt.toNat + 1) blen.toNat)

/-- `brepr`, opcode 0xA6 (R162 to R169). -/
def execBrepr (w : Proc) (px : Px) (f8 : Byte) (cnt : Word16) (blen : Word16) (s : State) : Host.Outcome State Fault Refusal :=
  s.act fun c => c.issue w px ⟨0xA6, (f8.toNat + 256 * cnt.toNat + 2 ^ 24 * blen.toNat)⟩ (opBrep (fun x => x.u (f8.toNat % 32) % 65536 + 1) blen.toNat)

/-- `bbrk`, opcode 0xA7 (R162 to R169). -/
def execBbrk (w : Proc) (px : Px) (s : State) : Host.Outcome State Fault Refusal :=
  s.act fun c => c.issue w px ⟨0xA7, 0⟩ (opFlow .bbrk)

/-- `fend`, opcode 0xA8 (R162 to R169). -/
def execFend (w : Proc) (px : Px) (s : State) : Host.Outcome State Fault Refusal :=
  s.act fun c => c.issue w px ⟨0xA8, 0⟩ (opFlow .fend)

/-- `nop`, opcode 0xA9 (R162 to R169). -/
def execNop (w : Proc) (px : Px) (s : State) : Host.Outcome State Fault Refusal :=
  s.act fun c => c.issue w px ⟨0xA9, 0⟩ (opFlow .seq)

/-- `trap`, opcode 0xB0 (R162 to R169). -/
def execTrap (w : Proc) (px : Px) (f8 : Byte) (g8 : Byte) (s : State) : Host.Outcome State Fault Refusal :=
  s.act fun c => c.issue w px ⟨0xB0, (f8.toNat + 256 * g8.toNat)⟩ (opFlow (.trap g8.toNat))

end Sys2Proof.Machine
end

