-- ==== Sys2Proof/Machine/CrookSys.lean ====
section
/-! DEFINITION. CrookSys.lean: the crook's system instructions (0xD0 to 0xD8; R170 to R172, R262, R270). -/

namespace Sys2Proof.Machine

/-- A system register as `mvsr` reads it (R171, R270); an unassigned number reads zero. -/
def Chip.sysReg (c : Chip) (k : Nat) : Nat :=
  let s := c.crook
  let kc := s.core
  if k = 0x0 then s.repc
  else if k = 0x1 then s.xb.toNat
  else if k = 0x2 then s.yb.toNat
  else if k = 0x3 then s.zb.toNat
  else if k = 0x4 then kc.wd
  else if 0x8 ≤ k ∧ k ≤ 0xB then KMap.get 0 (k - 0x8) kc.lc
  else if 0xC ≤ k ∧ k ≤ 0xF then KMap.get 0 (k - 0xC) kc.ls
  else if 0x10 ≤ k ∧ k ≤ 0x13 then KMap.get 0 (k - 0x10) kc.le
  else if 0x20 ≤ k ∧ k ≤ 0x2D then KMap.get 0 (k - 0x20) kc.rs
  else if k = 0x100 then s.epc
  else if k = 0x101 then s.estat.toNat
  else if k = 0x102 then s.cause.toNat
  else if k = 0x103 then s.faddr.toNat
  else if k = 0x104 then s.mode.toNat
  else if k = 0x105 then s.vbase.toNat
  else if k = 0x108 then s.imask.toNat % 2 ^ 32
  else if k = 0x109 then s.imask.toNat / 2 ^ 32
  else if k = 0x10A then c.lines.toNat % 2 ^ 32
  else if k = 0x10B then c.lines.toNat / 2 ^ 32
  else if 0x10C ≤ k ∧ k ≤ 0x10F then (KMap.get 0 (k - 0x10C) s.scr).toNat
  else if k = 0x110 then kc.cyc % 2 ^ 32
  else if k = 0x111 then s.cycSnap / 2 ^ 32 % 2 ^ 32
  else 0

/-- `mvsr` (R170): a read of CYC_LO takes the snapshot that CYC_HI returns (R270). -/
def opMvsr (k sr : Nat) : Body := fun c x =>
  let c1 := if sr = 0x110 then { c with crook := { c.crook with cycSnap := x.k.cyc } } else c
  .ok (c1, [x.setD 1 (k % 32) (xres (c.sysReg sr))], .seq)

/-- `mtsr` (R170). -/
def opMtsr (k sr : Nat) (x : Ctx) : List (Nat × Wr) := [(1, .sys sr (BitVec.ofNat 32 (x.u (k % 32))))]

/-- `ei`, `di` (R170, R255). -/
def opIe (on : Bool) : Body := fun c _ =>
  .ok ({ c with crook := { c.crook with mode := (c.crook.mode &&& 0b101) ||| (if on then 0b010 else 0) } }, [], .seq)

def opWait : Body := fun c _ => .ok ({ c with crook := { c.crook with waiting := true } }, [], .seq)
def opSync : Body := fun c _ => .ok ({ c with crook := { c.crook with syncing := true } }, [], .seq)

/-- The byte address of word `i` of the spill frame at `a15` (R172). -/
def spillAddr (c : Chip) (a15 : QWord) (i : Nat) : Nat := (c.crook.xb.toNat + a15.toNat + 4 * i) % 2 ^ 32

/-- The registers after a window shift: physical register i takes `src i` (R172). -/
def shiftP (p : KMap PWord) (src : Nat → Nat) : KMap PWord :=
  (List.range 256).filterMap fun i =>
    let v := KMap.get 0 (src i) p
    if v = 0 then none else some (i, v)

def shiftRs (rs : KMap Nat) (src : Nat → Nat) : KMap Nat :=
  (List.range 14).filterMap fun i =>
    let v := KMap.get 0 (src i) rs
    if v = 0 then none else some (i, v)

/-- `spill` (R172): no protection trap; an access that protection or R21 refuses stores nothing (R267). Issue is held until the
33 stores have completed. The shift is made at the issue cycle, and writes issued before land on the shifted file (DESIGN CHOICE;
assumption 132). -/
def opSpill : Body := fun c x =>
  let k := x.k
  if k.wd = 0 then .ok (c, [], .seq)
  else
    let a15 := KMap.get 0 15 k.q - 132
    let word := fun (i : Nat) =>
      if i = 32 then KMap.get 0 0 k.rs
      else
        let v := KMap.get 0 (i / 2) k.p
        if i % 2 = 0 then pU v else wrap (sext (v.toNat / 2 ^ 32) 8) 32
    let st := (List.range 33).foldl (fun (st : Chip × List (Nat × Wr)) i =>
      let a := spillAddr c a15 i
      if (st.1.mpuDenied [(1, a, 4)]).isSome then st
      else
        let (c1, ws) := st.1.crookStore a 4 (word i)
        (c1, st.2 ++ ws)) (c, [])
    let k1 := { k with
      q := KMap.set 0 15 a15 k.q
      p := shiftP k.p (fun i => if i < 240 then i + 16 else i)
      rs := shiftRs k.rs (fun i => if i < 13 then i + 1 else i)
      wd := k.wd - 1
      slot := k.slot.shift false }
    .ok (st.1.setCore x.w k1, st.2, .hold 35)

/-- `fill` (R172): earlier stores to RAM have landed, and every other write due within two cycles (DESIGN CHOICE; assumption 132); a
refused access loads zero. -/
def opFill : Body := fun c x =>
  if 14 ≤ x.k.wd then .ok (c, [], .seq)
  else
    let c0 := c.landTo x.w (x.k.cyc + 2)
    let k := c0.core x.w
    let a15 := KMap.get 0 15 k.q
    let k1 := { k with
      q := KMap.set 0 15 (a15 + 132) k.q
      p := (shiftP k.p (fun i => if i < 16 then i else i - 16))
      rs := (shiftRs k.rs (fun i => if i = 0 then 0 else i - 1))
      wd := k.wd + 1
      slot := k.slot.shift true }
    let rdW := fun (i : Nat) =>
      let a := spillAddr c a15 i
      if (c.mpuDenied [(0, a, 4)]).isSome then some 0
      else if isRam a then some (if a % 4 = 0 then Mem.read c0.mem a 4 else 0)
      else none
    let p2 := (List.range 16).foldl (fun p i =>
      KMap.set 0 i (BitVec.ofNat 40 ((rdW (2 * i + 1)).getD 0 % 256 * 2 ^ 32 + (rdW (2 * i)).getD 0)) p) k1.p
    let k2 := { k1 with p := p2, rs := KMap.set 0 0 ((rdW 32).getD 0 % 2 ^ 20) k1.rs }
    let c1 := (List.range 33).foldl (fun (c : Chip) i =>
      let a := spillAddr c a15 i
      if (rdW i).isSome then
        if isRam a ∧ a % 4 ≠ 0 then c.violation .crook a else c
      else
        let dst := if i = 32 then LoadDst.rs0 else if i % 2 = 0 then LoadDst.fillLo (i / 2) else LoadDst.fillHi (i / 2)
        c.holdLoad a 4 dst 1) (c0.setCore x.w k2)
    .ok (c1, [], .hold 35)

/-! ## Meanings -/

/-- `rti`, opcode 0xD0 (R170 to R172). -/
def execRti (w : Proc) (px : Px) (s : State) : Host.Outcome State Fault Refusal :=
  s.act fun c => c.issue w px ⟨0xD0, 0⟩ (fun c _ => .ok (c, [], .rti))

/-- `mvsr`, opcode 0xD1 (R170 to R172). -/
def execMvsr (w : Proc) (px : Px) (f8 : Byte) (imm : Word16) (s : State) : Host.Outcome State Fault Refusal :=
  s.act fun c => c.issue w px ⟨0xD1, (f8.toNat + 256 * imm.toNat)⟩ (opMvsr f8.toNat imm.toNat)

/-- `mtsr`, opcode 0xD2 (R170 to R172). -/
def execMtsr (w : Proc) (px : Px) (f8 : Byte) (imm : Word16) (s : State) : Host.Outcome State Fault Refusal :=
  s.act fun c => c.issue w px ⟨0xD2, (f8.toNat + 256 * imm.toNat)⟩ (pureBody (opMtsr f8.toNat imm.toNat))

/-- `wait`, opcode 0xD3 (R170 to R172). -/
def execWait (w : Proc) (px : Px) (s : State) : Host.Outcome State Fault Refusal :=
  s.act fun c => c.issue w px ⟨0xD3, 0⟩ opWait

/-- `ei`, opcode 0xD4 (R170 to R172). -/
def execEi (w : Proc) (px : Px) (s : State) : Host.Outcome State Fault Refusal :=
  s.act fun c => c.issue w px ⟨0xD4, 0⟩ (opIe true)

/-- `di`, opcode 0xD5 (R170 to R172). -/
def execDi (w : Proc) (px : Px) (s : State) : Host.Outcome State Fault Refusal :=
  s.act fun c => c.issue w px ⟨0xD5, 0⟩ (opIe false)

/-- `spill`, opcode 0xD6 (R170 to R172). -/
def execSpill (w : Proc) (px : Px) (s : State) : Host.Outcome State Fault Refusal :=
  s.act fun c => c.issue w px ⟨0xD6, 0⟩ opSpill

/-- `fill`, opcode 0xD7 (R170 to R172). -/
def execFill (w : Proc) (px : Px) (s : State) : Host.Outcome State Fault Refusal :=
  s.act fun c => c.issue w px ⟨0xD7, 0⟩ opFill

/-- `sync`, opcode 0xD8 (R170 to R172). -/
def execSync (w : Proc) (px : Px) (s : State) : Host.Outcome State Fault Refusal :=
  s.act fun c => c.issue w px ⟨0xD8, 0⟩ opSync

end Sys2Proof.Machine
end

