-- ==== Sys2Proof/Machine/Decimal.lean ====
section
/-! DEFINITION. Decimal.lean: packed decimal and bit-field instructions (0xC0 to 0xC8; R173 to R176). -/

namespace Sys2Proof.Machine

/-- Digit `i` of a packed value. -/
def nib (u i : Nat) : Nat := field u (4 * i) 4

/-- One pass over the digits from digit 0 up: `step` gives digit and carry from digit number and carry. The result, the final
carry. -/
def digits (step : Nat → Nat → Nat × Nat) : Nat → Nat × Nat
  | 0 => (0, 0)
  | n + 1 =>
    let (v, k) := digits step n
    let (d, k') := step n k
    (v + d % 16 * 16 ^ n, k')

/-- Any of the eight digits above 9. -/
def badBcd (u : Nat) : Bool := (List.range 8).any fun i => decide (9 < nib u i)

/-- Flags of the decimal instructions: Z from the 32-bit result, N = 0, the carry, V where `bad` (R173 to R175). -/
def decW (x : Ctx) (rd v : Nat) (cy bad : Bool) : List (Nat × Wr) :=
  [x.setD 1 rd (xres v), (1, .znc (decide (v % 2 ^ 32 = 0)) false cy)] ++ vsW 1 bad false

/-- The digit step of `dadd` and `dsub` (R173). -/
def addDigit (a b i k : Nat) : Nat × Nat :=
  let s := nib a i + nib b i + k
  if 10 ≤ s then (s - 10, 1) else (s, 0)
def subDigit (a b i k : Nat) : Nat × Nat :=
  if nib a i < nib b i + k then ((nib a i + 26 - nib b i - k) % 16, 1) else (nib a i - nib b i - k, 0)

def opDadd (f : Nat) (x : Ctx) : List (Nat × Wr) :=
  let a := x.u (fRs1 f)
  let b := x.u (fRs2 f)
  let r := digits (addDigit a b) 8
  decW x (fRd f) r.1 (decide (r.2 = 1)) (badBcd a || badBcd b)
def opDsub (f : Nat) (x : Ctx) : List (Nat × Wr) :=
  let a := x.u (fRs1 f)
  let b := x.u (fRs2 f)
  let r := digits (subDigit a b) 8
  decW x (fRd f) r.1 (decide (r.2 = 1)) (badBcd a || badBcd b)
/-- `dadj` (R174): C is the final carry; V is not touched. -/
def opDadj (f : Nat) (x : Ctx) : List (Nat × Wr) :=
  let r := digits (addDigit (x.u (fRs1 f)) 0) 8
  decW x (fRd f) r.1 (decide (r.2 = 1)) false
/-- `bcd`, `bin` (R175). -/
def opBcd (f : Nat) (x : Ctx) : List (Nat × Wr) :=
  let u := x.u (fRs1 f)
  decW x (fRd f) (digits (fun i _ => (u % 10 ^ 8 / 10 ^ i % 10, 0)) 8).1 false (decide (10 ^ 8 ≤ u))
def opBin (f : Nat) (x : Ctx) : List (Nat × Wr) :=
  let u := x.u (fRs1 f)
  decW x (fRd f) ((List.range 8).foldl (fun s i => s + nib u i * 10 ^ i) 0) false (badBcd u)

/-- The field of a bit-field instruction: lowest bit and number of bits (R176). -/
def bfField (imm : Nat) : Nat × Nat :=
  let p := imm % 32
  let h := min 31 (p + imm / 32 % 32)
  (p, h - p + 1)

/-- Flags of the bit-field instructions (R176): Z and N of bits 31:0, C = 0. -/
def bfW (x : Ctx) (rd : Nat) (v : PWord) : List (Nat × Wr) := [x.setD 1 rd v, znc32 v false]

def opBfx (f imm : Nat) (x : Ctx) : List (Nat × Wr) :=
  let (p, n) := bfField imm
  bfW x (fRd f) (xres (wrap (sext (field (x.u (fRs1 f)) p n) n) 32))
def opBfxu (f imm : Nat) (x : Ctx) : List (Nat × Wr) :=
  let (p, n) := bfField imm
  bfW x (fRd f) (xres (field (x.u (fRs1 f)) p n))
def opBfi (f imm : Nat) (x : Ctx) : List (Nat × Wr) :=
  let (p, n) := bfField imm
  let u := x.u (fRs1 f)
  bfW x (fRd f) (xres (u - field u p n * 2 ^ p + x.u (fRs2 f) % 2 ^ n * 2 ^ p))

/-! ## Meanings -/

/-- `dadd`, opcode 0xC0 (R173 to R175). -/
def execDadd (w : Proc) (px : Px) (f : Word16) (s : State) : Host.Outcome State Fault Refusal :=
  s.act fun c => c.issue w px ⟨0xC0, f.toNat⟩ (pureBody (opDadd f.toNat))

/-- `dsub`, opcode 0xC1 (R173 to R175). -/
def execDsub (w : Proc) (px : Px) (f : Word16) (s : State) : Host.Outcome State Fault Refusal :=
  s.act fun c => c.issue w px ⟨0xC1, f.toNat⟩ (pureBody (opDsub f.toNat))

/-- `dadj`, opcode 0xC2 (R173 to R175). -/
def execDadj (w : Proc) (px : Px) (f : Word16) (s : State) : Host.Outcome State Fault Refusal :=
  s.act fun c => c.issue w px ⟨0xC2, f.toNat⟩ (pureBody (opDadj f.toNat))

/-- `bcd`, opcode 0xC3 (R173 to R175). -/
def execBcd (w : Proc) (px : Px) (f : Word16) (s : State) : Host.Outcome State Fault Refusal :=
  s.act fun c => c.issue w px ⟨0xC3, f.toNat⟩ (pureBody (opBcd f.toNat))

/-- `bin`, opcode 0xC4 (R173 to R175). -/
def execBin (w : Proc) (px : Px) (f : Word16) (s : State) : Host.Outcome State Fault Refusal :=
  s.act fun c => c.issue w px ⟨0xC4, f.toNat⟩ (pureBody (opBin f.toNat))

/-- `bfx`, opcode 0xC6 (R176). -/
def execBfx (w : Proc) (px : Px) (f : Word16) (imm : Word16) (s : State) : Host.Outcome State Fault Refusal :=
  s.act fun c => c.issue w px ⟨0xC6, (f.toNat + 65536 * imm.toNat)⟩ (pureBody (opBfx f.toNat imm.toNat))

/-- `bfxu`, opcode 0xC7 (R176). -/
def execBfxu (w : Proc) (px : Px) (f : Word16) (imm : Word16) (s : State) : Host.Outcome State Fault Refusal :=
  s.act fun c => c.issue w px ⟨0xC7, (f.toNat + 65536 * imm.toNat)⟩ (pureBody (opBfxu f.toNat imm.toNat))

/-- `bfi`, opcode 0xC8 (R176). -/
def execBfi (w : Proc) (px : Px) (f : Word16) (imm : Word16) (s : State) : Host.Outcome State Fault Refusal :=
  s.act fun c => c.issue w px ⟨0xC8, (f.toNat + 65536 * imm.toNat)⟩ (pureBody (opBfi f.toNat imm.toNat))

end Sys2Proof.Machine
end

