-- ==== Sys2Proof/Machine/Logic.lean ====
section
/-! DEFINITION. Logic.lean: shift and logic (0x40 to 0x47, 0x4E to 0x5C; R144). -/

namespace Sys2Proof.Machine

/-- A result with its logic flags (R134): through the register, Z and N of bits 31:0, the carry. -/
def logW (x : Ctx) (rd : Nat) (v : PWord) (cy : Bool) : List (Nat × Wr) := [x.setD 1 rd v, znc32 v cy]

/-- Arithmetic shift left (R144): V where dres limits. -/
def shlArith (x : Ctx) (rd : Nat) (r : Int) (n : Nat) : List (Nat × Wr) :=
  logW x rd (dres (r * 2 ^ n)) false ++ vsW 1 (dresLim (r * 2 ^ n)) false
/-- Arithmetic shift right: the carry is bit n − 1 of r (R144). -/
def shrArith (x : Ctx) (rd : Nat) (r : Int) (n : Nat) : List (Nat × Wr) :=
  logW x rd (BitVec.ofInt 40 (fdiv r (2 ^ n))) (decide (n ≠ 0 ∧ fmod (fdiv r (2 ^ (n - 1))) 2 = 1))
/-- Logical shifts (R144). -/
def shlLogic (x : Ctx) (rd u n : Nat) : List (Nat × Wr) :=
  logW x rd (xres (u * 2 ^ n % 2 ^ 32)) (decide (1 ≤ n ∧ n ≤ 32) && bitAt u (32 - n))
def shrLogic (x : Ctx) (rd u n : Nat) : List (Nat × Wr) :=
  logW x rd (xres (u / 2 ^ n)) (decide (1 ≤ n ∧ n ≤ 32) && bitAt u (n - 1))

/-- The shift count of class R (R144). -/
def Ctx.shiftN (x : Ctx) (f : Nat) : Nat := x.u (fRs2 f) % 64

def opAsl (f : Nat) (x : Ctx) : List (Nat × Wr) := shlArith x (fRd f) (x.r (fRs1 f)) (x.shiftN f)
def opAsr (f : Nat) (x : Ctx) : List (Nat × Wr) := shrArith x (fRd f) (x.r (fRs1 f)) (x.shiftN f)
def opLsl (f : Nat) (x : Ctx) : List (Nat × Wr) := shlLogic x (fRd f) (x.u (fRs1 f)) (x.shiftN f)
def opLsr (f : Nat) (x : Ctx) : List (Nat × Wr) := shrLogic x (fRd f) (x.u (fRs1 f)) (x.shiftN f)
def opAsli (k : Nat) (imm : Word16) (x : Ctx) : List (Nat × Wr) := shlArith x (k % 32) (x.r (k % 32)) (imm.toNat % 64)
def opAsri (k : Nat) (imm : Word16) (x : Ctx) : List (Nat × Wr) := shrArith x (k % 32) (x.r (k % 32)) (imm.toNat % 64)
def opLsli (k : Nat) (imm : Word16) (x : Ctx) : List (Nat × Wr) := shlLogic x (k % 32) (x.u (k % 32)) (imm.toNat % 64)
def opLsri (k : Nat) (imm : Word16) (x : Ctx) : List (Nat × Wr) := shrLogic x (k % 32) (x.u (k % 32)) (imm.toNat % 64)

/-- `rol`, `ror`: bits 31:0 rotated by u(rs2)[4:0] (R144). -/
def opRol (f : Nat) (x : Ctx) : List (Nat × Wr) :=
  let v := ((BitVec.ofNat 32 (x.u (fRs1 f))).rotateLeft (x.u (fRs2 f) % 32)).toNat
  logW x (fRd f) (xres v) (bitAt v 0)
def opRor (f : Nat) (x : Ctx) : List (Nat × Wr) :=
  let v := ((BitVec.ofNat 32 (x.u (fRs1 f))).rotateRight (x.u (fRs2 f) % 32)).toNat
  logW x (fRd f) (xres v) (bitAt v 31)

def opAnd (f : Nat) (x : Ctx) : List (Nat × Wr) := logW x (fRd f) (xres (x.u (fRs1 f) &&& x.u (fRs2 f))) false
def opOr (f : Nat) (x : Ctx) : List (Nat × Wr) := logW x (fRd f) (xres (x.u (fRs1 f) ||| x.u (fRs2 f))) false
def opXor (f : Nat) (x : Ctx) : List (Nat × Wr) := logW x (fRd f) (xres (x.u (fRs1 f) ^^^ x.u (fRs2 f))) false
def opNot (f : Nat) (x : Ctx) : List (Nat × Wr) := logW x (fRd f) (xres (2 ^ 32 - 1 - x.u (fRs1 f))) false
def opAndi (k : Nat) (imm : Word16) (x : Ctx) : List (Nat × Wr) := logW x (k % 32) (xres (x.u (k % 32) &&& imm.toNat)) false
def opOri (k : Nat) (imm : Word16) (x : Ctx) : List (Nat × Wr) := logW x (k % 32) (xres (x.u (k % 32) ||| imm.toNat)) false
def opXori (k : Nat) (imm : Word16) (x : Ctx) : List (Nat × Wr) := logW x (k % 32) (xres (x.u (k % 32) ^^^ imm.toNat)) false

/-- The flags of the bit instructions (R144): Z the inverse of the old bit, N bit 31 of the result, C the old bit. -/
def bitFl (old : Bool) (v : PWord) : Nat × Wr := (1, .znc (!old) (bitAt (pU v) 31) old)

def opBset (k : Nat) (imm : Word16) (x : Ctx) : List (Nat × Wr) :=
  let u := x.u (k % 32)
  let b := imm.toNat % 32
  let v := xres (if bitAt u b then u else u + 2 ^ b)
  [x.setD 1 (k % 32) v, bitFl (bitAt u b) v]
def opBclr (k : Nat) (imm : Word16) (x : Ctx) : List (Nat × Wr) :=
  let u := x.u (k % 32)
  let b := imm.toNat % 32
  let v := xres (if bitAt u b then u - 2 ^ b else u)
  [x.setD 1 (k % 32) v, bitFl (bitAt u b) v]
def opBtst (k : Nat) (imm : Word16) (x : Ctx) : List (Nat × Wr) :=
  let u := x.u (k % 32)
  [bitFl (bitAt u (imm.toNat % 32)) (xres u)]
def opBchg (k : Nat) (imm : Word16) (x : Ctx) : List (Nat × Wr) :=
  let u := x.u (k % 32)
  let b := imm.toNat % 32
  let v := xres (if bitAt u b then u - 2 ^ b else u + 2 ^ b)
  [x.setD 1 (k % 32) v, bitFl (bitAt u b) v]

/-- Ones among the low `n` bits. -/
def onesBelow (u : Nat) : Nat → Nat
  | 0 => 0
  | n + 1 => onesBelow u n + b2n (bitAt u n)

/-- Zeros above the highest one of the low `n` bits. -/
def zerosAbove (u : Nat) : Nat → Nat
  | 0 => 0
  | n + 1 => if bitAt u n then 0 else 1 + zerosAbove u n

def opPopc (f : Nat) (x : Ctx) : List (Nat × Wr) := logW x (fRd f) (xres (onesBelow (x.u (fRs1 f)) 32)) false
def opClz (f : Nat) (x : Ctx) : List (Nat × Wr) := logW x (fRd f) (xres (zerosAbove (x.u (fRs1 f)) 32)) false

/-! ## Meanings -/

/-- `asl`, opcode 0x40 (R144). -/
def execAsl (w : Proc) (px : Px) (f : Word16) (s : State) : Host.Outcome State Fault Refusal :=
  s.act fun c => c.issue w px ⟨0x40, f.toNat⟩ (pureBody (opAsl f.toNat))

/-- `asr`, opcode 0x41 (R144). -/
def execAsr (w : Proc) (px : Px) (f : Word16) (s : State) : Host.Outcome State Fault Refusal :=
  s.act fun c => c.issue w px ⟨0x41, f.toNat⟩ (pureBody (opAsr f.toNat))

/-- `lsl`, opcode 0x42 (R144). -/
def execLsl (w : Proc) (px : Px) (f : Word16) (s : State) : Host.Outcome State Fault Refusal :=
  s.act fun c => c.issue w px ⟨0x42, f.toNat⟩ (pureBody (opLsl f.toNat))

/-- `lsr`, opcode 0x43 (R144). -/
def execLsr (w : Proc) (px : Px) (f : Word16) (s : State) : Host.Outcome State Fault Refusal :=
  s.act fun c => c.issue w px ⟨0x43, f.toNat⟩ (pureBody (opLsr f.toNat))

/-- `rol`, opcode 0x4E (R144). -/
def execRol (w : Proc) (px : Px) (f : Word16) (s : State) : Host.Outcome State Fault Refusal :=
  s.act fun c => c.issue w px ⟨0x4E, f.toNat⟩ (pureBody (opRol f.toNat))

/-- `ror`, opcode 0x4F (R144). -/
def execRor (w : Proc) (px : Px) (f : Word16) (s : State) : Host.Outcome State Fault Refusal :=
  s.act fun c => c.issue w px ⟨0x4F, f.toNat⟩ (pureBody (opRor f.toNat))

/-- `and`, opcode 0x50 (R144). -/
def execAnd (w : Proc) (px : Px) (f : Word16) (s : State) : Host.Outcome State Fault Refusal :=
  s.act fun c => c.issue w px ⟨0x50, f.toNat⟩ (pureBody (opAnd f.toNat))

/-- `or`, opcode 0x51 (R144). -/
def execOr (w : Proc) (px : Px) (f : Word16) (s : State) : Host.Outcome State Fault Refusal :=
  s.act fun c => c.issue w px ⟨0x51, f.toNat⟩ (pureBody (opOr f.toNat))

/-- `xor`, opcode 0x52 (R144). -/
def execXor (w : Proc) (px : Px) (f : Word16) (s : State) : Host.Outcome State Fault Refusal :=
  s.act fun c => c.issue w px ⟨0x52, f.toNat⟩ (pureBody (opXor f.toNat))

/-- `not`, opcode 0x53 (R144). -/
def execNot (w : Proc) (px : Px) (f : Word16) (s : State) : Host.Outcome State Fault Refusal :=
  s.act fun c => c.issue w px ⟨0x53, f.toNat⟩ (pureBody (opNot f.toNat))

/-- `popc`, opcode 0x5B (R144). -/
def execPopc (w : Proc) (px : Px) (f : Word16) (s : State) : Host.Outcome State Fault Refusal :=
  s.act fun c => c.issue w px ⟨0x5B, f.toNat⟩ (pureBody (opPopc f.toNat))

/-- `clz`, opcode 0x5C (R144). -/
def execClz (w : Proc) (px : Px) (f : Word16) (s : State) : Host.Outcome State Fault Refusal :=
  s.act fun c => c.issue w px ⟨0x5C, f.toNat⟩ (pureBody (opClz f.toNat))

/-- `asli`, opcode 0x44 (R144). -/
def execAsli (w : Proc) (px : Px) (f8 : Byte) (imm : Word16) (s : State) : Host.Outcome State Fault Refusal :=
  s.act fun c => c.issue w px ⟨0x44, (f8.toNat + 256 * imm.toNat)⟩ (pureBody (opAsli f8.toNat imm))

/-- `asri`, opcode 0x45 (R144). -/
def execAsri (w : Proc) (px : Px) (f8 : Byte) (imm : Word16) (s : State) : Host.Outcome State Fault Refusal :=
  s.act fun c => c.issue w px ⟨0x45, (f8.toNat + 256 * imm.toNat)⟩ (pureBody (opAsri f8.toNat imm))

/-- `lsli`, opcode 0x46 (R144). -/
def execLsli (w : Proc) (px : Px) (f8 : Byte) (imm : Word16) (s : State) : Host.Outcome State Fault Refusal :=
  s.act fun c => c.issue w px ⟨0x46, (f8.toNat + 256 * imm.toNat)⟩ (pureBody (opLsli f8.toNat imm))

/-- `lsri`, opcode 0x47 (R144). -/
def execLsri (w : Proc) (px : Px) (f8 : Byte) (imm : Word16) (s : State) : Host.Outcome State Fault Refusal :=
  s.act fun c => c.issue w px ⟨0x47, (f8.toNat + 256 * imm.toNat)⟩ (pureBody (opLsri f8.toNat imm))

/-- `andi`, opcode 0x54 (R144). -/
def execAndi (w : Proc) (px : Px) (f8 : Byte) (imm : Word16) (s : State) : Host.Outcome State Fault Refusal :=
  s.act fun c => c.issue w px ⟨0x54, (f8.toNat + 256 * imm.toNat)⟩ (pureBody (opAndi f8.toNat imm))

/-- `ori`, opcode 0x55 (R144). -/
def execOri (w : Proc) (px : Px) (f8 : Byte) (imm : Word16) (s : State) : Host.Outcome State Fault Refusal :=
  s.act fun c => c.issue w px ⟨0x55, (f8.toNat + 256 * imm.toNat)⟩ (pureBody (opOri f8.toNat imm))

/-- `xori`, opcode 0x56 (R144). -/
def execXori (w : Proc) (px : Px) (f8 : Byte) (imm : Word16) (s : State) : Host.Outcome State Fault Refusal :=
  s.act fun c => c.issue w px ⟨0x56, (f8.toNat + 256 * imm.toNat)⟩ (pureBody (opXori f8.toNat imm))

/-- `bset`, opcode 0x57 (R144). -/
def execBset (w : Proc) (px : Px) (f8 : Byte) (imm : Word16) (s : State) : Host.Outcome State Fault Refusal :=
  s.act fun c => c.issue w px ⟨0x57, (f8.toNat + 256 * imm.toNat)⟩ (pureBody (opBset f8.toNat imm))

/-- `bclr`, opcode 0x58 (R144). -/
def execBclr (w : Proc) (px : Px) (f8 : Byte) (imm : Word16) (s : State) : Host.Outcome State Fault Refusal :=
  s.act fun c => c.issue w px ⟨0x58, (f8.toNat + 256 * imm.toNat)⟩ (pureBody (opBclr f8.toNat imm))

/-- `btst`, opcode 0x59 (R144). -/
def execBtst (w : Proc) (px : Px) (f8 : Byte) (imm : Word16) (s : State) : Host.Outcome State Fault Refusal :=
  s.act fun c => c.issue w px ⟨0x59, (f8.toNat + 256 * imm.toNat)⟩ (pureBody (opBtst f8.toNat imm))

/-- `bchg`, opcode 0x5A (R144). -/
def execBchg (w : Proc) (px : Px) (f8 : Byte) (imm : Word16) (s : State) : Host.Outcome State Fault Refusal :=
  s.act fun c => c.issue w px ⟨0x5A, (f8.toNat + 256 * imm.toNat)⟩ (pureBody (opBchg f8.toNat imm))

end Sys2Proof.Machine
end

