-- ==== Sys2Proof/Machine/MemIns.lean ====
section
/-! DEFINITION. MemIns.lean: loads and stores (0x60 to 0x6C, 0x7B to 0x7E; R152 to R156). -/

namespace Sys2Proof.Machine

/-- The bytes of a class M instruction after its opcode, as one number: M16 and as many displacement bytes as it names. -/
def mPayload (m disp : Word16) : Nat :=
  m.toNat + 65536 * (disp.toNat % 2 ^ (8 * min (field m.toNat 14 2) 2))

/-- The operand of a class M instruction (R119, R152): a displacement of one or two bytes is two's complement. -/
def opndM (m : Nat) (disp : Word16) (bus : Nat) (pair : Bool) (bytes : Nat) (c : Chip) (x : Ctx) : Except Trap MemOp :=
  let dsz := field m 14 2
  let dv := if dsz = 0 then 0 else sext disp.toNat (8 * min dsz 2)
  c.operand x bus (fRd m) (field m 5 4) (field m 9 3) (field m 12 2) (decide (dsz ≠ 0)) dv pair bytes

/-- A load (R153, R154). -/
def opLoad (bus : Nat) (pair : Bool) (bytes : Nat) (zext : Bool) (m disp : Word16) : Body := fun c x =>
  match opndM m.toNat disp bus pair bytes c x with
  | .error t => .error t
  | .ok o =>
    match c.protect x [(false, o)] with
    | .error t => .error t
    | .ok _ =>
      match c.doLoad x o zext with
      | .error t => .error t
      | .ok (c1, ws) => .ok (c1, ws, .seq)

/-- A store (R153, R155). -/
def opStore (bus : Nat) (pair : Bool) (bytes : Nat) (raw : Bool) (m disp : Word16) : Body := fun c x =>
  match opndM m.toNat disp bus pair bytes c x with
  | .error t => .error t
  | .ok o =>
    match c.protect x [(true, o)] with
    | .error t => .error t
    | .ok _ =>
      match c.doStore x o raw with
      | .error t => .error t
      | .ok (c1, ws) => .ok (c1, ws, .seq)

/-- `ldg` (R123, R153): an input word, or an output word as it stands. -/
def opLdg (k g8 : Nat) (x : Ctx) : List (Nat × Wr) :=
  let v := if g8 < 64 then KMap.get 0 g8 x.k.inw else KMap.get 0 (g8 - 64) x.k.outw
  [x.setD 2 (k % 32) (wordToP v)]

/-- The conversion step of `stg` (R147): by the width of the slot that a route gives the output word. -/
def Chip.stgStep (c : Chip) (n word : Nat) : Nat :=
  match c.roleFold, c.roleOf n with
  | some f, some r =>
    match f.routes.find? fun t => decide (t.role = r ∧ t.word = word) &&
        (match f.lanes[t.lane]? with
          | some l => l.dir == 1
          | none => false) with
    | some t =>
      match f.lanes[t.lane]? with
      | some l =>
        match f.groups[l.group]? with
        | some g => 2 ^ (32 - g.width)
        | none => 1
      | none => 1
    | none => 1
  | _, _ => 1

/-- `stg` (R123, R147, R148). -/
def opStg (k g8 : Nat) : Body := fun c x =>
  match x.w with
  | .crook => .error engFault
  | .engine n =>
    let (ws, s, g) := convWords x.storeMode (c.stgStep n.val g8) x.k.g [x.d (k % 32)]
    .ok (c.setCore x.w { x.k with g := g }, (ws.map fun v => (2, Wr.outw (g8 % 64) v)) ++ vsW 1 false s, .seq)

/-! ## Meanings -/

/-- `ldx`, opcode 0x60 (R153). -/
def execLdx (w : Proc) (px : Px) (m : Word16) (disp : Word16) (s : State) : Host.Outcome State Fault Refusal :=
  s.act fun c => c.issue w px ⟨0x60, (mPayload m disp)⟩ (opLoad 0 false 4 false m disp)

/-- `stx`, opcode 0x61 (R153). -/
def execStx (w : Proc) (px : Px) (m : Word16) (disp : Word16) (s : State) : Host.Outcome State Fault Refusal :=
  s.act fun c => c.issue w px ⟨0x61, (mPayload m disp)⟩ (opStore 0 false 4 false m disp)

/-- `ldy`, opcode 0x62 (R153). -/
def execLdy (w : Proc) (px : Px) (m : Word16) (disp : Word16) (s : State) : Host.Outcome State Fault Refusal :=
  s.act fun c => c.issue w px ⟨0x62, (mPayload m disp)⟩ (opLoad 1 false 4 false m disp)

/-- `sty`, opcode 0x63 (R153). -/
def execSty (w : Proc) (px : Px) (m : Word16) (disp : Word16) (s : State) : Host.Outcome State Fault Refusal :=
  s.act fun c => c.issue w px ⟨0x63, (mPayload m disp)⟩ (opStore 1 false 4 false m disp)

/-- `ldz`, opcode 0x64 (R153). -/
def execLdz (w : Proc) (px : Px) (m : Word16) (disp : Word16) (s : State) : Host.Outcome State Fault Refusal :=
  s.act fun c => c.issue w px ⟨0x64, (mPayload m disp)⟩ (opLoad 2 false 4 false m disp)

/-- `stz`, opcode 0x65 (R153). -/
def execStz (w : Proc) (px : Px) (m : Word16) (disp : Word16) (s : State) : Host.Outcome State Fault Refusal :=
  s.act fun c => c.issue w px ⟨0x65, (mPayload m disp)⟩ (opStore 2 false 4 false m disp)

/-- `ldxc`, opcode 0x66 (R153). -/
def execLdxc (w : Proc) (px : Px) (m : Word16) (disp : Word16) (s : State) : Host.Outcome State Fault Refusal :=
  s.act fun c => c.issue w px ⟨0x66, (mPayload m disp)⟩ (opLoad 0 true 4 false m disp)

/-- `stxc`, opcode 0x67 (R153). -/
def execStxc (w : Proc) (px : Px) (m : Word16) (disp : Word16) (s : State) : Host.Outcome State Fault Refusal :=
  s.act fun c => c.issue w px ⟨0x67, (mPayload m disp)⟩ (opStore 0 true 4 false m disp)

/-- `ldyc`, opcode 0x68 (R153). -/
def execLdyc (w : Proc) (px : Px) (m : Word16) (disp : Word16) (s : State) : Host.Outcome State Fault Refusal :=
  s.act fun c => c.issue w px ⟨0x68, (mPayload m disp)⟩ (opLoad 1 true 4 false m disp)

/-- `ldzc`, opcode 0x69 (R153). -/
def execLdzc (w : Proc) (px : Px) (m : Word16) (disp : Word16) (s : State) : Host.Outcome State Fault Refusal :=
  s.act fun c => c.issue w px ⟨0x69, (mPayload m disp)⟩ (opLoad 2 true 4 false m disp)

/-- `stzc`, opcode 0x6A (R153). -/
def execStzc (w : Proc) (px : Px) (m : Word16) (disp : Word16) (s : State) : Host.Outcome State Fault Refusal :=
  s.act fun c => c.issue w px ⟨0x6A, (mPayload m disp)⟩ (opStore 2 true 4 false m disp)

/-- `ld8`, opcode 0x7B (R153). -/
def execLd8 (w : Proc) (px : Px) (m : Word16) (disp : Word16) (s : State) : Host.Outcome State Fault Refusal :=
  s.act fun c => c.issue w px ⟨0x7B, (mPayload m disp)⟩ (opLoad 0 false 1 true m disp)

/-- `st8`, opcode 0x7C (R153). -/
def execSt8 (w : Proc) (px : Px) (m : Word16) (disp : Word16) (s : State) : Host.Outcome State Fault Refusal :=
  s.act fun c => c.issue w px ⟨0x7C, (mPayload m disp)⟩ (opStore 0 false 1 true m disp)

/-- `ld16`, opcode 0x7D (R153). -/
def execLd16 (w : Proc) (px : Px) (m : Word16) (disp : Word16) (s : State) : Host.Outcome State Fault Refusal :=
  s.act fun c => c.issue w px ⟨0x7D, (mPayload m disp)⟩ (opLoad 0 false 2 true m disp)

/-- `st16`, opcode 0x7E (R153). -/
def execSt16 (w : Proc) (px : Px) (m : Word16) (disp : Word16) (s : State) : Host.Outcome State Fault Refusal :=
  s.act fun c => c.issue w px ⟨0x7E, (mPayload m disp)⟩ (opStore 0 false 2 true m disp)

/-- `ldg`, opcode 0x6B (R153). -/
def execLdg (w : Proc) (px : Px) (f8 : Byte) (g8 : Byte) (s : State) : Host.Outcome State Fault Refusal :=
  s.act fun c => c.issue w px ⟨0x6B, (f8.toNat + 256 * g8.toNat)⟩ (pureBody (opLdg f8.toNat g8.toNat))

/-- `stg`, opcode 0x6C (R153). -/
def execStg (w : Proc) (px : Px) (f8 : Byte) (g8 : Byte) (s : State) : Host.Outcome State Fault Refusal :=
  s.act fun c => c.issue w px ⟨0x6C, (f8.toNat + 256 * g8.toNat)⟩ (opStg f8.toNat g8.toNat)

end Sys2Proof.Machine
end

