-- ==== Sys2Proof/Machine/Moves.lean ====
section
/-! DEFINITION. Moves.lean: register, flag and feature moves (0x70 to 0x7A; R157, R158). -/

namespace Sys2Proof.Machine

def opMov (f : Nat) (x : Ctx) : List (Nat × Wr) := [x.setD 1 (fRd f) (x.d (fRs1 f))]
def opMovc (f : Nat) (x : Ctx) : List (Nat × Wr) :=
  [x.setD 1 (fRd f) (x.d (fRs1 f)), x.setD 1 (fRd f + 1) (x.d (fRs1 f + 1))]
def opLdi (k : Nat) (imm : Word) (x : Ctx) : List (Nat × Wr) := [x.setD 1 (k % 32) (wordToP imm)]

/-- `mvar` (R157): a and l zero-extended, m sign-extended; 48 to 63 read as zero. -/
def opMvar (f : Nat) (x : Ctx) : List (Nat × Wr) :=
  let n := field f 5 6
  let v := x.q n
  [x.setD 1 (f % 32) (if 16 ≤ n ∧ n < 32 then v.signExtend 40 else v.zeroExtend 40)]

/-- A write of an address-file register; 48 to 63: none (R157). -/
def setQ (n : Nat) (v : QWord) : List (Nat × Wr) := if n < 48 then [(1, .q n v)] else []

def opMvra (f : Nat) (x : Ctx) : List (Nat × Wr) := setQ (field f 5 6) (BitVec.ofNat 24 (x.u (f % 32)))
def opLdai (k : Nat) (imm : Word) (_ : Ctx) : List (Nat × Wr) := setQ (k % 64) (BitVec.ofNat 24 imm.toNat)
def opAddai (k : Nat) (imm : Word16) (x : Ctx) : List (Nat × Wr) := setQ (k % 64) (x.q (k % 64) + imm.signExtend 24)

/-- `mvf`, `mvf.c` (R157, R158). -/
def opMvf (k g8 : Nat) (x : Ctx) : List (Nat × Wr) :=
  x.setD 1 (k % 32) (xres x.k.fl.toNat) :: (if g8 = 1 then [(1, .clrVS)] else [])
def opMtf (k : Nat) (x : Ctx) : List (Nat × Wr) := [(1, .fl (BitVec.ofNat 5 (x.u (k % 32))))]

/-- FEAT0 to FEAT3 as a processor reads them (R125): FEAT3 names the engine's role and flock, or the crook. -/
def Chip.feat (c : Chip) (w : Proc) (n : Nat) : Nat :=
  let rate := c.get F.FOLD_STAT_rate
  if n = 0 then (c.rd R.SYS_FEAT0).toNat
  else if n = 1 then (c.rd R.SYS_FEAT1).toNat
  else if n = 2 then (c.rd R.SYS_FEAT2).toNat
  else
    match w with
    | .crook => 2 ^ 31 + 0x1F * 2 ^ 16 + rate
    | .engine e => (c.roleOf e.val).getD 0 * 2 ^ 16 + c.flockOf e.val * 2 ^ 12 + rate

def opMvfeat (k g8 : Nat) : Body := fun c x => .ok (c, [x.setD 1 (k % 32) (xres (c.feat x.w (g8 % 4)))], .seq)

/-! ## Meanings -/

/-- `mov`, opcode 0x70 (R157). -/
def execMov (w : Proc) (px : Px) (f : Word16) (s : State) : Host.Outcome State Fault Refusal :=
  s.act fun c => c.issue w px ⟨0x70, f.toNat⟩ (pureBody (opMov f.toNat))

/-- `movc`, opcode 0x71 (R157). -/
def execMovc (w : Proc) (px : Px) (f : Word16) (s : State) : Host.Outcome State Fault Refusal :=
  s.act fun c => c.issue w px ⟨0x71, f.toNat⟩ (pureBody (opMovc f.toNat))

/-- `ldi`, opcode 0x72 (R157). -/
def execLdi (w : Proc) (px : Px) (f8 : Byte) (imm : Word) (s : State) : Host.Outcome State Fault Refusal :=
  s.act fun c => c.issue w px ⟨0x72, (f8.toNat + 256 * imm.toNat)⟩ (pureBody (opLdi f8.toNat imm))

/-- `mvar`, opcode 0x74 (R157). -/
def execMvar (w : Proc) (px : Px) (f : Word16) (s : State) : Host.Outcome State Fault Refusal :=
  s.act fun c => c.issue w px ⟨0x74, f.toNat⟩ (pureBody (opMvar f.toNat))

/-- `mvra`, opcode 0x75 (R157). -/
def execMvra (w : Proc) (px : Px) (f : Word16) (s : State) : Host.Outcome State Fault Refusal :=
  s.act fun c => c.issue w px ⟨0x75, f.toNat⟩ (pureBody (opMvra f.toNat))

/-- `ldai`, opcode 0x76 (R157). -/
def execLdai (w : Proc) (px : Px) (f8 : Byte) (imm : Word) (s : State) : Host.Outcome State Fault Refusal :=
  s.act fun c => c.issue w px ⟨0x76, (f8.toNat + 256 * imm.toNat)⟩ (pureBody (opLdai f8.toNat imm))

/-- `addai`, opcode 0x77 (R157). -/
def execAddai (w : Proc) (px : Px) (f8 : Byte) (imm : Word16) (s : State) : Host.Outcome State Fault Refusal :=
  s.act fun c => c.issue w px ⟨0x77, (f8.toNat + 256 * imm.toNat)⟩ (pureBody (opAddai f8.toNat imm))

/-- `mvf`, opcode 0x78 (R157). -/
def execMvf (w : Proc) (px : Px) (f8 : Byte) (g8 : Byte) (s : State) : Host.Outcome State Fault Refusal :=
  s.act fun c => c.issue w px ⟨0x78, (f8.toNat + 256 * g8.toNat)⟩ (pureBody (opMvf f8.toNat g8.toNat))

/-- `mtf`, opcode 0x79 (R157). -/
def execMtf (w : Proc) (px : Px) (f8 : Byte) (g8 : Byte) (s : State) : Host.Outcome State Fault Refusal :=
  s.act fun c => c.issue w px ⟨0x79, (f8.toNat + 256 * g8.toNat)⟩ (pureBody (opMtf f8.toNat))

/-- `mvfeat`, opcode 0x7A (R157). -/
def execMvfeat (w : Proc) (px : Px) (f8 : Byte) (g8 : Byte) (s : State) : Host.Outcome State Fault Refusal :=
  s.act fun c => c.issue w px ⟨0x7A, (f8.toNat + 256 * g8.toNat)⟩ (opMvfeat f8.toNat g8.toNat)

end Sys2Proof.Machine
end

