-- ==== Sys2Proof/Machine/Parallel.lean ====
section
/-! DEFINITION. Parallel.lean: the parallel-move forms (0x80 to 0x97; R105, R151, R159 to R161). -/

namespace Sys2Proof.Machine

/-- The operand of a move field (R105, R159): scale 1, no displacement. -/
def moveOperand (o f v24 : Nat) (second : Bool) (c : Chip) (x : Ctx) : Except Trap MemOp :=
  let (d, ar, mode) := moveField v24 second
  c.operand x (moveBus v24 x.px.bswap second) d ar mode 0 false 0 (movePair o f second) 4

/-- A class P instruction: `arith` at c, then the first field loads or stores and the second loads (R151, R160, R161). -/
def opPar (o f v24 : Nat) (arith : Ctx → List (Nat × Wr)) : Body := fun c x =>
  match moveOperand o f v24 false c x, moveOperand o f v24 true c x with
  | .error t, _ => .error t
  | _, .error t => .error t
  | .ok a, .ok b =>
    match c.protect x [(moveStores o, a), (false, b)] with
    | .error t => .error t
    | .ok _ =>
      match (if moveStores o then c.doStore x a false else c.doLoad x a false) with
      | .error t => .error t
      | .ok (c1, w1) =>
        match c1.doLoad x b false with
        | .error t => .error t
        | .ok (c2, w2) => .ok (c2, arith x ++ w1 ++ w2, .seq)

/-! ## Meanings -/

/-- `mac_pl`, opcode 0x80 (R151, R159 to R161). -/
def execMacPl (w : Proc) (px : Px) (f : Word16) (v24 : BitVec 24) (s : State) : Host.Outcome State Fault Refusal :=
  s.act fun c => c.issue w px ⟨0x80, (f.toNat + 65536 * v24.toNat)⟩ (opPar 0x80 f.toNat v24.toNat (opMac false false true f.toNat))

/-- `macn_pl`, opcode 0x81 (R151, R159 to R161). -/
def execMacnPl (w : Proc) (px : Px) (f : Word16) (v24 : BitVec 24) (s : State) : Host.Outcome State Fault Refusal :=
  s.act fun c => c.issue w px ⟨0x81, (f.toNat + 65536 * v24.toNat)⟩ (opPar 0x81 f.toNat v24.toNat (opMac false true true f.toNat))

/-- `mpy_pl`, opcode 0x82 (R151, R159 to R161). -/
def execMpyPl (w : Proc) (px : Px) (f : Word16) (v24 : BitVec 24) (s : State) : Host.Outcome State Fault Refusal :=
  s.act fun c => c.issue w px ⟨0x82, (f.toNat + 65536 * v24.toNat)⟩ (opPar 0x82 f.toNat v24.toNat (opMac false false false f.toNat))

/-- `mpyn_pl`, opcode 0x83 (R151, R159 to R161). -/
def execMpynPl (w : Proc) (px : Px) (f : Word16) (v24 : BitVec 24) (s : State) : Host.Outcome State Fault Refusal :=
  s.act fun c => c.issue w px ⟨0x83, (f.toNat + 65536 * v24.toNat)⟩ (opPar 0x83 f.toNat v24.toNat (opMac false true false f.toNat))

/-- `macj_pl`, opcode 0x84 (R151, R159 to R161). -/
def execMacjPl (w : Proc) (px : Px) (f : Word16) (v24 : BitVec 24) (s : State) : Host.Outcome State Fault Refusal :=
  s.act fun c => c.issue w px ⟨0x84, (f.toNat + 65536 * v24.toNat)⟩ (opPar 0x84 f.toNat v24.toNat (opMac true false true f.toNat))

/-- `macjn_pl`, opcode 0x85 (R151, R159 to R161). -/
def execMacjnPl (w : Proc) (px : Px) (f : Word16) (v24 : BitVec 24) (s : State) : Host.Outcome State Fault Refusal :=
  s.act fun c => c.issue w px ⟨0x85, (f.toNat + 65536 * v24.toNat)⟩ (opPar 0x85 f.toNat v24.toNat (opMac true true true f.toNat))

/-- `rmac_pl`, opcode 0x86 (R151, R159 to R161). -/
def execRmacPl (w : Proc) (px : Px) (f : Word16) (v24 : BitVec 24) (s : State) : Host.Outcome State Fault Refusal :=
  s.act fun c => c.issue w px ⟨0x86, (f.toNat + 65536 * v24.toNat)⟩ (opPar 0x86 f.toNat v24.toNat (opRmac false true f.toNat))

/-- `rmacn_pl`, opcode 0x87 (R151, R159 to R161). -/
def execRmacnPl (w : Proc) (px : Px) (f : Word16) (v24 : BitVec 24) (s : State) : Host.Outcome State Fault Refusal :=
  s.act fun c => c.issue w px ⟨0x87, (f.toNat + 65536 * v24.toNat)⟩ (opPar 0x87 f.toNat v24.toNat (opRmac true true f.toNat))

/-- `dmac_pl`, opcode 0x88 (R151, R159 to R161). -/
def execDmacPl (w : Proc) (px : Px) (f : Word16) (v24 : BitVec 24) (s : State) : Host.Outcome State Fault Refusal :=
  s.act fun c => c.issue w px ⟨0x88, (f.toNat + 65536 * v24.toNat)⟩ (opPar 0x88 f.toNat v24.toNat (opDmac false true f.toNat))

/-- `dmacn_pl`, opcode 0x89 (R151, R159 to R161). -/
def execDmacnPl (w : Proc) (px : Px) (f : Word16) (v24 : BitVec 24) (s : State) : Host.Outcome State Fault Refusal :=
  s.act fun c => c.issue w px ⟨0x89, (f.toNat + 65536 * v24.toNat)⟩ (opPar 0x89 f.toNat v24.toNat (opDmac true true f.toNat))

/-- `dmpy_pl`, opcode 0x8A (R151, R159 to R161). -/
def execDmpyPl (w : Proc) (px : Px) (f : Word16) (v24 : BitVec 24) (s : State) : Host.Outcome State Fault Refusal :=
  s.act fun c => c.issue w px ⟨0x8A, (f.toNat + 65536 * v24.toNat)⟩ (opPar 0x8A f.toNat v24.toNat (opDmac false false f.toNat))

/-- `add_pl`, opcode 0x8B (R151, R159 to R161). -/
def execAddPl (w : Proc) (px : Px) (f : Word16) (v24 : BitVec 24) (s : State) : Host.Outcome State Fault Refusal :=
  s.act fun c => c.issue w px ⟨0x8B, (f.toNat + 65536 * v24.toNat)⟩ (opPar 0x8B f.toNat v24.toNat (opAdd false f.toNat))

/-- `sub_pl`, opcode 0x8C (R151, R159 to R161). -/
def execSubPl (w : Proc) (px : Px) (f : Word16) (v24 : BitVec 24) (s : State) : Host.Outcome State Fault Refusal :=
  s.act fun c => c.issue w px ⟨0x8C, (f.toNat + 65536 * v24.toNat)⟩ (opPar 0x8C f.toNat v24.toNat (opSub false f.toNat))

/-- `mov_pl`, opcode 0x8D (R151, R159 to R161). -/
def execMovPl (w : Proc) (px : Px) (f : Word16) (v24 : BitVec 24) (s : State) : Host.Outcome State Fault Refusal :=
  s.act fun c => c.issue w px ⟨0x8D, (f.toNat + 65536 * v24.toNat)⟩ (opPar 0x8D f.toNat v24.toNat (opMov f.toNat))

/-- `cadd_pl`, opcode 0x8E (R151, R159 to R161). -/
def execCaddPl (w : Proc) (px : Px) (f : Word16) (v24 : BitVec 24) (s : State) : Host.Outcome State Fault Refusal :=
  s.act fun c => c.issue w px ⟨0x8E, (f.toNat + 65536 * v24.toNat)⟩ (opPar 0x8E f.toNat v24.toNat (opCadd f.toNat))

/-- `csub_pl`, opcode 0x8F (R151, R159 to R161). -/
def execCsubPl (w : Proc) (px : Px) (f : Word16) (v24 : BitVec 24) (s : State) : Host.Outcome State Fault Refusal :=
  s.act fun c => c.issue w px ⟨0x8F, (f.toNat + 65536 * v24.toNat)⟩ (opPar 0x8F f.toNat v24.toNat (opCsub f.toNat))

/-- `mac_ps`, opcode 0x90 (R151, R159 to R161). -/
def execMacPs (w : Proc) (px : Px) (f : Word16) (v24 : BitVec 24) (s : State) : Host.Outcome State Fault Refusal :=
  s.act fun c => c.issue w px ⟨0x90, (f.toNat + 65536 * v24.toNat)⟩ (opPar 0x90 f.toNat v24.toNat (opMac false false true f.toNat))

/-- `macn_ps`, opcode 0x91 (R151, R159 to R161). -/
def execMacnPs (w : Proc) (px : Px) (f : Word16) (v24 : BitVec 24) (s : State) : Host.Outcome State Fault Refusal :=
  s.act fun c => c.issue w px ⟨0x91, (f.toNat + 65536 * v24.toNat)⟩ (opPar 0x91 f.toNat v24.toNat (opMac false true true f.toNat))

/-- `rmac_ps`, opcode 0x92 (R151, R159 to R161). -/
def execRmacPs (w : Proc) (px : Px) (f : Word16) (v24 : BitVec 24) (s : State) : Host.Outcome State Fault Refusal :=
  s.act fun c => c.issue w px ⟨0x92, (f.toNat + 65536 * v24.toNat)⟩ (opPar 0x92 f.toNat v24.toNat (opRmac false true f.toNat))

/-- `dmac_ps`, opcode 0x93 (R151, R159 to R161). -/
def execDmacPs (w : Proc) (px : Px) (f : Word16) (v24 : BitVec 24) (s : State) : Host.Outcome State Fault Refusal :=
  s.act fun c => c.issue w px ⟨0x93, (f.toNat + 65536 * v24.toNat)⟩ (opPar 0x93 f.toNat v24.toNat (opDmac false true f.toNat))

/-- `add_ps`, opcode 0x94 (R151, R159 to R161). -/
def execAddPs (w : Proc) (px : Px) (f : Word16) (v24 : BitVec 24) (s : State) : Host.Outcome State Fault Refusal :=
  s.act fun c => c.issue w px ⟨0x94, (f.toNat + 65536 * v24.toNat)⟩ (opPar 0x94 f.toNat v24.toNat (opAdd false f.toNat))

/-- `mov_ps`, opcode 0x95 (R151, R159 to R161). -/
def execMovPs (w : Proc) (px : Px) (f : Word16) (v24 : BitVec 24) (s : State) : Host.Outcome State Fault Refusal :=
  s.act fun c => c.issue w px ⟨0x95, (f.toNat + 65536 * v24.toNat)⟩ (opPar 0x95 f.toNat v24.toNat (opMov f.toNat))

/-- `pmv_pl`, opcode 0x96 (R159 to R161). -/
def execPmvPl (w : Proc) (px : Px) (f : Word16) (v24 : BitVec 24) (s : State) : Host.Outcome State Fault Refusal :=
  s.act fun c => c.issue w px ⟨0x96, (f.toNat + 65536 * v24.toNat)⟩ (opPar 0x96 f.toNat v24.toNat (fun _ => []))

/-- `pmv_ps`, opcode 0x97 (R159 to R161). -/
def execPmvPs (w : Proc) (px : Px) (f : Word16) (v24 : BitVec 24) (s : State) : Host.Outcome State Fault Refusal :=
  s.act fun c => c.issue w px ⟨0x97, (f.toNat + 65536 * v24.toNat)⟩ (opPar 0x97 f.toNat v24.toNat (fun _ => []))

end Sys2Proof.Machine
end

