-- ==== Sys2Proof/Machine/Events.lean ====
section
/-! DEFINITION. Events.lean: the registers of page EVT (R276 to R281) and the end of a linger. Raising and routing an occurrence
stand in Ops.lean. -/

namespace Sys2Proof.Machine

/-- EVT_Q_POP.pop: remove the head entry (R277). -/
def Chip.popQueue (c : Chip) : Chip := { c with evt := { c.evt with queue := c.evt.queue.drop 1 } }

/-- A word of the head entry (R274); zero when the queue is empty. -/
def Chip.headWord (c : Chip) (i : Nat) : Word :=
  match c.evt.queue with
  | [] => 0
  | e :: _ =>
    if i = 0 then BitVec.ofNat 32 (e.more * 2 ^ 24 + evClass e.id * 2 ^ 16 + e.id)
    else if i = 1 then e.loc
    else if i = 2 then e.stc
    else e.arg

/-- The ID that EVT_SEL selects. -/
def Chip.selId (c : Chip) : Nat := c.get F.EVT_SEL_id

/-- EVT_ROUTE of the selected ID; zero for an undefined one. -/
def Chip.readRoute (c : Chip) : Word := if (evRow? c.selId).isSome then c.evt.route c.selId else 0

/-- A write of EVT_ROUTE (R276): no effect for an undefined ID. -/
def Chip.writeRoute (c : Chip) (v : Word) : Chip :=
  match evRow? c.selId with
  | none => c
  | some _ => { c with evt := { c.evt with routes := KMap.set (evRouteReset c.selId) c.selId (v &&& 0xFE3F) c.evt.routes } }

/-- EVT_TALLY of the selected ID: both tallies, which the read clears (R7, R280). -/
def Chip.readTally (c : Chip) : Word × Chip :=
  let (v, w, f) := c.readRc (2 ^ 32 + c.selId) (KMap.get 0 c.selId c.evt.tallies) 0xFFFFFFFF
  (v, { c with fresh := f, evt := { c.evt with tallies := KMap.set 0 c.selId w c.evt.tallies } })

/-- EVT_INFO of the selected ID. -/
def Chip.readInfo (c : Chip) : Word :=
  let id := c.selId
  match evRow? id with
  | none => 0
  | some r =>
    let parent := ((c.evt.tree.find? fun e => decide (e.1 = id)).map (·.2)).getD 0
    BitVec.ofNat 32 (parent * 65536 + 16 * b2n (c.suppresses [] (fabOf c.now) id) +
      8 * b2n (c.evt.active.any fun l => decide (l.id = id)) + 4 * b2n r.level + r.cls)

/-- EVT_STAT with its derived count. -/
def Chip.readEvtStat (c : Chip) : Word := F.EVT_STAT_count.ins (c.rd R.EVT_STAT) c.evt.queue.length

/-- The instant at which an event's linger is over (R281): the start of the CLK_FAB cycle after it. -/
def Chip.lingerEnd (c : Chip) (id : Nat) : Option Int :=
  (c.evt.linger.find? fun e => decide (e.1 = id)).map fun e => 8 * (e.2 / 8 + c.lingerCycles + 1)

/-- LINGER_END: an ancestor's linger expires (R281), where that comes no later than the next frame boundary. -/
def Chip.endLinger (c : Chip) (id : Nat) : Chip :=
  match c.lingerEnd id with
  | none => c
  | some t =>
    if Int.ofNat c.boundaryRoot < t then c
    else
      let c1 := c.advanceTo t.toNat
      { c1 with evt := { c1.evt with linger := c1.evt.linger.filter fun e => !decide (e.1 = id) } }

/-- The host summary interrupt (R279). -/
def Chip.hostSummary (c : Chip) : Bool := decide (c.rd R.EVT_HSUM &&& c.rd R.EVT_HMASK ≠ 0)

end Sys2Proof.Machine
end

