-- ==== Sys2Proof/Machine/Clock.lean ====
section
/-! DEFINITION. Clock.lean: the root clock, discipline, the sample time counter's reads, time pulses and TMARK_IN (chapter 02, R25 to
R49). Loads of the counter stand in StcLoad.lean. -/

namespace Sys2Proof.Machine

/-! ## Steering and discipline -/

/-- The steering limit of R29. -/
def steerLim : Int := 16492674

/-- Set the steering target, clamped (R29): `at_limit` and CLK_AT_LIMIT while it is clamped; `slewing` compares it with the
applied word. -/
def Chip.setTarget (c : Chip) (t : Int) : Chip :=
  let v := satInt t (-steerLim) steerLim
  let c1 := (c.wr R.CLK_TARGET (BitVec.ofInt 32 v)).putB F.CLK_STAT_slewing (decide ((c.rd R.CLK_STEER).toInt ≠ v))
  if v = t then (c1.put F.CLK_STAT_at_limit 0).levelOff Ev.CLK_AT_LIMIT locNone
  else (c1.put F.CLK_STAT_at_limit 1).levelOn Ev.CLK_AT_LIMIT locNone 0

/-- Discipline states (R36). -/
def stFree : Nat := 0
def stAcq : Nat := 1
def stLocked : Nat := 2
def stHold : Nat := 3
def stManual : Nat := 4

/-- Enter a discipline state (R36): the event where it changes, and the target of the state. -/
def Chip.setDisc (c : Chip) (st : Nat) : Chip :=
  let c1 := if c.get F.CLK_STAT_state = st then c
    else { ((c.put F.CLK_STAT_state st).raise Ev.CLK_STATE locNone 0) with
      time := { c.time with holdAt := if st = stHold then c.now else c.time.holdAt } }
  if st = stFree then (c1.wr R.CLK_INTEG 0).setTarget 0
  else if st = stHold then c1.setTarget (c1.rd R.CLK_INTEG).toInt
  else if st = stManual then c1.setTarget (c1.rd R.CLK_MANUAL).toInt
  else c1

/-- The validity bit of a source code (R32). -/
def validFld (src : Nat) : Fld :=
  if src = 0 then F.CLK_STAT_sat_valid else if src = 1 then F.CLK_STAT_link_valid else F.CLK_STAT_tmark_valid

/-- Is a source valid? Code 3 names none. -/
def Chip.srcValid (c : Chip) (src : Nat) : Bool := decide (src < 3) && c.bit (validFld src)

/-- Is any source valid? -/
def Chip.anyValid (c : Chip) : Bool := c.srcValid 0 || c.srcValid 1 || c.srcValid 2

/-- The state after a change of validity or selection (R36): HOLD once the selected source is invalid and no other is valid. While a
source is valid that no priority field names, the state stays ACQ or LOCKED with source code 3 (assumption 121). -/
def Chip.judgeDisc (c : Chip) : Chip :=
  let st := c.get F.CLK_STAT_state
  if st = stManual then c
  else if (st = stAcq ∨ st = stLocked) ∧ !c.anyValid then c.setDisc stHold
  else if (st = stFree ∨ st = stHold) ∧ c.srcValid (c.get F.CLK_STAT_src) then
    { (c.setDisc stAcq) with time := { (c.setDisc stAcq).time with inThr := 0, outThr := 0 } }
  else c

/-- A source becomes invalid (R32). -/
def Chip.invalidate (c : Chip) (src : Nat) : Chip :=
  let t := c.time
  let t1 := if src = 0 then { t with satRun := 0 } else if src = 1 then { t with linkRun := 0 } else { t with tmarkRun := 0 }
  (({ c with time := t1 }).put (validFld src) 0).judgeDisc

/-- May the source become valid: its enable, and for link time not being the bellwether (R32). -/
def Chip.srcEnabled (c : Chip) (src : Nat) : Bool :=
  if src = 0 then c.bit F.CLK_CTRL_sat_en
  else if src = 1 then c.bit F.CLK_CTRL_link_en && !F.LNK_CTRL_role.ofB c.lnk.ctrl
  else c.bit F.CLK_CTRL_tmark_en

/-- 100 ms, a superframe and a second of STC time in root cycles. -/
def root100ms : Nat := 19200 * 15360
def rootPerSf : Nat := 384 * 15360
def rootPerSec : Nat := 192000 * 15360

/-- The mark period in seconds; 0 acts as 1. -/
def Chip.markPer (c : Chip) : Nat := max (c.get F.TIME_TMARK_CTRL_per_s) 1

/-- The instant at which a source times out (R32): `sat_to` after the last write, at the end of `link_to` superframes without a
sample, or two mark periods after the last accepted mark. -/
def Chip.timeoutAt (c : Chip) (src : Nat) : Nat :=
  if src = 0 then c.time.satAt + max (c.get F.CLK_HOLD_sat_to) 1 * root100ms
  else if src = 1 then (c.time.linkAt / rootPerSf + max (c.get F.CLK_HOLD_link_to) 1 + 1) * rootPerSf
  else c.time.tmarkAt + 2 * c.markPer * rootPerSec

/-- Consecutive samples of a source before this one: satellite writes within `sat_to` of one another, link samples of successive
superframes, accepted marks (R32). -/
def Chip.runBefore (c : Chip) (src : Nat) : Nat :=
  if src = 0 then (if c.now ≤ c.timeoutAt 0 then c.time.satRun else 0)
  else if src = 1 then (if c.now / rootPerSf ≤ c.time.linkAt / rootPerSf + 1 then c.time.linkRun else 0)
  else c.time.tmarkRun

/-- Count one sample towards a source's validity (R32). -/
def Chip.countSample (c : Chip) (src : Nat) : Chip :=
  if !c.srcEnabled src then c
  else
    let n := 1 + c.runBefore src
    let t := c.time
    let t1 := if src = 0 then { t with satRun := n, satAt := c.now }
      else if src = 1 then { t with linkRun := n, linkAt := c.now }
      else { t with tmarkRun := n, tmarkAt := c.now }
    let t2 := if 8 ≤ n then { t1 with everValid := true } else t1
    let c1 := { c with time := t2 }
    if 8 ≤ n then c1.put (validFld src) 1 else c1

/-- The lock detector on one sample (R36). -/
def Chip.judgeLock (c : Chip) (e : Int) : Chip :=
  let ok := decide (e.natAbs ≤ c.get F.CLK_LOCK_THR_thr)
  let inN := if ok then c.time.inThr + 1 else 0
  let outN := if ok then 0 else c.time.outThr + 1
  let c1 := { c with time := { c.time with inThr := inN, outThr := outN } }
  let st := c1.get F.CLK_STAT_state
  if st = stAcq ∧ 16 ≤ inN then c1.setDisc stLocked
  else if st = stLocked ∧ 4 ≤ outN then
    let c2 := c1.setDisc stAcq
    { c2 with time := { c2.time with inThr := 0, outThr := 0 } }
  else c1

/-- The loop on a sample of the selected source (R34). -/
def Chip.loopUpdate (c : Chip) (e : Int) : Chip :=
  let integ := satInt ((c.rd R.CLK_INTEG).toInt - fdiv (e * Int.ofNat (c.get F.CLK_LOOP_ki)) 65536) (-steerLim) steerLim
  let p := -fdiv (e * Int.ofNat (c.get F.CLK_LOOP_kp)) 65536
  (c.wr R.CLK_INTEG (BitVec.ofInt 32 integ)).setTarget (integ + p)

/-- A phase-error sample of a source (R32, R34). While the root is unlocked discipline stands still (R27); with `loop_en` = 0 a
sample changes nothing but validity (R34). -/
def Chip.sample (c : Chip) (src : Nat) (e : Int) : Chip :=
  if !c.bit F.CLK_STAT_locked then c
  else
    let c1 := c.countSample src
    if c1.get F.CLK_STAT_src = src ∧ c1.bit F.CLK_CTRL_loop_en ∧ c1.srcValid src then
      (((c1.wr R.CLK_PERR_LAST (BitVec.ofInt 32 e)).put F.CLK_STAT_coarse 0).loopUpdate e).judgeLock e
    else c1

/-- The source that the priorities select (R33): the first valid one; a repeated code or code 3 is skipped. -/
def Chip.selectSrc (c : Chip) : Nat :=
  let l := [c.get F.CLK_CTRL_prio0, c.get F.CLK_CTRL_prio1, c.get F.CLK_CTRL_prio2]
  (l.find? c.srcValid).getD 3

/-- The selection has changed (R33, R36): the lock detector starts afresh, and a newly selected source is acquired, since no sample of
it has met the lock condition. With no source selected the state stays (assumption 121). -/
def Chip.newSource (c : Chip) (src : Nat) : Chip :=
  let c1 := (c.put F.CLK_STAT_src src).raise Ev.CLK_SRC_CHANGE locNone 0
  let c2 : Chip := { c1 with time := { c1.time with inThr := 0, outThr := 0 } }
  (if src ≠ 3 ∧ c2.get F.CLK_STAT_state = stLocked then c2.setDisc stAcq else c2).judgeDisc

/-- SOURCE_SELECTION (R33): every millisecond of STC time. -/
def Chip.selectSource (c : Chip) : Chip :=
  if !c.bit F.CLK_STAT_locked || !c.atBoundary 192 then c
  else
    let src := c.selectSrc
    if src = c.get F.CLK_STAT_src then c.judgeDisc else c.newSource src

/-- STEERING_STEP (R30, R34, R35): once at each millisecond of STC time, frozen while the root is unlocked (R27). In MANUAL the
target follows CLK_MANUAL. -/
def Chip.steerStep (c : Chip) : Chip :=
  if !c.bit F.CLK_STAT_locked || !c.atBoundary 192 || decide (c.time.steerAt = some c.time.stc) then c
  else
    let c1 := if c.get F.CLK_STAT_state = stManual then c.setTarget (c.rd R.CLK_MANUAL).toInt else c
    let steer := (c1.rd R.CLK_STEER).toInt
    let target := (c1.rd R.CLK_TARGET).toInt
    let s := steer + satInt (target - steer) (-109) 109
    let c2 := (c1.wr R.CLK_STEER (BitVec.ofInt 32 s)).putB F.CLK_STAT_slewing (decide (s ≠ target))
    { c2 with time := { c2.time with steerAt := some c2.time.stc } }

/-- SAT_TIMEOUT, LINK_TIMEOUT, TMARK_TIMEOUT (R32): at the instant the source times out, where that lies at or before the next
frame boundary. Discipline stands still while the root is unlocked (R27). -/
def Chip.sourceTimeout (c : Chip) (src : Nat) : Chip :=
  if !c.bit F.CLK_STAT_locked || !c.srcValid src || decide (c.boundaryRoot < c.timeoutAt src) then c
  else (c.advanceTo (c.timeoutAt src)).invalidate src

/-- HOLD_LIMIT (R36): HOLD has run for `hold_lim` seconds; never where that is 0. -/
def Chip.holdLimit (c : Chip) : Chip :=
  let t := c.time.holdAt + c.get F.CLK_HOLD_hold_lim * rootPerSec
  if !c.bit F.CLK_STAT_locked || decide (c.get F.CLK_STAT_state ≠ stHold) || decide (c.get F.CLK_HOLD_hold_lim = 0) ||
    decide (c.boundaryRoot < t) then c
  else (c.advanceTo t).setDisc stFree

/-- A write of CLK_CTRL (R32, R35, R36): a source that loses its enable becomes invalid; `loop_en` from 0 to 1 loads the
integrator with the applied word; `loop_en` = 0 is MANUAL. -/
def Chip.writeClkCtrl (c : Chip) (v : Word) : Chip :=
  let was := c.bit F.CLK_CTRL_loop_en
  let c1 := c.plainWrite R.CLK_CTRL v
  let c2 := if c1.bit F.CLK_CTRL_sat_en then c1 else c1.invalidate 0
  let c3 := if c2.bit F.CLK_CTRL_link_en then c2 else c2.invalidate 1
  let c4 := if c3.bit F.CLK_CTRL_tmark_en then c3 else c3.invalidate 2
  if !c4.bit F.CLK_CTRL_loop_en then c4.setDisc stManual
  else if was then c4
  else
    let c5 := c4.wr R.CLK_INTEG (c4.rd R.CLK_STEER)
    if c5.srcValid (c5.get F.CLK_STAT_src) then
      let c6 := c5.setDisc stAcq
      { c6 with time := { c6.time with inThr := 0, outThr := 0 } }
    else if c5.time.everValid then c5.setDisc stHold
    else c5.setDisc stFree

/-- A write of CLK_PERR_SAT: one satellite-time sample (R32). -/
def Chip.writePerrSat (c : Chip) (v : Word) : Chip := c.sample 0 v.toInt

/-! ## The counter's reads -/

/-- The snapshot of a requester (R39). -/
def Chip.snap (c : Chip) : Req → Snap
  | .crook => c.time.snapCrook
  | .host => c.time.snapHost
  | .dma _ => c.time.snapDma

/-- A read of TIME_STC_LO: the count's low word, and the snapshot taken (R39). -/
def Chip.readStcLo (c : Chip) (r : Req) : Word × Chip :=
  let sn : Snap := ⟨c.time.stc, c.time.frac.val⟩
  let t := match r with
    | .crook => { c.time with snapCrook := sn }
    | .host => { c.time with snapHost := sn }
    | .dma _ => { c.time with snapDma := sn }
  (BitVec.ofNat 32 c.time.stc, { c with time := t })

/-! ## Time pulses -/

/-- A local time in ns, times 9216 over 3125, to the nearest root cycle, the earlier one at a tie (R44). -/
def nsToRootI (ns : Int) : Int := fdiv (2 * ns * 9216 + 3124) 6250
/-- The same where it does not lie before the epoch. -/
def nsToRoot (ns : Int) : Nat := (nsToRootI ns).toNat

/-- The local time in ns of the first start edge whose root cycle is at or after `now` (R44): start edges lie at
k × P + OFS − DLY. -/
def TpCfg.nextEdge (t : TpCfg) (now : Nat) : Int :=
  let p := Int.ofNat t.period
  let off := Int.ofNat t.ofs - Int.ofNat t.dly
  let k := fdiv (fdiv (Int.ofNat now * 3125) 9216 - off) p
  let edge := fun (j : Int) => j * p + off
  let from_ := fun (j : Int) => decide (Int.ofNat now ≤ nsToRootI (edge j))
  if from_ k then edge k else if from_ (k + 1) then edge (k + 1) else edge (k + 2)

/-- TIME_PULSE_START (R44): the next start edge, where it lies at or before the next frame boundary. A pulse of the configuration before
that is still active keeps its width (R46): the level stays active until both have ended (assumption 122). -/
def Chip.tpStart (c : Chip) (n : Bool) : Chip :=
  let t := c.tp n
  let ns := t.cfg.nextEdge c.now
  let e := nsToRoot ns
  if c.tpHeld n || (t.cfg.qual && decide (c.get F.CLK_STAT_state ≠ stLocked)) || decide (c.boundaryRoot < e) then c
  else
    let c1 := c.advanceTo e
    let end_ := nsToRoot (ns + Int.ofNat t.cfg.width)
    c1.setTp n { t with active := true, endAt := if t.active then max t.endAt end_ else end_ }

/-- TIME_PULSE_END (R44). -/
def Chip.tpEnd (c : Chip) (n : Bool) : Chip :=
  let t := c.tp n
  if !t.active || decide (c.boundaryRoot < t.endAt) then c
  else (c.advanceTo t.endAt).setTp n { t with active := false }

/-- The shadow that the TPn registers hold (R46). -/
def Chip.tpShadow (c : Chip) (n : Bool) : TpCfg :=
  let i := b2n n
  { en := c.bit (F.TIME_TP_CTRL_en i)
    pol := c.bit (F.TIME_TP_CTRL_pol i)
    qual := c.bit (F.TIME_TP_CTRL_qual i)
    perS := c.get (F.TIME_TP_PER_S_per_s i)
    perNs := c.get (F.TIME_TP_PER_NS_per_ns i)
    ofs := c.get (F.TIME_TP_OFS_ofs i)
    width := c.get (F.TIME_TP_WIDTH_width i)
    dly := c.get (F.TIME_TP_DLY_dly i) }

/-- A write of TIME_TPn_CTRL (R46): a new request to apply waits for the next whole second after this instant. -/
def Chip.writeTpCtrl (c : Chip) (n : Bool) (v : Word) : Chip :=
  let i := b2n n
  let c1 := c.plainWrite (R.TIME_TP_CTRL i) v
  if c.bit (F.TIME_TP_CTRL_apply i) || !c1.bit (F.TIME_TP_CTRL_apply i) then c1 else c1.setTp n { c1.tp n with reqAt := c1.now }

/-- TP_CONFIG_APPLY (R45, R46): the shadow moves into use at the first whole second after the write. -/
def Chip.tpApply (c : Chip) (n : Bool) : Chip :=
  let i := b2n n
  if !c.bit (F.TIME_TP_CTRL_apply i) || !c.atBoundary 192000 || decide (c.now ≤ (c.tp n).reqAt) then c
  else
    let cfg := c.tpShadow n
    ((c.setTp n { c.tp n with cfg := cfg }).put (F.TIME_TP_CTRL_apply i) 0).putB (F.TIME_TP_CTRL_cfg_err i) (!cfg.valid)

/-! ## TMARK_IN -/

/-- e of a mark (R48) in 1/16 ns: the captured time less `dly`, minus the nearest whole multiple of the period. A root cycle is
3125/576 of the unit, so the exact value may lie between two units; which of the two the device takes is open (assumption 15). -/
def Chip.markError (c : Chip) : Int × Chip :=
  let per := Int.ofNat c.markPer * 16000000000
  let num := Int.ofNat c.now * 3125 - Int.ofNat (c.get F.TIME_TMARK_DLY_dly) * 16 * 576
  let k := fdiv (2 * num + per * 576) (2 * per * 576)
  let rem := num - k * per * 576
  let lo := fdiv rem 576
  if fmod rem 576 = 0 then (lo, c)
  else
    let (v, c1) := c.draw
    (lo + Int.ofNat (v % 2), c1)

/-- TMARK_EDGE (R27, R48, R49). An e outside the register's format leaves a value the spec does not state (assumption 15). -/
def Chip.tmarkEdge (c : Chip) (falling : Bool) : Chip :=
  if !c.bit F.TIME_TMARK_CTRL_en || decide (c.bit F.TIME_TMARK_CTRL_edge ≠ falling) || !c.bit F.CLK_STAT_locked then c
  else
    let c1 := if c.bit F.TIME_TMARK_CTRL_new then c.latch F.TIME_TMARK_CTRL_ovr
      else
        (((c.put F.TIME_TMARK_CTRL_new 1).wr R.TIME_TMARK_CAP_LO (BitVec.ofNat 32 c.time.stc)).wr R.TIME_TMARK_CAP_HI
          (BitVec.ofNat 32 (c.time.stc / 2 ^ 32))).wr R.TIME_TMARK_CAP_FRAC (BitVec.ofNat 32 c.time.frac.val)
    let (e, c2) := c1.markError
    let c3 := if e.natAbs < 2 ^ 31 then c2.wr R.TIME_TMARK_ERR (BitVec.ofInt 32 e)
      else (c2.draw.2).wr R.TIME_TMARK_ERR (BitVec.ofNat 32 c2.draw.1)
    if e.natAbs ≤ 16000000 then c3.sample 2 e
    else ({ c3 with time := { c3.time with tmarkRun := 0 } }.latch F.TIME_TMARK_CTRL_wild).raise Ev.TMARK_WILD locNone 0

/-- A read of TIME_TMARK_CAP_LO (R49). -/
def Chip.readCapLo (c : Chip) : Word × Chip := (c.rd R.TIME_TMARK_CAP_LO, c.put F.TIME_TMARK_CTRL_new 0)

/-! ## Lock -/

/-- CLK_UNLOCK (R27): the next record of every channel shows it (R337). What must end with the lock ends in Hold.lean. -/
def Chip.unlock (c : Chip) : Chip :=
  if c.bit F.CLK_STAT_locked then
    (({ c with gn := { c.gn with ru := true } }).put F.CLK_STAT_locked 0).levelOn Ev.CLK_UNLOCK locNone 0
  else c

/-- ROOT_PLL_RELOCK (R27). -/
def Chip.relock (c : Chip) : Chip :=
  if c.bit F.CLK_STAT_locked || !c.evt.isOn Ev.CLK_UNLOCK locNone then c
  else (c.put F.CLK_STAT_locked 1).levelOff Ev.CLK_UNLOCK locNone

end Sys2Proof.Machine
end

