-- ==== Sys2Proof/Machine/LinkCode.lean ====
section
/-! DEFINITION. LinkCode.lean: the link's coding and modulation (R351 to R358): Reed–Solomon over GF(256), the interleaver, the
scrambler, the symbol maps and the blocks of a burst. Bytes of a codeword are naturals below 256. -/

namespace Sys2Proof.Machine

/-! ## Reed–Solomon (R354) -/

/-- Multiply by α in GF(256) on x^8 + x^4 + x^3 + x^2 + 1. -/
def gfTimesAlpha (a : Nat) : Nat := if 2 * a < 256 then 2 * a else (2 * a) ^^^ 0x11D

/-- Product in GF(256): `n` bits of `b` are used. -/
def gfMulBits (a b : Nat) : Nat → Nat
  | 0 => 0
  | n + 1 => (if b % 2 = 1 then a else 0) ^^^ gfMulBits (gfTimesAlpha a) (b / 2) n

def gfMul (a b : Nat) : Nat := gfMulBits a b 8

/-- α^i. -/
def gfAlpha : Nat → Nat
  | 0 => 1
  | i + 1 => gfTimesAlpha (gfAlpha i)

/-- Multiply a monic polynomial, its coefficients below the leading one highest first, by x + r. -/
def polyTimes (p : List Nat) (r : Nat) : List Nat :=
  let hi := p ++ [0]
  let lo := (1 :: p).map (gfMul r)
  (hi.zip lo).map fun (e : Nat × Nat) => e.1 ^^^ e.2

/-- The generator (x + α^0) … (x + α^31) without its leading coefficient, highest first. -/
def rsGen : List Nat := (List.range 32).foldl (fun p i => polyTimes p (gfAlpha i)) []

/-- One step of the division by the generator: the remainder so far and the next information byte. -/
def rsStep (g rem : List Nat) (m : Nat) : List Nat :=
  match rem with
  | [] => []
  | h :: t => ((t ++ [0]).zip g).map fun (e : Nat × Nat) => e.1 ^^^ gfMul (h ^^^ m) e.2

/-- The 32 check bytes, from x^31 down. -/
def rsCheck (info : List Nat) : List Nat := info.foldl (rsStep rsGen) (List.replicate 32 0)

/-- A codeword; leading zero bytes that are not sent change nothing (R355). -/
def rsEncode (info : List Nat) : List Nat := info ++ rsCheck info

/-- Bytes in which two lists differ. -/
def byteErrors (a b : List Nat) : Nat := ((a.zip b).filter fun e => !decide (e.1 = e.2)).length

def bytesNat (l : List Byte) : List Nat := l.map (·.toNat)

/-- Does the decoder correct the received word to these information bytes, with at most 16 byte errors (R358)? -/
def rxDecodes (w : RxWord) (k : Nat) : Bool :=
  decide (w.info.length = k) && decide (w.rx.length = k + 32) && decide (byteErrors (rsEncode (bytesNat w.info)) (bytesNat w.rx) ≤ 16)

/-! ## Bits -/

/-- The bits of a byte, bit 7 first (R353). -/
def byteBits (b : Nat) : List Bool := (List.range 8).map fun i => bitAt b (7 - i)

/-- The interleaved order of codewords (R356). -/
def interleave (words : List (List Nat)) : List Nat :=
  (List.range 255).flatMap fun k => words.map fun w => (w[k]?).getD 0

/-- The scrambler of R357 with its register. -/
def scramble : Nat → List Bool → List Bool
  | _, [] => []
  | s, d :: r =>
    let f := bitAt s 14 ^^ bitAt s 13
    (d ^^ f) :: scramble ((s * 2) % 32768 + b2n f) r

/-! ## Symbols, as phases in units of 1/1024 turn (R351, R353) -/

def qpskMap : List Bool → List Nat
  | a :: b :: r => (128 * (2 * (if a then (if b then 2 else 3) else b2n b) + 1)) :: qpskMap r
  | _ => []

/-- m of an 8PSK symbol. -/
def psk8m (n : Nat) : Nat :=
  match n with
  | 0 => 0
  | 1 => 1
  | 3 => 2
  | 2 => 3
  | 6 => 4
  | 7 => 5
  | 5 => 6
  | _ => 7

def psk8Map : List Bool → List Nat
  | a :: b :: d :: r => (64 * (2 * psk8m (4 * b2n a + 2 * b2n b + b2n d) + 1)) :: psk8Map r
  | _ => []

/-- A body with its cyclic prefix. -/
def withPrefix (body : List Nat) : List Nat := body.drop (body.length - 64) ++ body

/-- The preamble body. -/
def preamble : List Nat := (List.range 512).map fun n => n * n % 1024

/-- Data-field bits of a burst of `nb` data blocks (R356). -/
def dataBits (mod8 : Bool) (nb : Nat) : Nat := (if mod8 then 3 else 2) * (320 + 512 * (nb - 1))

/-- Bodies of 512 symbols each. -/
def blocksOf (s : List Nat) (nb : Nat) : List Nat := (List.range nb).flatMap fun j => withPrefix ((s.drop (512 * j)).take 512)

/-- The symbols of a burst (R351, R352, R356, R357). -/
def burstSymbols (hdr : List Nat) (mod8 : Bool) (nb : Nat) (words : List (List Nat)) : List Nat :=
  let bits := (interleave (words.map rsEncode)).flatMap byteBits
  let field := scramble 0x7FFF (bits ++ List.replicate (dataBits mod8 nb - bits.length) false)
  let head := qpskMap ((rsEncode hdr).flatMap byteBits)
  withPrefix preamble ++ blocksOf (head ++ (if mod8 then psk8Map field else qpskMap field)) nb

/-- The bits of a wake frame (R315). -/
def wakeBits (code : Nat) : List Nat :=
  ((List.range 16).map fun i => (i + 1) % 2) ++ (List.range 64).map fun i => b2n (bitAt code (63 - i))

/-- The least number of data blocks that holds `ncw` codewords (R356). -/
def blocksFor (mod8 : Bool) (ncw : Nat) : Nat :=
  let b := if mod8 then 3 else 2
  let need := 2040 * ncw - b * 320
  1 + (need + b * 512 - 1) / (b * 512)

/-- Slot units that a burst of `nb` data blocks needs (R349). -/
def unitsFor (nb : Nat) : Nat := (8900 + 57600 * (1 + nb) + 15624) / 15625

end Sys2Proof.Machine
end

