-- ==== Sys2Proof/Machine/Rf.lean ====
section
/-! DEFINITION. Rf.lean: the RF front end and the wake receivers (chapter 13, R295 to R318), with the radio ceilings (R290 to R293).
The spectrum monitor stands in Notch.lean; the instants of a transmission and the end of a keyed interval in Hold.lean. -/

namespace Sys2Proof.Machine

/-! ## Slot units and the plan in force (R348, R363) -/

/-- The next slot-unit boundary after now, and the one at or after now. -/
def Chip.nextUnitAt (c : Chip) : Nat := (c.now / rootPerUnit + 1) * rootPerUnit
def Chip.unitAt (c : Chip) : Nat := if c.now % rootPerUnit = 0 then c.now else c.nextUnitAt

/-- The unit of the superframe in progress. -/
def Chip.unitNow (c : Chip) : Nat := c.now / rootPerUnit % 128

/-- The code of a unit in the plan in force; idle without a plan (R348, R54). -/
def Chip.unitCode (c : Chip) (u : Nat) : Nat :=
  match c.lnk.plan with
  | some p => (p[u]?).getD 0
  | none => 0

/-- Does unit `u` begin a run of at least `n` idle units of one superframe (R311)? A run is a maximal range (R348). -/
def Chip.idleRun (c : Chip) (u n : Nat) : Bool :=
  decide (u + n ≤ 128) && (decide (u = 0) || decide (c.unitCode (u - 1) ≠ 0)) &&
    (List.range n).all fun i => decide (c.unitCode (u + i) = 0)

/-- Units of the idle run that begins at unit `u`. -/
def Chip.idleUnits (c : Chip) (u : Nat) : Nat := ((List.range (128 - u)).takeWhile fun i => decide (c.unitCode (u + i) = 0)).length

/-- The codes of the units in which this node transmits (R362). -/
def Chip.ownCodes (c : Chip) : List Nat :=
  match c.get F.LNK_STAT_state with
  | 6 => [1, 2]
  | 5 => [0x20 + c.get F.LNK_STAT_node]
  | 4 => [0x20 + c.get F.LNK_STAT_node]
  | 3 => [3]
  | _ => []

/-- Does the plan in force give this node a transmit unit (R318)? -/
def Chip.givesTx (c : Chip) : Bool := (List.range 128).any fun u => c.ownCodes.contains (c.unitCode u)

/-! ## Receive side -/

/-- Where the frequency `f` stands in the spectrum of a root that runs at `fs`, and whether its band is inverted there (R297). -/
def aliasOf (fs f : Nat) : Nat × Bool :=
  let d := Int.ofNat f - Int.ofNat ((2 * f + fs) / (2 * fs) * fs)
  (d.natAbs, decide (d < 0))

/-- The centre of link channel `k` in kHz (R297, R305, R347). -/
def linkCentre (k : Nat) : Nat := 5735000 + 20000 * k

/-- The ADC's settling of R295 in root cycles: 100 µs. -/
def adcSettle : Nat := 294912

/-- A foreground calibration is over: from here samples are usable again (R301, R304). -/
def Chip.calEnd (c : Chip) : Chip :=
  if c.rf.cal.isSome then c.setRf fun r => { r with cal := none, blindTo := Int.ofNat c.now } else c

/-- Protect ends (R310). -/
def Chip.protectOff (c : Chip) : Chip :=
  if c.bit F.RF_STAT_protect then
    (c.put F.RF_STAT_protect 0).setRf fun r => { r with blindTo := Int.ofNat c.now, protTo := Int.ofNat c.now }
  else c

/-- Does a down-converter run (R298)? -/
def Chip.ddcOn (c : Chip) (f : Fld) : Bool := c.bit f && decide (c.get F.RF_STAT_rx ≠ 0) && c.rf.adcValid

/-- A band whose down-converter is off delivers no samples up to now (R298, R333). -/
def Chip.skipBands (c : Chip) : Chip :=
  { c with gn := { c.gn with
      l1At := if c.ddcOn F.RF_CTRL_ddc_l1 then c.gn.l1At else c.now
      l5At := if c.ddcOn F.RF_CTRL_ddc_l5 then c.gn.l5At else c.now } }

/-- A write of RF_CTRL (R295, R305, R313, R314). -/
def Chip.writeRfCtrl (c : Chip) (v : Word) : Chip :=
  let adc0 := c.bit F.RF_CTRL_adc_en
  let tx0 := c.bit F.RF_CTRL_tx_en
  let c1 := c.skipBands.plainWrite R.RF_CTRL v
  let adc1 := c1.bit F.RF_CTRL_adc_en
  let tx1 := c1.bit F.RF_CTRL_tx_en
  let c1 := c1.setRf fun r => { r with monAt := if c1.bit F.RF_CTRL_mon_en then some (r.monAt.getD c1.now) else none }
  let c2 := if !adc0 && adc1 then
      ((c1.put F.RF_STAT_rx 1).put F.RF_STAT_ilc_ok 0).setRf fun r => { r with adcValid := false, adcAt := c1.now + adcSettle }
    else if adc0 && !adc1 then (c1.put F.RF_STAT_rx 0).setRf fun r => { r with adcValid := false }
    else c1
  if !tx0 && tx1 then c2.showTx
  else if tx0 && !tx1 then
    (c2.cutKeyed.calEnd.put F.RF_STAT_synth_lock 0).showTx
  else c2

/-- ADC_VALID (R295). -/
def Chip.adcReady (c : Chip) : Chip :=
  if !c.bit F.RF_CTRL_adc_en || c.rf.adcValid then c
  else (c.advanceTo c.rf.adcAt).skipBands.setRf fun r => { r with adcValid := true }

/-- A write of RF_LNA (R295). -/
def Chip.writeLna (c : Chip) (v : Word) : Chip :=
  let c1 := c.plainWrite R.RF_LNA v
  c1.setRf fun r => { r with gainAt := some c1.nextUnitAt }

/-- LNA_GAIN_APPLY (R295). -/
def Chip.lnaApply (c : Chip) : Chip :=
  match c.rf.gainAt with
  | none => c
  | some t =>
    let c1 := c.advanceTo t
    c1.setRf fun r => { r with gainA := c1.get F.RF_LNA_gain_a, gainB := c1.get F.RF_LNA_gain_b, gainAt := none }

/-- Retune the link down-converter at the next slot-unit boundary (R299): channel 7 has no effect. -/
def Chip.askRx (c : Chip) (ch : Nat) : Chip :=
  if ch = 7 then c else (c.put F.RF_LNK_RX_ch ch).setRf fun r => { r with rxAt := some c.nextUnitAt }

/-- A write of RF_LNK_RX (R299). -/
def Chip.writeLnkRx (c : Chip) (v : Word) : Chip := c.askRx (F.RF_LNK_RX_ch.of v)

/-- RX_RETUNE (R299). -/
def Chip.rxRetune (c : Chip) : Chip :=
  match c.rf.rxAt with
  | none => c
  | some t =>
    let c1 := c.advanceTo t
    c1.setRf fun r => { r with rxCh := c1.get F.RF_LNK_RX_ch, rxAt := none }

/-- The CORR source of a channel in the fold in force (R61): 1 L1, 2 L5, 3 a microphone paddock; 0 none. -/
def Chip.corrSrc (c : Chip) (n : Nat) : Nat :=
  match c.fold.cur with
  | some f => ((f.corr[n]?).map (·.1)).getD 0
  | none => 0

/-- RF_ADC_OVERLOAD (R300, R329, R340): the records of channels fed by the converter show it, and so does a capture under way. -/
def Chip.overload (c : Chip) : Chip :=
  if !c.rf.adcValid || c.evt.isOn Ev.RF_ADC_OVERLOAD locNone then c
  else
    let c1 := ((c.put F.RF_STAT_ovl 1).bump F.RF_OVL_CNT_count).levelOn Ev.RF_ADC_OVERLOAD locNone 0
    let ch := c1.gn.ch.map fun e => (e.1, { e.2 with ovlInt := e.2.ovlInt || decide (c1.corrSrc e.1 ≠ 3) })
    let c2 : Chip := { c1 with gn := { c1.gn with ch := ch, ovl := true } }
    if c2.gn.acq.capturing then
    { c2.latch F.GN_ACQ_STAT_ovl with gn := { c2.gn with acq := { c2.gn.acq with ovl := true } } }
  else c2

/-- RF_ADC_OVERLOAD_END (R300). -/
def Chip.overloadEnd (c : Chip) : Chip :=
  if !c.bit F.RF_STAT_ovl then c
  else ((c.put F.RF_STAT_ovl 0).levelOff Ev.RF_ADC_OVERLOAD locNone).setRf fun r => { r with blindTo := Int.ofNat c.now }

/-! ## Interleave calibration and the estimator (R301 to R303) -/

/-- Does the estimator discard the samples (R301), or are there none? -/
def Chip.ilcBlind (c : Chip) : Bool :=
  !c.bit F.RF_CTRL_adc_en || !c.rf.adcValid || c.bit F.RF_STAT_ovl || c.bit F.RF_STAT_protect || c.rf.cal.isSome

/-- Within the step limits of R302: 1/8 LSB, 2^-16 of full gain, 16 fs. -/
def ilcSmall (d : IlcStep) : Bool :=
  decide (d.off0.natAbs ≤ 128 ∧ d.off1.natAbs ≤ 128 ∧ d.gain.natAbs ≤ 256 ∧ d.skew.natAbs ≤ 256)

/-- One millisecond in root cycles. -/
def rootPerMs : Nat := 192 * rootPerTick

/-- ILC_UPDATE (R301, R302). -/
def Chip.ilcUpdate (c : Chip) (d : IlcStep) : Chip :=
  if c.ilcBlind || c.bit F.RF_CTRL_ilc_frz then c
  else
    let c1 := c.advanceTo c.unitAt
    let soon := match c1.rf.ilcAt with
      | some t => decide (c1.now < t + rootPerMs)
      | none => false
    if decide (c1.get F.RF_STAT_rx = 2) && (!ilcSmall d || d.block || soon) then c
    else (c1.setRf fun r => { r with
        off0 := r.off0 + d.off0
        off1 := r.off1 + d.off1
        gain := r.gain + d.gain
        skew := r.skew + d.skew
        ilcAt := some c1.now }).put F.RF_ILC_STAT_img d.img.toNat

/-- ILC_OK (R303): the estimate reaches 70 dB. -/
def Chip.ilcGood (c : Chip) (img : Nat) : Chip :=
  if c.ilcBlind || decide (img < 140) then c
  else
    let c1 := (c.put F.RF_ILC_STAT_img img).put F.RF_STAT_ilc_ok 1
    if c1.get F.RF_STAT_rx = 1 then c1.put F.RF_STAT_rx 2 else c1

/-- ILC_OK_CLEAR (R303): the estimate rises above −64 dBc. -/
def Chip.ilcBad (c : Chip) (img : Nat) : Chip :=
  if c.ilcBlind || decide (128 ≤ img) then c else (c.put F.RF_ILC_STAT_img img).put F.RF_STAT_ilc_ok 0

/-! ## Transmit chain -/

/-- Post a transmission (R308): in order of S. -/
def Chip.postTx (c : Chip) (t : Tx) : Chip :=
  c.setRf fun r => { r with posted := (r.posted.filter fun x => decide (x.s ≤ t.s)) ++ [t] ++ r.posted.filter fun x => decide (t.s < x.s) }

/-- Does a join request stand that this node would send from one of the next four unit boundaries (R362, R368)? Whether it goes out is
decided at S; until then it is posted as every transmission is. -/
def Chip.joinNear (c : Chip) : Bool :=
  decide (c.get F.LNK_STAT_state = 3) && c.lnk.joinWait.isNone && (List.range 5).any fun i =>
    let u := c.unitNow + i
    decide (1 ≤ u) && decide (c.unitCode u = 3) && decide (c.unitCode (u - 1) = 3)

/-- The transmission whose channel the synthesiser tunes to (R305): one between S and K, else the next one posted. -/
def Chip.nextTx (c : Chip) : Option Tx :=
  (c.rf.cur.or c.rf.posted.head?).or
    (if c.joinNear then some ⟨c.now / rootPerUnit, 8, c.get F.LNK_STAT_ch, 0, .burst [] false 1 []⟩ else none)

/-- SYNTH_RETUNE (R305): once no keyed interval is in progress, and only to a channel 0 to 6. A loss of lock is over with it: the event is
never active during a retune (R309). -/
def Chip.synthRetune (c : Chip) : Chip :=
  match c.nextTx with
  | none => c
  | some t =>
    if !c.bit F.RF_CTRL_tx_en || c.rf.keyed || decide (t.ch = c.get F.RF_TX_STAT_ch) || decide (6 < t.ch) then c
    else (((c.put F.RF_TX_STAT_ch t.ch).put F.RF_STAT_synth_lock 0).levelOff Ev.RF_SYNTH_UNLOCK locNone).showTx

/-- SYNTH_LOCK (R305, R309). -/
def Chip.synthLock (c : Chip) : Chip :=
  if !c.bit F.RF_CTRL_tx_en || c.bit F.RF_STAT_synth_lock then c
  else ((c.put F.RF_STAT_synth_lock 1).levelOff Ev.RF_SYNTH_UNLOCK locNone).showTx

/-- RF_SYNTH_UNLOCK (R309): a loss of lock on the current channel; a keyed interval ends with it. -/
def Chip.synthUnlock (c : Chip) : Chip :=
  if !c.bit F.RF_STAT_synth_lock then c
  else (((c.put F.RF_STAT_synth_lock 0).levelOn Ev.RF_SYNTH_UNLOCK locNone 0).cutKeyed).showTx

/-- The ceilings in force (R290, R291). -/
def Chip.pwrCeiling (c : Chip) : Nat := min (c.get F.GUARD_RADIO_FUSE_pwr_max) (c.get F.GUARD_RADIO_LIM_pwr)
def Chip.airCeiling (c : Chip) : Nat := min (c.get F.GUARD_RADIO_FUSE_air_max) (c.get F.GUARD_RADIO_LIM_air)

/-- Does the airtime allow `u` more units (R291)? A ceiling of 64,000 or more sets no limit. -/
def Chip.airAllows (c : Chip) (u : Nat) : Bool :=
  decide (64000 ≤ c.airCeiling) || decide (c.get F.GUARD_AIR_CNT_count + u ≤ c.airCeiling)

/-- A posted transmission is refused or abandoned (R308). -/
def Chip.dropPosted (c : Chip) (t : Tx) : Chip := if t.isWake then (c.put F.RF_WAKE_TX_CTRL_go 0).showTx else c.showTx

/-- The checks made at S on a transmission (R308, R284, R290 to R293). -/
def Chip.checkAtS (c : Chip) (t : Tx) : Chip :=
  if !c.bit F.GUARD_GATE_tx then (c.latch F.RF_TX_STAT_ref_gate).dropPosted t
  else if !c.bit F.SYS_FEAT2_radio_fused then (c.latch F.RF_TX_STAT_ref_fuse).dropPosted t
  else if !c.bit F.CLK_STAT_locked then (c.latch F.RF_TX_STAT_ref_root).dropPosted t
  else if !c.airAllows t.units then (c.levelOn Ev.RF_AIRTIME locNone 0).dropPosted t
  else
    let c1 := if c.pwrCeiling < t.pwr then c.raise Ev.RF_PWR_CLAMP locNone (BitVec.ofNat 32 t.pwr) else c
    (c1.setRf fun r => { r with cur := some { t with pwr := min t.pwr c.pwrCeiling }, keyed := false, counted := 0 }).showTx

/-- KEYED_END (R307): after the last sample, or cut at the end of the last slot unit. -/
def Chip.keyedEnd (c : Chip) : Chip :=
  match c.rf.cur with
  | none => c
  | some t =>
    if !c.rf.keyed then c
    else
      let c1 := c.advanceTo (min t.endAt t.cutAt)
      if t.cutAt < t.endAt then c1.cutKeyed else c1.countAir.endTx

/-- TRANSMISSION_START (R308): at S of the next posted transmission. -/
def Chip.txStart (c : Chip) : Chip :=
  match c.rf.posted with
  | [] => c
  | t :: rest =>
    let c1 := c.keyedEnd
    ((c1.advanceTo t.sAt).setRf fun r => { r with posted := rest }).checkAtS t

/-- What leaves from K on (R307, R315, R351). -/
def Tx.symbols (t : Tx) : List Nat :=
  match t.body with
  | .burst h m nb ws => burstSymbols (bytesNat h) m nb (ws.map bytesNat)
  | .wake code => wakeBits code.toNat

/-- The type of a burst's header; 0 for a wake frame (R359). -/
def Tx.hdrType (t : Tx) : Nat :=
  match t.body with
  | .burst h _ _ _ => ((h.head?.map (·.toNat)).getD 0) / 16
  | .wake _ => 0

/-- TX_KEY (R307, R308): the PA is keyed at K where the synthesiser has locked on the posted channel; what R284, R293 and R309
exclude is not keyed, and nothing is keyed in a calibration (R312, assumption 140). -/
def Chip.txKey (c : Chip) : Chip :=
  match c.rf.cur with
  | none => c
  | some t =>
    if c.rf.keyed then c
    else
      let c1 := c.advanceTo t.keyAt
      if c1.rf.cal.isSome then c1.endTx.protectOff
      else if !c1.bit F.GUARD_GATE_tx then (c1.latch F.RF_TX_STAT_ref_gate).endTx.protectOff
      else if !c1.bit F.CLK_STAT_locked then (c1.latch F.RF_TX_STAT_ref_root).endTx.protectOff
      else if !c1.bit F.RF_STAT_synth_lock || decide (c1.get F.RF_TX_STAT_ch ≠ t.ch) then
        ((((c1.latch F.RF_TX_STAT_late).bump F.RF_TX_LATE_CNT_count).raise Ev.TX_LATE locNone
          (BitVec.ofNat 32 (t.s % 128))).endTx).protectOff
      else
        let c2 := ((c1.setRf fun r => { r with keyed := true, air := t.symbols }).countAir).put F.RF_STAT_protect 1
        let c3 := if t.hdrType = 3 then
            { c2 with lnk := { c2.lnk with sentUp := c2.lnk.sentUp ++ [(t.s / 128, c2.get F.LNK_STAT_node)] } }
          else c2
        c3.showTx

/-- PROTECT_START (R310): 1 µs, 2,950 root cycles, before K. -/
def Chip.protectStart (c : Chip) : Chip :=
  match c.rf.cur with
  | none => c
  | some t => if c.rf.keyed then c else (c.advanceTo (t.keyAt - 2950)).put F.RF_STAT_protect 1

/-- Does protect go on at an instant, since the next transmission's begins 1 µs before its K (R310)? -/
def Chip.protectNext (c : Chip) (at_ : Nat) : Bool :=
  match c.rf.cur with
  | some t => decide (t.keyAt - 2950 ≤ at_)
  | none => false

/-- PROTECT_END (R310): 1 µs after the keyed interval's end. -/
def Chip.protectEnd (c : Chip) : Chip :=
  let t := max c.now (c.rf.endAt + 2950)
  if !c.bit F.RF_STAT_protect || c.rf.keyed || c.protectNext t then c else (c.advanceTo t).protectOff

/-! ## Foreground calibration (R311, R312) -/

/-- A write of RF_CAL_REQ (R311). -/
def Chip.writeCalReq (c : Chip) (v : Word) : Chip := c.plainWrite R.RF_CAL_REQ v

/-- CAL_START (R311): LO leakage first. -/
def Chip.calStart (c : Chip) : Chip :=
  let lo := c.bit F.RF_CAL_REQ_lo
  let iq := c.bit F.RF_CAL_REQ_iq
  let c1 := c.advanceTo c.unitAt
  let wake := match c.rf.cur with
    | some t => t.isWake
    | none => false
  if !(lo || iq) || !c.bit F.RF_CTRL_tx_en || !c.bit F.RF_STAT_synth_lock || c.rf.cal.isSome || wake || c.rf.keyed ||
      !c1.idleRun c1.unitNow (if lo then 2 else 4) then c
  else (c1.setRf fun r => { r with cal := some !lo, calTo := c1.now + c1.idleUnits c1.unitNow * rootPerUnit }).showTx

/-- A calibration is abandoned: its request stays pending (R312). -/
def Chip.calAbandon (c : Chip) : Chip := if c.rf.cal.isSome then c.calEnd.showTx else c

/-- The plan in force changes: a calibration whose unit is no longer idle is abandoned (R312). -/
def Chip.calJudge (c : Chip) : Chip := if c.unitCode c.unitNow ≠ 0 then c.calAbandon else c

/-- CAL_COMPLETE (R312): within its run, the result is stored for the current channel. -/
def Chip.calComplete (c : Chip) (res : Nat) : Chip :=
  match c.rf.cal with
  | none => c
  | some iq =>
    if c.unitCode c.unitNow ≠ 0 ∨ c.rf.calTo < c.now then c.calAbandon
    else
      let k := c.get F.RF_TX_STAT_ch
      let c1 := (c.put (F.RF_CAL_RES_valid k) 1).put (if iq then F.RF_CAL_RES_img_res k else F.RF_CAL_RES_lo_res k) res
      let c2 := c1.put (if iq then F.RF_CAL_REQ_iq else F.RF_CAL_REQ_lo) 0
      (c2.calEnd.raise Ev.RF_CAL_DONE locNone (BitVec.ofNat 32 (k + 256 * b2n iq))).showTx

/-! ## Wake receivers and wake frames (R315 to R318) -/

/-- Bits in which two codes differ. -/
def bitErrors (a b : Nat) : Nat := ((List.range 64).filter fun i => bitAt a i ^^ bitAt b i).length

/-- The fused owner code (R316, R386). -/
def Chip.ownerCode (c : Chip) : Nat := (KMap.get 0 58 c.shp.shadow).toNat + 2 ^ 32 * (KMap.get 0 59 c.shp.shadow).toNat

/-- Is an owner code fused: FEAT2 `owner_code`, and in SLEEP the fuse image that the receiver keeps (R315, R386)? -/
def Chip.ownerFused (c : Chip) : Bool :=
  if c.get F.PWR_STAT_state = 3 ∨ c.get F.PWR_STAT_state = 4 then bitAt (KMap.get 0 0 c.shp.shadow).toNat 10
  else c.bit F.SYS_FEAT2_owner_code

/-- Does receiver `n` match a received code (R316)? -/
def Chip.wakeMatch (c : Chip) (n : Bool) (code : Nat) : Bool :=
  if n then c.bit F.RF_WAKE_CTRL_en1 && c.ownerFused && decide (code = c.ownerCode)
  else c.bit F.RF_WAKE_CTRL_en0 &&
    decide (bitErrors code (c.rd64 R.RF_WAKE_CODE0_LO R.RF_WAKE_CODE0_HI) ≤ c.get F.RF_WAKE_CTRL_tol)

/-- WAKE_FRAME (R316, R317). -/
def Chip.wakeFrame (c : Chip) (n : Bool) (code : Nat) : Chip :=
  if !c.wakeMatch n code then c
  else
    let c1 := c.latch (if n then F.RF_WAKE_STAT_hit1 else F.RF_WAKE_STAT_hit0)
    if c1.get F.PWR_STAT_state = 1 then c1.raise Ev.RF_WAKE locNone (BitVec.ofNat 32 (b2n n)) else c1

/-- A write of RF_WAKE_TX_CTRL (R318). -/
def Chip.writeWakeTx (c : Chip) (v : Word) : Chip :=
  let busy := c.bit F.RF_WAKE_TX_CTRL_go
  let c1 := c.plainWrite R.RF_WAKE_TX_CTRL v
  if !F.RF_WAKE_TX_CTRL_go.ofB v || busy then c1
  else if !c.bit F.RF_CTRL_tx_en || c.givesTx || c.rf.cal.isSome then
    (c1.put F.RF_WAKE_TX_CTRL_go 0).latch F.RF_WAKE_TX_CTRL_ref
  else
    let ch := c1.get F.RF_WAKE_TX_CTRL_ch
    c1.postTx ⟨c1.nextSuperframe / 3, 52, if ch = 7 then 0 else ch, c1.get F.RF_WAKE_TX_CTRL_pwr,
      .wake (BitVec.ofNat 64 (c1.rd64 R.RF_WAKE_TX_LO R.RF_WAKE_TX_HI))⟩

/-! ## What the link receiver hears (R298, R310) -/

/-- Do the link down-converter's samples since an instant reach the Flenan receiver: it runs, and none of them is marked invalid? -/
def Chip.linkHears (c : Chip) (since : Nat) : Bool :=
  c.ddcOn F.RF_CTRL_ddc_lnk && !c.bit F.RF_STAT_protect && decide (c.rf.protTo ≤ Int.ofNat since)

end Sys2Proof.Machine
end

