-- ==== Sys2Proof/Machine/Link.lean ====
section
/-! DEFINITION. Link.lean: the link controller's states, receptions and strays (chapter 15). What it sends stands in LinkSend.lean. -/

namespace Sys2Proof.Machine

/-! ## Plans, runs and states -/

def Chip.setLnk (c : Chip) (f : LnkSt → LnkSt) : Chip := { c with lnk := f c.lnk }

/-- The superframe number (R348). -/
def Chip.sfn (c : Chip) : Nat := c.time.stc / 384

/-- A field of LNK_CTRL as applied (R365). -/
def Chip.lctl (c : Chip) (f : Fld) : Nat := f.of c.lnk.ctrl
def Chip.lctlB (c : Chip) (f : Fld) : Bool := f.ofB c.lnk.ctrl

/-- Units at the head of a list that carry a code. -/
def runLen (code : Nat) : List Nat → Nat
  | [] => 0
  | x :: r => if x = code then 1 + runLen code r else 0

/-- The first run of a code in a plan (R348): first unit and length. -/
def firstRun (code : Nat) : Nat → List Nat → Option (Nat × Nat)
  | _, [] => none
  | u, x :: r => if x = code then some (u, 1 + runLen code r) else firstRun code (u + 1) r

/-- Link states (R365). -/
def lkOff : Nat := 0
def lkSearch : Nat := 1
def lkSync : Nat := 2
def lkJoining : Nat := 3
def lkMember : Nat := 4
def lkHold : Nat := 5
def lkBell : Nat := 6
def Chip.lkState (c : Chip) : Nat := c.get F.LNK_STAT_state

/-- Enter a link state with the counters that it starts. A node that enters JOINING draws its backoff (R368). -/
def Chip.lkEnter (c : Chip) (st : Nat) : Chip :=
  let c1 := (c.put F.LNK_STAT_state st).setLnk fun l => { l with scanCnt := 0, holdCnt := 0 }
  if st = lkJoining then
    let cw := 2 ^ c1.get F.LNK_LBT_cwmin
    let (v, c2) := c1.draw
    c2.setLnk fun l => { l with cw := cw, b := v % cw, joinWait := none, granted := none }
  else c1

/-- SYNC and JOINING follow `join` and `aligned` (R365). -/
def Chip.lkJoin (c : Chip) : Chip :=
  let want := c.lctlB F.LNK_CTRL_join && c.bit F.LNK_STAT_aligned
  if c.lkState = lkSync ∧ want then c.lkEnter lkJoining
  else if c.lkState = lkJoining ∧ !want then c.lkEnter lkSync
  else c

/-- Membership and the member table are dropped (R365). -/
def Chip.dropMembers (c : Chip) : Chip :=
  ((c.wr R.LNK_MEMBERS 0).put F.LNK_STAT_node 0).setLnk fun l =>
    { l with table := [], grants := [], granted := none, d4 := [], upSeen := [], upLost := [], d2 := none, sentUp := [], aud := none }

/-- A write of LNK_CTRL: it waits for the next superframe boundary (R365). -/
def Chip.writeLnkCtrl (c : Chip) (v : Word) : Chip :=
  (c.plainWrite R.LNK_CTRL v).setLnk fun l => { l with ctrlAt := some c.nextSuperframe }

/-- The SLOTPLAN template of the fold in force (R363). -/
def Chip.foldPlan (c : Chip) : Option (List Nat) := c.fold.cur.bind fun f => f.plan.map (·.2)

/-- LINK_CONTROL_APPLY (R32, R363, R365, R370). Until a load succeeds the link stays stopped (R72). -/
def Chip.lnkApply (c : Chip) : Chip :=
  match c.lnk.ctrlAt with
  | none => c
  | some t =>
    let c1 := c.advanceTo (t * rootPerTick)
    let old := c1.lnk.ctrl
    let c2 := c1.setLnk fun l => { l with ctrl := c1.rd R.LNK_CTRL, ctrlAt := none }
    let en := c2.lctlB F.LNK_CTRL_en && c2.bit F.FOLD_STAT_loaded
    let role := c2.lctlB F.LNK_CTRL_role
    let roleNew := decide (F.LNK_CTRL_role.ofB old ≠ role)
    let enNew := decide (F.LNK_CTRL_en.ofB old ≠ c2.lctlB F.LNK_CTRL_en)
    let c2' := if role then (if roleNew then c2.setLnk fun l => { l with plan := c2.foldPlan, nextPlan := none } else c2).invalidate 1 else c2
    let c3 := if enNew || roleNew then c2'.levelOff Ev.LNK_BEACON_LOST locNone else c2'
    let c4 := if roleNew || !en then c3.dropMembers else c3
    let c5 := if !en then c4.lkEnter lkOff
      else if roleNew || decide (c4.lkState = lkOff) then c4.lkEnter (if role then lkBell else lkSearch)
      else c4
    let c6 := if c5.lkState = lkBell then c5.put F.LNK_STAT_node (c5.lctl F.LNK_CTRL_node) else c5
    c6.lkJoin

/-! ## Receptions -/

/-- Byte `i` of a list. -/
def nthByte (l : List Byte) (i : Nat) : Nat := ((l[i]?).map (·.toNat)).getD 0

/-- `n` bytes from `i`, least significant first. -/
def leField (l : List Byte) (i : Nat) : Nat → Nat
  | 0 => 0
  | n + 1 => nthByte l i + 256 * leField l (i + 1) n

/-- Is the header valid (R358)? -/
def hdrValid (w : RxWord) : Bool :=
  let h := w.info
  let nb := nthByte h 4 % 64
  let type := nthByte h 0 / 16
  rxDecodes w 16 && decide (nthByte h 0 % 16 = 1) && decide (1 ≤ type ∧ type ≤ 4) && decide (1 ≤ nb ∧ nb ≤ 33) &&
    decide (2040 * nthByte h 5 ≤ dataBits (bitAt (nthByte h 4) 6) nb)

/-- The instant at which a burst's first symbol arrived, in root cycles: 6,400 ns before its reference instant (R349). -/
def burstSince (b : BurstRx) : Nat := (fdiv ((b.arr - 6400 * 768) * 294912) 76800000).toNat

/-- A burst of type `type` of the node's own drove (R358, R359) that the receiver has heard (R298, R310). -/
def Chip.ownBurst (c : Chip) (b : BurstRx) (type : Nat) : Bool :=
  hdrValid b.hdr && decide (nthByte b.hdr.info 0 / 16 = type) && decide (leField b.hdr.info 1 2 = c.get F.LNK_DROVE_drove) &&
    c.linkHears (burstSince b)

/-- The sender's node number. -/
def hdrNode (b : BurstRx) : Nat := nthByte b.hdr.info 3 % 32

/-- An arrival minus a reference time, both in 1/768 ns, to the nearest 1/16 ns, ties away from zero (R366). -/
def toSixteenths (d : Int) : Int := if 0 ≤ d then fdiv (d + 24) 48 else -fdiv (-d + 24) 48

/-- The reference instant of a burst whose run begins at tick `t`, in 1/768 ns (R349): a tick is 4,000,000 of them. -/
def refInstant (t : Nat) : Int := Int.ofNat t * 4000000 + 14900 * 768

/-- A value in a signed register of `w` bits; one that does not fit has no stated value. -/
def Chip.fitted (c : Chip) (w : Nat) (v : Int) : Nat × Chip :=
  if -(2 ^ (w - 1)) ≤ v ∧ v < 2 ^ (w - 1) then (wrap v w, c)
  else
    let (x, c1) := c.draw
    (x % 2 ^ w, c1)

/-- d2 of a decoded beacon (R366). -/
def beaconD2 (b : BurstRx) : Int :=
  let h := b.hdr.info
  toSixteenths (b.arr - refInstant (384 * leField h 6 6 + 3 * (nthByte h 12 % 128)))

/-- d4 that a beacon reports for a node (R360): none where 0x80_0000. -/
def beaconD4 (w1 : List Byte) (k : Nat) : Option Int :=
  let v := leField w1 (3 * k) 3
  if v = 0x800000 then none else some (sext v 24)

/-- No sample comes for the uplinks sent in superframe `j` (R372). -/
def Chip.ttFail (c : Chip) (j : Nat) : Chip :=
  let c1 := c.setLnk fun l => { l with sentUp := l.sentUp.filter fun e => !decide (e.1 = j) }
  (c.lnk.sentUp.filter fun e => decide (e.1 = j)).foldl (fun c e => c.raise Ev.LNK_TT_FAIL (locNode e.2) 0) c1

/-- The two-way time transfer at a decoded beacon of superframe j + 1 (R372). -/
def Chip.timeTransfer (c : Chip) (j1 : Nat) (w1 : List Byte) : Chip :=
  let k := c.get F.LNK_STAT_node
  let member := decide (c.lkState = lkMember ∨ c.lkState = lkHold)
  let d2 := c.lnk.d2.bind fun e => if e.1 + 1 = j1 then some e.2 else none
  let d4 := if member then beaconD4 w1 k else none
  match d2, d4 with
  | some a, some d =>
    let (e, c1) := c.fitted 32 (fdiv (a - d) 2)
    let (y, c2) := (c1.setLnk fun l => { l with sentUp := l.sentUp.filter fun e => !decide (e.1 + 1 = j1) }).fitted 32 (fdiv (a + d) 2)
    ((c2.wr R.LNK_TT_ERR (BitVec.ofNat 32 e)).wr R.LNK_TT_DLY (BitVec.ofNat 32 y)).sample 1 (fdiv (a - d) 2)
  | _, _ => if member then c.ttFail (j1 - 1) else c

/-- Is a node in the beacon's member bitmap (R360)? -/
def listed (w0 : List Byte) (k : Nat) : Bool := bitAt (leField w0 135 4) k

/-- The node number that a beacon grants to an address (R360). -/
def grantOf (w1 : List Byte) (addr : Nat) : Option Nat :=
  ((List.range 4).find? fun g => decide (leField w1 (96 + 7 * g) 6 = addr) && bitAt (nthByte w1 (102 + 7 * g)) 7).map fun g =>
    nthByte w1 (102 + 7 * g) % 32

/-- The node's own address. -/
def Chip.ownAddr (c : Chip) : Nat := (c.rd R.LNK_ADDR_LO).toNat + 2 ^ 32 * ((c.rd R.LNK_ADDR_HI).toNat % 65536)

/-- The state after a decoded beacon (R365, R369). -/
def Chip.beaconState (c : Chip) (w0 w1 : List Byte) : Chip :=
  let st := c.lkState
  let me := c.get F.LNK_STAT_node
  if st = lkSearch then (c.lkEnter lkSync).lkJoin
  else if st = lkSync then c.lkJoin
  else if st = lkJoining then
    let c1 := c.lkJoin
    if c1.lkState ≠ lkJoining then c1
    else match grantOf w1 c.ownAddr with
      | some k => c1.setLnk fun l => { l with granted := some k, joinWait := none }
      | none => c1.setLnk fun l => { l with joinWait := l.joinWait.map (· - 1) }
  else if st = lkMember then (if listed w0 me then c else (c.put F.LNK_STAT_node 0).lkEnter lkSync)
  else if st = lkHold then (if listed w0 me then c.lkEnter lkMember else c)
  else c

/-- Hop and probe announcements, the member bitmap and the plan of a decoded beacon of superframe `j` (R360, R363, R376, R382). A hop whose
superframe has begun is over (assumption 143). -/
def Chip.beaconNews (c : Chip) (j : Nat) (w0 : List Byte) : Chip :=
  let hop := nthByte w0 128
  let h := leField w0 129 6
  let ch := if hop % 8 = 7 then 0 else hop % 8
  let c1 := if bitAt hop 7 && decide (j < h) then (c.put F.LNK_STAT_hop_pend 1).setLnk fun l => { l with hop := some (h, ch) } else c
  let pr := nthByte w0 139
  let c2 := (c1.putB F.LNK_PROBE_valid (bitAt pr 7)).put F.LNK_PROBE_node (pr % 32)
  let sf := leField w0 140 6
  let c3 := (c2.wr R.LNK_PROBE_SF_LO (BitVec.ofNat 32 sf)).wr R.LNK_PROBE_SF_HI (BitVec.ofNat 32 (sf / 2 ^ 32))
  (c3.wr R.LNK_MEMBERS (BitVec.ofNat 32 (leField w0 135 4))).setLnk fun l =>
    { l with nextPlan := some ((List.range 128).map (nthByte w0)) }

/-- BEACON (R365, R366, R370, R372): decoded by a node that searches for or follows a bellwether. -/
def Chip.beacon (c : Chip) (b : BurstRx) : Chip :=
  let st := c.lkState
  match b.words with
  | [a, d] =>
    if st = lkOff ∨ st = lkBell ∨ !c.ownBurst b 1 ∨ !rxDecodes a 223 ∨ !rxDecodes d 223 then c
    else
      let j := leField b.hdr.info 6 6
      let d2 := beaconD2 b
      let n := wrap d2 64
      let c1 := ((c.wr R.LNK_BW_OFS_LO (BitVec.ofNat 32 n)).wr R.LNK_BW_OFS_HI (BitVec.ofNat 32 (n / 2 ^ 32))).putB F.LNK_STAT_aligned
        (decide (d2.natAbs ≤ 64000))
      let c2 := (c1.timeTransfer j d.info).setLnk fun l => { l with d2 := some (j, d2), heard := true, missed := 0, scanCnt := 0, bwm := [] }
      ((c2.levelOff Ev.LNK_BEACON_LOST locNone).beaconNews j a.info).beaconState a.info d.info
  | _ => c

/-- The plan that held in a superframe, as far as the node knows it: the one in force. -/
def Chip.planRun (c : Chip) (code : Nat) : Option (Nat × Nat) := c.lnk.plan.bind (firstRun code 0)

/-- UPLINK (R370, R371): of node k, in its run of the plan. -/
def Chip.uplink (c : Chip) (b : BurstRx) : Chip :=
  let k := hdrNode b
  match c.planRun (0x20 + k) with
  | none => c
  | some (u, _) =>
    if c.lkState = lkOff ∨ !c.ownBurst b 3 then c
    else
      let bw := bitAt (nthByte b.hdr.info 3) 6
      let before := KMap.get none k c.lnk.bwm
      let c1 := c.setLnk fun l => { l with bwm := KMap.set none k (some bw) l.bwm }
      let c2 := if bw && decide (before ≠ some true) then c1.raise Ev.LNK_PEER_BW_MISSING (locNode k) 0 else c1
      if c2.lkState ≠ lkBell then c2
      else
        let j := (fdiv b.arr (384 * 4000000)).toNat
        let (v, c3) := c2.fitted 24 (toSixteenths (b.arr - refInstant (384 * j + 3 * u)))
        c3.setLnk fun l => { l with
          d4 := KMap.set none (j * 32 + k) (some (sext v 24)) (l.d4.filter fun e => decide (j ≤ e.1 / 32 + 1))
          upSeen := if l.upSeen.contains k then l.upSeen else l.upSeen ++ [k]
          upLost := KMap.set 0 k 0 l.upLost }

/-- The lowest node number that may be granted (R367). -/
def Chip.freeNode (c : Chip) : Option Nat :=
  (List.range 32).find? fun k =>
    (c.planRun (0x20 + k)).isSome && decide (k ≠ c.lctl F.LNK_CTRL_node) && (KMap.get none k c.lnk.table).isNone &&
      !(c.lnk.grants.any fun g => decide (g.node = k))

/-- The number of an address that is a member already, or that a grant waits for. -/
def Chip.nodeOf (c : Chip) (addr : Word48) : Option Nat :=
  match (List.range 32).find? fun k => decide (KMap.get none k c.lnk.table = some addr) with
  | some k => some k
  | none => (c.lnk.grants.find? fun g => decide (g.addr = addr)).map (·.node)

/-- JOIN_REQUEST (R367). -/
def Chip.joinRequest (c : Chip) (b : BurstRx) : Chip :=
  if c.lkState ≠ lkBell ∨ !c.lctlB F.LNK_CTRL_admit ∨ !c.ownBurst b 4 then c
  else
    let addr : Word48 := BitVec.ofNat 48 (leField b.hdr.info 6 6)
    match (match c.nodeOf addr with
      | some k => some k
      | none => c.freeNode) with
    | none => c
    | some k => c.setLnk fun l => { l with grants := (l.grants.filter fun g => !decide (g.node = k)) ++ [⟨k, addr, 4⟩] }

/-- JOIN_BACKOFF (R368): the next four beacons held no grant. -/
def Chip.joinBackoff (c : Chip) : Chip :=
  if c.lkState ≠ lkJoining ∨ c.lnk.joinWait ≠ some 0 then c
  else
    let cw := min (2 * c.lnk.cw) (2 ^ c.get F.LNK_LBT_cwmax)
    let (v, c1) := c.draw
    c1.setLnk fun l => { l with cw := cw, b := v % cw, joinWait := none }

/-- MEMBER_DROP (R369). -/
def Chip.memberDrop (c : Chip) (k : Nat) : Chip :=
  let m := c.rd R.LNK_MEMBERS
  if c.lkState ≠ lkBell ∨ !bitAt m.toNat k ∨ KMap.get 0 k c.lnk.upLost < max 1 (c.get F.LNK_TMO_lost_n) then c
  else
    ((c.wr R.LNK_MEMBERS (m &&& ~~~BitVec.ofNat 32 (2 ^ k))).setLnk fun l =>
      { l with table := KMap.set none k none l.table, upLost := KMap.set 0 k 0 l.upLost }).raise Ev.LNK_NODE_LOST (locNode k) 0

/-- BEACON_LOSS (R365, R370). -/
def Chip.beaconLoss (c : Chip) : Chip :=
  let st := c.lkState
  if !(st = lkSync ∨ st = lkJoining ∨ st = lkMember) ∨ c.lnk.missed < max 1 (c.get F.LNK_TMO_bl_n) then c
  else (c.levelOn Ev.LNK_BEACON_LOST locNone 0).lkEnter (if st = lkMember then lkHold else lkSearch)

/-- Tune the link to a channel (R363, R365, R376). -/
def Chip.lkTune (c : Chip) (ch : Nat) : Chip := (c.put F.LNK_STAT_ch ch).askRx ch

/-- CHANNEL_SCAN_STEP (R365). -/
def Chip.scanStep (c : Chip) : Chip :=
  if c.lkState ≠ lkSearch ∨ !c.lctlB F.LNK_CTRL_scan ∨ c.lnk.scanCnt < 64 then c
  else (c.lkTune ((c.get F.LNK_STAT_ch + 1) % 7)).setLnk fun l => { l with scanCnt := 0 }

/-- HOLD_EXPIRY (R365). -/
def Chip.holdExpiry (c : Chip) : Chip :=
  if c.lkState ≠ lkHold ∨ c.lnk.holdCnt < c.get F.LNK_TMO_hold then c else (c.put F.LNK_STAT_node 0).lkEnter lkSearch

/-! ## Hops (R376) -/

/-- A write of LNK_HOP: a request counts at the bellwether alone. -/
def Chip.writeHop (c : Chip) (v : Word) : Chip :=
  let c1 := (c.put F.LNK_HOP_lead (F.LNK_HOP_lead.of v)).put F.LNK_HOP_ch (F.LNK_HOP_ch.of v)
  if !F.LNK_HOP_go.ofB v || decide (c1.lkState ≠ lkBell) then c1
  else
    let ch := F.LNK_HOP_ch.of v
    let h := c1.sfn + max 8 (F.LNK_HOP_lead.of v)
    ((c1.put F.LNK_HOP_go 1).put F.LNK_STAT_hop_pend 1).setLnk fun l =>
      { l with hop := some (h, if ch = 7 then 0 else ch), hopAnn := some (h, if ch = 7 then 0 else ch) }

/-- HOP (R376): both directions change at the boundary of the first superframe at or after H; receiving takes no settling. -/
def Chip.hop (c : Chip) : Chip :=
  match c.lnk.hop with
  | none => c
  | some (h, ch) =>
    let c1 := c.advanceTo (h * 384 * rootPerTick)
    let c2 := (((c1.put F.LNK_STAT_ch ch).put F.RF_LNK_RX_ch ch).setRf fun r => { r with rxCh := ch, rxAt := none })
    (((c2.put F.LNK_HOP_go 0).put F.LNK_STAT_hop_pend 0).setLnk fun l => { l with hop := none }).raise Ev.LNK_HOP locNone
      (BitVec.ofNat 32 ch)

/-! ## Strays (R374, R375) -/

/-- The open stray closes: its record and its event. -/
def Chip.closeStray (c : Chip) : Chip :=
  match c.lnk.stray with
  | none => c
  | some s =>
    let i := c.get F.LNK_STRAY_CNT_next
    let units := min s.units 65535
    let w1 := BitVec.ofNat 32 (2 ^ 24 * b2n s.kind + 2 ^ 16 * (s.level % 256) + units)
    let c1 := ((c.wr (R.LNK_STRAY_LOG_W0 i) s.stc).wr (R.LNK_STRAY_LOG_W1 i) w1).wr (R.LNK_STRAY_LOG_W2 i) (BitVec.ofNat 32 s.drove)
    let c2 := (c1.put F.LNK_STRAY_CNT_next ((i + 1) % 16)).bump F.LNK_STRAY_CNT_count
    (c2.setLnk fun l => { l with stray := none }).raise Ev.LNK_STRAY locNone (BitVec.ofNat 32 s.units)

/-- One more stray unit: its power, and the drove of the header that makes it one. -/
def Chip.growStray (c : Chip) (unit v : Nat) (own : Option Nat) : Chip :=
  let s : Stray := match c.lnk.stray with
    | none => ⟨BitVec.ofNat 32 (3 * unit), 1, v, own.isSome, own.getD 0⟩
    | some s => ⟨s.stc, s.units + 1, min s.level v, s.kind || own.isSome, if s.kind then s.drove else own.getD 0⟩
  c.setLnk fun l => { l with stray := some s }

/-- The drove of a header (R359). -/
def hdrDrove (w : RxWord) : Nat := leField w.info 1 2

/-- Is a burst one of this node's drove, and not a beacon at a bellwether (R374)? -/
def Chip.droveBurst (c : Chip) (w : RxWord) : Bool :=
  hdrValid w && decide (hdrDrove w = c.get F.LNK_DROVE_drove) && !(decide (c.lkState = lkBell) && decide (nthByte w.info 0 / 16 = 1))

/-- STRAY_UNIT (R374, R375): judged at the unit's end. A unit is measured where the receiver heard all of it, the node not transmitting and
out of protect, and no valid burst of the drove was being received. -/
def Chip.strayUnit (c : Chip) (m : StrayMeas) : Chip :=
  if c.lkState = lkOff then c
  else
    let c1 := c.advanceTo ((m.unit + 1) * rootPerUnit)
    let u := m.unit % 128
    let head := m.head && m.burst.any hdrValid
    let c2 := if head then c1.setLnk fun l => { l with heads := l.heads ++ [u] } else c1
    if !c2.linkHears (m.unit * rootPerUnit) || m.burst.any c2.droveBurst then c2
    else
      let loud := decide (m.power.toNat < c2.get F.LNK_LBT_stray_thr)
      let own := if head then m.burst.map hdrDrove else none
      let c3 := if loud then c2.setLnk fun l => { l with loud := l.loud ++ [u] } else c2
      if loud || own.isSome then (c3.setLnk fun l => { l with foul := l.foul ++ [u] }).growStray m.unit m.power.toNat own
      else c3.closeStray

/-! ## At a superframe boundary -/

/-- Do two units lie in one run (R348)? -/
def sameRun (plan : List Nat) (u v : Nat) : Bool :=
  (List.range (max u v - min u v + 1)).all fun i => decide (plan[min u v + i]? = plan[u]?)

/-- Is a burst of the drove due in a unit's run: a beacon, audio, or the uplink of a member (R362, R375)? -/
def Chip.burstDue (c : Chip) (u : Nat) : Bool :=
  let k := c.unitCode u
  decide (k = 1 ∨ k = 2) || (decide (0x20 ≤ k ∧ k < 0x40) && bitAt (c.rd R.LNK_MEMBERS).toNat (k - 0x20))

/-- Is a unit of the superframe that ends fouled (R375)? -/
def Chip.fouled (c : Chip) (u : Nat) : Bool :=
  let run := fun (l : List Nat) => l.any fun v => sameRun (c.lnk.plan.getD []) u v
  c.lnk.foul.contains u || (c.burstDue u && run c.lnk.loud && !run c.lnk.heads)

/-- LNK_FOUL of the superframe that ends (R375). -/
def Chip.showFoul (c : Chip) : Chip :=
  let w := fun (m : Nat) => BitVec.ofNat 32 (((List.range 32).map fun i => if c.fouled (32 * m + i) then 2 ^ i else 0).foldl (· + ·) 0)
  ((List.range 4).foldl (fun (x : Chip) m => x.wr (R.LNK_FOUL m) (w m)) c).setLnk fun l => { l with foul := [], loud := [], heads := [] }

/-- Fouled units of the last superframe (R359). -/
def Chip.foulCount (c : Chip) : Nat := ((List.range 128).filter fun u => bitAt (c.rd (R.LNK_FOUL (u / 32))).toNat (u % 32)).length

/-- What the link counts and applies at a superframe boundary (R363, R365, R368, R369, R372): the superframe before it has ended. -/
def Chip.lnkSuperframe (c : Chip) : Chip :=
  let st := c.lkState
  let l := c.lnk
  let follows := decide (2 ≤ st ∧ st ≤ 5)
  let c1 := (if 2 ≤ c.sfn then c.ttFail (c.sfn - 2) else c).showFoul
  let members := (List.range 32).filter fun k => bitAt (c.rd R.LNK_MEMBERS).toNat k
  let c2 := c1.setLnk fun x => { x with
    missed := if follows && !l.heard then x.missed + 1 else x.missed
    scanCnt := if decide (st = lkSearch) && !l.heard then x.scanCnt + 1 else x.scanCnt
    holdCnt := if st = lkHold then x.holdCnt + 1 else x.holdCnt
    heard := false
    plan := if st = lkBell then x.plan else match x.nextPlan with
      | some p => if x.plan.isSome then some p else none
      | none => x.plan
    nextPlan := none
    upSeen := []
    upLost := if st = lkBell then members.foldl (fun m k => if l.upSeen.contains k then m else KMap.set 0 k (KMap.get 0 k m + 1) m) x.upLost
      else x.upLost
    granted := none }
  match l.granted with
  | some k => if st = lkJoining then (c2.put F.LNK_STAT_node k).lkEnter lkMember else c2
  | none => c2

/-! ## Fold and reset -/

/-- At R of a fold load (R312, R363, R381): the plan template and its channel. A link that waits for a load to succeed takes up LNK_CTRL at
the next superframe boundary (R72, R365). -/
def Chip.lnkFold (c : Chip) (f : Fold) : Chip :=
  let from' := c.time.stc + 384
  let c1 := if c.lkState = lkOff ∧ c.lctlB F.LNK_CTRL_en = true then
      c.setLnk fun l => { l with ctrlAt := some (l.ctrlAt.getD c.nextSuperframe) }
    else c
  (match f.plan with
    | none => c1.setLnk fun l => { l with plan := none, nextPlan := none, audFrom := from' }
    | some (ch, codes) => (c1.lkTune ch).setLnk fun l => { l with plan := some codes, nextPlan := none, audFrom := from' }).calJudge

/-- The link enters OFF: membership and member table dropped (R431, R439). -/
def Chip.lnkOff (c : Chip) : Chip := (c.dropMembers.levelOff Ev.LNK_BEACON_LOST locNone).lkEnter lkOff

end Sys2Proof.Machine
end

