-- ==== Sys2Proof/Machine/Coeff.lean ====
section
/-! DEFINITION. Coeff.lean: the coefficient store (R197 to R206, R472): commits of update groups, glides, and their registers. -/

namespace Sys2Proof.Machine

/-- Is now a frame boundary of the fold in force? Without a fold there is none (R472). -/
def Chip.onBoundary (c : Chip) : Bool := c.bit F.FOLD_STAT_loaded && c.atBoundary c.frameTicks

def Chip.setCo (c : Chip) (f : CoSt → CoSt) : Chip := { c with co := f c.co }

/-! ## The glide table -/

/-- The slot that governs a coefficient word: the lowest-numbered enabled one that names it (R204). -/
def CoSt.governs (s : CoSt) (w : Nat) : Option (Nat × Word) :=
  s.slots.find? fun e => bitAt e.2.toNat 30 && decide (field e.2.toNat 0 17 = w)

/-- One interpolated value (R204) of `n` bits. -/
def glidePart (n k j a b : Nat) : Nat := wrap (sext a n + fdiv ((sext b n - sext a n) * Int.ofNat j) (2 ^ k)) n

/-- v_j of R204; v_0 is a. -/
def glideVal (split : Bool) (k j : Nat) (a b : Word) : Word :=
  if split then
    BitVec.ofNat 32 (glidePart 16 k j (a.toNat / 65536) (b.toNat / 65536) * 65536 +
      glidePart 16 k j (a.toNat % 65536) (b.toNat % 65536))
  else BitVec.ofNat 32 (glidePart 32 k j a.toNat b.toNat)

/-- The value of a running glide at step `j`. -/
def Glide.val (g : Glide) (j : Nat) : Word := glideVal g.split g.k j g.a g.b

/-- The running glide of a slot. -/
def CoSt.running (s : CoSt) (slot : Nat) : Option Glide := s.glides.find? fun g => decide (g.slot = slot)

/-- Each glide takes its next step at a frame boundary, up to step 2^k (R204). -/
def Chip.stepGlides (c : Chip) : Chip :=
  c.setCo fun s =>
    let gs := s.glides.map fun g => if g.j < 2 ^ g.k then { g with j := g.j + 1 } else g
    { s with
      glides := gs
      prev := s.glides.foldl (fun m g => KMap.insert g.word (KMap.get 0 g.word s.active) (KMap.erase g.word m)) []
      active := gs.foldl (fun m g => KMap.set 0 g.word (g.val g.j) m) s.active }

/-- GLIDE_END (R204, R206): a glide at its last step has taken its target; its slot becomes idle. -/
def Chip.glideEnd (c : Chip) (slot : Nat) : Chip :=
  match c.co.running slot with
  | none => c
  | some g => if g.j < 2 ^ g.k then c
    else c.setCo fun s => { s with glides := s.glides.filter fun x => !decide (x.slot = slot) }

/-! ## Commits -/

/-- Is word `w` in a commit's range, as it stood when the request was accepted (R198, R202)? -/
def Commit.covers (m : Commit) (w : Nat) : Bool := decide (m.base ≤ w ∧ w < m.base + m.len ∧ w < 131072)

/-- A plain word takes the shadow value (R202). -/
def CoSt.landPlain (s : CoSt) (m : Commit) : CoSt :=
  let ws := ((s.active.map (·.1)) ++ (s.shadow.map (·.1))).filter fun w => m.covers w && (s.governs w).isNone
  { s with active := ws.foldl (fun a w => KMap.set 0 w (KMap.get 0 w s.shadow) a) s.active }

/-- A glide word starts a glide (R204, R205): from what engines read in the frame before, to the shadow value, under the slot's
k and split of now. At k = 0 it takes the value at once. -/
def CoSt.landGlide (s : CoSt) (slot : Nat) (v : Word) : CoSt :=
  let w := field v.toNat 0 17
  let k := field v.toNat 17 4
  let b := KMap.get 0 w s.shadow
  let a := KMap.get (KMap.get 0 w s.active) w s.prev
  let rest := s.glides.filter fun g => !decide (g.word = w)
  let g : Glide := ⟨slot, w, bitAt v.toNat 29, k, a, b, 1⟩
  { s with
    active := KMap.set 0 w (g.val 1) s.active
    prev := KMap.insert w a (KMap.erase w s.prev)
    glides := if k = 0 then rest else rest ++ [g] }

/-- One commit lands (R202). -/
def CoSt.land (s : CoSt) (m : Commit) : CoSt :=
  let s1 := s.landPlain m
  let gov := s1.slots.filter fun e =>
    m.covers (field e.2.toNat 0 17) && decide ((s1.governs (field e.2.toNat 0 17)).map (·.1) = some e.1)
  gov.foldl (fun s e => s.landGlide e.1 e.2) s1

/-- Is a commit due at this boundary (R199, R200, R203)? -/
def Chip.commitDue (c : Chip) (m : Commit) : Bool :=
  !m.noFold && (match m.atStc with
    | none => decide (m.earliest ≤ c.now)
    | some t => decide (t ≤ c.time.stc))

/-- COMMIT_LAND (R202). -/
def Chip.commitLand (c : Chip) : Chip :=
  if !c.onBoundary then c
  else
    match c.co.commits.filter c.commitDue with
    | [] => c
    | due =>
      let c1 := c.setCo fun s =>
        { (due.foldl CoSt.land s) with commits := s.commits.filter fun m => !c.commitDue m }
      (c1.wr R.CO_LAND_CNT (c1.rd R.CO_LAND_CNT + BitVec.ofNat 32 due.length)).raise Ev.CO_COMMIT_DONE locNone 0

/-- Is a commit of the group pending? -/
def CoSt.pending (s : CoSt) (g : Nat) : Bool := s.commits.any fun m => decide (m.grp = g)

/-- A timed request is refused (R200, R472, R42). -/
def Chip.refuseAt (c : Chip) : Chip := (c.latch F.CO_STAT_at_ref).raise Ev.CO_REFUSED locNone 0

/-- A write of CO_COMMIT (R199 to R201, R472). -/
def Chip.writeCommit (c : Chip) (v : Word) : Chip :=
  let g := F.CO_COMMIT_grp.of v
  let timed := F.CO_COMMIT_at_time.ofB v
  let t := c.rd64 R.CO_AT_LO R.CO_AT_HI
  let loaded := c.bit F.FOLD_STAT_loaded
  let early := c.now + 2 * c.framePeriod
  if !F.CO_COMMIT_go.ofB v then c
  else if c.co.pending g then (c.latch F.CO_STAT_dup).raise Ev.CO_REFUSED locNone 0
  else if timed && loaded && (decide (t % c.frameTicks ≠ 0) || decide (t * rootPerTick < early)) then c.refuseAt
  else
    let m : Commit := ⟨g, c.get (F.CO_GRP_BASE_base g), c.get (F.CO_GRP_LEN_len g), if timed then some t else none, early, !loaded⟩
    c.setCo fun s => { s with commits := s.commits ++ [m] }

/-- At R of the first load to reach R the requests made without a fold are judged (R472). -/
def Chip.judgeNoFold (c : Chip) : Chip :=
  c.co.commits.foldl (fun c m =>
    if !m.noFold then c
    else
      let others := fun (s : CoSt) => s.commits.filter fun x => !decide (x.grp = m.grp)
      match m.atStc with
      | none => c.setCo fun s => { s with commits := others s ++ [{ m with noFold := false, earliest := c.now }] }
      | some t =>
        if t % c.frameTicks ≠ 0 ∨ t < c.time.stc then (c.setCo fun s => { s with commits := others s }).refuseAt
        else c.setCo fun s => { s with commits := others s ++ [{ m with noFold := false }] }) c

/-! ## Registers -/

/-- CO_PEND_m: the groups with a commit pending. -/
def Chip.readCoPend (c : Chip) (m : Nat) : Word :=
  BitVec.ofNat 32 ((List.range 32).foldl (fun a i => a + (if c.co.pending (32 * m + i) then 2 ^ i else 0)) 0)

/-- The glide slot selected. -/
def Chip.glideSel (c : Chip) : Nat := c.get F.CO_GLIDE_SEL_slot

/-- `ainc`: the selected slot moves on, wrapping at 4,096 (R206). -/
def Chip.glideAinc (c : Chip) : Chip := if c.bit F.CO_GLIDE_SEL_ainc then c.incr F.CO_GLIDE_SEL_slot else c

/-- A read of CO_GLIDE_DATA (R206). -/
def Chip.readGlideData (c : Chip) : Word × Chip :=
  let v := KMap.get 0 c.glideSel c.co.slots
  ((if (c.co.running c.glideSel).isSome then v ||| 0x80000000 else v), c.glideAinc)

/-- A write of CO_GLIDE_DATA (R206): refused on a busy slot. -/
def Chip.writeGlideData (c : Chip) (v : Word) : Chip :=
  let c1 := if (c.co.running c.glideSel).isSome then c.latch F.CO_STAT_glide_ref
    else c.setCo fun s => { s with slots := KMap.set 0 c.glideSel (v &&& 0x601FFFFF) s.slots }
  c1.glideAinc

/-- CO_GLIDE_STEP: the step of the selected slot; 0 when idle. -/
def Chip.readGlideStep (c : Chip) : Word :=
  match c.co.running c.glideSel with
  | some g => BitVec.ofNat 32 g.j
  | none => 0

/-- A write of CO_GRP_BASE_g or CO_GRP_LEN_g (R198). -/
def Chip.writeGroup (c : Chip) (g : Nat) (len : Bool) (v : Word) : Chip :=
  if c.co.pending g then c.latch F.CO_STAT_grp_ref
  else c.plainWrite (if len then R.CO_GRP_LEN g else R.CO_GRP_BASE g) v

end Sys2Proof.Machine
end

