-- ==== Sys2Proof/Machine/Crc.lean ====
section
/-! DEFINITION. Crc.lean: the CRC-32 of R13 and R53, used by the fold, the mark record and the self-test signature. -/

namespace Sys2Proof.Machine

/-- Eight steps of the reflected register. -/
def crcBits : Nat → Nat → Nat
  | 0, r => r
  | n + 1, r => crcBits n (if r % 2 = 1 then (r / 2) ^^^ 0xEDB88320 else r / 2)

/-- One byte into the register. -/
def crcByte (r b : Nat) : Nat := crcBits 8 (r ^^^ (b % 256))

/-- CRC-32 of a list of bytes (R53). -/
def crc32 (bs : List Nat) : Nat := (bs.foldl crcByte 0xFFFFFFFF) ^^^ 0xFFFFFFFF

end Sys2Proof.Machine
end

