-- ==== Sys2Proof/Machine/SelfTest.lean ====
section
/-! DEFINITION. SelfTest.lean: tests of engines and banks, their verdicts, the mark record and test requests (R410 to R422). The
start test and the shutdown test's boundary stand with secure start and power. -/

namespace Sys2Proof.Machine

/-! ## The mark record (R420, R421) -/

def recOfs : Nat := 0x100
def recMarker : Nat := 0x4D524B54

/-- The record's CRC over bytes 0x104 to 0x11B. -/
def recCrc (m : Mem) : Nat := crc32 ((List.range 24).map fun i => (m.byte (recOfs + 4 + i)).toNat)

/-- Is the record valid? -/
def recValid (m : Mem) : Bool :=
  decide (Mem.read m recOfs 4 = recMarker) && decide (Mem.read m (recOfs + 0x1C) 4 = recCrc m)

/-- A field of the record: offset, bytes. -/
def recField (m : Mem) (ofs n : Nat) : Nat := Mem.read m (recOfs + ofs) n

/-- Rewrite the record whole (R421). -/
def recWrite (flags eng bank fails stc : Nat) (m : Mem) : Mem :=
  let m1 := Mem.write (recOfs + 4) flags m 4
  let m2 := Mem.write (recOfs + 8) eng m1 4
  let m3 := Mem.write (recOfs + 0xC) bank m2 8
  let m4 := Mem.write (recOfs + 0x14) fails m3 4
  let m5 := Mem.write (recOfs + 0x18) stc m4 4
  let m6 := Mem.write (recOfs + 0x1C) (recCrc m5) m5 4
  Mem.write recOfs recMarker m6 4

/-- The marks in force, as BST_MARK_ENG and BST_MARK_BANK show them. -/
def Chip.markEng (c : Chip) : Nat := (c.rd R.BST_MARK_ENG).toNat
def Chip.markBank (c : Chip) : Nat := c.rd64 R.BST_MARK_BANK_LO R.BST_MARK_BANK_HI

def Chip.setMarks (c : Chip) (eng bank : Nat) : Chip :=
  ((c.wr R.BST_MARK_ENG (BitVec.ofNat 32 (eng % 2 ^ 17))).wr R.BST_MARK_BANK_LO (BitVec.ofNat 32 bank)).wr R.BST_MARK_BANK_HI
    (BitVec.ofNat 32 (bank / 2 ^ 32 % 2 ^ 17))

/-- Rewrite the record with the marks in force and its other fields as they stand. -/
def Chip.saveMarks (c : Chip) : Chip :=
  { c with ret := recWrite (recField c.ret 4 4) c.markEng c.markBank (recField c.ret 0x14 4) (recField c.ret 0x18 4) c.ret }

/-- Mark a unit unusable for the next start (R95, R195, R417, R421). -/
def Chip.markUnit (c : Chip) (u : TestUnit) : Chip :=
  (match u with
    | .engine n => c.setMarks (c.markEng ||| 2 ^ n.val) c.markBank
    | .bank b => c.setMarks c.markEng (c.markBank ||| 2 ^ b.val)).saveMarks

/-- MARK_CLEAR (R422). -/
def Chip.writeMarkClr (c : Chip) (v : Word) : Chip :=
  if v = 0x5A5A then
    let m := c.ret
    { c with ret := recWrite (recField m 4 4 ||| 2) (recField m 8 4) (recField m 0xC 8) (recField m 0x14 4) (recField m 0x18 4) m }
  else c

/-! ## Tests -/

def Chip.setBst (c : Chip) (f : BstSt → BstSt) : Chip := { c with bst := f c.bst }

/-- Is the unit under test? -/
def Chip.testing (c : Chip) (u : TestUnit) : Bool := c.bst.tests.any fun t => decide (t.unit = u)

/-- Draw `n` free values: the first one's number. -/
def Chip.drawMany (c : Chip) (n : Nat) : Nat × Chip := (c.free, { c with free := c.free + n })

/-- What a test leaves of the unit it covers is undefined (R412): free values (assumption 17). -/
def Chip.scramble (c : Chip) : TestUnit → Chip
  | .engine n =>
    let (k0, c1) := c.drawMany (0xC000 + 256 + 16 + 48 + 1024)
    let v := fun (i : Nat) => Config.freeValue (k0 + i)
    let e := c1.engine n.val
    let k := e.core
    let k1 : Core := { k with
      p := KMap.refill 0 0 256 (fun i => BitVec.ofNat 40 (v (0xC000 + i))) k.p
      acc := KMap.refill 0 0 16 (fun i => BitVec.ofNat 72 (v (0xC100 + i))) k.acc
      q := KMap.refill 0 0 48 (fun i => BitVec.ofNat 24 (v (0xC110 + i))) k.q
      scratch := KMap.refill 0 0 1024 (fun i => BitVec.ofNat 32 (v (0xC140 + i))) k.scratch }
    { (c1.setEngine n.val { e with core := k1 }) with
      mem := KMap.refill 0 (0x20000000 + n.val * 0x10000) 0xC000 (fun i => BitVec.ofNat 8 (v i)) c1.mem }
  | .bank b =>
    let (k0, c1) := c.drawMany bankWords
    { c1 with pas := { c1.pas with
        words := KMap.refill 0 (b.val * bankWords) bankWords (fun i => BitVec.ofNat 32 (Config.freeValue (k0 + i))) c1.pas.words
        err := KMap.keep (fun k => !decide (k / bankWords = b.val)) c1.pas.err
        pend := c1.pas.pend.filter fun e => !decide (e.key / bankWords = b.val) } }

/-- A test starts (R412, R418). -/
def Chip.startTest (c : Chip) (u : TestUnit) (src : Nat) : Chip :=
  if c.testing u then c else (c.scramble u).setBst fun b => { b with tests := b.tests ++ [⟨u, src, c.now⟩] }

/-- Expected count and signature (R414). -/
def testExpect : TestUnit → Nat × Nat
  | .engine _ => (201856, 0x5D3A91C4)
  | .bank _ => (1310720, 0x0E7B26F1)

/-- The addresses of a unit's result registers. -/
def resultA : TestUnit → Nat
  | .engine n => R.BST_ENG_A n.val
  | .bank b => R.BST_BANK_A b.val
def resultB : TestUnit → Nat
  | .engine n => R.BST_ENG_B n.val
  | .bank b => R.BST_BANK_B b.val

def Chip.locUnit (c : Chip) : TestUnit → Word
  | .engine n => c.locEng n.val
  | .bank b => locWord 0x3F b.val

/-- The verdict on a count and a signature (R415): `sig_bad`, `cnt_short`. -/
def judgeTest (u : TestUnit) (count : Nat) (sig : Word) : Bool × Bool :=
  (decide (sig.toNat ≠ (testExpect u).2), decide (count ≠ (testExpect u).1))

/-- Write a verdict into the result registers and the tally, and mark a failing unit (R415, R417). -/
def Chip.recordVerdict (c : Chip) (u : TestUnit) (src count : Nat) (sig : Word) : Chip :=
  let (bad, short) := judgeTest u count sig
  let a := 2 ^ 31 + b2n bad * 2 ^ 30 + b2n short * 2 ^ 29 + src % 8 * 2 ^ 25 + count % 2 ^ 21
  let c1 := (c.wr (resultA u) (BitVec.ofNat 32 a)).wr (resultB u) sig
  if bad || short then (c1.bump F.BST_TALLY_fail).markUnit u else c1.bump F.BST_TALLY_pass

/-- BST_FAIL of a unit whose result stands (R415). -/
def Chip.raiseFail (c : Chip) (u : TestUnit) (src : Nat) (bad short : Bool) : Chip :=
  c.raise Ev.BST_FAIL (c.locUnit u) (BitVec.ofNat 32 (src % 8 + 8 * b2n bad + 16 * b2n short))

/-- CLK_SE cycles of a test to its completion and to its deadline (R413). -/
def testCycles : TestUnit → Nat
  | .engine _ => 201920
  | .bank _ => 655424
def testLimit : TestUnit → Nat
  | .engine _ => 262144
  | .bank _ => 1048576

/-- A running test ends with a verdict (R415). -/
def Chip.endTest (c : Chip) (t : RunTest) (count : Nat) (sig : Word) : Chip :=
  let (bad, short) := judgeTest t.unit count sig
  let c1 := (c.setBst fun b => { b with
    tests := b.tests.filter fun x => !decide (x.unit = t.unit)
    shutFails := if t.src = 4 && (bad || short) then b.shutFails + 1 else b.shutFails
    verdicts := b.verdicts ++ [⟨t.unit, !(bad || short), false⟩] }).recordVerdict t.unit t.src count sig
  if bad || short then c1.raiseFail t.unit t.src bad short else c1

/-- TEST_COMPLETE (R413, R415): the last pattern is done, no sooner than a test takes and before its deadline. -/
def Chip.testComplete (c : Chip) (u : TestUnit) (count : Nat) (sig : Word) : Chip :=
  match c.bst.tests.find? fun t => decide (t.unit = u) with
  | none => c
  | some t =>
    if t.start + 4 * testLimit u < c.now then c else (c.advanceTo (t.start + 4 * testCycles u)).endTest t count sig

/-- TEST_DEADLINE (R413, R415): the test has not completed by its deadline. -/
def Chip.testDeadline (c : Chip) (u : TestUnit) (count : Nat) (sig : Word) : Chip :=
  match c.bst.tests.find? fun t => decide (t.unit = u) with
  | none => c
  | some t => (c.advanceTo (t.start + 4 * testLimit u)).endTest t count sig

/-- Every test under way is abandoned (R416): the results stay, `abandoned` sets. -/
def Chip.abandonTests (c : Chip) : Chip :=
  c.bst.tests.foldl (fun c t => c.wr (resultA t.unit) (c.rd (resultA t.unit) ||| 0x10000000))
    (c.setBst fun b => { b with tests := [] })

/-! ## State changes after a verdict (R95, R195, R417) -/

/-- Has a failing verdict on the unit been given whose state change is still to come (R417)? -/
def Chip.failPending (c : Chip) (u : TestUnit) : Bool := c.bst.verdicts.any fun v => decide (v.unit = u) && !v.pass

/-- The spare engine as SE_ROT_STAT shows it. -/
def Chip.spareEngine (c : Chip) : Option (Fin 17) :=
  let s := c.get F.SE_ROT_STAT_spare
  if h : s < 17 then some ⟨s, h⟩ else none
def Chip.spareBank (c : Chip) : Option (Fin 49) :=
  let s := c.get F.PAS_ROT_STAT_spare
  if h : s < 49 then some ⟨s, h⟩ else none

/-- An engine becomes the spare. -/
def Chip.makeSpare (c : Chip) (n : Nat) : Chip :=
  ((c.put (F.SE_STAT_state n) seSpare).put (F.FOLD_ENGINE_status n) 2).put F.SE_ROT_STAT_spare n

/-- An engine passes (R92, R94, R418): one in TEST becomes the spare, and a mismatch makes the role's claim. -/
def Chip.enginePass (c : Chip) (n : Nat) : Chip :=
  if c.seState n ≠ seTest then c
  else
    let c1 := (c.makeSpare n).put F.SE_ROT_STAT_phase 0
    { c1 with rot := { c1.rot with
        claims := match c1.rot.mism with
          | some r => c1.rot.claims ++ [(r, n)]
          | none => c1.rot.claims
        mism := none } }

/-- An engine fails (R95, R417): where it was the spare, or had been released and no load has placed a spare since, the highest IDLE
engine becomes the spare, else rotation stops. -/
def Chip.engineFail (c : Chip) (n : Nat) : Chip :=
  let was := c.seState n
  let c1 := ((((c.put (F.SE_STAT_state n) seUnusable).put (F.FOLD_ENGINE_status n) 3).latch (F.SE_FAULT_unusable n)).raise
    Ev.SE_ENGINE_UNUSABLE (c.locEng n) 0)
  let spare := decide (c.get F.SE_ROT_STAT_spare = n)
  if was ≠ seTest && !spare then c1
  else
    let c2 := if was = seTest then { (c1.put F.SE_ROT_STAT_phase 0) with rot := { c1.rot with mism := none } } else c1
    let c3 := if spare then c2.put F.SE_ROT_STAT_spare 0x1F else c2
    if c3.spareEngine.isSome then c3 else
    match ((List.range 17).filter fun i => decide (c3.seState i = seIdle)).getLast? with
    | some i => c3.makeSpare i
    | none => ((c3.put F.SE_ROT_STAT_stopped 1).put F.SE_ROT_STAT_spare 0x1F).raise Ev.SE_ROT_STOP locNone 0

/-- A bank passes (R192): it becomes the spare bank. -/
def Chip.bankPass (c : Chip) (b : Nat) : Chip :=
  if c.get (F.FOLD_BANK_status b) ≠ 0 then c
  else ((c.put (F.FOLD_BANK_status b) 2).put F.PAS_ROT_STAT_spare b).put F.PAS_ROT_STAT_phase 0

/-- A bank fails (R195): rotation stops where no spare bank remains. -/
def Chip.bankFail (c : Chip) (b : Nat) : Chip :=
  let c1 := ((c.put (F.FOLD_BANK_status b) 3).put F.PAS_ROT_STAT_phase 0).raise Ev.PAS_BANK_UNUSABLE (locWord 0x3F b) 0
  if c1.spareBank.any fun s => decide (s.val ≠ b) then c1
  else ((c1.put F.PAS_ROT_STAT_spare 0x3F).put F.PAS_ROT_STAT_stopped 1).raise Ev.PAS_ROT_STOP locNone 0

/-- TEST_STATE_CHANGE (R417): at the first frame boundary after the verdict. -/
def Chip.testStateChange (c : Chip) (u : TestUnit) : Chip :=
  match c.bst.verdicts.find? fun v => decide (v.unit = u) && v.due with
  | none => c
  | some v =>
    let c1 := c.setBst fun b => { b with verdicts := b.verdicts.filter fun x => !decide (x.unit = u) }
    match u, v.pass with
    | .engine n, true => c1.enginePass n.val
    | .engine n, false => c1.engineFail n.val
    | .bank b, true => c1.bankPass b.val
    | .bank b, false => c1.bankFail b.val

/-! ## Tests in service (R418, R419) -/

/-- Is now a superframe boundary with the controller out of reset? -/
def Chip.onSuperframe (c : Chip) : Bool := c.atBoundary 384

/-- The engines that are IDLE and not under test, in the order of R418. -/
def Chip.idleOrder (c : Chip) : List Nat :=
  let idle := (List.range 17).filter fun n =>
    decide (c.seState n = seIdle) && !(c.bst.tests.any fun t => match t.unit with
      | .engine m => decide (m.val = n)
      | .bank _ => false)
  match c.bst.lastIdle with
  | none => idle
  | some l => (idle.filter fun n => decide (l < n)) ++ (idle.filter fun n => decide (n ≤ l))

/-- Does an idle engine's test run? -/
def Chip.idleTestRuns (c : Chip) : Bool := c.bst.tests.any fun t => match t.unit with
  | .engine n => decide (c.seState n.val = seIdle)
  | .bank _ => false

/-- IDLE_TEST_START (R418, R419). -/
def Chip.idleTestStart (c : Chip) : Chip :=
  if !c.onSuperframe || c.get F.SHP_STAT_phase ≠ 3 || c.idleTestRuns || decide (2 ≤ c.get F.BST_STAT_shut) then c
  else
    match c.bst.reqEng.filter fun n => c.idleOrder.contains n.val with
    | some n => (c.setBst fun b => { b with reqEng := none }).startTest (.engine n) 3
    | none =>
      if !c.bit F.BST_CTRL_idle_en then c
      else
        match c.idleOrder with
        | [] => c
        | n :: _ => (c.setBst fun b => { b with lastIdle := some n }).startTest (.engine (Fin.ofNat 17 n)) 2

/-- SPARE_TEST_START (R418): a requested test of the spare engine or bank. -/
def Chip.spareTestStart (c : Chip) (bank : Bool) : Chip :=
  if !c.onSuperframe || decide (2 ≤ c.get F.BST_STAT_shut) then c
  else if bank then
    match c.bst.reqBank with
    | some b =>
      if c.spareBank = some b ∧ c.pas.mirror = none then
        (((c.setBst fun x => { x with reqBank := none }).put (F.FOLD_BANK_status b) 0).put F.PAS_ROT_STAT_spare 0x3F).startTest
          (.bank b) 3
      else c
    | none => c
  else
    match c.bst.reqEng with
    | some n =>
      if c.seState n = seSpare ∧ c.rot.cur = none then
        ((((c.setBst fun x => { x with reqEng := none }).put (F.SE_STAT_state n) seTest).put (F.FOLD_ENGINE_status n) 0).put
          F.SE_ROT_STAT_spare 0x1F).startTest (.engine n) 3
      else c
    | none => c

/-- A request for engine `n` or bank `n` (R419). -/
def Chip.askTest (c : Chip) (bank : Bool) (n : Nat) : Chip :=
  if bank then
    if 48 < n ∨ c.get (F.FOLD_BANK_status n) = 3 then c.latch F.BST_REQ_ref
    else if c.testing (.bank (Fin.ofNat 49 n)) then c
    else c.setBst fun b => { b with reqBank := some (Fin.ofNat 49 n) }
  else if 16 < n then c.latch F.BST_REQ_ref
  else
    let st := c.seState n
    if st = seStopped ∨ st = seArmed ∨ st = seUnusable then c.latch F.BST_REQ_ref
    else if c.testing (.engine (Fin.ofNat 17 n)) then c
    else c.setBst fun b => { b with reqEng := some (Fin.ofNat 17 n) }

/-- A write of BST_REQ (R419). -/
def Chip.writeTestReq (c : Chip) (v : Word) : Chip :=
  let c1 := (c.put F.BST_REQ_unit (F.BST_REQ_unit.of v)).put F.BST_REQ_bank (F.BST_REQ_bank.of v)
  let c2 := if F.BST_REQ_ref.ofB v then c1.w1c F.BST_REQ_ref else c1
  if F.BST_REQ_go.ofB v then c2.askTest (F.BST_REQ_bank.ofB v) (F.BST_REQ_unit.of v) else c2

/-- BST_REQ with its derived `go`. -/
def Chip.readTestReq (c : Chip) : Word :=
  F.BST_REQ_go.ins (c.rd R.BST_REQ) (b2n (if c.bit F.BST_REQ_bank then c.bst.reqBank.isSome else c.bst.reqEng.isSome))

/-! ## The shutdown test's request -/

/-- The superframe boundary after now; one later where it is the boundary H of a handover that has passed D (R70, R425, R431). -/
def Chip.clearBoundary (c : Chip) (t : Nat) : Nat :=
  match c.rot.cur with
  | some (_, _, _, h) => if h = t then t + 384 else t
  | none => t

/-- May the requester ask for the shutdown test: the host, or the crook at the privileged level (R425)? -/
def Chip.mayShutdown (c : Chip) : Req → Bool
  | .host => true
  | .crook => c.crook.mode.getLsbD 0
  | .dma _ => false

/-- A write of BST_SHUTDOWN (R425). -/
def Chip.writeShutdown (c : Chip) (r : Req) (v : Word) : Chip :=
  let c1 := if F.BST_SHUTDOWN_ref.ofB v then c.w1c F.BST_SHUTDOWN_ref else c
  let shut := c1.get F.BST_STAT_shut
  if !F.BST_SHUTDOWN_go.ofB v || !c1.mayShutdown r then c1
  else if c1.get F.FOLD_STAT_state ≠ 0 || shut = 1 || shut = 2 then c1.latch F.BST_SHUTDOWN_ref
  else ((c1.put F.BST_STAT_shut 1).put F.BST_SHUTDOWN_go 1).setBst fun b =>
    { b with zAt := c1.clearBoundary c1.nextSuperframe, shutFails := 0 }

/-- SHUTDOWN_END (R425, R426): after the last verdict the record is rewritten with `shut`. -/
def Chip.shutdownEnd (c : Chip) : Chip :=
  if c.get F.BST_STAT_shut ≠ 2 || !c.bst.tests.isEmpty then c
  else
    let fails := c.bst.shutFails
    let flags := (recField c.ret 4 4 ||| 1)
    let c1 := { c with ret := recWrite flags c.markEng c.markBank fails (c.time.stc % 2 ^ 32) c.ret }
    (((c1.put F.BST_STAT_shut 3).put F.BST_SHUTDOWN_go 0).put F.FOLD_STAT_loaded 0).raise Ev.BST_DONE locNone
      (BitVec.ofNat 32 (fails % 256 + 256))

end Sys2Proof.Machine
end

