-- ==== Sys2Proof/Machine/Pasture.lean ====
section
/-! DEFINITION. Pasture.lean: scrubbing, the gap slots' sweep and scrub requests, and bank rotation (R182, R186, R191 to R196).
Window requests in gap slots are delivered in Window.lean. -/

namespace Sys2Proof.Machine

def Chip.setPas (c : Chip) (f : PasSt → PasSt) : Chip := { c with pas := f c.pas }

/-- The logical banks that a physical bank holds. -/
def Chip.mappedBanks (c : Chip) : List Nat := (List.range 48).filter fun lb => (c.physOf lb).isSome

/-- The interval of the scrubber's requests in root cycles (R182): 16 × `per` CLK_SE cycles; 0 acts as 1. -/
def Chip.scrubStep (c : Chip) : Nat := 64 * max (c.get F.PAS_SCRUB_per) 1

/-- A write of PAS_SCRUB (R182): one that sets `en` makes the next request fall due an interval later; while `en` = 0 none does. -/
def Chip.writeScrub (c : Chip) (v : Word) : Chip :=
  let was := c.bit F.PAS_SCRUB_en
  let c1 := c.plainWrite R.PAS_SCRUB v
  if !c1.bit F.PAS_SCRUB_en then c1.setPas fun p => { p with scrubAt := none }
  else if was then c1
  else c1.setPas fun p => { p with scrubAt := some (c1.now + c1.scrubStep) }

/-- SCRUB_REQUEST (R182): time moves to the instant at which the train's next request falls due, where no frame boundary lies before it; a
row read falls due in every bank, and one not yet served is not doubled. -/
def Chip.scrubRequest (c : Chip) : Chip :=
  match c.pas.scrubAt with
  | none => c
  | some t =>
    if !c.bit F.PAS_SCRUB_en || c.fold.zeroing || decide (c.boundaryRoot < t) then c
    else
      let c1 := c.advanceTo t
      c1.setPas fun p => { p with
        scrubAt := some (t + c1.scrubStep)
        scrubReq := p.scrubReq ++ c1.mappedBanks.filter fun lb => !p.scrubReq.contains lb }

/-- The scrubber reads one word (R180 to R182): a corrected one waits for its write-back. -/
def Chip.scrubWord (c : Chip) (k lb b w : Nat) : Chip :=
  let key := b * bankWords + w
  let (_, good, c1) := c.pasRead 2 k lb b w
  if good && decide (c.pas.errAt k key = 1) then
    c1.setPas fun p => { p with scrubBack := p.scrubBack ++ [key] }
  else c1

/-- A grant to the scrubber (R182, R186): a write-back that waits in the bank, skipped where the word has been written since, else
the next row. -/
def Chip.grantScrub (c : Chip) (k lb b : Nat) : Chip :=
  match c.pas.scrubBack.find? fun x => decide (x / bankWords = b) with
  | some x =>
    let written := c.pas.pend.any fun e => decide (e.key = x ∧ e.cyc < Int.ofNat k)
    let c1 := c.setPas fun p => { p with scrubBack := p.scrubBack.filter fun y => !decide (y = x) }
    if written || decide (c.pas.errAt k x ≠ 1) then c1 else c1.pasWrite k lb b (x % bankWords) (c.pas.readAt k x)
  | none =>
    let row := KMap.get 0 lb c.pas.scrubRow
    let c1 := (c.scrubWord k lb b (2 * row)).scrubWord k lb b (2 * row + 1)
    c1.setPas fun p => { p with
      scrubReq := p.scrubReq.filter fun y => !decide (y = lb)
      scrubRow := KMap.set 0 lb ((row + 1) % 65536) p.scrubRow }

/-- The sweep copies one word of P into S (R193, R194): beneath what write-through carries. -/
def Chip.sweepWord (c : Chip) (k : Nat) (m : Mirror) (w : Nat) : Chip :=
  let src := m.p.val * bankWords + w
  let dst := m.s.val * bankWords + w
  let e := c.pas.errAt k src
  let v := c.pas.readAt k src
  let (_, _, c1) := c.pasRead 3 k m.lb m.p w
  c1.setPas fun p => { p with
    words := KMap.set 0 dst v p.words
    err := KMap.set 0 dst (if e = 2 then 2 else 0) p.err }

/-- A grant to the sweep at bank cycle `k` (R192): one row; the last one fixes the boundary of the swap. -/
def Chip.grantSweep (c : Chip) (k : Nat) (m : Mirror) : Chip :=
  let c1 := (c.sweepWord k m (2 * m.row)).sweepWord k m (2 * m.row + 1)
  let m1 : Mirror := { m with row := m.row + 1, wait := if k + 2 < c.frameCycles then 1 else 2 }
  let c2 := (c1.setPas fun p => { p with mirror := some m1 }).put F.PAS_ROT_PROG_rows m1.row
  if m1.row = 65536 then c2.put F.PAS_ROT_STAT_phase 2 else c2

/-- The sweep of a logical bank, where it still has rows to copy. -/
def PasSt.sweeping (p : PasSt) (lb : Nat) : Option Mirror :=
  p.mirror.filter fun m => decide (m.lb = lb) && decide (m.row < 65536)

/-- Which of the requesters W, M, C (0, 1, 2) has something pending for a bank (R186). -/
def Chip.gapPending (c : Chip) (lb b : Nat) (cls : Nat) : Bool :=
  if cls = 0 then c.pas.queue.any fun q => decide (q.1 / bankWords = lb)
  else if cls = 1 then (c.pas.sweeping lb).isSome
  else c.pas.scrubReq.contains lb || c.pas.scrubBack.any fun x => decide (x / bankWords = b)

/-- The requester that the round robin grants (R186). -/
def Chip.gapPick (c : Chip) (lb b : Nat) : Option Nat :=
  let last := KMap.get 2 lb c.pas.lastGrant
  ([last + 1, last + 2, last + 3].map (· % 3)).find? (c.gapPending lb b)

/-- Is bank cycle `k` a gap slot of logical bank `lb` in which requests are served (R59, R183, R187)? -/
def Chip.gapOpen (c : Chip) (lb k : Nat) : Bool :=
  !c.fold.zeroing && decide (c.pas.sched[16 * lb + k % 16]? = some 0xFF) && decide (k < c.frameCycles)

/-! ## Bank rotation -/

/-- Ticks from one STC to a later one. -/
def stcSince (now before : Nat) : Nat := (now + 2 ^ 64 - before % 2 ^ 64) % 2 ^ 64

/-- The logical bank that the next rotation releases (R191, R419). -/
def Chip.nextLogical (c : Chip) : Nat :=
  let req := match c.bst.reqBank with
    | some b => (List.range 48).filter fun lb => decide (c.physOf lb = some b.val)
    | none => []
  let unc := (List.range 48).filter fun lb =>
    (if lb < 32 then bitAt (c.rd R.PAS_UNC_LB_LO).toNat lb else bitAt (c.rd R.PAS_UNC_LB_HI).toNat (lb - 32)) || req.contains lb
  match unc with
  | lb :: _ => lb
  | [] => match c.pas.lastLb with
    | none => 0
    | some l => (l + 1) % 48

/-- MIRROR_START (R191, R192). -/
def Chip.mirrorStart (c : Chip) : Chip :=
  let per := max (c.get F.PAS_ROT_CTRL_per) 1
  if !c.onSuperframe || !c.bit F.FOLD_STAT_loaded || !c.bit F.PAS_ROT_CTRL_en || c.bit F.PAS_ROT_STAT_stopped ||
      decide (c.get F.FOLD_STAT_state ≠ 0) || c.pas.mirror.isSome || decide (c.get F.PAS_ROT_STAT_phase = 3) ||
      decide (stcSince c.time.stc c.pas.lastH < per * 384) || decide (c.get F.BST_STAT_shut = 2) then c
  else
    let lb := c.nextLogical
    match c.physOf lb, c.spareBank with
    | some p, some s =>
      ((((c.setPas fun x => { x with mirror := some ⟨lb, Fin.ofNat 49 p, s, 0, 0⟩, lastLb := some lb }).put F.PAS_ROT_STAT_phase 1).put
        F.PAS_ROT_STAT_from p).put F.PAS_ROT_STAT_logical lb).put F.PAS_ROT_PROG_rows 0
    | _, _ => c

/-- BANK_SWAP (R192, R418): L maps to S, and P is under test. -/
def Chip.bankSwap (c : Chip) : Chip :=
  match c.pas.mirror with
  | none => c
  | some m =>
    if !c.onBoundary || m.row < 65536 || m.wait ≠ 0 then c
    else
      let unc := fun (c : Chip) => if m.lb < 32 then c.wr R.PAS_UNC_LB_LO (c.rd R.PAS_UNC_LB_LO &&& ~~~BitVec.ofNat 32 (2 ^ m.lb))
        else c.wr R.PAS_UNC_LB_HI (c.rd R.PAS_UNC_LB_HI &&& ~~~BitVec.ofNat 32 (2 ^ (m.lb - 32)))
      let c1 := (c.setPas fun p => { p with mirror := none, lastH := c.time.stc }).wr (R.FOLD_BANK m.p) 0
      let c2 := ((c1.put (F.FOLD_BANK_status m.s) 1).put (F.FOLD_BANK_logical m.s) m.lb).incr F.PAS_ROT_COUNT_count
      let c3 := (unc ((c2.put F.PAS_ROT_STAT_phase 3).put F.PAS_ROT_STAT_spare 0x3F))
      let req := decide (c.bst.reqBank = some m.p)
      (c3.setBst fun b => { b with reqBank := if req then none else b.reqBank }).startTest (.bank m.p)
        (if req then 3 else 1)

/-- A mirror under way is abandoned (R196): write-through stops and L stays on P. -/
def Chip.dropMirror (c : Chip) : Chip :=
  match c.pas.mirror with
  | none => c
  | some _ => (c.setPas fun p => { p with mirror := none }).put F.PAS_ROT_STAT_phase 0

/-! ## At a frame boundary -/

/-- A new frame of bank cycles begins after one of `n`: what its first bank cycle reads stands in the banks, and later writes go on by
their cycle (R179). -/
def PasSt.nextFrame (p : PasSt) (n : Nat) : PasSt :=
  let keys := (p.pend.map (·.key)).eraseDups
  { p with
    words := keys.foldl (fun m x => KMap.set 0 x (p.readAt n x) m) p.words
    err := keys.foldl (fun m x => KMap.set 0 x (p.errAt n x) m) p.err
    pend := (p.pend.filter fun e => decide (Int.ofNat n < e.cyc + 2)).map fun e => { e with cyc := e.cyc - Int.ofNat n } }

/-- At a frame boundary the bank cycles start again, and a swap that waits comes one boundary nearer. -/
def Chip.pasBoundary (c : Chip) : Chip :=
  c.setPas fun p => { (p.nextFrame c.frameCycles) with mirror := p.mirror.map fun m => { m with wait := m.wait - 1 } }

/-- Relay writes of the frame stand (R83, R84): in order of cycle, and of two in one cycle the highest role's. -/
def Chip.relayBoundary (c : Chip) : Chip :=
  let keys := (c.pas.relayPend.map (·.2.1)).eraseDups
  c.setPas fun p => { p with
    relay := keys.foldl (fun m k => KMap.set 0 k (p.relayAt 100000 k) m) p.relay
    relayPend := [] }

/-- The sample pointers move on (R188). -/
def Chip.movePointers (c : Chip) : Chip :=
  (List.range c.pas.pads.length).foldl (fun c i =>
    match c.pas.pads[i]? with
    | some p => c.put (F.PAS_SP_sp i) ((c.get (F.PAS_SP_sp i) + p.length - 1) % p.length)
    | none => c) c

end Sys2Proof.Machine
end

