-- ==== Sys2Proof/Machine/Rotation.lean ====
section
/-! DEFINITION. Rotation.lean: engine control, the frame's start and forced end, and engine rotation (R74 to R97). -/

namespace Sys2Proof.Machine

/-! ## Frames of an engine -/

/-- The engine starts its frame at address 0 (R75). -/
def Core.startFrame (k : Core) : Core :=
  { k with pc := 0, wd := 0, lc := [], slot := .none, cyc := 0, ended := false }

/-- Writes issued in the frame that ends have landed by the end of the drain (R79). -/
def Core.drain (k : Core) (cyc : Nat) : Core := { k.landTo (cyc + 8) with pend := [] }

/-- A request to stop (R86) in the frame in progress: the boundaries to pass, plus one. -/
def Chip.reqDelay (c : Chip) : Nat := if c.tailCycle ≤ c.seCycle then 3 else 2

/-- The role of an engine that holds one (R85). -/
def Chip.heldRole (c : Chip) (n : Nat) : Option Nat :=
  let st := c.seState n
  if st = seStopped ∨ st = seArmed ∨ st = seRunning then some (c.get (F.SE_STAT_role n)) else none

/-- The engine that holds a role. -/
def Chip.holder (c : Chip) (r : Nat) : Option Nat := (List.range 17).find? fun n => decide (c.heldRole n = some r)

/-- A stop of role r written before the tail of H cancels its handover (R96). -/
def Chip.cancelHandover (c : Chip) (r : Nat) : Chip :=
  match c.rot.cur with
  | some (r', _, _, h) =>
    if r' = r ∧ c.now < h * rootPerTick + 4 * c.tailCycle then { c with rot := { c.rot with cancel := true } } else c
  | none => c

/-- `stop_req` (R86, R88): no effect on a STOPPED role. -/
def Chip.askRoleStop (c : Chip) (n : Nat) : Chip :=
  match c.heldRole n with
  | none => c.latch (F.SE_STAT_rej n)
  | some r =>
    if c.get F.FOLD_STAT_state = 3 then (c.setEngine n { c.engine n with stopIn := 2 }).put (F.SE_CTRL_stop_req n) 1
    else if c.seState n = seStopped then c
    else
      let c1 := if (c.engine n).stopIn = 0 then c.setEngine n { c.engine n with stopIn := c.reqDelay } else c
      (c1.put (F.SE_CTRL_stop_req n) 1).cancelHandover r

/-- `run_req` (R86, R87): a STOPPED role is ARMED; no effect on an ARMED or RUNNING one. -/
def Chip.askRoleRun (c : Chip) (n : Nat) : Chip :=
  match c.heldRole n with
  | none => c.latch (F.SE_STAT_rej n)
  | some _ =>
    if c.seState n ≠ seStopped then c
    else ((c.setEngine n { c.engine n with runIn := c.reqDelay }).put (F.SE_CTRL_run_req n) 1).put (F.SE_STAT_state n) seArmed

/-- `clr` (R89). -/
def Chip.askClear (c : Chip) (n : Nat) : Chip :=
  if c.seState n = seStopped then c.put (F.SE_CTRL_clr n) 1 else c.latch (F.SE_STAT_rej n)

/-- A write of SE_CTRL (R86, R89). Where several of its bits are 1 they act in the order `run_req`, `stop_req`, `clr` (DESIGN CHOICE;
assumption 127). -/
def Chip.writeSeCtrl (c : Chip) (n : Nat) (v : Word) : Chip :=
  let c0 := c.put (F.SE_CTRL_ovr_stop n) ((F.SE_CTRL_ovr_stop n).of v)
  let c1 := if (F.SE_CTRL_run_req n).ofB v then c0.askRoleRun n else c0
  let c2 := if (F.SE_CTRL_stop_req n).ofB v then c1.askRoleStop n else c1
  if (F.SE_CTRL_clr n).ofB v then c2.askClear n else c2

/-- The state that `clr` clears (R89). -/
def Core.cleared (k : Core) : Core :=
  { k with p := [], acc := [], q := [], fl := 0, lc := [], ls := [], le := [], scratch := [], outw := [] }

/-- ENGINE_CLEAR_DONE (R89). -/
def Chip.clearDone (c : Chip) (n : Nat) : Chip :=
  if !c.bit (F.SE_CTRL_clr n) then c
  else (c.setEngine n { c.engine n with core := (c.engine n).core.cleared }).put (F.SE_CTRL_clr n) 0

/-- Does the engine run a frame: RUNNING, or the spare in TWIN? -/
def Chip.runs (c : Chip) (n : Nat) : Bool := decide (c.seState n = seRunning) || decide (c.seState n = seTwin)

/-- The forced end of an engine that has not issued `fend` by the first tail cycle (R77). -/
def Chip.forceEnd (c : Chip) (n : Nat) : Chip :=
  if !c.runs n || (c.engine n).core.ended then c
  else
    let c0 := c.advanceTo (c.cycleRoot c.tailCycle)
    let e := c0.engine n
    let c1 := c0.setEngine n { e with core := { e.core with ended := true } }
    let c2 := (((c1.noteCycle n c.tailCycle).latch (F.SE_FAULT_ovr n)).bump (F.SE_OVR_CNT_count n)).raise Ev.SE_OVERRUN
      (c.locEng n) 0
    if c2.bit (F.SE_CTRL_ovr_stop n) then c2.askRoleStop n else c2

/-- What a seed loads (R149): zero loads as 1. -/
def seedOf (v : Word) : Word := if v = 0 then 1 else v

/-- ROLE_START (R86, R87): at its boundary an armed role loads its seed and starts; a stop due at the same boundary stands. -/
def Chip.roleStart (c : Chip) (n : Nat) : Chip :=
  let e := c.engine n
  if c.seState n ≠ seArmed ∨ e.runIn ≠ 1 ∨ e.stopIn = 1 then c
  else
    let k := { e.core.startFrame with g := seedOf (c.rd (R.SE_SEED n)), pend := [] }
    ((c.setEngine n { e with core := k, runIn := 0 }).put (F.SE_STAT_state n) seRunning).put (F.SE_CTRL_run_req n) 0

/-- ROLE_STOP (R88): at its boundary a role stops; its output words have left and are cleared. -/
def Chip.roleStop (c : Chip) (n : Nat) : Chip :=
  let e := c.engine n
  if (c.heldRole n).isNone ∨ e.stopIn ≠ 1 then c
  else (((c.setEngine n ⟨{ e.core with outw := [], ended := true }, 0, 0⟩).put (F.SE_STAT_state n) seStopped).put
    (F.SE_CTRL_run_req n) 0).put (F.SE_CTRL_stop_req n) 0

/-- A request comes one boundary nearer. -/
def oneNearer (k : Nat) : Nat := if 2 ≤ k then k - 1 else k

/-! ## Rotation -/

/-- Does a role qualify for a rotation (R91)? -/
def Chip.qualifies (c : Chip) (r : Nat) : Bool :=
  match c.holder r with
  | some n => decide (c.seState n = seRunning) && decide ((c.engine n).stopIn = 0)
  | none => false

/-- Is an engine in TEST? -/
def Chip.someTest (c : Chip) : Bool := (List.range 17).any fun n => decide (c.seState n = seTest)

/-- The role that a due rotation releases (R91, R94, R419): a qualifying claim, the oldest of several (DESIGN CHOICE; assumption 128), a
requested engine's role, or the next one. -/
def Chip.pickRole (c : Chip) : Option Nat :=
  match c.rot.claims.find? fun x => c.qualifies x.1 with
  | some x => some x.1
  | none =>
    let q := (List.range 17).filter c.qualifies
    match (c.bst.reqEng.bind fun n => c.heldRole n).filter fun r => q.contains r with
    | some r => some r
    | none =>
      match c.rot.lastRole with
      | none => q.head?
      | some l => match q.find? fun r => decide (l < r) with
        | some r => some r
        | none => q.head?

/-- Does a claim make a rotation due, whatever `per` holds (R94): its E is SPARE and its role qualifies? -/
def Chip.claimDue (c : Chip) : Bool := c.rot.claims.any fun x => c.qualifies x.1 && decide (c.seState x.2 = seSpare)

/-- ROTATION_DUE (R91). -/
def Chip.rotationDue (c : Chip) : Chip :=
  let per := max (c.get F.SE_ROT_CTRL_per) 1
  if !c.onSuperframe || !c.bit F.FOLD_STAT_loaded || !c.bit F.SE_ROT_CTRL_en || decide (c.get F.FOLD_STAT_state ≠ 0) ||
      c.rot.cur.isSome || c.someTest || decide (c.get F.BST_STAT_shut = 2) ||
      !(c.claimDue || decide (per * 384 ≤ stcSince c.time.stc c.rot.lastH)) then c
  else
    match c.spareEngine.filter (fun (s : Fin 17) => decide (c.seState s.val = seSpare)), c.pickRole with
    | some s, some r =>
      match c.holder r with
      | some e =>
        (({ c with rot := { c.rot with
            cur := some (r, Fin.ofNat 17 e, s, c.time.stc + 384)
            cancel := false } }.put F.SE_ROT_STAT_role r).put
          F.SE_ROT_STAT_from e).put F.SE_ROT_STAT_phase 1
      | none => c
    | _, _ => c

/-- PROGRAM_COPY at boundary H − 2 (R92). -/
def Chip.programCopy (c : Chip) : Chip :=
  match c.rot.cur with
  | some (_, e, s, h) =>
    if !c.onBoundary || c.rot.cancel || c.time.stc + 2 * c.frameTicks ≠ h || c.seState s ≠ seSpare then c
    else
      let m := KMap.refill 0 (0x20000000 + s * 0x10000) 0xC000 (fun i => c.mem.byte (0x20000000 + e * 0x10000 + i)) c.mem
      ({ c with mem := m }.put (F.SE_STAT_state s) sePrep).put F.SE_ROT_STAT_phase 2
  | none => c

/-- SCRATCH_MIRROR at boundary H − 1 (R92). The scratch writes of the frame follow with the state copy. -/
def Chip.scratchMirror (c : Chip) : Chip :=
  match c.rot.cur with
  | some (_, e, s, h) =>
    if !c.onBoundary || c.rot.cancel || c.time.stc + c.frameTicks ≠ h || c.seState s ≠ sePrep then c
    else
      let k := (c.engine s).core
      (c.setEngine s { c.engine s with core := { k with scratch := (c.engine e).core.scratch } }).put F.SE_ROT_STAT_phase 3
  | none => c

/-- STATE_COPY in the tail of H − 1, after the drain (R79, R92). -/
def Chip.stateCopy (c : Chip) : Chip :=
  match c.rot.cur with
  | some (_, e, s, h) =>
    if c.rot.cancel || c.get F.SE_ROT_STAT_phase ≠ 3 || decide (h ≤ c.time.stc) then c
    else
      let c0 := (c.forceEnd e).advanceTo (c.cycleRoot (c.tailCycle + 8))
      let k := (c0.engine e).core.drain c.tailCycle
      let c1 := c0.setEngine e { c0.engine e with core := k }
      let t := (c1.engine s).core
      c1.setEngine s { c1.engine s with core := { t with
        p := k.p, acc := k.acc, q := k.q, fl := k.fl, wd := k.wd, lc := k.lc, ls := k.ls, le := k.le, g := k.g
        outw := k.outw, scratch := k.scratch } }
  | none => c

/-- TWIN_FRAME_START at H (R92): both engines start at address 0 with the same input words. -/
def Chip.twinStart (c : Chip) : Chip :=
  match c.rot.cur with
  | some (_, e, s, h) =>
    if !c.onBoundary || c.rot.cancel || c.time.stc ≠ h || c.seState s ≠ sePrep then c
    else
      let k := (c.engine s).core.startFrame
      let c1 := c.setEngine s ⟨{ k with inw := (c.engine e).core.inw, pend := [] }, 0, 0⟩
      ({ c1 with rot := { c1.rot with storesE := [], storesS := [], readsE := [] } }.put (F.SE_STAT_state s) seTwin).put
        F.SE_ROT_STAT_phase 4
  | none => c

/-- The first of the stores that stand in one record and not in the other (R93). -/
def firstDiff (a b : List (Nat × Nat × Nat × Nat)) : Option (Nat × Nat × Nat × Nat) :=
  let d := (a.filter fun x => !b.contains x) ++ (b.filter fun x => !a.contains x)
  d.foldl (fun m x => match m with
    | none => some x
    | some y => if x.1 < y.1 then some x else some y) none

/-- TWIN_COMPARE at cycle T + 8 of frame H (R92 to R94). -/
def Chip.twinCompare (c : Chip) : Chip :=
  match c.rot.cur with
  | some (r, e, s, h) =>
    if c.rot.cancel || c.get F.SE_ROT_STAT_phase ≠ 4 || decide (c.time.stc < h) then c
    else
      let c0 := ((c.forceEnd e).forceEnd s).advanceTo (c.cycleRoot (c.tailCycle + 8))
      let ke := (c0.engine e).core.drain c.tailCycle
      let ks := (c0.engine s).core.drain c.tailCycle
      let c1 := (c0.setEngine e { c0.engine e with core := ke }).setEngine s { c0.engine s with core := ks }
      let out := (List.range 64).find? fun i => decide (KMap.get 0 i ke.outw ≠ KMap.get 0 i ks.outw)
      let info := match firstDiff c1.rot.storesE c1.rot.storesS, out with
        | some (cyc, kind, a, _), _ => some (kind, (if kind = 3 then a else 0), cyc)
        | none, some i => some (1, i, c.tailCycle + 8)
        | none, none => none
      let c2 := { c1 with rot := { c1.rot with storesE := [], storesS := [], readsE := [] } }
      match info with
      | none => c2
      | some (kind, index, cyc) =>
        let c3 := { (c2.wr R.SE_TWIN_INFO (BitVec.ofNat 32 (kind * 2 ^ 30 + index % 256 * 2 ^ 16 + cyc % 65536))) with
          rot := { c2.rot with mism := some r } }
        (((c3.latch (F.SE_FAULT_twin e)).latch (F.SE_FAULT_twin s)).raise Ev.SE_TWIN_MISMATCH (c.locEng e) 0).raise
          Ev.SE_TWIN_MISMATCH (c.locEng s) 0
  | none => c

/-- HANDOVER at H + 1 (R92, R418): S carries the role, with the requests that were pending on it (R86); E is under test, by request
unless a claim released the role (R419). The claim ends (R94). -/
def Chip.handover (c : Chip) : Chip :=
  match c.rot.cur with
  | some (r, e, s, h) =>
    if !c.onBoundary || c.rot.cancel || c.time.stc ≠ h + c.frameTicks || c.seState s ≠ seTwin then c
    else
      let ee := c.engine e
      let es := c.engine s
      let c1 := (c.setEngine s ⟨{ es.core with inw := ee.core.inw }, ee.runIn, ee.stopIn⟩).setEngine e ⟨ee.core, 0, 0⟩
      let fl := c.get (F.SE_STAT_flock e)
      let c2 := (((c1.put (F.SE_STAT_state s) seRunning).put (F.SE_STAT_role s) r).put (F.SE_STAT_flock s) fl).wr
        (R.FOLD_ENGINE s) (BitVec.ofNat 32 (2 ^ 14 + fl * 256 + r))
      let c3 := (((c2.put (F.SE_STAT_state e) seTest).put (F.SE_STAT_role e) 0).put (F.SE_STAT_flock e) 0).wr (R.FOLD_ENGINE e) 0
      let c4 := ((c3.put (F.SE_CTRL_stop_req s) (c.get (F.SE_CTRL_stop_req e))).put (F.SE_CTRL_run_req s)
        (c.get (F.SE_CTRL_run_req e)))
      let c5 := (((c4.put (F.SE_CTRL_stop_req e) 0).put (F.SE_CTRL_run_req e) 0).incr F.SE_ROT_COUNT_count).put
        F.SE_ROT_STAT_phase 5
      let req := decide (c.bst.reqEng = some e)
      let claimed := c.rot.claims.any fun x => decide (x.1 = r)
      let c6 := ({ (c5.put F.SE_ROT_STAT_spare 0x1F) with rot := { c5.rot with
          cur := none, lastRole := some r, lastH := h, claims := c5.rot.claims.filter fun x => !decide (x.1 = r) } }).setBst
        fun b => { b with reqEng := if req then none else b.reqEng }
      c6.startTest (.engine e) (if req && !claimed then 3 else 1)
  | none => c

/-- S's copy is discarded and S is the spare again (R96). -/
def Chip.dropHandover (c : Chip) : Chip :=
  match c.rot.cur with
  | none => c
  | some (r, _, s, _) =>
    ({ c with rot := { c.rot with cur := none, cancel := false, lastRole := some r, mism := none } }.put (F.SE_STAT_state s)
      seSpare).put F.SE_ROT_STAT_phase 0

end Sys2Proof.Machine
end

