-- ==== Sys2Proof/Machine/LinkSend.lean ====
section
/-! DEFINITION. LinkSend.lean: what the link controller posts (R349, R351, R359 to R364, R367, R368, R371, R376, R379, R382), and the audio
that it reads and writes (R378 to R381). -/

namespace Sys2Proof.Machine

/-- `n` bytes of a number, least significant first. -/
def toBytes (v : Nat) : Nat → List Byte
  | 0 => []
  | n + 1 => BitVec.ofNat 8 v :: toBytes (v / 256) n

/-- A list filled with zero bytes, or cut, to length `n`. -/
def padTo (n : Nat) (l : List Byte) : List Byte := (l ++ List.replicate (n - l.length) 0).take n

/-- A header (R359): the common bytes and the type's own. -/
def Chip.header (c : Chip) (type node : Nat) (bwm un mod8 : Bool) (nb ncw : Nat) (own : List Byte) : List Byte :=
  padTo 16 (toBytes (type * 16 + 1) 1 ++ toBytes (c.get F.LNK_DROVE_drove) 2 ++ toBytes (64 * b2n bwm + 32 * b2n un + node) 1 ++
    toBytes (64 * b2n mod8 + nb) 1 ++ toBytes ncw 1 ++ own)

/-- The next instance of the first run of a code whose posting instant, four units before S, still lies ahead and for which nothing has
been posted (R362): S and the run's length. The plan of the next superframe is the one already received, else the one in force (R363). -/
def Chip.nextRun (c : Chip) (code : Nat) : Option (Nat × Nat) :=
  let at' := fun (plan : Option (List Nat)) (j : Nat) => (plan.bind (firstRun code 0)).map fun r => (128 * (c.sfn + j) + r.1, r.2)
  let next := if c.lkState = lkBell ∨ c.lnk.plan.isNone then c.lnk.plan else c.lnk.nextPlan.or c.lnk.plan
  [at' c.lnk.plan 0, at' next 1, at' next 2].findSome? fun e => e.bind fun r =>
    if c.now ≤ (r.1 - 4) * rootPerUnit ∧ !(c.rf.posted.any fun t => decide (t.s = r.1)) then some r else none

/-- The channel of superframe `j`: from a hop's superframe on, the one it goes to (R376). -/
def Chip.chanOf (c : Chip) (j : Nat) : Nat :=
  match c.lnk.hop with
  | some (h, ch) => if h ≤ j then ch else c.get F.LNK_STAT_ch
  | none => c.get F.LNK_STAT_ch

/-- Does R364 silence the burst: it touches units 124 to 127 of the superframe before a hop? -/
def Chip.hopSilent (c : Chip) (s units : Nat) : Bool :=
  match c.lnk.hop with
  | some (h, _) => decide (s / 128 + 1 = h) && decide (124 < s % 128 + units)
  | none => false

/-- Does a burst of `nb` data blocks that begins at unit `s` fit a run of `len` units (R349)? -/
def fitsRun (nb len : Nat) : Bool := decide (nb ≤ 33 ∧ unitsFor nb ≤ len)

/-- Post a burst that begins at unit `s` in a run of `len` units (R349, R362, R364). -/
def Chip.postBurst (c : Chip) (s len : Nat) (hdr : List Byte) (mod8 : Bool) (nb : Nat) (words : List (List Byte)) : Chip :=
  let u := unitsFor nb
  if !fitsRun nb len then c.latch F.LNK_STAT_fit
  else if c.hopSilent s u then c
  else c.postTx ⟨s, u, c.chanOf (s / 128), c.lctl F.LNK_CTRL_pwr, .burst hdr mod8 nb words⟩

/-! ## Beacons -/

/-- Codeword 0 of the beacon of superframe `j` (R360, R376). -/
def Chip.beaconWord0 (c : Chip) (j : Nat) : List Byte :=
  let plan := ((c.lnk.plan.getD []).map fun (x : Nat) => (BitVec.ofNat 8 x : Byte))
  let hop : List Byte := match c.lnk.hopAnn with
    | some (h, ch) => if j ≤ h then toBytes (128 + ch) 1 ++ toBytes h 6 else toBytes 0 7
    | none => toBytes 0 7
  let probe := toBytes (128 * c.get F.LNK_PROBE_valid + c.get F.LNK_PROBE_node) 1 ++
    toBytes ((c.rd R.LNK_PROBE_SF_LO).toNat + 2 ^ 32 * ((c.rd R.LNK_PROBE_SF_HI).toNat % 65536)) 6
  padTo 223 (padTo 128 plan ++ hop ++ toBytes (c.rd R.LNK_MEMBERS).toNat 4 ++ probe)

/-- Codeword 1 of a beacon of superframe j + 1 (R360, R371): d4 of every node, and the grants. -/
def Chip.beaconWord1 (c : Chip) (j1 : Nat) (grants : List Grant) : List Byte :=
  let d4 := (List.range 32).flatMap fun k =>
    match KMap.get none ((j1 - 1) * 32 + k) c.lnk.d4 with
    | some v => toBytes (wrap v 24) 3
    | none => toBytes 0x800000 3
  padTo 223 (d4 ++ grants.flatMap fun g => toBytes g.addr.toNat 6 ++ toBytes (128 + g.node) 1)

/-- The grants of this beacon: their nodes are members from it on (R367). -/
def Chip.takeGrants (c : Chip) : List Grant × Chip :=
  let gs := c.lnk.grants.take 4
  let m := gs.foldl (fun (m : Word) g => m ||| BitVec.ofNat 32 (2 ^ g.node)) (c.rd R.LNK_MEMBERS)
  let left := (gs.map fun g => { g with left := g.left - 1 }).filter fun g => decide (g.left ≠ 0)
  (gs, (c.wr R.LNK_MEMBERS m).setLnk fun l => { l with
    grants := l.grants.drop 4 ++ left
    table := gs.foldl (fun t g => KMap.set none g.node (some g.addr) t) l.table })

/-- A beacon of superframe `j` whose run begins at unit `s` (R359, R360). -/
def Chip.beaconBody (c : Chip) (s : Nat) (words : List (List Byte)) : TxBody :=
  let own := toBytes (s / 128) 6 ++ toBytes (s % 128) 1 ++ toBytes (c.chanOf (s / 128)) 1
  .burst (c.header 1 (c.lctl F.LNK_CTRL_node) false false false 5 2 own) false 5 words

/-- BEACON_SEND (R362, R363): posted four units before S, in the first beacon run; its codewords are formed at K (`Chip.keyTx`). -/
def Chip.beaconSend (c : Chip) : Chip :=
  if c.lkState ≠ lkBell then c
  else match c.nextRun 1 with
    | none => c
    | some (s, len) =>
      let c1 := c.advanceTo ((s - 4) * rootPerUnit)
      match c1.beaconBody s [] with
      | .burst hdr m nb ws => c1.postBurst s len hdr m nb ws
      | .wake _ => c1

/-! ## Uplinks and join requests -/

/-- The header of an uplink (R359): `bwm` in HOLD, and the fouled units of the last superframe. -/
def Chip.uplinkHdr (c : Chip) : List Byte :=
  c.header 3 (c.get F.LNK_STAT_node) (decide (c.lkState = lkHold)) false false 1 0 (toBytes (min c.foulCount 255) 1)

/-- UPLINK_SEND (R362, R365): a member while aligned, and a node in HOLD with `bwm`. -/
def Chip.uplinkSend (c : Chip) : Chip :=
  let st := c.lkState
  if !(st = lkHold ∨ (st = lkMember ∧ c.bit F.LNK_STAT_aligned)) then c
  else match c.nextRun (0x20 + c.get F.LNK_STAT_node) with
    | none => c
    | some (s, len) =>
      let c1 := c.advanceTo ((s - 4) * rootPerUnit)
      c1.postBurst s len c1.uplinkHdr false 1 []

/-- What a keyed burst carries, formed at K from what the node knows then (R359, R360, R367, R371, R375): a beacon takes its grants, its
nodes being members from it on. -/
def Chip.keyContent (c : Chip) (t : Tx) : Chip :=
  if t.hdrType = 1 then
    let (gs, c1) := c.takeGrants
    let t1 := { t with body := c1.beaconBody t.s [c1.beaconWord0 (t.s / 128), c1.beaconWord1 (t.s / 128) gs] }
    c1.setRf fun r => { r with cur := some t1, air := t1.symbols }
  else if t.hdrType = 3 then
    let t1 := { t with body := .burst c.uplinkHdr false 1 [] }
    c.setRf fun r => { r with cur := some t1, air := t1.symbols }
  else c

/-- TX_KEY (R307, R308) of a transmission and what it carries. -/
def Chip.keyTx (c : Chip) : Chip :=
  let c1 := c.txKey
  match c1.rf.cur with
  | some t => if c1.rf.keyed && !c.rf.keyed then c1.keyContent t else c1
  | none => c1

/-- The contention run that holds a unit: its first unit and the units from `u` to its end. -/
def Chip.contention (c : Chip) (u : Nat) : Option Nat :=
  if 1 ≤ u ∧ c.unitCode u = 3 ∧ c.unitCode (u - 1) = 3 then
    some (runLen 3 ((c.lnk.plan.getD []).drop u))
  else none

/-- JOIN_REQUEST_SEND (R368): at the boundary of unit `u` of this superframe. Unit u − 1 was busy where its mean power from 9 µs on, −v
dBm, exceeds the threshold, or a burst of the drove was being received in it. -/
def Chip.joinSend (c : Chip) (u v : Nat) (own : Bool) : Chip :=
  if c.lkState ≠ lkJoining ∨ c.lnk.joinWait.isSome then c
  else match c.contention u with
    | none => c
    | some len =>
      let s := 128 * c.sfn + u
      let c1 := c.advanceTo (s * rootPerUnit)
      if own ∨ v < c1.get F.LNK_LBT_thr then c1
      else if c1.lnk.b ≠ 0 then c1.setLnk fun l => { l with b := l.b - 1 }
      else if !fitsRun 1 len || c1.hopSilent s (unitsFor 1) then c1
      else
        let hdr := c1.header 4 (c1.get F.LNK_STAT_node) false true false 1 0 (toBytes c1.ownAddr 6)
        (c1.postBurst s len hdr false 1 []).setLnk fun l => { l with joinWait := some 4 }

/-! ## Audio -/

/-- The lowest-numbered paddock with an owner code (R378). -/
def Chip.linkPad (c : Chip) (owner : Nat) : Option (Nat × Pad) :=
  (((List.range c.pas.pads.length).zip c.pas.pads).find? fun (p : Nat × Pad) => decide (p.2.owner = owner))

/-- Frames per superframe Φ (R378). -/
def Chip.phi (c : Chip) : Nat := 384 / c.frameTicks

/-- The logical word of channel `ch` for frame `i` of superframe `j` (R188, R378). -/
def Chip.audWord (c : Chip) (pad : Nat × Pad) (stride j ch i : Nat) : Nat :=
  let age := c.time.stc / c.frameTicks - (384 * j / c.frameTicks + i)
  pad.2.base + (c.get (F.PAS_SP_sp pad.1) + ch * stride + age) % max 1 pad.2.length

/-- Is a waiting request one of the link transmit buffer's? -/
def isLinkRead (q : Nat × WinReq) : Bool :=
  match q.2 with
  | .linkRead _ => true
  | _ => false

/-- From a superframe boundary on, the bellwether reads the audio of the superframe before, where this one has a multicast run that may
carry it (R364, R379, R381): its words wait for the window (R187, R378). -/
def Chip.audStart (c : Chip) : Chip :=
  match c.planRun 2, c.linkPad 0x12 with
  | some (u, _), some pad =>
    let j := c.sfn - 1
    if c.lkState ≠ lkBell ∨ c.lctlB F.LNK_CTRL_aud_tx = false ∨ c.sfn = 0 ∨ u < 16 ∨ 384 * c.sfn + 3 * u < c.lnk.audFrom ∨
        c.lnk.aud.any (fun a => decide (a.sf = j)) = true then c
    else
      let ch := c.get F.LNK_AUD_ch + 1
      let total := ch * c.phi
      let asked := (List.range total).map fun s => (c.audWord pad (c.get F.LNK_TX_STRIDE_stride) j (s % ch) (s / ch), WinReq.linkRead s)
      { c with
        lnk := { c.lnk with aud := some ⟨j, ch, c.bit F.LNK_AUD_w, c.get F.LNK_AUD_grp, List.replicate total none⟩ }
        pas := { c.pas with queue := c.pas.queue.filter (fun q => !isLinkRead q) ++ asked } }
  | _, _ => c

/-- A word of the link transmit paddock has been read. -/
def Chip.linkServed (c : Chip) (i : Nat) (v : Word) : Chip :=
  c.setLnk fun l => { l with aud := l.aud.map fun a => { a with words := a.words.set i (some v) } }

/-- The bytes of a sample (R361). -/
def sampleBytes (wide : Bool) (v : Word) : List Byte :=
  if wide then toBytes (v.toNat / 256) 3 else toBytes (v.toNat / 65536) 2

/-- Samples per packet. -/
def perPacket (wide : Bool) : Nat := if wide then 72 else 108

/-- XOR of two lists of bytes. -/
def xorBytes (a b : List Byte) : List Byte := (a.zip b).map fun (e : Byte × Byte) => e.1 ^^^ e.2

/-- A group's parity packet (R361). -/
def parityOf (g : Nat) (ps : List (List Byte)) : List Byte :=
  let body := ps.foldl (fun (acc : List Byte) p => xorBytes acc (p.drop 2)) (List.replicate 221 0)
  toBytes 1 1 ++ toBytes g 1 ++ body

/-- Packets with each group's parity packet behind it (R361); `fuel` bounds the groups. -/
def withParity (grp : Nat) : Nat → Nat → List (List Byte) → List (List Byte)
  | 0, _, ps => ps
  | fuel + 1, g, ps =>
    if ps.isEmpty then []
    else if grp = 0 then ps
    else
      let h := ps.take grp
      h ++ [parityOf g h] ++ withParity grp fuel (g + 1) (ps.drop grp)

/-- The audio packets of a superframe whose words have been read (R361, R379). -/
def AudJob.packets (a : AudJob) : List (List Byte) :=
  let bytes := a.words.map fun v => sampleBytes a.wide (v.getD 0)
  let q := perPacket a.wide
  let n := (a.words.length + q - 1) / q
  (List.range n).map fun p =>
    padTo 223 (toBytes 0 1 ++ toBytes p 1 ++ toBytes a.sf 2 ++ toBytes 0 3 ++ ((bytes.drop (p * q)).take q).flatten)

/-- AUDIO_MULTICAST_SEND (R362, R364, R379, R381): the audio of the superframe before the run's, in 8PSK, once its words have been read. -/
def Chip.audioSend (c : Chip) : Chip :=
  if c.lkState ≠ lkBell ∨ c.lctlB F.LNK_CTRL_aud_tx = false then c
  else match c.nextRun 2, c.lnk.aud with
    | some (s, len), some a =>
      let c1 := c.advanceTo ((s - 4) * rootPerUnit)
      if a.sf + 1 ≠ s / 128 ∨ a.words.any (·.isNone) = true then c
      else if s % 128 < 16 ∨ 3 * s < c1.lnk.audFrom ∨ c1.get F.FOLD_STAT_state = 3 ∨ 2 ≤ c1.get F.BST_STAT_shut then c1
      else
        let ps := a.packets
        let words := withParity a.grp (ps.length + 1) 0 ps
        let nb := blocksFor true words.length
        let own := toBytes a.sf 2 ++ toBytes (a.ch - 1) 1 ++ toBytes (a.grp + 16 * b2n a.wide + 32 * c1.get F.FOLD_STAT_rate) 1 ++
          toBytes ps.length 1
        (c1.postBurst s len (c1.header 2 (c1.lctl F.LNK_CTRL_node) false false true nb words.length own) true nb words).setLnk
          fun l => { l with aud := none }
    | _, _ => c

/-- Rebuild a group (R380): its packets, and whether each was lost; the count of those recovered. -/
def rebuildGroup (ps : List (Option (List Byte))) (parity : Option (List Byte)) : List (Option (List Byte)) × Nat :=
  match parity with
  | some y =>
    if (ps.filter (·.isNone)).length = 1 then
      let x := ps.foldl (fun (acc : List Byte) p => match p with
        | some q => xorBytes acc (q.drop 2)
        | none => acc) (y.drop 2)
      (ps.map fun p => match p with
        | some q => some q
        | none => some (toBytes 0 2 ++ x), 1)
    else (ps, 0)
  | none => (ps, 0)

/-- Take the received codewords apart into `n` packets (R361, R380): packets and the count recovered. -/
def takeApart (grp : Nat) : Nat → Nat → List (Option (List Byte)) → List (Option (List Byte)) × Nat
  | 0, _, _ => ([], 0)
  | fuel + 1, n, ws =>
    if n = 0 then ([], 0)
    else if grp = 0 then ((List.range n).map fun i => (ws[i]?).getD none, 0)
    else
      let k := min grp n
      let (g, r) := rebuildGroup ((List.range k).map fun i => (ws[i]?).getD none) ((ws[k]?).getD none)
      let (rest, r2) := takeApart grp fuel (n - k) (ws.drop (k + 1))
      (g ++ rest, r + r2)

/-- The word of a received sample (R361, R380): bits below the sample width are zero. -/
def sampleWord (wide : Bool) (q s : Nat) (ps : List (Option (List Byte))) : Word :=
  match (ps[s / q]?).getD none with
  | none => 0
  | some p => if wide then BitVec.ofNat 32 (leField p (7 + 3 * (s % q)) 3 * 256) else BitVec.ofNat 32 (leField p (7 + 2 * (s % q)) 2 * 65536)

/-- Add to a count field, saturating. -/
def Chip.addSat (c : Chip) (f : Fld) (n : Nat) : Chip := c.rcChange f fun k => min (k + n) (2 ^ f.width - 1)

/-- Write the samples of a burst to the link receive paddock (R378, R380): the words wait for the window. -/
def Chip.audioWrite (c : Chip) (ch j : Nat) (wide : Bool) (ps : List (Option (List Byte))) : Chip :=
  match c.linkPad 0x11 with
  | none => c
  | some pad =>
    let stride := c.get F.LNK_RX_STRIDE_stride
    let q := perPacket wide
    let asked := (List.range (ch * c.phi)).filterMap fun s =>
      if (s % ch + 1) * stride ≤ pad.2.length then
        some (c.audWord pad stride j (s % ch) (s / ch), WinReq.linkWrite (sampleWord wide q s ps))
      else none
    { c with pas := { c.pas with queue := c.pas.queue ++ asked } }

/-- AUDIO_BURST (R380, R381). -/
def Chip.audioBurst (c : Chip) (b : BurstRx) : Chip :=
  let st := c.lkState
  if !(decide (2 ≤ st ∧ st ≤ 5)) || !c.ownBurst b 2 then c
  else
    let h := b.hdr.info
    let ch := nthByte h 8 % 32 + 1
    let g9 := nthByte h 9
    let n := nthByte h 10
    let j := c.sfn - 1
    let taken := decide (g9 / 32 % 4 = c.get F.FOLD_STAT_rate) && decide (leField h 6 2 = j % 65536)
    let ws := b.words.map fun w => if rxDecodes w 223 then some w.info else none
    let (ps, rec) := if taken then takeApart (g9 % 16) (n + 1) n ws else (List.replicate n none, 0)
    let lost := (ps.filter (·.isNone)).length
    let c1 := (c.addSat F.LNK_AUD_CNT_rec rec).addSat F.LNK_AUD_CNT_lost lost
    let c2 := if lost = 0 then c1 else c1.raise Ev.LNK_PKT_LOST (locNode (hdrNode b)) (BitVec.ofNat 32 lost)
    if c2.time.stc < c2.lnk.audFrom ∨ c2.get F.FOLD_STAT_state = 3 ∨ 2 ≤ c2.get F.BST_STAT_shut then c2
    else c2.audioWrite ch j (bitAt g9 4) ps

end Sys2Proof.Machine
end

