-- ==== Sys2Proof/Machine/Notch.lean ====
section
/-! DEFINITION. Notch.lean: the notch filters (R322 to R324) and the spectrum monitor that engages them (R304). -/

namespace Sys2Proof.Machine

/-- Multiply two complex numbers. -/
def cmulR (a b : Rat × Rat) : Rat × Rat := (a.1 * b.1 - a.2 * b.2, a.1 * b.2 + a.2 * b.1)

/-- The sample rate of a notch's band in units of 10 kHz (R298): notches 0 to 3 act on L1, 4 to 7 on L5. -/
def notchRate (i : Nat) : Int := if i < 4 then 6144 else 3072

def Chip.notch (c : Chip) (i : Nat) : Notch := KMap.get Notch.zero i c.gn.notch
def Chip.setNotch (c : Chip) (i : Nat) (n : Notch) : Chip :=
  { c with gn := { c.gn with notch := KMap.set Notch.zero i n c.gn.notch } }

/-- The centre θ of a notch. -/
def Chip.theta (c : Chip) (i : Nat) : Int := (c.rd (R.GN_NOTCH_FREQ i)).toInt

/-- A notch that stops acting clears v (R322). -/
def Chip.disengage (c : Chip) (i : Nat) : Chip :=
  (c.put (F.GN_NOTCH_CTRL_engaged i) 0).setNotch i { Notch.zero with ref := (c.notch i).ref }

/-- A write of GN_NOTCH_CTRL (R324): without `auto` an enabled notch is always engaged; an auto notch waits for a peak. -/
def Chip.writeNotchCtrl (c : Chip) (i : Nat) (v : Word) : Chip :=
  let was := c.bit (F.GN_NOTCH_CTRL_auto i) && c.bit (F.GN_NOTCH_CTRL_engaged i)
  let c1 := c.plainWrite (R.GN_NOTCH_CTRL i) v
  let en := c1.bit (F.GN_NOTCH_CTRL_en i)
  if en && !c1.bit (F.GN_NOTCH_CTRL_auto i) then c1.put (F.GN_NOTCH_CTRL_engaged i) 1
  else if en && was then c1
  else c1.disengage i

/-- NOTCH_FREQ_WRITE (R323): the centre and the reference centre. -/
def Chip.writeNotchFreq (c : Chip) (i : Nat) (v : Word) : Chip :=
  (c.plainWrite (R.GN_NOTCH_FREQ i) v).setNotch i { c.notch i with ref := v.toInt }

/-- The depth code in force: 4 to 12 (R322). -/
def Chip.notchK (c : Chip) (i : Nat) : Nat := min 12 (max 4 (c.get (F.GN_NOTCH_CTRL_k i)))

/-- One sample through an engaged notch (R322): the new v and the output. -/
def notchStep (rho : Rat) (w : Rat × Rat) (v : Rat × Rat) (x : Rat × Rat) : (Rat × Rat) × (Rat × Rat) :=
  let wv := cmulR w v
  let vn : Rat × Rat := (x.1 + rho * wv.1, x.2 + rho * wv.2)
  (vn, (vn.1 - wv.1, vn.2 - wv.2))

/-- The end of a block of 1,024 output samples: where the notch adapts its centre moves (R323). -/
def Chip.notchMove (c : Chip) (i : Nat) : Chip :=
  let n := c.notch i
  let c1 := c.setNotch i { n with sum := (0, 0), cnt := 0 }
  if !c1.bit (F.GN_NOTCH_CTRL_adapt i) || c1.bit F.RF_STAT_ovl then c1
  else
    let th := c.theta i
    let raw : Int := (Config.atan2 n.sum.2 n.sum.1 * 4294967296).floor
    let d := sext (wrap (raw - th) 32) 32
    let t := th + fdiv d (2 ^ c1.get (F.GN_NOTCH_CTRL_mu i))
    let lim := fdiv (Int.ofNat (c1.get (F.GN_NOTCH_CTRL_span i)) * 10 * 2 ^ 32) (notchRate i)
    c1.wr (R.GN_NOTCH_FREQ i) (BitVec.ofInt 32 (satInt t (n.ref - lim) (n.ref + lim)))

/-- One sample through notch `i` (R322, R323): its output, and the chip after it. A notch that is not engaged passes it unchanged. -/
def Chip.notchSample (c : Chip) (i : Nat) (x : Rat × Rat) : (Rat × Rat) × Chip :=
  if !c.bit (F.GN_NOTCH_CTRL_engaged i) then (x, c)
  else
    let n := c.notch i
    let turn : Rat := (c.theta i : Rat) / 4294967296
    let (vn, y) := notchStep (1 - 1 / ((2 : Rat) ^ c.notchK i)) (Config.cos turn, Config.sin turn) n.v x
    let p := n.y
    let c1 := c.setNotch i { n with
      v := vn
      y := y
      sum := (n.sum.1 + (y.1 * p.1 + y.2 * p.2), n.sum.2 + (y.2 * p.1 - y.1 * p.2))
      cnt := n.cnt + 1 }
    (y, if n.cnt + 1 = 1024 then c1.notchMove i else c1)

/-! ## The spectrum monitor -/

/-- The output frequency of a peak's bin in units of 10 kHz (R324). -/
def peakFreq (l1 : Bool) (b : Nat) : Int := if l1 then 136462 - 72 * Int.ofNat b else 72 * Int.ofNat b - 117645

/-- Does the peak count for the band (R298, R324)? -/
def inBand (l1 : Bool) (f : Int) : Bool := decide (f.natAbs ≤ (if l1 then 2800 else 1350))

/-- Act on one peak for one band (R324). -/
def Chip.notchPeak (l1 : Bool) (c : Chip) (b : Nat) : Chip :=
  let f := peakFreq l1 b
  let own := (if l1 then [0, 1, 2, 3] else [4, 5, 6, 7]).filter fun i =>
    c.bit (F.GN_NOTCH_CTRL_en i) && c.bit (F.GN_NOTCH_CTRL_auto i)
  let near := fun (i : Nat) => c.bit (F.GN_NOTCH_CTRL_engaged i) &&
    decide ((c.theta i * notchRate i - f * 2 ^ 32).natAbs ≤ 144 * 2 ^ 32)
  if !inBand l1 f then c
  else match own.find? near with
    | some i => c.setNotch i { c.notch i with age := 0 }
    | none =>
      match own.find? fun i => !c.bit (F.GN_NOTCH_CTRL_engaged i) with
      | none => c
      | some i =>
        let th := fdiv (f * 2 ^ 32) (notchRate i)
        ((c.put (F.GN_NOTCH_CTRL_engaged i) 1).wr (R.GN_NOTCH_FREQ i) (BitVec.ofInt 32 th)).setNotch i
          { Notch.zero with ref := th }

/-- A scan ages every engaged auto notch, then acts on the peaks, highest first (R324). -/
def Chip.notchScan (c : Chip) (bins : List Nat) : Chip :=
  let c1 := (List.range 8).foldl (fun c i =>
    if c.bit (F.GN_NOTCH_CTRL_engaged i) && c.bit (F.GN_NOTCH_CTRL_auto i) then c.setNotch i { c.notch i with age := (c.notch i).age + 1 }
    else c) c
  bins.foldl (fun c b => Chip.notchPeak false (Chip.notchPeak true c b) b) c1

/-- NOTCH_DISENGAGE (R324). -/
def Chip.notchExpire (c : Chip) (i : Nat) : Chip :=
  if c.bit (F.GN_NOTCH_CTRL_engaged i) && c.bit (F.GN_NOTCH_CTRL_auto i) && decide (16 ≤ (c.notch i).age) then c.disengage i
  else c

/-- Insert by level, the strongest (the smallest number of half dB below full scale) first; equal levels by ascending bin. -/
def insertPeak (e : Nat × Nat) : List (Nat × Nat) → List (Nat × Nat)
  | [] => [e]
  | x :: l => if e.1 ≤ x.1 then e :: x :: l else x :: insertPeak e l

/-- The bins of a scan in order of level: (level, bin). -/
def sortPeaks (l : List (Nat × Nat)) : List (Nat × Nat) := l.foldr insertPeak []

/-- Root cycles of a capture: 4,096 consecutive ADC samples (R304). -/
def monSpan : Nat := 4096

/-- MONITOR_SCAN (R304): the level of each bin below full scale, in half dB. One scan starts every 1 ms; it is taken once its capture can
end before the next frame boundary, and discarded where the samples were not usable throughout. -/
def Chip.monitorScan (c0 : Chip) (bins : List Byte) : Chip :=
  let t := c0.rf.monAt.getD c0.now
  if !c0.bit F.RF_CTRL_mon_en || decide (bins.length ≠ 2048) || decide (c0.boundaryRoot < t + monSpan) then c0
  else
  let c := (c0.advanceTo (t + monSpan)).setRf fun r => { r with monAt := some (max (t + rootPerMs) c0.now) }
  if c.ilcBlind || decide (Int.ofNat t ≤ c.rf.blindTo) then c
  else
    let all := sortPeaks ((bytesNat bins).zip (List.range 2048))
    let lvl := fun (k : Nat) => ((all[k]?).map (·.1)).getD 0
    let med2 := lvl 1023 + lvl 1024
    let top := (all.filter fun e => decide (2 * e.1 + 2 * c.get F.RF_MON_CTRL_thr < med2)).take 8
    let c1 := (List.range 8).foldl (fun c i => match top[i]? with
      | some e => (((c.put (F.RF_MON_PEAK_valid i) 1).put (F.RF_MON_PEAK_bin i) e.2).put (F.RF_MON_PEAK_lvl i) e.1)
      | none => c.wr (R.RF_MON_PEAK i) 0) c
    (c1.incr F.RF_MON_SEQ_count).notchScan (top.map (·.2))

end Sys2Proof.Machine
end

