-- ==== Sys2Proof/Machine/Crypto.lean ====
section
/-! DEFINITION. Crypto.lean: SHA-384 (FIPS 180-4) and the signature check of ECDSA on P-384 (FIPS 186-5), as R13 and R390 name them. Byte
strings are lists of naturals, the most significant byte of a number first. -/

namespace Sys2Proof.Machine

/-! ## SHA-384 -/

/-- The round constants: the fractional parts of the cube roots of the first 80 primes (PRESUMED, assumption 19). -/
def shaK : List Nat :=
  [0x428a2f98d728ae22, 0x7137449123ef65cd, 0xb5c0fbcfec4d3b2f, 0xe9b5dba58189dbbc] ++
  [0x3956c25bf348b538, 0x59f111f1b605d019, 0x923f82a4af194f9b, 0xab1c5ed5da6d8118] ++
  [0xd807aa98a3030242, 0x12835b0145706fbe, 0x243185be4ee4b28c, 0x550c7dc3d5ffb4e2] ++
  [0x72be5d74f27b896f, 0x80deb1fe3b1696b1, 0x9bdc06a725c71235, 0xc19bf174cf692694] ++
  [0xe49b69c19ef14ad2, 0xefbe4786384f25e3, 0x0fc19dc68b8cd5b5, 0x240ca1cc77ac9c65] ++
  [0x2de92c6f592b0275, 0x4a7484aa6ea6e483, 0x5cb0a9dcbd41fbd4, 0x76f988da831153b5] ++
  [0x983e5152ee66dfab, 0xa831c66d2db43210, 0xb00327c898fb213f, 0xbf597fc7beef0ee4] ++
  [0xc6e00bf33da88fc2, 0xd5a79147930aa725, 0x06ca6351e003826f, 0x142929670a0e6e70] ++
  [0x27b70a8546d22ffc, 0x2e1b21385c26c926, 0x4d2c6dfc5ac42aed, 0x53380d139d95b3df] ++
  [0x650a73548baf63de, 0x766a0abb3c77b2a8, 0x81c2c92e47edaee6, 0x92722c851482353b] ++
  [0xa2bfe8a14cf10364, 0xa81a664bbc423001, 0xc24b8b70d0f89791, 0xc76c51a30654be30] ++
  [0xd192e819d6ef5218, 0xd69906245565a910, 0xf40e35855771202a, 0x106aa07032bbd1b8] ++
  [0x19a4c116b8d2d0c8, 0x1e376c085141ab53, 0x2748774cdf8eeb99, 0x34b0bcb5e19b48a8] ++
  [0x391c0cb3c5c95a63, 0x4ed8aa4ae3418acb, 0x5b9cca4f7763e373, 0x682e6ff3d6b2b8a3] ++
  [0x748f82ee5defb2fc, 0x78a5636f43172f60, 0x84c87814a1f0ab72, 0x8cc702081a6439ec] ++
  [0x90befffa23631e28, 0xa4506cebde82bde9, 0xbef9a3f7b2c67915, 0xc67178f2e372532b] ++
  [0xca273eceea26619c, 0xd186b8c721c0c207, 0xeada7dd6cde0eb1e, 0xf57d4f7fee6ed178] ++
  [0x06f067aa72176fba, 0x0a637dc5a2c898a6, 0x113f9804bef90dae, 0x1b710b35131c471b] ++
  [0x28db77f523047d84, 0x32caab7b40c72493, 0x3c9ebe0a15c9bebc, 0x431d67c49c100d4c] ++
  [0x4cc5d4becb3e42b6, 0x597f299cfc657e2a, 0x5fcb6fab3ad6faec, 0x6c44198c4a475817]

/-- The initial hash value: the fractional parts of the square roots of the ninth to sixteenth primes (PRESUMED, assumption
19). -/
def shaInit : List Nat :=
  [0xcbbb9d5dc1059ed8, 0x629a292a367cd507, 0x9159015a3070dd17, 0x152fecd8f70e5939] ++
  [0x67332667ffc00b31, 0x8eb44a8768581511, 0xdb0c2e0d64f98fa7, 0x47b5481dbefa4fa4]

def rotr64 (x n : Nat) : Nat := x / 2 ^ n + x % 2 ^ n * 2 ^ (64 - n)

/-- A number from bytes, the first the most significant. -/
def beNat (l : List Nat) : Nat := l.foldl (fun a x => a * 256 + x) 0

/-- A number as `n` bytes, the most significant first. -/
def beBytes (v : Nat) : Nat → List Nat
  | 0 => []
  | n + 1 => beBytes (v / 256) n ++ [v % 256]

/-- The message schedule: the words so far, newest first, extended `n` times. -/
def shaSched : Nat → List Nat → List Nat
  | 0, w => w
  | n + 1, w =>
    let a := w.getD 1 0
    let b := w.getD 14 0
    let s1 := rotr64 a 19 ^^^ rotr64 a 61 ^^^ (a / 64)
    let s0 := rotr64 b 1 ^^^ rotr64 b 8 ^^^ (b / 128)
    shaSched n ((s1 + w.getD 6 0 + s0 + w.getD 15 0) % 2 ^ 64 :: w)

/-- One round on the eight working words. -/
def shaRound (v : List Nat) (kw : Nat × Nat) : List Nat :=
  let g := fun (i : Nat) => v.getD i 0
  let (a, b, c, e, f) := (g 0, g 1, g 2, g 4, g 5)
  let ch := (e &&& f) ^^^ ((2 ^ 64 - 1 - e) &&& g 6)
  let t1 := g 7 + (rotr64 e 14 ^^^ rotr64 e 18 ^^^ rotr64 e 41) + ch + kw.1 + kw.2
  let t2 := (rotr64 a 28 ^^^ rotr64 a 34 ^^^ rotr64 a 39) + ((a &&& b) ^^^ (a &&& c) ^^^ (b &&& c))
  [(t1 + t2) % 2 ^ 64, a, b, c, (g 3 + t1) % 2 ^ 64, e, f, g 6]

/-- One block of 128 bytes. -/
def shaBlock (h : List Nat) (blk : List Nat) : List Nat :=
  let w0 := (List.range 16).map fun i => beNat ((blk.drop (8 * i)).take 8)
  let w := (shaSched 64 w0.reverse).reverse
  let v := (shaK.zip w).foldl shaRound h
  (h.zip v).map fun p => (p.1 + p.2) % 2 ^ 64

/-- Blocks in order; at most `fuel`. -/
def shaBlocks : Nat → List Nat → List Nat → List Nat
  | 0, h, _ => h
  | fuel + 1, h, m => match m with
    | [] => h
    | _ :: _ => shaBlocks fuel (shaBlock h (m.take 128)) (m.drop 128)

/-- SHA-384: 48 bytes. -/
def sha384 (m : List Nat) : List Nat :=
  let pad := List.replicate ((239 - m.length % 128) % 128) 0
  let whole := m ++ [128] ++ pad ++ beBytes (8 * m.length) 16
  ((shaBlocks (whole.length / 128) shaInit whole).take 6).flatMap fun x => beBytes x 8

/-! ## P-384 -/

def p384P : Nat := 2 ^ 384 - 2 ^ 128 - 2 ^ 96 + 2 ^ 32 - 1
/-- The curve's coefficient b, the order of its base point and the base point (PRESUMED, assumption 19). -/
def p384B : Nat := 0xb3312fa7e23ee7e4988e056be3f82d19181d9c6efe8141120314088f5013875ac656398d8a2ed19d2a85c8edd3ec2aef
def p384N : Nat := 0xffffffffffffffffffffffffffffffffffffffffffffffffc7634d81f4372ddf581a0db248b0a77aecec196accc52973
def p384Gx : Nat := 0xaa87ca22be8b05378eb1c71ef320ad746e1d3b628ba79b9859f741e082542a385502f25dbf55296c3a545e3872760ab7
def p384Gy : Nat := 0x3617de4a96262c6f5d9e98bf9292dc29f8f41dbd289a147ce9da3113b5f0b8c00a60b1ce1d7e819d7a431d7c90ea0e5f

/-- b to the power of the low bits of e, modulo m (`fuel` bits). -/
def powMod (m : Nat) : Nat → Nat → Nat → Nat
  | 0, _, _ => 1
  | fuel + 1, b, e =>
    let r := powMod m fuel (b * b % m) (e / 2)
    if e % 2 = 1 then r * b % m else r

/-- The inverse modulo a prime. -/
def invMod (m x : Nat) : Nat := powMod m 384 (x % m) (m - 2)

/-- x − y modulo m. -/
def subMod (m x y : Nat) : Nat := (x + m - y % m) % m

/-- The sum of two points; none is the point at infinity. -/
def ecAdd (a b : Option (Nat × Nat)) : Option (Nat × Nat) :=
  match a, b with
  | none, q => q
  | q, none => q
  | some (x1, y1), some (x2, y2) =>
    if x1 = x2 ∧ (y1 + y2) % p384P = 0 then none
    else
      let l := if x1 = x2 then subMod p384P (3 * x1 * x1) 3 * invMod p384P (2 * y1) % p384P
        else subMod p384P y2 y1 * invMod p384P (subMod p384P x2 x1) % p384P
      let x := subMod p384P (l * l) (x1 + x2)
      some (x, subMod p384P (l * subMod p384P x1 x) y1)

/-- The multiple of a point by the low `fuel` bits of k. -/
def ecMul : Nat → Nat → Option (Nat × Nat) → Option (Nat × Nat)
  | 0, _, _ => none
  | fuel + 1, k, q =>
    let r := ecMul fuel (k / 2) (ecAdd q q)
    if k % 2 = 1 then ecAdd r q else r

/-- The signature check: public key and signature as 96 bytes each, and the hash. -/
def ecdsaOk (pub sig hash : List Nat) : Bool :=
  let (qx, qy) := (beNat (pub.take 48), beNat ((pub.drop 48).take 48))
  let (r, s) := (beNat (sig.take 48), beNat ((sig.drop 48).take 48))
  let onCurve := decide (qx < p384P) && decide (qy < p384P) &&
    decide (qy * qy % p384P = subMod p384P (qx * qx * qx + p384B) (3 * qx))
  let w := invMod p384N s
  let z := beNat hash
  let pt := ecAdd (ecMul 384 (z * w % p384N) (some (p384Gx, p384Gy))) (ecMul 384 (r * w % p384N) (some (qx, qy)))
  onCurve && decide (0 < r) && decide (r < p384N) && decide (0 < s) && decide (s < p384N) &&
    (match pt with
      | none => false
      | some (x, _) => decide (x % p384N = r))

end Sys2Proof.Machine
end

