-- ==== Sys2Proof/Machine/FoldCheck.lean ====
section
/-! DEFINITION. FoldCheck.lean: reading a fold image and checking it (R51 to R67). A check answers the code, the section numbered from 1
in the order the sections stand, and the byte offset of the failing field. -/

namespace Sys2Proof.Machine

/-- A failed check: code, section, offset (R65). -/
abbrev FoldErr := Nat × Nat × Nat

/-- An image: its bytes. A byte past its end reads as zero. -/
abbrev Image := List Nat

def Image.u8 (b : Image) (o : Nat) : Nat := b.getD o 0
def Image.u16 (b : Image) (o : Nat) : Nat := b.u8 o + 256 * b.u8 (o + 1)
def Image.u32 (b : Image) (o : Nat) : Nat := b.u16 o + 65536 * b.u16 (o + 2)
def Image.part (b : Image) (o n : Nat) : Image := (b.drop o).take n

/-- A section: its number, the offset of its header, its type and payload length (R52). -/
structure Sect where
  idx : Nat
  pos : Nat
  typ : Nat
  plen : Nat
  deriving DecidableEq, Repr

/-- The payload's offset. -/
def Sect.pay (s : Sect) : Nat := s.pos + 12

/-- The sections whose headers lie within `lim`, from `pos` on; at most `fuel`. -/
def sectsFrom (b : Image) (lim : Nat) : Nat → Nat → Nat → List Sect
  | 0, _, _ => []
  | fuel + 1, i, pos =>
    if lim < pos + 12 then []
    else
      let plen := b.u32 (pos + 4)
      ⟨i, pos, b.u16 pos, plen⟩ :: sectsFrom b lim fuel (i + 1) (pos + 12 + plen)

/-- The fold's length field and section count. -/
def Image.length' (b : Image) : Nat := b.u32 8
def Image.count' (b : Image) : Nat := b.u16 6
def Image.sects (b : Image) : List Sect := sectsFrom b (min b.length' b.length) (min b.count' 32768) 1 24

/-- What the checks read of the device: programmed guard record and its channel count, usable engines and banks. -/
structure FoldEnv where
  guardFused : Bool
  guardCount : Nat
  engines : Nat
  banks : Nat
  deriving DecidableEq, Repr

/-- The first failure of a list of checks. -/
def firstErr : List (Option FoldErr) → Option FoldErr
  | [] => none
  | some e :: _ => some e
  | none :: r => firstErr r

/-- A check of a condition. -/
def ensure (ok : Bool) (e : FoldErr) : Option FoldErr := if ok then none else some e

/-- The first failure over a list. -/
def eachOk {α : Type} (l : List α) (f : α → Option FoldErr) : Option FoldErr := firstErr (l.map f)

/-! ## Form (codes 0x02 to 0x0B) -/

/-- The payload length a section's type requires (R54); none for an unknown type. -/
def Sect.needs (b : Image) (s : Sect) : Option Nat :=
  let p := s.pay
  match s.typ with
  | 1 => some 8
  | 2 => some 36
  | 3 => some (4 + 16 * b.u8 p)
  | 4 => some 768
  | 5 => some (324 + 4 * b.u16 (p + 320))
  | 6 => some 192
  | 7 => some 132
  | 8 => some (4 + 4 * b.u8 p)
  | 9 => some (4 + 4 * b.u16 p)
  | _ => none

/-- Codes 0x02 to 0x05. -/
def checkHeader (b : Image) : Option FoldErr :=
  let ss := b.sects
  let len := b.length'
  let whole := ss.length = b.count' ∧ ss.all (fun s => decide (s.pay + s.plen ≤ len)) = true
  let last := (ss.getLast?.map fun s => s.pay + s.plen).getD 24
  firstErr
    [ensure (b.u32 0 = 0x444C4F46) (0x02, 0, 0),
     ensure (b.u16 4 = 1) (0x03, 0, 4),
     eachOk ss fun s => ensure (b.u16 (s.pos + 2) = 1) (0x03, s.idx, s.pos + 2),
     ensure (b.u32 20 = crc32 (b.part 0 20)) (0x04, 0, 20),
     ensure (decide (1 ≤ b.count') && decide (b.count' ≤ 9)) (0x05, 0, 6),
     ensure (decide (len % 4 = 0) && decide (24 ≤ len) && decide (len ≤ 32768) && decide (len ≤ b.length)) (0x05, 0, 8),
     ensure (!decide whole || decide (last = len)) (0x05, 0, 8)]

/-- Codes 0x06 to 0x0A. -/
def checkSects (env : FoldEnv) (b : Image) : Option FoldErr :=
  let ss := b.sects
  let len := b.length'
  let has := fun (t : Nat) => ss.any fun s => decide (s.typ = t)
  let broken := match ss.getLast? with
    | none => (1, 24)
    | some s => (s.idx + 1, s.pay + s.plen)
  firstErr
    [eachOk ss fun s => ensure (decide (s.pay + s.plen ≤ len) && decide (s.plen % 4 = 0) &&
        (match s.needs b with
          | some n => decide (n = s.plen)
          | none => true)) (0x06, s.idx, s.pos + 4),
     ensure (decide (ss.length = b.count')) (0x06, broken.1, broken.2),
     eachOk ss fun s => ensure (b.u32 (s.pos + 8) = crc32 (b.part s.pay s.plen)) (0x07, s.idx, s.pos + 8),
     eachOk ss fun s => ensure (decide (1 ≤ s.typ) && decide (s.typ ≤ 9)) (0x08, s.idx, s.pos),
     eachOk (ss.zip (ss.drop 1)) fun p => ensure (p.1.typ < p.2.typ) (0x09, p.2.idx, p.2.pos),
     ensure (has 1 && has 2 && has 3 && has 4 && has 5 && (has 8 || !env.guardFused)) (0x0A, 0, 6)]

/-- The reserved fields of a section: offset in the payload and size (R55 to R64). -/
def Sect.reserved (b : Image) (s : Sect) : List (Nat × Nat) :=
  match s.typ with
  | 1 => [(2, 2)]
  | 2 => (1, 3) :: (List.range 8).map fun f => (4 + 4 * f + 2, 2)
  | 3 => (1, 3) :: (List.range (b.u8 s.pay)).flatMap fun p => [(4 + 16 * p + 1, 3), (4 + 16 * p + 12, 4)]
  | 5 => ((List.range 8).map fun g => (8 * g + 7, 1)) ++ ((List.range 32).map fun n => (64 + 8 * n + 5, 1)) ++ [(322, 2)]
  | 7 => [(1, 3)]
  | 8 => (1, 3) :: (List.range (b.u8 s.pay)).map fun c => (4 + 4 * c + 2, 2)
  | 9 => [(2, 2)]
  | _ => []

/-- Code 0x0B. -/
def checkReserved (b : Image) : Option FoldErr :=
  firstErr
    [ensure (b.u32 16 = 0) (0x0B, 0, 16),
     eachOk b.sects fun s => eachOk (s.reserved b) fun r =>
       ensure ((b.part (s.pay + r.1) r.2).all fun x => decide (x = 0)) (0x0B, s.idx, s.pay + r.1)]

/-! ## Reading -/

/-- The section of a type. -/
def Image.sect (b : Image) (t : Nat) : Option Sect := b.sects.find? fun s => decide (s.typ = t)
/-- Its payload's offset, and its number; 0 where absent. -/
def Image.payOf (b : Image) (t : Nat) : Nat := ((b.sect t).map Sect.pay).getD 0
def Image.idxOf' (b : Image) (t : Nat) : Nat := ((b.sect t).map Sect.idx).getD 0

def readPads (b : Image) : List Pad :=
  let p := b.payOf 3
  (List.range (b.u8 p)).map fun i => ⟨b.u8 (p + 4 + 16 * i), b.u32 (p + 8 + 16 * i), b.u32 (p + 12 + 16 * i)⟩
def readFlocks (b : Image) : List (Nat × Nat) :=
  let p := b.payOf 2
  (List.range (min (b.u8 p) 8)).map fun f => (b.u8 (p + 4 + 4 * f), b.u8 (p + 5 + 4 * f))
def readGroups (b : Image) : List GrpDesc :=
  let p := b.payOf 5
  (List.range 8).map fun g =>
    let o := p + 8 * g
    if b.u8 o = 0 then ⟨0, 0, 0, 0, 0, 0, 0xFF⟩
    else ⟨b.u8 o, b.u8 (o + 1), b.u8 (o + 2), b.u8 (o + 3), b.u8 (o + 4), b.u8 (o + 5), b.u8 (o + 6)⟩
def readLanes (b : Image) : List LaneDesc :=
  let p := b.payOf 5
  (List.range 32).map fun n =>
    let o := p + 64 + 8 * n
    if b.u8 o = 0 then ⟨0, 0, 0, 0, 0, 0⟩
    else ⟨b.u8 o, b.u8 (o + 1), b.u8 (o + 2), b.u8 (o + 3), b.u8 (o + 4), b.u16 (o + 6)⟩
def readRoutes (b : Image) : List Route :=
  let p := b.payOf 5
  (List.range (min (b.u16 (p + 320)) 512)).map fun k =>
    let o := p + 324 + 4 * k
    ⟨b.u8 o, b.u8 (o + 1), b.u8 (o + 2), b.u8 (o + 3)⟩

/-- A fold read from an image (R55 to R64). -/
def readFold (b : Image) : Fold :=
  let clk := b.payOf 1
  let corr := b.payOf 6
  let plan := b.payOf 7
  let grd := b.payOf 8
  let tree := b.payOf 9
  { foldId := BitVec.ofNat 32 (b.u32 12)
    rate := b.u8 clk
    mck := b.u8 (clk + 1)
    clkCtrl := b.u32 (clk + 4)
    flocks := readFlocks b
    pads := readPads b
    sched := b.part (b.payOf 4) 768
    groups := readGroups b
    lanes := readLanes b
    routes := readRoutes b
    corr := if (b.sect 6).isSome then (List.range 96).map fun n => (b.u8 (corr + 2 * n), b.u8 (corr + 2 * n + 1)) else []
    plan := (b.sect 7).map fun _ => (b.u8 plan, (List.range 128).map fun u => b.u8 (plan + 4 + u))
    guard := if (b.sect 8).isSome then (List.range (b.u8 grd)).map fun c => (b.u8 (grd + 4 + 4 * c), b.u8 (grd + 5 + 4 * c)) else []
    tree := (b.sect 9).map fun _ => (List.range (b.u16 tree)).map fun k => (b.u16 (tree + 4 + 4 * k), b.u16 (tree + 6 + 4 * k)) }

/-- Engine roles of a list of flocks (R57). -/
def totalRoles (fl : List (Nat × Nat)) : Nat := fl.foldl (fun a f => a + f.1) 0

/-! ## Fields (codes 0x10 to 0x1F) -/

def checkClock (b : Image) : Option FoldErr :=
  let p := b.payOf 1
  let i := b.idxOf' 1
  firstErr [ensure (b.u8 p ≤ 2) (0x10, i, p), ensure (b.u8 (p + 1) ≤ 3) (0x10, i, p + 1),
    ensure (b.u32 (p + 4) < 1024) (0x10, i, p + 4)]

/-- Codes 0x11 and 0x12. A total that is too large fails at the flock whose engines make it so. -/
def checkFlock (env : FoldEnv) (b : Image) : Option FoldErr :=
  let p := b.payOf 2
  let i := b.idxOf' 2
  let n := b.u8 p
  let eng := fun (f : Nat) => b.u8 (p + 4 + 4 * f)
  let total := ((List.range 8).map eng).foldl (· + ·) 0
  firstErr
    [ensure (decide (1 ≤ n) && decide (n ≤ 8)) (0x11, i, p),
     eachOk (List.range 8) fun f => firstErr
       [ensure (if f < n then decide (1 ≤ eng f) && decide (eng f ≤ 17) else decide (eng f = 0)) (0x11, i, p + 4 + 4 * f),
        ensure (if f < n then decide (b.u8 (p + 5 + 4 * f) ≤ 64) else decide (b.u8 (p + 5 + 4 * f) = 0)) (0x11, i, p + 5 + 4 * f)],
     ensure (total ≤ 17) (0x11, i, p + 4),
     ensure (total ≤ env.engines) (0x12, i, p + 4)]

/-- Is an owner code in range (R58)? -/
def ownerOk (flocks o : Nat) : Bool := decide (o < flocks ∧ o < 8) || o == 0x10 || o == 0x11 || o == 0x12 || (decide (0x20 ≤ o) && decide (o ≤ 0x3F))

/-- Codes 0x13 and 0x14. -/
def checkPads (b : Image) : Option FoldErr :=
  let p := b.payOf 3
  let i := b.idxOf' 3
  let n := b.u8 p
  let fl := (readFlocks b).length
  let pads := readPads b
  let at' := fun (k : Nat) => pads.getD k ⟨0, 0, 0⟩
  firstErr
    [ensure (decide (1 ≤ n) && decide (n ≤ 32)) (0x13, i, p),
     eachOk (List.range n) fun k =>
       let q := at' k
       let o := p + 4 + 16 * k
       firstErr
         [ensure (ownerOk fl q.owner) (0x13, i, o),
          ensure (q.base ≤ 6291455) (0x13, i, o + 4),
          ensure (decide (1 ≤ q.length) && decide (q.base + q.length ≤ 6291456)) (0x13, i, o + 8),
          ensure (!(q.owner == 0x10 && (List.range k).any fun j => (at' j).owner == 0x10)) (0x13, i, o)],
     eachOk (List.range n) fun k => ensure (!(List.range k).any fun j =>
       decide ((at' j).base < (at' k).base + (at' k).length ∧ (at' k).base < (at' j).base + (at' j).length))
       (0x14, i, p + 4 + 16 * k + 4)]

/-- Codes 0x15 to 0x17. -/
def checkSched (b : Image) : Option FoldErr :=
  let p := b.payOf 4
  let i := b.idxOf' 4
  let fl := readFlocks b
  let total := totalRoles fl
  let pads := readPads b
  let slot := fun (lb s : Nat) => b.u8 (p + 16 * lb + s)
  let banks := List.range 48
  let slots := List.range 16
  firstErr
    [eachOk banks fun lb => firstErr
       [eachOk slots fun s => ensure (decide (slot lb s < total) || slot lb s == 0xFF) (0x15, i, p + 16 * lb + s),
        ensure (slots.any fun s => slot lb s == 0xFF) (0x15, i, p + 16 * lb)],
     eachOk banks fun lb => eachOk slots fun s => ensure (slot lb s == 0xFF || !(List.range lb).any fun k => slot k s == slot lb s)
       (0x16, i, p + 16 * lb + s),
     eachOk banks fun lb => eachOk slots fun s => ensure (slot lb s == 0xFF || pads.any fun q =>
         decide (q.owner = flockOfRole' fl (slot lb s)) && decide (q.base < (lb + 1) * 131072 ∧ lb * 131072 < q.base + q.length))
       (0x17, i, p + 16 * lb + s)]
where
  /-- The flock of a role (R57). -/
  flockOfRole' (fl : List (Nat × Nat)) (r : Nat) : Nat :=
    ((List.range 8).find? fun f => decide (r < totalRoles (fl.take (f + 1)))).getD 8

/-- Slots per frame at a rate (R65, code 0x18). -/
def slotLimit (rate : Nat) : Nat := if rate = 0 then 16 else if rate = 1 then 8 else 4

/-- Code 0x18. -/
def checkGroups (b : Image) : Option FoldErr :=
  let p := b.payOf 5
  let i := b.idxOf' 5
  let rate := b.u8 (b.payOf 1)
  eachOk ((List.range 8).zip (readGroups b)) fun (k, g) =>
    let o := p + 8 * k
    let on := decide (g.en = 1)
    firstErr
      [ensure (g.en ≤ 1) (0x18, i, o),
       ensure (!on || decide (g.role ≤ 1)) (0x18, i, o + 1),
       ensure (!on || decide (g.fmt ≤ 2)) (0x18, i, o + 2),
       ensure (!on || ((if g.fmt = 2 then decide (2 ≤ g.slots) && decide (g.slots ≤ 16) else decide (g.slots = 2)) &&
         decide (g.slots ≤ slotLimit rate))) (0x18, i, o + 3),
       ensure (!on || g.width == 16 || g.width == 24 || g.width == 32) (0x18, i, o + 4),
       ensure (!on || decide (g.asrc = 0) || (decide (g.asrc = 1) && decide (g.role = 0))) (0x18, i, o + 5),
       ensure (!on || decide (g.align ≤ 7) || g.align == 0xFF) (0x18, i, o + 6)]

/-- Bits set in a mask. -/
def maskCount (m : Nat) : Nat := ((List.range 16).filter fun s => bitAt m s).length

/-- Code 0x19. -/
def checkLanes (b : Image) : Option FoldErr :=
  let p := b.payOf 5
  let i := b.idxOf' 5
  let gs := readGroups b
  let ls := readLanes b
  let pads := readPads b
  let grp := fun (k : Nat) => gs.getD k ⟨0, 0, 0, 0, 0, 0, 0⟩
  let ln := fun (k : Nat) => ls.getD k ⟨0, 0, 0, 0, 0, 0⟩
  let used := fun (k g : Nat) => ((List.range (k + 1)).map fun j =>
    if (ln j).en = 1 ∧ (ln j).group = g then maskCount (ln j).mask else 0).foldl (· + ·) 0
  eachOk (List.range 32) fun k =>
    let l := ln k
    let o := p + 64 + 8 * k
    let on := decide (l.en = 1)
    firstErr
      [ensure (l.en ≤ 1) (0x19, i, o),
       ensure (!on || decide (l.dir ≤ 1)) (0x19, i, o + 1),
       ensure (!on || (decide (l.group ≤ 7) && decide ((grp l.group).en = 1))) (0x19, i, o + 2),
       ensure (!on || decide (l.src ≤ 1)) (0x19, i, o + 3),
       ensure (!on || (if l.src = 1 then decide (l.ring ≤ 31) && pads.any fun q => decide (q.owner = 0x20 + l.ring)
         else decide (l.ring = 0))) (0x19, i, o + 4),
       ensure (!on || (decide (l.mask < 2 ^ (grp l.group).slots) &&
         !((grp l.group).asrc == 1 && decide (16 < used k l.group)))) (0x19, i, o + 6)]

/-- Code 0x1A. -/
def checkRoutes (b : Image) : Option FoldErr :=
  let p := b.payOf 5
  let i := b.idxOf' 5
  let gs := readGroups b
  let ls := readLanes b
  let total := totalRoles (readFlocks b)
  let rs := readRoutes b
  let ln := fun (k : Nat) => ls.getD k ⟨0, 0, 0, 0, 0, 0⟩
  let slots := fun (k : Nat) => (gs.getD (ln k).group ⟨0, 0, 0, 0, 0, 0, 0⟩).slots
  let rt := fun (k : Nat) => rs.getD k ⟨0, 0, 0, 0⟩
  let out := fun (r : Route) => decide ((ln r.lane).dir = 1)
  firstErr
    [ensure (b.u16 (p + 320) ≤ 512) (0x1A, i, p + 320),
     eachOk (List.range rs.length) fun k =>
       let r := rt k
       let o := p + 324 + 4 * k
       let before := (List.range k).map rt
       firstErr
         [ensure (decide (r.lane ≤ 31) && decide ((ln r.lane).en = 1)) (0x1A, i, o),
          ensure (decide (r.slot < slots r.lane)) (0x1A, i, o + 1),
          ensure (decide (r.role < total)) (0x1A, i, o + 2),
          ensure (decide (r.word ≤ 63)) (0x1A, i, o + 3),
          ensure (decide ((ln r.lane).src = 0)) (0x1A, i, o),
          ensure (!(out r && before.any fun x => decide (x.lane = r.lane ∧ x.slot = r.slot))) (0x1A, i, o + 1),
          ensure (!(before.any fun x => decide (x.role = r.role ∧ x.word = r.word) && decide (out x = out r))) (0x1A, i, o + 3)]]

/-- Codes 0x1B to 0x1E, each where its section is present. -/
def checkCorr (b : Image) : Option FoldErr :=
  let p := b.payOf 6
  let i := b.idxOf' 6
  let pads := readPads b
  let src := fun (n : Nat) => b.u8 (p + 2 * n)
  if (b.sect 6).isNone then none
  else eachOk (List.range 96) fun n =>
    let q := b.u8 (p + 2 * n + 1)
    firstErr
      [ensure (decide (src n ≤ 3)) (0x1B, i, p + 2 * n),
       ensure (if src n = 3 then (match pads[q]? with
           | some d => decide (d.owner < 8)
           | none => false)
         else decide (q = 0)) (0x1B, i, p + 2 * n + 1),
       ensure (!(src n == 3 && decide (16 ≤ ((List.range n).filter fun k => src k == 3).length))) (0x1B, i, p + 2 * n)]

def checkPlan (b : Image) : Option FoldErr :=
  let p := b.payOf 7
  let i := b.idxOf' 7
  if (b.sect 7).isNone then none
  else firstErr
    [ensure (b.u8 p ≤ 6) (0x1C, i, p),
     eachOk (List.range 128) fun u =>
       let x := b.u8 (p + 4 + u)
       ensure (decide (x ≤ 3) || (decide (0x20 ≤ x) && decide (x ≤ 0x3F))) (0x1C, i, p + 4 + u)]

def checkGuardMap (env : FoldEnv) (b : Image) : Option FoldErr :=
  let p := b.payOf 8
  let i := b.idxOf' 8
  let n := b.u8 p
  let ls := readLanes b
  let ent := fun (c : Nat) => (b.u8 (p + 4 + 4 * c), b.u8 (p + 5 + 4 * c))
  if (b.sect 8).isNone then none
  else firstErr
    [ensure (decide (n ≤ 64)) (0x1D, i, p),
     eachOk (List.range n) fun c =>
       let e := ent c
       let d := ls.getD e.1 ⟨0, 0, 0, 0, 0, 0⟩
       ensure (decide (e.1 ≤ 31) && decide (d.en = 1) && decide (d.dir = 1) &&
         ((readRoutes b).any fun r => decide (r.lane = e.1 ∧ r.slot = e.2)) &&
         !((List.range c).any fun k => ent k == e)) (0x1D, i, p + 4 + 4 * c),
     ensure (!env.guardFused || decide (n = env.guardCount)) (0x1D, i, p)]

/-- The number of ancestors of a node, counted up to 8. -/
def treeHeight (t : List (Nat × Nat)) : Nat → Nat → Nat
  | 0, _ => 0
  | n + 1, id =>
    match t.find? fun e => decide (e.1 = id) with
    | some e => 1 + treeHeight t n e.2
    | none => 0

def checkTree (b : Image) : Option FoldErr :=
  let p := b.payOf 9
  let i := b.idxOf' 9
  let n := b.u16 p
  let t := (List.range n).map fun k => (b.u16 (p + 4 + 4 * k), b.u16 (p + 6 + 4 * k))
  if (b.sect 9).isNone then none
  else firstErr
    [ensure (n ≤ 1024) (0x1E, i, p),
     eachOk ((List.range n).zip t) fun (k, e) => firstErr
       [ensure ((evRow? e.1).isSome && !((t.take k).any fun x => decide (x.1 = e.1))) (0x1E, i, p + 4 + 4 * k),
        ensure (evRow? e.2).isSome (0x1E, i, p + 6 + 4 * k)],
     eachOk ((List.range n).zip t) fun (k, e) => ensure (treeHeight t 8 e.1 ≤ 7) (0x1E, i, p + 4 + 4 * k)]

/-- Code 0x1F: with fewer than 48 usable banks the highest logical banks have no physical bank (R67). -/
def checkBanks (env : FoldEnv) (b : Image) : Option FoldErr :=
  let pads := readPads b
  let sp := b.payOf 4
  firstErr
    [eachOk ((List.range pads.length).zip pads) fun (k, q) =>
       ensure (q.base + q.length ≤ env.banks * 131072) (0x1F, b.idxOf' 3, b.payOf 3 + 4 + 16 * k + 4),
     eachOk (List.range 48) fun lb => eachOk (List.range 16) fun s =>
       ensure (decide (lb < env.banks) || b.u8 (sp + 16 * lb + s) == 0xFF) (0x1F, b.idxOf' 4, sp + 16 * lb + s)]

/-- Every check of an image but those of the bundle and FOLD_AT, in order (R65). -/
def checkFold (env : FoldEnv) (b : Image) : Option FoldErr :=
  match checkHeader b with
  | some e => some e
  | none =>
    match checkSects env b with
    | some e => some e
    | none =>
      firstErr [checkReserved b, checkClock b, checkFlock env b, checkPads b, checkSched b, checkGroups b, checkLanes b,
        checkRoutes b, checkCorr b, checkPlan b, checkGuardMap env b, checkTree b, checkBanks env b]

end Sys2Proof.Machine
end

