-- ==== Sys2Proof/Machine/Bundle.lean ====
section
/-! DEFINITION. Bundle.lean: signed bundles: their header, section table and checks (R389 to R392, R400). -/

namespace Sys2Proof.Machine

/-- A section table entry (R391): type, arg, offset, length, destination, hash. -/
structure BSect where
  typ : Nat
  arg : Nat
  ofs : Nat
  len : Nat
  dest : Nat
  hash : List Nat
  deriving DecidableEq, Repr

/-- Fields of a bundle's header (R389). -/
def bunCount (b : Image) : Nat := b.u16 6
def bunLen (b : Image) : Nat := b.u32 8
def bunVer (b : Image) : Nat := b.u16 12
def bunKey (b : Image) : Nat := b.u8 14
def bunEarly (b : Image) : Bool := b.u8 15 % 2 == 1
def bunEntry (b : Image) : Nat := b.u32 16
def bunPub (b : Image) : List Nat := (List.range 96).map fun i => b.u8 (32 + i)
/-- The bytes of header, section table and signature. -/
def bunHead (b : Image) : Nat := 224 + 64 * bunCount b

def bunSect (b : Image) (i : Nat) : BSect :=
  let o := 128 + 64 * i
  ⟨b.u16 o, b.u16 (o + 2), b.u32 (o + 4), b.u32 (o + 8), b.u32 (o + 12), (List.range 48).map fun k => b.u8 (o + 16 + k)⟩

/-- The section table; at most 16 entries. -/
def bunSects (b : Image) : List BSect := (List.range (min (bunCount b) 16)).map (bunSect b)

/-- Two address ranges meet. -/
def rangesMeet (a la b lb : Nat) : Bool := decide (a < b + lb) && decide (b < a + la)

/-- The rules of R391 for one entry, given those before it. -/
def sectOk (b : Image) (before : List BSect) (s : BSect) : Bool :=
  let place := decide (s.ofs % 4 = 0) && decide (s.len % 4 = 0) && decide (bunHead b ≤ s.ofs) &&
    before.all fun p => decide (p.ofs < s.ofs) && decide (p.ofs + p.len ≤ s.ofs)
  let apart := before.all fun p => p.typ != s.typ || !rangesMeet p.dest p.len s.dest s.len
  place &&
  (if s.typ = 1 then s.arg == 0 && decide (s.dest + s.len ≤ 0x100000) && apart
    else if s.typ = 2 then s.arg == 0 && s.dest == 0 && decide (s.len ≤ 32768) && before.all fun p => p.typ != 2
    else if s.typ = 3 then decide (s.arg ≤ 16) && s.dest == 0 && decide (s.len ≤ 49152) &&
      (before.any fun p => p.typ == 2) && before.all fun p => !(p.typ == 3 && p.arg == s.arg)
    else if s.typ = 4 then s.arg == 0 && decide (0x18080000 ≤ s.dest) && decide (s.dest + s.len ≤ 0x18100000) && apart
    else false)

/-- Every entry in order. -/
def tableOk (b : Image) : List BSect → List BSect → Bool
  | _, [] => true
  | before, s :: r => sectOk b before s && tableOk b (before ++ [s]) r

/-- Which sections a bundle holds (R391): a refold's exactly one FOLD; a start bundle's at least one CROOK and one FOLD. -/
def kindsOk (refold : Bool) (l : List BSect) : Bool :=
  if refold then l.map (·.typ) == [2] else (l.any fun s => s.typ == 1) && l.any fun s => s.typ == 2

/-- Codes 0x01 and 0x02 (R392). -/
def bunForm (refold : Bool) (b : Image) : Option Nat :=
  let l := bunSects b
  if b.u32 0 ≠ 0x4C444E42 then some 0x01
  else if b.u16 4 ≠ 1 ∨ bunCount b < 1 ∨ 16 < bunCount b ∨ bunLen b % 4 ≠ 0 ∨ 0x04000000 < bunLen b ∨ bunLen b < bunHead b ∨
      256 < bunVer b ∨ 3 < bunKey b ∨ 2 ≤ b.u8 15 then some 0x02
  else if !((b.part 20 12).all fun x => x == 0) || !(l.all fun s => decide (s.ofs + s.len ≤ bunLen b)) || !tableOk b [] l ||
      !kindsOk refold l then some 0x02
  else none

/-! ## Keys and the counter -/

/-- A shadow row (R388). -/
def Chip.shadow (c : Chip) (row : Nat) : Nat := (KMap.get 0 row c.shp.shadow).toNat

/-- The hash of key k that the fuses hold (R386). -/
def Chip.keyHash (c : Chip) (k : Nat) : List Nat := (List.range 48).map fun i => c.shadow (1 + 12 * k + i / 4) / 2 ^ (8 * (i % 4)) % 256
def Chip.keyProg (c : Chip) (k : Nat) : Bool := (c.keyHash k).any fun x => x != 0
def Chip.keyRevoked (c : Chip) (k : Nat) : Bool := bitAt (c.shadow 0) (4 + k)

/-- Ones in a word. -/
def ones32 (v : Nat) : Nat := ((List.range 32).filter fun i => bitAt v i).length
/-- The anti-rollback counter (R400). -/
def Chip.rollback (c : Chip) : Nat := (List.range 8).foldl (fun a i => a + ones32 (c.shadow (49 + i))) 0

/-- Codes 0x03 and 0x04 for a key index and a public key. -/
def Chip.keyErr (c : Chip) (k : Nat) (pub : List Nat) : Option Nat :=
  if !c.keyProg k || sha384 pub != c.keyHash k then some 0x03
  else if c.keyRevoked k then some 0x04
  else none

/-- Codes 0x03 to 0x06, which apply in SECURED only (R384, R392). -/
def Chip.bunTrust (c : Chip) (b : Image) : Option Nat :=
  if c.lifeState ≠ 1 then none
  else
    let n := 128 + 64 * bunCount b
    match c.keyErr (bunKey b) (bunPub b) with
    | some e => some e
    | none =>
      if !ecdsaOk (bunPub b) (b.part n 96) (sha384 (b.part 0 n)) then some 0x05
      else if bunVer b < c.rollback then some 0x06
      else none

/-- Codes 0x01 to 0x06 of a bundle's header (R392). -/
def Chip.bunErr (c : Chip) (refold : Bool) (b : Image) : Option Nat :=
  match bunForm refold b with
  | some e => some e
  | none => c.bunTrust b

end Sys2Proof.Machine
end

