-- ==== Sys2Proof/Machine/Guard.lean ====
section
/-! DEFINITION. Guard.lean: the output guard (R286 to R289), the cap and the gate's hold on output words (R284, R285). -/

namespace Sys2Proof.Machine

/-- The frame-rate exponent r of R288: 0, 1, 2. -/
def Chip.rateExp (c : Chip) : Nat :=
  let r := c.get F.FOLD_STAT_rate
  if r = 3 then 0 else r

/-- Fields of the governing entry of a channel (R286). -/
def Chip.gPk (c : Chip) (ch : Nat) : Nat := (c.rd (R.GUARD_CH_FUSE ch)).toNat % 2 ^ 16
def Chip.gHlim (c : Chip) (ch : Nat) : Nat := (c.rd (R.GUARD_CH_FUSE ch)).toNat / 2 ^ 16
def Chip.gK1 (c : Chip) (ch : Nat) : Nat := field (c.rd (R.GUARD_CH_FUSE2 ch)).toNat 0 5
def Chip.gK2 (c : Chip) (ch : Nat) : Nat := field (c.rd (R.GUARD_CH_FUSE2 ch)).toNat 5 5
def Chip.gA1 (c : Chip) (ch : Nat) : Nat := field (c.rd (R.GUARD_CH_FUSE2 ch)).toNat 10 8
def Chip.gA2 (c : Chip) (ch : Nat) : Nat := field (c.rd (R.GUARD_CH_FUSE2 ch)).toNat 18 8
def Chip.gDc (c : Chip) (ch : Nat) : Nat := field (c.rd (R.GUARD_CH_FUSE2 ch)).toNat 26 6

/-- The smaller non-zero value, 0 when both are 0 (R287). -/
def minNonZero (a b : Nat) : Nat := if a = 0 then b else if b = 0 then a else min a b

/-- The effective peak ceiling C, thermal limit L and DC threshold d (R286, R287). -/
def Chip.effC (c : Chip) (ch : Nat) : Nat := min (c.gPk ch) (c.get (F.GUARD_CH_LIM_pk ch)) * 2 ^ 15 + 32767
def Chip.effL (c : Chip) (ch : Nat) : Nat := min (c.gHlim ch) (c.get (F.GUARD_CH_LIM_hlim ch)) * 2 ^ 15
def Chip.effD (c : Chip) (ch : Nat) : Nat := minNonZero (c.gDc ch) (c.get (F.GUARD_CH_CTRL_dc ch))

def Chip.guardCh (c : Chip) (ch : Nat) : GuardCh := KMap.get GuardCh.zero ch c.guard.ch
def Chip.setGuardCh (c : Chip) (ch : Nat) (g : GuardCh) : Chip :=
  { c with guard := { c.guard with ch := KMap.set GuardCh.zero ch g c.guard.ch } }

/-- LOC of a guarded channel (R275). -/
def Chip.locGuardCh (c : Chip) (ch : Nat) : Word :=
  locGuard ch (c.get (F.GUARD_CH_STAT_lane ch)) (c.get (F.GUARD_CH_STAT_slot ch))

/-- The DC latch sets where the offset has been held for more than 50 ms (R288, R289). -/
def Chip.dcLatch (c : Chip) (ch : Nat) : Chip :=
  if (c.guardCh ch).n = 2400 * 2 ^ c.rateExp + 1 ∧ !c.bit (F.GUARD_CH_STAT_dc ch) then
    (c.latch (F.GUARD_CH_STAT_dc ch)).levelOn Ev.GUARD_DC (c.locGuardCh ch) 0
  else c

/-- The DC detector of R288 on word `x`. -/
def Chip.guardDc (c : Chip) (ch : Nat) (x : Int) : Chip :=
  let g := c.guardCh ch
  let d := c.effD ch
  let m := g.m + fdiv (x - g.m) (2 ^ (8 + c.rateExp))
  let n := if d ≠ 0 ∧ d * 2 ^ 22 ≤ m.natAbs then g.n + 1 else 0
  ((c.setGuardCh ch { g with m := m, n := n, d := d }).wr (R.GUARD_CH_DCM ch) (BitVec.ofInt 32 m)).dcLatch ch

/-- The limits of R288 on word `x`: the word delivered. -/
def Chip.guardLimit (c : Chip) (ch : Nat) (x : Int) : Int × Chip :=
  if c.bit (F.GUARD_CH_STAT_dc ch) || c.bit (F.GUARD_CH_CTRL_mute ch) then (0, c)
  else
    let lim := Int.ofNat (c.effC ch)
    let y := satInt x (-lim) lim
    let c1 := if y = x then c
      else (((c.latch (F.GUARD_CH_STAT_peak ch)).bump (F.GUARD_CH_PEAK_CNT_count ch)).raise Ev.GUARD_PEAK (c.locGuardCh ch) 0)
    (if c.bit (F.GUARD_CH_STAT_trip ch) then fdiv y 4 else y, c1)

/-- The thermal model of R288 on the word delivered; a change of `trip` acts from the next frame. -/
def Chip.guardHeat (c : Chip) (ch : Nat) (y : Int) : Chip :=
  let g := c.guardCh ch
  let r := c.rateExp
  let p := fdiv (y * y) (2 ^ 31)
  let s1 := g.s1 + fdiv (p * 65536 - g.s1) (2 ^ (c.gK1 ch + r))
  let s2 := g.s2 + fdiv (p * 65536 - g.s2) (2 ^ (c.gK2 ch + r))
  let h := min (fdiv (Int.ofNat (c.gA1 ch) * s1 + Int.ofNat (c.gA2 ch) * s2) (2 ^ 23)) (2 ^ 32 - 1)
  let lim := Int.ofNat (c.effL ch)
  let t0 := c.bit (F.GUARD_CH_STAT_trip ch)
  let t1 := if lim ≤ h then true else t0
  let t2 := if h < fdiv lim 2 then false else t1
  let c1 := ((c.setGuardCh ch { g with s1 := s1, s2 := s2 }).wr (R.GUARD_CH_HEAT ch) (BitVec.ofInt 32 h)).putB
    (F.GUARD_CH_STAT_trip ch) t2
  if t2 then c1.levelOn Ev.GUARD_THERMAL (c.locGuardCh ch) 0 else c1.levelOff Ev.GUARD_THERMAL (c.locGuardCh ch)

/-- One guarded channel at a frame boundary (R288). -/
def Chip.guardWord (c : Chip) (ch : Nat) (o : Word) : Word × Chip :=
  let c1 := c.guardDc ch o.toInt
  let (y, c2) := c1.guardLimit ch o.toInt
  (BitVec.ofInt 32 y, c2.guardHeat ch y)

/-- The guarded channel of an output slot, in the fold in force. -/
def Chip.guardOf (c : Chip) (lane slot : Nat) : Option Nat :=
  match c.fold.cur with
  | some f => f.guard.findIdx? fun e => decide (e = (lane, slot))
  | none => none

/-- The cap of R285 for a slot of width `w`. -/
def capOf (w : Nat) : Nat := 0x0CCCCCCC - 0x0CCCCCCC % 2 ^ (32 - w)

/-- What an output slot of width `w` sends for a word, by the gate (R284) and the cap (R285). -/
def Chip.gateWord (c : Chip) (w : Nat) (v : Word) : Word :=
  if !c.bit F.GUARD_GATE_audio then 0
  else if c.bit F.GUARD_GATE_cap then BitVec.ofInt 32 (satInt v.toInt (-Int.ofNat (capOf w)) (Int.ofNat (capOf w)))
  else v

/-- A write of GUARD_CH_STAT: `peak` is W1C; `dc` clears the latch only as R289 allows. -/
def Chip.writeChStat (c : Chip) (ch : Nat) (v : Word) : Chip :=
  let c1 := if (F.GUARD_CH_STAT_peak ch).ofB v then c.w1c (F.GUARD_CH_STAT_peak ch) else c
  let g := c1.guardCh ch
  if (F.GUARD_CH_STAT_dc ch).ofB v && c1.bit (F.GUARD_CH_STAT_dc ch) && (decide (g.d = 0) || decide (g.m.natAbs < g.d * 2 ^ 22)) then
    let c2 := c1.w1c (F.GUARD_CH_STAT_dc ch)
    if c2.bit (F.GUARD_CH_STAT_dc ch) then c2 else c2.levelOff Ev.GUARD_DC (c.locGuardCh ch)
  else c1

end Sys2Proof.Machine
end

