-- ==== Sys2Proof/Machine/Ports.lean ====
section
/-! DEFINITION. Ports.lean: lanes, clock groups and alignment groups (R207 to R233). Words are moved whole; the
edges of BCK, FSY and the data inside a serial frame (R208, R212) stand in Pins.lean. -/

namespace Sys2Proof.Machine

def laneStopped : Nat := 0
def laneStarting : Nat := 1
def laneRunning : Nat := 2
def laneStopping : Nat := 3

def Chip.lane (c : Chip) (n : Nat) : Lane := KMap.get Lane.zero n c.prt.lanes
def Chip.grp (c : Chip) (g : Nat) : Grp := KMap.get Grp.zero g c.prt.grps
def Chip.setGrp (c : Chip) (g : Nat) (x : Grp) : Chip :=
  { c with prt := { c.prt with grps := KMap.set Grp.zero g x c.prt.grps } }
def Chip.align (c : Chip) (a : Nat) : AlignSt := KMap.get AlignSt.zero a c.prt.aligns
def Chip.setAlign (c : Chip) (a : Nat) (x : AlignSt) : Chip :=
  { c with prt := { c.prt with aligns := KMap.set AlignSt.zero a x c.prt.aligns } }

/-- The words of enabled slots between a lane's two sides (R217). A frame-locked lane keeps them by slot; a converter's channels are
not its buffer (assumption 137). -/
def Lane.fill (l : Lane) (mask : Nat) : Nat :=
  l.buf.length + l.inCur.length + l.inPrev.length + ((l.outCur ++ l.outNext).filter fun e => bitAt mask e.1).length

/-- Set a lane; `fill` follows its buffer. -/
def Chip.setLane (c : Chip) (n : Nat) (l : Lane) : Chip :=
  ({ c with prt := { c.prt with lanes := KMap.set Lane.zero n l c.prt.lanes } }).put (F.PRT_LANE_STAT_fill n)
    (l.fill (c.get (F.PRT_LANE_MASK_active n)))

/-! ## What the fold fixed -/

def Chip.laneEn (c : Chip) (n : Nat) : Bool := c.bit (F.PRT_LANE_CFG_en n)
def Chip.laneOut (c : Chip) (n : Nat) : Bool := c.bit (F.PRT_LANE_CFG_dir n)
def Chip.laneDma (c : Chip) (n : Nat) : Bool := c.bit (F.PRT_LANE_CFG_src n)
def Chip.laneGrp (c : Chip) (n : Nat) : Nat := c.get (F.PRT_LANE_CFG_group n)
def Chip.laneLocked (c : Chip) (n : Nat) : Bool := c.bit (F.PRT_LANE_CFG_locked n)
def Chip.laneState (c : Chip) (n : Nat) : Nat := c.get (F.PRT_LANE_STAT_state n)
def Chip.grpEn (c : Chip) (g : Nat) : Bool := c.bit (F.PRT_GRP_CFG_en g)
def Chip.grpMaster (c : Chip) (g : Nat) : Bool := c.bit (F.PRT_GRP_CFG_role g)
def Chip.grpAsrc (c : Chip) (g : Nat) : Bool := c.bit (F.PRT_GRP_CFG_asrc g)
def Chip.grpSlots (c : Chip) (g : Nat) : Nat := c.get (F.PRT_GRP_CFG_slots g)
def Chip.grpWidth (c : Chip) (g : Nat) : Nat := c.get (F.PRT_GRP_CFG_width g)
def Chip.halted (c : Chip) (g : Nat) : Bool := c.bit (F.PRT_GRP_STAT_halted g)

/-- The enabled lanes of a clock group, and of an alignment group. -/
def Chip.lanesOf (c : Chip) (g : Nat) : List Nat := (List.range 32).filter fun n => c.laneEn n && decide (c.laneGrp n = g)
def Chip.grpAlign (c : Chip) (g : Nat) : Nat := c.get (F.PRT_GRP_CFG_align g)
def Chip.alignLanes (c : Chip) (a : Nat) : List Nat :=
  (List.range 32).filter fun n => c.laneEn n && decide (c.grpAlign (c.laneGrp n) = a)

/-- The enabled slots of a mask, in ascending order. -/
def slotsOf (mask : Nat) : List Nat := (List.range 16).filter fun s => bitAt mask s
/-- The slots that the mask in force enables. -/
def Chip.activeSlots (c : Chip) (n : Nat) : List Nat := slotsOf (c.get (F.PRT_LANE_MASK_active n))

/-- Does the group's serial side run: enabled, not halted, with a clock (R207, R211, R214)? -/
def Chip.grpRuns (c : Chip) (g : Nat) : Bool := c.grpEn g && !c.halted g && c.bit (F.PRT_GRP_STAT_clk_ok g)

/-- The bits of a slot of width `w` (R215). -/
def cutWord (w : Nat) (v : Word) : Word := v &&& BitVec.ofNat 32 (2 ^ 32 - 2 ^ (32 - w))

/-! ## Alignment and slips -/

/-- An alignment group loses alignment (R232). -/
def Chip.setLost (c : Chip) (a : Nat) : Chip :=
  if 8 ≤ a ∨ c.bit (F.PRT_ALIGN_CTRL_lost a) then c
  else (c.put (F.PRT_ALIGN_CTRL_lost a) 1).raise Ev.PRT_ALIGN_LOST (locAlign a) 0

/-- A slip on a lane at a slot (R218, R219): `under` an underrun, else an overrun. -/
def Chip.slip (c : Chip) (n slot : Nat) (under : Bool) : Chip :=
  let l := c.lane n
  let told := if under then l.slipU else l.slipO
  let c1 := c.put (F.PRT_LANE_STAT_shift n) (c.get (F.PRT_LANE_STAT_shift n) + (if under then 1 else 255))
  let c2 := if under then (c1.latch (F.PRT_LANE_STAT_udr n)).bump (F.PRT_LANE_SLIP_udr_cnt n)
    else (c1.latch (F.PRT_LANE_STAT_ovr n)).bump (F.PRT_LANE_SLIP_ovr_cnt n)
  let c3 := if told then c2
    else (c2.setLane n (if under then { l with slipU := true } else { l with slipO := true })).raise
      (if under then Ev.PRT_UNDERRUN else Ev.PRT_OVERRUN) (locLane n slot) 0
  c3.setLost (c3.grpAlign (c3.laneGrp n))

/-- A word enters a slip-capable lane's buffer; a full buffer discards it (R218), which is no slip while the lane waits for its fill
level (R221). -/
def Chip.pushWord (c : Chip) (n slot : Nat) (v : Word) : Chip :=
  let l := c.lane n
  if l.buf.length < 64 then c.setLane n { l with buf := l.buf ++ [v] }
  else if c.bit (F.PRT_LANE_STAT_waiting n) then c
  else c.slip n slot false

/-- A word leaves the buffer; an empty one gives zero (R218). -/
def Chip.popWord (c : Chip) (n slot : Nat) : Word × Chip :=
  let l := c.lane n
  match l.buf with
  | [] => (0, c.slip n slot true)
  | v :: r => (v, c.setLane n { l with buf := r })

/-- The fill level at which a lane begins to pass words (R221). -/
def Chip.fillLevel (c : Chip) (n : Nat) : Nat :=
  let k := (c.activeSlots n).length
  let lvl := c.get (F.PRT_LANE_CTRL_lvl n)
  if lvl = 0 ∨ lvl < k ∨ 64 - k < lvl then 2 * k else lvl

/-! ## The frame side -/

/-- How long a converter's channels can look back: 64 serial frames at 8 kHz, the slowest FSY (R222), and a frame. -/
def histSpan : Int := 64 * 368640 + 61440

/-- A word enters a channel of the converter. -/
def Lane.record (l : Lane) (slot : Nat) (t : Int) (v : Word) : Lane :=
  { l with hist := KMap.set [] slot (((t, v) :: KMap.get [] slot l.hist).filter fun e => decide (t - histSpan ≤ e.1)) l.hist }

/-- The serial frame period of a group over its last 16 serial frames, in root cycles; 0 until measured (R222). -/
def Grp.period (x : Grp) : Rat :=
  match x.starts[0]?, x.starts[16]? with
  | some a, some b => ((a - b : Int) : Rat) / 16
  | _, _ => 0

/-- The signal of a channel at the instant `t`, its words `p` apart; a channel without words is silent. -/
def Lane.signal (l : Lane) (ratio slot : Nat) (t p : Rat) : Word :=
  match KMap.get [] slot l.hist with
  | [] => 0
  | h => Config.resample ratio (h.map fun e => (((e.1 : Rat) - t) / p, e.2))

/-- The mask in force on a converter's lane at an instant; `now` where nothing older is kept. -/
def Lane.maskAt (l : Lane) (t : Rat) (now : Nat) : Nat :=
  match l.maskLog.find? fun e => decide ((e.1 : Rat) ≤ t) with
  | some e => e.2
  | none => match l.maskLog.getLast? with
    | some e => e.2
    | none => now

/-- What an input lane delivers at a frame boundary through its converter (R222, R223): the signal one frame and 32 serial frames ago, in
the slots enabled then; zero words without lock. -/
def Chip.asrcIn (c : Chip) (n : Nat) : KMap Word :=
  let g := c.laneGrp n
  let p := (c.grp g).period
  let t : Rat := ((c.now : Int) : Rat) - ((c.framePeriod : Int) : Rat) - 32 * p
  let l := c.lane n
  if !c.bit (F.PRT_GRP_STAT_asrc_lock g) then []
  else (slotsOf (l.maskAt t (c.get (F.PRT_LANE_MASK_active n)))).foldl (fun m s =>
    KMap.set 0 s (l.signal (c.rd (R.PRT_GRP_RATIO g)).toNat s t p) m) []

/-- What an output lane sends in a slot through its converter (R222, R223): the signal one frame and 32 serial frames before the serial
frame; a zero word without lock. -/
def Chip.asrcOut (c : Chip) (n slot : Nat) : Word :=
  let g := c.laneGrp n
  let x := c.grp g
  let f : Rat := ((c.framePeriod : Int) : Rat)
  let t : Rat := ((x.starts.headD c.now : Int) : Rat) - f - 32 * x.period
  if !c.bit (F.PRT_GRP_STAT_asrc_lock g) then 0
  else (c.lane n).signal (c.rd (R.PRT_GRP_RATIO g)).toNat slot t f

/-- The words an input lane pops for its enabled slots (R217, R218). -/
def Chip.popSlots (c : Chip) (n : Nat) : List Nat → KMap Word × Chip
  | [] => ([], c)
  | s :: r =>
    let (v, c1) := c.popWord n s
    let (m, c2) := Chip.popSlots c1 n r
    (KMap.set 0 s v m, c2)

/-- Does the lane's frame side run: RUNNING, or STOPPING after a start that was not cancelled (R228, R231)? -/
def Chip.laneLive (c : Chip) (n : Nat) : Bool :=
  (decide (c.laneState n = laneRunning) || decide (c.laneState n = laneStopping)) &&
    (c.lane n).startAt.isNone && !(c.lane n).trig

/-- The words of a lane's slots; a missing one is zero. -/
def wordsOf (m : KMap (Option Word)) : KMap Word := m.foldl (fun k e => KMap.set 0 e.1 (e.2.getD 0) k) []

/-- A word for every slot of a group: those that no route feeds are zero words (R216). -/
def slotWords (slots : Nat) (m : KMap Word) : KMap (Option Word) :=
  (List.range slots).foldl (fun k s => KMap.set none s (some (KMap.get 0 s m)) k) []

/-- What an input lane with `src` = 0 delivers at a frame boundary (R216, R217, R220 to R223). -/
def Chip.inputSide (c : Chip) (n : Nat) : Chip :=
  let l := c.lane n
  let g := c.laneGrp n
  if !c.laneLive n || c.bit (F.PRT_LANE_STAT_waiting n) then c.setLane n { l with side := [], inPrev := l.inCur, inCur := [] }
  else if !c.laneLocked n then
    let (m, c1) := c.popSlots n (c.activeSlots n)
    c1.setLane n { c1.lane n with side := m }
  else if c.grpAsrc g then c.setLane n { l with side := c.asrcIn n }
  else c.setLane n { l with side := wordsOf l.inPrev, inPrev := l.inCur, inCur := [] }

/-- What an output lane with `src` = 0 does with the words taken at a frame boundary (R217, R220). -/
def Chip.outputSide (c : Chip) (n : Nat) : Chip :=
  let l := c.lane n
  if !c.laneLive n then c
  else if c.grpAsrc (c.laneGrp n) then
    c.setLane n ((c.activeSlots n).foldl (fun l s => l.record s c.now (KMap.get 0 s l.side)) l)
  else if c.laneLocked n then c.setLane n { l with outNext := slotWords (c.grpSlots (c.laneGrp n)) l.side }
  else (c.activeSlots n).foldl (fun c s => c.pushWord n s (KMap.get 0 s l.side)) c

/-- A serial frame starts on a lane: words taken one boundary earlier go out (R220), slip reports start anew, pending masks
count down, and a lane that started or stopped takes part from here or no more (R225, R227, R228). -/
def Chip.serialFrame (c : Chip) (n : Nat) : Chip :=
  let l := c.lane n
  let live := c.laneLive n
  let buf := if l.serialOn && !live && !(c.laneOut n && c.laneDma n) then [] else l.buf
  c.setLane n { l with
    buf := buf
    outCur := l.outNext
    outNext := []
    slipU := false
    slipO := false
    serialOn := live
    serialPrev := l.serialOn
    maskPrev := c.get (F.PRT_LANE_MASK_active n)
    maskPend := l.maskPend.map fun p => (p.1, p.2 - 1) }

/-- A mask comes into force on a converter's lane: the channel of a slot newly enabled starts from zero history (R224). -/
def Lane.newMask (l : Lane) (t : Int) (old new : Nat) : Lane :=
  { l with
    hist := KMap.keep (fun s => bitAt old s || !bitAt new s) l.hist
    maskLog := ((t, new) :: (if l.maskLog.isEmpty then [(t - histSpan, old)] else l.maskLog)).filter fun e => decide (t - 2 * histSpan ≤ e.1) }

/-- MASK_APPLY (R225): an accepted mask whose serial frame has started is in force. -/
def Chip.maskApply (c : Chip) (n : Nat) : Chip :=
  let l := c.lane n
  match (l.maskPend.filter fun p => decide (p.2 = 0)).getLast? with
  | none => c
  | some p =>
    let l1 := { l with maskPend := l.maskPend.filter fun q => !decide (q.2 = 0) }
    let l2 := if c.grpAsrc (c.laneGrp n) then l1.newMask c.now (c.get (F.PRT_LANE_MASK_active n)) p.1 else l1
    (c.put (F.PRT_LANE_MASK_active n) p.1).setLane n l2

/-! ## The serial side -/

/-- The word an output lane sends in an enabled slot (R216 to R218, R222); zero from Z of a shutdown test (R425), and where a fold load
mutes the lane (R71). -/
def Chip.serialOut (c : Chip) (n slot : Nat) : Word × Chip :=
  let l := c.lane n
  if !l.serialOn || c.bit (F.PRT_LANE_STAT_waiting n) || decide (c.now < l.muteTo) || decide (2 ≤ c.get F.BST_STAT_shut) then (0, c)
  else if !c.laneLocked n then c.popWord n slot
  else if c.grpAsrc (c.laneGrp n) then (c.asrcOut n slot, c)
  else ((KMap.get none slot l.outCur).getD 0, c.setLane n { l with outCur := KMap.set none slot none l.outCur })

/-- Is a slot's word that completes now of the serial frame before: the last slot's in I²S and TDM (R212)? -/
def Chip.lateSlot (c : Chip) (g slot : Nat) : Bool := decide (c.get (F.PRT_GRP_CFG_fmt g) ≠ 1 ∧ slot + 1 = c.grpSlots g)

/-- An input lane completes a word of a serial frame in which it took part (R215, R217, R220). -/
def Chip.serialIn (c : Chip) (n slot : Nat) (v : Word) : Chip :=
  let l := c.lane n
  let g := c.laneGrp n
  let late := c.lateSlot g slot
  if !(if late then l.serialPrev && l.serialOn else l.serialOn) then c
  else if c.grpAsrc g then
    match (c.grp g).starts[if late then 1 else 0]? with
    | some t => c.setLane n (l.record slot t v)
    | none => c
  else if !c.laneLocked n then c.pushWord n slot v
  else if late then c.setLane n { l with inPrev := KMap.set none slot (some v) l.inPrev }
  else c.setLane n { l with inCur := KMap.set none slot (some v) l.inCur }

/-- Is the slot enabled in the serial frame whose word completes, or begins, now (R216, R225)? -/
def Chip.slotOn (c : Chip) (n slot : Nat) : Bool :=
  if !c.laneOut n && c.lateSlot (c.laneGrp n) slot then bitAt (c.lane n).maskPrev slot else (c.activeSlots n).contains slot

/-- SERIAL_WORD: a slot word completes on an input lane or begins on an output lane (R215 to R218, R284, R285). -/
def Chip.serialWord (c : Chip) (n slot : Nat) (v : Word) : Chip :=
  let g := c.laneGrp n
  if !c.laneEn n || !c.grpRuns g || decide (c.grpSlots g ≤ slot) then c
  else
    let on := c.slotOn n slot
    if c.laneOut n then
      if !on then c.setLane n { c.lane n with pin := none }
      else
        let (w, c1) := c.serialOut n slot
        c1.setLane n { c1.lane n with pin := some (cutWord (c.grpWidth g) (c.gateWord (c.grpWidth g) w)) }
    else if on then c.serialIn n slot (cutWord (c.grpWidth g) v) else c

/-- May a waiting lane begin to pass words now (R221): an input lane at a frame boundary, an output lane as a serial frame begins? -/
def Chip.fillInstant (c : Chip) (n : Nat) : Bool :=
  if c.laneOut n then decide ((c.grp (c.laneGrp n)).starts.head? = some (Int.ofNat c.now)) else c.onBoundary

/-- LANE_FILL_REACHED (R221): a waiting lane whose buffer holds its fill level begins to pass words; an input lane pops those of this
boundary. -/
def Chip.laneFill (c : Chip) (n : Nat) : Chip :=
  if !c.laneEn n || !c.bit (F.PRT_LANE_STAT_waiting n) || !c.fillInstant n || decide ((c.lane n).buf.length < c.fillLevel n) then c
  else
    let c1 := c.put (F.PRT_LANE_STAT_waiting n) 0
    if c.laneOut n then c1 else c1.inputSide n

/-! ## Start and stop of lanes -/

/-- A lane starts at this boundary (R227, R230, R221): `trig` by a trigger. -/
def Chip.startLane (c : Chip) (n : Nat) (trig : Bool) : Chip :=
  let l := c.lane n
  let g := c.laneGrp n
  let keep := c.laneOut n && c.laneDma n
  let l1 : Lane := { l with
    buf := if keep then l.buf else []
    inCur := []
    inPrev := []
    outCur := []
    outNext := []
    startAt := none
    trig := false
    hist := []
    maskLog := []
    serialOn := c.grpMaster g
    serialPrev := false }
  let c1 := ((((c.setLane n l1).put (F.PRT_LANE_STAT_shift n) 0).put (F.PRT_LANE_CTRL_start n) 0).put (F.PRT_LANE_STAT_state n)
    (if l.stopAt.isSome then laneStopping else laneRunning)).putB (F.PRT_LANE_STAT_waiting n)
      (!c.laneLocked n && !c.laneDma n)
  let c2 := if c.laneOut n && !c.laneDma n then c1.outputSide n else c1
  if !trig && !c.laneLocked n then c2.setLost (c2.grpAlign g) else c2

/-- Is a pending start, or stop, due at this boundary? -/
def dueAt (now : Nat) : Option Nat → Bool
  | some t => decide (t ≤ now)
  | none => false

/-- LANE_START (R227, R228): a stop due no later has cancelled it. A triggered start is TRIGGERED_START's. -/
def Chip.laneStart (c : Chip) (n : Nat) : Chip :=
  let l := c.lane n
  if c.onBoundary && dueAt c.now l.startAt && !dueAt c.now l.stopAt && !l.trig then c.startLane n false else c

/-- The `stop` bit of an alignment group reads 1 until every lane it stops has stopped (R231). -/
def Chip.settleAlign (c : Chip) (a : Nat) : Chip :=
  if (c.alignLanes a).all fun n => (c.lane n).stopAt.isNone then c.put (F.PRT_ALIGN_CTRL_stop a) 0 else c

/-- LANE_STOP (R228). -/
def Chip.laneStop (c : Chip) (n : Nat) : Chip :=
  let l := c.lane n
  if !c.onBoundary || !dueAt c.now l.stopAt then c
  else
    let g := c.laneGrp n
    let now := c.grpMaster g || !l.serialOn
    let keep := c.laneOut n && c.laneDma n
    let l1 : Lane := { l with
      buf := if now && !keep then [] else l.buf
      startAt := none
      stopAt := none
      trig := false
      serialOn := if now then false else l.serialOn
      hist := []
      inCur := []
      inPrev := []
      outNext := []
      outCur := if now then [] else l.outCur
      side := [] }
    let c1 := ((((c.setLane n l1).put (F.PRT_LANE_CTRL_start n) 0).put (F.PRT_LANE_CTRL_stop n) 0).put
      (F.PRT_LANE_STAT_state n) laneStopped).put (F.PRT_LANE_STAT_waiting n) 0
    let a := c1.grpAlign g
    if a < 8 then c1.settleAlign a else c1

/-- A write of 1 to PRT_LANE_CTRL.start (R227); none has an effect from B to R of a load (R71, assumption 136). -/
def Chip.askStart (c : Chip) (n : Nat) : Chip :=
  if !c.laneEn n || decide (c.laneState n ≠ laneStopped) || c.halted (c.laneGrp n) || decide (c.get F.FOLD_STAT_state = 3) then c
  else (((c.setLane n { c.lane n with startAt := some (c.now + 2 * c.framePeriod), trig := false }).put
    (F.PRT_LANE_STAT_state n) laneStarting).put (F.PRT_LANE_CTRL_start n) 1)

/-- A write of 1 to PRT_LANE_CTRL.stop (R228). -/
def Chip.askStop (c : Chip) (n : Nat) : Chip :=
  let st := c.laneState n
  if !c.laneEn n || !(decide (st = laneStarting) || decide (st = laneRunning)) then c
  else (((c.setLane n { c.lane n with stopAt := some (c.now + c.framePeriod) }).put
    (F.PRT_LANE_STAT_state n) laneStopping).put (F.PRT_LANE_CTRL_stop n) 1)

/-- Is a lane, or a clock group, disabled in the fold in force? Its registers read their reset values (R60). -/
def Chip.laneOff (c : Chip) (n : Nat) : Bool := c.bit F.FOLD_STAT_loaded && !c.laneEn n
def Chip.grpOff (c : Chip) (g : Nat) : Bool := c.bit F.FOLD_STAT_loaded && !c.grpEn g

/-- A write of PRT_LANE_CTRL: `lvl`, then `start`, then `stop`. -/
def Chip.writeLaneCtrl (c : Chip) (n : Nat) (v : Word) : Chip :=
  if c.laneOff n then c else
  let c1 := c.put (F.PRT_LANE_CTRL_lvl n) ((F.PRT_LANE_CTRL_lvl n).of v)
  let c2 := if (F.PRT_LANE_CTRL_start n).ofB v then c1.askStart n else c1
  if (F.PRT_LANE_CTRL_stop n).ofB v then c2.askStop n else c2

/-! ## Masks -/

/-- The mask a lane will have: the one last accepted. -/
def Chip.maskOf (c : Chip) (n : Nat) : Nat := c.get (F.PRT_LANE_MASK_mask n)

/-- The lane and slot of each converter channel of a group, channel 0 first (R222), with lane `n` at mask `m`. -/
def Chip.asrcChannels (c : Chip) (g n m : Nat) : List (Nat × Nat) :=
  (c.lanesOf g).flatMap fun i => (slotsOf (if i = n then m else c.maskOf i)).map fun s => (i, s)

/-- The root cycle within a frame of BCK falling edge `i` of a master group's serial frame: the one nearest to i × R_F / b, of two the
earlier (R208). -/
def Chip.fallEdge (c : Chip) (g i : Nat) : Nat :=
  let b := c.grpSlots g * c.grpWidth g
  (2 * i * c.framePeriod + b - 1) / (2 * b)

/-- Root cycles since the last frame boundary. -/
def Chip.sinceBoundary (c : Chip) : Nat := c.now + c.framePeriod - c.boundaryRoot

/-- The BCK falling edge at which the MSB of a slot is launched (R212). -/
def Chip.slotEdge (c : Chip) (g slot : Nat) : Nat :=
  slot * c.grpWidth g + (if c.get (F.PRT_GRP_CFG_fmt g) = 1 then 0 else 1)

/-- Does a mask accepted now wait for the serial frame after the next (R225): at or after the latch point, which a master group's own
edges give and a slave's BCK (`late`)? -/
def Chip.maskLate (c : Chip) (g : Nat) (late : Bool) : Bool :=
  if !c.grpRuns g then false
  else if c.grpMaster g then decide (c.fallEdge g (c.slotEdge g (c.grpSlots g - 1)) ≤ c.sinceBoundary)
  else late

/-- A write of PRT_LANE_MASK (R225, R226): `late`: in a slave group, at or after the latch point of the serial frame in progress. -/
def Chip.writeMask (c : Chip) (n : Nat) (v : Word) (late : Bool) : Chip :=
  let m := (F.PRT_LANE_MASK_mask n).of v
  let g := c.laneGrp n
  let slots := if c.laneEn n then c.grpSlots g else 0
  if c.laneOff n then c
  else if (!c.laneLocked n && decide (c.laneState n ≠ laneStopped)) || decide (2 ^ slots ≤ m) ||
      (c.laneEn n && c.grpAsrc g && decide (16 < (c.asrcChannels g n m).length)) then
    (c.latch (F.PRT_LANE_STAT_mask_ref n)).raise Ev.PRT_REFUSED (locLaneAll n) 0
  else (c.put (F.PRT_LANE_MASK_mask n) m).setLane n
    { c.lane n with maskPend := (c.lane n).maskPend ++ [(m, if c.maskLate g late then 2 else 1)] }

/-! ## Clock groups -/

/-- A write of PRT_GRP_CTRL_g.halt (R211). -/
def Chip.writeHalt (c : Chip) (g : Nat) (v : Word) : Chip :=
  let want := (F.PRT_GRP_CTRL_halt g).ofB v
  let x := c.grp g
  let a := c.grpAlign g
  if c.grpOff g || want == c.bit (F.PRT_GRP_CTRL_halt g) then c
  else if want then
    if x.relAt.isSome then (c.setGrp g { x with relAt := none }).put (F.PRT_GRP_CTRL_halt g) 1
    else if (c.lanesOf g).all (fun n => decide (c.laneState n = laneStopped)) && !(decide (a < 8) && (c.align a).trigAt.isSome) then
      (c.setGrp g { x with haltAt := some (c.now + c.framePeriod) }).put (F.PRT_GRP_CTRL_halt g) 1
    else (c.latch (F.PRT_GRP_STAT_halt_ref g)).raise Ev.PRT_REFUSED (locGroup g) 0
  else
    let c1 := c.put (F.PRT_GRP_CTRL_halt g) 0
    if x.haltAt.isSome then c1.setGrp g { x with haltAt := none }
    else c1.setGrp g { x with relAt := some (c.now + 2 * c.framePeriod) }

/-- GROUP_HALT_EFFECT (R211). -/
def Chip.haltEffect (c : Chip) (g : Nat) : Chip :=
  let x := c.grp g
  if !c.onBoundary || !dueAt c.now x.haltAt then c
  else
    let c1 := (c.setGrp g { x with haltAt := none, seen := false, good := 0 }).put (F.PRT_GRP_STAT_halted g) 1
    (c1.put (F.PRT_GRP_STAT_clk_ok g) 0).levelOff Ev.PRT_CLK_LOSS (locGroup g)

/-- 250 µs, after which a slave group without a frame start is without clock (R214). -/
def clockWait : Nat := 737280

/-- GROUP_RELEASE_EFFECT (R211, R214). -/
def Chip.releaseEffect (c : Chip) (g : Nat) : Chip :=
  let x := c.grp g
  if !c.onBoundary || !dueAt c.now x.relAt then c
  else
    let loss := if c.grpEn g && !c.grpMaster g then some (c.now + clockWait) else none
    let c1 := (c.setGrp g { x with relAt := none, seen := false, good := 0, lossAt := loss }).put (F.PRT_GRP_STAT_halted g) 0
    if c.grpEn g && c.grpMaster g then c1.put (F.PRT_GRP_STAT_clk_ok g) 1 else c1

/-- A converter loses lock (R222). -/
def Chip.asrcUnlock (c : Chip) (g : Nat) : Chip :=
  if c.bit (F.PRT_GRP_STAT_asrc_lock g) then
    (c.put (F.PRT_GRP_STAT_asrc_lock g) 0).raise Ev.PRT_ASRC_LOCK (locGroup g) 0
  else c

/-- A slave group is without clock (R214): no frame start for 250 µs. -/
def Chip.loseClock (c : Chip) (g : Nat) : Chip :=
  let c1 := c.setGrp g { c.grp g with seen := false, good := 0, starts := [], ratios := [], lossAt := none }
  (((c1.put (F.PRT_GRP_STAT_clk_ok g) 0).latch (F.PRT_GRP_STAT_clk_loss g)).levelOn Ev.PRT_CLK_LOSS (locGroup g) 0).asrcUnlock g

/-- May the 250 µs of a group end before the next frame boundary? -/
def Chip.lossDue (c : Chip) (g : Nat) : Bool := dueAt c.boundaryRoot (c.grp g).lossAt

/-- Time moves to the end of the 250 µs, where that lies ahead. -/
def Chip.toLoss (c : Chip) (g : Nat) : Chip :=
  match (c.grp g).lossAt with
  | some t => c.advanceTo t
  | none => c

/-- SLAVE_CLOCK_LOSS (R214), when the 250 µs end. -/
def Chip.clockLoss (c : Chip) (g : Nat) : Chip :=
  if !c.grpEn g || c.grpMaster g || c.halted g || !c.lossDue g then c else (c.toLoss g).loseClock g

/-- A frame start `x.starts.head?` is measured (R222): the FSY rate over 16 serial frames divided by F, in 8.24. -/
def Chip.measure (c : Chip) (g : Nat) : Chip :=
  let x := c.grp g
  match x.starts[0]?, x.starts[16]? with
  | some a, some b =>
    if !c.grpAsrc g || decide (a ≤ b) then c
    else
      let r := 16 * c.framePeriod * 2 ^ 24 / (a - b).toNat
      (c.setGrp g { x with ratios := (r :: x.ratios).take 64 }).wr (R.PRT_GRP_RATIO g) (BitVec.ofNat 32 r)
  | _, _ => c

/-- A frame start is checked against the prediction (R213, R214). -/
def Chip.judgeFrame (c : Chip) (g bits : Nat) : Chip :=
  let x := c.grp g
  if !x.seen then c.setGrp g { x with seen := true, good := 0 }
  else if bits = c.grpSlots g * c.grpWidth g then
    let good := x.good + 1
    let c2 := c.setGrp g { x with good := good }
    if 2 ≤ good then (c2.put (F.PRT_GRP_STAT_clk_ok g) 1).levelOff Ev.PRT_CLK_LOSS (locGroup g) else c2
  else (((c.setGrp g { x with good := 0 }).latch (F.PRT_GRP_STAT_fsy_err g)).bump (F.PRT_GRP_FERR_count g)).raise
    Ev.PRT_FRAMING (locGroup g) 0

/-- FRAME_START (R213, R214, R221, R222): a slave group detects a frame start `bits` bit periods after the previous one, `phase` root
cycles after the frame boundary where that still lies ahead, else now. A clock that was lost before it is lost first. -/
def Chip.frameStart (c : Chip) (g bits : Nat) (phase : Nat) : Chip :=
  if !c.grpEn g || c.grpMaster g || c.halted g then c
  else
    let ca := if phase < c.framePeriod then c.advanceTo (c.now - c.sinceBoundary + phase) else c
    let cb := if dueAt ca.now (ca.grp g).lossAt then ca.loseClock g else ca
    let x := cb.grp g
    let cc := cb.setGrp g { x with starts := (Int.ofNat cb.now :: x.starts).take 17, lossAt := some (cb.now + clockWait) }
    let c1 := ((cc.put (F.PRT_GRP_PHASE_phase g) cc.sinceBoundary).judgeFrame g bits).measure g
    (c1.lanesOf g).foldl Chip.serialFrame c1

/-- Have the measured ratios stayed within 10 ppm for 64 frames (R222)? -/
def steadyRatios (l : List Nat) : Bool :=
  decide (64 ≤ l.length) && l.all fun a => l.all fun b => decide ((a - b) * 100000 ≤ b)

/-- Has the ratio moved by more than 1 % within 16 serial frames (R222)? -/
def movedRatio : List Nat → Bool
  | [] => false
  | a :: r => (r.take 16).any fun b => decide (b < 100 * ((a - b) + (b - a)))

/-- ASRC_LOCK_CHANGE (R222): the converter gains lock on a steady ratio, or loses it when the ratio moves or no frame start has come. -/
def Chip.asrcLock (c : Chip) (g : Nat) (locked : Bool) (ratio : Word) : Chip :=
  if !c.grpEn g || !c.grpAsrc g || decide (c.bit (F.PRT_GRP_STAT_asrc_lock g) = locked) || decide (c.rd (R.PRT_GRP_RATIO g) ≠ ratio) then c
  else if !locked then
    if movedRatio (c.grp g).ratios then c.asrcUnlock g
    else if c.lossDue g then
      if c.halted g then (c.toLoss g).asrcUnlock g else (c.toLoss g).loseClock g
    else c
  else if c.halted g || !steadyRatios (c.grp g).ratios then c
  else (c.put (F.PRT_GRP_STAT_asrc_lock g) 1).raise Ev.PRT_ASRC_LOCK (locGroup g) 0

/-! ## Alignment groups -/

/-- A write of 1 to PRT_ALIGN_CTRL_a.go (R230). -/
def Chip.askTrigger (c : Chip) (a : Nat) : Chip :=
  let t := c.rd64 (R.PRT_ALIGN_AT_LO a) (R.PRT_ALIGN_AT_HI a)
  let lanes := c.alignLanes a
  let haltedGrp := (List.range 8).any fun g => c.grpEn g && decide (c.grpAlign g = a) && c.halted g
  if !c.bit F.FOLD_STAT_loaded || decide (t % c.frameTicks ≠ 0) || decide (t * rootPerTick < c.now + 2 * c.framePeriod) ||
      !(lanes.all fun n => decide (c.laneState n = laneStopped)) || haltedGrp then
    (c.latch (F.PRT_ALIGN_CTRL_refused a)).raise Ev.PRT_REFUSED (locAlign a) 0
  else lanes.foldl (fun c n =>
      (c.setLane n { c.lane n with startAt := some (t * rootPerTick), trig := true }).put (F.PRT_LANE_STAT_state n) laneStarting)
    ((c.setAlign a { c.align a with trigAt := some t }).put (F.PRT_ALIGN_CTRL_go a) 1)

/-- A lane's triggered start is cancelled: while its stop is pending it stays STOPPING and takes part in no serial frame (R231);
without one it is STOPPED at once (R42). -/
def Chip.dropTrig (c : Chip) (n : Nat) : Chip :=
  let l := c.lane n
  if !l.trig then c
  else if l.stopAt.isSome then c.setLane n { l with startAt := none }
  else (c.setLane n { l with startAt := none, trig := false }).put (F.PRT_LANE_STAT_state n) laneStopped

/-- TRIGGERED_START (R230, R232): the lanes whose triggered start no stop has cancelled. -/
def Chip.trigStart (c : Chip) (a : Nat) : Chip :=
  if c.onBoundary && decide ((c.align a).trigAt = some c.time.stc) && decide (c.get F.FOLD_STAT_state ≠ 3) then
    let c1 := ((c.setAlign a { c.align a with trigAt := none }).put (F.PRT_ALIGN_CTRL_go a) 0).put (F.PRT_ALIGN_CTRL_lost a) 0
    (c1.alignLanes a).foldl (fun c n =>
      if (c.lane n).trig && (c.lane n).startAt.isSome && !dueAt c.now (c.lane n).stopAt then c.startLane n true else c) c1
  else c

/-- A write of 1 to PRT_ALIGN_CTRL_a.stop (R231). -/
def Chip.askAlignStop (c : Chip) (a : Nat) : Chip :=
  let c1 := (c.setAlign a { c.align a with trigAt := none }).put (F.PRT_ALIGN_CTRL_go a) 0
  let c2 := (c1.alignLanes a).foldl Chip.askStop (c1.put (F.PRT_ALIGN_CTRL_stop a) 1)
  ((c2.alignLanes a).foldl Chip.dropTrig c2).settleAlign a

/-- A write of PRT_ALIGN_CTRL_a. -/
def Chip.writeAlign (c : Chip) (a : Nat) (v : Word) : Chip :=
  let c0 := if (F.PRT_ALIGN_CTRL_refused a).ofB v then c.w1c (F.PRT_ALIGN_CTRL_refused a) else c
  let c1 := if (F.PRT_ALIGN_CTRL_go a).ofB v then c0.askTrigger a else c0
  if (F.PRT_ALIGN_CTRL_stop a).ofB v then c1.askAlignStop a else c1

/-- PRT_ALIGN_CTRL_a with its derived `state`: trigger pending, stop pending, running, stopped. -/
def Chip.readAlign (c : Chip) (a : Nat) : Word :=
  let lanes := c.alignLanes a
  let st := if (c.align a).trigAt.isSome then 1
    else if lanes.any (fun n => (c.lane n).stopAt.isSome) then 3
    else if lanes.any (fun n => decide (c.laneState n = laneRunning)) then 2
    else 0
  (F.PRT_ALIGN_CTRL_state a).ins (c.rd (R.PRT_ALIGN_CTRL a)) st

end Sys2Proof.Machine
end

