-- ==== Sys2Proof/Machine/Dma.lean ====
section
/-! DEFINITION. Dma.lean: rings, descriptors and the LPDDR4X controller (R234 to R253). The transactions' data move in DmaMove.lean. -/

namespace Sys2Proof.Machine

def ringIdle : Nat := 0
def ringRunning : Nat := 1
def ringPausing : Nat := 2
def ringPaused : Nat := 3
def ringHalted : Nat := 4

def Chip.ring (c : Chip) (n : Nat) : Ring := KMap.get Ring.zero n c.dma.rings
def Chip.ringState (c : Chip) (n : Nat) : Nat := c.get (F.DMA_RING_STAT_state n)

/-! ## Descriptors -/

def DescRun.op (d : DescRun) : Nat := d.ctrl % 4
def DescRun.last (d : DescRun) : Bool := bitAt d.ctrl 2
def DescRun.hopClr (d : DescRun) : Bool := bitAt d.ctrl 3
def DescRun.irq (d : DescRun) : Bool := bitAt d.ctrl 4
def DescRun.srcLane (d : DescRun) : Bool := bitAt d.ctrl 5
def DescRun.dstLane (d : DescRun) : Bool := bitAt d.ctrl 6
def DescRun.burst (d : DescRun) : Nat := 16 * 2 ^ field d.ctrl 8 3
def DescRun.lane (d : DescRun) : Nat := field d.ctrl 16 5

/-- Does an address lie in the pasture window? -/
def inWindow (a : Nat) : Bool := decide (0x10000000 ≤ a) && decide (a ≤ 0x117FFFFF)

/-- May the device fetch a descriptor at an address, or write its STATUS: crook RAM or fitted LPDDR4X (R234)? -/
def Chip.descOk (c : Chip) (a : Nat) : Bool :=
  decide (a + 32 ≤ 0x100000) || (decide (0x80000000 ≤ a) && decide (a + 32 ≤ 0x80000000 + c.ddrBytes))

/-- Is a descriptor fetch, or a STATUS write, at `a` refused (R20, R21, R234, R395)? -/
def Chip.descRefused (c : Chip) (n : Nat) (wr : Bool) (a : Nat) : Bool :=
  !c.descOk a || decide (c.gateOf (.dma (BitVec.ofNat 5 n)) wr (if wr then a + 0x1C else a) 4 ≠ .accept)

/-- A descriptor whose fetch has failed (R247): nothing of it is known, and no STATUS can be written. -/
def DescRun.unfetched (a : Nat) : DescRun :=
  ⟨a, 0, 0, 0, 0, 0, 0, 0, 0, some (7, 0, false), none, []⟩

/-- The descriptor at an address (R234). -/
def Chip.readDesc (c : Chip) (a : Nat) : DescRun :=
  let w := fun (o : Nat) => Mem.read c.mem (a + o) 4
  { addr := a, ctrl := w 0, len := w 4, src := w 8, dst := w 0xC, pat := BitVec.ofNat 32 (w 0x10), next := w 0x14
    rd := 0, wr := 0, fail := none, mis := none, txns := [] }

/-- Is a lane a side of this ring (R60, R237)? -/
def Chip.laneSideOk (c : Chip) (n lane : Nat) (out : Bool) : Bool :=
  c.laneEn lane && c.laneDma lane && decide (c.get (F.PRT_LANE_CFG_ring lane) = n) && decide (c.laneOut lane = out)

/-- Does a memory side lie wholly within one paddock that the ring owns (R237)? -/
def Chip.ownSide (c : Chip) (n a len : Nat) : Bool :=
  inWindow a && c.pas.pads.any fun p => decide (p.owner = 0x20 + n ∧ p.base ≤ (a - 0x10000000) / 4 ∧
    (a - 0x10000000) / 4 + len / 4 ≤ p.base + p.length)

/-- Is a descriptor valid for ring `n` (R237)? `resv` is the reserved word at 0x18. -/
def Chip.descValid (c : Chip) (n : Nat) (d : DescRun) (resv : Nat) : Bool :=
  let lane := d.srcLane || d.dstLane
  decide (resv = 0) && decide (field d.ctrl 21 11 = 0) && decide (field d.ctrl 11 5 = 0) && !bitAt d.ctrl 7 &&
  decide (d.op ≠ 3) && decide (field d.ctrl 8 3 ≤ 4) &&
  decide (d.len < 2 ^ 24) && decide (d.len % 4 = 0) && decide (d.src % 4 = 0) && decide (d.dst % 4 = 0) &&
  (d.last || decide (d.next % 32 = 0)) &&
  !(d.srcLane && d.dstLane) && (decide (d.op = 0) || !lane) &&
  !(decide (d.op = 1) && decide (d.src ≠ 0)) && !(d.srcLane && decide (d.src ≠ 0)) && !(d.dstLane && decide (d.dst ≠ 0)) &&
  (!d.srcLane || (c.laneSideOk n d.lane false && c.ownSide n d.dst d.len)) &&
  (!d.dstLane || (c.laneSideOk n d.lane true && c.ownSide n d.src d.len))

/-! ## What the registers show -/

/-- Is a transaction of the descriptor in flight: a read of memory that has not returned, or a burst or a window word not confirmed? A
read that waits for a lane's words, and data that wait in the buffer, are not (R239, R242). -/
def DescRun.busy (d : DescRun) (t : Txn) : Bool := (!t.ready && !d.srcLane) || decide (t.open_ ≠ 0) || !t.bursts.isEmpty

/-- The registers follow the oldest descriptor under way (R245, R249); in PAUSED SRC is the address of the next beat to be written. -/
def Chip.showRing (c : Chip) (n : Nat) : Chip :=
  match (c.ring n).descs with
  | [] => c
  | d :: _ =>
    let at' := fun (lane : Bool) (a o : Nat) => if lane then 0 else BitVec.ofNat 32 (a + o)
    let from' := if c.ringState n = ringPaused then d.wr else d.rd
    ((((c.wr (R.DMA_RING_CUR n) (BitVec.ofNat 32 d.addr)).wr (R.DMA_RING_REM n) (BitVec.ofNat 32 (d.len - d.wr))).wr
      (R.DMA_RING_SRC n) (if d.op = 1 then 0 else at' d.srcLane d.src from')).wr (R.DMA_RING_DST n) (at' d.dstLane d.dst d.wr)).put
      (F.DMA_RING_STAT_fresh n) 0

/-- Store a ring's record. -/
def Chip.keepRing (c : Chip) (n : Nat) (r : Ring) : Chip := { c with dma := { c.dma with rings := KMap.set Ring.zero n r c.dma.rings } }

def Chip.setRing (c : Chip) (n : Nat) (r : Ring) : Chip := (c.keepRing n r).showRing n

/-- Quota units of a ring (R241). -/
def Chip.quota (c : Chip) (n : Nat) : Nat := min (max (c.get (F.DMA_RING_CTRL_quota n)) 1) 64

/-- Does the ring hold its quota: RUNNING, PAUSING or PAUSED? -/
def Chip.holdsQuota (c : Chip) (n : Nat) : Bool := decide (1 ≤ c.ringState n) && decide (c.ringState n ≤ 3)

def Chip.quotaSum (c : Chip) : Nat := (List.range 32).foldl (fun a n => a + (if c.holdsQuota n then c.quota n else 0)) 0

/-- Transactions of a ring in flight (R242). -/
def Ring.flights (r : Ring) : Nat := (r.descs.map fun d => (d.txns.filter d.busy).length).sum
/-- Read transactions of a ring that hold a quota unit (R241): in flight, or with data that wait in the buffer. A fill reads nothing. -/
def Ring.held (r : Ring) : Nat := (r.descs.map fun d => if d.op = 1 then 0 else d.txns.length).sum
/-- Buffer units of a ring that hold data. -/
def Ring.buffered (r : Ring) : Nat :=
  (r.descs.map fun d => if d.op = 1 then 0 else (d.txns.filter fun t => !t.dead && (t.ready || !t.data.isEmpty || decide (t.got ≠ 0))).length).sum

/-- Transactions in flight (R242). -/
def Chip.flights (c : Chip) : Nat := (c.dma.rings.map fun e => e.2.flights).sum

/-- DMA_STAT, derived. -/
def Chip.readDmaStat (c : Chip) : Word :=
  BitVec.ofNat 32 (c.quotaSum * 65536 + (c.dma.rings.map fun e => e.2.buffered).sum * 128 + c.flights)

/-- Has the descriptor ended: every write of it confirmed, or it failed or mismatched, and nothing of it in flight? -/
def DescRun.isOver (d : DescRun) : Bool :=
  d.txns.isEmpty && (d.fail.isSome || d.mis.isSome || decide (d.len ≤ d.wr))

/-- Where the ring fetches its next descriptor (R240, R244): at CUR, or at NEXT once the reads of the one before are issued. -/
def Chip.fetchAt (c : Chip) (n : Nat) : Option Nat :=
  if c.ringState n ≠ ringRunning || (c.ring n).aborting then none
  else match (c.ring n).descs with
    | [] => some (c.rd (R.DMA_RING_CUR n)).toNat
    | [d] => if d.last || d.fail.isSome || d.mis.isSome || decide (d.rd < d.len) then none else some d.next
    | _ => none

/-- Is a STATUS write due: the oldest descriptor has ended (R236)? -/
def Chip.statusDue (c : Chip) (n : Nat) : Bool :=
  let r := c.ring n
  (match r.descs with
    | d :: _ => d.isOver
    | [] => false) && !r.aborting && (decide (c.ringState n = ringRunning) || decide (c.ringState n = ringPausing))

/-- A fetch, and a STATUS write, are issued when they fall due (R240, R250). -/
def Chip.noteRing (c : Chip) (n : Nat) : Chip :=
  let r := c.ring n
  c.keepRing n { r with
    fetchAt := if (c.fetchAt n).isSome then some (r.fetchAt.getD c.now) else none
    statusAt := if c.statusDue n then some (r.statusAt.getD c.now) else none }

/-! ## Ring control (R244, R245) -/

/-- `start`. -/
def Chip.ringStart (c : Chip) (n : Nat) : Chip :=
  let st := c.ringState n
  if !(decide (st = ringIdle) || decide (st = ringHalted)) || decide (256 < c.quotaSum + c.quota n) then
    c.latch (F.DMA_RING_STAT_rej n)
  else
    let c1 := c.setRing n { c.ring n with descs := [], aborting := false, fetchAt := none, statusAt := none }
    let c2 := ((((c1.put (F.DMA_RING_STAT_hops n) 0).wr (R.DMA_RING_DONE_CNT n) 0).wr (R.DMA_RING_CUR n)
      (c.rd (R.DMA_RING_HEAD n))).put (F.DMA_RING_STAT_fresh n) 1)
    if c.bit (F.DMA_RING_CTRL_pause n) then (c2.put (F.DMA_RING_STAT_state n) ringPaused).put (F.DMA_RING_CTRL_start n) 0
    else (c2.put (F.DMA_RING_STAT_state n) ringRunning).put (F.DMA_RING_CTRL_start n) 1

/-- `abort`. -/
def Chip.ringAbort (c : Chip) (n : Nat) : Chip :=
  if c.holdsQuota n then (c.setRing n { c.ring n with aborting := true }).put (F.DMA_RING_CTRL_abort n) 1 else c

/-- `pause` set or cleared. -/
def Chip.ringPause (c : Chip) (n : Nat) (on : Bool) : Chip :=
  let st := c.ringState n
  let c1 := c.putB (F.DMA_RING_CTRL_pause n) on
  if on then if st = ringRunning then (c1.put (F.DMA_RING_STAT_state n) ringPausing).noteRing n else c1
  else
    let c2 := c1.put (F.DMA_RING_STAT_rf n) 0
    if st = ringPausing ∨ st = ringPaused then ((c2.put (F.DMA_RING_STAT_state n) ringRunning).showRing n).noteRing n else c2

/-- A write of DMA_RING_CTRL: its fields, then `pause`, `start` and `abort`. -/
def Chip.writeRingCtrl (c : Chip) (n : Nat) (v : Word) : Chip :=
  let c1 := (((c.put (F.DMA_RING_CTRL_hop_lim n) ((F.DMA_RING_CTRL_hop_lim n).of v)).put (F.DMA_RING_CTRL_quota n)
    ((F.DMA_RING_CTRL_quota n).of v)).put (F.DMA_RING_CTRL_prio n) ((F.DMA_RING_CTRL_prio n).of v)).put
    (F.DMA_RING_CTRL_soe n) ((F.DMA_RING_CTRL_soe n).of v)
  let c2 := c1.ringPause n ((F.DMA_RING_CTRL_pause n).ofB v)
  let c3 := if (F.DMA_RING_CTRL_start n).ofB v then c2.ringStart n else c2
  (if (F.DMA_RING_CTRL_abort n).ofB v then c3.ringAbort n else c3).noteRing n

/-- RING_ABORT_DONE (R244): nothing in flight; data not yet written are discarded. -/
def Chip.abortDone (c : Chip) (n : Nat) : Chip :=
  let r := c.ring n
  if !r.aborting || decide (r.flights ≠ 0) then c
  else (((c.keepRing n { r with descs := [], aborting := false, fetchAt := none, statusAt := none }).put (F.DMA_RING_STAT_state n)
    ringIdle).put (F.DMA_RING_CTRL_abort n) 0).put (F.DMA_RING_CTRL_start n) 0

/-- Must data in the buffer still be written before a pause (R245)? What waits for space in a lane's buffer stays there (R239). -/
def Chip.drains (c : Chip) (r : Ring) : Bool :=
  r.descs.any fun d => d.txns.any fun t => t.ready && !t.dead && decide (t.sent < t.bytes / 4) &&
    !(d.dstLane && decide (64 ≤ (c.lane d.lane).buf.length))

/-- RING_PAUSED (R245): the last transaction has drained and an ended descriptor's STATUS is written. -/
def Chip.ringPausedDone (c : Chip) (n : Nat) : Chip :=
  let r := c.ring n
  if c.ringState n ≠ ringPausing || decide (r.flights ≠ 0) || c.drains r || c.statusDue n || r.aborting then c
  else (((c.put (F.DMA_RING_STAT_state n) ringPaused).put (F.DMA_RING_CTRL_start n) 0).showRing n).raise Ev.DMA_PAUSED (locRing n) 0

/-- DESCRIPTOR_FETCH (R234, R237, R240, R251): every fetch counts a hop, a refused one too. -/
def Chip.descFetch (c : Chip) (n : Nat) : Chip :=
  let r := c.ring n
  match c.fetchAt n with
  | none => c
  | some a =>
    let ok := !c.descRefused n false a
    let d := if ok then c.readDesc a else DescRun.unfetched a
    let hops := if d.hopClr then 1 else c.get (F.DMA_RING_STAT_hops n) + 1
    let past := decide (max (c.get (F.DMA_RING_CTRL_hop_lim n)) 1 < hops)
    let bad : Option (Nat × Nat × Bool) :=
      if !ok then d.fail
      else if past then some (8, 0, true)
      else if !c.descValid n d (Mem.read c.mem (a + 0x18) 4) then some (6, 0, true)
      else none
    let c0 := if ok then c else c.violation (.dma (BitVec.ofNat 5 n)) a
    let c1 := if ok && past then c0 else c0.put (F.DMA_RING_STAT_hops n) hops
    ((c1.setRing n { r with descs := r.descs ++ [{ d with fail := bad }], fetchAt := none }).put (F.DMA_RING_CTRL_start n) 0).noteRing n

/-- The STATUS word (R236). -/
def DescRun.status (d : DescRun) : Nat :=
  2 ^ 31 + (match d.fail with
    | some (code, ofs, _) => 2 ^ 30 + code * 2 ^ 24 + ofs
    | none => match d.mis with
      | some ofs => 2 ^ 29 + ofs
      | none => d.len)

/-- Codes that halt the ring whatever `soe` holds (R247). -/
def haltsCode (code : Nat) : Bool := decide (6 ≤ code)

/-- What ends the oldest descriptor: may STATUS be written, is that write refused, the error code, and does the ring halt (R247,
R248)? -/
structure DescEnd where
  writes : Bool
  refused : Bool
  code : Option Nat
  halts : Bool
  deriving DecidableEq, Repr

def Chip.descEndOf (c : Chip) (n : Nat) (d : DescRun) : DescEnd :=
  let canSt := match d.fail with
    | some (_, _, s) => s
    | none => true
  let refused := canSt && c.descRefused n true d.addr
  let code : Option Nat := if refused then some 7 else d.fail.map (·.1)
  let halts := match code with
    | some k => haltsCode k || c.bit (F.DMA_RING_CTRL_soe n)
    | none => false
  ⟨canSt && !refused, refused, code, halts⟩

/-- DESCRIPTOR_END (R236, R244, R248, R249, R251). A STATUS write that is refused halts with code 0x07. A ring that halts first drains
the transactions of the descriptor after it. -/
def Chip.descEnd (c : Chip) (n : Nat) : Chip :=
  let r := c.ring n
  match r.descs with
  | [] => c
  | d :: rest =>
    let e := c.descEndOf n d
    if !c.statusDue n || (e.halts && rest.any fun x => x.txns.any x.busy) then c
    else
      let st := d.status
      let c1 := if e.writes then { c with mem := Mem.write (d.addr + 0x1C) st c.mem 4 }.wr (R.DMA_RING_LAST n) (BitVec.ofNat 32 st)
        else if e.refused then c.violation (.dma (BitVec.ofNat 5 n)) (d.addr + 0x1C)
        else c
      let c2 := c1.incr (F.DMA_RING_DONE_CNT_count n)
      let c3 := if d.irq then c2.raise Ev.DMA_DESC_IRQ (locRing n) 0 else c2
      let c4 := if d.mis.isSome then c3.latch (F.DMA_RING_STAT_mis n) else c3
      let c5 := match e.code with
        | some k => ((c4.latch (F.DMA_RING_STAT_err n)).put (F.DMA_RING_STAT_code n) k).raise Ev.DMA_ERROR (locRing n) 0
        | none => c4
      let done := { r with descs := [], fetchAt := none, statusAt := none }
      if e.halts then ((c5.showRing n).keepRing n done).put (F.DMA_RING_STAT_state n) ringHalted
      else if d.last then
        (((c5.showRing n).keepRing n done).put (F.DMA_RING_STAT_state n) ringIdle).raise Ev.DMA_CHAIN_END (locRing n) 0
      else
        let c6 := c5.setRing n { r with descs := rest, statusAt := none }
        (if rest.isEmpty then (c6.wr (R.DMA_RING_CUR n) (BitVec.ofNat 32 d.next)).put (F.DMA_RING_STAT_fresh n) 1 else c6).noteRing n

/-! ## What other blocks do to rings -/

/-- Has the ring's current descriptor, or the one at CUR not yet fetched, a side in the pasture window (R246)? -/
def Chip.ringOnPasture (c : Chip) (n : Nat) : Bool :=
  match (c.ring n).descs with
  | d :: _ => inWindow d.src || inWindow d.dst
  | [] =>
    let a := (c.rd (R.DMA_RING_CUR n)).toNat
    let d := c.readDesc a
    c.bit (F.DMA_RING_STAT_fresh n) && c.descOk a && (inWindow d.src || inWindow d.dst)

/-- Rings that target the pasture are paused (R246, R425); `rf` where a fold load does it. -/
def Chip.pauseOnPasture (c : Chip) (rf : Bool) : Chip :=
  (List.range 32).foldl (fun c n =>
    let st := c.ringState n
    if (st = ringRunning ∨ st = ringPausing) ∧ c.ringOnPasture n = true then
      let c1 := c.ringPause n true
      if rf then c1.put (F.DMA_RING_STAT_rf n) 1 else c1
    else c) c

/-! ## LPDDR4X (R252, R253) -/

/-- Is a byte address in the LPDDR4X range? -/
def inDdr (a : Nat) : Bool := decide (0x80000000 ≤ a) && decide (a ≤ 0xBFFFFFFF)

/-- The controller is switched off (R253): the contents are lost. -/
def Chip.ddrOff (c : Chip) : Chip :=
  let c1 := ((((c.put F.SYS_FEAT2_ext_mem 0).put F.SYS_FEAT2_ext_size 0).put F.DMA_DDR_STAT_ready 0).put F.DMA_DDR_STAT_busy 0)
  { c1 with mem := KMap.keep (fun a => !inDdr a) c1.mem }

/-- A write of DMA_DDR_CTRL. -/
def Chip.writeDdrCtrl (c : Chip) (v : Word) : Chip :=
  let c1 := c.plainWrite R.DMA_DDR_CTRL v
  let size := F.DMA_DDR_CTRL_size.of v
  if !F.DMA_DDR_CTRL_en.ofB v then c1.ddrOff
  else if size = 0 ∨ 4 < size then c1.latch F.DMA_DDR_STAT_fail
  else if c1.bit F.DMA_DDR_STAT_ready || c1.bit F.DMA_DDR_STAT_busy then c1
  else c1.put F.DMA_DDR_STAT_busy 1

/-- DDR_TRAINING_END (R252). -/
def Chip.ddrTrained (c : Chip) (converged : Bool) (density : Nat) : Chip :=
  if !c.bit F.DMA_DDR_STAT_busy then c
  else
    let size := c.get F.DMA_DDR_CTRL_size
    let c1 := c.put F.DMA_DDR_STAT_busy 0
    if converged && decide (density = size) then
      ((c1.put F.DMA_DDR_STAT_ready 1).put F.SYS_FEAT2_ext_mem 1).put F.SYS_FEAT2_ext_size size
    else (c1.latch F.DMA_DDR_STAT_fail).raise Ev.DMA_DDR_FAIL locNone 0

end Sys2Proof.Machine
end

