-- ==== Sys2Proof/Machine/Codes.lean ====
section
/-! DEFINITION. Codes.lean: the signals of the positioning baseband and their codes (R319, R320, R345). -/

namespace Sys2Proof.Machine

/-! ## Signals (R319) -/

/-- A signal: CORR src, carrier in Hz, primary code length in chips, chip rate in Hz, the secondary code lengths of its data and its
pilot component (0: none), whether it has two components and a BOC(1,1) subcarrier, and its first and last PRN. -/
structure SigRow where
  src : Nat
  carrier : Nat
  chips : Nat
  rate : Nat
  secData : Nat
  secPilot : Nat
  pilot : Bool
  boc : Bool
  prnLo : Nat
  prnHi : Nat
  deriving DecidableEq, Repr

def carrierL1 : Nat := 1575420000
def carrierL5 : Nat := 1176450000

/-- The table of R319; the chip rate of the acoustic probe is F/8 (`Chip.chipRate`). The BOC(1,1) signals are those whose documents
modulate a component as BOC(1,1), TMBOC, CBOC or QMBOC (R320). -/
def sigRow? : Nat → Option SigRow
  | 0 => some ⟨1, carrierL1, 1023, 1023000, 0, 0, false, false, 1, 63⟩
  | 1 => some ⟨1, carrierL1, 10230, 1023000, 0, 1800, true, true, 1, 63⟩
  | 2 => some ⟨2, carrierL5, 10230, 10230000, 10, 20, true, false, 1, 63⟩
  | 3 => some ⟨1, carrierL1, 4092, 1023000, 0, 25, true, true, 1, 50⟩
  | 4 => some ⟨2, carrierL5, 10230, 10230000, 20, 100, true, false, 1, 50⟩
  | 5 => some ⟨1, carrierL1, 10230, 1023000, 0, 1800, true, true, 1, 63⟩
  | 6 => some ⟨2, carrierL5, 10230, 10230000, 5, 100, true, false, 1, 63⟩
  | 7 => some ⟨1, carrierL1, 1023, 1023000, 0, 0, false, false, 193, 202⟩
  | 8 => some ⟨1, carrierL1, 10230, 1023000, 0, 1800, true, true, 193, 202⟩
  | 9 => some ⟨2, carrierL5, 10230, 10230000, 10, 20, true, false, 193, 202⟩
  | 10 => some ⟨1, carrierL1, 1023, 1023000, 0, 0, false, false, 120, 158⟩
  | 11 => some ⟨3, 0, 2048, 0, 0, 0, false, false, 0, 31⟩
  | _ => none

/-- The centre of a down-converter in Hz (R298). -/
def ddcCentre (src : Nat) : Nat := if src = 1 then 1584500000 else 1176450000

/-- Is the PRN one of the signal's (R319)? -/
def prnOk (s : SigRow) (prn : Nat) : Bool := decide (s.prnLo ≤ prn ∧ prn ≤ s.prnHi)

/-! ## Shift registers -/

/-- `n` bits of a linear recurrence over a window of the bits to come, oldest first. -/
def lfsrBits (taps : List Nat) : Nat → List Bool → List Bool
  | 0, _ => []
  | n + 1, w => w.headD false :: lfsrBits taps n (w.tail ++ [taps.foldl (fun b t => b ^^ (w[t]?).getD false) false])

/-! ## C/A codes of signals 0, 7 and 10 (R320; the Gold codes of IS-GPS-200, IS-QZSS-PNT and RTCA DO-229, PRESUMED: assumption 81) -/

def goldG1 : List Bool := lfsrBits [7, 0] 1023 (List.replicate 10 true)
def goldG2 : List Bool := lfsrBits [8, 7, 4, 2, 1, 0] 1023 (List.replicate 10 true)

/-- G2 delays in chips for PRN 1 to 63. -/
def delaysGps : List Nat :=
  [5, 6, 7, 8, 17, 18, 139, 140, 141, 251, 252, 254, 255, 256, 257, 258, 469, 470, 471, 472, 473, 474, 509, 512, 513, 514, 515, 516] ++
  [859, 860, 861, 862, 863, 950, 947, 948, 950, 67, 103, 91, 19, 679, 225, 625, 946, 638, 161, 1001, 554, 280, 710, 709, 775, 864] ++
  [558, 220, 397, 55, 898, 759, 367, 299, 1018]

/-- G2 delays for PRN 120 to 158. -/
def delaysSbas : List Nat :=
  [145, 175, 52, 21, 237, 235, 886, 657, 634, 762, 355, 1012, 176, 603, 130, 359, 595, 68, 386, 797, 456, 499, 883, 307, 127, 211] ++
  [121, 118, 163, 628, 853, 484, 289, 811, 202, 1021, 463, 568, 904]

/-- G2 delays for PRN 193 to 202. -/
def delaysQzss : List Nat := [339, 208, 711, 189, 263, 537, 663, 942, 173, 900]

/-- The G2 delay of a PRN. -/
def goldDelay (prn : Nat) : Nat :=
  ((if prn < 120 then delaysGps[prn - 1]? else if prn < 193 then delaysSbas[prn - 120]? else delaysQzss[prn - 193]?)).getD 0

/-- Chip `i` of a C/A code: true stands for −1. -/
def goldChip (prn i : Nat) : Bool := (goldG1[i]?).getD false ^^ (goldG2[(i + 1023 - goldDelay prn) % 1023]?).getD false

/-! ## The acoustic probe (R345) -/

def probeM1 : List Bool := lfsrBits [2, 0] 2047 (List.replicate 11 true)
def probeM2 : List Bool := lfsrBits [8, 5, 2, 0] 2047 (List.replicate 11 true)

/-- Chip i of the probe of node k: true stands for −1. -/
def probeChip (k i : Nat) : Bool :=
  if 2047 ≤ i then false else (probeM1[i]?).getD false ^^ (probeM2[(i + k) % 2047]?).getD false

/-! ## Codes by signal (R320) -/

/-- Chip `i` of a primary code: true stands for −1. The codes that the documents of R13 list as tables or by parameters are not in
the spec: `Config.primaryCode` stands for them. -/
def primaryChip (sig : Nat) (pilot : Bool) (prn i : Nat) : Bool :=
  if sig = 0 ∨ sig = 7 ∨ sig = 10 then goldChip prn i
  else if sig = 11 then probeChip prn i
  else Config.primaryCode sig pilot prn i

/-- The secondary codes that are one for every PRN: the Neuman–Hofman codes of L5, CS25 of E1C, CS20 of E5a-I and the five chips of
B2a's data component (PRESUMED: assumption 81). -/
def fixedSecondary (sig : Nat) (pilot : Bool) : Option (List Nat) :=
  match sig, pilot with
  | 2, false => some [0, 0, 0, 0, 1, 1, 0, 1, 0, 1]
  | 9, false => some [0, 0, 0, 0, 1, 1, 0, 1, 0, 1]
  | 2, true => some [0, 0, 0, 0, 0, 1, 0, 0, 1, 1, 0, 1, 0, 1, 0, 0, 1, 1, 1, 0]
  | 9, true => some [0, 0, 0, 0, 0, 1, 0, 0, 1, 1, 0, 1, 0, 1, 0, 0, 1, 1, 1, 0]
  | 3, true => some [0, 0, 1, 1, 1, 0, 0, 0, 0, 0, 0, 0, 1, 0, 1, 0, 1, 1, 0, 1, 1, 0, 0, 1, 0]
  | 4, false => some [1, 0, 0, 0, 0, 1, 0, 0, 0, 0, 1, 0, 1, 1, 1, 0, 1, 0, 0, 1]
  | 6, false => some [0, 0, 0, 1, 0]
  | _, _ => none

/-- The length of a component's secondary code (R319). -/
def SigRow.secLen (s : SigRow) (pilot : Bool) : Nat := if pilot then s.secPilot else s.secData

/-- Is the secondary chip at index `i` of a component −1? A component without a secondary code has none (R319). -/
def secondaryNeg (sig : Nat) (s : SigRow) (pilot : Bool) (prn i : Nat) : Bool :=
  let len := s.secLen pilot
  if len = 0 then false
  else match fixedSecondary sig pilot with
    | some l => decide (l[i % len]? = some 1)
    | none => Config.secondaryCode sig pilot prn (i % len)

/-- The sign of the replica of a component at a phase in chips (R332): the code chip times the BOC(1,1) subcarrier, whose first half
chip is +1. -/
def replicaAt (sig : Nat) (s : SigRow) (pilot : Bool) (prn : Nat) (phase : Rat) : Int :=
  let k := phase.floor
  let chip := primaryChip sig pilot prn (k % (max 1 s.chips : Int)).toNat
  let sub := s.boc && decide ((1 : Rat) / 2 ≤ phase - (k : Rat))
  if chip ^^ sub then -1 else 1

end Sys2Proof.Machine
end

