-- ==== Sys2Proof/Machine/Gn.lean ====
section
/-! DEFINITION. Gn.lean: tracking channels, measurement epochs and acoustic samples (chapter 14, R330 to R346). The signals stand in
Codes.lean, the acquisition engine in Acq.lean, the sample streams and the rows that carry samples in Band.lean. -/

namespace Sys2Proof.Machine

/-- The frame rate F in Hz (R38). -/
def Chip.frameRate (c : Chip) : Nat := 192000 / c.frameTicks

def Chip.chan (c : Chip) (n : Nat) : Chan := KMap.get Chan.zero n c.gn.ch
def Chip.setChan (c : Chip) (n : Nat) (x : Chan) : Chip := { c with gn := { c.gn with ch := KMap.set Chan.zero n x c.gn.ch } }

/-- Channel states (R330). -/
def chIdle : Nat := 0
def chPull : Nat := 1
def chTrack : Nat := 2
def chLost : Nat := 3
def Chip.chState (c : Chip) (n : Nat) : Nat := c.get (F.GN_CH_STAT_state n)

/-- The signal of a channel. -/
def Chip.chSig (c : Chip) (n : Nat) : SigRow :=
  (sigRow? (c.get (F.GN_CH_CFG_sig n))).getD ⟨0, 0, 1023, 1023000, 0, 0, false, false, 0, 0⟩

/-- Its nominal chip rate in Hz. -/
def Chip.chipRate (c : Chip) (n : Nat) : Nat :=
  let s := c.chSig n
  if s.src = 3 then c.frameRate / 8 else s.rate

/-- The intermediate frequency of a channel in Hz (R333): carrier minus centre; 0 for the acoustic probe, whose carrier the
frequency state itself starts from (R331, R345). -/
def Chip.chIf (c : Chip) (n : Nat) : Int :=
  let s := c.chSig n
  if s.src = 3 then 0 else Int.ofNat s.carrier - Int.ofNat (ddcCentre s.src)

/-- Code rate in chips per second (R335). -/
def Chip.codeRate (c : Chip) (n : Nat) (fdop adj : Rat) : Rat :=
  let s := c.chSig n
  let r : Rat := (c.chipRate n : Rat)
  if s.src = 3 then r + adj else r * (1 + fdop / (s.carrier : Rat)) + adj

/-- Root cycles per second. -/
def rootHz : Nat := 2949120000

/-- A value cut to `b` fraction bits (R335). -/
def truncBits (b : Nat) (x : Rat) : Rat := ((x * (2 : Rat) ^ b).floor : Rat) / (2 : Rat) ^ b

/-- What the carrier and the code NCO take of the loops' results (R335). -/
def ncoTake (fdop rate : Rat) : Rat × Rat := (truncBits Config.carrierBits fdop, truncBits Config.codeBits rate)

/-- A loop state as it is held: at least 32 fraction bits (R335). -/
def loopHeld (x : Rat) : Rat := truncBits (32 + Config.loopBits) x

/-- Bring a channel's phases to the instant `t` at its rates. -/
def Chip.chanStep (c : Chip) (n t : Nat) : Chip :=
  let x := c.chan n
  let dt : Rat := (((Int.ofNat t - Int.ofNat x.at_ : Int)) : Rat) / (rootHz : Rat)
  let code := x.code + x.rate * dt
  let len : Rat := ((c.chSig n).chips : Rat)
  let k := (code / len).floor
  let st := c.chState n
  c.setChan n { x with
    code := code - (k : Rat) * len
    periods := (Int.ofNat x.periods + k).toNat
    carr := x.carr + ((c.chIf n : Rat) + x.fdop) * dt
    adr := if st = chTrack ∨ st = chLost then x.adr + x.fdop * dt else x.adr
    at_ := t }

/-- Chips of one millisecond of code time (R333). -/
def Chip.chipsPerMs (c : Chip) (n : Nat) : Rat := (c.chipRate n : Rat) / 1000

/-- The root cycle of a channel's next dump boundary: where the prompt code time completes its millisecond (R333); none where the code
stands still. -/
def Chip.dumpAt (c : Chip) (n : Nat) : Option Nat :=
  let x := c.chan n
  let total : Rat := (x.periods : Rat) * ((c.chSig n).chips : Rat) + x.code
  if x.rate ≤ 0 ∨ c.chipsPerMs n ≤ 0 then none
  else some (x.at_ + (((x.msNext : Rat) * c.chipsPerMs n - total) / x.rate * (rootHz : Rat)).ceil.toNat)

/-- A part of a dump (R333): accumulator divided by 4,096. -/
def dumpPart (a : Int × Int) : Int × Int := (fdiv a.1 4096, fdiv a.2 4096)

/-- Multiply by a secondary chip: true stands for −1 (R334). -/
def secSign (neg : Bool) (a : Int × Int) : Int × Int := if neg then (-a.1, -a.2) else a

/-- The parts of a dump (R333). -/
def Sums.parts (a : Sums) : Sums := ⟨dumpPart a.ve, dumpPart a.e, dumpPart a.p, dumpPart a.l, dumpPart a.vl⟩

/-- Does a channel's prompt use the pilot (R332)? A signal of one component has only that one. -/
def Chip.onPilot (c : Chip) (n : Nat) : Bool := (c.chSig n).pilot && decide (c.get (F.GN_CH_CFG_comp n) ≠ 1)

/-- Is the secondary chip of a component −1 at the channel's index (R334)? -/
def Chip.secNeg (c : Chip) (n : Nat) (pilot : Bool) : Bool :=
  secondaryNeg (c.get (F.GN_CH_CFG_sig n)) (c.chSig n) pilot (c.get (F.GN_CH_CFG_prn n)) (c.chan n).sec

/-- The secondary wipe-off of a dump (R334): each correlator by the chip of its component. -/
def Chip.wipe (c : Chip) (n : Nat) (s : Sums) : Sums :=
  if !c.bit (F.GN_CH_CFG_sec n) then s
  else
    let g := c.secNeg n (c.onPilot n)
    ⟨secSign (if c.get (F.GN_CH_CFG_comp n) = 2 then c.secNeg n false else g) s.ve, secSign g s.e, secSign g s.p, secSign g s.l,
      secSign g s.vl⟩

/-- The secondary index after `k` primary periods (R334). -/
def Chip.secAfter (c : Chip) (n k : Nat) : Nat :=
  let x := c.chan n
  let len := (c.chSig n).secLen (c.onPilot n)
  if !c.bit (F.GN_CH_CFG_sec n) then x.sec else if len = 0 then (x.sec + k) % 65536 else (x.sec + k) % len

/-- Milliseconds of a primary period (R319); 0 for the acoustic probe, which has no secondary code. -/
def Chip.periodMs (c : Chip) (n : Nat) : Nat := if (c.chSig n).src = 3 then 0 else (c.chSig n).chips * 1000 / (c.chSig n).rate

/-- A dump boundary (R333 to R335): the sums become a dump that waits for its row, the secondary index advances where a primary period
ends, and new rates apply. -/
def Chip.chanEdge (c : Chip) (n : Nat) : Chip :=
  let x := c.chan n
  let r := x.due.getD (x.fdop, x.rate)
  let p := c.periodMs n
  c.setChan n { x with
    ready := x.ready ++ [(c.wipe n x.ai.parts, dumpPart x.an)]
    ai := Sums.zero
    an := (0, 0)
    msNext := x.msNext + 1
    sec := if p ≠ 0 ∧ x.msNext % (p : Int) = 0 then c.secAfter n 1 else x.sec
    fdop := r.1
    rate := r.2
    due := none }

/-- Bring a channel to the instant `t` through the dump boundaries before it, and through one at `t` itself unless `strict`; `fuel`
bounds the boundaries. -/
def Chip.chanRun (strict : Bool) (n t : Nat) : Nat → Chip → Chip
  | 0, c => c.chanStep n t
  | fuel + 1, c =>
    match c.dumpAt n with
    | none => c.chanStep n t
    | some b => if b < t ∨ (b = t ∧ strict = false) then Chip.chanRun strict n t fuel ((c.chanStep n b).chanEdge n) else c.chanStep n t

def Chip.chanMove (c : Chip) (strict : Bool) (n t : Nat) : Chip := Chip.chanRun strict n t (t - (c.chan n).at_ + 1) c

/-! ## Starting and stopping (R331, R336, R338) -/

/-- A start that R331 refuses. -/
def Chip.startRefused (c : Chip) (n : Nat) : Bool :=
  let sp := c.get (F.GN_CH_SPACE_sp n)
  let acc := c.get (F.GN_CH_CFG_acc n)
  decide (c.chState n ≠ chIdle) ||
  (match sigRow? (c.get (F.GN_CH_CFG_sig n)) with
    | none => true
    | some s => decide (s.src ≠ c.corrSrc n) || !prnOk s (c.get (F.GN_CH_CFG_prn n))) ||
  decide (sp < 1 ∨ 16 < sp) ||
  (decide (c.get (F.GN_CH_SPACE_vsp n) ≤ sp) && decide (c.get (F.GN_CH_CFG_comp n) ≠ 2)) ||
  decide (acc < 1 ∨ 20 < acc ∨ acc ≤ c.get (F.GN_CH_CFG_aph n))

/-- A write of GN_CH_CTRL (R331, R335, R336). -/
def Chip.writeChCtrl (c : Chip) (n : Nat) (v : Word) : Chip :=
  let c1 := c.put (F.GN_CH_CTRL_hold n) ((F.GN_CH_CTRL_hold n).of v)
  let c2 := if (F.GN_CH_CTRL_stop n).ofB v && decide (c1.chState n ≠ chIdle) then c1.put (F.GN_CH_CTRL_stop n) 1 else c1
  if !(F.GN_CH_CTRL_start n).ofB v then c2
  else if c2.startRefused n then c2.latch (F.GN_CH_STAT_rej n)
  else
    let t := ((c2.now + rootPerMs + (rootPerMs - 1)) / rootPerMs) * rootPerMs
    ((c2.put (F.GN_CH_CTRL_start n) 1).wr (R.GN_CH_T0 n) (BitVec.ofNat 32 (t / rootPerTick))).setChan n
      { c2.chan n with startAt := some t }

/-- CHANNEL_START (R331). -/
def Chip.chanStart (c : Chip) (n : Nat) : Chip :=
  match (c.chan n).startAt with
  | none => c
  | some t =>
    let c1 := c.advanceTo t
    let w : Rat := ((c1.rd (R.GN_CH_DOP n)).toInt : Rat) / 1024
    let code : Rat := ((c1.rd (R.GN_CH_CODE n)).toNat : Rat) / 65536
    let r := ncoTake w (c1.codeRate n w 0)
    let x : Chan := { Chan.zero with
      code := code
      sec := c1.get (F.GN_CH_SEC_sec n)
      at_ := t
      w := w
      fdop := r.1
      rate := r.2
      msNext := (code / c1.chipsPerMs n).floor + 1
      ovlInt := c1.bit F.RF_STAT_ovl && decide (c1.corrSrc n ≠ 3) }
    (((c1.setChan n x).put (F.GN_CH_STAT_state n) chPull).put (F.GN_CH_CTRL_start n) 0)

/-- A channel becomes IDLE: a stop that waits is done (R336). -/
def Chip.chanIdle (c : Chip) (n : Nat) : Chip :=
  ((c.setChan n { c.chan n with startAt := none, sums := none, full := false, cont := false, aid := none, ready := [], due := none }).put (F.GN_CH_STAT_state n) chIdle).put
    (F.GN_CH_CTRL_stop n) 0

/-- CHANNEL_STOP (R336): at the next dump boundary. -/
def Chip.chanStop (c : Chip) (n : Nat) : Chip :=
  if !c.bit (F.GN_CH_CTRL_stop n) then c
  else
    (match c.dumpAt n with
      | some t => c.advanceTo t
      | none => c).chanIdle n

/-- A channel is dropped, with a start that waits (R72, R337). -/
def Chip.chanDrop (c : Chip) (n : Nat) : Chip := (c.chanIdle n).put (F.GN_CH_CTRL_start n) 0

/-- A write to a configuration register of a channel (R338): only in IDLE. -/
def Chip.writeChCfg (c : Chip) (n a : Nat) (v : Word) : Chip :=
  if c.chState n = chIdle then c.plainWrite a v else c.latch (F.GN_CH_STAT_rej n)

/-- A write of GN_CH_DOP (R335): in a running channel it aids the loop. -/
def Chip.writeChDop (c : Chip) (n : Nat) (v : Word) : Chip :=
  let c1 := c.plainWrite (R.GN_CH_DOP n) v
  if c1.chState n = chIdle then c1 else c1.setChan n { c1.chan n with aid := some v }

/-- GN_CH_DOP reads fdop; GN_CH_CODE reads the current phase. -/
def Chip.readChDop (c : Chip) (n : Nat) : Word :=
  if c.chState n = chIdle then c.rd (R.GN_CH_DOP n) else BitVec.ofInt 32 ((c.chan n).fdop * 1024).floor
def Chip.readChCode (c : Chip) (n : Nat) : Word :=
  if c.chState n = chIdle then c.rd (R.GN_CH_CODE n)
  else BitVec.ofInt 32 (((c.chanMove false n c.now).chan n).code * 65536).floor

/-! ## Dumps (R332 to R334) -/

def addC (a b : Int × Int) : Int × Int := (a.1 + b.1, a.2 + b.2)

def Sums.add (a b : Sums) : Sums := ⟨addC a.ve b.ve, addC a.e b.e, addC a.p b.p, addC a.l b.l, addC a.vl b.vl⟩

/-- round(64 × cos(2πk/256)) for k = 0 to 64 (R333). -/
def cosQuarter : List Int :=
  [64, 64, 64, 64, 64, 64, 63, 63, 63, 62, 62, 62, 61, 61, 60, 60, 59, 59, 58, 57, 56, 56, 55, 54, 53, 52, 51, 50, 49, 48, 47, 46, 45] ++
  [44, 43, 42, 41, 39, 38, 37, 36, 34, 33, 32, 30, 29, 27, 26, 24, 23, 22, 20, 19, 17, 16, 14, 12, 11, 9, 8, 6, 5, 3, 2, 0]

/-- c(k) and s(k) of R333. -/
def cosTab (k : Nat) : Int :=
  let j := k % 256
  let q := fun (i : Nat) => (cosQuarter[i]?).getD 0
  if j ≤ 64 then q j else if j ≤ 128 then -q (128 - j) else if j ≤ 192 then -q (j - 128) else q (256 - j)
def sinTab (k : Nat) : Int := cosTab (k + 192)

/-- One sample into a correlator with replica chip `r` (R333). -/
def corrAdd (a : Int × Int) (r bi bq : Int) : Int × Int := (a.1 + r * bi, a.2 + r * bq)

/-- One sample into the correlators of a channel at the phases where it stands (R332, R333). -/
def Chip.correlate (c : Chip) (n : Nat) (y : Int × Int) : Chip :=
  let x := c.chan n
  let k := ((x.carr * 256).floor % 256).toNat
  let bi := y.1 * cosTab k + y.2 * sinTab k
  let bq := y.2 * cosTab k - y.1 * sinTab k
  let s := c.chSig n
  let g := fun (pilot : Bool) (d : Rat) => replicaAt (c.get (F.GN_CH_CFG_sig n)) s pilot (c.get (F.GN_CH_CFG_prn n)) (x.code + d)
  let pil := c.onPilot n
  let sp : Rat := (c.get (F.GN_CH_SPACE_sp n) : Rat) / 32
  let vsp : Rat := (c.get (F.GN_CH_SPACE_vsp n) : Rat) / 32
  let ve := if c.get (F.GN_CH_CFG_comp n) = 2 then g false 0 else g pil vsp
  let a := x.ai
  c.setChan n { x with
    ai := ⟨corrAdd a.ve ve bi bq, corrAdd a.e (g pil sp) bi bq, corrAdd a.p (g pil 0) bi bq, corrAdd a.l (g pil (-sp)) bi bq,
      corrAdd a.vl (g pil (-vsp)) bi bq⟩
    an := corrAdd x.an (g pil (-(s.chips : Rat) / 2)) bi bq }

/-- |N|². -/
def norm2 (a : Int × Int) : Int := a.1 * a.1 + a.2 * a.2

/-- Take a dump that waits (R334, R336): it joins the integration, and the noise power follows it. -/
def Chip.takeDump (c : Chip) (n : Nat) (s : Sums) (nz : Int × Int) (rest : List (Sums × (Int × Int))) : Chip :=
  let x := c.chan n
  let acc := max 1 (c.get (F.GN_CH_CFG_acc n))
  let sums := if x.ms % acc = c.get (F.GN_CH_CFG_aph n) then some s else x.sums.map fun a => a.add s
  c.setChan n { x with
    ready := rest
    sums := sums
    full := sums.isSome && decide ((x.ms + 1) % acc = c.get (F.GN_CH_CFG_aph n) % acc)
    ms := x.ms + 1
    sig2 := x.sig2 + ((norm2 nz : Rat) - x.sig2) / 128
    msIn := x.msIn + 1
    lockMs := if c.chState n = chTrack then min (x.lockMs + 1) (2 ^ 32 - 1) else x.lockMs }

/-! ## Integrations (R335, R336) -/

/-- The discriminators of R335: phi, dfll, dll. -/
def Chip.discriminate (c : Chip) (n : Nat) (s : Sums) (t : Rat) : Rat × Rat × Rat :=
  let x := c.chan n
  let ip := s.p.1
  let qp := s.p.2
  let f := if c.get (F.GN_CH_CFG_comp n) = 1 then Config.atan else Config.atan2
  let dot := ip * x.ipPrev + qp * x.qpPrev
  let crs := x.ipPrev * qp - ip * x.qpPrev
  let e := Config.mag s.e.1 s.e.2
  let l := Config.mag s.l.1 s.l.2
  let dll := if s.e = (0, 0) ∧ s.l = (0, 0) then 0 else (1 - (c.get (F.GN_CH_SPACE_sp n) : Rat) / 32) * (e - l) / (e + l)
  (f (qp : Rat) (ip : Rat), f (crs : Rat) (dot : Rat) / t, dll)

/-- The loops at an integration end (R335). -/
def Chip.loops (c : Chip) (n : Nat) (s : Sums) : Chip :=
  let x := c.chan n
  let st := c.chState n
  let t : Rat := (max 1 (c.get (F.GN_CH_CFG_acc n)) : Rat) / 1000
  let (phi, dfll, dll) := c.discriminate n s t
  let ovl := c.bit F.RF_STAT_ovl && decide (c.corrSrc n ≠ 3)
  let held := c.bit (F.GN_CH_CTRL_hold n) || ovl || decide (st = chLost)
  let pll := c.bit (F.GN_CH_CFG_pll n)
  let w1 := if held then x.w
    else if st = chPull ∨ !pll then x.w + (c.get (F.GN_CH_LOOP_B_kfl n) : Rat) / 65536 * dfll
    else x.w + (c.get (F.GN_CH_LOOP_A_kf n) : Rat) / 65536 * phi / t
  let adj := if held then x.codeAdj else (c.get (F.GN_CH_LOOP_B_kc n) : Rat) / 4096 * dll / t
  let w2 : Rat := match x.aid with
    | some v => (v.toInt : Rat) / 1024
    | none => w1
  let wh := loopHeld w2
  let ah := loopHeld adj
  let fdop := if st = chTrack ∧ pll then wh + (c.get (F.GN_CH_LOOP_A_kp n) : Rat) / 4096 * phi / t else wh
  c.setChan n { x with
    w := wh
    codeAdj := ah
    due := some (ncoTake fdop (c.codeRate n fdop ah))
    aid := none
    ipPrev := s.p.1
    qpPrev := s.p.2 }

/-- The lock detector's values at an integration end (R336). A prompt power of zero leaves pli without a stated value. -/
def Chip.detector (c : Chip) (n : Nat) (s : Sums) : Chip :=
  let pw := norm2 s.p
  let (pli, c1) : Rat × Chip := if pw = 0 then (Config.freeRat c.free, { c with free := c.free + 1 })
    else (((s.p.1 * s.p.1 - s.p.2 * s.p.2 : Int) : Rat) / (pw : Rat), c)
  let x := c1.chan n
  let acc : Rat := (max 1 (c.get (F.GN_CH_CFG_acc n)) : Rat)
  let avg := x.spAvg + ((pw : Rat) - x.spAvg) / 16
  let num := if avg - acc * x.sig2 < 0 then 0 else 1000 * (avg - acc * x.sig2)
  c1.setChan n { x with
    lk := x.lk + (pli - x.lk) / 8
    spAvg := avg
    cn0 := if num = 0 then 0 else Config.dB num (acc * acc * x.sig2) }

/-- Is the integration good (R336)? -/
def Chip.isGood (c : Chip) (n : Nat) : Bool :=
  let x := c.chan n
  decide ((c.get (F.GN_CH_LOCK_thr n) : Rat) / 256 ≤ x.lk) && decide ((c.get (F.GN_CH_LOCK_cn0_min n) : Rat) / 100 ≤ x.cn0)

/-- Enter TRACK (R336, R340): the carrier phase restarts where lock returns. -/
def Chip.enterTrack (c : Chip) (n : Nat) : Chip :=
  let back := decide (c.chState n = chLost)
  let x := c.chan n
  (c.setChan n { x with good := 0, bad := 0, msIn := 0, lockMs := 0, adr := 0, cont := false, carr := if back then 0 else x.carr }).put
    (F.GN_CH_STAT_state n) chTrack

/-- The state after an integration (R336). -/
def Chip.judgeChan (c : Chip) (n : Nat) (ovl : Bool) : Chip :=
  let ok := c.isGood n
  let x := c.chan n
  let good := if ok then x.good + 1 else 0
  let bad := if ok then 0 else x.bad + 1
  let c1 := c.setChan n { x with good := good, bad := bad }
  let st := c.chState n
  if st = chTrack then
    if max 1 (c.get (F.GN_CH_LOCK_lost_n n)) ≤ bad then
      ((((c1.setChan n { c1.chan n with msIn := 0, good := 0, bad := 0, cont := false }).put (F.GN_CH_STAT_state n) chLost).put
        (F.GN_CH_STAT_lost n) 1).noteBits (R.GN_CH_STAT n) (F.GN_CH_STAT_lost n).mask).raise Ev.GN_LOCK_LOST (locChannel n)
        (BitVec.ofNat 32 (c.get (F.GN_CH_CFG_prn n) + 256 * c.get (F.GN_CH_CFG_sig n) + 65536 * b2n ovl))
    else c1
  else if 8 ≤ good then c1.enterTrack n
  else c1

/-- What an epoch on the cycle of a loop update latches in place of what it changes (R339). -/
def Chip.loopWas (c : Chip) (n : Nat) : LoopWas :=
  let x := c.chan n
  ⟨c.now, c.chState n, x.cont, x.adr, x.cn0, x.lockMs⟩

/-- INTEGRATION_END (R335, R336). -/
def Chip.integrationEnd (c : Chip) (n : Nat) : Chip :=
  let x := c.chan n
  match x.sums with
  | none => c
  | some s =>
    if !x.full ∨ c.chState n = chIdle then c
    else
      let c1 := ((c.loops n s).detector n s).judgeChan n x.ovlInt
      c1.setChan n { c1.chan n with
        sums := none
        full := false
        was := some (c.loopWas n)
        ovlInt := c1.bit F.RF_STAT_ovl && decide (c1.corrSrc n ≠ 3) }

/-- PULL_TIMEOUT (R336). -/
def Chip.pullTimeout (c : Chip) (n : Nat) : Chip :=
  if c.chState n = chPull ∧ max 1 (c.get (F.GN_CH_COAST_coast n)) ≤ (c.chan n).msIn then
    (c.chanIdle n).latch (F.GN_CH_STAT_fail n)
  else c

/-- COAST_TIMEOUT (R336). -/
def Chip.coastTimeout (c : Chip) (n : Nat) : Chip :=
  if c.chState n = chLost ∧ max 1 (c.get (F.GN_CH_COAST_coast n)) ≤ (c.chan n).msIn then c.chanIdle n else c

/-! ## Epochs (R339 to R341) -/

/-- Epochs per second of a rate code. -/
def epochHz : Nat → Nat
  | 1 => 2
  | 2 => 4
  | 3 => 5
  | 4 => 10
  | 5 => 20
  | _ => 1

/-- The values that an epoch at now latches of a channel in place of a loop update's on the same cycle (R339). -/
def Chip.latched (c : Chip) (n : Nat) : LoopWas :=
  match (c.chan n).was with
  | some w => if w.inst = c.now then w else c.loopWas n
  | none => c.loopWas n

/-- A channel's record at the epoch `seq` (R340), its phases standing at now. -/
def Chip.record (c : Chip) (n seq : Nat) : List Nat :=
  let x := c.chan n
  let w := c.latched n
  let st := w.state
  let comp1 := decide (c.get (F.GN_CH_CFG_comp n) = 1)
  let ovl := c.gn.ovl && decide (c.corrSrc n ≠ 3)
  let adr := wrap (w.adr * 4294967296).floor 64
  let w0 := 2 ^ 31 * b2n (decide (st = chTrack)) + 2 ^ 29 * st + 2 ^ 28 * b2n comp1 + 2 ^ 27 * b2n (w.cont && decide (st = chTrack)) +
    2 ^ 26 * b2n c.gn.ru + 2 ^ 25 * b2n x.gap + 2 ^ 24 * b2n ovl + 65536 * (seq % 256) + 4096 * c.get (F.GN_CH_CFG_sig n) +
    c.get (F.GN_CH_CFG_prn n)
  [w0, wrap (x.code * 65536).floor 32, x.periods % 2 ^ 32, adr % 2 ^ 32, adr / 2 ^ 32, wrap (x.fdop * 1024).floor 32,
    65536 * (satInt (w.cn0 * 100).floor 0 65535).toNat + x.sec % 65536, if st = chTrack then w.lockMs else 0]

/-- Latch the record of channel `n` and begin the span of the next one: the NCOs are read where they stand, before a dump boundary on
the same cycle. -/
def Chip.latchRecord (seq : Nat) (c : Chip) (n : Nat) : Chip :=
  let ws := (if c.chState n = chIdle then c else c.chanMove true n c.now).record n seq
  let c2 := (List.range 8).foldl (fun c i => c.wr (R.GN_CH_MEAS n i) (BitVec.ofNat 32 ((ws[i]?).getD 0))) c
  c2.setChan n { c2.chan n with cont := decide (c2.chState n = chTrack), gap := false }

/-- The rate in force: a written one from its whole second on (R339). -/
def Chip.epochRateNow (c : Chip) : Nat :=
  match c.gn.rateAt with
  | some s => if s * 192000 ≤ c.time.stc then c.get F.GN_CTRL_rate else c.gn.rate
  | none => c.gn.rate

/-- The STC of the next epoch: now, where now is one that has not occurred, else the next. -/
def Chip.epochStc (c : Chip) : Nat :=
  let p := 192000 / epochHz c.epochRateNow
  if c.time.frac.val = 0 ∧ c.time.stc % p = 0 ∧ c.gn.epochAt ≠ some c.time.stc then c.time.stc else (c.time.stc / p + 1) * p

/-- EPOCH (R339). -/
def Chip.epoch (c : Chip) : Chip :=
  if !c.bit F.GN_CTRL_ep_en then c
  else
    let c1 := c.advanceTo (c.epochStc * rootPerTick)
    let seq := (c1.get F.GN_EPOCH_SEQ_value + 1) % 2 ^ 32
    let c2 := (List.range 96).foldl (Chip.latchRecord seq) c1
    let c3 := ((c2.wr R.GN_EPOCH_STC_LO (BitVec.ofNat 32 c1.time.stc)).wr R.GN_EPOCH_STC_HI (BitVec.ofNat 32 (c1.time.stc / 2 ^ 32))).wr
      R.GN_EPOCH_STEER (c1.rd R.CLK_STEER)
    ({ (c3.wr R.GN_EPOCH_SEQ (BitVec.ofNat 32 seq)) with
      gn := { c3.gn with epochAt := some c1.time.stc, ru := !c3.bit F.CLK_STAT_locked, ovl := c3.bit F.RF_STAT_ovl } }).raise
      Ev.GN_EPOCH locNone (BitVec.ofNat 32 seq)

/-- A write of GN_CTRL (R339): the rate waits for the next whole second. -/
def Chip.writeGnCtrl (c : Chip) (v : Word) : Chip :=
  let c1 := c.plainWrite R.GN_CTRL v
  { c1 with gn := { c1.gn with rate := c.epochRateNow, rateAt := some (c1.time.stc / 192000 + 1) } }

/-- EPOCH_RATE_APPLY (R339). -/
def Chip.epochRate (c : Chip) : Chip :=
  match c.gn.rateAt with
  | none => c
  | some s =>
    let c1 := c.advanceTo (s * 192000 * rootPerTick)
    { c1 with gn := { c1.gn with rate := c1.get F.GN_CTRL_rate, rateAt := none } }

/-! ## Acoustic channels (R344 to R346) -/

/-- The microphone word of the frame that ends (R344): the last engine store to offset 0 of the paddock. -/
def Chip.micWord (c : Chip) (pad : Nat) : Option Word :=
  match c.pas.pads[pad]? with
  | some p => KMap.get none (p.base + c.get (F.PAS_SP_sp pad)) c.pas.stores
  | none => none

/-- The sample of a microphone word (R325, R333): bits 31:16, signed. -/
def micSample (w : Option Word) : Int :=
  match w with
  | some v => sext (v.toNat / 65536) 16
  | none => 0

/-- The paddock of a channel's CORR entry (R61). -/
def Chip.corrPad (c : Chip) (n : Nat) : Nat :=
  match c.fold.cur with
  | some f => ((f.corr[n]?).map (·.2)).getD 0
  | none => 0

/-- ACOUSTIC_SAMPLE (R333, R344) of one channel, for the frame that ends: it meets the phases of the frame's start. -/
def Chip.acousticSample (c : Chip) (n : Nat) : Chip :=
  if c.chState n = chIdle ∨ c.corrSrc n ≠ 3 ∨ c.now ≤ (c.chan n).at_ then c
  else
    let w := c.micWord (c.corrPad n)
    let c1 := c.correlate n (micSample w, 0)
    let c2 := if w.isNone then (c1.setChan n { c1.chan n with gap := true }).latch (F.GN_CH_STAT_gap n) else c1
    c2.chanMove false n c2.now

/-- Every acoustic channel at a frame boundary. -/
def Chip.acousticFrame (c : Chip) : Chip := (c.gn.ch.map (·.1)).foldl Chip.acousticSample c

end Sys2Proof.Machine
end

