-- ==== Sys2Proof/Machine/Acq.lean ====
section
/-! DEFINITION. Acq.lean: the acquisition engine (R325 to R329). CAPTURE_END stands in Band.lean. -/

namespace Sys2Proof.Machine

def acqIdle : Nat := 0
def acqCapture : Nat := 1
def acqSearch : Nat := 2

def Chip.setAcq (c : Chip) (f : AcqSt → AcqSt) : Chip := { c with gn := { c.gn with acq := f c.gn.acq } }

/-- The acquisition buffer paddock (R325). -/
def Chip.acqPad (c : Chip) : Option Pad :=
  if c.bit F.FOLD_STAT_loaded then c.pas.pads.find? fun p => decide (p.owner = 0x10) else none

/-- PRN of entry `i`. -/
def Chip.acqPrn (c : Chip) (i : Nat) : Nat := field (c.rd (R.GN_ACQ_PRN (i / 4))).toNat (8 * (i % 4)) 8

/-- Is the signal one that the engine acquires from this source (R326)? -/
def acqSigOk (sig src : Nat) : Bool :=
  if sig = 11 then src == 2
  else [0, 2, 4, 6, 7, 9, 10].contains sig && (match sigRow? sig with
    | some s => s.src == src + 1
    | none => false)

/-- Words that a capture writes (R325). -/
def captureWords (src tc nn : Nat) : Nat := if src = 2 then 8192 * nn else 8192 * tc * nn

/-- Does R326 refuse the request? -/
def Chip.acqRefused (c : Chip) (src pad : Nat) : Bool :=
  let sig := c.get F.GN_ACQ_SIG_sig
  let cnt := c.get F.GN_ACQ_SIG_cnt
  let tc := c.get F.GN_ACQ_PRM_tc
  let nn := c.get F.GN_ACQ_PRM_nn
  let nb := c.get F.GN_ACQ_PRM_nb
  decide (c.get F.GN_ACQ_STAT_state ≠ acqIdle) ||
  (match c.acqPad with
    | none => true
    | some p => decide (p.length < captureWords src tc nn)) ||
  decide (src = 3) || (decide (src = 0) && !c.bit F.RF_CTRL_ddc_l1) || (decide (src = 1) && !c.bit F.RF_CTRL_ddc_l5) ||
  (decide (src = 2) && (match c.pas.pads[pad]? with
    | some p => decide (8 ≤ p.owner)
    | none => true)) ||
  !acqSigOk sig src ||
  decide (tc < 1 ∨ 10 < tc ∨ (tc ≠ 1 ∧ src = 2)) ||
  decide (nn < 1 ∨ 100 < nn ∨ (src < 2 ∧ 100 < tc * nn) ∨ (src = 2 ∧ 8 < nn)) ||
  decide (nb < 1 ∨ 64 < nb ∨ cnt < 1 ∨ 16 < cnt) ||
  (match sigRow? sig with
    | none => true
    | some s => (List.range cnt).any fun i => !prnOk s (c.acqPrn i))

/-- No result stands. -/
def Chip.clearResults (c : Chip) : Chip :=
  (List.range 16).foldl (fun c i => (c.wr (R.GN_ACQ_RES_A i) 0).wr (R.GN_ACQ_RES_B i) 0) c

/-- Words of the capture that wait in its FIFO (R325). -/
def isAcqWord (q : Nat × WinReq) : Bool :=
  match q.2 with
  | .acqWrite _ => true
  | _ => false
def Chip.acqFifo (c : Chip) : Nat := (c.pas.queue.filter isAcqWord).length

/-- The FIFO's words are lost. -/
def Chip.clearFifo (c : Chip) : Chip :=
  { c with pas := { c.pas with queue := c.pas.queue.filter fun q => !isAcqWord q } }

/-- The engine becomes IDLE and reports (R327, R329). -/
def Chip.acqDone (c : Chip) (arg : Nat) : Chip :=
  (((c.put F.GN_ACQ_STAT_state acqIdle).put F.GN_ACQ_CTRL_go 0).setAcq fun a => { a with capturing := false, half := none, band := [] }).raise
    Ev.GN_ACQ_DONE locNone (BitVec.ofNat 32 arg)

/-- An acquisition under way ends at once (R329). -/
def Chip.acqAbort (c : Chip) : Chip :=
  if c.get F.GN_ACQ_STAT_state = acqIdle then c else (c.clearFifo.clearResults).acqDone (2 ^ 17 + 2 ^ 18 * b2n c.gn.acq.ovl)

/-- The search that the registers ask for (R327). -/
def Chip.searchReq (c : Chip) : SearchReq where
  sig := c.get F.GN_ACQ_SIG_sig
  prns := (List.range (c.get F.GN_ACQ_SIG_cnt)).map c.acqPrn
  tc := c.get F.GN_ACQ_PRM_tc
  nn := c.get F.GN_ACQ_PRM_nn
  nb := c.get F.GN_ACQ_PRM_nb
  step := c.get F.GN_ACQ_DOP_step
  ctr := sext (c.get F.GN_ACQ_DOP_ctr) 16

/-- A write of GN_ACQ_CTRL (R326, R329). -/
def Chip.writeAcqCtrl (c : Chip) (v : Word) : Chip :=
  let c1 := (c.put F.GN_ACQ_CTRL_pad (F.GN_ACQ_CTRL_pad.of v)).put F.GN_ACQ_CTRL_src (F.GN_ACQ_CTRL_src.of v)
  let c2 := if F.GN_ACQ_CTRL_abort.ofB v then c1.acqAbort else c1
  if !F.GN_ACQ_CTRL_go.ofB v || (F.GN_ACQ_CTRL_abort.ofB v && decide (c.get F.GN_ACQ_STAT_state ≠ acqIdle)) then c2
  else
    let src := F.GN_ACQ_CTRL_src.of v
    let pad := F.GN_ACQ_CTRL_pad.of v
    if c2.acqRefused src pad then c2.latch F.GN_ACQ_STAT_ref
    else
      let per := if src = 2 then c2.frameTicks else 192
      let t := (c2.time.stc / per + 1) * per * rootPerTick
      ((c2.clearResults.put F.GN_ACQ_CTRL_go 1).put F.GN_ACQ_STAT_state acqCapture).setAcq fun _ =>
        { AcqSt.zero with
          startAt := t
          src := src
          pad := pad
          sh := c2.get F.GN_ACQ_PRM_sh
          words := captureWords src (c2.get F.GN_ACQ_PRM_tc) (c2.get F.GN_ACQ_PRM_nn)
          req := c2.searchReq }

/-- CAPTURE_START (R325). -/
def Chip.captureStart (c : Chip) : Chip :=
  if c.get F.GN_ACQ_STAT_state ≠ acqCapture ∨ c.gn.acq.capturing then c
  else
    let c1 := c.advanceTo c.gn.acq.startAt
    let s := c.gn.acq.startAt / rootPerTick
    let c2 := (c1.wr R.GN_ACQ_T0_LO (BitVec.ofNat 32 s)).wr R.GN_ACQ_T0_HI (BitVec.ofNat 32 (s / 2 ^ 32))
    let on := c2.bit F.RF_STAT_ovl
    (if on then c2.latch F.GN_ACQ_STAT_ovl else c2).setAcq fun a => { a with capturing := true, ovl := on }

/-- A quantised part (R325). -/
def quantise (sh : Nat) (v : Int) : Nat := wrap (satInt (fdiv v (2 ^ sh)) (-128) 127) 8

/-- Two samples in one word (R325). -/
def packPair (sh : Nat) (a b : Int × Int) : Word :=
  BitVec.ofNat 32 (quantise sh a.1 * 2 ^ 24 + quantise sh a.2 * 2 ^ 16 + quantise sh b.1 * 2 ^ 8 + quantise sh b.2)

/-- Words that the capture FIFO holds (R325). -/
def fifoDepth : Nat := 1024

/-- Hand one sample to the engine: every second one completes a word, which waits for the window (R187, R325). -/
def Chip.takeSample (c : Chip) (x : Int × Int) : Chip :=
  let a := c.gn.acq
  if a.words ≤ a.done ∨ a.fifoFull = true then c
  else match a.half with
    | none => c.setAcq fun a => { a with half := some x }
    | some e =>
      let base := (c.acqPad.map (·.base)).getD 0
      let c1 := { c with pas := { c.pas with queue := c.pas.queue ++ [(base + a.done, WinReq.acqWrite (packPair a.sh e x))] } }
      c1.setAcq fun a => { a with half := none, done := a.done + 1, fifoFull := decide (fifoDepth ≤ c1.acqFifo) }

/-- Root cycles of a capture sample: 16.384 MS/s (R325). -/
def acqSampleRoot : Nat := 180

/-- A notch output of the capture's band, for the instant `u` (R325): the engine resamples what it has taken. -/
def Chip.captureBand (c : Chip) (src u : Nat) (y : Int × Int) : Chip :=
  if c.get F.GN_ACQ_STAT_state ≠ acqCapture ∨ c.gn.acq.src ≠ src ∨ u < c.gn.acq.startAt then c
  else
    let c1 := c.setAcq fun a => { a with band := a.band ++ [(u, y)] }
    let a := c1.gn.acq
    let t := a.startAt + acqSampleRoot * a.made
    if t ≤ u ∧ a.made < 2 * a.words then
      (c1.setAcq fun a => { a with made := a.made + 1 }).takeSample
        (Config.acqResample (a.band.map fun e => (Int.ofNat e.1 - Int.ofNat t, e.2)))
    else c1

/-- A capture from a microphone paddock takes one sample per frame (R325, R344). -/
def Chip.acqFrame (c : Chip) : Chip :=
  let a := c.gn.acq
  if !a.capturing || decide (a.src ≠ 2) || decide (c.now ≤ a.startAt) then c
  else c.takeSample (micSample (c.micWord a.pad), 0)

/-- CAPTURE_OVERFLOW (R325): the FIFO has been full, and the capture is abandoned. -/
def Chip.captureOverflow (c : Chip) : Chip :=
  if !c.gn.acq.capturing || !c.gn.acq.fifoFull then c
  else (c.clearFifo.latch F.GN_ACQ_STAT_ovf).acqDone (2 ^ 16 + 2 ^ 18 * b2n c.gn.acq.ovl)

/-- The capture is complete and the search begins (R328). -/
def Chip.captureDone (c : Chip) : Chip :=
  if c.gn.acq.done < c.gn.acq.words then c
  else (c.put F.GN_ACQ_STAT_state acqSearch).setAcq fun a => { a with capturing := false, band := [], searchAt := c.now }

/-! ## The search (R327, R328) -/

/-- Read a captured word (R181). -/
def Chip.acqWord (c : Chip) (i : Nat) : Word × Chip :=
  let w := (c.acqPad.map (·.base)).getD 0 + i
  match c.physOf (w / bankWords) with
  | some b =>
    let (v, _, c1) := c.pasRead 1 c.seCycle (w / bankWords) b (w % bankWords)
    (v, c1)
  | none => (0, c)

/-- The two samples of a word (R325). -/
def wordSamples (v : Word) : List (Rat × Rat) :=
  let part := fun (lo : Nat) => ((sext (v.toNat / 2 ^ lo % 256) 8 : Int) : Rat)
  [(part 24, part 16), (part 8, part 0)]

/-- The captured samples, each word read once. -/
def Chip.captured (c : Chip) : List (Rat × Rat) × Chip :=
  (List.range c.gn.acq.words).foldl (fun (acc : List (Rat × Rat) × Chip) i =>
    let (v, c1) := acc.2.acqWord i
    (acc.1 ++ wordSamples v, c1)) ([], c)

/-- Samples of a segment (R325). -/
def segLen : Nat := 16384

/-- The replica of a segment for a PRN: one chip sign for each sample. -/
def acqReplica (sig prn : Nat) : List Int :=
  match sigRow? sig with
  | none => []
  | some s => (List.range segLen).map fun k =>
    replicaAt sig s (s.pilot && Config.acqPilot sig) prn
      (if sig = 11 then (k : Rat) / 8 else (k : Rat) * (s.rate : Rat) / 16384000)

/-- The frequency of bin `j` in Hz (R327). -/
def SearchReq.binHz (r : SearchReq) (j : Nat) : Int := r.ctr * 4 + (Int.ofNat j - Int.ofNat (r.nb / 2)) * Int.ofNat r.step

/-- Samples with a frequency wiped off, at `fs` samples per second, the first one with phase 0. -/
def wipeOff (f fs : Rat) (xs : List (Rat × Rat)) : List (Rat × Rat) :=
  (xs.zip (List.range xs.length)).map fun e =>
    let a := -(f * (e.2 : Rat) / fs)
    cmulR e.1 (Config.cos a, Config.sin a)

/-- The circular correlation of a segment with a replica delayed by `s` samples. -/
def corrAt (y : List (Rat × Rat)) (r : List Int) (s : Nat) : Rat × Rat :=
  (y.zip (List.range segLen)).foldl (fun acc e =>
    let g : Rat := ((r[(e.2 + segLen - s) % segLen]?).getD 0 : Int)
    (acc.1 + g * e.1.1, acc.2 + g * e.1.2)) (0, 0)

/-- The cell of sample `s` over segments that are summed in groups of `tc` (R327). -/
def cellAt (tc nn : Nat) (segs : List (List (Rat × Rat))) (r : List Int) (s : Nat) : Rat :=
  ((List.range nn).map fun a =>
    let g := ((segs.drop (a * tc)).take tc).foldl (fun (acc : Rat × Rat) y =>
      let v := corrAt y r s
      (acc.1 + v.1, acc.2 + v.2)) (0, 0)
    g.1 * g.1 + g.2 * g.2).foldl (· + ·) 0

/-- The samples in segments. -/
def segments : Nat → List (Rat × Rat) → List (List (Rat × Rat))
  | 0, _ => []
  | n + 1, xs => xs.take segLen :: segments n (xs.drop segLen)

/-- The cells of a PRN, 16,384 for each bin in order (R327). -/
def Chip.cells (c : Chip) (xs : List (Rat × Rat)) (prn : Nat) : List Rat :=
  let q := c.gn.acq.req
  let (off, fs) : Rat × Rat := match sigRow? q.sig with
    | some s => if s.src = 3 then (0, (c.frameRate : Rat)) else (((s.carrier : Int) - (ddcCentre s.src : Int) : Int), 16384000)
    | none => (0, 1)
  let r := acqReplica q.sig prn
  ((List.range q.nb).map fun j =>
    let segs := segments (q.tc * q.nn) (wipeOff (off + (q.binHz j : Rat)) fs xs)
    (List.range segLen).map (cellAt q.tc q.nn segs r)).flatten

/-- The highest cell of a list, the first one where several are highest: index and value. -/
def topCell : List Rat → Nat → Nat × Rat → Nat × Rat
  | [], _, best => best
  | v :: r, i, best => topCell r (i + 1) (if best.2 < v then (i, v) else best)

/-- Record entry `i` (R327): its cells, 16,384 for each bin in order. A sum of zero leaves the metric without a stated value. -/
def Chip.recordCell (c : Chip) (i : Nat) (cells : List Rat) : Chip :=
  let (k, peak) := topCell cells 0 (0, 0)
  let sum := cells.foldl (· + ·) 0
  let (raw, c1) := if sum = 0 then c.draw else ((peak * 256 * (cells.length : Rat) / sum).floor.toNat, c)
  let metric := min raw 65535
  ((((c1.put (F.GN_ACQ_RES_A_valid i) 1).putB (F.GN_ACQ_RES_A_det i) (decide (c1.get F.GN_ACQ_THR_thr ≤ metric))).put
    (F.GN_ACQ_RES_A_bin i) (k / segLen)).put (F.GN_ACQ_RES_A_sample i) (k % segLen)).put (F.GN_ACQ_RES_B_metric i) metric

/-- Root cycles of a search (R328): its transforms, each 16,384 CLK_COR cycles of 24 root cycles. -/
def SearchReq.span (r : SearchReq) : Nat :=
  (r.prns.length + r.tc * r.nn * r.nb * (1 + r.prns.length)) * 16384 * 24

/-- SEARCH_END (R327, R328): the search ends and records the highest cell of each PRN entry. -/
def Chip.searchEnd (c : Chip) (sig : Nat) : Chip :=
  if c.get F.GN_ACQ_STAT_state ≠ acqSearch ∨ c.gn.acq.req.sig ≠ sig then c
  else
    let q := c.gn.acq.req
    let (xs, c1) := (c.advanceTo (c.gn.acq.searchAt + q.span)).captured
    let c2 := (q.prns.zip (List.range 16)).foldl (fun c e => c.recordCell e.2 (c.cells xs e.1)) c1
    let dets := ((List.range q.prns.length).filter fun i => c2.bit (F.GN_ACQ_RES_A_det i)).length
    c2.acqDone (dets + 2 ^ 18 * b2n c.gn.acq.ovl)

/-- The GN block is reset (R439): every channel IDLE, the acquisition abandoned, the notches disengaged. -/
def Chip.gnReset (c : Chip) : Chip := { c.acqAbort with gn := { GnSt.zero with l1At := c.now, l5At := c.now } }

end Sys2Proof.Machine
end

