-- ==== Sys2Proof/Machine/StcLoad.lean ====
section
/-! DEFINITION. StcLoad.lean: loads of the sample time counter (R40 to R42, R377). -/

namespace Sys2Proof.Machine

/-! ## The numbers that a load moves (R42) -/

/-- How far a load moves the count, in root cycles, and the new count; `whole`: the whole-second branch. -/
structure Step where
  d : Int
  whole : Bool
  deriving DecidableEq, Repr

/-- An instant in root cycles, numbered anew. -/
def Step.root (s : Step) (n : Nat) : Nat := (Int.ofNat n + s.d).toNat
/-- A count in ticks, numbered anew. -/
def Step.tick (s : Step) (n : Nat) : Nat := (Int.ofNat n + fdiv s.d 15360).toNat
/-- The superframe boundary at or after a numbered-anew instant. -/
def Step.sup (s : Step) (n : Nat) : Nat := (s.tick n + 383) / 384 * 384
/-- A superframe number, numbered anew (R377). -/
def Step.sfn (s : Step) (j : Nat) : Nat := (Int.ofNat j + fdiv s.d (15360 * 384)).toNat

/-- A triggered start names an STC and keeps it. -/
def Step.lane (s : Step) (l : Lane) : Lane :=
  { l with
    startAt := if l.trig then l.startAt else l.startAt.map s.root
    stopAt := l.stopAt.map s.root
    muteTo := s.root l.muteTo
    hist := l.hist.map fun e => (e.1, e.2.map fun x => (x.1 + s.d, x.2))
    maskLog := l.maskLog.map fun e => (e.1 + s.d, e.2) }
def Step.grp (s : Step) (g : Grp) : Grp :=
  { g with haltAt := g.haltAt.map s.root, relAt := g.relAt.map s.root, starts := g.starts.map (· + s.d), lossAt := g.lossAt.map s.root }
def Step.tx (s : Step) (t : Tx) : Tx := { t with s := s.tick (3 * t.s) / 3 }
def Step.chan (s : Step) (x : Chan) : Chan := 
  { x with startAt := x.startAt.map s.root, at_ := s.root x.at_, was := x.was.map fun w => { w with inst := s.root w.inst } }

def Step.rf (s : Step) (r : RfSt) : RfSt :=
  { r with
    posted := r.posted.map s.tx
    cur := r.cur.map s.tx
    endAt := s.root r.endAt
    adcAt := s.root r.adcAt
    gainAt := r.gainAt.map s.root
    rxAt := r.rxAt.map s.root
    ilcAt := r.ilcAt.map s.root
    calTo := s.root r.calTo
    monAt := r.monAt.map s.root
    blindTo := r.blindTo + s.d
    protTo := r.protTo + s.d }

def Step.gn (s : Step) (g : GnSt) : GnSt :=
  { g with
    ch := g.ch.map fun e => (e.1, s.chan e.2)
    acq := { g.acq with
      startAt := s.root g.acq.startAt
      band := g.acq.band.map fun e => (s.root e.1, e.2)
      searchAt := s.root g.acq.searchAt }
    l1At := s.root g.l1At
    l5At := s.root g.l5At
    rateAt := g.rateAt.map fun k => (s.tick (k * 192000) + 191999) / 192000
    epochAt := g.epochAt.map s.tick }

/-- The link's records by superframe; hops keep the superframe number they name (R377). -/
def Step.lnk (s : Step) (l : LnkSt) : LnkSt :=
  { l with
    ctrlAt := l.ctrlAt.map s.sup
    sfDone := l.sfDone.map s.sfn
    d4 := l.d4.map fun e => (s.sfn (e.1 / 32) * 32 + e.1 % 32, e.2)
    d2 := l.d2.map fun e => (s.sfn e.1, e.2)
    sentUp := l.sentUp.map fun e => (s.sfn e.1, e.2)
    aud := l.aud.map fun a => { a with sf := s.sfn a.sf }
    stray := l.stray.map fun x => { x with stc := BitVec.ofNat 32 (s.tick x.stc.toNat) }
    audFrom := s.tick l.audFrom }

def Step.txn (s : Step) (t : Txn) : Txn := { t with issued := t.issued + s.d, bursts := t.bursts.map (· + s.d) }
def Step.ring (s : Step) (r : Ring) : Ring :=
  { r with
    descs := r.descs.map fun d => { d with txns := d.txns.map s.txn }
    fetchAt := r.fetchAt.map (· + s.d)
    statusAt := r.statusAt.map (· + s.d) }

def Step.tp (s : Step) (t : TpSt) : TpSt := { t with endAt := s.root t.endAt, reqAt := s.root t.reqAt }

/-- Every instant that the device keeps by its number carries its new number; requests that name an STC keep it (R42). -/
def Chip.renumber (c : Chip) (s : Step) : Chip :=
  { c with
    time := { c.time with
      tp0 := s.tp c.time.tp0
      tp1 := s.tp c.time.tp1
      loadAt := s.root c.time.loadAt
      satAt := s.root c.time.satAt
      linkAt := s.root c.time.linkAt
      tmarkAt := s.root c.time.tmarkAt
      holdAt := s.root c.time.holdAt
      steerAt := c.time.steerAt.map s.tick }
    fold := { c.fold with
      bAt := if c.fold.atTime && decide (c.get F.FOLD_STAT_state ≠ 3) then c.fold.bAt else s.sup c.fold.bAt
      rAt := if c.fold.atTime && decide (c.get F.FOLD_STAT_state ≠ 3) then c.fold.rAt else s.sup c.fold.rAt }
    rot := { c.rot with lastH := s.tick c.rot.lastH, cur := c.rot.cur.map fun x => (x.1, x.2.1, x.2.2.1, s.tick x.2.2.2) }
    pas := { c.pas with lastH := s.tick c.pas.lastH, scrubAt := c.pas.scrubAt.map s.root }
    co := { c.co with commits := c.co.commits.map fun m => { m with earliest := s.root m.earliest } }
    crook := { c.crook with relAt := c.crook.relAt + s.d }
    prt := { c.prt with
      lanes := c.prt.lanes.map fun e => (e.1, s.lane e.2)
      grps := c.prt.grps.map fun e => (e.1, s.grp e.2)
      aligns := c.prt.aligns.map fun e => (e.1, { e.2 with stopAt := e.2.stopAt.map s.root }) }
    dma := { c.dma with rings := c.dma.rings.map fun e => (e.1, s.ring e.2) }
    evt := { c.evt with
      batch := c.evt.batch.map fun o => { o with inst := o.inst + s.d, since := o.since + s.d }
      active := c.evt.active.map fun l => { l with since := l.since + s.d }
      linger := c.evt.linger.map fun e => (e.1, e.2 + s.d) }
    bst := { c.bst with zAt := s.sup c.bst.zAt, tests := c.bst.tests.map fun t => { t with start := s.root t.start } }
    rf := s.rf c.rf
    gn := s.gn c.gn
    lnk := s.lnk c.lnk
    fresh := { c.fresh with cyc := s.root (8 * c.fresh.cyc) / 8 }
    shp := { c.shp with burnAt := s.root c.shp.burnAt }
    pwr := { c.pwr with qAt := s.sup c.pwr.qAt, wakeAt := s.root c.pwr.wakeAt, hashAt := s.root c.pwr.hashAt, bwAt := c.pwr.bwAt.map s.sup } }

/-! ## Requests that a load carries past -/

/-- Does a load from `old` to `new` carry the count to `t`, or past it (R42)? In the whole-second branch the second never carries the
count `old`, so a forward step carries it past `old` too. -/
def Step.carried (s : Step) (old new t : Nat) : Bool :=
  (decide (old < t) || (s.whole && decide (old = t) && decide (old < new))) && decide (t ≤ new)

/-- A load of the fold fails with a code that names no field (R65). -/
def Chip.failFold (c : Chip) (code : Nat) : Chip :=
  let c1 := (((c.put F.FOLD_STAT_err code).put F.FOLD_STAT_sect 0).put F.FOLD_ERR_OFS_ofs 0).put F.FOLD_STAT_state 0
  ((c1.put F.FOLD_CTRL_go 0).raise Ev.FOLD_ERR locNone 0)

/-- Refuse what the load carries past (R42): timed commits, triggered starts, a timed fold load. -/
def Chip.refuseCarried (c : Chip) (s : Step) (old new : Nat) : Chip :=
  let gone := fun (m : Commit) => !m.noFold && (match m.atStc with
    | some t => s.carried old new t
    | none => false)
  let c1 := (c.co.commits.filter gone).foldl (fun c _ => c.refuseAt)
    (c.setCo fun s => { s with commits := s.commits.filter fun m => !gone m })
  let c2 := (List.range 8).foldl (fun c a =>
    match (c.align a).trigAt with
    | some t =>
      if s.carried old new t then
        let c' := (c.setAlign a { c.align a with trigAt := none }).put (F.PRT_ALIGN_CTRL_go a) 0
        (((c'.alignLanes a).foldl Chip.dropTrig c').latch (F.PRT_ALIGN_CTRL_refused a)).raise Ev.PRT_REFUSED (locAlign a) 0
      else c
    | none => c) c1
  let st := c2.get F.FOLD_STAT_state
  if c2.fold.atTime && (st == 1 || st == 2) && s.carried old new c2.fold.at_ then
    { (c2.failFold 0x0D) with fold := { c2.fold with next := none } }
  else c2

/-! ## A load -/

/-- A capture of the same second is discarded (R41): of the second that ends with the load, or of the one that begins with it. -/
def Chip.discardCapture (c : Chip) (old : Nat) : Chip :=
  let cap := c.rd64 R.TIME_TMARK_CAP_LO R.TIME_TMARK_CAP_HI / 192000
  if c.bit F.TIME_TMARK_CTRL_new && (decide (cap = old / 192000) || decide (cap = (old - 1) / 192000)) then
    (c.put F.TIME_TMARK_CTRL_new 0).latch F.TIME_TMARK_CTRL_stepped
  else c

/-- PAS_R_STC after a load (R42). -/
def Chip.moveRStc (c : Chip) (old : Nat) (s : Step) : Chip :=
  let r := c.rd64 R.PAS_R_STC_LO R.PAS_R_STC_HI
  let put := fun (v : Nat) => (c.wr R.PAS_R_STC_LO (BitVec.ofNat 32 v)).wr R.PAS_R_STC_HI (BitVec.ofNat 32 (v / 2 ^ 32))
  if c.get F.FOLD_STAT_state = 3 then put c.fold.rAt
  else if s.whole then put (wrap (Int.ofNat r + fdiv s.d 15360) 64)
  else if c.bit F.FOLD_STAT_loaded then
    let frames := (old - r) / c.frameTicks + 1
    put (wrap (Int.ofNat c.nextBoundary - Int.ofNat (frames * c.frameTicks)) 64)
  else c

/-- A load is applied (R40 to R42). -/
def Chip.applyLoad (c : Chip) (whole : Bool) : Chip :=
  let old := c.time.stc
  let new := c.rd64 R.TIME_LOAD_LO R.TIME_LOAD_HI
  let frac := c.get F.TIME_LOAD_CTRL_frac
  let s : Step := ⟨Int.ofNat (new * rootPerTick + frac) - Int.ofNat c.now, whole⟩
  let c1 := ((c.discardCapture old).renumber s).setNow (new * rootPerTick + frac)
  ((c1.moveRStc old s).refuseCarried s old new).put F.TIME_LOAD_CTRL_go 0

/-- A load is refused (R40). -/
def Chip.refuseLoad (c : Chip) : Chip :=
  ((c.put F.TIME_LOAD_CTRL_go 0).latch F.TIME_LOAD_CTRL_refused).raise Ev.STC_LOAD_REFUSED locNone 0

/-- May a load act at once (R40)? -/
def Chip.loadsNow (c : Chip) : Bool :=
  !((List.range 17).any fun n =>
      let st := c.seState n
      decide (st = seArmed) || decide (st = seRunning) || decide (st = sePrep) || decide (st = seTwin)) &&
    (List.range 8).all fun g => !c.grpEn g || c.halted g

/-- A write of TIME_LOAD_CTRL: STC_LOAD_REQUEST (R40). The immediate branch acts one CLK_FAB cycle later. -/
def Chip.writeLoadCtrl (c : Chip) (v : Word) : Chip :=
  let pending := c.bit F.TIME_LOAD_CTRL_go
  let c1 := c.put F.TIME_LOAD_CTRL_frac (F.TIME_LOAD_CTRL_frac.of v)
  let c2 := if F.TIME_LOAD_CTRL_refused.ofB v then c1.w1c F.TIME_LOAD_CTRL_refused else c1
  if !F.TIME_LOAD_CTRL_go.ofB v || pending then c2
  else if c2.loadsNow then
    let c3 := c2.advance 8
    if c3.get F.TIME_LOAD_CTRL_frac < rootPerTick then c3.applyLoad false else c3.refuseLoad
  else { (c2.put F.TIME_LOAD_CTRL_go 1) with time := { c2.time with loadAt := c2.now } }

/-- STC_LOAD_APPLY (R40): the first whole second after the write judges a pending load. -/
def Chip.stcLoadApply (c : Chip) : Chip :=
  if !c.bit F.TIME_LOAD_CTRL_go || !c.atBoundary 192000 || decide (c.now ≤ c.time.loadAt) then c
  else
    let new := c.rd64 R.TIME_LOAD_LO R.TIME_LOAD_HI
    if new % 192000 = 0 ∧ c.get F.TIME_LOAD_CTRL_frac = 0 then c.applyLoad true else c.refuseLoad

end Sys2Proof.Machine
end

