-- ==== Sys2Proof/Machine/FoldLoad.lean ====
section
/-! DEFINITION. FoldLoad.lean: loads of a fold (R50, R66 to R73): the write of `go`, the end of the checks, B, the end of zeroing and R. -/

namespace Sys2Proof.Machine

def Chip.setFold (c : Chip) (f : FoldSt → FoldSt) : Chip := { c with fold := f c.fold }

/-! ## t0 and t1 -/

/-- May a bundle be read from `n` bytes at `a` (R69): within crook RAM, fitted LPDDR4X or the flash window? -/
def Chip.sourceOk (c : Chip) (a n : Nat) : Bool :=
  let inside := fun (lo hi : Nat) => decide (lo ≤ a) && decide (a + n ≤ hi)
  decide (a % 4 = 0) && decide (0 < n) && decide (n ≤ 65536) &&
    (inside 0 0x100000 || inside 0x80000000 (0x80000000 + c.ddrBytes) || inside 0xC0000000 0xC8000000)

/-- Bytes of the map, as a list. -/
def Chip.bytesAt (c : Chip) (a n : Nat) : List Nat := (List.range n).map fun i => (c.mem.byte (a + i)).toNat

/-- Does a read of `n` bytes at `a` meet a flash read error (R392, code 0x09)? -/
def Chip.flashFails (c : Chip) (a n : Nat) : Bool :=
  c.shp.flashErr.any fun r => decide (r.1 < a + n) && decide (a < r.1 + r.2)

/-- The shepherd copies the bundle that FOLD_SRC_ADDR and FOLD_SRC_LEN name into the fold buffer, whole at t0 (R50, R70; assumption
124). -/
def Chip.copyBundle (c : Chip) : Chip :=
  let a := c.get F.FOLD_SRC_ADDR_addr
  let n := c.get F.FOLD_SRC_LEN_len
  let err := if !c.sourceOk a n then some 0x0C else if c.flashFails a n then some 0x09 else none
  c.setFold fun f => { f with bundle := if err.isNone then (c.bytesAt a n).map (BitVec.ofNat 8) else [], srcErr := err }

/-- A write of FOLD_CTRL: FOLD_GO (R69, R70, R426). -/
def Chip.writeFoldCtrl (c : Chip) (v : Word) : Chip :=
  let c0 := if F.FOLD_CTRL_rej.ofB v then c.w1c F.FOLD_CTRL_rej else c
  let c1 := (c0.put F.FOLD_CTRL_at_time (F.FOLD_CTRL_at_time.of v)).put F.FOLD_CTRL_hold (F.FOLD_CTRL_hold.of v)
  if !F.FOLD_CTRL_go.ofB v then c1
  else if c1.get F.FOLD_STAT_state ≠ 0 || c1.get F.BST_STAT_shut ≠ 0 then c1.latch F.FOLD_CTRL_rej
  else (((c1.put F.FOLD_CTRL_go 1).put F.FOLD_STAT_state 1).copyBundle).setFold fun f =>
    { f with
      atTime := F.FOLD_CTRL_at_time.ofB v
      hold := F.FOLD_CTRL_hold.ofB v
      at_ := c1.rd64 R.FOLD_AT_LO R.FOLD_AT_HI
      next := none
      startLoad := false }

/-- Usable engines and banks: a load maps around a unit from its failing verdict on (R417). -/
def Chip.usableEngines (c : Chip) : List Nat := (List.range 17).filter fun n =>
  decide (c.get (F.FOLD_ENGINE_status n) ≠ 3) && !c.failPending (.engine (Fin.ofNat 17 n))
def Chip.usableBanks (c : Chip) : List Nat := (List.range 49).filter fun b =>
  decide (c.get (F.FOLD_BANK_status b) ≠ 3) && !c.failPending (.bank (Fin.ofNat 49 b))

/-- What the fold checks read of the device (R65 to R67). -/
def Chip.foldEnv (c : Chip) : FoldEnv :=
  { guardFused := c.bit F.SYS_FEAT2_guard_fused
    guardCount := c.shadow 60 % 128
    engines := c.usableEngines.length
    banks := c.usableBanks.length }

/-- Record the outcome of a load's checks (R65). -/
def Chip.foldResult (c : Chip) (e : FoldErr) : Chip :=
  ((c.put F.FOLD_STAT_err e.1).put F.FOLD_STAT_sect e.2.1).put F.FOLD_ERR_OFS_ofs e.2.2

/-- The checks of a fold of firmware but code 0x0D, made on the copy alone (R50): the failure or the fold, its section, and the code
for SHP_BOOT_ERR.last (R392): none where no bundle code applies. -/
def Chip.refoldCheck (c : Chip) : Except FoldErr (Fold × List Nat) × Option Nat :=
  match c.fold.srcErr with
  | some e => (.error (0x0C, 0, 0), if e = 0x09 then some e else none)
  | none =>
    let b : Image := c.fold.bundle.map (·.toNat)
    if b.length < 12 ∨ b.length < bunLen b then (.error (0x0C, 0, 0), none)
    else
      match c.bunErr true b with
      | some e => (.error (0x01, 0, 0), some e)
      | none =>
        let s := bunSect b 0
        let img := b.part s.ofs s.len
        if sha384 img ≠ s.hash then (.error (0x01, 0, 0), some 0x07)
        else
          match checkFold c.foldEnv img with
          | some e => (.error e, some 0x08)
          | none => (.ok (readFold img, img), some 0)

/-- The checks pass: WAITING for B (R70). -/
def Chip.foldWaits (c : Chip) (f : Fold) (b : Nat) : Chip :=
  ((c.foldResult (0, 0, 0)).put F.FOLD_STAT_state 2).setFold fun s =>
    { s with next := some f, bAt := c.clearBoundary b, rAt := c.clearBoundary b + 384 }

/-- FOLD_CHECKS_END (R65, R70): a failure leaves the fold in use in force. The checks of the start's fold end at pass. -/
def Chip.foldChecksEnd (c : Chip) : Chip :=
  if c.get F.FOLD_STAT_state ≠ 1 || c.fold.startLoad then c
  else
    let (res, last) := c.refoldCheck
    let c1 := match last with
      | some e => c.put F.SHP_BOOT_ERR_last e
      | none => c
    match res with
    | .error e =>
      (((c1.foldResult e).put F.FOLD_STAT_state 0).put F.FOLD_CTRL_go 0).raise Ev.FOLD_ERR locNone 0
    | .ok (f, img) =>
      let c2 := c1.setFold fun s => { s with buf := img.map (BitVec.ofNat 8) }
      if !c2.fold.atTime then c2.foldWaits f c2.nextSuperframe
      else if c2.fold.at_ % 384 ≠ 0 ∨ c2.fold.at_ * rootPerTick ≤ c2.now then c2.failFold 0x0D
      else c2.foldWaits f c2.fold.at_

/-! ## Physical units (R66, R67) -/

/-- Give each item that holds nothing the lowest free unit. Where a verdict after the checks leaves fewer units than items, the highest
items hold none (DESIGN CHOICE; assumption 125). -/
def fillUnits (free : List Nat) : List (Nat × Option Nat) → List (Nat × Nat) × List Nat
  | [] => ([], free)
  | (i, some u) :: r => let (l, rest) := fillUnits free r
                        ((i, u) :: l, rest)
  | (i, none) :: r =>
    match free with
    | [] => let (l, rest) := fillUnits [] r
            (l, rest)
    | u :: free' => let (l, rest) := fillUnits free' r
                    ((i, u) :: l, rest)

/-- The rule of R66 and R67: `kept i` is the usable unit that item `i` keeps. The assignment, and the units left over, in rising
order. -/
def assignUnits (usable : List Nat) (items : List Nat) (kept : Nat → Option Nat) : List (Nat × Nat) × List Nat :=
  let held := items.filterMap kept
  fillUnits (usable.filter fun u => !held.contains u) (items.map fun i => (i, kept i))

/-- The engines that the roles of a fold will hold (R66), and those left over. -/
def Chip.planEngines (c : Chip) (f : Fold) : List (Nat × Nat) × List Nat :=
  assignUnits c.usableEngines (List.range (totalRoles f.flocks)) fun r =>
    (c.holder r).filter fun n => c.usableEngines.contains n

/-- Roles on engines, the spare and the idle ones (R66, R85). Every engine that works is STOPPED. The count of handovers since the load
starts again. -/
def Chip.placeEngines (c : Chip) (f : Fold) : Chip :=
  let (l, rest) := c.planEngines f
  let spare := rest.getLast?
  let c1 := c.usableEngines.foldl (fun c n =>
    let role := (l.find? fun e => decide (e.2 = n)).map (·.1)
    let e := c.engine n
    let c' := c.setEngine n ⟨{ e.core with outw := [], inw := [], pend := [], slot := .none, ended := true }, 0, 0⟩
    let set := fun (st status flock role : Nat) =>
      (((c'.put (F.SE_STAT_state n) st).put (F.SE_STAT_role n) role).put (F.SE_STAT_flock n) flock).wr (R.FOLD_ENGINE n)
        (BitVec.ofNat 32 (status * 2 ^ 14 + flock * 256 + role))
    let c'' := match role with
      | some r => set seStopped 1 (flockOfRole f.flocks r 0) r
      | none => if spare = some n then set seSpare 2 0 0 else set seIdle 0 0 0
    (c''.put (F.SE_CTRL_run_req n) 0).put (F.SE_CTRL_stop_req n) 0) c
  let c2 := ((c1.wr R.SE_ROT_STAT 0).put F.SE_ROT_STAT_spare (spare.getD 0x1F)).put F.SE_ROT_COUNT_count 0
  { c2 with rot := { c2.rot with lastRole := none, claims := [], cur := none, cancel := false, mism := none
                                 storesE := [], storesS := [], readsE := [] } }

/-- Logical banks on physical banks and the spare bank (R67). The count of bank swaps since the load starts again. -/
def Chip.placeBanks (c : Chip) : Chip :=
  let (l, rest) := assignUnits c.usableBanks (List.range 48) fun lb => (c.physOf lb).filter fun b => c.usableBanks.contains b
  let spare := rest.getLast?
  let c1 := c.usableBanks.foldl (fun c b =>
    match l.find? fun e => decide (e.2 = b) with
    | some e => c.wr (R.FOLD_BANK b) (BitVec.ofNat 32 (2 ^ 14 + e.1))
    | none => c.wr (R.FOLD_BANK b) (BitVec.ofNat 32 (if spare = some b then 2 ^ 15 else 0))) c
  (((c1.wr R.PAS_ROT_STAT 0).put F.PAS_ROT_STAT_spare (spare.getD 0x3F)).put F.PAS_ROT_COUNT_count 0).setPas fun p =>
    { p with lastLb := none }

/-! ## B -/

/-- The paddocks and bank schedules in force from B, and their registers. -/
def Chip.usePads (c : Chip) (f : Fold) : Chip :=
  let c1 := c.setPas fun p => { p with pads := f.pads, sched := f.sched }
  let c2 := (List.range 32).foldl (fun c i =>
    let p := f.pads.getD i ⟨0, 0, 0⟩
    ((c.wr (R.PAS_PAD_BASE i) (BitVec.ofNat 32 (p.owner * 2 ^ 24 + p.base))).wr (R.PAS_PAD_LEN i) (BitVec.ofNat 32 p.length)).put
      (F.PAS_SP_sp i) 0) c1
  (List.range 192).foldl (fun c i =>
    c.wr (R.PAS_SCHED i) (BitVec.ofNat 32 ((List.range 4).foldl (fun a k => a + f.sched.getD (4 * i + k) 0 * 2 ^ (8 * k)) 0))) c2

/-- Is a clock group's descriptor the same in both folds (R72)? -/
def sameGroup (a : Option Fold) (b : Fold) (g : Nat) : Bool :=
  match a with
  | some f => decide (f.groups[g]? = b.groups[g]?)
  | none => false

/-- Lanes stop at B: zero words go out, what came in is discarded, requests fall (R70). The buffer of an output lane with `src` = 1
empties too (DESIGN CHOICE, assumption 135). Groups that change stop (R72). -/
def Chip.stopLanes (c : Chip) (f : Fold) : Chip :=
  let c1 := (List.range 32).foldl (fun c n =>
    ((((c.setLane n Lane.zero).put (F.PRT_LANE_STAT_state n) laneStopped).put (F.PRT_LANE_STAT_waiting n) 0).put
      (F.PRT_LANE_CTRL_start n) 0).put (F.PRT_LANE_CTRL_stop n) 0) c
  let c2 := (List.range 8).foldl (fun c a =>
    ((c.setAlign a AlignSt.zero).put (F.PRT_ALIGN_CTRL_go a) 0).put (F.PRT_ALIGN_CTRL_stop a) 0) c1
  (List.range 8).foldl (fun c g =>
    if sameGroup c.fold.cur f g then c
    else ((c.setGrp g { c.grp g with seen := false, good := 0, starts := [], ratios := [], lossAt := none }).put (F.PRT_GRP_STAT_clk_ok g) 0).levelOff Ev.PRT_CLK_LOSS
      (locGroup g)) c2

/-- Correlator channels whose CORR entry changes drop lock, and an acquisition is abandoned (R72, R329, R337). -/
def Chip.dropChannels (c : Chip) (f : Fold) : Chip :=
  let old := match c.fold.cur with
    | some o => o.corr
    | none => []
  let c1 := (List.range 96).foldl (fun c n => if old[n]? = f.corr[n]? then c else c.chanDrop n) c
  if c1.get F.GN_ACQ_STAT_state = 0 then c1 else c1.acqAbort

/-- All 48 logical banks read zero. -/
def Chip.zeroPasture (c : Chip) : Chip :=
  c.setPas fun p => { p with words := [], err := [], pend := [], stores := [], relay := [], relayPend := [], scrubReq := [], scrubBack := [], scrubAt := none }

/-- FOLD_APPLY: the load reaches B (R70). -/
def Chip.foldApply (c : Chip) : Chip :=
  match c.fold.next with
  | none => c
  | some f =>
    if c.get F.FOLD_STAT_state ≠ 2 || decide (c.time.stc ≠ c.fold.bAt) || decide (c.time.frac.val ≠ 0) then c
    else
      let c1 := ((c.put F.FOLD_STAT_state 3).put F.FOLD_STAT_held 0).dropHandover.abandonTests.dropMirror
      let c2 := ((((c1.pauseOnPasture true).dropChannels f).stopLanes f).placeEngines f).placeBanks.zeroPasture
      let c3 := (c2.usePads f).setFold fun s => { s with zeroing := true }
      (c3.wr R.PAS_R_STC_LO (BitVec.ofNat 32 c.fold.rAt)).wr R.PAS_R_STC_HI (BitVec.ofNat 32 (c.fold.rAt / 2 ^ 32))

/-- FOLD_ZEROING_END: 65,536 CLK_SE cycles after B (R70). The scrub train restarts at row 0 of every bank, its first request due in this
cycle (R182). -/
def Chip.foldZeroingEnd (c : Chip) : Chip :=
  if !c.fold.zeroing then c
  else
    let c1 := (c.advanceTo (c.fold.bAt * rootPerTick + 4 * 65536)).setFold fun s => { s with zeroing := false }
    c1.setPas fun p =>
      { p with scrubReq := [], scrubBack := [], scrubRow := [], scrubAt := if c1.bit F.PAS_SCRUB_en then some c1.now else none }

/-! ## R -/

/-- Clock groups, lanes and MCK of the new fold (R60, R70, R72, R209); every halt clears (R211). The registers of a disabled group or
lane read their reset values (R60). -/
def Chip.usePorts (c : Chip) (f : Fold) : Chip :=
  let c1 := (List.range 8).foldl (fun c g =>
    let d := f.groups.getD g ⟨0, 0, 0, 0, 0, 0, 0xFF⟩
    let slave := d.en == 1 && d.role == 0
    let loss := if !slave then none else match (c.grp g).lossAt with
      | some t => if sameGroup c.fold.cur f g && !c.halted g then some t else some (c.now + clockWait)
      | none => some (c.now + clockWait)
    let c0 := ((c.setGrp g { c.grp g with haltAt := none, relAt := none, lossAt := loss }).put (F.PRT_GRP_CTRL_halt g) 0).put
      (F.PRT_GRP_STAT_halted g) 0
    let c' := (((((((c0.wr (R.PRT_GRP_CFG g) 0).put (F.PRT_GRP_CFG_en g) d.en).put (F.PRT_GRP_CFG_role g) d.role).put
      (F.PRT_GRP_CFG_fmt g) d.fmt).put (F.PRT_GRP_CFG_slots g) d.slots).put (F.PRT_GRP_CFG_width g) d.width).put
      (F.PRT_GRP_CFG_asrc g) d.asrc).put (F.PRT_GRP_CFG_align g) d.align
    if d.en = 0 then
      (((c'.wr (R.PRT_GRP_STAT g) 0).wr (R.PRT_GRP_PHASE g) 0).wr (R.PRT_GRP_RATIO g) 0).wr (R.PRT_GRP_FERR g) 0
    else
      let c'' := if d.asrc = 1 then c' else c'.put (F.PRT_GRP_STAT_asrc_lock g) 0
      if d.role = 1 then (c''.put (F.PRT_GRP_STAT_clk_ok g) 1).put (F.PRT_GRP_PHASE_phase g) 0
      else if sameGroup c.fold.cur f g then c''
      else c''.put (F.PRT_GRP_STAT_clk_ok g) 0) c
  let c2 := (List.range 32).foldl (fun c n =>
    let d := f.lanes.getD n ⟨0, 0, 0, 0, 0, 0⟩
    let g := f.groups.getD d.group ⟨0, 0, 0, 0, 0, 0, 0xFF⟩
    let locked := d.en == 1 && d.src == 0 && (g.role == 1 || g.asrc == 1)
    let c0 := if d.en = 0 then ((c.wr (R.PRT_LANE_CTRL n) 0).wr (R.PRT_LANE_STAT n) 0).wr (R.PRT_LANE_SLIP n) 0 else c
    let c' := ((((((c0.wr (R.PRT_LANE_CFG n) 0).put (F.PRT_LANE_CFG_en n) d.en).put (F.PRT_LANE_CFG_dir n) d.dir).put
      (F.PRT_LANE_CFG_group n) d.group).put (F.PRT_LANE_CFG_src n) d.src).put (F.PRT_LANE_CFG_ring n) d.ring).putB
      (F.PRT_LANE_CFG_locked n) locked
    let l := if d.en = 0 then Lane.zero else { c.lane n with maskPend := [], maskLog := [] }
    ((c'.put (F.PRT_LANE_MASK_mask n) d.mask).put (F.PRT_LANE_MASK_active n) d.mask).setLane n l) c1
  c2.wr R.PRT_MCK (BitVec.ofNat 32 f.mck)

/-- Every enabled lane starts at R (R70), the lanes of an alignment group as if it were triggered; `lost` of every group clears and no
trigger stays pending (R232). With `hold` = 0 the output lanes carry zero words for one frame more (R71). -/
def Chip.startLanes (c : Chip) (hold : Bool) : Chip :=
  let c0 := (List.range 8).foldl (fun c a =>
    ((c.setAlign a AlignSt.zero).put (F.PRT_ALIGN_CTRL_go a) 0).put (F.PRT_ALIGN_CTRL_lost a) 0) c
  (List.range 32).foldl (fun c n =>
    if c.laneEn n then
      let c1 := c.startLane n (decide (c.grpAlign (c.laneGrp n) < 8))
      c1.setLane n { c1.lane n with muteTo := if c.laneOut n && c.laneDma n && !hold then c.now + c.framePeriod else 0 }
    else c) c0

/-- The guard map (R63, R72, R289): a channel whose entry changes starts from zero state. -/
def Chip.useGuard (c : Chip) (f : Fold) : Chip :=
  let old := match c.fold.cur with
    | some o => o.guard
    | none => []
  (List.range 64).foldl (fun c ch =>
    if old[ch]? = f.guard[ch]? then c
    else
      let c1 := (c.levelOff Ev.GUARD_THERMAL (c.locGuardCh ch)).levelOff Ev.GUARD_DC (c.locGuardCh ch)
      let c2 := ((c1.setGuardCh ch GuardCh.zero).wr (R.GUARD_CH_HEAT ch) 0).wr (R.GUARD_CH_DCM ch) 0
      let (lane, slot) := f.guard.getD ch (0, 0)
      ((((c2.put (F.GUARD_CH_STAT_dc ch) 0).put (F.GUARD_CH_STAT_trip ch) 0).put (F.GUARD_CH_STAT_lane ch) lane).put
        (F.GUARD_CH_STAT_slot ch) slot).putB (F.GUARD_CH_STAT_en ch) (decide (ch < f.guard.length))) c

/-- Engines at R: with `hold` = 0 every working one starts; requests written from B on act now (R70, R85, R86), a stop before a run
(assumption 127). -/
def Chip.startEngines (c : Chip) (hold : Bool) : Chip :=
  (List.range 17).foldl (fun c n =>
    let st := c.seState n
    if st ≠ seStopped ∧ st ≠ seArmed then c
    else
      let e := c.engine n
      let run := (!hold || st = seArmed) && e.stopIn = 0
      let k := if run then { e.core.startFrame with g := seedOf (c.rd (R.SE_SEED n)), pend := [] } else e.core
      (((c.setEngine n ⟨k, 0, 0⟩).put (F.SE_STAT_state n) (if run then seRunning else seStopped)).put (F.SE_CTRL_run_req n) 0).put
        (F.SE_CTRL_stop_req n) 0) c

/-- A load reaches R (R70 to R73): the fold is in force. -/
def Chip.reachR (c : Chip) (f : Fold) (hold : Bool) : Chip :=
  let c1 := (((((c.put F.FOLD_STAT_state 0).put F.FOLD_STAT_loaded 1).put F.FOLD_STAT_rate f.rate).wr R.FOLD_ID f.foldId).put
    F.FOLD_CTRL_go 0).putB F.FOLD_STAT_held hold
  let c2 := ((c1.useGuard f).usePorts f).setFold fun s =>
    { s with cur := some f, next := none, zeroing := false, startLoad := false }
  let c3 := { c2 with
    evt := { c2.evt with tree := f.tree.getD defaultTree }
    rot := { c2.rot with lastH := c.time.stc }
    pas := { c2.pas with lastH := c.time.stc } }
  let c4 := (((c3.startLanes hold).startEngines hold).writeClkCtrl (BitVec.ofNat 32 f.clkCtrl)).judgeNoFold
  c4.lnkFold f

/-- Has a load come to R? -/
def Chip.atR (c : Chip) : Bool :=
  c.get F.FOLD_STAT_state == 3 && c.time.stc == c.fold.rAt && c.time.frac.val == 0

/-- FOLD_DONE: the load reaches R (R70 to R73); the first one in state START ends it (R428). A wake ends with RUN_READY instead. -/
def Chip.foldDone (c : Chip) : Chip :=
  match c.fold.next with
  | none => c
  | some f =>
    if !c.atR || c.get F.PWR_STAT_state = 4 then c
    else
      let c1 := c.reachR f c.fold.hold
      (if c1.get F.PWR_STAT_state = 0 then c1.put F.PWR_STAT_state 1 else c1).raise Ev.FOLD_DONE locNone 0

end Sys2Proof.Machine
end

