-- ==== Sys2Proof/Machine/Frame.lean ====
section
/-! DEFINITION. Frame.lean: what happens at every frame boundary, superframe boundary and whole second (R38, R74 to R81, R188, R204, R207
to R223, R284 to R292, R348), and the start of the shutdown test (R425). -/

namespace Sys2Proof.Machine

/-! ## Inside a frame boundary -/

/-- The frame that ends is over: engines that run are ended by force in the tail, and their writes land (R77, R79). -/
def Chip.endFrames (c : Chip) : Chip :=
  let c1 := (List.range 17).foldl Chip.forceEnd c
  (List.range 17).foldl (fun c n =>
    if c.runs n then c.setEngine n { c.engine n with core := (c.engine n).core.drain c.tailCycle } else c) c1

/-- From here the words of the frame before are discarded: at B and until R (R70), at Z and after (R425), at Q (R431). -/
def Chip.discards (c : Chip) : Bool :=
  let st := c.get F.FOLD_STAT_state
  let shut := c.get F.BST_STAT_shut
  decide (st = 3) || (st == 2 && c.time.stc == c.fold.bAt) || decide (2 ≤ shut) || (shut == 1 && c.time.stc == c.bst.zAt) ||
    (decide (c.get F.PWR_STAT_state = 2) && c.time.stc == c.pwr.qAt)

/-- The output word that a route takes, as it stands after the drain (R81). -/
def Chip.routedWord (c : Chip) (discard : Bool) (r : Route) : Word :=
  if discard then 0
  else match c.holder r.role with
    | some n => KMap.get 0 r.word (c.engine n).core.outw
    | none => 0

/-- A word taken for an output slot, through the guard where the slot is guarded (R288). -/
def Chip.takeOutput (discard : Bool) (c : Chip) (r : Route) : Chip :=
  if !c.laneOut r.lane then c
  else
    let w := c.routedWord discard r
    let (v, c1) := match c.guardOf r.lane r.slot with
      | some ch => c.guardWord ch w
      | none => (w, c)
    c1.setLane r.lane { c1.lane r.lane with side := KMap.set 0 r.slot v (c1.lane r.lane).side }

/-- Every routed output word leaves (R81). -/
def Chip.takeOutputs (c : Chip) : Chip :=
  let d := c.discards
  match c.fold.cur with
  | none => c
  | some f =>
    let c1 := (List.range 32).foldl (fun c n =>
      if c.laneEn n && c.laneOut n && !c.laneDma n then c.setLane n { c.lane n with side := [] } else c) c
    f.routes.foldl (Chip.takeOutput d) c1

/-- The ports at a frame boundary: serial frames of running master groups start (R208), and the frame sides move their words
(R217, R220). -/
def Chip.movePorts (c : Chip) : Chip :=
  (List.range 32).foldl (fun c n =>
    if !c.laneEn n then c
    else
      let g := c.laneGrp n
      let c1 := if c.grpMaster g && c.grpRuns g then c.serialFrame n else c
      if c1.laneDma n then c1 else if c1.laneOut n then c1.outputSide n else c1.inputSide n) c

/-- The input words of a role (R80): an input word with no route reads zero. -/
def Chip.inputWords (c : Chip) (f : Fold) (role : Nat) : KMap Word :=
  f.routes.foldl (fun m r =>
    if r.role = role && !c.laneOut r.lane then KMap.set 0 r.word (KMap.get 0 r.slot (c.lane r.lane).side) m else m) []

/-- Latch the input words of every engine that holds a role (R80). -/
def Chip.latchInputs (c : Chip) : Chip :=
  match c.fold.cur with
  | none => c
  | some f => (List.range 17).foldl (fun c n =>
      match c.heldRole n with
      | some r => c.setEngine n { c.engine n with core := { (c.engine n).core with inw := c.inputWords f r } }
      | none => c) c

/-- LANE_FILL_REACHED (R80, R221): the words that an input lane pops at this boundary are latched at it. -/
def Chip.lanePass (c : Chip) (n : Nat) : Chip :=
  let c1 := c.laneFill n
  if c.bit (F.PRT_LANE_STAT_waiting n) && !c1.bit (F.PRT_LANE_STAT_waiting n) && !c.laneOut n then c1.latchInputs else c1

/-- Requests of engines come one boundary nearer (R86); none moves from B to R. -/
def Chip.nearRequests (c : Chip) : Chip :=
  if c.get F.FOLD_STAT_state = 3 then c
  else (List.range 17).foldl (fun c n =>
    let e := c.engine n
    c.setEngine n { e with runIn := oneNearer e.runIn, stopIn := oneNearer e.stopIn }) c

/-- Engines that run begin their frame (R75); one whose stop is due does not (R88). -/
def Chip.startFrames (c : Chip) : Chip :=
  if c.discards then c
  else (List.range 17).foldl (fun c n =>
    let e := c.engine n
    if c.seState n = seTwin ∨ (c.seState n = seRunning ∧ e.stopIn ≠ 1) then c.setEngine n { e with core := e.core.startFrame } else c) c

/-- Sample pointers move, but not from B up to and at R (R188). -/
def Chip.stepPointers (c : Chip) : Chip :=
  let st := c.get F.FOLD_STAT_state
  if st = 3 ∨ (st = 2 ∧ c.time.stc = c.fold.bAt) then c else c.movePointers

/-- Do frame boundaries occur: the root runs, and the device is not beyond Q of an entry to SLEEP (R27, R431)? -/
def Chip.framesRun (c : Chip) : Bool := c.time.rootOn && !c.pwr.atQ

/-- FRAME_BOUNDARY (R38): the frame in progress ends and time moves to the next boundary. Glides step while a fold is in force
(R203). -/
def Chip.frameBoundary (c : Chip) : Chip :=
  if !c.framesRun then c else
  let c1 := c.endFrames.advanceTo c.boundaryRoot
  let c2 := ((c1.relayBoundary.pasBoundary).acousticFrame).acqFrame
  let c2' := (c2.setPas fun p => { p with stores := [] }).stepPointers
  let c3 := if c2'.bit F.FOLD_STAT_loaded then c2'.stepGlides else c2'
  let c4 := (c3.takeOutputs.movePorts).latchInputs.nearRequests
  let c5 := c4.setBst fun b => { b with verdicts := b.verdicts.map fun v => { v with due := true } }
  let c6 := if c5.rot.cancel then c5.dropHandover else c5
  c6.startFrames

/-! ## Superframes and seconds -/

/-- SUPERFRAME_BOUNDARY (R312, R348): once at each. An idle run ends with its superframe, and a calibration within it. -/
def Chip.superframe (c : Chip) : Chip :=
  if !c.onSuperframe || decide (c.lnk.sfDone = some c.sfn) then c
  else
    let c1 := c.lnkSuperframe.audStart.setLnk fun l => { l with sfDone := some c.sfn }
    c1.calAbandon

/-- CLK32K cycles since the last clear of GUARD_AIR_CNT (R441). -/
def Chip.sinceAirClear (c : Chip) : Nat := ((c.rd R.PWR_TMR).toNat + 2 ^ 32 - c.pwr.airClear % 2 ^ 32) % 2 ^ 32

/-- WHOLE_SECOND (R291, R441): the count of keyed units clears, but not too soon after the clear before a reset. -/
def Chip.wholeSecond (c : Chip) : Chip :=
  if !c.atBoundary 192000 then c
  else
    let c1 := c.countAir.levelOff Ev.RF_AIRTIME locNone
    if c1.pwr.airReset && decide (c1.sinceAirClear < 32768) then c1
    else { (c1.put F.GUARD_AIR_CNT_count 0) with pwr := { c1.pwr with airReset := false, airClear := (c1.rd R.PWR_TMR).toNat } }

/-! ## The shutdown test -/

/-- An engine stops in the boundary now; its output words are discarded. -/
def Chip.stopNow (c : Chip) (n : Nat) : Chip :=
  let e := c.engine n
  let c1 := ((c.setEngine n ⟨{ e.core with outw := [], ended := true, pend := [], slot := .none }, 0, 0⟩).put (F.SE_CTRL_run_req n) 0).put
    (F.SE_CTRL_stop_req n) 0
  if (c.heldRole n).isSome then c1.put (F.SE_STAT_state n) seStopped else c1

/-- SHUTDOWN_START at Z (R425): everything stops, and 64 CLK_SE cycles later every usable unit is under test. -/
def Chip.shutdownStart (c : Chip) : Chip :=
  if c.get F.BST_STAT_shut ≠ 1 || decide (c.time.stc ≠ c.bst.zAt) || decide (c.time.frac.val ≠ 0) then c
  else
    let c1 := (c.put F.BST_STAT_shut 2).dropHandover.dropMirror.abandonTests
    let c2 := (List.range 17).foldl Chip.stopNow (c1.pauseOnPasture false)
    let c3 := if c2.get F.GN_ACQ_STAT_state = 0 then c2 else c2.acqAbort
    let c4 := c3.advanceTo (c3.now + 256)
    let c5 := (List.range 17).foldl (fun c n =>
      if c.seState n = seUnusable then c else c.startTest (.engine (Fin.ofNat 17 n)) 4) c4
    (List.range 49).foldl (fun c b =>
      if c.get (F.FOLD_BANK_status b) = 3 then c else c.startTest (.bank (Fin.ofNat 49 b)) 4) c5

end Sys2Proof.Machine
end

