-- ==== Sys2Proof/Machine/Reset.lean ====
section
/-! DEFINITION. Reset.lean: what the resets keep and lose (R427, R436 to R438, R440, R441), fuse burns (R386, R387, R440), and the release
of the crook (R269). -/

namespace Sys2Proof.Machine

def Chip.setShp (c : Chip) (f : ShpSt → ShpSt) : Chip := { c with shp := f c.shp }
def Chip.setPwr (c : Chip) (f : PwrSt → PwrSt) : Chip := { c with pwr := f c.pwr }

/-- Bytes put at `a`, in place of what stood there. -/
def Mem.place (a : Nat) (bs : List Byte) (m : Mem) : Mem :=
  (m.filter fun e => decide (e.1 < a)) ++
    (((List.range bs.length).zip bs).filterMap fun e => if e.2 = 0 then none else some (a + e.1, e.2)) ++
    (m.filter fun e => decide (a + bs.length ≤ e.1))

/-- Every byte of `n` from `a` zero. -/
def Mem.clear (a n : Nat) (m : Mem) : Mem := KMap.keep (fun k => !(decide (a ≤ k) && decide (k < a + n))) m

/-! ## Fuses -/

/-- Root cycles of the burn of one bit, 50 µs. -/
def rootPerBurn : Nat := 147456

def orBit (row bit : Nat) (m : KMap Word) : KMap Word := KMap.set 0 row (KMap.get 0 row m ||| BitVec.ofNat 32 (2 ^ bit)) m
def dropBit (row bit : Nat) (m : KMap Word) : KMap Word := KMap.set 0 row (KMap.get 0 row m &&& ~~~BitVec.ofNat 32 (2 ^ bit)) m

/-- Does the bit read 1 strict? -/
def ShpSt.burnt (s : ShpSt) (rb : Nat × Nat) : Bool := bitAt (KMap.get 0 rb.1 s.fuse).toNat rb.2
/-- A bit that takes no burn. -/
def ShpSt.isDud (s : ShpSt) (rb : Nat × Nat) : Bool := bitAt (KMap.get 0 rb.1 s.dud).toNat rb.2

/-- A bit receives part of a burn (R387). -/
def ShpSt.weaken (s : ShpSt) (rb : Nat × Nat) : ShpSt := if s.burnt rb then s else { s with weak := orBit rb.1 rb.2 s.weak }

/-- A bit receives a whole burn: it reads 1 strict, but where it takes none. -/
def ShpSt.burn (s : ShpSt) (rb : Nat × Nat) : ShpSt :=
  if s.isDud rb then s.weaken rb
  else { s with fuse := orBit rb.1 rb.2 s.fuse, weak := dropBit rb.1 rb.2 s.weak }

/-- The command whose burns run (R403). -/
def ShpSt.burning (s : ShpSt) : Option MbCmd :=
  match s.burnQ with
  | [] => none
  | h :: _ => if h then s.hostCmd else s.crookCmd

/-- Burns of a list in order, up to and with the first that fails. -/
def ShpSt.burnAll (s : ShpSt) : List (Nat × Nat) → ShpSt × Bool
  | [] => (s, true)
  | rb :: r => if s.isDud rb then (s.burn rb, false) else ShpSt.burnAll (s.burn rb) r

/-- A reset cuts the burns under way: whole ones stand, the one begun leaves a weak bit, the rest leaves nothing (R440). -/
def Chip.cutBurn (c : Chip) : Chip :=
  match c.shp.burning with
  | none => c
  | some m =>
    let t := c.now - c.shp.burnAt
    let (s, ok) := c.shp.burnAll (m.burns.take (t / rootPerBurn))
    let next := m.burns[t / rootPerBurn]?
    c.setShp fun _ =>
      match next with
      | some rb => if ok && decide (t % rootPerBurn ≠ 0) then s.weaken rb else s
      | none => s

/-! ## Resets -/

/-- Registers of the retention domain (R317, R427). -/
def retainedReg (a : Nat) : Bool :=
  within a 0x400E0000 0x400E0FFF || within a R.RF_WAKE_CTRL R.RF_WAKE_STAT || a == R.CLK_STEER || a == R.CLK_INTEG ||
    a == R.GUARD_AIR_CNT

/-- The wake record is no longer valid (R406, R436). -/
def dropWakeRecord (m : Mem) : Mem := Mem.write 0 0 m 4

/-- A reset of the shepherd and core domains (R427, R436, R438, R440): fuses, the board's flash, retained RAM, the retention domain and
what R437 zeroes later stay. The count restarts at zero. The chain of R441 begins. -/
def Chip.deviceReset (c : Chip) (cause : Nat) (stage : Stage) : Chip :=
  let c0 := c.countAir.cutBurn
  let c1 : Chip := { Chip.powerOn with
    regs := KMap.keep retainedReg c0.regs
    free := c0.free
    co := { CoSt.zero with active := c0.co.active, shadow := c0.co.shadow }
    rf := { RfSt.zero with off0 := c0.rf.off0, off1 := c0.rf.off1, gain := c0.rf.gain, skew := c0.rf.skew }
    shp := { ShpSt.zero with
      stage := stage, fuse := c0.shp.fuse, weak := c0.shp.weak, dud := c0.shp.dud, flashErr := c0.shp.flashErr }
    pwr := { PwrSt.zero with
      rstN := c0.pwr.rstN, pg := c0.pwr.pg, supply := c0.pwr.supply, frac32 := c0.pwr.frac32, airClear := c0.pwr.airClear
      airReset := true }
    ret := dropWakeRecord c0.ret
    mem := KMap.keep (fun a => !within a 0x80000000 0xBFFFFFFF) c0.mem }
  ((c1.put F.PWR_STAT_state 0).put F.PWR_STAT_cause cause).put F.PWR_CMD_sleep 0

/-- A reset of every domain (R436): fuses and the board's flash stay. -/
def Chip.fullReset (c : Chip) : Chip :=
  let s := c.cutBurn.shp
  { Chip.powerOn with
    free := c.free
    shp := { ShpSt.zero with fuse := s.fuse, weak := s.weak, dud := s.dud, flashErr := s.flashErr }
    pwr := { PwrSt.zero with rstN := c.pwr.rstN, pg := false }
    mem := KMap.keep (fun a => within a 0xC0000000 0xC7FFFFFF) c.mem }

/-- Does the device answer soft, watchdog and security resets (R408, R436)? -/
def Chip.softResets (c : Chip) : Bool := decide (c.get F.SHP_STAT_phase ≠ 6)

/-- A reset that runs R383 at once (R436). -/
def Chip.softReset (c : Chip) (cause : Nat) : Chip := if c.softResets then c.deviceReset cause .t0 else c

/-! ## The crook -/

/-- Is the window request the crook's? -/
def WinReq.isCrook : WinReq → Bool
  | .crookLoad _ => true
  | .crookStore _ => true
  | _ => false

/-- The crook and its page in reset (R436, crook only). -/
def Chip.crookReset (c : Chip) : Chip :=
  { c with
    crook := CrookSt.zero
    regs := KMap.keep (fun a => !within a 0x40060000 0x40060FFF) c.regs
    pas := { c.pas with queue := c.pas.queue.filter fun q => !q.2.isCrook } }

/-- The crook leaves reset at `entry` (R269). -/
def Chip.crookRelease (c : Chip) (entry : Nat) : Chip :=
  let c1 := c.crookReset
  let c2 := { c1 with crook := { CrookSt.zero with
    mode := 1, relAt := Int.ofNat c.now, core := { Core.zero with pc := entry } } }
  let c3 := (c2.wr R.CRK_ENTRY (BitVec.ofNat 32 entry)).put F.CRK_STAT_running 1
  if 2 ^ 20 ≤ entry then c3.doubleFault 0 entry (BitVec.ofNat 32 entry) else c3

end Sys2Proof.Machine
end

