-- ==== Sys2Proof/Machine/Shepherd.lean ====
section
/-! DEFINITION. Shepherd.lean: the start sequence (R383): root lock, fuse repair, the start test, selection and verification of a bundle,
boot-hold, and pass (R384 to R399, R423, R424). -/

namespace Sys2Proof.Machine

/-! ## Root lock -/

/-- The state of the discipline loop on wake (R43). -/
def Chip.wakeDisc (c : Chip) : Chip :=
  let st := if c.time.sleepSel then stHold else stFree
  { (((c.put F.CLK_STAT_state st).put F.CLK_STAT_coarse 1)).setDisc st with time := { c.time with holdAt := c.now } }

/-- PWR_OVERTEMP that held through a reset or a sleep is active again once the fabric runs (R272, R444). -/
def Chip.renewOvertemp (c : Chip) : Chip := if c.bit F.PWR_STAT_otemp then c.levelOn Ev.PWR_OVERTEMP locNone 0 else c

/-- ROOT_PLL_LOCK (R27, R43, R383, R433): the root locks `n32k` CLK32K cycles after the last one counted. -/
def Chip.pllLock (c : Chip) (n32k : Nat) : Chip :=
  let tick := fun (c : Chip) => c.wr R.PWR_TMR (c.rd R.PWR_TMR + BitVec.ofNat 32 n32k)
  let on := fun (c : Chip) => ({ c with time := { c.time with rootOn := true } }).put F.CLK_STAT_locked 1
  if c.shp.stage = .t0 then ((on (tick c)).renewOvertemp).setShp fun s => { s with stage := .sense }
  else if c.get F.PWR_STAT_state = 4 ∧ !c.time.rootOn then
    let n := c.pwr.slept + n32k
    let c0 := { (tick c) with regs := KMap.keep (fun a => !within a 0x400F0000 0x400F0FFF) (tick c).regs, hif := HifSt.zero }
    let c1 := c0.setNow (c.time.sleepStc * rootPerTick + c.time.sleepFrac + rootPer32k * n)
    let c2 := (on c1).setPwr fun p => { p with wakeAt := c1.now - rootPer32k * n32k, hashAt := c1.now + 8 * 671744 }
    c2.wakeDisc.renewOvertemp
  else c

/-! ## Fuses (R386 to R388) -/

/-- The weak bits, lowest row and bit first (R387). -/
def ShpSt.weakBits (s : ShpSt) : List (Nat × Nat) :=
  s.weak.flatMap fun e => ((List.range 32).filter fun b => bitAt e.2.toNat b).map fun b => (e.1, b)

/-- What other registers show of the shadows (R286, R388, R400). -/
def Chip.loadMirrors (c : Chip) : Chip :=
  let r0 := c.shadow 0
  let count := if bitAt r0 8 then c.shadow 60 % 128 else 0
  let c1 := (((c.put F.SYS_FEAT2_grade (b2n (bitAt r0 2))).put F.SYS_FEAT2_guard_fused (b2n (bitAt r0 8))).put F.SYS_FEAT2_radio_fused
    (b2n (bitAt r0 9))).put F.SYS_FEAT2_owner_code (b2n (bitAt r0 10))
  let radio := if bitAt r0 9 then c.shadow 57 else 0
  let c2 := (c1.put F.GUARD_RADIO_FUSE_pwr_max (radio % 64)).put F.GUARD_RADIO_FUSE_air_max (radio / 2 ^ 16)
  let c3 := (List.range 64).foldl (fun c' i =>
    let (a, b) := if i < count then (c.shadow (61 + 2 * i), c.shadow (62 + 2 * i)) else (0xFFFFFFFF, 0)
    (c'.wr (R.GUARD_CH_FUSE i) (BitVec.ofNat 32 a)).wr (R.GUARD_CH_FUSE2 i) (BitVec.ofNat 32 b)) c2
  (c3.wr R.SYS_DIE_LO (BitVec.ofNat 32 (c.shadow 189))).wr R.SYS_DIE_HI (BitVec.ofNat 32 (c.shadow 190))

/-- The registers of the mailbox page that show fuses (R384, R400). -/
def Chip.showFuses (c : Chip) : Chip :=
  let keys := (List.range 4).foldl (fun a k => a + b2n (c.keyProg k) * 2 ^ k + b2n (c.keyRevoked k) * 2 ^ (4 + k)) 0
  (c.wr R.SHP_KEYS (BitVec.ofNat 32 keys)).put F.SHP_CTR_ctr c.rollback

/-- `SHP_STAT.phase`, which stays 4 from boot-hold until pass (R398). -/
def Chip.setPhase (c : Chip) (p : Nat) : Chip := if c.get F.SHP_STAT_phase = 4 ∧ p < 3 then c else c.put F.SHP_STAT_phase p

/-- The result of a mailbox command of the host that runs until pass or failure (R404). -/
def Chip.answerHost (c : Chip) (result : Nat) : Chip :=
  c.setShp fun s => { s with hostCmd := s.hostCmd.map fun m =>
    if m.result.isNone && (m.code == 0x10 || m.code == 0x11) then { m with result := some result } else m }

/-- Boot-hold (R398). -/
def Chip.enterHold (c : Chip) : Chip :=
  let r := if c.get F.SHP_BOOT_ERR_last = 5 then 6 else 4
  ((c.put F.SHP_STAT_phase 4).answerHost r).setShp fun s => { s with stage := .hold, boot := none }

/-- FUSE_REPAIR (R387, R388, R437). Where a bit fails, the start ends in boot-hold with what the strict reads give (assumption 123). -/
def Chip.fuseRepair (c : Chip) : Chip :=
  if c.shp.stage ≠ .sense then c
  else
    let bits := c.shp.weakBits
    let s := bits.foldl ShpSt.burn c.shp
    let n := (bits.filter s.burnt).length
    let c1 := (c.advance (589824 + rootPerBurn * bits.length)).setShp fun _ => s
    let c2 := { c1 with mem := KMap.keep (fun a => decide (0x80000000 ≤ a)) c1.mem, co := CoSt.zero }
    let c3 := (c2.setShp fun s => { s with shadow := s.fuse, stage := .test })
    let c4 := ((c3.put F.SHP_STAT_lc (lifecycle (c3.shadow 0))).put F.SHP_STAT_repaired (min n 255)).showFuses.loadMirrors
    let c5 := if n = 0 then c4 else c4.raise Ev.SHP_SECURITY locNone (BitVec.ofNat 32 n)
    if n < bits.length then (c5.put F.SHP_BOOT_ERR_last 0x0A).enterHold else c5

/-! ## The start test (R423, R424) -/

def allUnits : List TestUnit := (List.finRange 17).map TestUnit.engine ++ (List.finRange 49).map TestUnit.bank

/-- Is a unit marked? -/
def Chip.marked (c : Chip) : TestUnit → Bool
  | .engine n => bitAt c.markEng n.val
  | .bank b => bitAt c.markBank b.val

/-- Show a marked unit as unusable; an engine so from the end of the start test on, before a fold is in force (DESIGN CHOICE; assumption
126). -/
def Chip.showMark (c : Chip) (u : TestUnit) : Chip :=
  if !c.marked u then c
  else match u with
    | .engine n => (c.put (F.SE_STAT_state n.val) seUnusable).put (F.FOLD_ENGINE_status n.val) 3
    | .bank b => c.put (F.FOLD_BANK_status b.val) 3

def Chip.showMarks (c : Chip) : Chip := allUnits.foldl Chip.showMark c

/-- One unit's start test: its verdict stands, and it holds what the test leaves (R412, R415). A unit with no result counted nothing. -/
def Chip.startResult (res : List TestRes) (c : Chip) (u : TestUnit) : Chip :=
  let (n, sig) := match res.find? fun r => decide (r.unit = u) with
    | some r => (r.count, r.sig)
    | none => (0, 0)
  (c.scramble u).recordVerdict u 0 n sig

/-- START_TEST_END (R423, R424). -/
def Chip.startTestEnd (c : Chip) (res : List TestRes) : Chip :=
  if c.shp.stage ≠ .test then c
  else
    let flags := recField c.ret 4 4
    let valid := recValid c.ret
    let keep := valid && !bitAt flags 1
    let skip := keep && bitAt flags 0
    let c1 := if keep then c.setMarks (recField c.ret 8 4) (recField c.ret 0xC 8) else c.setMarks 0 0
    let c2 := { c1 with ret := recWrite 0 c1.markEng c1.markBank 0 (recField c.ret 0x18 4) c1.ret }
    let c3 := if skip then c2 else (allUnits.filter fun u => !c2.marked u).foldl (Chip.startResult res) c2
    let fails := if skip then 0 else (allUnits.filter fun u => !c2.marked u && c3.marked u).length
    let c4 := (((c3.putB F.BST_STAT_rec_valid valid).putB F.BST_STAT_skipped skip).put F.BST_STAT_start_fails fails).showMarks
    (c4.setPhase 1).setShp fun s => { s with stage := .select }

/-! ## Selection (R394) -/

def toImage (l : List Byte) : Image := l.map (·.toNat)

/-- The bundle sources: 0 and 1 the flash slots, 2 the host's stream. -/
def slotBase (src : Nat) : Nat := if src = 0 then 0xC0000000 else 0xC4000000

/-- Record a code for a source (R392). -/
def Chip.setBootErr (c : Chip) (src code : Nat) : Chip :=
  let f := if src = 0 then F.SHP_BOOT_ERR_slot_a else if src = 1 then F.SHP_BOOT_ERR_slot_b else F.SHP_BOOT_ERR_host
  (c.put f code).put F.SHP_BOOT_ERR_last code

/-- A slot's header, as the shepherd reads it, and its code. -/
def Chip.readSlot (c : Chip) (src : Nat) : List Byte × Nat :=
  let h := (c.bytesAt (slotBase src) 1248).map (BitVec.ofNat 8)
  (h, if c.flashFails (slotBase src) 1248 then 0x09 else (c.bunErr false (toImage h)).getD 0)

/-- Begin to copy and verify a bundle whose header passed. -/
def Chip.startBoot (c : Chip) (src : Nat) (hdr : List Byte) (alt : Option (List Byte)) : Chip :=
  (c.setPhase 2).setShp fun s => { s with
    stage := .verify, boot := some ⟨src, hdr, 0, alt, [], 0, [], true, false⟩ }

/-- HEADER_CHECK (R394). -/
def Chip.headerCheck (c : Chip) : Chip :=
  if c.shp.stage ≠ .select then c
  else if bitAt (c.shadow 0) 11 then c.enterHold
  else
    let (ha, ea) := c.readSlot 0
    let (hb, eb) := c.readSlot 1
    let c1 := (c.setBootErr 0 ea).setBootErr 1 eb
    if ea = 0 ∧ eb = 0 then
      if bunVer (toImage ha) < bunVer (toImage hb) then c1.startBoot 1 hb (some ha) else c1.startBoot 0 ha (some hb)
    else if ea = 0 then c1.startBoot 0 ha none
    else if eb = 0 then c1.startBoot 1 hb none
    else c1.enterHold

/-! ## Sections (R395, R396) -/

/-- Zero a range of the map that a bundle was copied to. -/
def Chip.zeroRange (c : Chip) (r : Nat × Nat) : Chip :=
  if r.1 < 0x18000000 ∨ 0x20000000 ≤ r.1 then { c with mem := Mem.clear r.1 r.2 c.mem }
  else
    let lo := (r.1 - 0x18080000) / 4
    { c with co := { c.co with shadow := KMap.keep (fun k => !(decide (lo ≤ k) && decide (k < lo + r.2 / 4))) c.co.shadow } }

/-- A check fails: the crook is held in reset again, every destination is zeroed, and the other slot or boot-hold follows (R394, R396,
R399). -/
def Chip.bootFail (c : Chip) (b : Boot) (code : Nat) : Chip :=
  let c1 := c.setBootErr b.src code
  let c2 := if c1.bit F.CRK_STAT_running then (c1.crookReset).put F.SHP_STAT_early 0 else c1
  let c2' := c2.setShp fun s => { s with drop := b.src == 2 }
  let c3 := ((b.wrote.foldl Chip.zeroRange c2').setFold fun f => { f with buf := [], next := none, startLoad := false }).put
    F.FOLD_STAT_state 0
  match b.alt with
  | some h => if code = 7 ∨ code = 8 then c3.startBoot (1 - b.src) h none else c3.enterHold
  | none => c3.enterHold

/-- The source's bytes of a section. -/
def Chip.sectBytes (c : Chip) (b : Boot) (s : BSect) : List Nat :=
  if b.src = 2 then ((b.bytes.drop s.ofs).take s.len).map (·.toNat) else c.bytesAt (slotBase b.src + s.ofs) s.len

/-- The engine that will hold a role (R66, R395). -/
def Chip.engineFor (c : Chip) (role : Nat) : Option Nat :=
  match c.fold.next with
  | some f => ((c.planEngines f).1.find? fun e => decide (e.1 = role)).map (·.2)
  | none => none

/-- Copy a section to its destination, which takes no other write from here on (R391, R395). -/
def Chip.copySection (c : Chip) (b : Boot) (s : BSect) (data : List Nat) : Chip × Boot :=
  let bytes := data.map (BitVec.ofNat 8)
  let at_ := fun (a : Nat) => ({ c with mem := Mem.place a bytes c.mem }, { b with wrote := b.wrote ++ [(a, s.len)] })
  if s.typ = 1 then at_ s.dest
  else if s.typ = 2 then (c.setFold fun f => { f with buf := bytes }, b)
  else if s.typ = 3 then
    match c.engineFor s.arg with
    | some n => at_ (0x20000000 + n * 0x10000)
    | none => (c, b)
  else
    let lo := (s.dest - 0x18080000) / 4
    let word := fun (i : Nat) => BitVec.ofNat 32 (leField bytes (4 * i) 4)
    ({ c with co := { c.co with shadow := KMap.refill 0 lo (s.len / 4) word c.co.shadow } },
      { b with wrote := b.wrote ++ [(s.dest, s.len)] })

/-- The code of a copied section whose hash has been compared: the hash, and for the fold its checks and the role rule (R392). -/
def Chip.sectErr (c : Chip) (sects : List BSect) (s : BSect) (data : List Nat) : Option Nat × Chip :=
  if sha384 data ≠ s.hash then (some 0x07, c)
  else if s.typ ≠ 2 then (none, c)
  else
    match checkFold c.foldEnv data with
    | some e => (some 0x08, c.foldResult e)
    | none =>
      let f := readFold data
      let c1 := ((c.foldResult (0, 0, 0)).put F.FOLD_STAT_state 1).setFold fun s => { s with next := some f, startLoad := true }
      (if sects.any fun x => x.typ == 3 && decide (totalRoles f.flocks ≤ x.arg) then some 0x02 else none, c1)

/-- Keep the bundle under way. -/
def Chip.keepBoot (c : Chip) (b : Boot) : Chip := c.setShp fun s => { s with boot := some b }

/-- Has the section arrived? A flash slot's always has. -/
def Boot.arrived (b : Boot) (n : Nat) : Bool := b.src != 2 || decide (n ≤ b.bytes.length)

/-- The hashes of CROOK sections that were left until the crook ran (R396), of the copies, which nothing else may write (R395). -/
def Chip.lateHashes (c : Chip) (b : Boot) (sects : List BSect) : Chip :=
  if sects.any fun s => s.typ == 1 && sha384 (c.bytesAt s.dest s.len) != s.hash then c.bootFail b 0x07 else c.keepBoot { b with late := false }

/-- The next section of the table is copied and, but for CROOK sections of an early bundle, compared. -/
def Chip.nextSection (c : Chip) (b : Boot) (sects : List BSect) (s : BSect) : Chip :=
  if b.src ≠ 2 && c.flashFails (slotBase b.src + s.ofs) s.len then c.bootFail b 0x09
  else
  let data := c.sectBytes b s
  let (c1, b1) := c.copySection b s data
  let b2 := { b1 with next := b.next + 1 }
  let early := bunEarly (toImage b.hdr)
  if s.typ = 1 && early then
    if (sects.drop (b.next + 1)).any fun x => x.typ == 1 then c1.keepBoot b2
    else ((c1.crookRelease (bunEntry (toImage b.hdr))).put F.SHP_STAT_early 1).keepBoot { b2 with late := true }
  else
    let (e, c2) := c1.sectErr sects s data
    match e with
    | some code => c2.bootFail b2 code
    | none => c2.keepBoot b2

/-- SECTION_VERIFY (R395): one section, or the hashes left over; when nothing is left, pass follows. -/
def Chip.sectionVerify (c : Chip) : Chip :=
  match c.shp.boot with
  | none => c
  | some b =>
    if c.shp.stage ≠ .verify || !b.checked then c
    else
      let sects := bunSects (toImage b.hdr)
      if b.late then c.lateHashes b sects
      else
        match sects[b.next]? with
        | some s => if b.arrived (s.ofs + s.len) then c.nextSection b sects s else c
        | none => if b.arrived b.len then c.setShp fun s => { s with stage := .passing } else c

/-! ## Pass (R397) -/

/-- GUARD_GATE at pass (R384). -/
def gateAtPass (lc : Nat) : Word := if lc = 1 then 0b1101 else 0b1011

/-- The shadow copies of every COEF range go to the active copies (R395). -/
def Chip.landCoefs (c : Chip) (sects : List BSect) : Chip :=
  (sects.filter fun s => s.typ == 4).foldl (fun c s =>
    let lo := (s.dest - 0x18080000) / 4
    let a := KMap.refill 0 lo (s.len / 4) (fun i => KMap.get 0 (lo + i) c.co.shadow) c.co.active
    { c with co := { c.co with active := a } }) c

/-- BST_DONE and the start test's failures, once the fabric can deliver them (R424). -/
def Chip.startEvents (c : Chip) : Chip :=
  let arg := c.get F.BST_STAT_start_fails + 512 * c.get F.BST_STAT_skipped
  let c1 := c.raise Ev.BST_DONE locNone (BitVec.ofNat 32 arg)
  allUnits.foldl (fun c u =>
    let a := (c.rd (resultA u)).toNat
    if bitAt a 31 && (bitAt a 30 || bitAt a 29) then c.raiseFail u 0 (bitAt a 30) (bitAt a 29) else c) c1

/-- PASS: every check has passed (R383, R397, R424). -/
def Chip.pass (c : Chip) : Chip :=
  match c.shp.boot, c.fold.next with
  | some b, some f =>
    if c.shp.stage ≠ .passing then c
    else
      let h := toImage b.hdr
      let lc := c.lifeState
      let c1 := ((c.landCoefs (bunSects h)).setBootErr b.src 0).answerHost 0
      let c2 := (((c1.put F.SHP_STAT_phase 3).put F.SHP_STAT_slot b.src).put F.SHP_CTR_key (bunKey h)).put F.SHP_CTR_ver (bunVer h)
      let key := if lc = 1 then (bunPub h).map (BitVec.ofNat 8) else []
      let c3 := (c2.wr R.GUARD_GATE (gateAtPass lc)).setShp fun s =>
        { s with stage := .passed, boot := none, gatePass := gateAtPass lc, key := key }
      let c4 := (if c3.bit F.CRK_STAT_running then c3 else c3.crookRelease (bunEntry h)).put F.SHP_STAT_early 0
      let c5 := c4.startEvents.setFold fun s => { s with startLoad := true, hold := false, atTime := false }
      c5.foldWaits f c5.nextSuperframe
  | _, _ => c

end Sys2Proof.Machine
end

