-- ==== Sys2Proof/Machine/Mailbox.lean ====
section
/-! DEFINITION. Mailbox.lean: the commands of the shepherd's mailbox (R399 to R404, R409, R439) and the TAP (R407, R408). -/

namespace Sys2Proof.Machine

/-! ## Challenge and response (R409) -/

/-- The challenge: 16 bytes of the random generator, die identity, lifecycle, purpose and zeros. -/
def Chip.challenge (c : Chip) (purpose : Nat) : Chip :=
  let (k, c1) := c.drawMany 16
  let rnd := (List.range 16).map fun i => BitVec.ofNat 8 (Config.freeValue (k + i))
  let le := fun (v : Nat) => (List.range 4).map fun i => BitVec.ofNat 8 (v / 2 ^ (8 * i))
  let b : List Byte := rnd ++ le (c.shadow 189) ++ le (c.shadow 190) ++
    [BitVec.ofNat 8 c.lifeState, BitVec.ofNat 8 purpose, 0, 0, 0, 0, 0, 0]
  let c2 := c1.setShp fun s => { s with chal := some b }
  (List.range 8).foldl (fun c i => c.wr (R.SHP_CHAL i) (BitVec.ofNat 32 (leField b (4 * i) 4))) c2

/-- What a RESPOND with these 196 bytes comes to: result, and on success the purpose. -/
def Chip.judgeResponse (c : Chip) (b : List Nat) : Nat × Nat :=
  match c.shp.chal with
  | none => (4, 0)
  | some ch =>
    let k := leField (b.map (BitVec.ofNat 8)) 0 4
    let pub := (b.drop 4).take 96
    if 3 < k || (c.keyErr k pub).isSome then (4, 0)
    else if !ecdsaOk pub ((b.drop 100).take 96) (sha384 (toImage ch)) then (6, 0)
    else (0, (toImage ch).getD 25 0)

/-- The bytes of words, least significant first. -/
def wordBytes (v : Word) : List Byte := (List.range 4).map fun i => BitVec.ofNat 8 (v.toNat / 2 ^ (8 * i))

/-- A channel's command. -/
def Chip.mbCmd (c : Chip) (crook : Bool) : Option MbCmd := if crook then c.shp.crookCmd else c.shp.hostCmd
def Chip.setMbCmd (c : Chip) (crook : Bool) (m : Option MbCmd) : Chip :=
  c.setShp fun s => if crook then { s with crookCmd := m } else { s with hostCmd := m }

/-- Queue a channel's burns (R403): the first in the queue begins now. -/
def Chip.queueBurn (c : Chip) (crook : Bool) : Chip :=
  c.setShp fun s => { s with burnQ := s.burnQ ++ [!crook], burnAt := if s.burnQ.isEmpty then c.now else s.burnAt }

/-- A running RESPOND takes its 49 words once they are there (R409). -/
def Chip.tryRespond (c : Chip) : Chip :=
  match c.shp.hostCmd with
  | none => c
  | some m =>
    if m.code ≠ 0x32 || m.result.isSome || !m.burns.isEmpty || c.shp.fifo.length < 49 then c
    else
      let b := ((c.shp.fifo.take 49).flatMap wordBytes).map (·.toNat)
      let (r, purpose) := c.judgeResponse b
      let c1 := c.setShp fun s => { s with
        fifo := s.fifo.drop 49, chal := none, fails := if r = 0 then s.fails else s.fails + 1 }
      if r = 0 ∧ purpose = 2 then (c1.setMbCmd false (some { m with burns := [(0, 1)] })).queueBurn false
      else (if r = 0 then c1.put F.SHP_STAT_dbg_unl 1 else c1).setMbCmd false (some { m with result := some r })

/-! ## The host stream (R399) -/

/-- Has the stream failed now that it holds these bytes: its header, or its end before the bundle's? -/
def Chip.judgeStream (c : Chip) (b : Boot) : Chip :=
  let n := b.bytes.length
  let ended := decide (b.len ≤ n)
  let img := toImage (b.bytes.take 8)
  if b.checked then
    if ended && (bunSects (toImage b.hdr)).any fun s => decide (n < s.ofs + s.len) then c.bootFail b 0x0B else c.keepBoot b
  else if n < 224 || n < 224 + 64 * img.u16 6 then
    if ended then c.bootFail b 0x0B else c.keepBoot b
  else
    let hdr := b.bytes.take (224 + 64 * img.u16 6)
    match c.bunErr false (toImage hdr) with
    | some e => c.bootFail b e
    | none =>
      let b1 := { b with hdr := hdr, checked := true }
      if ended && (bunSects (toImage hdr)).any fun s => decide (n < s.ofs + s.len) then c.bootFail b1 0x0B else c.keepBoot b1

/-- Words of a host stream arrive. -/
def Chip.streamWords (c : Chip) (ws : List Word) : Chip :=
  match c.shp.boot with
  | some b => if b.src = 2 ∧ b.bytes.length < b.len then c.judgeStream { b with bytes := b.bytes ++ ws.flatMap wordBytes } else c
  | none => c

/-- MB_DATA_WRITE: a word of the host's (R399, R409); one that meets a full FIFO is discarded. -/
def Chip.writeMbData (c : Chip) (v : Word) : Chip :=
  match c.shp.boot with
  | some b =>
    if b.src = 2 then c.streamWords [v]
    else if 64 ≤ c.shp.fifo.length then c else (c.setShp fun s => { s with fifo := s.fifo ++ [v] }).tryRespond
  | none =>
    if c.shp.drop || decide (64 ≤ c.shp.fifo.length) then c
    else (c.setShp fun s => { s with fifo := s.fifo ++ [v] }).tryRespond

/-- The stream under way is cut short (R399). -/
def Chip.cutStream (c : Chip) : Chip :=
  match c.shp.boot with
  | some b => if b.src = 2 ∧ b.bytes.length < b.len then c.bootFail b 0x0B else c
  | none => c

/-! ## Block resets (R439) -/

/-- Every active occurrence of a level event ends. -/
def Chip.endLevel (c : Chip) (id : Nat) : Chip :=
  (c.evt.active.filter fun l => decide (l.id = id)).foldl (fun c l => c.levelOff id l.loc) c

/-- A page takes its reset values. -/
def Chip.pageReset (c : Chip) (lo hi : Nat) : Chip := { c with regs := KMap.keep (fun a => !within a lo hi || retainedReg a) c.regs }

/-- RF: receive and transmit OFF; what is kept for the retention domain stays; the PA is not keyed (R438). -/
def Chip.resetRf (c : Chip) : Chip :=
  let c1 := ((c.countAir.endLevel Ev.RF_ADC_OVERLOAD).endLevel Ev.RF_SYNTH_UNLOCK).endLevel Ev.RF_AIRTIME
  let r := c1.rf
  { (c1.pageReset 0x40080000 0x40080FFF) with rf := { RfSt.zero with off0 := r.off0, off1 := r.off1, gain := r.gain, skew := r.skew } }

/-- GN: channels IDLE, the acquisition abandoned, notches disengaged. -/
def Chip.resetGn (c : Chip) : Chip := (c.gnReset).pageReset 0x40090000 0x400A5FFF

/-- LNK: OFF, nothing of the drove kept; the plan of the fold in force. -/
def Chip.resetLnk (c : Chip) : Chip :=
  let c1 := { ((c.endLevel Ev.LNK_BEACON_LOST).pageReset 0x400B0000 0x400B0FFF) with lnk := LnkSt.zero }
  match c.fold.cur with
  | some f => c1.lnkFold f
  | none => c1

/-- DMA: every ring IDLE at once; the LPDDR4X controller off. -/
def Chip.resetDma (c : Chip) : Chip :=
  let c1 := c.ddrOff.pageReset 0x40050000 0x40051FFF
  let isDma := fun (q : Nat × WinReq) => match q.2 with
    | .dmaRead _ _ _ _ => true
    | .dmaWrite _ _ _ => true
    | _ => false
  { c1 with dma := ⟨[], 0, 0⟩, pas := { c1.pas with queue := c1.pas.queue.filter fun q => !isDma q } }

/-- PRT: lanes STOPPED with the fold's masks, no halt, every alignment group `lost`. -/
def Chip.resetPrt (c : Chip) : Chip :=
  let c1 := { ((c.endLevel Ev.PRT_CLK_LOSS).pageReset 0x40040000 0x40042FFF) with prt := ⟨[], [], []⟩ }
  let c2 := match c.fold.cur with
    | some f => ((c1.setFold fun s => { s with cur := none }).usePorts f).setFold fun s => { s with cur := some f }
    | none => c1
  (List.range 8).foldl (fun d a => if c.bit (F.PRT_ALIGN_CTRL_lost a) then d.put (F.PRT_ALIGN_CTRL_lost a) 1 else d.setLost a) c2

/-- The resets of a domain mask. -/
def Chip.resetBlocks (c : Chip) (mask : Nat) : Chip :=
  if bitAt mask 0 then c.softReset 5
  else
    let c1 := if bitAt mask 1 then c.resetRf else c
    let c2 := if bitAt mask 2 then c1.resetGn else c1
    let c3 := if bitAt mask 3 then c2.resetLnk else c2
    let c4 := if bitAt mask 4 then c3.resetDma else c3
    if bitAt mask 5 then c4.resetPrt else c4

/-! ## Commands (R404) -/

/-- What the start of a command comes to: a result, burns to make, or neither yet. -/
inductive MbStart where
  | result (r : Nat)
  | burn (l : List (Nat × Nat))
  | runs
  deriving DecidableEq, Repr

/-- The `prog` bit that a fuse row of a field stands under (R386). -/
def progBit (row : Nat) : Nat := if row = 57 then 9 else if row = 58 ∨ row = 59 then 10 else 8

/-- FUSE_PROG. -/
def Chip.judgeFuse (c : Chip) (crook : Bool) (row v : Nat) : MbStart :=
  let bits := ((List.range 32).filter fun b => bitAt v b).map fun b => (row, b)
  let lc := c.lifeState
  if lc = 0 then
    if 255 < row ∨ (49 ≤ row ∧ row ≤ 56) ∨ (row = 0 ∧ v % 4 ≠ 0) then .result 3
    else if bits.isEmpty then .result 0 else .burn bits
  else if lc = 1 ∧ crook = true ∧ c.passed = true then
    if (57 ≤ row ∧ row ≤ 188 ∧ bitAt (c.shadow 0) (progBit row) = false) ∨ (row = 0 ∧ v % 256 = 0 ∧ v < 2048) then
      if bits.isEmpty then .result 0 else .burn bits
    else .result 3
  else .result 2

/-- ARB_ADVANCE (R401). -/
def Chip.judgeAdvance (c : Chip) (t : Nat) : MbStart :=
  let n := c.rollback
  if c.get F.SHP_CTR_ver < t then .result 3
  else if t ≤ n then .result 0
  else .burn ((List.range (t - n)).map fun i => (49 + (n + i) / 32, (n + i) % 32))

/-- REVOKE. -/
def Chip.judgeRevoke (c : Chip) (k : Nat) : MbStart :=
  let others := (List.range 4).any fun j => decide (j ≠ k) && c.keyProg j && !c.keyRevoked j
  if 3 < k ∨ k = c.get F.SHP_CTR_key ∨ others = false then .result 3 else .burn [(0, 4 + k)]

/-- LC_SECURE. -/
def Chip.judgeSecure (c : Chip) : MbStart :=
  if (List.range 4).any fun j => c.keyProg j && !c.keyRevoked j then .burn [(0, 0)] else .result 3

/-- A command outside its issuer or state, or a bad argument, and what the others begin with (R404). -/
def Chip.judgeMb (c : Chip) (crook : Bool) (code a0 a1 : Nat) : MbStart :=
  let lc := c.lifeState
  let after := crook && c.passed
  let held := !crook && decide (c.shp.stage = .hold) && decide (c.get F.SHP_STAT_phase = 4)
  let when_ := fun (b : Bool) (x : MbStart) => if b then x else .result 2
  if c.get F.SHP_STAT_phase = 6 then .result 2
  else if crook && c.bit F.SHP_STAT_early then .result 4
  else if code = 0x10 ∨ code = 0x11 then when_ held .runs
  else if code = 0x20 then c.judgeFuse crook a0 a1
  else if code = 0x21 then when_ (after && lc == 1) (c.judgeAdvance a0)
  else if code = 0x22 then when_ (after && lc == 1) (c.judgeRevoke a0)
  else if code = 0x30 then when_ (lc == 0) c.judgeSecure
  else if code = 0x31 then
    when_ (!crook && lc == 1 && decide (c.shp.fails < 3)) (if a0 = 1 ∨ a0 = 2 then .result 0 else .result 3)
  else if code = 0x32 then when_ (!crook && lc == 1) .runs
  else if code = 0x40 then when_ after (if bitAt a0 1 then .result 3 else .result 0)
  else if code = 0x41 then when_ after (if 64 ≤ a0 then .result 3 else .runs)
  else .result 2

/-- GATE_SET (R397): a part may not exceed its value at pass; `cap` stays. -/
def Chip.setGate (c : Chip) (a0 : Nat) : Chip :=
  let v := BitVec.ofNat 32 a0 &&& 0b1101 &&& c.shp.gatePass
  c.wr R.GUARD_GATE ((c.rd R.GUARD_GATE &&& 0b10) ||| v)

/-- A command that has been accepted begins. -/
def Chip.startMb (c : Chip) (crook : Bool) (code : Nat) : Chip :=
  let n := b2n crook
  let a0 := (c.rd (R.SHP_MB_ARG0 n)).toNat
  let a1 := (c.rd (R.SHP_MB_ARG1 n)).toNat
  let st := c.judgeMb crook code a0 a1
  let m : MbCmd := ⟨code, BitVec.ofNat 32 a0, BitVec.ofNat 32 a1, none, []⟩
  let c1 := (c.put (F.SHP_MB_STAT_busy n) 1).setShp fun s => if crook then s else { s with drop := false }
  match st with
  | .result r =>
    let c2 := if r ≠ 0 then c1 else if code = 0x31 then c1.challenge a0 else if code = 0x40 then c1.setGate a0 else c1
    c2.setMbCmd crook (some { m with result := some r })
  | .burn l => (c1.setMbCmd crook (some { m with burns := l })).queueBurn crook
  | .runs =>
    let c2 := c1.setMbCmd crook (some m)
    if code = 0x10 then
      let b : Boot := ⟨2, [], 0, none, [], a0, [], false, false⟩
      let ws := c2.shp.fifo
      let c3 := c2.setShp fun s => { s with stage := .verify, boot := some b, fifo := [] }
      if a0 = 0 then c3.bootFail b 0x0B else if ws.isEmpty then c3 else c3.streamWords ws
    else if code = 0x11 then c2.setShp fun s => { s with stage := .select }
    else if code = 0x32 then c2.tryRespond
    else if c2.get F.FOLD_STAT_state = 0 then
      (c2.resetBlocks a0).setShp fun s => { s with crookCmd := s.crookCmd.map fun x => { x with result := some 0 } }
    else c2

/-- A write of a channel's CMD (R403); a new command ends a host stream (R399). -/
def Chip.writeMbCmd (c : Chip) (crook : Bool) (code : Nat) : Chip :=
  let n := b2n crook
  if code = 0 then c
  else if c.bit (F.SHP_MB_STAT_busy n) then
    let c1 := c.latch (F.SHP_MB_STAT_rej n)
    if crook then c1 else c1.cutStream
  else c.startMb crook code

/-! ## Completion (R403) -/

/-- The burns of the command at the head of the queue end (R388, R401). -/
def Chip.endBurns (c : Chip) (m : MbCmd) : Nat × Chip :=
  let (s, ok) := c.shp.burnAll m.burns
  let made := (m.burns.takeWhile fun rb => !c.shp.isDud rb).length + b2n (!ok)
  let c1 := c.advanceTo (c.shp.burnAt + rootPerBurn * made)
  let rows := m.burns.map (·.1)
  let shadow := rows.foldl (fun sh r => KMap.set 0 r (KMap.get 0 r s.fuse) sh) c1.shp.shadow
  let c2 := (c1.setShp fun _ => { s with shadow := shadow, burnQ := s.burnQ.tail, burnAt := c1.now }).showFuses
  (if ok then 0 else 5, if ok ∧ (m.code = 0x30 ∨ m.code = 0x32) then c2.put F.SHP_STAT_lc_pend 1 else c2)

/-- The device writes the results and reports (R403); what RES0 to RES3 hold is not stated. -/
def Chip.completeMb (c : Chip) (crook : Bool) (m : MbCmd) (r : Nat) : Chip :=
  let n := b2n crook
  let (k, c1) := c.drawMany 4
  let c2 := (((c1.wr (R.SHP_MB_RES0 n) (BitVec.ofNat 32 (Config.freeValue k))).wr (R.SHP_MB_RES1 n)
    (BitVec.ofNat 32 (Config.freeValue (k + 1)))).wr (R.SHP_MB_RES2 n) (BitVec.ofNat 32 (Config.freeValue (k + 2)))).wr
      (R.SHP_MB_RES3 n) (BitVec.ofNat 32 (Config.freeValue (k + 3)))
  let c3 := ((c2.put (F.SHP_MB_STAT_result n) r).put (F.SHP_MB_STAT_busy n) 0).latch (F.SHP_MB_STAT_done n)
  (c3.setMbCmd crook none).raise Ev.SHP_MBOX locNone (BitVec.ofNat 32 (m.code + 256 * n))

/-- MAILBOX_DONE (R403): the command of a channel completes where its work is done. -/
def Chip.mailboxDone (c : Chip) (crook : Bool) : Chip :=
  match c.mbCmd crook with
  | none => c
  | some m =>
    match m.result with
    | some r => c.completeMb crook m r
    | none =>
      if !m.burns.isEmpty then
        if c.shp.burnQ.head? = some (!crook) then
          let (r, c1) := c.endBurns m
          c1.completeMb crook m r
        else c
      else if m.code = 0x41 ∧ c.get F.FOLD_STAT_state = 0 then
        let c1 := c.resetBlocks m.arg0.toNat
        if (c1.mbCmd crook).isSome then c1.completeMb crook m 0 else c1
      else c

/-! ## The TAP (R407, R408) -/

/-- Does the lifecycle admit debug and scan? -/
def Chip.tapAllowed (c : Chip) : Bool := c.lifeState != 1 || c.bit F.SHP_STAT_dbg_unl

/-- Load the instruction register. -/
def Chip.setTap (c : Chip) (ir : Byte) : Chip := c.setShp fun s => { s with tap := ir }

/-- Everything secret is zeroed (R408); a command under way comes to result 2. -/
def Chip.zeroise (c : Chip) : Chip :=
  let c1 := (c.wr R.GUARD_GATE 0b10).setFold fun f => { f with buf := [], bundle := [] }
  let stop := fun (m : MbCmd) => if m.result.isNone && m.burns.isEmpty then { m with result := some 2 } else m
  let c2 := c1.setShp fun s => { s with
    key := [], chal := none, shadow := [], fifo := [], boot := none, hostCmd := s.hostCmd.map stop, crookCmd := s.crookCmd.map stop
    stage := if s.stage = .passed then .passed else .hold }
  let c3 := (List.range 8).foldl (fun c i => c.wr (R.SHP_CHAL i) 0) c2
  { (c3.put F.SHP_STAT_phase 6) with ret := Mem.clear 0 128 c3.ret }

/-- DBG_ENTER and SCAN_ENTER (R407, R408). -/
def Chip.tapEnter (c : Chip) (ir : Byte) : Chip :=
  if c.tapAllowed then c.zeroise.setTap ir else (c.setTap 0xFF).raise Ev.SHP_SECURITY locNone 0

/-- A boundary-scan instruction; the codes of the other instructions name none. -/
def Chip.tapScan (c : Chip) (ir : Byte) : Chip :=
  if ir = 0xFF ∨ ir = 0x01 ∨ ir = 0x30 ∨ ir = 0x31 then c else c.setTap ir

end Sys2Proof.Machine
end

