-- ==== Sys2Proof/Machine/Power.lean ====
section
/-! DEFINITION. Power.lean: power states, sleep and wake, the sleep timer, the reset pins and the die sensor (R405, R406, R427 to R444). -/

namespace Sys2Proof.Machine

/-! ## The wake record (R405) -/

/-- Words of a coefficient copy as bytes. -/
def coefBytes (m : KMap Word) : List Nat := (List.range 131072).flatMap fun i => (wordBytes (KMap.get 0 i m)).map (·.toNat)

/-- The four regions that the hash units cover. -/
def Chip.wakeRegions (c : Chip) : List (List Nat) :=
  [c.bytesAt 0 0x80000, c.bytesAt 0x80000 0x80000,
    ((List.range 17).flatMap fun n => c.bytesAt (0x20000000 + n * 0x10000) 0xC000) ++
      (List.range 32768).map fun i => (nthByte c.fold.buf i),
    coefBytes c.co.active ++ coefBytes c.co.shadow]

/-- The digest D over the unit hashes and the record's first 64 bytes. -/
def Chip.wakeHash (c : Chip) (ret : Mem) : List Nat :=
  sha384 (c.wakeRegions.flatMap sha384 ++ (List.range 64).map fun i => (ret.byte i).toNat)

def wakeMarker : Nat := 0x4B415757

/-- Write the wake record: the layout of its fields within 64 bytes is the model's own. -/
def Chip.writeWakeRecord (c : Chip) : Chip :=
  let words := [wakeMarker, c.get F.SHP_STAT_lc, c.get F.SHP_CTR_ctr, c.get F.SHP_CTR_key, c.get F.SHP_CTR_ver, c.get F.SHP_STAT_slot,
    (c.rd R.GUARD_GATE).toNat]
  let m0 := Mem.clear 0 128 c.ret
  let m1 := ((List.range words.length).zip words).foldl (fun m e => Mem.write (4 * e.1) e.2 m 4) m0
  { c with ret := Mem.place 64 ((c.wakeHash m1).map (BitVec.ofNat 8)) m1 }

/-- Is the record valid, with the digest of what the memories hold now (R406)? -/
def Chip.wakeMatches (c : Chip) : Bool :=
  decide (Mem.read c.ret 0 4 = wakeMarker) && (List.range 48).map (fun i => (c.ret.byte (64 + i)).toNat) == c.wakeHash c.ret

/-! ## Entering SLEEP (R430 to R432) -/

/-- SLEEP_COMMAND: a write of PWR_CMD (R429, R430). -/
def Chip.writePwrCmd (c : Chip) (r : Req) (v : Word) : Chip :=
  if !reqHost r then c.violation r R.PWR_CMD
  else if !F.PWR_CMD_sleep.ofB v then c
  else if c.get F.PWR_STAT_state = 1 ∧ c.bit F.FOLD_STAT_loaded = true ∧ c.get F.FOLD_STAT_state = 0 ∧
      c.get F.SHP_STAT_phase = 3 ∧ c.get F.BST_STAT_shut = 0 then
    ((c.put F.PWR_STAT_state 2).put F.PWR_CMD_sleep 1).setPwr fun p => { p with qAt := c.clearBoundary c.nextSuperframe, atQ := false }
  else (c.latch F.PWR_STAT_ref).put F.PWR_CMD_sleep 0

/-- Registers that a wake takes the assignment of units from (R433). -/
def assignReg (a : Nat) : Bool :=
  within a (R.FOLD_ENGINE 0) (R.FOLD_BANK 48) || (within a 0x40010000 0x40020FFF && a % 0x1000 == 4)

/-- The crook stops; what it has issued lands. -/
def Chip.stopCrook (c : Chip) : Chip :=
  let c1 := c.landTo .crook (c.crook.core.cyc + 64)
  (c1.setShp fun s => { s with entryKept := c1.rd R.CRK_ENTRY }).crookReset

/-- Every DMA ring is aborted at once, and the LPDDR4X controller is off. -/
def Chip.stopDma (c : Chip) : Chip :=
  let c1 := c.resetDma
  { c1 with regs := KMap.keep (fun a => !within a 0x40050000 0x40051FFF) c1.regs }

/-- SLEEP_ENTRY: the entry reaches Q (R405, R431). -/
def Chip.sleepEntry (c : Chip) : Chip :=
  if c.get F.PWR_STAT_state ≠ 2 || c.pwr.atQ || decide (c.time.stc ≠ c.pwr.qAt) || decide (c.time.frac.val ≠ 0) then c
  else
    let c1 := c.dropHandover.dropMirror
    let ran := (List.range 17).filter fun n => decide (c1.seState n = seRunning) && decide ((c1.engine n).stopIn ≠ 1)
    let c2 := ((List.range 17).foldl Chip.stopNow c1.abandonTests).cutKeyed
    let c3 := (c2.stopCrook.stopDma.gnReset).lnkOff
    let kept := KMap.keep assignReg c3.regs
    (c3.setPwr fun p => { p with atQ := true, ran := ran, kept := kept }).writeWakeRecord

/-- Registers that SLEEP keeps: the retention domain, the shepherd's page and the CO page (R432, R434). -/
def sleepReg (a : Nat) : Bool := retainedReg a || within a 0x400C0000 0x400C0FFF || within a 0x40031000 0x40031FFF

/-- What SLEEP leaves of the device (R432). -/
def Chip.powerDown (c : Chip) : Chip :=
  { Chip.powerOn with
    regs := KMap.keep sleepReg c.regs
    free := c.free
    time := { TimeSt.zero with
      everValid := c.time.everValid, sleepStc := c.time.stc, sleepFrac := c.time.frac.val
      sleepSel := decide (c.get F.CLK_STAT_src ≠ 3) }
    fold := { FoldSt.zero with buf := c.fold.buf }
    co := c.co
    rf := { RfSt.zero with off0 := c.rf.off0, off1 := c.rf.off1, gain := c.rf.gain, skew := c.rf.skew }
    shp := c.shp
    pwr := { c.pwr with slept := 0, bwAt := none }
    ret := c.ret
    mem := KMap.keep (fun a => !within a 0x80000000 0xBFFFFFFF) c.mem }

/-- SLEEP_ENTERED: the root is switched off, 2.0 ms after Q (R43, R431). The millisecond in between has its steering step (R30). -/
def Chip.sleepEntered (c : Chip) : Chip :=
  if c.get F.PWR_STAT_state ≠ 2 || !c.pwr.atQ then c
  else
    let mid := (c.pwr.qAt + 192) * rootPerTick
    let c1 := if c.now ≤ mid then (c.advanceTo mid).steerStep else c
    ((((c1.advanceTo ((c.pwr.qAt + 384) * rootPerTick)).powerDown).put F.PWR_STAT_state 3).put F.PWR_CMD_sleep 0)

/-! ## Wake (R406, R433, R434) -/

/-- WAKE: WAKE_IN and PWR_GOOD are high at a CLK32K edge (R428). -/
def Chip.wake (c : Chip) : Chip :=
  if c.get F.PWR_STAT_state ≠ 3 || !c.pwr.pg then c
  else ((c.put F.PWR_STAT_state 4).put F.PWR_STAT_cause 6).setPwr fun p => { p with atQ := false }

/-- WAKE_DIGEST: the hashes of a wake end (R406). -/
def Chip.wakeDigest (c : Chip) : Chip :=
  if c.get F.PWR_STAT_state ≠ 4 || !c.time.rootOn || c.fold.next.isSome then c
  else
    let c0 := c.advanceTo c.pwr.hashAt
    if !c0.wakeMatches then (c0.deviceReset 7 .t0).put F.SHP_STAT_wake_miss 1
    else
      let gate := BitVec.ofNat 32 (Mem.read c0.ret 24 4)
      let c1 := (({ c0 with ret := dropWakeRecord c0.ret }).wr R.GUARD_GATE gate).loadMirrors
      let c2 := c1.pwr.kept.foldl (fun c e => c.wr e.1 e.2) c1
      let c3 := c2.setMarks (recField c2.ret 8 4) (recField c2.ret 0xC 8)
      (c3.crookRelease c3.shp.entryKept.toNat).setFold fun f => { f with next := some (readFold (toImage c.fold.buf)) }

/-- The engine that was under test at Q is the spare (R434). -/
def Chip.wakeSpare (c : Chip) (was : Chip) : Chip :=
  match (List.range 17).find? fun n => decide (was.seState n = seTest) && decide (c.get (F.FOLD_ENGINE_status n) ≠ 1) with
  | none => c
  | some n =>
    let c1 := match c.spareEngine with
      | some m => if m = n then c else (c.put (F.SE_STAT_state m) seIdle).put (F.FOLD_ENGINE_status m) 0
      | none => c
    c1.makeSpare n

/-- Ticks from B_w to the first frame boundary after zeroing: 65,536 CLK_SE cycles are more than 17 and less than 18 ticks. -/
def Chip.wakeZeroTicks (c : Chip) : Nat := (18 + c.frameTicks - 1) / c.frameTicks * c.frameTicks

/-- WAKE_APPLY: B_w, the first frame boundary after the hashes end (R433). -/
def Chip.wakeApply (c : Chip) : Chip :=
  match c.fold.next with
  | none => c
  | some f =>
    if c.get F.PWR_STAT_state ≠ 4 || c.pwr.bwAt.isSome || !c.atBoundary c.frameTicks then c
    else
      let r := c.time.stc + c.wakeZeroTicks
      let c1 := (((c.put F.FOLD_STAT_state 3).stopLanes f).placeEngines f).wakeSpare c
      let c2 := ((c1.placeBanks.zeroPasture).usePads f).setFold fun s => { s with zeroing := true, bAt := c.time.stc, rAt := r }
      let c3 := c2.setPwr fun p => { p with bwAt := some c.time.stc }
      (c3.wr R.PAS_R_STC_LO (BitVec.ofNat 32 r)).wr R.PAS_R_STC_HI (BitVec.ofNat 32 (r / 2 ^ 32))

/-- Engines at R_w: those that ran at Q are set to start; each generator holds 1 (R434). -/
def Chip.wakeEngines (c : Chip) : Chip :=
  (List.range 17).foldl (fun c n =>
    let e := c.engine n
    let c1 := c.setEngine n { e with core := { e.core with g := 1 } }
    if c1.pwr.ran.contains n ∧ c1.seState n = seStopped then c1.put (F.SE_STAT_state n) seArmed else c1) c

/-- Commits pending at Q land at the first boundary after R_w (R203, R434). -/
def Chip.wakeCommits (c : Chip) : Chip :=
  { c with co := { c.co with commits := c.co.commits.map fun m =>
      if m.noFold then m
      else match m.atStc with
        | some t => if t ≤ c.time.stc then { m with atStc := none, earliest := c.now + 1 } else m
        | none => { m with earliest := max m.earliest (c.now + 1) } } }

/-- RUN_READY: R_w (R433). -/
def Chip.runReady (c : Chip) : Chip :=
  match c.fold.next with
  | none => c
  | some f =>
    if !c.atR || c.get F.PWR_STAT_state ≠ 4 then c
    else
      let us := (c.now - c.pwr.wakeAt) * 25 / 73728
      let c1 := (c.wakeEngines.wakeCommits.reachR f true).put F.FOLD_STAT_held 0
      let c2 := (c1.setPwr fun p => { p with kept := [], ran := [], bwAt := none }).put F.PWR_WAKE_TIME_us (min us 65535)
      (c2.put F.PWR_STAT_state 1).raise Ev.PWR_DONE locNone 0

/-! ## The sleep timer (R435) -/

/-- CLK32K cycles from now until PWR_TMR equals PWR_ALARM. -/
def Chip.toAlarm (c : Chip) : Nat := (c.rd R.PWR_ALARM - c.rd R.PWR_TMR).toNat

/-- ALARM: time moves to the alarm, where no frame boundary lies before it. -/
def Chip.alarm (c : Chip) : Chip :=
  if !c.bit F.PWR_WAKE_alarm_en then c
  else
    let n := c.toAlarm
    if c.time.rootOn then
      let d := rootPer32k * n - c.pwr.frac32
      if n ≠ 0 ∧ c.framesRun = true ∧ c.boundaryRoot < c.now + d then c
      else (if n = 0 then c else c.advance d).latch F.PWR_WAKE_alarm
    else
      let c1 := (c.wr R.PWR_TMR (c.rd R.PWR_ALARM)).setPwr fun p => { p with slept := p.slept + n }
      c1.latch F.PWR_WAKE_alarm

/-- PWR_WAKE: its hit bits are those of RF_WAKE_STAT (R435). -/
def Chip.readPwrWake (c : Chip) : Word :=
  F.PWR_WAKE_hit1.ins (F.PWR_WAKE_hit0.ins (c.rd R.PWR_WAKE) (c.get F.RF_WAKE_STAT_hit0)) (c.get F.RF_WAKE_STAT_hit1)

def Chip.writePwrWake (c : Chip) (v : Word) : Chip :=
  let c1 := c.put F.PWR_WAKE_alarm_en (F.PWR_WAKE_alarm_en.of v)
  let c2 := if F.PWR_WAKE_alarm.ofB v then c1.w1c F.PWR_WAKE_alarm else c1
  let c3 := if F.PWR_WAKE_hit0.ofB v then c2.w1c F.RF_WAKE_STAT_hit0 else c2
  if F.PWR_WAKE_hit1.ofB v then c3.w1c F.RF_WAKE_STAT_hit1 else c3

/-- PWR_STAT shows the level of PWR_GOOD. -/
def Chip.readPwrStat (c : Chip) : Word := F.PWR_STAT_pg.ins (c.rd R.PWR_STAT) (b2n c.pwr.pg)

/-! ## Reset pins and supplies (R436) -/

/-- The start sequence begins once supply, PWR_GOOD and RST_N are up. -/
def Chip.tryStart (c : Chip) : Chip :=
  if c.shp.stage = .inReset ∧ c.pwr.supply = true ∧ c.pwr.pg = true ∧ c.pwr.rstN = true then
    c.setShp fun s => { s with stage := .t0 }
  else c

/-- A write of PWR_RESET: HOST_SOFT_RESET (R429, R436). -/
def Chip.writePwrReset (c : Chip) (r : Req) (v : Word) : Chip :=
  if !reqHost r then c.violation r R.PWR_RESET
  else if v = 0xC3C3 then c.softReset 3 else c

def Chip.rstFall (c : Chip) : Chip :=
  let c1 := c.setPwr fun p => { p with rstN := false }
  if c1.pwr.supply then c1.deviceReset 1 .inReset else c1
def Chip.rstRise (c : Chip) : Chip := (c.setPwr fun p => { p with rstN := true }).tryStart

/-- PWR_GOOD low in SLEEP has no effect but its level. -/
def Chip.pgFall (c : Chip) : Chip :=
  let c1 := c.setPwr fun p => { p with pg := false }
  if c1.get F.PWR_STAT_state = 3 || !c1.pwr.supply then c1 else c1.deviceReset 2 .inReset
def Chip.pgRise (c : Chip) : Chip := (c.setPwr fun p => { p with pg := true }).tryStart

/-- The retention supply rises: POWER_ON_RESET. -/
def Chip.supplyRise (c : Chip) : Chip := c.fullReset
/-- It falls: RETENTION_SUPPLY_LOSS (R428). -/
def Chip.supplyFall (c : Chip) : Chip := c.fullReset.setPwr fun p => { p with supply := false }

/-! ## The die sensor (R444) -/

/-- PWR_OVERTEMP: the sensor reads at or above the threshold. -/
def Chip.overtemp (c : Chip) (temp : BitVec 12) : Chip :=
  if temp.toInt < 4 * Int.ofNat (c.get F.PWR_TEMP_thr) then c
  else ((c.put F.PWR_TEMP_temp temp.toNat).put F.PWR_STAT_otemp 1).renewOvertemp

/-- OVERTEMP_END: it reads 3 °C below the threshold. -/
def Chip.overtempEnd (c : Chip) (temp : BitVec 12) : Chip :=
  if 4 * Int.ofNat (c.get F.PWR_TEMP_thr) - 12 < temp.toInt then c
  else ((c.put F.PWR_TEMP_temp temp.toNat).put F.PWR_STAT_otemp 0).levelOff Ev.PWR_OVERTEMP locNone

end Sys2Proof.Machine
end

