-- ==== Sys2Proof/Machine/Bus.lean ====
section
/-! DEFINITION. Bus.lean: reads and writes of the address map by the crook, the host and DMA (R6 to R10, R20, R21): every register page
with the effects of its registers, crook RAM, program stores, coefficient copies, LPDDR4X and the flash window. The pasture window is
served in gap slots (Window.lean). -/

namespace Sys2Proof.Machine

/-- The place of `a` in an array of `n` registers at `base` with a stride. -/
def arrIdx (base stride n a : Nat) : Option Nat :=
  if base ≤ a ∧ (a - base) % stride = 0 ∧ (a - base) / stride < n then some ((a - base) / stride) else none

/-- A write with an effect on one register of an array; else `f`. -/
def onArr (base stride n a : Nat) (g : Nat → Chip) (f : Chip) : Chip :=
  match arrIdx base stride n a with
  | some i => g i
  | none => f

/-! ## The watchdog's registers (R268) -/

/-- Cycles of a stage (R268): `per` of 0 acts as 1. -/
def Chip.wdStage (c : Chip) : Nat := max (c.get F.CRK_WDT_CTRL_per) 1 * 65536

/-- CRK_WDT_CTRL: `en` starts it and stays; `per` acts at the next reload. -/
def Chip.writeWdtCtrl (c : Chip) (v : Word) : Chip :=
  let was := c.bit F.CRK_WDT_CTRL_en
  let c1 := c.plainWrite R.CRK_WDT_CTRL v
  if !was && c1.bit F.CRK_WDT_CTRL_en then
    { c1 with crook := { c1.crook with wdCount := c1.wdStage, wdFrac := 0 } }
  else c1

/-- CRK_WDT_KICK: the crook at the privileged level with the key reloads the count. -/
def Chip.writeWdtKick (c : Chip) (r : Req) (v : Word) : Chip :=
  if reqCrook r && c.crook.mode.getLsbD 0 && v == 0xA5A5 then
    if c.bit F.CRK_WDT_CTRL_en then
      ({ c with crook := { c.crook with wdCount := c.wdStage, wdFrac := 0 } }).put F.CRK_WDT_STAT_stage 0
    else c
  else c.violation r R.CRK_WDT_KICK

/-! ## The host interface's stream registers (R454) -/

/-- Does the stream region lie wholly in one range of R20 that takes 32-bit writes and that the host may write under R402 now? -/
def Chip.streamOk (c : Chip) : Bool :=
  let base := c.get F.HIF_STRM_BASE_base * 4
  let n := c.get F.HIF_STRM_LEN_len
  let last := base + 4 * n - 4
  let one := fun (lo hi : Nat) => within base lo hi && within last lo hi
  let range := one 0 0xFFFFF || one 0x10000000 0x117FFFFF || one 0x18080000 0x180FFFFF ||
    ((List.range 17).any fun e => one (0x20000000 + e * 0x10000) (0x20000000 + e * 0x10000 + 0xBFFF)) || one 0x40000000 0x400FFFFF ||
    one 0x80000000 0xBFFFFFFF
  decide (0 < n) && decide (n ≤ 65536) && range &&
    (List.range n).all fun i => !c.hostLimited true (base + 4 * i)

/-- HIF_STRM_CTRL: a write of `en` = 1 checks the region. -/
def Chip.writeStrmCtrl (c : Chip) (v : Word) : Chip :=
  let c1 := if F.HIF_STRM_CTRL_cfg_err.ofB v then c.w1c F.HIF_STRM_CTRL_cfg_err else c
  if !F.HIF_STRM_CTRL_en.ofB v then c1.put F.HIF_STRM_CTRL_en 0
  else if c1.bit F.HIF_STRM_CTRL_en then c1
  else if c1.streamOk then c1.put F.HIF_STRM_CTRL_en 1
  else c1.latch F.HIF_STRM_CTRL_cfg_err

/-! ## Register writes, page by page -/

def Chip.writeClkTime (c : Chip) (a : Nat) (v : Word) : Chip :=
  if a = R.CLK_CTRL then c.writeClkCtrl v
  else if a = R.CLK_PERR_SAT then c.writePerrSat v
  else if a = R.TIME_LOAD_CTRL then c.writeLoadCtrl v
  else if a = R.TIME_TP_CTRL 0 then c.writeTpCtrl false v
  else if a = R.TIME_TP_CTRL 1 then c.writeTpCtrl true v
  else if a = R.FOLD_CTRL then c.writeFoldCtrl v
  else c.plainWrite a v

def Chip.writePasCo (c : Chip) (a : Nat) (v : Word) : Chip :=
  if a = R.PAS_SCRUB then c.writeScrub v
  else if a = R.CO_COMMIT then c.writeCommit v
  else if a = R.CO_GLIDE_DATA then c.writeGlideData v
  else onArr (R.CO_GRP_BASE 0) 8 256 a (fun g => c.writeGroup g false v) <|
    onArr (R.CO_GRP_LEN 0) 8 256 a (fun g => c.writeGroup g true v) (c.plainWrite a v)

/-- PRT: whether a mask comes late in its serial frame is not in the state: a free choice. -/
def Chip.writePrt (c : Chip) (a : Nat) (v : Word) : Chip :=
  onArr (R.PRT_LANE_CTRL 0) 0x100 32 a (fun n => c.writeLaneCtrl n v) <|
    onArr (R.PRT_LANE_MASK 0) 0x100 32 a (fun n => let (x, c1) := c.draw
                                                   c1.writeMask n v (x % 2 == 1)) <|
      onArr (R.PRT_GRP_CTRL 0) 0x20 8 a (fun g => c.writeHalt g v) <|
        onArr (R.PRT_ALIGN_CTRL 0) 0x10 8 a (fun i => c.writeAlign i v) (c.plainWrite a v)

def Chip.writeDmaCrk (c : Chip) (r : Req) (a : Nat) (v : Word) : Chip :=
  if a = R.DMA_DDR_CTRL then c.writeDdrCtrl v
  else if a = R.CRK_WDT_CTRL then c.writeWdtCtrl v
  else if a = R.CRK_WDT_KICK then c.writeWdtKick r v
  else onArr (R.DMA_RING_CTRL 0) 0x80 32 a (fun n => c.writeRingCtrl n v) (c.plainWrite a v)

def Chip.writeEvtGuard (c : Chip) (a : Nat) (v : Word) : Chip :=
  if a = R.EVT_Q_POP then (if F.EVT_Q_POP_pop.ofB v then c.popQueue else c)
  else if a = R.EVT_ROUTE then c.writeRoute v
  else onArr (R.GUARD_CH_STAT 0) 0x20 64 a (fun n => c.writeChStat n v) (c.plainWrite a v)

def Chip.writeRf (c : Chip) (a : Nat) (v : Word) : Chip :=
  if a = R.RF_CTRL then c.writeRfCtrl v
  else if a = R.RF_LNA then c.writeLna v
  else if a = R.RF_LNK_RX then c.writeLnkRx v
  else if a = R.RF_CAL_REQ then c.writeCalReq v
  else if a = R.RF_WAKE_TX_CTRL then c.writeWakeTx v
  else c.plainWrite a v

def Chip.writeGn (c : Chip) (a : Nat) (v : Word) : Chip :=
  if a = R.GN_CTRL then c.writeGnCtrl v
  else if a = R.GN_ACQ_CTRL then c.writeAcqCtrl v
  else onArr (R.GN_NOTCH_CTRL 0) 8 8 a (fun i => c.writeNotchCtrl i v) <|
    onArr (R.GN_NOTCH_FREQ 0) 8 8 a (fun i => c.writeNotchFreq i v) <|
      onArr (R.GN_CH_CTRL 0) 0x100 96 a (fun n => c.writeChCtrl n v) <|
        onArr (R.GN_CH_CFG 0) 0x100 96 a (fun n => c.writeChCfg n a v) <|
          onArr (R.GN_CH_SPACE 0) 0x100 96 a (fun n => c.writeChCfg n a v) <|
            onArr (R.GN_CH_CODE 0) 0x100 96 a (fun n => c.writeChCfg n a v) <|
              onArr (R.GN_CH_SEC 0) 0x100 96 a (fun n => c.writeChCfg n a v) <|
                onArr (R.GN_CH_DOP 0) 0x100 96 a (fun n => c.writeChDop n v) (c.plainWrite a v)

def Chip.writeShp (c : Chip) (a : Nat) (v : Word) : Chip :=
  if a = R.SHP_MB_CMD 0 then c.writeMbCmd false (v.toNat % 256)
  else if a = R.SHP_MB_CMD 1 then c.writeMbCmd true (v.toNat % 256)
  else if a = R.SHP_MB_DATA then c.writeMbData v
  else c.plainWrite a v

def Chip.writeBstPwrHif (c : Chip) (r : Req) (a : Nat) (v : Word) : Chip :=
  if a = R.BST_SHUTDOWN then c.writeShutdown r v
  else if a = R.BST_REQ then c.writeTestReq v
  else if a = R.BST_MARK_CLR then c.writeMarkClr v
  else if a = R.PWR_CMD then c.writePwrCmd r v
  else if a = R.PWR_RESET then c.writePwrReset r v
  else if a = R.PWR_WAKE then c.writePwrWake v
  else if a = R.HIF_STRM_CTRL then c.writeStrmCtrl v
  else if (a = R.HIF_STRM_BASE ∨ a = R.HIF_STRM_LEN ∨ a = R.HIF_STRM_PTR) ∧ c.bit F.HIF_STRM_CTRL_en = true then c
  else c.plainWrite a v

/-- A write that has been accepted by the map reaches the register at `a` (R6). -/
def Chip.writeReg (c : Chip) (r : Req) (a : Nat) (v : Word) : Chip :=
  if within a 0x40001000 0x40003FFF then c.writeClkTime a v
  else if within a 0x40010000 0x40020FFF then onArr (R.SE_CTRL 0) 0x1000 17 a (fun n => c.writeSeCtrl n v) (c.plainWrite a v)
  else if within a 0x40030000 0x40031FFF then c.writePasCo a v
  else if within a 0x40040000 0x40042FFF then c.writePrt a v
  else if within a 0x40050000 0x40060FFF then c.writeDmaCrk r a v
  else if within a 0x40070000 0x40071FFF then c.writeEvtGuard a v
  else if within a 0x40080000 0x40080FFF then c.writeRf a v
  else if within a 0x40090000 0x400A5FFF then c.writeGn a v
  else if a = R.LNK_CTRL then c.writeLnkCtrl v
  else if a = R.LNK_HOP then c.writeHop v
  else if within a 0x400C0000 0x400C0FFF then c.writeShp a v
  else if 0x400D0000 ≤ a then c.writeBstPwrHif r a v
  else c.plainWrite a v

/-- Does the register hold an SO field (R8)? -/
def soReg (a : Nat) : Bool :=
  match regRow? a with
  | some row => decide (row.so ≠ 0)
  | none => false

/-! ## Register reads -/

/-- CRK_STAT with what the crook's own state shows (R255, R265). -/
def Chip.readCrkStat (c : Chip) : Word :=
  let m := c.crook.mode.toNat
  F.CRK_STAT_wd.ins (F.CRK_STAT_exc.ins (F.CRK_STAT_ie.ins (F.CRK_STAT_level.ins (c.rd R.CRK_STAT) (m % 2)) (m / 2 % 2)) (m / 4 % 2))
    c.crook.core.wd

/-- SYS_GPIO_IN: a driven pin reads its driver (R284); what a pin reads that nothing in the device drives is a free value. -/
def Chip.readGpio (c : Chip) : Word × Chip :=
  let (x, c1) := c.draw
  let driven : Word := if c.bit F.GUARD_GATE_gpio then c.rd R.SYS_GPIO_OE else 0
  ((((c.rd R.SYS_GPIO_OUT) &&& driven) ||| (BitVec.ofNat 32 x &&& ~~~driven)) &&& 0xFFFFFF, c1)

/-- Registers whose reads show or change more than their stored value: pages SYS to CO. -/
def Chip.readLow (c : Chip) (r : Req) (a : Nat) : Option (Word × Chip) :=
  let pure := fun (v : Word) => some (v, c)
  if a = R.SYS_GPIO_IN then some c.readGpio
  else if a = R.SYS_FEAT3 then pure (F.SYS_FEAT3_rate.ins (c.rd a) (c.get F.FOLD_STAT_rate))
  else if a = R.TIME_STC_LO then some (c.readStcLo r)
  else if a = R.TIME_STC_HI then pure (BitVec.ofNat 32 ((c.snap r).stc / 2 ^ 32))
  else if a = R.TIME_STC_FRAC then pure (BitVec.ofNat 32 (c.snap r).frac)
  else if a = R.TIME_TMARK_CAP_LO then some c.readCapLo
  else if a = R.CO_GLIDE_DATA then some c.readGlideData
  else if a = R.CO_GLIDE_STEP then pure c.readGlideStep
  else if within a (R.CO_PEND 0) (R.CO_PEND 7) then pure (c.readCoPend ((a - R.CO_PEND 0) / 4))
  else none

/-- Pages PRT to EVT. -/
def Chip.readMid (c : Chip) (a : Nat) : Option (Word × Chip) :=
  let pure := fun (v : Word) => some (v, c)
  match arrIdx (R.PRT_ALIGN_CTRL 0) 0x10 8 a with
  | some i => pure (c.readAlign i)
  | none =>
    if a = R.DMA_STAT then pure c.readDmaStat
    else if a = R.CRK_STAT then pure c.readCrkStat
    else if a = R.CRK_WDT_STAT then pure (F.CRK_WDT_STAT_count.ins (c.rd a) (c.crook.wdCount / 64))
    else if a = R.EVT_STAT then pure c.readEvtStat
    else if within a R.EVT_Q_W0 R.EVT_Q_W3 then pure (c.headWord ((a - R.EVT_Q_W0) / 4))
    else if a = R.EVT_ROUTE then pure c.readRoute
    else if a = R.EVT_TALLY then some c.readTally
    else if a = R.EVT_INFO then pure c.readInfo
    else none

/-- Pages GN to HIF. -/
def Chip.readHigh (c : Chip) (a : Nat) : Option (Word × Chip) :=
  let pure := fun (v : Word) => some (v, c)
  match arrIdx (R.GN_CH_DOP 0) 0x100 96 a with
  | some n => pure (c.readChDop n)
  | none =>
    match arrIdx (R.GN_CH_CODE 0) 0x100 96 a with
    | some n => pure (c.readChCode n)
    | none =>
      if a = R.SHP_MB_SPACE then pure (BitVec.ofNat 32 (64 - c.shp.fifo.length))
      else if within a (R.SHP_FUSE 0) (R.SHP_FUSE 255) then
        let n := (a - R.SHP_FUSE 0) / 4
        pure (if n = 58 ∨ n = 59 then 0 else BitVec.ofNat 32 (c.shadow n))
      else if a = R.BST_REQ then pure c.readTestReq
      else if a = R.PWR_STAT then pure c.readPwrStat
      else if a = R.PWR_WAKE then pure c.readPwrWake
      else if a = R.HIF_STAT then pure (F.HIF_STAT_free.ins (c.rd a) (64 - c.hif.buf.length))
      else none

/-- A read of the register at `a`: RC fields clear (R6). An offset with no register reads zero (R10). -/
def Chip.readReg (c : Chip) (r : Req) (a : Nat) : Word × Chip :=
  let special := if a < 0x40040000 then c.readLow r a else if a < 0x40090000 then c.readMid a else c.readHigh a
  match special with
  | some x => x
  | none =>
    match regRow? a with
    | none => (0, c)
    | some row =>
      let k := regCanon a
      if row.rc = 0 then (c.rd k, c)
      else
        let (v, w, f) := c.readRc k (c.rd k) row.rc
        (v, (c.wr k w).setFresh f)

/-! ## The map -/

/-- Is the address in the register pages? -/
def inPages (a : Nat) : Bool := within a 0x40000000 0x400FFFFF

/-- An accepted read of `n` bytes outside the pasture window. -/
def Chip.fetchMap (c : Chip) (r : Req) (a n : Nat) : Nat × Chip :=
  if inPages a then
    let (v, c1) := c.readReg r a
    (v.toNat, c1)
  else if within a 0x18000000 0x1807FFFF then ((KMap.get 0 ((a - 0x18000000) / 4) c.co.active).toNat, c)
  else if within a 0x18080000 0x180FFFFF then ((KMap.get 0 ((a - 0x18080000) / 4) c.co.shadow).toNat, c)
  else (Mem.read c.mem a n, c)

/-- An accepted write of `n` bytes outside the pasture window; false where R8 ignores it. -/
def Chip.storeMap (c : Chip) (r : Req) (a n v : Nat) : Bool × Chip :=
  if inPages a then
    if soReg a then (false, c.violation r a) else (true, c.writeReg r a (BitVec.ofNat 32 v))
  else if within a 0x18080000 0x180FFFFF then
    (true, { c with co := { c.co with shadow := KMap.set 0 ((a - 0x18080000) / 4) (BitVec.ofNat 32 v) c.co.shadow } })
  else (true, { c with mem := Mem.write a v c.mem n })

/-- A read of `n` bytes: was it accepted, and its data; a refused read returns zero (R21). -/
def Chip.busReadN (c : Chip) (r : Req) (a n : Nat) : Bool × Nat × Chip :=
  match c.gateOf r false a n with
  | .accept => let (v, c1) := c.fetchMap r a n
               (true, v, c1)
  | .refuse => (false, 0, c.refused r false a)
  | .silent => (false, 0, c)

/-- A write of `n` bytes: was it accepted (R8, R21)? -/
def Chip.busWriteN (c : Chip) (r : Req) (a n v : Nat) : Bool × Chip :=
  match c.gateOf r true a n with
  | .accept => c.storeMap r a n v
  | .refuse => (false, c.refused r true a)
  | .silent => (false, c)

/-- A 32-bit read and write. -/
def Chip.busRead (c : Chip) (r : Req) (a : Nat) : Bool × Word × Chip :=
  let (ok, v, c1) := c.busReadN r a 4
  (ok, BitVec.ofNat 32 v, c1)
def Chip.busWrite (c : Chip) (r : Req) (a : Nat) (v : Word) : Bool × Chip := c.busWriteN r a 4 v.toNat

/-- What a requester's last read returned. -/
def Chip.keepRead (c : Chip) (r : Req) (v : Word) : Chip :=
  { c with bus := match r with
      | .crook => { c.bus with crook := v }
      | .host => { c.bus with host := v }
      | .dma _ => { c.bus with dma := v } }

/-- A read of one register, its data kept. -/
def Chip.readTo (c : Chip) (r : Req) (a : Nat) : Chip :=
  if c.rowGate r false a = .silent then c.keepRead r 0
  else
    let (_, v, c1) := c.busRead r a
    c1.keepRead r v

/-- REGISTER_WRITE (R6): a write in the register pages. -/
def Chip.registerWrite (c : Chip) (r : Req) (a : Nat) (v : Word) : Chip :=
  if inPages a && decide (c.rowGate r true a ≠ .silent) then (c.busWrite r a v).2 else c

end Sys2Proof.Machine
end

