-- ==== Sys2Proof/Machine/RowsClock.lean ====
section
/-! DEFINITION. RowsClock.lean: the rows of the clocks and of time (chapter 02), each with its effect. -/

namespace Sys2Proof.Machine

/-- ROOT_PLL_LOCK (R27): The root PLL reaches lock after being enabled, and the divided clocks and STC run. -/
def execRootPllLock (n32k : Nat) (s : State) : Host.Outcome State Fault Refusal :=
  s.act fun c => c.pllLock n32k

/-- CLK_UNLOCK (R27): Loss of root lock freezes steering and discipline, discards marks and holds the time pulses inactive. -/
def execClkUnlock (s : State) : Host.Outcome State Fault Refusal :=
  s.act fun c => c.unlock

/-- ROOT_PLL_RELOCK (R27): Root lock returns and steering, discipline, captures and pulses resume from their frozen state. -/
def execRootPllRelock (s : State) : Host.Outcome State Fault Refusal :=
  s.act fun c => c.relock

/-- STEERING_STEP (R30): Every 192 ticks the applied steering word moves towards the target by at most 109 units. -/
def execSteeringStep (s : State) : Host.Outcome State Fault Refusal :=
  s.act fun c => c.steerStep

/-- SOURCE_SELECTION (R33): Every millisecond the first valid discipline source in priority order is selected. -/
def execSourceSelection (s : State) : Host.Outcome State Fault Refusal :=
  s.act fun c => c.selectSource

/-- CLK_PERR_SAT_WRITE (R32): A firmware write of a satellite phase error delivers one satellite-time sample. -/
def execClkPerrSatWrite (r : Req) (v : Word) (s : State) : Host.Outcome State Fault Refusal :=
  s.act fun c => c.guarded r R.CLK_PERR_SAT fun c => c.writePerrSat v

/-- SAT_TIMEOUT (R32): No satellite error write within sat_to makes satellite time invalid. -/
def execSatTimeout (s : State) : Host.Outcome State Fault Refusal :=
  s.act fun c => c.sourceTimeout 0

/-- LINK_TIMEOUT (R32): link_to superframes without a link sample make link time invalid. -/
def execLinkTimeout (s : State) : Host.Outcome State Fault Refusal :=
  s.act fun c => c.sourceTimeout 1

/-- TMARK_TIMEOUT (R32): No accepted mark within twice the mark period makes TMARK_IN invalid. -/
def execTmarkTimeout (s : State) : Host.Outcome State Fault Refusal :=
  s.act fun c => c.sourceTimeout 2

/-- HOLD_LIMIT (R36): HOLD lasting hold_lim seconds moves discipline to FREE with a zero target. -/
def execHoldLimit (s : State) : Host.Outcome State Fault Refusal :=
  s.act fun c => c.holdLimit

/-- LOOP_ENABLE (R35): Setting CLK_CTRL.loop_en from 0 to 1 loads the integrator with the applied steering word. -/
def execLoopEnable (r : Req) (v : Word) (s : State) : Host.Outcome State Fault Refusal :=
  s.act fun c => c.guarded r R.CLK_CTRL fun c => c.writeClkCtrl v

/-- FRAME_BOUNDARY (R38): At each frame boundary inputs latch, outputs leave through the guard and running engines start at
address 0. -/
def execFrameBoundary (s : State) : Host.Outcome State Fault Refusal :=
  s.act fun c => c.frameBoundary

/-- SUPERFRAME_BOUNDARY (R348): At each 2 ms superframe boundary the link applies its slot plan and rotation checks are made. -/
def execSuperframeBoundary (s : State) : Host.Outcome State Fault Refusal :=
  s.act fun c => c.superframe

/-- WHOLE_SECOND (R38): At each whole second of the STC second-aligned actions take place. -/
def execWholeSecond (s : State) : Host.Outcome State Fault Refusal :=
  s.act fun c => c.wholeSecond

/-- STC_SNAPSHOT (R39): A read of TIME_STC_LO takes the requester's snapshot of count and fraction. -/
def execStcSnapshot (r : Req) (s : State) : Host.Outcome State Fault Refusal :=
  s.act fun c => c.readTo r R.TIME_STC_LO

/-- STC_LOAD_REQUEST (R40): A write of TIME_LOAD_CTRL.go requests an STC load, applied at once when nothing runs. -/
def execStcLoadRequest (r : Req) (v : Word) (s : State) : Host.Outcome State Fault Refusal :=
  s.act fun c => c.guarded r R.TIME_LOAD_CTRL fun c => c.writeLoadCtrl v

/-- STC_LOAD_APPLY (R40): At the next whole second a pending load is judged and applied or refused. -/
def execStcLoadApply (s : State) : Host.Outcome State Fault Refusal :=
  s.act fun c => c.stcLoadApply

/-- TP_APPLY_REQUEST (R46): A write of TIME_TPn_CTRL.apply marks the shadow configuration for the next second. -/
def execTpApplyRequest (r : Req) (n : Bool) (v : Word) (s : State) : Host.Outcome State Fault Refusal :=
  s.act fun c => c.guarded r (R.TIME_TP_CTRL (b2n n)) fun c => c.writeTpCtrl n v

/-- TP_CONFIG_APPLY (R46): At the next whole second the TPn shadow moves into use and is checked for validity. -/
def execTpConfigApply (n : Bool) (s : State) : Host.Outcome State Fault Refusal :=
  s.act fun c => c.tpApply n

/-- TIME_PULSE_START (R44): At each scheduled local time an enabled time pulse goes active. -/
def execTimePulseStart (n : Bool) (s : State) : Host.Outcome State Fault Refusal :=
  s.act fun c => c.tpStart n

/-- TIME_PULSE_END (R44): A time pulse ends when its width expires. -/
def execTimePulseEnd (n : Bool) (s : State) : Host.Outcome State Fault Refusal :=
  s.act fun c => c.tpEnd n

/-- TMARK_EDGE (R48): An enabled TMARK_IN edge captures the STC and is accepted as a discipline sample or rejected. -/
def execTmarkEdge (falling : Bool) (s : State) : Host.Outcome State Fault Refusal :=
  s.act fun c => c.tmarkEdge falling

/-- TMARK_CAP_READ (R49): A read of TIME_TMARK_CAP_LO clears new. -/
def execTmarkCapRead (r : Req) (s : State) : Host.Outcome State Fault Refusal :=
  s.act fun c => c.readTo r R.TIME_TMARK_CAP_LO

end Sys2Proof.Machine
end

