-- ==== Sys2Proof/Machine/CrookRows.lean ====
section
/-! DEFINITION. CrookRows.lean: the crook between instructions: data that returns (R123, R156), interrupts (R266), the watchdog (R268), and
illegal encodings (R109). -/

namespace Sys2Proof.Machine

/-- A held load's data reaches its register: at the bus latency from the cycle in which issue resumes (R123, R154). -/
def Chip.fillReg (c : Chip) (l : HeldLoad) (v : Nat) : Chip :=
  let k := c.crook.core
  let late := fun (w : Wr) => { k with pend := k.pend ++ [(k.cyc + l.lat, w)] }
  let old := fun (p : Nat) => (KMap.get 0 p k.p).toNat
  let k1 := match l.dst with
    | .word p => late (.p p (wordToP (BitVec.ofNat 32 v)))
    | .zext p _ => late (.p p (BitVec.ofNat 40 v))
    | .fillLo p => { k with p := KMap.set 0 p (BitVec.ofNat 40 (old p / 2 ^ 32 * 2 ^ 32 + v % 2 ^ 32)) k.p }
    | .fillHi p => { k with p := KMap.set 0 p (BitVec.ofNat 40 (v % 256 * 2 ^ 32 + old p % 2 ^ 32)) k.p }
    | .rs0 => { k with rs := KMap.set 0 0 (v % 2 ^ 20) k.rs }
  { c with crook := { c.crook with core := k1 } }

/-- One held load: a window word has been served, any other address is read now. -/
def Chip.endLoad (c : Chip) (l : HeldLoad) : Chip :=
  match l.val with
  | some v => (c.fillReg l v.toNat).keepRead .crook v
  | none =>
    let (_, v, c1) := c.busReadN .crook l.addr l.bytes
    (c1.fillReg l v).keepRead .crook (BitVec.ofNat 32 v)

/-- Does a held load wait for a gap slot? -/
def HeldLoad.waits (l : HeldLoad) : Bool := inPasture l.addr && l.val.isNone
def HeldStore.waits (s : HeldStore) : Bool := inPasture s.addr && !s.done

/-- CROOK_LOAD_RETURN: every held load's data is there, and issue resumes. -/
def Chip.crookReturn (c : Chip) : Chip :=
  if c.crook.loads.any HeldLoad.waits then c
  else c.crook.loads.foldl Chip.endLoad { c with crook := { c.crook with loads := [] } }

/-- `sync` ends: issue resumes at the cycle by which every earlier memory access has completed (R170). -/
def Chip.endSync (c : Chip) : Chip :=
  if !c.crook.syncing then c
  else
    let k := c.crook.core
    { c with crook := { c.crook with syncing := false, core := { k with cyc := max k.cyc c.crook.memAt } } }

/-- CROOK_ACCESS_COMPLETE: held stores reach their targets in order, and issue resumes (R156). -/
def Chip.crookComplete (c : Chip) : Chip :=
  if !c.crook.loads.isEmpty || c.crook.stores.any HeldStore.waits then c
  else
    let c1 := c.crook.stores.foldl (fun (c : Chip) s =>
      if inPasture s.addr then c else (c.busWriteN .crook s.addr s.bytes s.val).2) { c with crook := { c.crook with stores := [] } }
    c1.endSync

/-! ## Interrupts (R266) -/

/-- Is the crook between instructions, or between iterations of an interruptible repeat (R163, R165)? -/
def Chip.crookBetween (c : Chip) : Bool :=
  c.bit F.CRK_STAT_running && !c.bit F.CRK_STAT_halted && c.crook.loads.isEmpty && c.crook.stores.isEmpty && !c.crook.syncing &&
    decide (c.crook.core.slot = .none) && !c.crook.repHeld

/-- INTERRUPT_ENTRY: the watchdog's warning first, then the lowest line that is pending and unmasked. Writes due at the cycle of the entry
have landed (R255, R261). -/
def Chip.interrupt (c : Chip) : Chip :=
  if !c.crookBetween then c
  else
    let c := c.landTo .crook c.crook.core.cyc
    let s := c.crook
    let saved : Chip := if s.repLeft = 0 then c else { c with crook := { s with repc := s.repLeft } }
    if s.wdWarn then
      ({ saved with crook := { saved.crook with wdWarn := false } }).takeTrap 6 s.core.pc 0 false true none
    else if !s.mode.getLsbD 1 then c
    else match c.pendingLine with
      | some i => saved.takeTrap (32 + i) s.core.pc 0 false false none
      | none => c

/-! ## The watchdog (R268) -/

/-- The warning comes up: the crook waits to take it, and halts at once where it is handling a trap or an interrupt (R265). -/
def Chip.watchdogWarn (c : Chip) : Chip :=
  let s := c.crook
  if s.mode.getLsbD 2 && !c.bit F.CRK_STAT_halted then c.doubleFault 6 s.core.pc s.faddr
  else { c with crook := { s with wdWarn := true } }

/-- WATCHDOG_EXPIRY: time moves to the end of the count, where no frame boundary lies before it. -/
def Chip.watchdogExpiry (c : Chip) : Chip :=
  let d := 8 * c.crook.wdCount - c.crook.wdFrac
  if !c.bit F.CRK_WDT_CTRL_en || !c.time.rootOn || (c.framesRun && decide (c.boundaryRoot < c.now + d)) then c
  else
    let c1 := c.advance d
    let c2 := { c1 with crook := { c1.crook with wdCount := c1.wdStage, wdFrac := 0 } }
    if c2.get F.CRK_WDT_STAT_stage = 0 then
      (c2.watchdogWarn.put F.CRK_WDT_STAT_stage 1).raise Ev.CRK_WDT_WARN locNone 0
    else (c2.put F.CRK_WDT_STAT_stage 2).softReset 4

/-! ## Illegal encodings (R109) -/

/-- ILLEGAL_ENCODING: bytes that are no legal instruction of processor `w` stand at its program counter. Bytes that are one have
their own command. -/
def Chip.illegal (c : Chip) (w : Proc) (bytes : List Byte) : Chip :=
  let k := c.core w
  match decodeBytes bytes with
  | some (px, e) =>
    if encodingOk w.isCrook (decide (k.slot ≠ .none)) px e && !(w.isCrook && privileged e.op && !c.crook.mode.getLsbD 0) then c
    else c.issue w px e fun c _ => .ok (c, [], .seq)
  | none =>
    if !c.canIssue w then c
    else
      let c1 := c.landTo w k.cyc
      match c1.fetchFault w k.pc (refusedLen 9 0xEF bytes) with
      | some t => c1.fail w false 0 t
      | none => c1.fail w false 0 (1, none)

end Sys2Proof.Machine
end

