-- ==== Sys2Proof/Machine/RowsCrook.lean ====
section
/-! DEFINITION. RowsCrook.lean: the rows of the crook core, illegal encodings and plain register accesses (chapters 01, 05, 11), each with its effect. -/

namespace Sys2Proof.Machine

/-- REGISTER_WRITE (R6): A write to a register that has no row of its own takes effect under the access codes of its fields. -/
def execRegisterWrite (r : Req) (addr : Word) (v : Word) (s : State) : Host.Outcome State Fault Refusal :=
  s.act fun c => c.registerWrite r addr.toNat v

/-- ILLEGAL_ENCODING (R109): An illegal or context-illegal instruction is an engine fault or a crook trap. -/
def execIllegalEncoding (w : Proc) (bytes : List Byte) (s : State) : Host.Outcome State Fault Refusal :=
  s.act fun c => c.illegal w bytes

/-- CROOK_LOAD_RETURN (R123): Data of a crook load from outside crook RAM returns and issue resumes. -/
def execCrookLoadReturn (s : State) : Host.Outcome State Fault Refusal :=
  s.act fun c => c.crookReturn

/-- CROOK_ACCESS_COMPLETE (R156): The completion of a crook store that held issue, or of every earlier access awaited by sync,
resumes crook issue. -/
def execCrookAccessComplete (s : State) : Host.Outcome State Fault Refusal :=
  s.act fun c => c.crookComplete

/-- INTERRUPT_ENTRY (R266): Between instructions the crook takes the lowest pending unmasked line. -/
def execInterruptEntry (s : State) : Host.Outcome State Fault Refusal :=
  s.act fun c => c.interrupt

/-- WATCHDOG_ENABLE (R268): A write of CRK_WDT_CTRL.en starts the watchdog until the crook is reset. -/
def execWatchdogEnable (r : Req) (v : Word) (s : State) : Host.Outcome State Fault Refusal :=
  s.act fun c => c.guarded r R.CRK_WDT_CTRL fun c => c.writeWdtCtrl v

/-- WATCHDOG_KICK (R268): The key written to CRK_WDT_KICK by the privileged crook reloads the count. -/
def execWatchdogKick (r : Req) (v : Word) (s : State) : Host.Outcome State Fault Refusal :=
  s.act fun c => c.guarded r R.CRK_WDT_KICK fun c => c.writeWdtKick r v

/-- WATCHDOG_EXPIRY (R268): A watchdog expiry warns the crook, or requests the crook watchdog reset at the second. -/
def execWatchdogExpiry (s : State) : Host.Outcome State Fault Refusal :=
  s.act fun c => c.watchdogExpiry

/-- SE_CYC_READ (R7): A read of SE_CYC returns max and clears it. -/
def execSeCycRead (r : Req) (n : Fin 17) (s : State) : Host.Outcome State Fault Refusal :=
  s.act fun c => c.readTo r (R.SE_CYC n.val)

/-- SE_OVR_CNT_READ (R7): A read of SE_OVR_CNT returns the overrun count and clears it. -/
def execSeOvrCntRead (r : Req) (n : Fin 17) (s : State) : Host.Outcome State Fault Refusal :=
  s.act fun c => c.readTo r (R.SE_OVR_CNT n.val)

/-- PAS_ECC_CNT_READ (R7): A read of PAS_ECC_CNT returns the ECC counts and clears them. -/
def execPasEccCntRead (r : Req) (s : State) : Host.Outcome State Fault Refusal :=
  s.act fun c => c.readTo r R.PAS_ECC_CNT

/-- PAS_MISS_CNT_READ (R7): A read of PAS_MISS_CNT returns the slot-miss count and clears it. -/
def execPasMissCntRead (r : Req) (s : State) : Host.Outcome State Fault Refusal :=
  s.act fun c => c.readTo r R.PAS_MISS_CNT

/-- PRT_LANE_SLIP_READ (R7): A read of PRT_LANE_SLIP returns the slip counts and clears them. -/
def execPrtLaneSlipRead (r : Req) (n : BitVec 5) (s : State) : Host.Outcome State Fault Refusal :=
  s.act fun c => c.readTo r (R.PRT_LANE_SLIP n.toNat)

/-- PRT_GRP_FERR_READ (R7): A read of PRT_GRP_FERR returns the framing-error count and clears it. -/
def execPrtGrpFerrRead (r : Req) (g : BitVec 3) (s : State) : Host.Outcome State Fault Refusal :=
  s.act fun c => c.readTo r (R.PRT_GRP_FERR g.toNat)

/-- EVT_Q_DROP_READ (R7): A read of EVT_Q_DROP returns the dropped-occurrence count and clears it. -/
def execEvtQDropRead (r : Req) (s : State) : Host.Outcome State Fault Refusal :=
  s.act fun c => c.readTo r R.EVT_Q_DROP

/-- EVT_TALLY_READ (R280): A read of EVT_TALLY returns both tallies of the selected event and clears them. -/
def execEvtTallyRead (r : Req) (s : State) : Host.Outcome State Fault Refusal :=
  s.act fun c => c.readTo r R.EVT_TALLY

/-- GUARD_CH_PEAK_CNT_READ (R7): A read of GUARD_CH_PEAK_CNT returns the limited-frame count and clears it. -/
def execGuardChPeakCntRead (r : Req) (c : BitVec 6) (s : State) : Host.Outcome State Fault Refusal :=
  s.act fun d => d.readTo r (R.GUARD_CH_PEAK_CNT c.toNat)

/-- RF_OVL_CNT_READ (R7): A read of RF_OVL_CNT returns the overload-start count and clears it. -/
def execRfOvlCntRead (r : Req) (s : State) : Host.Outcome State Fault Refusal :=
  s.act fun c => c.readTo r R.RF_OVL_CNT

/-- RF_TX_LATE_CNT_READ (R7): A read of RF_TX_LATE_CNT returns the late-abandonment count and clears it. -/
def execRfTxLateCntRead (r : Req) (s : State) : Host.Outcome State Fault Refusal :=
  s.act fun c => c.readTo r R.RF_TX_LATE_CNT

/-- LNK_AUD_CNT_READ (R7): A read of LNK_AUD_CNT returns the recovered and lost packet counts and clears them. -/
def execLnkAudCntRead (r : Req) (s : State) : Host.Outcome State Fault Refusal :=
  s.act fun c => c.readTo r R.LNK_AUD_CNT

/-- LNK_STRAY_CNT_READ (R7): A read of LNK_STRAY_CNT returns the stray count and clears it. -/
def execLnkStrayCntRead (r : Req) (s : State) : Host.Outcome State Fault Refusal :=
  s.act fun c => c.readTo r R.LNK_STRAY_CNT

/-- BST_TALLY_READ (R7): A read of BST_TALLY returns the pass and fail tallies and clears them. -/
def execBstTallyRead (r : Req) (s : State) : Host.Outcome State Fault Refusal :=
  s.act fun c => c.readTo r R.BST_TALLY

end Sys2Proof.Machine
end

