-- ==== Sys2Proof/Machine/DmaMove.lean ====
section
/-! DEFINITION. DmaMove.lean: the read engine, the write engine and the lanes' beats (R238 to R250). -/

namespace Sys2Proof.Machine

/-- The first transaction of a ring, in chain order, that satisfies `p`, with its descriptor and its place. -/
def Ring.findTxn (r : Ring) (p : DescRun → Txn → Bool) : Option (Nat × DescRun × Txn) :=
  ((List.range r.descs.length).zip r.descs).findSome? fun (i, d) => (d.txns.find? (p d)).map fun t => (i, d, t)

def Ring.putDesc (r : Ring) (i : Nat) (d : DescRun) : Ring := { r with descs := r.descs.set i d }
def DescRun.putTxn (d : DescRun) (t : Txn) : DescRun := { d with txns := d.txns.map fun x => if x.id = t.id then t else x }
def DescRun.dropTxn (d : DescRun) (id : Nat) : DescRun := { d with txns := d.txns.filter fun x => !decide (x.id = id) }

/-- A transaction fails (R248): it is discarded, the data of every younger one of its descriptor too, and those of them that are in flight
drain. -/
def DescRun.failAt (d : DescRun) (id code ofs : Nat) : DescRun :=
  { d with
    txns := d.txns.filterMap fun x =>
      if x.id < id then some x else if x.id = id ∨ !d.busy x then none else some { x with dead := true }
    fail := some (code, ofs, true) }

/-- A transaction fails, or has drained. -/
def DescRun.failOrDrop (d : DescRun) (t : Txn) (code ofs : Nat) : DescRun :=
  if t.dead then d.dropTxn t.id else d.failAt t.id code ofs

/-- Words of a transaction. -/
def Txn.words (t : Txn) : Nat := t.bytes / 4

/-- Is the ring moving: RUNNING, or draining in PAUSING, and not aborting? -/
def Chip.ringMoves (c : Chip) (n : Nat) : Bool :=
  (decide (c.ringState n = ringRunning) || decide (c.ringState n = ringPausing)) && !(c.ring n).aborting

/-- The choice among rings (R242): `prio` = 1 first, within a class round robin from the ring served last. -/
def Chip.pickRing (c : Chip) (last : Nat) (want : Nat → Bool) : Option Nat :=
  let order := (List.range 32).map fun i => (last + 1 + i) % 32
  let hi := order.filter fun n => c.bit (F.DMA_RING_CTRL_prio n)
  let lo := order.filter fun n => !c.bit (F.DMA_RING_CTRL_prio n)
  (hi ++ lo).find? want

/-! ## Reads -/

/-- Has the ring a read ready and a free quota unit (R241, R242)? A read from a lane is no transaction in flight. -/
def Chip.readReady (c : Chip) (n : Nat) : Bool :=
  let r := c.ring n
  match r.descs.getLast? with
  | none => false
  | some d => decide (c.ringState n = ringRunning) && !r.aborting && decide (d.op ≠ 1) && (r.descs.all fun x => x.fail.isNone) &&
      d.mis.isNone && decide (d.rd < d.len) && decide (r.held < c.quota n) && (d.srcLane || decide (c.flights < 64))

/-- The size of the next transaction (R238): to the burst size, the descriptor's end or a 256-byte boundary of `a`. -/
def DescRun.nextSize (d : DescRun) (done a : Nat) (lane : Bool) : Nat :=
  let n := min d.burst (d.len - done)
  if lane then n else min n (256 - (a + done) % 256)

/-- Ask the window for the words of a read (R187, R243). -/
def Chip.askWindow (c : Chip) (n id a words : Nat) (snd : Bool) : Chip :=
  let asked := (List.range words).map fun k => ((a - 0x10000000) / 4 + k, WinReq.dmaRead n id k snd)
  { c with pas := { c.pas with queue := c.pas.queue ++ asked } }

/-- The first word of a range that is refused to the ring. -/
def Chip.firstRefused (c : Chip) (n a words : Nat) : Option Nat :=
  ((List.range words).map fun k => a + 4 * k).find? fun x => decide (c.gateOf (.dma (BitVec.ofNat 5 n)) false x 4 ≠ Gate.accept)

/-- The words that a target outside the window gives, up to the first one refused: were they all accepted? -/
def Chip.readWords (c : Chip) (n a : Nat) : Nat → KMap Word × Bool × Chip
  | 0 => ([], true, c)
  | k + 1 =>
    let (m, ok, c1) := Chip.readWords c n a k
    if !ok then (m, false, c1)
    else
      let (good, v, c2) := c1.busRead (.dma (BitVec.ofNat 5 n)) (a + 4 * k)
      (if good then KMap.set 0 k v m else m, good, c2)

/-- Issue the read of one side of a transaction (R238, R243): the words of a side outside the window, how many window words are asked
for, and whether the target accepts it. -/
def Chip.askSide (c : Chip) (n id a words : Nat) (snd : Bool) : KMap Word × Nat × Bool × Chip :=
  if inWindow a then
    match c.firstRefused n a words with
    | some x => ([], 0, false, c.refused (.dma (BitVec.ofNat 5 n)) false x)
    | none => ([], words, true, c.askWindow n id a words snd)
  else
    let (m, ok, c1) := c.readWords n a words
    (m, 0, ok, c1)

/-- READ_TRANSACTION (R238, R242). What a target outside the window answers, it answers to the access as issued (R253). -/
def Chip.readTxn (c : Chip) (n : Nat) : Chip :=
  let r := c.ring n
  match r.descs.getLast? with
  | none => c
  | some d =>
    if c.pickRing c.dma.lastRd c.readReady ≠ some n then c
    else
      let size := d.nextSize d.rd d.src d.srcLane
      let id := r.nextId
      let one := if d.srcLane then ([], 0, true, c) else c.askSide n id (d.src + d.rd) (size / 4) false
      let two := if d.op = 2 ∧ one.2.2.1 then one.2.2.2.askSide n id (d.dst + d.rd) (size / 4) true else ([], 0, one.2.2.1, one.2.2.2)
      let t : Txn := ⟨id, d.rd, size, c.now, one.1, two.1, 0, one.2.1 + two.2.1, false, 0, 0, [], if two.2.2.1 then none else some 1, false⟩
      let d1 := { d with rd := d.rd + size, txns := d.txns ++ [t] }
      let c1 := two.2.2.2.setRing n { r.putDesc (r.descs.length - 1) d1 with nextId := id + 1 }
      ({ c1 with dma := { c1.dma with lastRd := n } }).noteRing n

/-- A compare's words side by side (R238): the place of the first unequal pair. -/
def firstUnequal (a b : KMap Word) (words : Nat) : Option Nat :=
  (List.range words).find? fun k => decide (KMap.get 0 k a ≠ KMap.get 0 k b)

/-! ## Timeouts (R250) -/

/-- The instant at which a request issued at `t` exceeds `DMA_TO.to` × 256 CLK_FAB cycles; 0 acts as 1. The time that a request for the
window waits for the zeroing of a load is not counted. -/
def Chip.deadline (c : Chip) (window : Bool) (t : Int) : Int :=
  let span := Int.ofNat (max (c.get F.DMA_TO_to) 1 * 2048)
  let b := Int.ofNat (c.fold.bAt * rootPerTick)
  let z := b + 4 * 65536
  if !window || decide (z ≤ t) || decide (Int.ofNat c.now < b) || decide (t + span ≤ b) then t + span
  else if b ≤ t then z + span
  else t + span + 4 * 65536

/-- Time moves to a deadline where that comes no later than the next frame boundary. -/
def Chip.toDeadline (c : Chip) (d : Int) : Option Chip :=
  if d ≤ Int.ofNat c.boundaryRoot then some (c.advanceTo d.toNat) else none

/-- Does a descriptor's read, or its write, go through the window? -/
def DescRun.readsWindow (d : DescRun) : Bool := inWindow d.src || (decide (d.op = 2) && inWindow d.dst)

/-- The oldest read that waits, and the oldest transaction with a burst that waits. -/
def Ring.waitingRead (r : Ring) : Option (Nat × DescRun × Txn) := r.findTxn fun d t => !t.ready && !d.srcLane
def Ring.waitingBurst (r : Ring) : Option (Nat × DescRun × Txn) := r.findTxn fun _ t => !t.bursts.isEmpty

/-- A read that has exceeded its timeout fails (R247, R250). -/
def Chip.readLate (c : Chip) (n i : Nat) (d : DescRun) (t : Txn) : Chip :=
  (c.setRing n ((c.ring n).putDesc i (d.failOrDrop t 3 t.ofs))).noteRing n
/-- So does a burst, at its first beat not written. -/
def Chip.burstLate (c : Chip) (n i : Nat) (d : DescRun) (t : Txn) : Chip :=
  (c.setRing n ((c.ring n).putDesc i (d.failOrDrop t 4 (t.ofs + 4 * (t.sent - t.open_))))).noteRing n

/-- READ_RESPONSE (R238, R247, R248): the oldest read that waits, once its window words are served. -/
def Chip.readResponse (c : Chip) (n : Nat) : Chip :=
  let r := c.ring n
  match r.waitingRead with
  | none => c
  | some (i, d, t) =>
    if c.deadline d.readsWindow t.issued < c.now then c.readLate n i d t
    else if t.owed ≠ 0 then c
    else if t.dead then (c.setRing n (r.putDesc i (d.dropTxn t.id))).noteRing n
    else
      match t.err with
      | some code => (c.setRing n (r.putDesc i (d.failAt t.id code t.ofs))).noteRing n
      | none =>
        if d.op ≠ 2 then c.setRing n (r.putDesc i (d.putTxn { t with ready := true }))
        else
          match firstUnequal t.data t.data2 t.words with
          | none => (c.setRing n (r.putDesc i { d.dropTxn t.id with wr := d.wr + t.bytes })).noteRing n
          | some k => ((c.setRing n (r.putDesc i
                { d with
                  txns := (d.txns.filter fun x => !decide (x.id = t.id)).map fun x => { x with dead := true }
                  mis := some (t.ofs + 4 * k)
                  wr := t.ofs + 4 * k })).raise Ev.DMA_MISMATCH (locRing n) 0).noteRing n

/-- A window word of a read has been served in a gap slot; an uncorrectable one fails the transaction (R181, R247). -/
def Chip.dmaWindowRead (c : Chip) (n id k : Nat) (snd good : Bool) (v : Word) : Chip :=
  let r := c.ring n
  match r.findTxn fun _ t => decide (t.id = id) with
  | none => c
  | some (i, d, t) =>
    let t1 : Txn := if snd then { t with data2 := KMap.set 0 k v t.data2, owed := t.owed - 1 }
      else { t with data := KMap.set 0 k v t.data, owed := t.owed - 1 }
    c.setRing n (r.putDesc i (d.putTxn (if good then t1 else { t1 with err := some 5 })))

/-! ## Writes -/

/-- The descriptor whose data may be written now (R240): the first one not over, when every earlier one has ended without an error
(R249). -/
def Ring.writing (r : Ring) : Option (Nat × DescRun) :=
  (((List.range r.descs.length).zip r.descs).find? fun (_, d) => !d.isOver).filter fun (i, _) => (r.descs.take i).all fun x => x.fail.isNone

/-- The next transaction to write of a descriptor: the first one with words not sent; a fill makes its own (R238). Of a descriptor that has
failed, the data read before the failure are still written (R248). -/
def DescRun.toWrite (d : DescRun) (id : Nat) (now : Int) : Option (Txn × Bool) :=
  match d.txns.find? fun t => decide (t.sent < t.words) && !t.dead with
  | some t => if t.ready && t.err.isNone then some (t, false) else none
  | none =>
    if d.op = 1 ∧ d.fail.isNone ∧ d.wr < d.len then
      let size := d.nextSize d.wr d.dst false
      some (⟨id, d.wr, size, now, (List.range (size / 4)).foldl (fun m k => KMap.set 0 k d.pat m) [], [], 0, 0, true, 0, 0, [], none, false⟩,
        true)
    else none

/-- Has the ring a burst to write? At most 64 transactions are in flight. -/
def Chip.writeReady (c : Chip) (n : Nat) : Bool :=
  let r := c.ring n
  c.ringMoves n && (match r.writing with
    | some (_, d) => !d.dstLane && decide (d.op ≠ 2) &&
        (match d.toWrite r.nextId c.now with
          | some (t, fresh) => (!fresh || decide (c.ringState n = ringRunning)) && (d.busy t || decide (c.flights < 64))
          | none => false)
    | none => false)

/-- The window takes the words of a ring's bursts one after the other, so that they land in ascending order (R240). -/
def Chip.queueWrite (c : Chip) (n : Nat) : Chip :=
  let queued := c.pas.queue.any fun q => match q.2 with
    | .dmaWrite m _ _ => decide (m = n)
    | _ => false
  if queued then c
  else
    match (c.ring n).findTxn fun _ t => decide (t.open_ ≠ 0) with
    | none => c
    | some (_, d, t) =>
      let k := t.sent - t.open_
      { c with pas := { c.pas with queue := c.pas.queue ++
        [((d.dst + t.ofs + 4 * k - 0x10000000) / 4, .dmaWrite n t.id (KMap.get 0 k t.data))] } }

/-- Write the words of a burst, up to the first one refused: how many were written, how many of them wait for the window. -/
def Chip.burstWords (n a : Nat) (data : KMap Word) (from' : Nat) : Nat → Chip → Nat × Nat × Bool × Chip
  | 0, c => (0, 0, true, c)
  | k + 1, c =>
    let (w, o, ok, c1) := Chip.burstWords n a data from' k c
    if !ok then (w, o, ok, c1)
    else
      let adr := a + 4 * k
      let r := Req.dma (BitVec.ofNat 5 n)
      if inWindow adr then
        if c1.gateOf r true adr 4 = .accept then (w + 1, o + 1, true, c1) else (w, o, false, c1.refused r true adr)
      else
        let (good, c2) := c1.busWrite r adr (KMap.get 0 (from' + k) data)
        (if good then w + 1 else w, o, good, c2)

/-- WRITE_BURST (R238, R242, R249): one burst, to a 256-byte boundary of the destination. -/
def Chip.writeBurst (c : Chip) (n : Nat) : Chip :=
  let r := c.ring n
  if c.pickRing c.dma.lastWr c.writeReady ≠ some n then c
  else
    match r.writing with
    | none => c
    | some (i, d) =>
      match d.toWrite r.nextId c.now with
      | none => c
      | some (t, fresh) =>
        let a := d.dst + t.ofs + 4 * t.sent
        let words := min (t.words - t.sent) ((256 - a % 256) / 4)
        let (w, o, ok, c1) := Chip.burstWords n a t.data t.sent words c
        let t1 : Txn := { t with
          sent := t.sent + w
          open_ := t.open_ + o
          bursts := t.bursts ++ [Int.ofNat c.now]
          err := if ok then none else some 2 }
        let d1 := if fresh then { d with txns := d.txns ++ [t1], rd := d.rd + t.bytes } else d.putTxn t1
        let r1 := c1.ring n
        let c2 := c1.setRing n { r1.putDesc i { d1 with wr := d.wr + 4 * words } with
          nextId := if fresh then r1.nextId + 1 else r1.nextId }
        (({ c2 with dma := { c2.dma with lastWr := n } }).queueWrite n).noteRing n

/-- A window word of a burst has been written in a gap slot. -/
def Chip.dmaWindowWrite (c : Chip) (n id : Nat) : Chip :=
  let r := c.ring n
  (match r.findTxn fun _ t => decide (t.id = id) with
    | none => c
    | some (i, d, t) => c.setRing n (r.putDesc i (d.putTxn { t with open_ := t.open_ - 1 }))).queueWrite n

/-- A burst of a transaction is confirmed; with its last one the transaction has ended. -/
def DescRun.confirm (d : DescRun) (t : Txn) : DescRun :=
  let t1 := { t with bursts := t.bursts.tail }
  if t1.bursts.isEmpty && (t.dead || decide (t.words ≤ t.sent)) then d.dropTxn t.id else d.putTxn t1

/-- WRITE_RESPONSE (R248, R249): the oldest burst that waits is confirmed or fails. -/
def Chip.writeResponse (c : Chip) (n : Nat) : Chip :=
  let r := c.ring n
  match r.waitingBurst with
  | none => c
  | some (i, d, t) =>
    if c.deadline (inWindow d.dst) (t.bursts.headD 0) < c.now then c.burstLate n i d t
    else if t.open_ ≠ 0 then c
    else
      match t.err with
      | some code => (c.setRing n (r.putDesc i (d.failOrDrop t code (t.ofs + 4 * t.sent)))).noteRing n
      | none => (c.setRing n (r.putDesc i (d.confirm t))).noteRing n

/-- TRANSACTION_TIMEOUT (R250): at the deadline of the oldest request of its kind. -/
def Chip.txnTimeout (c : Chip) (n : Nat) (k : DmaPhase) : Chip :=
  let r := c.ring n
  match k with
  | .read => match r.waitingRead with
    | some (i, d, t) => match c.toDeadline (c.deadline d.readsWindow t.issued) with
      | some c1 => c1.readLate n i d t
      | none => c
    | none => c
  | .write => match r.waitingBurst with
    | some (i, d, t) => match c.toDeadline (c.deadline (inWindow d.dst) (t.bursts.headD 0)) with
      | some c1 => c1.burstLate n i d t
      | none => c
    | none => c
  | .fetch => match c.fetchAt n, r.fetchAt with
    | some a, some t => match c.toDeadline (c.deadline false t) with
      | some c1 => (((c1.setRing n { r with descs := r.descs ++ [DescRun.unfetched a], fetchAt := none }).put
          (F.DMA_RING_CTRL_start n) 0).incr (F.DMA_RING_STAT_hops n)).noteRing n
      | none => c
    | _, _ => c
  | .status => match r.descs, r.statusAt with
    | d :: rest, some t =>
      if !c.statusDue n then c
      else match c.toDeadline (c.deadline false t) with
        | some c1 => c1.setRing n { r with descs := { d with fail := some (7, d.wr, false) } :: rest }
        | none => c
    | _, _ => c

/-! ## Lanes (R239) -/

/-- May a word move for this transaction: the lane's buffer holds one, or, where the chain's order lets its descriptor write (R240), has
space? -/
def Chip.beatReady (c : Chip) (r : Ring) (d : DescRun) (t : Txn) : Bool :=
  (d.srcLane && !t.ready && !(c.lane d.lane).buf.isEmpty) ||
    (d.dstLane && t.ready && decide (t.sent < t.words) && decide ((c.lane d.lane).buf.length < 64) &&
      (match r.writing with
        | some (_, x) => decide (x.addr = d.addr ∧ x.txns = d.txns)
        | none => false))

/-- LANE_BEAT (R239): one word between a lane's buffer and the ring, the first in chain order that can move. -/
def Chip.laneBeat (c : Chip) (n : Nat) : Chip :=
  let r := c.ring n
  if !c.ringMoves n then c
  else
    match r.findTxn (c.beatReady r) with
    | none => c
    | some (i, d, t) =>
      let l := c.lane d.lane
      if d.srcLane then
        match l.buf with
        | [] => c
        | v :: rest =>
          let t1 : Txn := { t with data := KMap.set 0 t.got v t.data, got := t.got + 1, ready := decide (t.words ≤ t.got + 1) }
          (c.setLane d.lane { l with buf := rest }).setRing n (r.putDesc i (d.putTxn t1))
      else
        let t1 : Txn := { t with sent := t.sent + 1 }
        let d1 := { (if t.words ≤ t1.sent then d.dropTxn t.id else d.putTxn t1) with wr := d.wr + 4 }
        ((c.setLane d.lane { l with buf := l.buf ++ [KMap.get 0 t.sent t.data] }).setRing n (r.putDesc i d1)).noteRing n

end Sys2Proof.Machine
end

