-- ==== Sys2Proof/Machine/RowsDma.lean ====
section
/-! DEFINITION. RowsDma.lean: the rows of the DMA rings and of the LPDDR4X interface (chapter 10), each with its effect. -/

namespace Sys2Proof.Machine

/-- RING_START (R244): A write of DMA_RING_CTRL.start fetches HEAD and enters RUNNING, or is refused. -/
def execRingStart (r : Req) (n : BitVec 5) (v : Word) (s : State) : Host.Outcome State Fault Refusal :=
  s.act fun c => c.guarded r (R.DMA_RING_CTRL n.toNat) fun c => c.writeRingCtrl n.toNat v

/-- RING_ABORT (R244): A write of abort stops new reads and fetches of the ring. -/
def execRingAbort (r : Req) (n : BitVec 5) (v : Word) (s : State) : Host.Outcome State Fault Refusal :=
  s.act fun c => c.guarded r (R.DMA_RING_CTRL n.toNat) fun c => c.writeRingCtrl n.toNat v

/-- RING_PAUSE (R245): Setting pause in RUNNING enters PAUSING. -/
def execRingPause (r : Req) (n : BitVec 5) (v : Word) (s : State) : Host.Outcome State Fault Refusal :=
  s.act fun c => c.guarded r (R.DMA_RING_CTRL n.toNat) fun c => c.writeRingCtrl n.toNat v

/-- RING_RESUME (R245): Clearing pause returns the ring to RUNNING from its exact position. -/
def execRingResume (r : Req) (n : BitVec 5) (v : Word) (s : State) : Host.Outcome State Fault Refusal :=
  s.act fun c => c.guarded r (R.DMA_RING_CTRL n.toNat) fun c => c.writeRingCtrl n.toNat v

/-- RING_ABORT_DONE (R244): An aborted ring's transactions drain and it enters IDLE. -/
def execRingAbortDone (n : BitVec 5) (s : State) : Host.Outcome State Fault Refusal :=
  s.act fun c => c.abortDone n.toNat

/-- RING_PAUSED (R245): A pausing ring's last transaction drains and it enters PAUSED. -/
def execRingPaused (n : BitVec 5) (s : State) : Host.Outcome State Fault Refusal :=
  s.act fun c => c.ringPausedDone n.toNat

/-- DESCRIPTOR_FETCH (R237): A ring fetches and validates its next descriptor. -/
def execDescriptorFetch (n : BitVec 5) (s : State) : Host.Outcome State Fault Refusal :=
  s.act fun c => c.descFetch n.toNat

/-- READ_TRANSACTION (R242): The read engine issues one read transaction for an eligible ring. -/
def execReadTransaction (n : BitVec 5) (s : State) : Host.Outcome State Fault Refusal :=
  s.act fun c => c.readTxn n.toNat

/-- READ_RESPONSE (R238): Read data returns to the shared buffer or the transaction fails. -/
def execReadResponse (n : BitVec 5) (s : State) : Host.Outcome State Fault Refusal :=
  s.act fun c => c.readResponse n.toNat

/-- WRITE_BURST (R238): The write engine writes a buffered transaction as one or two bursts. -/
def execWriteBurst (n : BitVec 5) (s : State) : Host.Outcome State Fault Refusal :=
  s.act fun c => c.writeBurst n.toNat

/-- WRITE_RESPONSE (R248): A target confirms or fails a write burst. -/
def execWriteResponse (n : BitVec 5) (s : State) : Host.Outcome State Fault Refusal :=
  s.act fun c => c.writeResponse n.toNat

/-- TRANSACTION_TIMEOUT (R250): A request without a response within the timeout fails. -/
def execTransactionTimeout (n : BitVec 5) (k : DmaPhase) (s : State) : Host.Outcome State Fault Refusal :=
  s.act fun c => c.txnTimeout n.toNat k

/-- LANE_BEAT (R239): A lane ring moves one word when the lane buffer holds data or space. -/
def execLaneBeat (n : BitVec 5) (s : State) : Host.Outcome State Fault Refusal :=
  s.act fun c => c.laneBeat n.toNat

/-- DESCRIPTOR_END (R236): When its writes are confirmed a descriptor's STATUS is written and the ring advances. -/
def execDescriptorEnd (n : BitVec 5) (s : State) : Host.Outcome State Fault Refusal :=
  s.act fun c => c.descEnd n.toNat

/-- DDR_ENABLE (R252): A write of DMA_DDR_CTRL.en with a size starts LPDDR4X initialisation and training. -/
def execDdrEnable (r : Req) (v : Word) (s : State) : Host.Outcome State Fault Refusal :=
  s.act fun c => c.guarded r R.DMA_DDR_CTRL fun c => c.writeDdrCtrl v

/-- DDR_DISABLE (R253): A write of en 0 clears ext_mem and refuses new LPDDR4X accesses. -/
def execDdrDisable (r : Req) (v : Word) (s : State) : Host.Outcome State Fault Refusal :=
  s.act fun c => c.guarded r R.DMA_DDR_CTRL fun c => c.writeDdrCtrl v

/-- DDR_TRAINING_END (R252): Training ends with ready and FEAT2 set, or with fail. -/
def execDdrTrainingEnd (converged : Bool) (density : BitVec 3) (s : State) : Host.Outcome State Fault Refusal :=
  s.act fun c => c.ddrTrained converged density.toNat

end Sys2Proof.Machine
end

