-- ==== Sys2Proof/Machine/RowsEngine.lean ====
section
/-! DEFINITION. RowsEngine.lean: the rows of the sample engines (chapter 04), each with its effect. -/

namespace Sys2Proof.Machine

/-- RUN_REQ (R86): A write of SE_CTRL.run_req arms a stopped role to start at a later boundary. -/
def execRunReq (r : Req) (n : Fin 17) (v : Word) (s : State) : Host.Outcome State Fault Refusal :=
  s.act fun c => c.guarded r (R.SE_CTRL n.val) fun c => c.writeSeCtrl n.val v

/-- STOP_REQ (R86): A write of SE_CTRL.stop_req requests a stop of the role at a later boundary. -/
def execStopReq (r : Req) (n : Fin 17) (v : Word) (s : State) : Host.Outcome State Fault Refusal :=
  s.act fun c => c.guarded r (R.SE_CTRL n.val) fun c => c.writeSeCtrl n.val v

/-- ENGINE_CLEAR (R89): A write of SE_CTRL.clr starts clearing the state of a stopped engine. -/
def execEngineClear (r : Req) (n : Fin 17) (v : Word) (s : State) : Host.Outcome State Fault Refusal :=
  s.act fun c => c.guarded r (R.SE_CTRL n.val) fun c => c.writeSeCtrl n.val v

/-- ROLE_START (R87): An armed role loads its seed and starts running at its boundary. -/
def execRoleStart (n : Fin 17) (s : State) : Host.Outcome State Fault Refusal :=
  s.act fun c => c.roleStart n.val

/-- ROLE_STOP (R88): A role stops at its boundary and its output words are cleared after they leave. -/
def execRoleStop (n : Fin 17) (s : State) : Host.Outcome State Fault Refusal :=
  s.act fun c => c.roleStop n.val

/-- ENGINE_CLEAR_DONE (R89): The state clear completes and clr reads 0. -/
def execEngineClearDone (n : Fin 17) (s : State) : Host.Outcome State Fault Refusal :=
  s.act fun c => c.clearDone n.val

/-- FORCED_FRAME_END (R77): An engine not at fend by the first tail cycle is ended by force. -/
def execForcedFrameEnd (n : Fin 17) (s : State) : Host.Outcome State Fault Refusal :=
  s.act fun c => c.forceEnd n.val

/-- ROTATION_DUE (R91): At D a due rotation chooses a role, its engine and the spare, or waits. -/
def execRotationDue (s : State) : Host.Outcome State Fault Refusal :=
  s.act fun c => c.rotationDue

/-- PROGRAM_COPY (R92): At H − 2 the spare enters PREP and receives the outgoing engine's program store. -/
def execProgramCopy (s : State) : Host.Outcome State Fault Refusal :=
  s.act fun c => c.programCopy

/-- SCRATCH_MIRROR (R92): In frame H − 1 scratch writes are mirrored and a sweep copies scratch to the spare. -/
def execScratchMirror (s : State) : Host.Outcome State Fault Refusal :=
  s.act fun c => c.scratchMirror

/-- STATE_COPY (R79): In the tail of H − 1 the engine state is copied to the spare. -/
def execStateCopy (s : State) : Host.Outcome State Fault Refusal :=
  s.act fun c => c.stateCopy

/-- TWIN_FRAME_START (R92): At H the spare enters TWIN and both engines run the role. -/
def execTwinFrameStart (s : State) : Host.Outcome State Fault Refusal :=
  s.act fun c => c.twinStart

/-- TWIN_COMPARE (R92): After the drain of frame H the output words of both engines are compared. -/
def execTwinCompare (s : State) : Host.Outcome State Fault Refusal :=
  s.act fun c => c.twinCompare

/-- HANDOVER (R92): At H + 1 the spare takes the role and the outgoing engine enters TEST. -/
def execHandover (s : State) : Host.Outcome State Fault Refusal :=
  s.act fun c => c.handover

end Sys2Proof.Machine
end

