-- ==== Sys2Proof/Machine/RowsEvent.lean ====
section
/-! DEFINITION. RowsEvent.lean: the rows of the event fabric and of the guard (chapter 12), each with its effect. -/

namespace Sys2Proof.Machine

/-- QUEUE_POP (R277): A write of EVT_Q_POP.pop removes the head queue entry. -/
def execQueuePop (r : Req) (v : Word) (s : State) : Host.Outcome State Fault Refusal :=
  s.act fun c => c.guarded r R.EVT_Q_POP fun c => if F.EVT_Q_POP_pop.ofB v then c.popQueue else c

/-- LINGER_END (R281): An ancestor's linger expires and it stops suppressing. -/
def execLingerEnd (id : Word16) (s : State) : Host.Outcome State Fault Refusal :=
  s.act fun c => c.endLinger id.toNat

/-- DC_LATCH (R288): A DC offset held over 50 ms latches and the channel sends zero. -/
def execDcLatch (c : BitVec 6) (s : State) : Host.Outcome State Fault Refusal :=
  s.act fun d => d.dcLatch c.toNat

/-- DC_LATCH_CLEAR (R289): A write of 1 to GUARD_CH_STAT.dc clears the latch when the offset has gone. -/
def execDcLatchClear (r : Req) (c : BitVec 6) (v : Word) (s : State) : Host.Outcome State Fault Refusal :=
  s.act fun d => d.guarded r (R.GUARD_CH_STAT c.toNat) fun d => d.writeChStat c.toNat v

end Sys2Proof.Machine
end

