-- ==== Sys2Proof/Machine/RowsFold.lean ====
section
/-! DEFINITION. RowsFold.lean: the rows of a fold load (chapter 03), each with its effect. -/

namespace Sys2Proof.Machine

/-- FOLD_GO (R69): A write of FOLD_CTRL.go starts a fold load, or is rejected while busy or shut down. -/
def execFoldGo (r : Req) (v : Word) (s : State) : Host.Outcome State Fault Refusal :=
  s.act fun c => c.guarded r R.FOLD_CTRL fun c => c.writeFoldCtrl v

/-- FOLD_CHECKS_END (R70): The fold checks end; a pass waits for B and a failure returns to IDLE. -/
def execFoldChecksEnd (s : State) : Host.Outcome State Fault Refusal :=
  s.act fun c => c.foldChecksEnd

/-- FOLD_APPLY (R70): At B engines stop, roles and banks are assigned, paddocks change and zeroing begins. -/
def execFoldApply (s : State) : Host.Outcome State Fault Refusal :=
  s.act fun c => c.foldApply

/-- FOLD_ZEROING_END (R70): Pasture zeroing ends and waiting window accesses are served. -/
def execFoldZeroingEnd (s : State) : Host.Outcome State Fault Refusal :=
  s.act fun c => c.foldZeroingEnd

/-- FOLD_DONE (R70): At R the new rate, ports and tables take effect, engines start unless held, and FOLD_DONE is raised. -/
def execFoldDone (s : State) : Host.Outcome State Fault Refusal :=
  s.act fun c => c.foldDone

end Sys2Proof.Machine
end

