-- ==== Sys2Proof/Machine/Band.lean ====
section
/-! DEFINITION. Band.lean: the sample streams of the L1 and the L5 down-converter (R298, R322, R325, R333): a row that carries samples
brings those of its band since the last ones, and every notch, channel and capture of the band takes them. -/

namespace Sys2Proof.Machine

/-- Root cycles per sample of a band (R298). -/
def bandStep (l1 : Bool) : Nat := if l1 then 48 else 96

/-- The notches of a band in the order in which they act. -/
def bandNotches (l1 : Bool) : List Nat := if l1 then [0, 1, 2, 3] else [4, 5, 6, 7]

/-- The instant up to which a band's samples have been taken. -/
def Chip.bandAt (c : Chip) (l1 : Bool) : Nat := if l1 then c.gn.l1At else c.gn.l5At
def Chip.setBandAt (c : Chip) (l1 : Bool) (t : Nat) : Chip :=
  { c with gn := if l1 then { c.gn with l1At := t } else { c.gn with l5At := t } }

/-- Does the band's down-converter run (R298)? -/
def Chip.bandOn (c : Chip) (l1 : Bool) : Bool := c.ddcOn (if l1 then F.RF_CTRL_ddc_l1 else F.RF_CTRL_ddc_l5)

/-- One sample through the notches of its band, in ascending order (R322): the 16-bit output. -/
def Chip.bandOut (c : Chip) (l1 : Bool) (x : Int × Int) : (Int × Int) × Chip :=
  let acts := (bandNotches l1).any fun i => c.bit (F.GN_NOTCH_CTRL_engaged i)
  let r := (bandNotches l1).foldl (fun (acc : (Rat × Rat) × Chip) i => acc.2.notchSample i acc.1) (((x.1 : Rat), (x.2 : Rat)), c)
  (if acts then ((Config.notchOut r.1.1).toInt, (Config.notchOut r.1.2).toInt) else x, r.2)

/-- A notch output at the instant `u` reaches a channel that runs from its band (R333). -/
def Chip.bandChan (src u : Nat) (y : Int × Int) (c : Chip) (n : Nat) : Chip :=
  if c.chState n = chIdle ∨ c.corrSrc n ≠ src ∨ u < (c.chan n).at_ then c else (c.chanMove false n u).correlate n y

/-- One sample of a band at the instant `u`. -/
def Chip.bandSample (l1 : Bool) (c : Chip) (u : Nat) (x : Int × Int) : Chip :=
  let (y, c1) := c.bandOut l1 x
  let c2 := (c1.gn.ch.map (·.1)).foldl (Chip.bandChan (if l1 then 1 else 2) u y) c1
  c2.captureBand (if l1 then 0 else 1) u y

/-- The band's samples at instants before `t`, of which `xs` gives the first and the rest are zero. -/
def Chip.bandTo (c : Chip) (l1 : Bool) (xs : List (Int × Int)) (t : Nat) : Chip :=
  let s := bandStep l1
  let a := c.bandAt l1 / s
  let c1 := c.advanceTo t
  let c2 := if c1.bandOn l1 then
      (List.range ((t - 1) / s - a)).foldl (fun c j => c.bandSample l1 ((a + 1 + j) * s) ((xs[j]?).getD (0, 0))) c1
    else c1
  c2.setBandAt l1 (max (c.bandAt l1) (t - 1))

/-- NOTCH_ADAPT (R322, R323): the samples that complete the block of an engaged notch; where it adapts its centre moves. -/
def Chip.notchAdapt (c : Chip) (i : Nat) (xs : List (Int × Int)) : Chip :=
  let l1 := decide (i < 4)
  if !c.bit (F.GN_NOTCH_CTRL_engaged i) || !c.bandOn l1 then c
  else c.bandTo l1 xs ((c.bandAt l1 / bandStep l1 + (1024 - (c.notch i).cnt)) * bandStep l1 + 1)

/-- Bring a channel to the end of its dump: `xs` are the samples of its band that complete it (R333). -/
def Chip.toDump (c : Chip) (n : Nat) (xs : List (Int × Int)) : Chip :=
  match c.dumpAt n with
  | none => c
  | some t => if c.corrSrc n = 3 then c else (c.bandTo (decide (c.corrSrc n = 1)) xs t).chanMove false n t

/-- DUMP (R333, R334, R336): at the end of a code millisecond. -/
def Chip.dump (c : Chip) (n : Nat) (xs : List (Int × Int)) : Chip :=
  if c.chState n = chIdle ∨ (c.chan n).full then c
  else
    let c1 := if (c.chan n).ready.isEmpty then c.toDump n xs else c
    match (c1.chan n).ready with
    | [] => c
    | (s, nz) :: rest => c1.takeDump n s nz rest

/-- The instant after the last band sample that a capture needs (R325). -/
def Chip.captureTo (c : Chip) (l1 : Bool) : Nat :=
  let last := c.gn.acq.startAt + acqSampleRoot * (2 * c.gn.acq.words - 1)
  (last + bandStep l1 - 1) / bandStep l1 * bandStep l1 + 1

/-- CAPTURE_END (R325, R328): the rest of a band's samples, or the last frame of a microphone capture; the search begins. -/
def Chip.captureEnd (c : Chip) (xs : List (Int × Int)) : Chip :=
  if !c.gn.acq.capturing then c
  else
    let l1 := decide (c.gn.acq.src = 0)
    (if c.gn.acq.src = 2 then c else c.bandTo l1 xs (c.captureTo l1)).captureDone

end Sys2Proof.Machine
end

