-- ==== Sys2Proof/Machine/RowsGn.lean ====
section
/-! DEFINITION. RowsGn.lean: the rows of the positioning baseband (chapter 14), each with its effect. -/

namespace Sys2Proof.Machine

/-- The configuration register that a CHANNEL_CONFIG_WRITE names (R338). -/
def chCfgAddr (k : ChCfgReg) (n : Nat) : Nat :=
  match k with
  | .cfg => R.GN_CH_CFG n
  | .space => R.GN_CH_SPACE n
  | .code => R.GN_CH_CODE n
  | .sec => R.GN_CH_SEC n

/-- NOTCH_ADAPT (R323): After each 1,024 output samples an adaptive notch moves its centre. -/
def execNotchAdapt (i : BitVec 3) (xs : List (Int × Int)) (s : State) : Host.Outcome State Fault Refusal :=
  s.act fun c => c.notchAdapt i.toNat xs

/-- NOTCH_DISENGAGE (R324): An auto notch not refreshed for 16 scans disengages. -/
def execNotchDisengage (i : BitVec 3) (s : State) : Host.Outcome State Fault Refusal :=
  s.act fun c => c.notchExpire i.toNat

/-- NOTCH_FREQ_WRITE (R323): A write of GN_NOTCH_FREQ sets the centre and the reference centre. -/
def execNotchFreqWrite (r : Req) (i : BitVec 3) (v : Word) (s : State) : Host.Outcome State Fault Refusal :=
  s.act fun c => c.guarded r (R.GN_NOTCH_FREQ i.toNat) fun c => c.writeNotchFreq i.toNat v

/-- ACQ_GO (R326): A write of GN_ACQ_CTRL.go requests a capture and search or is refused. -/
def execAcqGo (r : Req) (v : Word) (s : State) : Host.Outcome State Fault Refusal :=
  s.act fun c => c.guarded r R.GN_ACQ_CTRL fun c => c.writeAcqCtrl v

/-- ACQ_ABORT (R329): A write of abort ends a capture or search at once. -/
def execAcqAbort (r : Req) (v : Word) (s : State) : Host.Outcome State Fault Refusal :=
  s.act fun c => c.guarded r R.GN_ACQ_CTRL fun c => c.writeAcqCtrl v

/-- CAPTURE_START (R325): At the next millisecond or frame boundary the capture into the acquisition buffer begins. -/
def execCaptureStart (s : State) : Host.Outcome State Fault Refusal :=
  s.act fun c => c.captureStart

/-- CAPTURE_OVERFLOW (R325): A full capture FIFO abandons the capture with ovf. -/
def execCaptureOverflow (s : State) : Host.Outcome State Fault Refusal :=
  s.act fun c => c.captureOverflow

/-- CAPTURE_END (R328): The capture completes and the FFT search begins. -/
def execCaptureEnd (samples : List (Int × Int)) (s : State) : Host.Outcome State Fault Refusal :=
  s.act fun c => c.captureEnd samples

/-- SEARCH_END (R327): The search ends and records the peak of each PRN. -/
def execSearchEnd (sig : BitVec 4) (s : State) : Host.Outcome State Fault Refusal :=
  s.act fun c => c.searchEnd sig.toNat

/-- CHANNEL_START_REQUEST (R331): A write of GN_CH_CTRL.start schedules a channel start or is refused. -/
def execChannelStartRequest (r : Req) (n : Fin 96) (v : Word) (s : State) : Host.Outcome State Fault Refusal :=
  s.act fun c => c.guarded r (R.GN_CH_CTRL n.val) fun c => c.writeChCtrl n.val v

/-- CHANNEL_STOP_REQUEST (R336): A write of GN_CH_CTRL.stop requests a stop at the next dump boundary. -/
def execChannelStopRequest (r : Req) (n : Fin 96) (v : Word) (s : State) : Host.Outcome State Fault Refusal :=
  s.act fun c => c.guarded r (R.GN_CH_CTRL n.val) fun c => c.writeChCtrl n.val v

/-- CHANNEL_START (R331): At its start instant a channel loads its phases and enters PULL. -/
def execChannelStart (n : Fin 96) (s : State) : Host.Outcome State Fault Refusal :=
  s.act fun c => c.chanStart n.val

/-- CHANNEL_STOP (R336): A stopping channel becomes IDLE at its dump boundary. -/
def execChannelStop (n : Fin 96) (s : State) : Host.Outcome State Fault Refusal :=
  s.act fun c => c.chanStop n.val

/-- DUMP (R333): Each code millisecond a channel's correlators dump their sums. -/
def execDump (n : Fin 96) (xs : List (Int × Int)) (s : State) : Host.Outcome State Fault Refusal :=
  s.act fun c => c.dump n.val xs

/-- INTEGRATION_END (R335): At the end of acc dumps the loops update and the lock detector judges the state. -/
def execIntegrationEnd (n : Fin 96) (s : State) : Host.Outcome State Fault Refusal :=
  s.act fun c => c.integrationEnd n.val

/-- PULL_TIMEOUT (R336): A channel still in PULL after coast ms becomes IDLE with fail. -/
def execPullTimeout (n : Fin 96) (s : State) : Host.Outcome State Fault Refusal :=
  s.act fun c => c.pullTimeout n.val

/-- COAST_TIMEOUT (R336): A channel in LOST for coast ms becomes IDLE. -/
def execCoastTimeout (n : Fin 96) (s : State) : Host.Outcome State Fault Refusal :=
  s.act fun c => c.coastTimeout n.val

/-- CHANNEL_CONFIG_WRITE (R338): A write to a channel's configuration is accepted only in IDLE. -/
def execChannelConfigWrite (r : Req) (n : Fin 96) (k : ChCfgReg) (v : Word) (s : State) : Host.Outcome State Fault Refusal :=
  s.act fun c => c.guarded r (chCfgAddr k n.val) fun c => c.writeChCfg n.val (chCfgAddr k n.val) v

/-- EPOCH (R339): At each measurement epoch every channel's record and the STC are latched. -/
def execEpoch (s : State) : Host.Outcome State Fault Refusal :=
  s.act fun c => c.epoch

/-- EPOCH_RATE_APPLY (R339): A written epoch rate applies from the next whole second. -/
def execEpochRateApply (s : State) : Host.Outcome State Fault Refusal :=
  s.act fun c => c.epochRate

end Sys2Proof.Machine
end

