-- ==== Sys2Proof/Machine/HostIf.lean ====
section
/-! DEFINITION. HostIf.lean: the host interface (R445 to R454): transactions, the write buffer, read cells, STATUS and HIRQ_N. -/

namespace Sys2Proof.Machine

def Chip.setHif (c : Chip) (f : HifSt → HifSt) : Chip := { c with hif := f c.hif }

/-- Does the host interface answer: it has left reset, or the device sleeps or wakes (R383, R431, R452)? -/
def Chip.hifUp (c : Chip) : Bool := c.time.rootOn || decide (c.get F.PWR_STAT_state = 3) || decide (c.get F.PWR_STAT_state = 4)

/-! ## The write buffer (R451) -/

/-- A word arrives; at a full buffer it is discarded. -/
def Chip.hostWord (c : Chip) (w : HostWord) : Chip :=
  if c.hif.buf.length < 64 then c.setHif fun h => { h with buf := h.buf ++ [w] } else c.latch F.HIF_STAT_wovf

/-- The end of a write transaction: 1 to 7 clocks of a word are discarded. -/
def Chip.hostTail (c : Chip) (tail : Nat) : Chip := if 0 < tail ∧ tail < 8 then c.latch F.HIF_STAT_short else c

/-- The address of word `i` of a transaction (R448). -/
def wordAddr (addr : Word) (fixed : Bool) (i : Nat) : Nat := if fixed then addr.toNat else (addr.toNat + 4 * i) % 2 ^ 32

/-- WRITE and WRITE FIXED. -/
def Chip.hostWrites (c : Chip) (addr : Word) (fixed : Bool) (ws : List Word) (tail : Nat) : Chip :=
  if !c.hifUp then c
  else (((List.range ws.length).zip ws).foldl (fun c e => c.hostWord (.to (wordAddr addr fixed e.1) e.2)) c).hostTail tail

/-- STREAM (R454). -/
def Chip.hostStream (c : Chip) (ws : List Word) (tail : Nat) : Chip :=
  if !c.hifUp then c else (ws.foldl (fun c w => c.hostWord (.stream w)) c).hostTail tail

/-! ## Draining -/

/-- A refused word: `err`, and its address where `err` was 0 (R448). -/
def Chip.hostErr (c : Chip) (a : Nat) : Chip :=
  (if c.bit F.HIF_STAT_err then c else c.wr R.HIF_ERR_ADDR (BitVec.ofNat 32 a)).latch F.HIF_STAT_err

/-- Does a host write wait in the pasture window's queue? -/
def Chip.hostWaits (c : Chip) : Bool := c.pas.queue.any fun q => match q.2 with
  | .hostWrite _ => true
  | _ => false

/-- A host word meets its target. -/
def Chip.hostStore (c : Chip) (a : Nat) (v : Word) : Chip :=
  if inPasture a then
    match c.gateOf .host true a 4 with
    | .accept => { c with pas := { c.pas with queue := c.pas.queue ++ [((a - 0x10000000) / 4, .hostWrite v)] } }
    | .refuse => (c.refused .host true a).hostErr a
    | .silent => c.hostErr a
  else
    let (ok, c1) := c.busWrite .host a v
    if ok then c1 else c1.hostErr a

/-- A word of the stream region (R454). -/
def Chip.hostStreamStore (c : Chip) (v : Word) : Chip :=
  if !c.bit F.HIF_STRM_CTRL_en then c.latch F.HIF_STAT_err
  else
    let ptr := c.get F.HIF_STRM_PTR_ptr
    let c1 := c.hostStore (c.get F.HIF_STRM_BASE_base * 4 + 4 * ptr) v
    (c1.put F.HIF_STRM_PTR_ptr ((ptr + 1) % max 1 (c1.get F.HIF_STRM_LEN_len))).incr F.HIF_STRM_CNT_cnt

/-- BUFFER_DRAIN: the oldest word leaves for its target, once the one before has been taken. -/
def Chip.bufferDrain (c : Chip) : Chip :=
  if c.hostWaits then c
  else match c.hif.buf with
    | [] => c
    | w :: rest =>
      let c1 := c.setHif fun h => { h with buf := rest }
      match w with
      | .to a v => c1.hostStore a v
      | .stream v => c1.hostStreamStore v

/-! ## Read cells (R449, R450) -/

def Chip.addCell (c : Chip) (x : Cell) : Chip := c.setHif fun h => { h with cells := h.cells ++ [x] }

/-- The cell in progress waits for its word. -/
def Chip.cellWaits (c : Chip) : Bool := match c.hif.cells.getLast? with
  | some (.wait _) => true
  | _ => false

/-- The next cell begins, and its read is issued. -/
def Chip.nextCell (c : Chip) : Chip :=
  let (a, n, fixed) := c.hif.todo
  let c1 := c.setHif fun h => { h with todo := (if fixed then a else (a + 4) % 2 ^ 32, n - 1, fixed) }
  if inPasture a then
    match c1.gateOf .host false a 4 with
    | .accept =>
      let id := c1.hif.rid + 1
      let c2 := (c1.setHif fun h => { h with rid := id }).addCell (.wait a)
      { c2 with pas := { c2.pas with queue := c2.pas.queue ++ [((a - 0x10000000) / 4, .hostRead id)] } }
    | .refuse => ((c1.refused .host false a).hostErr a).addCell .error
    | .silent => (c1.hostErr a).addCell .error
  else
    let (ok, v, c2) := c1.busRead .host a
    if ok then (c2.keepRead .host v).addCell (.word v) else (c2.hostErr a).addCell .error

/-- The read of a cell that has ended takes its effect at the target, and its value is discarded (R449, R450). -/
def Chip.lateRead (c : Chip) (a : Nat) (rest : List Nat) : Chip :=
  let c1 := c.setHif fun h => { h with late := rest }
  if inPasture a then
    match c1.gateOf .host false a 4 with
    | .accept =>
      let id := c1.hif.rid + 1
      let c2 := c1.setHif fun h => { h with rid := id }
      { c2 with pas := { c2.pas with queue := c2.pas.queue ++ [((a - 0x10000000) / 4, .hostRead id)] } }
    | .refuse => (c1.refused .host false a).hostErr a
    | .silent => c1.hostErr a
  else
    let (ok, _, c2) := c1.busRead .host a
    if ok then c2 else c2.hostErr a

/-- A read transaction goes on while it can: first earlier writes reach their targets (R451), then cells follow one another. Each is an
access of its own, so what it raises is routed before the next (R276, R280). -/
def Chip.hostRun : Nat → Chip → Chip
  | 0, c => c
  | fuel + 1, c =>
    if c.hostWaits || c.cellWaits || (c.hif.todo.2.1 == 0 && c.hif.late.isEmpty) then c
    else if !c.hif.buf.isEmpty then Chip.hostRun fuel c.bufferDrain.flush
    else match c.hif.late with
      | a :: rest => Chip.hostRun fuel (c.lateRead a rest).flush
      | [] => Chip.hostRun fuel c.nextCell.flush

/-- The cell in progress begins now, and the transaction goes on. -/
def Chip.hostGo (c : Chip) : Chip :=
  Chip.hostRun (c.hif.buf.length + c.hif.late.length + c.hif.todo.2.1) (c.setHif fun h => { h with cellAt := c.now })

/-- Reads whose cells have begun and that still wait for earlier writes: those already ended, and the cell in progress (R449, R451). -/
def Chip.heldReads (c : Chip) : List Nat :=
  c.hif.late ++ (if !c.cellWaits && decide (0 < c.hif.todo.2.1) then [c.hif.todo.1] else [])

/-- READ and READ FIXED: `n` cells begin. A word that an earlier transaction still waits for is discarded. -/
def Chip.hostReads (c : Chip) (addr : Word) (fixed : Bool) (n : Nat) : Chip :=
  if !c.hifUp then c
  else (c.setHif fun h =>
    { h with cells := [], todo := (addr.toNat, n, fixed), rid := h.rid + 1, late := c.heldReads }).hostGo

/-- A window word that the cell in progress waits for has been served. -/
def Chip.hostServed (c : Chip) (id : Nat) (v : Word) : Chip :=
  if c.hif.rid = id ∧ c.cellWaits then
    ((c.setHif fun h => { h with cells := h.cells.dropLast ++ [.word v] }).keepRead .host v).hostGo
  else c

/-- `tmo`, and the address where `err` and `tmo` were both 0 (R450). -/
def Chip.hostTmo (c : Chip) (a : Nat) : Chip :=
  (if c.bit F.HIF_STAT_err || c.bit F.HIF_STAT_tmo then c else c.wr R.HIF_ERR_ADDR (BitVec.ofNat 32 a)).latch F.HIF_STAT_tmo

/-- The first root cycle in which the cell in progress can have sent its wait bytes: two clocks each, at 104 MHz or less (R445, R450).
A `wmax` of 0 acts as 1. -/
def Chip.cellEnd (c : Chip) : Nat := c.hif.cellAt + (max (c.get F.HIF_CFG_wmax) 1 * 18432 + 324) / 325

/-- The cell in progress ends with an error, its value is discarded, and the next cell begins. A cell can also wait for earlier
writes, before its read is issued: the read then still comes. -/
def Chip.cellOver (c : Chip) : Chip :=
  let (a, n, fixed) := c.hif.todo
  match c.hif.cells.getLast? with
  | some (.wait b) =>
    ((c.setHif fun h => { h with cells := h.cells.dropLast ++ [.error], rid := h.rid + 1 }).hostTmo b).hostGo
  | _ =>
    ((c.setHif fun h => { h with
      cells := h.cells ++ [.error], todo := (if fixed then a else (a + 4) % 2 ^ 32, n - 1, fixed), late := h.late ++ [a] }).hostTmo
        a).hostGo

/-- Is a cell in progress? -/
def Chip.cellOpen (c : Chip) : Bool := c.cellWaits || decide (0 < c.hif.todo.2.1)

/-- CELL_TIMEOUT (R450): no earlier than the wait bytes take, where no frame boundary lies before. -/
def Chip.cellTimeout (c : Chip) : Chip :=
  if !c.cellOpen || (c.framesRun && decide (c.boundaryRoot < c.cellEnd)) then c else (c.advanceTo c.cellEnd).cellOver

/-! ## HIRQ_N and STATUS (R452, R453) -/

/-- Is HIRQ_N driven low? -/
def Chip.hirq (c : Chip) : Bool :=
  c.time.rootOn && decide (c.get F.PWR_STAT_state ≠ 3) &&
    (c.hostSummary || decide (c.rd R.HIF_STAT &&& c.rd R.HIF_IRQ_EN &&& 0x1F ≠ 0) ||
      (c.bit F.HIF_IRQ_EN_mbox && c.bit (F.SHP_MB_STAT_done 0)))

/-- STATUS. Before the host interface leaves reset the pins stay undriven. -/
def Chip.hostStatus (c : Chip) : Chip :=
  if !c.hifUp then c
  else
    let st := c.get F.PWR_STAT_state
    let b0 := b2n c.hirq + 2 * c.get F.HIF_STAT_err + 4 * c.get F.HIF_STAT_wovf + 8 * c.get F.HIF_STAT_tmo +
      16 * c.get F.HIF_STAT_short + 32 * st
    let b1 := if st = 3 then 64 else 64 - c.hif.buf.length
    let b2 := if st = 3 then 0 else c.get F.SHP_STAT_phase
    c.setHif fun h => { h with status := [b0, b1, b2, 0x5C].map (BitVec.ofNat 8) }

/-- Command bytes of R447. -/
def hostCodes : List Byte := [0x02, 0x22, 0x0B, 0x2B, 0x32, 0x05]

/-- BAD_COMMAND: a command byte outside the table. -/
def Chip.badCommand (c : Chip) (code : Byte) : Chip :=
  if !c.hifUp || hostCodes.contains code then c else c.latch F.HIF_STAT_badcmd

end Sys2Proof.Machine
end

