-- ==== Sys2Proof/Machine/RowsHost.lean ====
section
/-! DEFINITION. RowsHost.lean: the rows of the host interface (chapter 19), each with its effect. -/

namespace Sys2Proof.Machine

/-- WRITE (R447): The host command writes data words at incrementing addresses. -/
def execWrite (addr : Word) (ws : List Word) (tail : Nat) (s : State) : Host.Outcome State Fault Refusal :=
  s.act fun c => c.hostWrites addr false ws tail

/-- WRITE_FIXED (R447): The host command writes data words to one address. -/
def execWriteFixed (addr : Word) (ws : List Word) (tail : Nat) (s : State) : Host.Outcome State Fault Refusal :=
  s.act fun c => c.hostWrites addr true ws tail

/-- READ (R449): The host command reads cells at incrementing addresses. -/
def execRead (addr : Word) (n : Nat) (s : State) : Host.Outcome State Fault Refusal :=
  s.act fun c => c.hostReads addr false n

/-- READ_FIXED (R449): The host command reads cells from one address. -/
def execReadFixed (addr : Word) (n : Nat) (s : State) : Host.Outcome State Fault Refusal :=
  s.act fun c => c.hostReads addr true n

/-- STREAM (R454): The host command writes words into the stream region. -/
def execStream (ws : List Word) (tail : Nat) (s : State) : Host.Outcome State Fault Refusal :=
  s.act fun c => c.hostStream ws tail

/-- STATUS (R452): The host command returns the four status bytes. -/
def execStatus (s : State) : Host.Outcome State Fault Refusal :=
  s.act fun c => c.hostStatus

/-- BAD_COMMAND (R447): An unknown command byte sets badcmd and the transaction is ignored. -/
def execBadCommand (code : Byte) (s : State) : Host.Outcome State Fault Refusal :=
  s.act fun c => c.badCommand code

/-- CELL_TIMEOUT (R450): A read cell reaching wmax wait bytes ends with an error token. -/
def execCellTimeout (s : State) : Host.Outcome State Fault Refusal :=
  s.act fun c => c.cellTimeout

/-- BUFFER_DRAIN (R451): A host write word leaves the write buffer to its target. -/
def execBufferDrain (s : State) : Host.Outcome State Fault Refusal :=
  s.act fun c => c.bufferDrain

/-- STREAM_ENABLE (R454): A write of HIF_STRM_CTRL.en checks the stream region and enables it or sets cfg_err. -/
def execStreamEnable (r : Req) (v : Word) (s : State) : Host.Outcome State Fault Refusal :=
  s.act fun c => c.guarded r R.HIF_STRM_CTRL fun c => c.writeStrmCtrl v

end Sys2Proof.Machine
end

