-- ==== Sys2Proof/Machine/RowsLink.lean ====
section
/-! DEFINITION. RowsLink.lean: the rows of the flenan link (chapter 15), each with its effect. -/

namespace Sys2Proof.Machine

/-- LINK_CONTROL_APPLY (R365): LNK_CTRL writes apply at the next superframe boundary and change link state. -/
def execLinkControlApply (s : State) : Host.Outcome State Fault Refusal :=
  s.act fun c => c.lnkApply.audStart

/-- BEACON (R366): A decoded beacon sets d2, the next plan, grants, probe and hop announcements. -/
def execBeacon (b : BurstRx) (s : State) : Host.Outcome State Fault Refusal :=
  s.act fun c => c.beacon b

/-- AUDIO_BURST (R380): A received audio burst is rebuilt and written to the link receive paddock. -/
def execAudioBurst (b : BurstRx) (s : State) : Host.Outcome State Fault Refusal :=
  s.act fun c => c.audioBurst b

/-- UPLINK (R371): A decoded uplink yields d4 at the bellwether and bwm reports at any node. -/
def execUplink (b : BurstRx) (s : State) : Host.Outcome State Fault Refusal :=
  s.act fun c => c.uplink b

/-- JOIN_REQUEST (R367): The bellwether decodes a join request and assigns a node number. -/
def execJoinRequest (b : BurstRx) (s : State) : Host.Outcome State Fault Refusal :=
  s.act fun c => c.joinRequest b

/-- STRAY_UNIT (R374): A measured unit is judged as a stray unit, and a stray closes at the next clean unit. -/
def execStrayUnit (m : StrayMeas) (s : State) : Host.Outcome State Fault Refusal :=
  s.act fun c => c.strayUnit m

/-- BEACON_SEND (R362): The bellwether posts its beacon for the beacon run. -/
def execBeaconSend (s : State) : Host.Outcome State Fault Refusal :=
  s.act fun c => c.beaconSend

/-- AUDIO_MULTICAST_SEND (R379): The bellwether posts the previous superframe's audio in its multicast run. -/
def execAudioMulticastSend (s : State) : Host.Outcome State Fault Refusal :=
  s.act fun c => c.audioSend

/-- UPLINK_SEND (R362): A member posts its uplink in its run. -/
def execUplinkSend (s : State) : Host.Outcome State Fault Refusal :=
  s.act fun c => c.uplinkSend

/-- JOIN_REQUEST_SEND (R368): A joining node sends a join request after its backoff in a contention run. -/
def execJoinRequestSend (unit : BitVec 7) (heard : UnitHeard) (s : State) : Host.Outcome State Fault Refusal :=
  s.act fun c => c.joinSend unit.toNat heard.power.toNat heard.own

/-- JOIN_BACKOFF (R368): Four beacons without a grant double the window and redraw the backoff. -/
def execJoinBackoff (s : State) : Host.Outcome State Fault Refusal :=
  s.act fun c => c.joinBackoff

/-- MEMBER_DROP (R369): lost_n superframes without an uplink drop a member. -/
def execMemberDrop (k : BitVec 5) (s : State) : Host.Outcome State Fault Refusal :=
  s.act fun c => c.memberDrop k.toNat

/-- BEACON_LOSS (R370): bl_n missed beacons in a row change link state. -/
def execBeaconLoss (s : State) : Host.Outcome State Fault Refusal :=
  s.act fun c => c.beaconLoss

/-- CHANNEL_SCAN_STEP (R365): With scan set, 64 superframes without a beacon step the SEARCH channel. -/
def execChannelScanStep (s : State) : Host.Outcome State Fault Refusal :=
  s.act fun c => c.scanStep

/-- HOLD_EXPIRY (R365): hold superframes in HOLD return the node to SEARCH without a number. -/
def execHoldExpiry (s : State) : Host.Outcome State Fault Refusal :=
  s.act fun c => c.holdExpiry

/-- HOP_REQUEST (R376): A write of LNK_HOP.go at the bellwether requests a hop at sfn plus lead. -/
def execHopRequest (r : Req) (v : Word) (s : State) : Host.Outcome State Fault Refusal :=
  s.act fun c => c.guarded r R.LNK_HOP fun c => c.writeHop v

/-- HOP (R376): At the hop superframe a node changes its link channel. -/
def execHop (s : State) : Host.Outcome State Fault Refusal :=
  s.act fun c => c.hop

end Sys2Proof.Machine
end

