-- ==== Sys2Proof/Machine/Window.lean ====
section
/-! DEFINITION. Window.lean: gap slots of the pasture (R186, R187): what each grant serves. -/

namespace Sys2Proof.Machine

/-- The window word that a crook load waits for. -/
def Chip.crookServed (c : Chip) (i : Nat) (v : Word) : Chip :=
  { c with crook := { c.crook with loads := c.crook.loads.mapIdx fun j l => if j = i then { l with val := some v } else l } }

/-- The first request that waits for a logical bank. -/
def PasSt.headOf (p : PasSt) (lb : Nat) : Option (Nat × WinReq) := p.queue.find? fun q => decide (q.1 / bankWords = lb)

/-- The queue without a bank's first request. -/
def dropHead (lb : Nat) : List (Nat × WinReq) → List (Nat × WinReq)
  | [] => []
  | q :: l => if q.1 / bankWords = lb then l else q :: dropHead lb l

/-- Serve one window word of logical bank `lb`, held by physical bank `b`, at bank cycle `k`. -/
def Chip.serveWord (c : Chip) (k lb b w : Nat) (r : WinReq) : Chip :=
  let read := c.pasRead 1 k lb b w
  match r with
  | .crookLoad i => read.2.2.crookServed i read.1
  | .hostRead id => read.2.2.hostServed id read.1
  | .dmaRead n id i snd => read.2.2.dmaWindowRead n id i snd read.2.1 read.1
  | .crookStore i =>
    match c.crook.stores[i]? with
    | none => c
    | some s =>
      let c1 := c.pasWrite k lb b w (BitVec.ofNat 32 s.val)
      { c1 with crook := { c1.crook with stores := c1.crook.stores.set i { s with done := true } } }
  | .hostWrite v => (c.pasWrite k lb b w v).hostGo
  | .dmaWrite n id v => (c.pasWrite k lb b w v).dmaWindowWrite n id
  | .acqWrite v => c.pasWrite k lb b w v
  | .linkWrite v => c.pasWrite k lb b w v
  | .linkRead i => read.2.2.linkServed i read.1

/-- GAP_SLOT_GRANT (R186, R187): a gap slot of a logical bank at bank cycle `k`. -/
def Chip.gapGrant (c : Chip) (lb k : Nat) : Chip :=
  match c.physOf lb with
  | none => c
  | some b =>
    if !c.gapOpen lb k then c
    else match c.gapPick lb b with
      | none => c
      | some cls =>
        let c1 := c.setPas fun p => { p with lastGrant := KMap.set 2 lb cls p.lastGrant }
        (if cls = 0 then
          match c1.pas.headOf lb with
          | some q => (c1.setPas fun p => { p with queue := dropHead lb p.queue }).serveWord k lb b (q.1 % bankWords) q.2
          | none => c1
        else if cls = 1 then
          match c1.pas.sweeping lb with
          | some m => c1.grantSweep k m
          | none => c1
        else c1.grantScrub k lb b).restamp c.evt.batch.length (c.cycleRoot k)

end Sys2Proof.Machine
end

