-- ==== Sys2Proof/Machine/RowsPasture.lean ====
section
/-! DEFINITION. RowsPasture.lean: the rows of the pasture and of the coefficient store (chapter 08), each with its effect. -/

namespace Sys2Proof.Machine

/-- SCRUB_REQUEST (R182): Every 16 × per cycles the scrubber requests one row read in each bank. -/
def execScrubRequest (s : State) : Host.Outcome State Fault Refusal :=
  s.act fun c => c.scrubRequest

/-- GAP_SLOT_GRANT (R186): In a gap slot the bank cycle is granted round robin to a window, sweep or scrub request. -/
def execGapSlotGrant (lb : Fin 48) (cycle : Nat) (s : State) : Host.Outcome State Fault Refusal :=
  s.act fun c => c.gapGrant lb.val cycle

/-- MIRROR_START (R192): At D a due bank rotation starts write-through and the sweep to the spare bank. -/
def execMirrorStart (s : State) : Host.Outcome State Fault Refusal :=
  s.act fun c => c.mirrorStart

/-- BANK_SWAP (R192): At the first boundary after the sweep the logical bank maps to the spare and the old bank enters test. -/
def execBankSwap (s : State) : Host.Outcome State Fault Refusal :=
  s.act fun c => c.bankSwap

/-- COMMIT (R199): A CO_COMMIT write with at_time 0 requests an untimed commit of a group. -/
def execCommit (r : Req) (v : Word) (s : State) : Host.Outcome State Fault Refusal :=
  s.act fun c => c.guarded r R.CO_COMMIT fun c => c.writeCommit v

/-- TIMED_COMMIT (R200): A CO_COMMIT write with at_time 1 requests a commit at the boundary of CO_AT. -/
def execTimedCommit (r : Req) (v : Word) (s : State) : Host.Outcome State Fault Refusal :=
  s.act fun c => c.guarded r R.CO_COMMIT fun c => c.writeCommit v

/-- COMMIT_LAND (R202): At its boundary a pending commit copies shadows to active copies or starts glides. -/
def execCommitLand (s : State) : Host.Outcome State Fault Refusal :=
  s.act fun c => c.commitLand

/-- GLIDE_END (R204): A glide reaching its 2^k-th step takes its target and its slot becomes idle. -/
def execGlideEnd (slot : BitVec 12) (s : State) : Host.Outcome State Fault Refusal :=
  s.act fun c => c.glideEnd slot.toNat

/-- GROUP_DESCRIPTOR_WRITE (R198): A write to a group descriptor is refused while the group has a commit pending. -/
def execGroupDescriptorWrite (r : Req) (g : BitVec 8) (len : Bool) (v : Word) (s : State) : Host.Outcome State Fault Refusal :=
  s.act fun c => c.guarded r (if len then R.CO_GRP_LEN g.toNat else R.CO_GRP_BASE g.toNat) fun c => c.writeGroup g.toNat len v

/-- GLIDE_DATA_WRITE (R206): A write of CO_GLIDE_DATA sets an idle slot, is refused on a busy one, and may advance slot. -/
def execGlideDataWrite (r : Req) (v : Word) (s : State) : Host.Outcome State Fault Refusal :=
  s.act fun c => c.guarded r R.CO_GLIDE_DATA fun c => c.writeGlideData v

/-- GLIDE_DATA_READ (R206): A read of CO_GLIDE_DATA with ainc set advances the selected slot. -/
def execGlideDataRead (r : Req) (s : State) : Host.Outcome State Fault Refusal :=
  s.act fun c => c.readTo r R.CO_GLIDE_DATA

end Sys2Proof.Machine
end

