-- ==== Sys2Proof/Machine/RowsPorts.lean ====
section
/-! DEFINITION. RowsPorts.lean: the rows of the serial audio ports (chapter 09), each with its effect. -/

namespace Sys2Proof.Machine

/-- GROUP_HALT (R211): A write of 1 to PRT_GRP_CTRL.halt is accepted or refused. -/
def execGroupHalt (r : Req) (g : BitVec 3) (s : State) : Host.Outcome State Fault Refusal :=
  s.act fun c => c.guarded r (R.PRT_GRP_CTRL g.toNat) fun c => c.writeHalt g.toNat (F.PRT_GRP_CTRL_halt g.toNat).mask

/-- GROUP_RELEASE (R211): A write of 0 to PRT_GRP_CTRL.halt requests a release or cancels a pending halt. -/
def execGroupRelease (r : Req) (g : BitVec 3) (s : State) : Host.Outcome State Fault Refusal :=
  s.act fun c => c.guarded r (R.PRT_GRP_CTRL g.toNat) fun c => c.writeHalt g.toNat 0

/-- GROUP_HALT_EFFECT (R211): An accepted halt stops the group's clocks at its boundary. -/
def execGroupHaltEffect (g : BitVec 3) (s : State) : Host.Outcome State Fault Refusal :=
  s.act fun c => c.haltEffect g.toNat

/-- GROUP_RELEASE_EFFECT (R211): A released group restarts its clocks or frame search at its boundary. -/
def execGroupReleaseEffect (g : BitVec 3) (s : State) : Host.Outcome State Fault Refusal :=
  s.act fun c => c.releaseEffect g.toNat

/-- FRAME_START (R213): A slave group detects a frame start on FSY and checks it against the prediction. -/
def execFrameStart (g : BitVec 3) (bits : Nat) (phase : Word16) (s : State) : Host.Outcome State Fault Refusal :=
  s.act fun c => c.frameStart g.toNat bits phase.toNat

/-- SLAVE_CLOCK_LOSS (R214): No frame start for 250 µs clears clk_ok and stops the serial side. -/
def execSlaveClockLoss (g : BitVec 3) (s : State) : Host.Outcome State Fault Refusal :=
  s.act fun c => c.clockLoss g.toNat

/-- ASRC_LOCK_CHANGE (R222): A converter gains or loses lock on the measured FSY ratio. -/
def execAsrcLockChange (g : BitVec 3) (locked : Bool) (ratio : Word) (s : State) : Host.Outcome State Fault Refusal :=
  s.act fun c => c.asrcLock g.toNat locked ratio

/-- SERIAL_WORD (R217): An enabled slot word completes or begins on a lane's serial side. -/
def execSerialWord (n : BitVec 5) (slot : BitVec 4) (w : Word) (s : State) : Host.Outcome State Fault Refusal :=
  s.act fun c => c.serialWord n.toNat slot.toNat w

/-- LANE_FILL_REACHED (R221): A waiting slip-capable lane reaches its fill level and begins to pass words. -/
def execLaneFillReached (n : BitVec 5) (s : State) : Host.Outcome State Fault Refusal :=
  s.act fun c => c.lanePass n.toNat

/-- MASK_WRITE (R226): A write of PRT_LANE_MASK.mask is accepted or refused. -/
def execMaskWrite (r : Req) (n : BitVec 5) (v : Word) (late : Bool) (s : State) : Host.Outcome State Fault Refusal :=
  s.act fun c => c.guarded r (R.PRT_LANE_MASK n.toNat) fun c => c.writeMask n.toNat v late

/-- MASK_APPLY (R225): An accepted mask takes effect from its serial frame. -/
def execMaskApply (n : BitVec 5) (s : State) : Host.Outcome State Fault Refusal :=
  s.act fun c => c.maskApply n.toNat

/-- LANE_START_REQUEST (R227): A write of PRT_LANE_CTRL.start on a stopped lane schedules its start. -/
def execLaneStartRequest (r : Req) (n : BitVec 5) (v : Word) (s : State) : Host.Outcome State Fault Refusal :=
  s.act fun c => c.guarded r (R.PRT_LANE_CTRL n.toNat) fun c => c.writeLaneCtrl n.toNat v

/-- LANE_START (R227): At its boundary a lane clears its buffer and starts. -/
def execLaneStart (n : BitVec 5) (s : State) : Host.Outcome State Fault Refusal :=
  s.act fun c => c.laneStart n.toNat

/-- LANE_STOP_REQUEST (R228): A write of PRT_LANE_CTRL.stop schedules a stop or cancels a pending start. -/
def execLaneStopRequest (r : Req) (n : BitVec 5) (v : Word) (s : State) : Host.Outcome State Fault Refusal :=
  s.act fun c => c.guarded r (R.PRT_LANE_CTRL n.toNat) fun c => c.writeLaneCtrl n.toNat v

/-- LANE_STOP (R228): At its boundary a lane stops and its buffer is discarded. -/
def execLaneStop (n : BitVec 5) (s : State) : Host.Outcome State Fault Refusal :=
  s.act fun c => c.laneStop n.toNat

/-- ALIGN_GO (R230): A write of PRT_ALIGN_CTRL_a.go requests a triggered start or is refused. -/
def execAlignGo (r : Req) (a : BitVec 3) (v : Word) (s : State) : Host.Outcome State Fault Refusal :=
  s.act fun c => c.guarded r (R.PRT_ALIGN_CTRL a.toNat) fun c => c.writeAlign a.toNat v

/-- TRIGGERED_START (R230): At the trigger boundary every lane of the alignment group starts and lost clears. -/
def execTriggeredStart (a : BitVec 3) (s : State) : Host.Outcome State Fault Refusal :=
  s.act fun c => c.trigStart a.toNat

/-- ALIGN_STOP (R231): A write of PRT_ALIGN_CTRL_a.stop stops the group's lanes and cancels a pending trigger. -/
def execAlignStop (r : Req) (a : BitVec 3) (v : Word) (s : State) : Host.Outcome State Fault Refusal :=
  s.act fun c => c.guarded r (R.PRT_ALIGN_CTRL a.toNat) fun c => c.writeAlign a.toNat v

end Sys2Proof.Machine
end

