-- ==== Sys2Proof/Machine/RowsPower.lean ====
section
/-! DEFINITION. RowsPower.lean: the rows of power and reset (chapter 18), each with its effect. -/

namespace Sys2Proof.Machine

/-- SLEEP_COMMAND (R430): A host write of PWR_CMD.sleep is accepted into ENTERING or refused. -/
def execSleepCommand (r : Req) (v : Word) (s : State) : Host.Outcome State Fault Refusal :=
  s.act fun c => c.guarded r R.PWR_CMD fun c => c.writePwrCmd r v

/-- SLEEP_ENTRY (R431): At Q the crook, engines, DMA, GN and link stop and the wake record is hashed. -/
def execSleepEntry (s : State) : Host.Outcome State Fault Refusal :=
  s.act fun c => c.sleepEntry

/-- SLEEP_ENTERED (R431): The root is switched off, the STC recorded and the state becomes SLEEP. -/
def execSleepEntered (s : State) : Host.Outcome State Fault Refusal :=
  s.act fun c => c.sleepEntered

/-- WAKE (R433): WAKE_IN and PWR_GOOD high at a CLK32K edge start the wake. -/
def execWake (s : State) : Host.Outcome State Fault Refusal :=
  s.act fun c => c.wake

/-- WAKE_DIGEST (R406): On wake the digest is recomputed and the gate restored, or a full start runs. -/
def execWakeDigest (s : State) : Host.Outcome State Fault Refusal :=
  s.act fun c => c.wakeDigest

/-- WAKE_APPLY (R433): At B_w the kept fold is applied without checks and zeroing begins. -/
def execWakeApply (s : State) : Host.Outcome State Fault Refusal :=
  s.act fun c => c.wakeApply

/-- RUN_READY (R433): At R_w engines start and the state becomes RUN. -/
def execRunReady (s : State) : Host.Outcome State Fault Refusal :=
  s.act fun c => c.runReady

/-- ALARM (R435): PWR_TMR reaching PWR_ALARM sets alarm and drives WAKE_OUT. -/
def execAlarm (s : State) : Host.Outcome State Fault Refusal :=
  s.act fun c => c.alarm

/-- POWER_ON_RESET (R436): The retention supply rising resets every domain. -/
def execPowerOnReset (s : State) : Host.Outcome State Fault Refusal :=
  s.act fun c => c.supplyRise

/-- RETENTION_SUPPLY_LOSS (R428): The retention supply falling takes the device to OFF and loses every retained content. -/
def execRetentionSupplyLoss (s : State) : Host.Outcome State Fault Refusal :=
  s.act fun c => c.supplyFall

/-- RST_N_RESET (R436): RST_N low for 1 µs resets shepherd and core domains. -/
def execRstNReset (s : State) : Host.Outcome State Fault Refusal :=
  s.act fun c => c.rstFall

/-- RST_N_RELEASE (R436): The rise of RST_N after an RST_N reset, or as the later release after power-on, starts the start
sequence of R383 at t0. -/
def execRstNRelease (s : State) : Host.Outcome State Fault Refusal :=
  s.act fun c => c.rstRise

/-- PWR_GOOD_RESET (R436): PWR_GOOD low outside SLEEP resets shepherd and core domains. -/
def execPwrGoodReset (s : State) : Host.Outcome State Fault Refusal :=
  s.act fun c => c.pgFall

/-- PWR_GOOD_RELEASE (R436): The rise of PWR_GOOD after a PWR_GOOD reset, or as the later release after power-on, starts the
start sequence of R383 at t0. -/
def execPwrGoodRelease (s : State) : Host.Outcome State Fault Refusal :=
  s.act fun c => c.pgRise

/-- HOST_SOFT_RESET (R436): The host key written to PWR_RESET resets shepherd and core domains. -/
def execHostSoftReset (r : Req) (v : Word) (s : State) : Host.Outcome State Fault Refusal :=
  s.act fun c => c.guarded r R.PWR_RESET fun c => c.writePwrReset r v

/-- PWR_OVERTEMP (R444): The die sensor reaching the threshold makes PWR_OVERTEMP active. -/
def execPwrOvertemp (temp : BitVec 12) (s : State) : Host.Outcome State Fault Refusal :=
  s.act fun c => c.overtemp temp

/-- OVERTEMP_END (R444): The sensor falling 3 °C below the threshold ends PWR_OVERTEMP. -/
def execOvertempEnd (temp : BitVec 12) (s : State) : Host.Outcome State Fault Refusal :=
  s.act fun c => c.overtempEnd temp

end Sys2Proof.Machine
end

