-- ==== Sys2Proof/Machine/RowsRf.lean ====
section
/-! DEFINITION. RowsRf.lean: the rows of the RF front end (chapter 13), each with its effect. -/

namespace Sys2Proof.Machine

/-- ADC_ENABLE (R295): Setting RF_CTRL.adc_en starts the ADC and the receive side in START. -/
def execAdcEnable (r : Req) (v : Word) (s : State) : Host.Outcome State Fault Refusal :=
  s.act fun c => c.guarded r R.RF_CTRL fun c => c.writeRfCtrl v

/-- ADC_DISABLE (R313): Clearing adc_en turns the receive side OFF. -/
def execAdcDisable (r : Req) (v : Word) (s : State) : Host.Outcome State Fault Refusal :=
  s.act fun c => c.guarded r R.RF_CTRL fun c => c.writeRfCtrl v

/-- TX_ENABLE (R305): Setting RF_CTRL.tx_en starts the synthesiser. -/
def execTxEnable (r : Req) (v : Word) (s : State) : Host.Outcome State Fault Refusal :=
  s.act fun c => c.guarded r R.RF_CTRL fun c => c.writeRfCtrl v

/-- TX_DISABLE (R314): Clearing tx_en ends keying, abandons a calibration and stops the synthesiser. -/
def execTxDisable (r : Req) (v : Word) (s : State) : Host.Outcome State Fault Refusal :=
  s.act fun c => c.guarded r R.RF_CTRL fun c => c.writeRfCtrl v

/-- ADC_VALID (R295): The ADC delivers valid samples 100 µs after the enable. -/
def execAdcValid (s : State) : Host.Outcome State Fault Refusal :=
  s.act fun c => c.adcReady

/-- LNA_GAIN_APPLY (R295): A written LNA gain lands at the next slot-unit boundary. -/
def execLnaGainApply (s : State) : Host.Outcome State Fault Refusal :=
  s.act fun c => c.lnaApply

/-- RX_RETUNE (R299): A written link receive channel retunes the down-converter at the next slot-unit boundary. -/
def execRxRetune (s : State) : Host.Outcome State Fault Refusal :=
  s.act fun c => c.rxRetune

/-- RF_ADC_OVERLOAD (R300): 16 clipped samples in a 1,024-sample window start an overload. -/
def execRfAdcOverload (s : State) : Host.Outcome State Fault Refusal :=
  s.act fun c => c.overload

/-- RF_ADC_OVERLOAD_END (R300): 64 windows without overload end it. -/
def execRfAdcOverloadEnd (s : State) : Host.Outcome State Fault Refusal :=
  s.act fun c => c.overloadEnd

/-- ILC_UPDATE (R302): An interleave correction update lands at a permitted slot-unit boundary. -/
def execIlcUpdate (d : IlcStep) (s : State) : Host.Outcome State Fault Refusal :=
  s.act fun c => c.ilcUpdate d

/-- ILC_OK (R303): The image estimate reaches −70 dBc, ilc_ok sets and the receive side enters RUN. -/
def execIlcOk (img : Byte) (s : State) : Host.Outcome State Fault Refusal :=
  s.act fun c => c.ilcGood img.toNat

/-- ILC_OK_CLEAR (R303): The interleave image estimate rising above −64 dBc clears RF_STAT.ilc_ok while the receive side stays in
RUN. -/
def execIlcOkClear (img : Byte) (s : State) : Host.Outcome State Fault Refusal :=
  s.act fun c => c.ilcBad img.toNat

/-- MONITOR_SCAN (R304): Every 1 ms the spectrum monitor scans and records its peaks. -/
def execMonitorScan (bins : List Byte) (s : State) : Host.Outcome State Fault Refusal :=
  s.act fun c => c.monitorScan bins

/-- SYNTH_RETUNE (R305): The synthesiser starts a retune to a new channel. -/
def execSynthRetune (s : State) : Host.Outcome State Fault Refusal :=
  s.act fun c => c.synthRetune

/-- SYNTH_LOCK (R305): The synthesiser reports lock on its channel. -/
def execSynthLock (s : State) : Host.Outcome State Fault Refusal :=
  s.act fun c => c.synthLock

/-- RF_SYNTH_UNLOCK (R309): Loss of synthesiser lock ends a keyed interval and makes the event active. -/
def execRfSynthUnlock (s : State) : Host.Outcome State Fault Refusal :=
  s.act fun c => c.synthUnlock

/-- TRANSMISSION_START (R308): At S a posted transmission passes or fails the gate, fuse, root, airtime and power checks. -/
def execTransmissionStart (s : State) : Host.Outcome State Fault Refusal :=
  s.act fun c => c.txStart

/-- TX_KEY (R307): At K the PA is keyed if the synthesiser has locked. -/
def execTxKey (s : State) : Host.Outcome State Fault Refusal :=
  s.act fun c => c.keyTx

/-- KEYED_END (R307): A keyed interval ends after its last sample or at its run's end. -/
def execKeyedEnd (s : State) : Host.Outcome State Fault Refusal :=
  s.act fun c => c.keyedEnd

/-- PROTECT_START (R310): 1 µs before K the RFB LNA enters protect. -/
def execProtectStart (s : State) : Host.Outcome State Fault Refusal :=
  s.act fun c => c.protectStart

/-- PROTECT_END (R310): 1 µs after a keyed interval the RFB LNA leaves protect. -/
def execProtectEnd (s : State) : Host.Outcome State Fault Refusal :=
  s.act fun c => c.protectEnd

/-- LO_CAL_REQUEST (R311): A write of RF_CAL_REQ.lo makes LO leakage calibration pending. -/
def execLoCalRequest (r : Req) (v : Word) (s : State) : Host.Outcome State Fault Refusal :=
  s.act fun c => c.guarded r R.RF_CAL_REQ fun c => c.writeCalReq v

/-- IQ_CAL_REQUEST (R311): A write of RF_CAL_REQ.iq makes IQ balance calibration pending. -/
def execIqCalRequest (r : Req) (v : Word) (s : State) : Host.Outcome State Fault Refusal :=
  s.act fun c => c.guarded r R.RF_CAL_REQ fun c => c.writeCalReq v

/-- CAL_START (R311): A pending calibration starts at an idle run long enough for it. -/
def execCalStart (s : State) : Host.Outcome State Fault Refusal :=
  s.act fun c => c.calStart

/-- CAL_COMPLETE (R312): A calibration stores its result for the channel and clears its request. -/
def execCalComplete (res : Byte) (s : State) : Host.Outcome State Fault Refusal :=
  s.act fun c => c.calComplete res.toNat

/-- WAKE_FRAME (R316): A received wake frame is matched against the group and owner codes. -/
def execWakeFrame (n : Bool) (code : Word64) (s : State) : Host.Outcome State Fault Refusal :=
  s.act fun c => c.wakeFrame n code.toNat

/-- WAKE_TX_GO (R318): A write of RF_WAKE_TX_CTRL.go posts one wake frame or is refused. -/
def execWakeTxGo (r : Req) (v : Word) (s : State) : Host.Outcome State Fault Refusal :=
  s.act fun c => c.guarded r R.RF_WAKE_TX_CTRL fun c => c.writeWakeTx v

end Sys2Proof.Machine
end

