-- ==== Sys2Proof/Machine/RowsShepherd.lean ====
section
/-! DEFINITION. RowsShepherd.lean: the rows of the shepherd: start, mailbox and test access (chapter 16), each with its effect. -/

namespace Sys2Proof.Machine

/-- A command given to the mailbox: a write of its code to the channel of the requester (R403). -/
def Chip.mailbox (c : Chip) (r : Req) (code : Nat) : Chip :=
  c.guarded r (R.SHP_MB_CMD (b2n (reqCrook r))) fun c => c.writeMbCmd (reqCrook r) code

/-- FUSE_REPAIR (R387): The fuses are sensed, weak bits reburnt and the shadows and FEAT2 loaded. -/
def execFuseRepair (s : State) : Host.Outcome State Fault Refusal :=
  s.act fun c => c.fuseRepair

/-- START_TEST_END (R424): The start test ends at its last verdict and marks failing units. -/
def execStartTestEnd (res : List TestRes) (s : State) : Host.Outcome State Fault Refusal :=
  s.act fun c => c.startTestEnd res

/-- HEADER_CHECK (R394): At t1 bundle headers are read and checked and a source selected. -/
def execHeaderCheck (s : State) : Host.Outcome State Fault Refusal :=
  s.act fun c => c.headerCheck

/-- SECTION_VERIFY (R395): Each section is copied, read back and hashed against the table. -/
def execSectionVerify (s : State) : Host.Outcome State Fault Refusal :=
  s.act fun c => c.sectionVerify

/-- PASS (R397): Every check passes, the crook and blocks leave reset and the gate opens. -/
def execPass (s : State) : Host.Outcome State Fault Refusal :=
  s.act fun c => c.pass

/-- LOAD_STREAM (R399): The host command loads a bundle word by word through SHP_MB_DATA. -/
def execLoadStream (r : Req) (s : State) : Host.Outcome State Fault Refusal :=
  s.act fun c => c.mailbox r 0x10

/-- BOOT_FLASH (R394): The host command reruns bundle selection from flash. -/
def execBootFlash (r : Req) (s : State) : Host.Outcome State Fault Refusal :=
  s.act fun c => c.mailbox r 0x11

/-- FUSE_PROG (R404): The command burns permitted fuse bits. -/
def execFuseProg (r : Req) (s : State) : Host.Outcome State Fault Refusal :=
  s.act fun c => c.mailbox r 0x20

/-- ARB_ADVANCE (R401): The command advances the anti-rollback counter to a target. -/
def execArbAdvance (r : Req) (s : State) : Host.Outcome State Fault Refusal :=
  s.act fun c => c.mailbox r 0x21

/-- REVOKE (R404): The command burns the revoke bit of a key. -/
def execRevoke (r : Req) (s : State) : Host.Outcome State Fault Refusal :=
  s.act fun c => c.mailbox r 0x22

/-- LC_SECURE (R385): The command burns lc_secured for the next start. -/
def execLcSecure (r : Req) (s : State) : Host.Outcome State Fault Refusal :=
  s.act fun c => c.mailbox r 0x30

/-- CHALLENGE (R409): The command fills the challenge registers for debug or return. -/
def execChallenge (r : Req) (s : State) : Host.Outcome State Fault Refusal :=
  s.act fun c => c.mailbox r 0x31

/-- RESPOND (R409): The command verifies a signed response and unlocks debug or burns lc_return. -/
def execRespond (r : Req) (s : State) : Host.Outcome State Fault Refusal :=
  s.act fun c => c.mailbox r 0x32

/-- GATE_SET (R397): The command closes or reopens gate parts up to their values at pass. -/
def execGateSet (r : Req) (s : State) : Host.Outcome State Fault Refusal :=
  s.act fun c => c.mailbox r 0x40

/-- RESET_REQ (R439): The command resets the blocks named in its domain mask. -/
def execResetReq (r : Req) (s : State) : Host.Outcome State Fault Refusal :=
  s.act fun c => c.mailbox r 0x41

/-- MAILBOX_DONE (R403): A mailbox command completes, writes its results and clears busy. -/
def execMailboxDone (ch : MbCh) (s : State) : Host.Outcome State Fault Refusal :=
  s.act fun c => c.mailboxDone (decide (ch = .crook))

/-- MB_DATA_WRITE (R399): A host word written to SHP_MB_DATA enters the stream FIFO. -/
def execMbDataWrite (r : Req) (v : Word) (s : State) : Host.Outcome State Fault Refusal :=
  s.act fun c => c.guarded r R.SHP_MB_DATA fun c => c.writeMbData v

/-- STREAM_TIMEOUT (R399): No stream word for 1 s fails the stream with code 0x0B. -/
def execStreamTimeout (s : State) : Host.Outcome State Fault Refusal :=
  s.act fun c => c.cutStream

/-- DBG_ENTER (R408): The TAP instruction zeroises secrets and enters debug when allowed. -/
def execDbgEnter (s : State) : Host.Outcome State Fault Refusal :=
  s.act fun c => c.tapEnter 0x30

/-- SCAN_ENTER (R408): The TAP instruction zeroises secrets and enables scan when allowed. -/
def execScanEnter (s : State) : Host.Outcome State Fault Refusal :=
  s.act fun c => c.tapEnter 0x31

/-- BYPASS (R407): The TAP instruction selects the bypass register. -/
def execBypass (s : State) : Host.Outcome State Fault Refusal :=
  s.act fun c => c.setTap 0xFF

/-- IDCODE (R407): The TAP instruction selects the identification register. -/
def execIdcode (s : State) : Host.Outcome State Fault Refusal :=
  s.act fun c => c.setTap 0x01

/-- BOUNDARY_SCAN (R407): A boundary-scan instruction of IEEE 1149.1 loaded into the TAP instruction register selects the
boundary-scan register. -/
def execBoundaryScan (ir : Byte) (s : State) : Host.Outcome State Fault Refusal :=
  s.act fun c => c.tapScan ir

end Sys2Proof.Machine
end

