-- ==== Sys2Proof/Machine/RowsTest.lean ====
section
/-! DEFINITION. RowsTest.lean: the rows of self-test (chapter 17), each with its effect. -/

namespace Sys2Proof.Machine

/-- TEST_COMPLETE (R415): A test completes and its count and signature give a verdict. -/
def execTestComplete (u : TestUnit) (count : Nat) (sig : Word) (s : State) : Host.Outcome State Fault Refusal :=
  s.act fun c => c.testComplete u count sig

/-- TEST_DEADLINE (R415): A test not complete by its deadline gets a verdict with cnt_short. -/
def execTestDeadline (u : TestUnit) (count : Nat) (sig : Word) (s : State) : Host.Outcome State Fault Refusal :=
  s.act fun c => c.testDeadline u count sig

/-- TEST_STATE_CHANGE (R417): At the first frame boundary after a verdict the unit becomes spare or unusable. -/
def execTestStateChange (u : TestUnit) (s : State) : Host.Outcome State Fault Refusal :=
  s.act fun c => c.testStateChange u

/-- IDLE_TEST_START (R418): At a superframe boundary an idle engine's background test starts. -/
def execIdleTestStart (s : State) : Host.Outcome State Fault Refusal :=
  s.act fun c => c.idleTestStart

/-- SPARE_TEST_START (R418): A requested test of the spare starts at a free superframe boundary. -/
def execSpareTestStart (bank : Bool) (s : State) : Host.Outcome State Fault Refusal :=
  s.act fun c => c.spareTestStart bank

/-- TEST_REQUEST (R419): A write of BST_REQ.go requests a test of an engine or bank or is refused. -/
def execTestRequest (r : Req) (v : Word) (s : State) : Host.Outcome State Fault Refusal :=
  s.act fun c => c.guarded r R.BST_REQ fun c => c.writeTestReq v

/-- MARK_CLEAR (R422): The key written to BST_MARK_CLR sets clr in the mark record. -/
def execMarkClear (r : Req) (v : Word) (s : State) : Host.Outcome State Fault Refusal :=
  s.act fun c => c.guarded r R.BST_MARK_CLR fun c => c.writeMarkClr v

/-- SHUTDOWN_REQUEST (R425): A write of BST_SHUTDOWN.go requests the shutdown test or is refused. -/
def execShutdownRequest (r : Req) (v : Word) (s : State) : Host.Outcome State Fault Refusal :=
  s.act fun c => c.guarded r R.BST_SHUTDOWN fun c => c.writeShutdown r v

/-- SHUTDOWN_START (R425): At Z everything stops and the shutdown tests start. -/
def execShutdownStart (s : State) : Host.Outcome State Fault Refusal :=
  s.act fun c => c.shutdownStart

/-- SHUTDOWN_END (R425): The last shutdown verdict writes the mark record with shut set. -/
def execShutdownEnd (s : State) : Host.Outcome State Fault Refusal :=
  s.act fun c => c.shutdownEnd

end Sys2Proof.Machine
end

