-- ==== Sys2Proof/Machine/Dispatch.lean ====
section
/-! DEFINITION. Dispatch.lean: which meaning each command has. -/

namespace Sys2Proof.Machine

def exec (i : Instr) (s : State) : Host.Outcome State Fault Refusal :=
  match i with
  | .registerWrite r addr v => Sys2Proof.Machine.execRegisterWrite r addr v s
  | .seCycRead r n => Sys2Proof.Machine.execSeCycRead r n s
  | .seOvrCntRead r n => Sys2Proof.Machine.execSeOvrCntRead r n s
  | .pasEccCntRead r => Sys2Proof.Machine.execPasEccCntRead r s
  | .pasMissCntRead r => Sys2Proof.Machine.execPasMissCntRead r s
  | .prtLaneSlipRead r n => Sys2Proof.Machine.execPrtLaneSlipRead r n s
  | .prtGrpFerrRead r g => Sys2Proof.Machine.execPrtGrpFerrRead r g s
  | .evtQDropRead r => Sys2Proof.Machine.execEvtQDropRead r s
  | .evtTallyRead r => Sys2Proof.Machine.execEvtTallyRead r s
  | .guardChPeakCntRead r c => Sys2Proof.Machine.execGuardChPeakCntRead r c s
  | .rfOvlCntRead r => Sys2Proof.Machine.execRfOvlCntRead r s
  | .rfTxLateCntRead r => Sys2Proof.Machine.execRfTxLateCntRead r s
  | .lnkAudCntRead r => Sys2Proof.Machine.execLnkAudCntRead r s
  | .lnkStrayCntRead r => Sys2Proof.Machine.execLnkStrayCntRead r s
  | .bstTallyRead r => Sys2Proof.Machine.execBstTallyRead r s
  | .rootPllLock n32k => Sys2Proof.Machine.execRootPllLock n32k s
  | .clkUnlock => Sys2Proof.Machine.execClkUnlock s
  | .rootPllRelock => Sys2Proof.Machine.execRootPllRelock s
  | .steeringStep => Sys2Proof.Machine.execSteeringStep s
  | .sourceSelection => Sys2Proof.Machine.execSourceSelection s
  | .clkPerrSatWrite r v => Sys2Proof.Machine.execClkPerrSatWrite r v s
  | .satTimeout => Sys2Proof.Machine.execSatTimeout s
  | .linkTimeout => Sys2Proof.Machine.execLinkTimeout s
  | .tmarkTimeout => Sys2Proof.Machine.execTmarkTimeout s
  | .holdLimit => Sys2Proof.Machine.execHoldLimit s
  | .loopEnable r v => Sys2Proof.Machine.execLoopEnable r v s
  | .frameBoundary => Sys2Proof.Machine.execFrameBoundary s
  | .superframeBoundary => Sys2Proof.Machine.execSuperframeBoundary s
  | .wholeSecond => Sys2Proof.Machine.execWholeSecond s
  | .stcSnapshot r => Sys2Proof.Machine.execStcSnapshot r s
  | .stcLoadRequest r v => Sys2Proof.Machine.execStcLoadRequest r v s
  | .stcLoadApply => Sys2Proof.Machine.execStcLoadApply s
  | .tpApplyRequest r n v => Sys2Proof.Machine.execTpApplyRequest r n v s
  | .tpConfigApply n => Sys2Proof.Machine.execTpConfigApply n s
  | .timePulseStart n => Sys2Proof.Machine.execTimePulseStart n s
  | .timePulseEnd n => Sys2Proof.Machine.execTimePulseEnd n s
  | .tmarkEdge falling => Sys2Proof.Machine.execTmarkEdge falling s
  | .tmarkCapRead r => Sys2Proof.Machine.execTmarkCapRead r s
  | .foldGo r v => Sys2Proof.Machine.execFoldGo r v s
  | .foldChecksEnd => Sys2Proof.Machine.execFoldChecksEnd s
  | .foldApply => Sys2Proof.Machine.execFoldApply s
  | .foldZeroingEnd => Sys2Proof.Machine.execFoldZeroingEnd s
  | .foldDone => Sys2Proof.Machine.execFoldDone s
  | .runReq r n v => Sys2Proof.Machine.execRunReq r n v s
  | .stopReq r n v => Sys2Proof.Machine.execStopReq r n v s
  | .roleStart n => Sys2Proof.Machine.execRoleStart n s
  | .roleStop n => Sys2Proof.Machine.execRoleStop n s
  | .engineClear r n v => Sys2Proof.Machine.execEngineClear r n v s
  | .engineClearDone n => Sys2Proof.Machine.execEngineClearDone n s
  | .forcedFrameEnd n => Sys2Proof.Machine.execForcedFrameEnd n s
  | .rotationDue => Sys2Proof.Machine.execRotationDue s
  | .programCopy => Sys2Proof.Machine.execProgramCopy s
  | .scratchMirror => Sys2Proof.Machine.execScratchMirror s
  | .stateCopy => Sys2Proof.Machine.execStateCopy s
  | .twinFrameStart => Sys2Proof.Machine.execTwinFrameStart s
  | .twinCompare => Sys2Proof.Machine.execTwinCompare s
  | .handover => Sys2Proof.Machine.execHandover s
  | .illegalEncoding w bytes => Sys2Proof.Machine.execIllegalEncoding w bytes s
  | .crookLoadReturn => Sys2Proof.Machine.execCrookLoadReturn s
  | .interruptEntry => Sys2Proof.Machine.execInterruptEntry s
  | .watchdogEnable r v => Sys2Proof.Machine.execWatchdogEnable r v s
  | .watchdogKick r v => Sys2Proof.Machine.execWatchdogKick r v s
  | .watchdogExpiry => Sys2Proof.Machine.execWatchdogExpiry s
  | .scrubRequest => Sys2Proof.Machine.execScrubRequest s
  | .gapSlotGrant lb cycle => Sys2Proof.Machine.execGapSlotGrant lb cycle s
  | .mirrorStart => Sys2Proof.Machine.execMirrorStart s
  | .bankSwap => Sys2Proof.Machine.execBankSwap s
  | .commit r v => Sys2Proof.Machine.execCommit r v s
  | .timedCommit r v => Sys2Proof.Machine.execTimedCommit r v s
  | .commitLand => Sys2Proof.Machine.execCommitLand s
  | .glideEnd slot => Sys2Proof.Machine.execGlideEnd slot s
  | .groupDescriptorWrite r g len v => Sys2Proof.Machine.execGroupDescriptorWrite r g len v s
  | .glideDataWrite r v => Sys2Proof.Machine.execGlideDataWrite r v s
  | .glideDataRead r => Sys2Proof.Machine.execGlideDataRead r s
  | .groupHalt r g => Sys2Proof.Machine.execGroupHalt r g s
  | .groupRelease r g => Sys2Proof.Machine.execGroupRelease r g s
  | .groupHaltEffect g => Sys2Proof.Machine.execGroupHaltEffect g s
  | .groupReleaseEffect g => Sys2Proof.Machine.execGroupReleaseEffect g s
  | .frameStart g bits phase => Sys2Proof.Machine.execFrameStart g bits phase s
  | .slaveClockLoss g => Sys2Proof.Machine.execSlaveClockLoss g s
  | .asrcLockChange g locked ratio => Sys2Proof.Machine.execAsrcLockChange g locked ratio s
  | .serialWord n slot w => Sys2Proof.Machine.execSerialWord n slot w s
  | .laneFillReached n => Sys2Proof.Machine.execLaneFillReached n s
  | .maskWrite r n v late => Sys2Proof.Machine.execMaskWrite r n v late s
  | .maskApply n => Sys2Proof.Machine.execMaskApply n s
  | .laneStartRequest r n v => Sys2Proof.Machine.execLaneStartRequest r n v s
  | .laneStart n => Sys2Proof.Machine.execLaneStart n s
  | .laneStopRequest r n v => Sys2Proof.Machine.execLaneStopRequest r n v s
  | .laneStop n => Sys2Proof.Machine.execLaneStop n s
  | .alignGo r a v => Sys2Proof.Machine.execAlignGo r a v s
  | .triggeredStart a => Sys2Proof.Machine.execTriggeredStart a s
  | .alignStop r a v => Sys2Proof.Machine.execAlignStop r a v s
  | .ringStart r n v => Sys2Proof.Machine.execRingStart r n v s
  | .ringAbort r n v => Sys2Proof.Machine.execRingAbort r n v s
  | .ringAbortDone n => Sys2Proof.Machine.execRingAbortDone n s
  | .ringPause r n v => Sys2Proof.Machine.execRingPause r n v s
  | .ringResume r n v => Sys2Proof.Machine.execRingResume r n v s
  | .ringPaused n => Sys2Proof.Machine.execRingPaused n s
  | .descriptorFetch n => Sys2Proof.Machine.execDescriptorFetch n s
  | .readTransaction n => Sys2Proof.Machine.execReadTransaction n s
  | .readResponse n => Sys2Proof.Machine.execReadResponse n s
  | .writeBurst n => Sys2Proof.Machine.execWriteBurst n s
  | .writeResponse n => Sys2Proof.Machine.execWriteResponse n s
  | .transactionTimeout n k => Sys2Proof.Machine.execTransactionTimeout n k s
  | .laneBeat n => Sys2Proof.Machine.execLaneBeat n s
  | .descriptorEnd n => Sys2Proof.Machine.execDescriptorEnd n s
  | .ddrEnable r v => Sys2Proof.Machine.execDdrEnable r v s
  | .ddrTrainingEnd converged density => Sys2Proof.Machine.execDdrTrainingEnd converged density s
  | .ddrDisable r v => Sys2Proof.Machine.execDdrDisable r v s
  | .queuePop r v => Sys2Proof.Machine.execQueuePop r v s
  | .lingerEnd id => Sys2Proof.Machine.execLingerEnd id s
  | .dcLatch c => Sys2Proof.Machine.execDcLatch c s
  | .dcLatchClear r c v => Sys2Proof.Machine.execDcLatchClear r c v s
  | .adcEnable r v => Sys2Proof.Machine.execAdcEnable r v s
  | .adcDisable r v => Sys2Proof.Machine.execAdcDisable r v s
  | .adcValid => Sys2Proof.Machine.execAdcValid s
  | .lnaGainApply => Sys2Proof.Machine.execLnaGainApply s
  | .rxRetune => Sys2Proof.Machine.execRxRetune s
  | .rfAdcOverload => Sys2Proof.Machine.execRfAdcOverload s
  | .rfAdcOverloadEnd => Sys2Proof.Machine.execRfAdcOverloadEnd s
  | .ilcUpdate d => Sys2Proof.Machine.execIlcUpdate d s
  | .ilcOk img => Sys2Proof.Machine.execIlcOk img s
  | .monitorScan bins => Sys2Proof.Machine.execMonitorScan bins s
  | .txEnable r v => Sys2Proof.Machine.execTxEnable r v s
  | .txDisable r v => Sys2Proof.Machine.execTxDisable r v s
  | .synthRetune => Sys2Proof.Machine.execSynthRetune s
  | .synthLock => Sys2Proof.Machine.execSynthLock s
  | .rfSynthUnlock => Sys2Proof.Machine.execRfSynthUnlock s
  | .transmissionStart => Sys2Proof.Machine.execTransmissionStart s
  | .txKey => Sys2Proof.Machine.execTxKey s
  | .keyedEnd => Sys2Proof.Machine.execKeyedEnd s
  | .protectStart => Sys2Proof.Machine.execProtectStart s
  | .protectEnd => Sys2Proof.Machine.execProtectEnd s
  | .loCalRequest r v => Sys2Proof.Machine.execLoCalRequest r v s
  | .iqCalRequest r v => Sys2Proof.Machine.execIqCalRequest r v s
  | .calStart => Sys2Proof.Machine.execCalStart s
  | .calComplete res => Sys2Proof.Machine.execCalComplete res s
  | .wakeFrame n code => Sys2Proof.Machine.execWakeFrame n code s
  | .wakeTxGo r v => Sys2Proof.Machine.execWakeTxGo r v s
  | .notchAdapt idx xs => Sys2Proof.Machine.execNotchAdapt idx xs s
  | .notchDisengage idx => Sys2Proof.Machine.execNotchDisengage idx s
  | .notchFreqWrite r idx v => Sys2Proof.Machine.execNotchFreqWrite r idx v s
  | .acqGo r v => Sys2Proof.Machine.execAcqGo r v s
  | .captureStart => Sys2Proof.Machine.execCaptureStart s
  | .captureOverflow => Sys2Proof.Machine.execCaptureOverflow s
  | .captureEnd samples => Sys2Proof.Machine.execCaptureEnd samples s
  | .searchEnd sig => Sys2Proof.Machine.execSearchEnd sig s
  | .acqAbort r v => Sys2Proof.Machine.execAcqAbort r v s
  | .channelStartRequest r n v => Sys2Proof.Machine.execChannelStartRequest r n v s
  | .channelStart n => Sys2Proof.Machine.execChannelStart n s
  | .channelStopRequest r n v => Sys2Proof.Machine.execChannelStopRequest r n v s
  | .channelStop n => Sys2Proof.Machine.execChannelStop n s
  | .dump n d => Sys2Proof.Machine.execDump n d s
  | .integrationEnd n => Sys2Proof.Machine.execIntegrationEnd n s
  | .pullTimeout n => Sys2Proof.Machine.execPullTimeout n s
  | .coastTimeout n => Sys2Proof.Machine.execCoastTimeout n s
  | .channelConfigWrite r n k v => Sys2Proof.Machine.execChannelConfigWrite r n k v s
  | .epoch => Sys2Proof.Machine.execEpoch s
  | .epochRateApply => Sys2Proof.Machine.execEpochRateApply s
  | .linkControlApply => Sys2Proof.Machine.execLinkControlApply s
  | .beacon b => Sys2Proof.Machine.execBeacon b s
  | .audioBurst b => Sys2Proof.Machine.execAudioBurst b s
  | .uplink b => Sys2Proof.Machine.execUplink b s
  | .joinRequest b => Sys2Proof.Machine.execJoinRequest b s
  | .strayUnit m => Sys2Proof.Machine.execStrayUnit m s
  | .beaconSend => Sys2Proof.Machine.execBeaconSend s
  | .audioMulticastSend => Sys2Proof.Machine.execAudioMulticastSend s
  | .uplinkSend => Sys2Proof.Machine.execUplinkSend s
  | .joinRequestSend unit heard => Sys2Proof.Machine.execJoinRequestSend unit heard s
  | .joinBackoff => Sys2Proof.Machine.execJoinBackoff s
  | .memberDrop k => Sys2Proof.Machine.execMemberDrop k s
  | .beaconLoss => Sys2Proof.Machine.execBeaconLoss s
  | .channelScanStep => Sys2Proof.Machine.execChannelScanStep s
  | .holdExpiry => Sys2Proof.Machine.execHoldExpiry s
  | .hopRequest r v => Sys2Proof.Machine.execHopRequest r v s
  | .hop => Sys2Proof.Machine.execHop s
  | .fuseRepair => Sys2Proof.Machine.execFuseRepair s
  | .startTestEnd res => Sys2Proof.Machine.execStartTestEnd res s
  | .headerCheck => Sys2Proof.Machine.execHeaderCheck s
  | .sectionVerify => Sys2Proof.Machine.execSectionVerify s
  | .pass => Sys2Proof.Machine.execPass s
  | .loadStream r => Sys2Proof.Machine.execLoadStream r s
  | .bootFlash r => Sys2Proof.Machine.execBootFlash r s
  | .fuseProg r => Sys2Proof.Machine.execFuseProg r s
  | .arbAdvance r => Sys2Proof.Machine.execArbAdvance r s
  | .revoke r => Sys2Proof.Machine.execRevoke r s
  | .lcSecure r => Sys2Proof.Machine.execLcSecure r s
  | .challenge r => Sys2Proof.Machine.execChallenge r s
  | .respond r => Sys2Proof.Machine.execRespond r s
  | .gateSet r => Sys2Proof.Machine.execGateSet r s
  | .resetReq r => Sys2Proof.Machine.execResetReq r s
  | .mailboxDone ch => Sys2Proof.Machine.execMailboxDone ch s
  | .mbDataWrite r v => Sys2Proof.Machine.execMbDataWrite r v s
  | .streamTimeout => Sys2Proof.Machine.execStreamTimeout s
  | .dbgEnter => Sys2Proof.Machine.execDbgEnter s
  | .scanEnter => Sys2Proof.Machine.execScanEnter s
  | .bypass => Sys2Proof.Machine.execBypass s
  | .idcode => Sys2Proof.Machine.execIdcode s
  | .wakeDigest => Sys2Proof.Machine.execWakeDigest s
  | .testComplete u count sig => Sys2Proof.Machine.execTestComplete u count sig s
  | .testDeadline u count sig => Sys2Proof.Machine.execTestDeadline u count sig s
  | .testStateChange u => Sys2Proof.Machine.execTestStateChange u s
  | .idleTestStart => Sys2Proof.Machine.execIdleTestStart s
  | .spareTestStart bank => Sys2Proof.Machine.execSpareTestStart bank s
  | .testRequest r v => Sys2Proof.Machine.execTestRequest r v s
  | .markClear r v => Sys2Proof.Machine.execMarkClear r v s
  | .shutdownRequest r v => Sys2Proof.Machine.execShutdownRequest r v s
  | .shutdownStart => Sys2Proof.Machine.execShutdownStart s
  | .shutdownEnd => Sys2Proof.Machine.execShutdownEnd s
  | .sleepCommand r v => Sys2Proof.Machine.execSleepCommand r v s
  | .sleepEntry => Sys2Proof.Machine.execSleepEntry s
  | .sleepEntered => Sys2Proof.Machine.execSleepEntered s
  | .wake => Sys2Proof.Machine.execWake s
  | .wakeApply => Sys2Proof.Machine.execWakeApply s
  | .runReady => Sys2Proof.Machine.execRunReady s
  | .alarm => Sys2Proof.Machine.execAlarm s
  | .powerOnReset => Sys2Proof.Machine.execPowerOnReset s
  | .rstNReset => Sys2Proof.Machine.execRstNReset s
  | .pwrGoodReset => Sys2Proof.Machine.execPwrGoodReset s
  | .hostSoftReset r v => Sys2Proof.Machine.execHostSoftReset r v s
  | .pwrOvertemp temp => Sys2Proof.Machine.execPwrOvertemp temp s
  | .overtempEnd temp => Sys2Proof.Machine.execOvertempEnd temp s
  | .write addr ws tail => Sys2Proof.Machine.execWrite addr ws tail s
  | .writeFixed addr ws tail => Sys2Proof.Machine.execWriteFixed addr ws tail s
  | .read addr n => Sys2Proof.Machine.execRead addr n s
  | .readFixed addr n => Sys2Proof.Machine.execReadFixed addr n s
  | .stream ws tail => Sys2Proof.Machine.execStream ws tail s
  | .status => Sys2Proof.Machine.execStatus s
  | .badCommand code => Sys2Proof.Machine.execBadCommand code s
  | .cellTimeout => Sys2Proof.Machine.execCellTimeout s
  | .bufferDrain => Sys2Proof.Machine.execBufferDrain s
  | .streamEnable r v => Sys2Proof.Machine.execStreamEnable r v s
  | .mac w px f => Sys2Proof.Machine.execMac w px f s
  | .macn w px f => Sys2Proof.Machine.execMacn w px f s
  | .mpy w px f => Sys2Proof.Machine.execMpy w px f s
  | .mpyn w px f => Sys2Proof.Machine.execMpyn w px f s
  | .macj w px f => Sys2Proof.Machine.execMacj w px f s
  | .macjn w px f => Sys2Proof.Machine.execMacjn w px f s
  | .mpyj w px f => Sys2Proof.Machine.execMpyj w px f s
  | .mpyjn w px f => Sys2Proof.Machine.execMpyjn w px f s
  | .rmac w px f => Sys2Proof.Machine.execRmac w px f s
  | .rmacn w px f => Sys2Proof.Machine.execRmacn w px f s
  | .rmpy w px f => Sys2Proof.Machine.execRmpy w px f s
  | .rmpyn w px f => Sys2Proof.Machine.execRmpyn w px f s
  | .dmac w px f => Sys2Proof.Machine.execDmac w px f s
  | .dmacn w px f => Sys2Proof.Machine.execDmacn w px f s
  | .dmpy w px f => Sys2Proof.Machine.execDmpy w px f s
  | .dmpyn w px f => Sys2Proof.Machine.execDmpyn w px f s
  | .add w px f => Sys2Proof.Machine.execAdd w px f s
  | .sub w px f => Sys2Proof.Machine.execSub w px f s
  | .addc w px f => Sys2Proof.Machine.execAddc w px f s
  | .subc w px f => Sys2Proof.Machine.execSubc w px f s
  | .neg w px f => Sys2Proof.Machine.execNeg w px f s
  | .abs w px f => Sys2Proof.Machine.execAbs w px f s
  | .min w px f => Sys2Proof.Machine.execMin w px f s
  | .max w px f => Sys2Proof.Machine.execMax w px f s
  | .cmp w px f => Sys2Proof.Machine.execCmp w px f s
  | .tst w px f => Sys2Proof.Machine.execTst w px f s
  | .cadd w px f => Sys2Proof.Machine.execCadd w px f s
  | .csub w px f => Sys2Proof.Machine.execCsub w px f s
  | .cneg w px f => Sys2Proof.Machine.execCneg w px f s
  | .conj w px f => Sys2Proof.Machine.execConj w px f s
  | .mag2 w px f => Sys2Proof.Machine.execMag2 w px f s
  | .sat w px f => Sys2Proof.Machine.execSat w px f s
  | .aclr w px f => Sys2Proof.Machine.execAclr w px f s
  | .acpy w px f => Sys2Proof.Machine.execAcpy w px f s
  | .aadd w px f => Sys2Proof.Machine.execAadd w px f s
  | .asub w px f => Sys2Proof.Machine.execAsub w px f s
  | .ashl w px f => Sys2Proof.Machine.execAshl w px f s
  | .aneg w px f => Sys2Proof.Machine.execAneg w px f s
  | .ard w px f => Sys2Proof.Machine.execArd w px f s
  | .awr w px f => Sys2Proof.Machine.execAwr w px f s
  | .addi w px f8 imm => Sys2Proof.Machine.execAddi w px f8 imm s
  | .subi w px f8 imm => Sys2Proof.Machine.execSubi w px f8 imm s
  | .cmpi w px f8 imm => Sys2Proof.Machine.execCmpi w px f8 imm s
  | .mul w px f => Sys2Proof.Machine.execMul w px f s
  | .cmul w px f => Sys2Proof.Machine.execCmul w px f s
  | .cmulj w px f => Sys2Proof.Machine.execCmulj w px f s
  | .sqr w px f => Sys2Proof.Machine.execSqr w px f s
  | .asl w px f => Sys2Proof.Machine.execAsl w px f s
  | .asr w px f => Sys2Proof.Machine.execAsr w px f s
  | .lsl w px f => Sys2Proof.Machine.execLsl w px f s
  | .lsr w px f => Sys2Proof.Machine.execLsr w px f s
  | .asli w px f8 imm => Sys2Proof.Machine.execAsli w px f8 imm s
  | .asri w px f8 imm => Sys2Proof.Machine.execAsri w px f8 imm s
  | .lsli w px f8 imm => Sys2Proof.Machine.execLsli w px f8 imm s
  | .lsri w px f8 imm => Sys2Proof.Machine.execLsri w px f8 imm s
  | .norm w px f => Sys2Proof.Machine.execNorm w px f s
  | .exp w px f => Sys2Proof.Machine.execExp w px f s
  | .bexp w px f => Sys2Proof.Machine.execBexp w px f s
  | .bexpc w px f => Sys2Proof.Machine.execBexpc w px f s
  | .anorm w px f => Sys2Proof.Machine.execAnorm w px f s
  | .aexp w px f => Sys2Proof.Machine.execAexp w px f s
  | .rol w px f => Sys2Proof.Machine.execRol w px f s
  | .ror w px f => Sys2Proof.Machine.execRor w px f s
  | .and w px f => Sys2Proof.Machine.execAnd w px f s
  | .or w px f => Sys2Proof.Machine.execOr w px f s
  | .xor w px f => Sys2Proof.Machine.execXor w px f s
  | .not w px f => Sys2Proof.Machine.execNot w px f s
  | .andi w px f8 imm => Sys2Proof.Machine.execAndi w px f8 imm s
  | .ori w px f8 imm => Sys2Proof.Machine.execOri w px f8 imm s
  | .xori w px f8 imm => Sys2Proof.Machine.execXori w px f8 imm s
  | .bset w px f8 imm => Sys2Proof.Machine.execBset w px f8 imm s
  | .bclr w px f8 imm => Sys2Proof.Machine.execBclr w px f8 imm s
  | .btst w px f8 imm => Sys2Proof.Machine.execBtst w px f8 imm s
  | .bchg w px f8 imm => Sys2Proof.Machine.execBchg w px f8 imm s
  | .popc w px f => Sys2Proof.Machine.execPopc w px f s
  | .clz w px f => Sys2Proof.Machine.execClz w px f s
  | .ldx w px m disp => Sys2Proof.Machine.execLdx w px m disp s
  | .stx w px m disp => Sys2Proof.Machine.execStx w px m disp s
  | .ldy w px m disp => Sys2Proof.Machine.execLdy w px m disp s
  | .sty w px m disp => Sys2Proof.Machine.execSty w px m disp s
  | .ldz w px m disp => Sys2Proof.Machine.execLdz w px m disp s
  | .stz w px m disp => Sys2Proof.Machine.execStz w px m disp s
  | .ldxc w px m disp => Sys2Proof.Machine.execLdxc w px m disp s
  | .stxc w px m disp => Sys2Proof.Machine.execStxc w px m disp s
  | .ldyc w px m disp => Sys2Proof.Machine.execLdyc w px m disp s
  | .ldzc w px m disp => Sys2Proof.Machine.execLdzc w px m disp s
  | .stzc w px m disp => Sys2Proof.Machine.execStzc w px m disp s
  | .ldg w px f8 g8 => Sys2Proof.Machine.execLdg w px f8 g8 s
  | .stg w px f8 g8 => Sys2Proof.Machine.execStg w px f8 g8 s
  | .mov w px f => Sys2Proof.Machine.execMov w px f s
  | .movc w px f => Sys2Proof.Machine.execMovc w px f s
  | .ldi w px f8 imm => Sys2Proof.Machine.execLdi w px f8 imm s
  | .mvar w px f => Sys2Proof.Machine.execMvar w px f s
  | .mvra w px f => Sys2Proof.Machine.execMvra w px f s
  | .ldai w px f8 imm => Sys2Proof.Machine.execLdai w px f8 imm s
  | .addai w px f8 imm => Sys2Proof.Machine.execAddai w px f8 imm s
  | .mvf w px f8 g8 => Sys2Proof.Machine.execMvf w px f8 g8 s
  | .mtf w px f8 g8 => Sys2Proof.Machine.execMtf w px f8 g8 s
  | .mvfeat w px f8 g8 => Sys2Proof.Machine.execMvfeat w px f8 g8 s
  | .ld8 w px m disp => Sys2Proof.Machine.execLd8 w px m disp s
  | .st8 w px m disp => Sys2Proof.Machine.execSt8 w px m disp s
  | .ld16 w px m disp => Sys2Proof.Machine.execLd16 w px m disp s
  | .st16 w px m disp => Sys2Proof.Machine.execSt16 w px m disp s
  | .macPl w px f v24 => Sys2Proof.Machine.execMacPl w px f v24 s
  | .macnPl w px f v24 => Sys2Proof.Machine.execMacnPl w px f v24 s
  | .mpyPl w px f v24 => Sys2Proof.Machine.execMpyPl w px f v24 s
  | .mpynPl w px f v24 => Sys2Proof.Machine.execMpynPl w px f v24 s
  | .macjPl w px f v24 => Sys2Proof.Machine.execMacjPl w px f v24 s
  | .macjnPl w px f v24 => Sys2Proof.Machine.execMacjnPl w px f v24 s
  | .rmacPl w px f v24 => Sys2Proof.Machine.execRmacPl w px f v24 s
  | .rmacnPl w px f v24 => Sys2Proof.Machine.execRmacnPl w px f v24 s
  | .dmacPl w px f v24 => Sys2Proof.Machine.execDmacPl w px f v24 s
  | .dmacnPl w px f v24 => Sys2Proof.Machine.execDmacnPl w px f v24 s
  | .dmpyPl w px f v24 => Sys2Proof.Machine.execDmpyPl w px f v24 s
  | .addPl w px f v24 => Sys2Proof.Machine.execAddPl w px f v24 s
  | .subPl w px f v24 => Sys2Proof.Machine.execSubPl w px f v24 s
  | .movPl w px f v24 => Sys2Proof.Machine.execMovPl w px f v24 s
  | .caddPl w px f v24 => Sys2Proof.Machine.execCaddPl w px f v24 s
  | .csubPl w px f v24 => Sys2Proof.Machine.execCsubPl w px f v24 s
  | .macPs w px f v24 => Sys2Proof.Machine.execMacPs w px f v24 s
  | .macnPs w px f v24 => Sys2Proof.Machine.execMacnPs w px f v24 s
  | .rmacPs w px f v24 => Sys2Proof.Machine.execRmacPs w px f v24 s
  | .dmacPs w px f v24 => Sys2Proof.Machine.execDmacPs w px f v24 s
  | .addPs w px f v24 => Sys2Proof.Machine.execAddPs w px f v24 s
  | .movPs w px f v24 => Sys2Proof.Machine.execMovPs w px f v24 s
  | .pmvPl w px f v24 => Sys2Proof.Machine.execPmvPl w px f v24 s
  | .pmvPs w px f v24 => Sys2Proof.Machine.execPmvPs w px f v24 s
  | .br w px c8 off => Sys2Proof.Machine.execBr w px c8 off s
  | .call w px c8 off => Sys2Proof.Machine.execCall w px c8 off s
  | .jr w px c8 => Sys2Proof.Machine.execJr w px c8 s
  | .callr w px c8 => Sys2Proof.Machine.execCallr w px c8 s
  | .ret w px c8 => Sys2Proof.Machine.execRet w px c8 s
  | .brep w px f8 cnt blen => Sys2Proof.Machine.execBrep w px f8 cnt blen s
  | .brepr w px f8 cnt blen => Sys2Proof.Machine.execBrepr w px f8 cnt blen s
  | .bbrk w px => Sys2Proof.Machine.execBbrk w px s
  | .fend w px => Sys2Proof.Machine.execFend w px s
  | .nop w px => Sys2Proof.Machine.execNop w px s
  | .trap w px f8 g8 => Sys2Proof.Machine.execTrap w px f8 g8 s
  | .dadd w px f => Sys2Proof.Machine.execDadd w px f s
  | .dsub w px f => Sys2Proof.Machine.execDsub w px f s
  | .dadj w px f => Sys2Proof.Machine.execDadj w px f s
  | .bcd w px f => Sys2Proof.Machine.execBcd w px f s
  | .bin w px f => Sys2Proof.Machine.execBin w px f s
  | .bfx w px f imm => Sys2Proof.Machine.execBfx w px f imm s
  | .bfxu w px f imm => Sys2Proof.Machine.execBfxu w px f imm s
  | .bfi w px f imm => Sys2Proof.Machine.execBfi w px f imm s
  | .rti w px => Sys2Proof.Machine.execRti w px s
  | .mvsr w px f8 imm => Sys2Proof.Machine.execMvsr w px f8 imm s
  | .mtsr w px f8 imm => Sys2Proof.Machine.execMtsr w px f8 imm s
  | .wait w px => Sys2Proof.Machine.execWait w px s
  | .ei w px => Sys2Proof.Machine.execEi w px s
  | .di w px => Sys2Proof.Machine.execDi w px s
  | .spill w px => Sys2Proof.Machine.execSpill w px s
  | .fill w px => Sys2Proof.Machine.execFill w px s
  | .sync w px => Sys2Proof.Machine.execSync w px s
  | .rstNRelease => Sys2Proof.Machine.execRstNRelease s
  | .pwrGoodRelease => Sys2Proof.Machine.execPwrGoodRelease s
  | .retentionSupplyLoss => Sys2Proof.Machine.execRetentionSupplyLoss s
  | .ilcOkClear img => Sys2Proof.Machine.execIlcOkClear img s
  | .boundaryScan ir => Sys2Proof.Machine.execBoundaryScan ir s
  | .crookAccessComplete => Sys2Proof.Machine.execCrookAccessComplete s

end Sys2Proof.Machine
end

