-- ==== Sys2Proof/Machine/Idle.lean ====
section
/-! DEFINITION. Idle.lean: what the block does while no command waits: time passes. -/

namespace Sys2Proof.Machine

/-- CLK32K cycles that may pass before an alarm that is still to come (R435); none where there is none. -/
def Chip.alarmIn (c : Chip) : Option Nat :=
  if c.bit F.PWR_WAKE_alarm_en && !c.bit F.PWR_WAKE_alarm then some c.toAlarm else none

/-- With no command waiting, time passes by an amount that is open, short of the next frame boundary and of the alarm, each of
which has a row of its own; with the root off only the sleep timer counts. -/
def Chip.idle (c : Chip) : Chip :=
  let (n, c1) := c.draw
  if c.time.rootOn then
    let room := if c.framesRun then c.boundaryRoot - c.now else 0
    let room' := match c.alarmIn with
      | some k => min room (rootPer32k * k - c.pwr.frac32)
      | none => room
    if room' = 0 then c1 else c1.advance (n % room')
  else if !c.pwr.supply then c1
  else
    let k := match c.alarmIn with
      | some k => if k = 0 then 0 else n % k
      | none => n
    let c2 := c1.wr R.PWR_TMR (c1.rd R.PWR_TMR + BitVec.ofNat 32 k)
    if c.get F.PWR_STAT_state = 3 ∨ c.get F.PWR_STAT_state = 4 then c2.setPwr fun p => { p with slept := p.slept + k } else c2

end Sys2Proof.Machine
end

