-- ==== Sys2Proof/Safety.lean ====
section
/-! DEFINITION. Safety.lean: what must hold of the device between any two commands, whatever they are. -/

namespace Sys2Proof

open Sys2Proof.Machine

/-- The PA is keyed only while the gate, the fused radio, root lock, synthesiser lock and the transmit enable allow it, and no calibration
runs (R284, R293, R309, R312). -/
def paSafe (c : Chip) : Bool := !c.rf.keyed || c.paAllowed

/-- Every slot unit that a keyed transmission has begun is counted (R292). -/
def airSafe (c : Chip) : Bool :=
  !c.rf.keyed || (match c.rf.cur with
    | some t => decide (t.unitsBy c.now ≤ c.rf.counted)
    | none => true)

/-- A time pulse is at its inactive level while it is held (R45, R47). -/
def tpSafe (c : Chip) (n : Bool) : Bool := !(c.tp n).active || !c.tpHeld n

/-- Every occurrence that a command raised has been routed (R277). -/
def evtSettled (c : Chip) : Bool := c.evt.batch.isEmpty

/-- What holds of the device between commands. -/
def safe (s : State) : Bool :=
  paSafe s.chip && airSafe s.chip && tpSafe s.chip false && tpSafe s.chip true && evtSettled s.chip

/-! ## The terms statements use -/

/-- `exec` of the command answers a next state, with the same commands waiting and the device as `P` says. -/
def Completes (i : Instr) (s : State) (P : Chip → Prop) : Prop :=
  ∃ t, exec i s = .next t ∧ t.pending = s.pending ∧ P t.chip

/-- The requester's write of the register at `a` is accepted (R8, R20, R21, R254, R257, R383, R402, R403, R431). -/
def accepts (c : Chip) (r : Req) (a : Nat) : Bool := decide (c.rowGate r true a = .accept)

/-- The requester's read of the register at `a` is accepted. -/
def acceptsRead (c : Chip) (r : Req) (a : Nat) : Bool := decide (c.rowGate r false a = .accept)

/-- The processor may issue the instruction now, and nothing but the instruction itself happens at its issue: no write is under
way, no slot is open, it has no repeat prefix, it lies where instructions may be fetched, and it is a legal encoding that the
processor's level allows. -/
def plainIssue (c : Chip) (w : Proc) (px : Px) (e : Enc) : Bool :=
  let k := c.core w
  c.canIssue w && k.pend.isEmpty && decide (k.slot = .none) && (c.fetchFault w k.pc (instrLen px e)).isNone &&
    encodingOk w.isCrook false px e && (!(w.isCrook && privileged e.op) || c.crook.mode.getLsbD 0) && px.rep.isNone &&
    (!w.isCrook || decide (c.crook.repLeft = 0))

/-- No block repeat is open in the processor. -/
def noLoop (c : Chip) (w : Proc) : Bool := (c.core w).lc.isEmpty

/-- The device as an instruction that is issued finds it: an issue ends the crook's `wait` and its state behind `rti`. -/
def atIssue (c : Chip) : Proc → Chip
  | .engine _ => c
  | .crook => { c with crook := { c.crook with waiting := false, afterRti := false, repLeft := 0, repHeld := false } }

/-- The device `d` that an instruction leaves, with what it raised stamped with the instant of its issue (R274). -/
def issued (c d : Chip) (w : Proc) : Chip := d.restamp c.evt.batch.length (c.instant w)

/-- The program counter behind an instruction of `len` bytes. -/
def pcAfter (w : Proc) (k : Core) (len : Nat) : Nat := if w.isCrook then (k.pc + len) % 2 ^ 20 else k.pc + len

/-- The device after an instruction that issued in cycle `cyc`: its writes are under way, each with its latency, and the processor
stands at the next instruction in the next cycle. -/
def moveOn (c : Chip) (w : Proc) (cyc len : Nat) (ws : List (Nat × Wr)) : Chip :=
  let k := c.core w
  c.setCore w { k with
    pc := pcAfter w k len
    cyc := cyc + 1
    pend := k.pend ++ ws.map fun p => (cyc + p.1, p.2) }

end Sys2Proof
end

