-- ==== Sys2Proof/Certificates/Slice0/Obligations.lean ====
section
/-! DEFINITION. Obligations.lean: the statements for the provers, family by family, with the tables of conditions and effects that
they use. -/

open Sys2Proof Sys2Proof.Machine

/-! ## The instructions of the engines and the crook -/

namespace Sys2Proof

/-- An instruction that only writes registers and flags: who issues it, its prefixes, its encoding, and the writes it issues (with
their latencies) as a function of what it sees. -/
structure RegMeaning where
  w : Proc
  px : Px
  enc : Enc
  op : Chip → Ctx → List (Nat × Wr)

/-- What an instruction sees when it issues. -/
def seen (c : Chip) (w : Proc) (px : Px) : Ctx := ⟨w, c.core w, px⟩

/-- The instruction issues at once and is not nullified, in a device that is settled. -/
def PlainAt (s : State) (w : Proc) (px : Px) (e : Enc) : Prop :=
  safe s = true ∧ plainIssue s.chip w px e = true ∧ noLoop s.chip w = true ∧ (seen s.chip w px).nullified = false

/-- The device after an instruction that issued the writes `ws` from the device `c`. -/
def plainAfter (c : Chip) (w : Proc) (px : Px) (e : Enc) (ws : List (Nat × Wr)) : Chip :=
  moveOn (atIssue c w) w (c.core w).cyc (instrLen px e) ws

/-- The multiply-accumulates (R135 to R138). -/
def macMeaning : Instr → Option RegMeaning
  | .mac w px f => some ⟨w, px, ⟨0x00, f.toNat⟩, fun _ => (opMac false false true f.toNat)⟩
  | .macn w px f => some ⟨w, px, ⟨0x01, f.toNat⟩, fun _ => (opMac false true true f.toNat)⟩
  | .mpy w px f => some ⟨w, px, ⟨0x02, f.toNat⟩, fun _ => (opMac false false false f.toNat)⟩
  | .mpyn w px f => some ⟨w, px, ⟨0x03, f.toNat⟩, fun _ => (opMac false true false f.toNat)⟩
  | .macj w px f => some ⟨w, px, ⟨0x04, f.toNat⟩, fun _ => (opMac true false true f.toNat)⟩
  | .macjn w px f => some ⟨w, px, ⟨0x05, f.toNat⟩, fun _ => (opMac true true true f.toNat)⟩
  | .mpyj w px f => some ⟨w, px, ⟨0x06, f.toNat⟩, fun _ => (opMac true false false f.toNat)⟩
  | .mpyjn w px f => some ⟨w, px, ⟨0x07, f.toNat⟩, fun _ => (opMac true true false f.toNat)⟩
  | .rmac w px f => some ⟨w, px, ⟨0x08, f.toNat⟩, fun _ => (opRmac false true f.toNat)⟩
  | .rmacn w px f => some ⟨w, px, ⟨0x09, f.toNat⟩, fun _ => (opRmac true true f.toNat)⟩
  | .rmpy w px f => some ⟨w, px, ⟨0x0A, f.toNat⟩, fun _ => (opRmac false false f.toNat)⟩
  | .rmpyn w px f => some ⟨w, px, ⟨0x0B, f.toNat⟩, fun _ => (opRmac true false f.toNat)⟩
  | .dmac w px f => some ⟨w, px, ⟨0x0C, f.toNat⟩, fun _ => (opDmac false true f.toNat)⟩
  | .dmacn w px f => some ⟨w, px, ⟨0x0D, f.toNat⟩, fun _ => (opDmac true true f.toNat)⟩
  | .dmpy w px f => some ⟨w, px, ⟨0x0E, f.toNat⟩, fun _ => (opDmac false false f.toNat)⟩
  | .dmpyn w px f => some ⟨w, px, ⟨0x0F, f.toNat⟩, fun _ => (opDmac true false f.toNat)⟩
  | _ => none

/-- Register multiplies and data arithmetic (R139, R142, R143). -/
def arithMeaning : Instr → Option RegMeaning
  | .add w px f => some ⟨w, px, ⟨0x10, f.toNat⟩, fun _ => (opAdd false f.toNat)⟩
  | .sub w px f => some ⟨w, px, ⟨0x11, f.toNat⟩, fun _ => (opSub false f.toNat)⟩
  | .addc w px f => some ⟨w, px, ⟨0x12, f.toNat⟩, fun _ => (opAdd true f.toNat)⟩
  | .subc w px f => some ⟨w, px, ⟨0x13, f.toNat⟩, fun _ => (opSub true f.toNat)⟩
  | .neg w px f => some ⟨w, px, ⟨0x14, f.toNat⟩, fun _ => (opNeg f.toNat)⟩
  | .abs w px f => some ⟨w, px, ⟨0x15, f.toNat⟩, fun _ => (opAbs f.toNat)⟩
  | .min w px f => some ⟨w, px, ⟨0x16, f.toNat⟩, fun _ => (opMin f.toNat)⟩
  | .max w px f => some ⟨w, px, ⟨0x17, f.toNat⟩, fun _ => (opMax f.toNat)⟩
  | .cmp w px f => some ⟨w, px, ⟨0x18, f.toNat⟩, fun _ => (opCmp f.toNat)⟩
  | .tst w px f => some ⟨w, px, ⟨0x19, f.toNat⟩, fun _ => (opTst f.toNat)⟩
  | .cadd w px f => some ⟨w, px, ⟨0x1A, f.toNat⟩, fun _ => (opCadd f.toNat)⟩
  | .csub w px f => some ⟨w, px, ⟨0x1B, f.toNat⟩, fun _ => (opCsub f.toNat)⟩
  | .cneg w px f => some ⟨w, px, ⟨0x1C, f.toNat⟩, fun _ => (opCneg f.toNat)⟩
  | .conj w px f => some ⟨w, px, ⟨0x1D, f.toNat⟩, fun _ => (opConj f.toNat)⟩
  | .mag2 w px f => some ⟨w, px, ⟨0x1E, f.toNat⟩, fun _ => (opMag2 f.toNat)⟩
  | .sat w px f => some ⟨w, px, ⟨0x1F, f.toNat⟩, fun _ => (opSat f.toNat)⟩
  | .addi w px f8 imm => some ⟨w, px, ⟨0x28, f8.toNat + 256 * imm.toNat⟩, fun _ => (opAddi f8.toNat imm)⟩
  | .subi w px f8 imm => some ⟨w, px, ⟨0x29, f8.toNat + 256 * imm.toNat⟩, fun _ => (opSubi f8.toNat imm)⟩
  | .cmpi w px f8 imm => some ⟨w, px, ⟨0x2A, f8.toNat + 256 * imm.toNat⟩, fun _ => (opCmpi f8.toNat imm)⟩
  | .mul w px f => some ⟨w, px, ⟨0x30, f.toNat⟩, fun _ => (opMul f.toNat)⟩
  | .cmul w px f => some ⟨w, px, ⟨0x31, f.toNat⟩, fun _ => (opCmul false f.toNat)⟩
  | .cmulj w px f => some ⟨w, px, ⟨0x32, f.toNat⟩, fun _ => (opCmul true f.toNat)⟩
  | .sqr w px f => some ⟨w, px, ⟨0x33, f.toNat⟩, fun _ => (opSqr f.toNat)⟩
  | _ => none

/-- Accumulator operations, normalise and exponent (R140, R141, R145, R146). -/
def accMeaning : Instr → Option RegMeaning
  | .aclr w px f => some ⟨w, px, ⟨0x20, f.toNat⟩, fun _ => (opAclr f.toNat)⟩
  | .acpy w px f => some ⟨w, px, ⟨0x21, f.toNat⟩, fun _ => (opAcpy f.toNat)⟩
  | .aadd w px f => some ⟨w, px, ⟨0x22, f.toNat⟩, fun _ => (opAadd f.toNat)⟩
  | .asub w px f => some ⟨w, px, ⟨0x23, f.toNat⟩, fun _ => (opAsub f.toNat)⟩
  | .ashl w px f => some ⟨w, px, ⟨0x24, f.toNat⟩, fun _ => (opAshl f.toNat)⟩
  | .aneg w px f => some ⟨w, px, ⟨0x25, f.toNat⟩, fun _ => (opAneg f.toNat)⟩
  | .ard w px f => some ⟨w, px, ⟨0x26, f.toNat⟩, fun _ => (opArd f.toNat)⟩
  | .awr w px f => some ⟨w, px, ⟨0x27, f.toNat⟩, fun _ => (opAwr f.toNat)⟩
  | .norm w px f => some ⟨w, px, ⟨0x48, f.toNat⟩, fun _ => (opNorm f.toNat)⟩
  | .exp w px f => some ⟨w, px, ⟨0x49, f.toNat⟩, fun _ => (opExp f.toNat)⟩
  | .bexp w px f => some ⟨w, px, ⟨0x4A, f.toNat⟩, fun _ => (opBexp f.toNat)⟩
  | .bexpc w px f => some ⟨w, px, ⟨0x4B, f.toNat⟩, fun _ => (opBexpc f.toNat)⟩
  | .anorm w px f => some ⟨w, px, ⟨0x4C, f.toNat⟩, fun _ => (opAnorm f.toNat)⟩
  | .aexp w px f => some ⟨w, px, ⟨0x4D, f.toNat⟩, fun _ => (opAexp f.toNat)⟩
  | _ => none

/-- Shifts and logic (R144). -/
def logicMeaning : Instr → Option RegMeaning
  | .asl w px f => some ⟨w, px, ⟨0x40, f.toNat⟩, fun _ => (opAsl f.toNat)⟩
  | .asr w px f => some ⟨w, px, ⟨0x41, f.toNat⟩, fun _ => (opAsr f.toNat)⟩
  | .lsl w px f => some ⟨w, px, ⟨0x42, f.toNat⟩, fun _ => (opLsl f.toNat)⟩
  | .lsr w px f => some ⟨w, px, ⟨0x43, f.toNat⟩, fun _ => (opLsr f.toNat)⟩
  | .asli w px f8 imm => some ⟨w, px, ⟨0x44, f8.toNat + 256 * imm.toNat⟩, fun _ => (opAsli f8.toNat imm)⟩
  | .asri w px f8 imm => some ⟨w, px, ⟨0x45, f8.toNat + 256 * imm.toNat⟩, fun _ => (opAsri f8.toNat imm)⟩
  | .lsli w px f8 imm => some ⟨w, px, ⟨0x46, f8.toNat + 256 * imm.toNat⟩, fun _ => (opLsli f8.toNat imm)⟩
  | .lsri w px f8 imm => some ⟨w, px, ⟨0x47, f8.toNat + 256 * imm.toNat⟩, fun _ => (opLsri f8.toNat imm)⟩
  | .rol w px f => some ⟨w, px, ⟨0x4E, f.toNat⟩, fun _ => (opRol f.toNat)⟩
  | .ror w px f => some ⟨w, px, ⟨0x4F, f.toNat⟩, fun _ => (opRor f.toNat)⟩
  | .and w px f => some ⟨w, px, ⟨0x50, f.toNat⟩, fun _ => (opAnd f.toNat)⟩
  | .or w px f => some ⟨w, px, ⟨0x51, f.toNat⟩, fun _ => (opOr f.toNat)⟩
  | .xor w px f => some ⟨w, px, ⟨0x52, f.toNat⟩, fun _ => (opXor f.toNat)⟩
  | .not w px f => some ⟨w, px, ⟨0x53, f.toNat⟩, fun _ => (opNot f.toNat)⟩
  | .andi w px f8 imm => some ⟨w, px, ⟨0x54, f8.toNat + 256 * imm.toNat⟩, fun _ => (opAndi f8.toNat imm)⟩
  | .ori w px f8 imm => some ⟨w, px, ⟨0x55, f8.toNat + 256 * imm.toNat⟩, fun _ => (opOri f8.toNat imm)⟩
  | .xori w px f8 imm => some ⟨w, px, ⟨0x56, f8.toNat + 256 * imm.toNat⟩, fun _ => (opXori f8.toNat imm)⟩
  | .bset w px f8 imm => some ⟨w, px, ⟨0x57, f8.toNat + 256 * imm.toNat⟩, fun _ => (opBset f8.toNat imm)⟩
  | .bclr w px f8 imm => some ⟨w, px, ⟨0x58, f8.toNat + 256 * imm.toNat⟩, fun _ => (opBclr f8.toNat imm)⟩
  | .btst w px f8 imm => some ⟨w, px, ⟨0x59, f8.toNat + 256 * imm.toNat⟩, fun _ => (opBtst f8.toNat imm)⟩
  | .bchg w px f8 imm => some ⟨w, px, ⟨0x5A, f8.toNat + 256 * imm.toNat⟩, fun _ => (opBchg f8.toNat imm)⟩
  | .popc w px f => some ⟨w, px, ⟨0x5B, f.toNat⟩, fun _ => (opPopc f.toNat)⟩
  | .clz w px f => some ⟨w, px, ⟨0x5C, f.toNat⟩, fun _ => (opClz f.toNat)⟩
  | _ => none

/-- Decimal and bit-field operations (R173 to R177). -/
def decimalMeaning : Instr → Option RegMeaning
  | .dadd w px f => some ⟨w, px, ⟨0xC0, f.toNat⟩, fun _ => (opDadd f.toNat)⟩
  | .dsub w px f => some ⟨w, px, ⟨0xC1, f.toNat⟩, fun _ => (opDsub f.toNat)⟩
  | .dadj w px f => some ⟨w, px, ⟨0xC2, f.toNat⟩, fun _ => (opDadj f.toNat)⟩
  | .bcd w px f => some ⟨w, px, ⟨0xC3, f.toNat⟩, fun _ => (opBcd f.toNat)⟩
  | .bin w px f => some ⟨w, px, ⟨0xC4, f.toNat⟩, fun _ => (opBin f.toNat)⟩
  | .bfx w px f imm => some ⟨w, px, ⟨0xC6, f.toNat + 65536 * imm.toNat⟩, fun _ => (opBfx f.toNat imm.toNat)⟩
  | .bfxu w px f imm => some ⟨w, px, ⟨0xC7, f.toNat + 65536 * imm.toNat⟩, fun _ => (opBfxu f.toNat imm.toNat)⟩
  | .bfi w px f imm => some ⟨w, px, ⟨0xC8, f.toNat + 65536 * imm.toNat⟩, fun _ => (opBfi f.toNat imm.toNat)⟩
  | _ => none

/-- Register, flag and feature moves (R157, R158). -/
def moveMeaning : Instr → Option RegMeaning
  | .mov w px f => some ⟨w, px, ⟨0x70, f.toNat⟩, fun _ => (opMov f.toNat)⟩
  | .movc w px f => some ⟨w, px, ⟨0x71, f.toNat⟩, fun _ => (opMovc f.toNat)⟩
  | .ldi w px f8 imm => some ⟨w, px, ⟨0x72, f8.toNat + 256 * imm.toNat⟩, fun _ => (opLdi f8.toNat imm)⟩
  | .mvar w px f => some ⟨w, px, ⟨0x74, f.toNat⟩, fun _ => (opMvar f.toNat)⟩
  | .mvra w px f => some ⟨w, px, ⟨0x75, f.toNat⟩, fun _ => (opMvra f.toNat)⟩
  | .ldai w px f8 imm => some ⟨w, px, ⟨0x76, f8.toNat + 256 * imm.toNat⟩, fun _ => (opLdai f8.toNat imm)⟩
  | .addai w px f8 imm => some ⟨w, px, ⟨0x77, f8.toNat + 256 * imm.toNat⟩, fun _ => (opAddai f8.toNat imm)⟩
  | .mvf w px f8 g8 => some ⟨w, px, ⟨0x78, f8.toNat + 256 * g8.toNat⟩, fun _ => (opMvf f8.toNat g8.toNat)⟩
  | .mtf w px f8 g8 => some ⟨w, px, ⟨0x79, f8.toNat + 256 * g8.toNat⟩, fun _ => (opMtf f8.toNat)⟩
  | .mvfeat w px f8 g8 => some ⟨w, px, ⟨0x7A, f8.toNat + 256 * g8.toNat⟩, fun c x => [x.setD 1 (f8.toNat % 32) (xres (c.feat x.w (g8.toNat % 4)))]⟩
  | .ldg w px f8 g8 => some ⟨w, px, ⟨0x6B, f8.toNat + 256 * g8.toNat⟩, fun _ => (opLdg f8.toNat g8.toNat)⟩
  | .mtsr w px f8 imm => some ⟨w, px, ⟨0xD2, f8.toNat + 256 * imm.toNat⟩, fun _ => (opMtsr f8.toNat imm.toNat)⟩
  | .nop w px => some ⟨w, px, ⟨0xA9, 0⟩, fun _ _ => []⟩
  | _ => none

end Sys2Proof

/-- The multiply-accumulate instructions (0x00 to 0x0F) complete and change nothing but the processor. -/
def Obligations.MacInstructionsComplete : Prop :=
  ∀ (i : Instr) (s : State) (m : RegMeaning), macMeaning i = some m → PlainAt s m.w m.px m.enc →
    exec i s = .next { s with chip := plainAfter s.chip m.w m.px m.enc (m.op (atIssue s.chip m.w) (seen s.chip m.w m.px)) }

/-- The register multiplies and data arithmetic (0x10 to 0x1F, 0x28 to 0x2A, 0x30 to 0x33) complete and change nothing but the processor. -/
def Obligations.ArithmeticInstructionsComplete : Prop :=
  ∀ (i : Instr) (s : State) (m : RegMeaning), arithMeaning i = some m → PlainAt s m.w m.px m.enc →
    exec i s = .next { s with chip := plainAfter s.chip m.w m.px m.enc (m.op (atIssue s.chip m.w) (seen s.chip m.w m.px)) }

/-- The accumulator operations, normalise and exponent complete and change nothing but the processor. -/
def Obligations.AccumulatorInstructionsComplete : Prop :=
  ∀ (i : Instr) (s : State) (m : RegMeaning), accMeaning i = some m → PlainAt s m.w m.px m.enc →
    exec i s = .next { s with chip := plainAfter s.chip m.w m.px m.enc (m.op (atIssue s.chip m.w) (seen s.chip m.w m.px)) }

/-- The shifts, rotates, logic and bit operations complete and change nothing but the processor. -/
def Obligations.LogicInstructionsComplete : Prop :=
  ∀ (i : Instr) (s : State) (m : RegMeaning), logicMeaning i = some m → PlainAt s m.w m.px m.enc →
    exec i s = .next { s with chip := plainAfter s.chip m.w m.px m.enc (m.op (atIssue s.chip m.w) (seen s.chip m.w m.px)) }

/-- The decimal and bit-field instructions complete and change nothing but the processor. -/
def Obligations.DecimalInstructionsComplete : Prop :=
  ∀ (i : Instr) (s : State) (m : RegMeaning), decimalMeaning i = some m → PlainAt s m.w m.px m.enc →
    exec i s = .next { s with chip := plainAfter s.chip m.w m.px m.enc (m.op (atIssue s.chip m.w) (seen s.chip m.w m.px)) }

/-- The register, flag and feature moves, ldg, mtsr and nop complete and change nothing but the processor. -/
def Obligations.MoveInstructionsComplete : Prop :=
  ∀ (i : Instr) (s : State) (m : RegMeaning), moveMeaning i = some m → PlainAt s m.w m.px m.enc →
    exec i s = .next { s with chip := plainAfter s.chip m.w m.px m.enc (m.op (atIssue s.chip m.w) (seen s.chip m.w m.px)) }

namespace Sys2Proof

/-- Every instruction of an engine or the crook: who issues it, its prefixes and its encoding. -/
def encOf : Instr → Option (Proc × Px × Enc)
  | .mac w px f => some (w, px, ⟨0x00, f.toNat⟩)
  | .macn w px f => some (w, px, ⟨0x01, f.toNat⟩)
  | .mpy w px f => some (w, px, ⟨0x02, f.toNat⟩)
  | .mpyn w px f => some (w, px, ⟨0x03, f.toNat⟩)
  | .macj w px f => some (w, px, ⟨0x04, f.toNat⟩)
  | .macjn w px f => some (w, px, ⟨0x05, f.toNat⟩)
  | .mpyj w px f => some (w, px, ⟨0x06, f.toNat⟩)
  | .mpyjn w px f => some (w, px, ⟨0x07, f.toNat⟩)
  | .rmac w px f => some (w, px, ⟨0x08, f.toNat⟩)
  | .rmacn w px f => some (w, px, ⟨0x09, f.toNat⟩)
  | .rmpy w px f => some (w, px, ⟨0x0A, f.toNat⟩)
  | .rmpyn w px f => some (w, px, ⟨0x0B, f.toNat⟩)
  | .dmac w px f => some (w, px, ⟨0x0C, f.toNat⟩)
  | .dmacn w px f => some (w, px, ⟨0x0D, f.toNat⟩)
  | .dmpy w px f => some (w, px, ⟨0x0E, f.toNat⟩)
  | .dmpyn w px f => some (w, px, ⟨0x0F, f.toNat⟩)
  | .add w px f => some (w, px, ⟨0x10, f.toNat⟩)
  | .sub w px f => some (w, px, ⟨0x11, f.toNat⟩)
  | .addc w px f => some (w, px, ⟨0x12, f.toNat⟩)
  | .subc w px f => some (w, px, ⟨0x13, f.toNat⟩)
  | .neg w px f => some (w, px, ⟨0x14, f.toNat⟩)
  | .abs w px f => some (w, px, ⟨0x15, f.toNat⟩)
  | .min w px f => some (w, px, ⟨0x16, f.toNat⟩)
  | .max w px f => some (w, px, ⟨0x17, f.toNat⟩)
  | .cmp w px f => some (w, px, ⟨0x18, f.toNat⟩)
  | .tst w px f => some (w, px, ⟨0x19, f.toNat⟩)
  | .cadd w px f => some (w, px, ⟨0x1A, f.toNat⟩)
  | .csub w px f => some (w, px, ⟨0x1B, f.toNat⟩)
  | .cneg w px f => some (w, px, ⟨0x1C, f.toNat⟩)
  | .conj w px f => some (w, px, ⟨0x1D, f.toNat⟩)
  | .mag2 w px f => some (w, px, ⟨0x1E, f.toNat⟩)
  | .sat w px f => some (w, px, ⟨0x1F, f.toNat⟩)
  | .aclr w px f => some (w, px, ⟨0x20, f.toNat⟩)
  | .acpy w px f => some (w, px, ⟨0x21, f.toNat⟩)
  | .aadd w px f => some (w, px, ⟨0x22, f.toNat⟩)
  | .asub w px f => some (w, px, ⟨0x23, f.toNat⟩)
  | .ashl w px f => some (w, px, ⟨0x24, f.toNat⟩)
  | .aneg w px f => some (w, px, ⟨0x25, f.toNat⟩)
  | .ard w px f => some (w, px, ⟨0x26, f.toNat⟩)
  | .awr w px f => some (w, px, ⟨0x27, f.toNat⟩)
  | .addi w px f8 imm => some (w, px, ⟨0x28, f8.toNat + 256 * imm.toNat⟩)
  | .subi w px f8 imm => some (w, px, ⟨0x29, f8.toNat + 256 * imm.toNat⟩)
  | .cmpi w px f8 imm => some (w, px, ⟨0x2A, f8.toNat + 256 * imm.toNat⟩)
  | .mul w px f => some (w, px, ⟨0x30, f.toNat⟩)
  | .cmul w px f => some (w, px, ⟨0x31, f.toNat⟩)
  | .cmulj w px f => some (w, px, ⟨0x32, f.toNat⟩)
  | .sqr w px f => some (w, px, ⟨0x33, f.toNat⟩)
  | .asl w px f => some (w, px, ⟨0x40, f.toNat⟩)
  | .asr w px f => some (w, px, ⟨0x41, f.toNat⟩)
  | .lsl w px f => some (w, px, ⟨0x42, f.toNat⟩)
  | .lsr w px f => some (w, px, ⟨0x43, f.toNat⟩)
  | .asli w px f8 imm => some (w, px, ⟨0x44, f8.toNat + 256 * imm.toNat⟩)
  | .asri w px f8 imm => some (w, px, ⟨0x45, f8.toNat + 256 * imm.toNat⟩)
  | .lsli w px f8 imm => some (w, px, ⟨0x46, f8.toNat + 256 * imm.toNat⟩)
  | .lsri w px f8 imm => some (w, px, ⟨0x47, f8.toNat + 256 * imm.toNat⟩)
  | .norm w px f => some (w, px, ⟨0x48, f.toNat⟩)
  | .exp w px f => some (w, px, ⟨0x49, f.toNat⟩)
  | .bexp w px f => some (w, px, ⟨0x4A, f.toNat⟩)
  | .bexpc w px f => some (w, px, ⟨0x4B, f.toNat⟩)
  | .anorm w px f => some (w, px, ⟨0x4C, f.toNat⟩)
  | .aexp w px f => some (w, px, ⟨0x4D, f.toNat⟩)
  | .rol w px f => some (w, px, ⟨0x4E, f.toNat⟩)
  | .ror w px f => some (w, px, ⟨0x4F, f.toNat⟩)
  | .and w px f => some (w, px, ⟨0x50, f.toNat⟩)
  | .or w px f => some (w, px, ⟨0x51, f.toNat⟩)
  | .xor w px f => some (w, px, ⟨0x52, f.toNat⟩)
  | .not w px f => some (w, px, ⟨0x53, f.toNat⟩)
  | .andi w px f8 imm => some (w, px, ⟨0x54, f8.toNat + 256 * imm.toNat⟩)
  | .ori w px f8 imm => some (w, px, ⟨0x55, f8.toNat + 256 * imm.toNat⟩)
  | .xori w px f8 imm => some (w, px, ⟨0x56, f8.toNat + 256 * imm.toNat⟩)
  | .bset w px f8 imm => some (w, px, ⟨0x57, f8.toNat + 256 * imm.toNat⟩)
  | .bclr w px f8 imm => some (w, px, ⟨0x58, f8.toNat + 256 * imm.toNat⟩)
  | .btst w px f8 imm => some (w, px, ⟨0x59, f8.toNat + 256 * imm.toNat⟩)
  | .bchg w px f8 imm => some (w, px, ⟨0x5A, f8.toNat + 256 * imm.toNat⟩)
  | .popc w px f => some (w, px, ⟨0x5B, f.toNat⟩)
  | .clz w px f => some (w, px, ⟨0x5C, f.toNat⟩)
  | .ldx w px m disp => some (w, px, ⟨0x60, mPayload m disp⟩)
  | .stx w px m disp => some (w, px, ⟨0x61, mPayload m disp⟩)
  | .ldy w px m disp => some (w, px, ⟨0x62, mPayload m disp⟩)
  | .sty w px m disp => some (w, px, ⟨0x63, mPayload m disp⟩)
  | .ldz w px m disp => some (w, px, ⟨0x64, mPayload m disp⟩)
  | .stz w px m disp => some (w, px, ⟨0x65, mPayload m disp⟩)
  | .ldxc w px m disp => some (w, px, ⟨0x66, mPayload m disp⟩)
  | .stxc w px m disp => some (w, px, ⟨0x67, mPayload m disp⟩)
  | .ldyc w px m disp => some (w, px, ⟨0x68, mPayload m disp⟩)
  | .ldzc w px m disp => some (w, px, ⟨0x69, mPayload m disp⟩)
  | .stzc w px m disp => some (w, px, ⟨0x6A, mPayload m disp⟩)
  | .ldg w px f8 g8 => some (w, px, ⟨0x6B, f8.toNat + 256 * g8.toNat⟩)
  | .stg w px f8 g8 => some (w, px, ⟨0x6C, f8.toNat + 256 * g8.toNat⟩)
  | .mov w px f => some (w, px, ⟨0x70, f.toNat⟩)
  | .movc w px f => some (w, px, ⟨0x71, f.toNat⟩)
  | .ldi w px f8 imm => some (w, px, ⟨0x72, f8.toNat + 256 * imm.toNat⟩)
  | .mvar w px f => some (w, px, ⟨0x74, f.toNat⟩)
  | .mvra w px f => some (w, px, ⟨0x75, f.toNat⟩)
  | .ldai w px f8 imm => some (w, px, ⟨0x76, f8.toNat + 256 * imm.toNat⟩)
  | .addai w px f8 imm => some (w, px, ⟨0x77, f8.toNat + 256 * imm.toNat⟩)
  | .mvf w px f8 g8 => some (w, px, ⟨0x78, f8.toNat + 256 * g8.toNat⟩)
  | .mtf w px f8 g8 => some (w, px, ⟨0x79, f8.toNat + 256 * g8.toNat⟩)
  | .mvfeat w px f8 g8 => some (w, px, ⟨0x7A, f8.toNat + 256 * g8.toNat⟩)
  | .ld8 w px m disp => some (w, px, ⟨0x7B, mPayload m disp⟩)
  | .st8 w px m disp => some (w, px, ⟨0x7C, mPayload m disp⟩)
  | .ld16 w px m disp => some (w, px, ⟨0x7D, mPayload m disp⟩)
  | .st16 w px m disp => some (w, px, ⟨0x7E, mPayload m disp⟩)
  | .macPl w px f v24 => some (w, px, ⟨0x80, f.toNat + 65536 * v24.toNat⟩)
  | .macnPl w px f v24 => some (w, px, ⟨0x81, f.toNat + 65536 * v24.toNat⟩)
  | .mpyPl w px f v24 => some (w, px, ⟨0x82, f.toNat + 65536 * v24.toNat⟩)
  | .mpynPl w px f v24 => some (w, px, ⟨0x83, f.toNat + 65536 * v24.toNat⟩)
  | .macjPl w px f v24 => some (w, px, ⟨0x84, f.toNat + 65536 * v24.toNat⟩)
  | .macjnPl w px f v24 => some (w, px, ⟨0x85, f.toNat + 65536 * v24.toNat⟩)
  | .rmacPl w px f v24 => some (w, px, ⟨0x86, f.toNat + 65536 * v24.toNat⟩)
  | .rmacnPl w px f v24 => some (w, px, ⟨0x87, f.toNat + 65536 * v24.toNat⟩)
  | .dmacPl w px f v24 => some (w, px, ⟨0x88, f.toNat + 65536 * v24.toNat⟩)
  | .dmacnPl w px f v24 => some (w, px, ⟨0x89, f.toNat + 65536 * v24.toNat⟩)
  | .dmpyPl w px f v24 => some (w, px, ⟨0x8A, f.toNat + 65536 * v24.toNat⟩)
  | .addPl w px f v24 => some (w, px, ⟨0x8B, f.toNat + 65536 * v24.toNat⟩)
  | .subPl w px f v24 => some (w, px, ⟨0x8C, f.toNat + 65536 * v24.toNat⟩)
  | .movPl w px f v24 => some (w, px, ⟨0x8D, f.toNat + 65536 * v24.toNat⟩)
  | .caddPl w px f v24 => some (w, px, ⟨0x8E, f.toNat + 65536 * v24.toNat⟩)
  | .csubPl w px f v24 => some (w, px, ⟨0x8F, f.toNat + 65536 * v24.toNat⟩)
  | .macPs w px f v24 => some (w, px, ⟨0x90, f.toNat + 65536 * v24.toNat⟩)
  | .macnPs w px f v24 => some (w, px, ⟨0x91, f.toNat + 65536 * v24.toNat⟩)
  | .rmacPs w px f v24 => some (w, px, ⟨0x92, f.toNat + 65536 * v24.toNat⟩)
  | .dmacPs w px f v24 => some (w, px, ⟨0x93, f.toNat + 65536 * v24.toNat⟩)
  | .addPs w px f v24 => some (w, px, ⟨0x94, f.toNat + 65536 * v24.toNat⟩)
  | .movPs w px f v24 => some (w, px, ⟨0x95, f.toNat + 65536 * v24.toNat⟩)
  | .pmvPl w px f v24 => some (w, px, ⟨0x96, f.toNat + 65536 * v24.toNat⟩)
  | .pmvPs w px f v24 => some (w, px, ⟨0x97, f.toNat + 65536 * v24.toNat⟩)
  | .br w px c8 off => some (w, px, ⟨0xA0, c8.toNat + 256 * off.toNat⟩)
  | .call w px c8 off => some (w, px, ⟨0xA1, c8.toNat + 256 * off.toNat⟩)
  | .jr w px c8 => some (w, px, ⟨0xA2, c8.toNat⟩)
  | .callr w px c8 => some (w, px, ⟨0xA3, c8.toNat⟩)
  | .ret w px c8 => some (w, px, ⟨0xA4, c8.toNat⟩)
  | .brep w px f8 cnt blen => some (w, px, ⟨0xA5, f8.toNat + 256 * cnt.toNat + 2 ^ 24 * blen.toNat⟩)
  | .brepr w px f8 cnt blen => some (w, px, ⟨0xA6, f8.toNat + 256 * cnt.toNat + 2 ^ 24 * blen.toNat⟩)
  | .bbrk w px => some (w, px, ⟨0xA7, 0⟩)
  | .fend w px => some (w, px, ⟨0xA8, 0⟩)
  | .nop w px => some (w, px, ⟨0xA9, 0⟩)
  | .trap w px f8 g8 => some (w, px, ⟨0xB0, f8.toNat + 256 * g8.toNat⟩)
  | .dadd w px f => some (w, px, ⟨0xC0, f.toNat⟩)
  | .dsub w px f => some (w, px, ⟨0xC1, f.toNat⟩)
  | .dadj w px f => some (w, px, ⟨0xC2, f.toNat⟩)
  | .bcd w px f => some (w, px, ⟨0xC3, f.toNat⟩)
  | .bin w px f => some (w, px, ⟨0xC4, f.toNat⟩)
  | .bfx w px f imm => some (w, px, ⟨0xC6, f.toNat + 65536 * imm.toNat⟩)
  | .bfxu w px f imm => some (w, px, ⟨0xC7, f.toNat + 65536 * imm.toNat⟩)
  | .bfi w px f imm => some (w, px, ⟨0xC8, f.toNat + 65536 * imm.toNat⟩)
  | .rti w px => some (w, px, ⟨0xD0, 0⟩)
  | .mvsr w px f8 imm => some (w, px, ⟨0xD1, f8.toNat + 256 * imm.toNat⟩)
  | .mtsr w px f8 imm => some (w, px, ⟨0xD2, f8.toNat + 256 * imm.toNat⟩)
  | .wait w px => some (w, px, ⟨0xD3, 0⟩)
  | .ei w px => some (w, px, ⟨0xD4, 0⟩)
  | .di w px => some (w, px, ⟨0xD5, 0⟩)
  | .spill w px => some (w, px, ⟨0xD6, 0⟩)
  | .fill w px => some (w, px, ⟨0xD7, 0⟩)
  | .sync w px => some (w, px, ⟨0xD8, 0⟩)
  | _ => none

/-- The processor that issues an instruction may not. -/
def mayNotIssue (i : Instr) (c : Chip) : Bool :=
  match encOf i with
  | some (w, _, _) => !c.canIssue w
  | none => false

end Sys2Proof

/-- An instruction whose condition prefix is false changes nothing but the program counter and the cycle. -/
def Obligations.NullifiedInstructionOnlyMovesOn : Prop :=
  ∀ (i : Instr) (s : State) (w : Proc) (px : Px) (e : Enc), encOf i = some (w, px, e) → safe s = true →
    plainIssue s.chip w px e = true → noLoop s.chip w = true → (seen s.chip w px).nullified = true →
    exec i s = .next { s with chip := plainAfter s.chip w px e [] }

/-- An instruction given to a processor that may not issue changes nothing. -/
def Obligations.ProcessorThatMayNotIssueStandsStill : Prop :=
  ∀ (i : Instr) (s : State), mayNotIssue i s.chip = true → safe s = true → exec i s = .next s

/-- rep.u n issues an instruction n + 1 times, one cycle each, and then goes on behind it. -/
def Obligations.RepeatedInstructionTakesItsIterations : Prop :=
  ∀ (i : Instr) (s : State) (m : RegMeaning) (n1 : Byte),
    (macMeaning i = some m ∨ arithMeaning i = some m ∨ accMeaning i = some m ∨ logicMeaning i = some m) →
    m.px.rep = some (.u n1) → plainIssue s.chip m.w { m.px with rep := none } m.enc = true → noLoop s.chip m.w = true →
    (s.chip.fetchFault m.w (s.chip.core m.w).pc (instrLen m.px m.enc)) = none → encodingOk m.w.isCrook false m.px m.enc = true →
    m.px.cond = none → (m.w = .crook → s.chip.crook.afterRti = false) →
    (∀ c x, ∀ p ∈ m.op c x, ∀ k v, p.2 ≠ .sys k v) → (m.w.isCrook = true ∨ (s.chip.core m.w).cyc + n1.toNat < s.chip.tailCycle) →
    Completes i s fun d => (d.core m.w).cyc = (s.chip.core m.w).cyc + n1.toNat + 1 ∧
      (d.core m.w).pc = pcAfter m.w (s.chip.core m.w) (instrLen m.px m.enc)

namespace Sys2Proof

/-- A load or store of class M: its bus, whether a pair, the bytes of one register, and whether it extends (a load) or stores raw
(a store) a byte or half-word (R153). -/
structure MemMeaning where
  w : Proc
  px : Px
  enc : Enc
  bus : Nat
  pair : Bool
  bytes : Nat
  narrow : Bool
  m : Word16
  disp : Word16

/-- The loads (R153). -/
def loadMeaning : Instr → Option MemMeaning
  | .ldx w px m disp => some ⟨w, px, ⟨0x60, mPayload m disp⟩, 0, false, 4, false, m, disp⟩
  | .ldy w px m disp => some ⟨w, px, ⟨0x62, mPayload m disp⟩, 1, false, 4, false, m, disp⟩
  | .ldz w px m disp => some ⟨w, px, ⟨0x64, mPayload m disp⟩, 2, false, 4, false, m, disp⟩
  | .ldxc w px m disp => some ⟨w, px, ⟨0x66, mPayload m disp⟩, 0, true, 4, false, m, disp⟩
  | .ldyc w px m disp => some ⟨w, px, ⟨0x68, mPayload m disp⟩, 1, true, 4, false, m, disp⟩
  | .ldzc w px m disp => some ⟨w, px, ⟨0x69, mPayload m disp⟩, 2, true, 4, false, m, disp⟩
  | .ld8 w px m disp => some ⟨w, px, ⟨0x7B, mPayload m disp⟩, 0, false, 1, true, m, disp⟩
  | .ld16 w px m disp => some ⟨w, px, ⟨0x7D, mPayload m disp⟩, 0, false, 2, true, m, disp⟩
  | _ => none

/-- The stores (R153). -/
def storeMeaning : Instr → Option MemMeaning
  | .stx w px m disp => some ⟨w, px, ⟨0x61, mPayload m disp⟩, 0, false, 4, false, m, disp⟩
  | .sty w px m disp => some ⟨w, px, ⟨0x63, mPayload m disp⟩, 1, false, 4, false, m, disp⟩
  | .stz w px m disp => some ⟨w, px, ⟨0x65, mPayload m disp⟩, 2, false, 4, false, m, disp⟩
  | .stxc w px m disp => some ⟨w, px, ⟨0x67, mPayload m disp⟩, 0, true, 4, false, m, disp⟩
  | .stzc w px m disp => some ⟨w, px, ⟨0x6A, mPayload m disp⟩, 2, true, 4, false, m, disp⟩
  | .st8 w px m disp => some ⟨w, px, ⟨0x7C, mPayload m disp⟩, 0, false, 1, true, m, disp⟩
  | .st16 w px m disp => some ⟨w, px, ⟨0x7E, mPayload m disp⟩, 0, false, 2, true, m, disp⟩
  | _ => none

/-- What a load reads where it can be served now: the words in order, and the device they leave. An engine reads its bus; the
crook reads RAM at aligned addresses, which `sync` then waits for (R170). -/
def readsNow (c : Chip) (x : Ctx) (o : MemOp) (narrow : Bool) : Option (List PWord × Chip) :=
  match x.w with
  | .engine n =>
    match c.engLoad n.val x.k.cyc o.bus o.addrs with
    | .ok r => some r
    | .error _ => none
  | .crook =>
    if o.addrs.all fun a => isRam a && a % o.bytes == 0 then
      some (o.addrs.map fun a => if narrow then BitVec.ofNat 40 (Mem.read c.mem a o.bytes)
        else wordToP (BitVec.ofNat 32 (Mem.read c.mem a o.bytes)), c.ramAccess (busLat o.bus))
    else none

/-- What a store issues where it can be taken now: the writes under way, and the device it leaves. The crook stores to RAM at
aligned addresses that no bundle is being copied to. -/
def storesNow (c : Chip) (x : Ctx) (o : MemOp) (raw : Bool) : Option (List (Nat × Wr) × Chip) :=
  let vs := o.regs.map x.d
  match x.w with
  | .engine n =>
    match c.engStore n.val x.k.cyc o.bus x.storeMode o.addrs vs with
    | .ok (c1, ws) => some (ws, c1)
    | .error _ => none
  | .crook =>
    let (words, s, _) := convWords x.storeMode 1 0 vs
    let data := if raw then vs.map (fun v => pU v % 2 ^ (8 * o.bytes)) else words.map (·.toNat)
    if o.addrs.all fun a => isRam a && a % o.bytes == 0 && !c.bootRefused true a o.bytes then
      some ((o.addrs.zip data).map (fun p => (2, Wr.ram p.1 o.bytes p.2)) ++ vsW 1 false (s && !raw), c.ramAccess 2)
    else none

/-- The operand of a class M instruction at its issue. -/
def memOperand (s : State) (m : MemMeaning) : Except Trap MemOp :=
  opndM m.m.toNat m.disp m.bus m.pair m.bytes (atIssue s.chip m.w) (seen s.chip m.w m.px)

end Sys2Proof

/-- A load puts the words at its effective addresses under way to its registers and updates its address register. -/
def Obligations.LoadInstructionsComplete : Prop :=
  ∀ (i : Instr) (s : State) (m : MemMeaning) (o : MemOp) (vs : List PWord) (c1 : Chip), loadMeaning i = some m →
    PlainAt s m.w m.px m.enc → memOperand s m = .ok o →
    (atIssue s.chip m.w).protect (seen s.chip m.w m.px) [(false, o)] = .ok () →
    readsNow (atIssue s.chip m.w) (seen s.chip m.w m.px) o m.narrow = some (vs, c1) →
    exec i s = .next (⟨s.pending, (moveOn (issued s.chip c1 m.w) m.w (s.chip.core m.w).cyc (instrLen m.px m.enc)
      ((o.regs.zip vs).map (fun p => (seen s.chip m.w m.px).setD (busLat o.bus) p.1 p.2) ++ o.updW)).settle⟩ : State)

/-- A store puts its words under way to the bytes at its effective addresses and nowhere else. -/
def Obligations.StoreInstructionsComplete : Prop :=
  ∀ (i : Instr) (s : State) (m : MemMeaning) (o : MemOp) (ws : List (Nat × Wr)) (c1 : Chip), storeMeaning i = some m →
    PlainAt s m.w m.px m.enc → memOperand s m = .ok o →
    (atIssue s.chip m.w).protect (seen s.chip m.w m.px) [(true, o)] = .ok () →
    storesNow (atIssue s.chip m.w) (seen s.chip m.w m.px) o m.narrow = some (ws, c1) →
    exec i s = .next { s with chip :=
      (moveOn (issued s.chip c1 m.w) m.w (s.chip.core m.w).cyc (instrLen m.px m.enc) (ws ++ o.updW)).settle }

/-- A store to RAM that lands writes its bytes, least significant first, and leaves every other byte as it was. -/
def Obligations.RamStoreLandsOnItsBytesOnly : Prop :=
  ∀ (c : Chip) (a n v : Nat),
    (∀ k, k < n → (c.landOuter (.ram a n v)).mem.byte (a + k) = BitVec.ofNat 8 (v / 256 ^ k)) ∧
    (∀ b, b < a ∨ a + n ≤ b → (c.landOuter (.ram a n v)).mem.byte b = c.mem.byte b) ∧
    ∀ r, (c.landOuter (.ram a n v)).rd r = c.rd r

/-- A crook load or store that leaves RAM holds issue. -/
def Obligations.CrookAccessOutsideRamHoldsIssue : Prop :=
  ∀ (i : Instr) (s : State) (m : MemMeaning) (o : MemOp) (a : Nat), m.w = .crook → PlainAt s m.w m.px m.enc →
    memOperand s m = .ok o → o.addrs = [a] → o.regs.length = 1 → isRam a = false →
    (loadMeaning i = some m → (atIssue s.chip m.w).protect (seen s.chip m.w m.px) [(false, o)] = .ok () →
      Completes i s fun d => d.canIssue .crook = false ∧ d.crook.loads.map (fun l => (l.addr, l.bytes)) = [(a, o.bytes)]) ∧
    (storeMeaning i = some m → (atIssue s.chip m.w).protect (seen s.chip m.w m.px) [(true, o)] = .ok () →
      Completes i s fun d => d.canIssue .crook = false ∧ d.crook.stores.map (fun l => (l.addr, l.bytes)) = [(a, o.bytes)])

/-- stg puts the converted register under way to an output word. -/
def Obligations.StgConvertsIntoTheGateBuffer : Prop :=
  ∀ (s : State) (n : Fin 17) (px : Px) (f8 g8 : Byte), PlainAt s (.engine n) px ⟨0x6C, f8.toNat + 256 * g8.toNat⟩ →
    let c := s.chip
    let x := seen c (.engine n) px
    let v := x.d (f8.toNat % 32)
    let g1 := if x.storeMode = 2 then ditherNext x.k.g else x.k.g
    let r := convert x.storeMode (c.stgStep n.val g8.toNat) g1 (pR v)
    let after := moveOn (c.setCore (.engine n) { x.k with g := g1 }) (.engine n) x.k.cyc
      (instrLen px ⟨0x6C, f8.toNat + 256 * g8.toNat⟩) ((2, Wr.outw (g8.toNat % 64) r.1) :: vsW 1 false r.2)
    exec (.stg (.engine n) px f8 g8) s = .next { s with chip := after }

namespace Sys2Proof

/-- A parallel-move instruction (R159): opcode, its two fields, and the writes of its arithmetic. -/
structure ParMeaning where
  w : Proc
  px : Px
  o : Nat
  f : Word16
  v24 : BitVec 24
  arith : Ctx → List (Nat × Wr)

/-- The parallel-move instructions (0x80 to 0x97). -/
def parMeaning : Instr → Option ParMeaning
  | .macPl w px f v24 => some ⟨w, px, 0x80, f, v24, (opMac false false true f.toNat)⟩
  | .macnPl w px f v24 => some ⟨w, px, 0x81, f, v24, (opMac false true true f.toNat)⟩
  | .mpyPl w px f v24 => some ⟨w, px, 0x82, f, v24, (opMac false false false f.toNat)⟩
  | .mpynPl w px f v24 => some ⟨w, px, 0x83, f, v24, (opMac false true false f.toNat)⟩
  | .macjPl w px f v24 => some ⟨w, px, 0x84, f, v24, (opMac true false true f.toNat)⟩
  | .macjnPl w px f v24 => some ⟨w, px, 0x85, f, v24, (opMac true true true f.toNat)⟩
  | .rmacPl w px f v24 => some ⟨w, px, 0x86, f, v24, (opRmac false true f.toNat)⟩
  | .rmacnPl w px f v24 => some ⟨w, px, 0x87, f, v24, (opRmac true true f.toNat)⟩
  | .dmacPl w px f v24 => some ⟨w, px, 0x88, f, v24, (opDmac false true f.toNat)⟩
  | .dmacnPl w px f v24 => some ⟨w, px, 0x89, f, v24, (opDmac true true f.toNat)⟩
  | .dmpyPl w px f v24 => some ⟨w, px, 0x8A, f, v24, (opDmac false false f.toNat)⟩
  | .addPl w px f v24 => some ⟨w, px, 0x8B, f, v24, (opAdd false f.toNat)⟩
  | .subPl w px f v24 => some ⟨w, px, 0x8C, f, v24, (opSub false f.toNat)⟩
  | .movPl w px f v24 => some ⟨w, px, 0x8D, f, v24, (opMov f.toNat)⟩
  | .caddPl w px f v24 => some ⟨w, px, 0x8E, f, v24, (opCadd f.toNat)⟩
  | .csubPl w px f v24 => some ⟨w, px, 0x8F, f, v24, (opCsub f.toNat)⟩
  | .macPs w px f v24 => some ⟨w, px, 0x90, f, v24, (opMac false false true f.toNat)⟩
  | .macnPs w px f v24 => some ⟨w, px, 0x91, f, v24, (opMac false true true f.toNat)⟩
  | .rmacPs w px f v24 => some ⟨w, px, 0x92, f, v24, (opRmac false true f.toNat)⟩
  | .dmacPs w px f v24 => some ⟨w, px, 0x93, f, v24, (opDmac false true f.toNat)⟩
  | .addPs w px f v24 => some ⟨w, px, 0x94, f, v24, (opAdd false f.toNat)⟩
  | .movPs w px f v24 => some ⟨w, px, 0x95, f, v24, (opMov f.toNat)⟩
  | .pmvPl w px f v24 => some ⟨w, px, 0x96, f, v24, (fun _ => [])⟩
  | .pmvPs w px f v24 => some ⟨w, px, 0x97, f, v24, (fun _ => [])⟩
  | _ => none

def ParMeaning.enc (m : ParMeaning) : Enc := ⟨m.o, m.f.toNat + 65536 * m.v24.toNat⟩

/-- The first or the second move operand at its issue. -/
def ParMeaning.operand (m : ParMeaning) (s : State) (second : Bool) : Except Trap MemOp :=
  moveOperand m.o m.f.toNat m.v24.toNat second (atIssue s.chip m.w) (seen s.chip m.w m.px)

/-- The first access of a parallel move: a store in the store forms, else a load. -/
def ParMeaning.first (m : ParMeaning) (s : State) (a : MemOp) : Except Trap (Chip × List (Nat × Wr)) :=
  if moveStores m.o then (atIssue s.chip m.w).doStore (seen s.chip m.w m.px) a false
  else (atIssue s.chip m.w).doLoad (seen s.chip m.w m.px) a false

end Sys2Proof

/-- A parallel-move instruction issues its arithmetic and its two accesses together. -/
def Obligations.ParallelInstructionsComplete : Prop :=
  ∀ (i : Instr) (s : State) (m : ParMeaning) (a b : MemOp) (c1 c2 : Chip) (w1 w2 : List (Nat × Wr)), parMeaning i = some m →
    PlainAt s m.w m.px m.enc → m.operand s false = .ok a → m.operand s true = .ok b →
    (atIssue s.chip m.w).protect (seen s.chip m.w m.px) [(moveStores m.o, a), (false, b)] = .ok () →
    m.first s a = .ok (c1, w1) → c1.doLoad (seen s.chip m.w m.px) b false = .ok (c2, w2) →
    exec i s = .next (⟨s.pending, (moveOn (issued s.chip c2 m.w) m.w (s.chip.core m.w).cyc (instrLen m.px m.enc)
      (m.arith (seen s.chip m.w m.px) ++ w1 ++ w2)).settle⟩ : State)

namespace Sys2Proof

/-- An instruction that the processor may issue now in an open slot: no write is under way and it has no repeat prefix. -/
def slotIssue (c : Chip) (w : Proc) (px : Px) (e : Enc) : Bool :=
  let k := c.core w
  c.canIssue w && k.pend.isEmpty && decide (k.slot ≠ .none) && (c.fetchFault w k.pc (instrLen px e)).isNone &&
    encodingOk w.isCrook true px e && px.rep.isNone && (!w.isCrook || decide (c.crook.repLeft = 0))

end Sys2Proof

/-- A branch, call or return leaves its window alone and goes on for two delay slots; where its condition holds the program then
goes on at its target, where a jump has closed the levels it leaves, a call has saved the address behind its slots and gone one
window deeper, and a return has gone one up. -/
def Obligations.TakenAndUntakenBranches : Prop :=
  ∀ (s : State) (w : Proc) (px : Px) (c8 : Byte) (off : BitVec 24),
    let c := s.chip
    let x := seen c w px
    let k := c.core w
    let t := condTrue (c8.toNat % 16) k.fl
    let goes := fun (e : Enc) (target : Nat) (l : Link) (d : Chip) =>
      d.core w = { k with pc := pcAfter w k (instrLen px e), cyc := k.cyc + 1, slot := .delay 2 (if t then some (target, l) else none) }
    let next := pcAfter w k (instrLen px ⟨0xA9, 0⟩)
    let eb : Enc := ⟨0xA0, c8.toNat + 256 * off.toNat⟩
    let ec : Enc := ⟨0xA1, c8.toNat + 256 * off.toNat⟩
    (PlainAt s w px eb → Completes (.br w px c8 off) s (goes eb (relTarget x off) .jump)) ∧
    (PlainAt s w px ⟨0xA2, c8.toNat⟩ → Completes (.jr w px c8) s (goes ⟨0xA2, c8.toNat⟩ (regTarget c8.toNat x) .jump)) ∧
    (PlainAt s w px ec → k.wd < 14 →
      Completes (.call w px c8 off) s (goes ec (relTarget x off) (.call k.wd))) ∧
    (PlainAt s w px ⟨0xA3, c8.toNat⟩ → k.wd < 14 →
      Completes (.callr w px c8) s (goes ⟨0xA3, c8.toNat⟩ (regTarget c8.toNat x) (.call k.wd))) ∧
    (PlainAt s w px ⟨0xA4, c8.toNat⟩ → 0 < k.wd →
      Completes (.ret w px c8) s (goes ⟨0xA4, c8.toNat⟩ (KMap.get 0 (k.wd - 1) k.rs) (.ret k.wd))) ∧
    (slotIssue c w px ⟨0xA9, 0⟩ = true →
      (∀ tgt l, k.slot = .delay 2 (some (tgt, l)) → Completes (.nop w px) s fun d =>
        d.core w = { k with pc := next, cyc := k.cyc + 1, slot := .delay 1 (some (tgt, l)) }) ∧
      (∀ tgt, k.slot = .delay 1 (some (tgt, .jump)) → Completes (.nop w px) s fun d =>
        d.core w = { k.closeOutside tgt with pc := tgt, cyc := k.cyc + 1, slot := .none }) ∧
      (∀ tgt v, k.slot = .delay 1 (some (tgt, .call v)) → Completes (.nop w px) s fun d =>
        d.core w = { k with pc := tgt, cyc := k.cyc + 1, slot := .none, wd := v + 1, rs := KMap.set 0 v next k.rs }) ∧
      (∀ tgt v, k.slot = .delay 1 (some (tgt, .ret v)) → Completes (.nop w px) s fun d =>
        d.core w = { k with pc := tgt, cyc := k.cyc + 1, slot := .none, wd := v - 1 }))

/-- A call at window depth 14 and a return at depth 0 fault in an engine and trap in the crook. -/
def Obligations.WindowOverflowAndUnderflow : Prop :=
  ∀ (s : State) (px : Px) (c8 : Byte) (off : BitVec 24) (w : Proc) (i : Instr) (e : Enc) (v : Nat),
    let k := s.chip.core w
    PlainAt s w px e → condTrue (c8.toNat % 16) k.fl = true →
    ((i = .call w px c8 off ∧ e = ⟨0xA1, c8.toNat + 256 * off.toNat⟩ ∧ k.wd = 14 ∧ v = 3) ∨
     (i = .callr w px c8 ∧ e = ⟨0xA3, c8.toNat⟩ ∧ k.wd = 14 ∧ v = 3) ∨
     (i = .ret w px c8 ∧ e = ⟨0xA4, c8.toNat⟩ ∧ k.wd = 0 ∧ v = 4)) →
    (∀ n : Fin 17, w = .engine n → Completes i s fun d =>
      (d.core w).ended = true ∧ d.get (F.SE_FAULT_eng n.val) = 1 ∧ d.get (F.SE_FAULT_PC_pc n.val) = k.pc) ∧
    (w = .crook → s.chip.crook.mode.getLsbD 2 = false → s.chip.crook.vbase.toNat + 16 * v < 2 ^ 20 → Completes i s fun d =>
      d.crook.core.pc = s.chip.crook.vbase.toNat + 16 * v ∧ d.crook.epc = k.pc % 2 ^ 20 ∧ d.crook.mode = 0b101 ∧
      d.crook.cause = BitVec.ofNat 17 v ∧ d.crook.core.wd = k.wd)

/-- brep and brepr open a level of the given passes over a body behind three setup slots, and bbrk makes the pass in progress the last. -/
def Obligations.BlockRepeatsOpenBehindTheSetupSlots : Prop :=
  ∀ (s : State) (w : Proc) (px : Px) (f8 : Byte) (cnt blen : Word16),
    let k := s.chip.core w
    let x := seen s.chip w px
    let e := fun (o : Nat) => (⟨o, f8.toNat + 256 * cnt.toNat + 2 ^ 24 * blen.toNat⟩ : Enc)
    let opens := fun (o n : Nat) (d : Chip) =>
      let next := pcAfter w k (instrLen px (e o))
      d.core w = { (k.openLevel n (addrAfter s.chip.mem (progBase w) 3 next) blen.toNat) with
        pc := next, cyc := k.cyc + 1, slot := .setup 3 }
    (PlainAt s w px (e 0xA5) → Completes (.brep w px f8 cnt blen) s (opens 0xA5 (cnt.toNat + 1))) ∧
    (PlainAt s w px (e 0xA6) → Completes (.brepr w px f8 cnt blen) s (opens 0xA6 (x.u (f8.toNat % 32) % 65536 + 1))) ∧
    ∀ l, plainIssue s.chip w px ⟨0xA7, 0⟩ = true → x.nullified = false → k.innermost = some l →
      KMap.get 0 l k.le ≠ pcAfter w k (instrLen px ⟨0xA7, 0⟩) →
      Completes (.bbrk w px) s fun d => (d.core w).lcAt l = 1 ∧ (d.core w).pc = pcAfter w k (instrLen px ⟨0xA7, 0⟩)

/-- fend ends the frame of an engine, closes its block repeats and notes its cycle. -/
def Obligations.FendEndsTheFrame : Prop :=
  ∀ (s : State) (n : Fin 17) (px : Px), PlainAt s (.engine n) px ⟨0xA8, 0⟩ →
    Completes (.fend (.engine n) px) s fun d => (d.core (.engine n)).ended = true ∧ (d.core (.engine n)).lc = [] ∧
      d.get (F.SE_CYC_last n.val) = (s.chip.core (.engine n)).cyc

/-- trap t saves the address behind it and the status, and enters vector 7 privileged with interrupts off. -/
def Obligations.TrapInstructionEntersItsVector : Prop :=
  ∀ (s : State) (px : Px) (f8 t : Byte), PlainAt s .crook px ⟨0xB0, f8.toNat + 256 * t.toNat⟩ →
    s.chip.crook.mode.getLsbD 2 = false →
    s.chip.crook.vbase.toNat + 16 * 7 < 2 ^ 20 → Completes (.trap .crook px f8 t) s fun d =>
      d.crook.epc = pcAfter .crook s.chip.crook.core (instrLen px ⟨0xB0, f8.toNat + 256 * t.toNat⟩) % 2 ^ 20 ∧
      d.crook.estat = (s.chip.crook.mode.zeroExtend 8 <<< 5) ||| s.chip.crook.core.fl.zeroExtend 8 ∧
      d.crook.cause = BitVec.ofNat 17 (7 + 256 * t.toNat) ∧ d.crook.mode = 0b101 ∧
      d.crook.core.pc = s.chip.crook.vbase.toNat + 16 * 7

/-- rti, mvsr, wait, ei, di and sync have their effect on the crook. -/
def Obligations.CrookSystemInstructionsComplete : Prop :=
  ∀ (s : State) (px : Px) (f8 : Byte) (sr : Word16),
    let c := s.chip
    let k := c.crook.core
    (PlainAt s .crook px ⟨0xD0, 0⟩ → Completes (.rti .crook px) s fun d =>
      d.crook.core.pc = c.crook.epc ∧ d.crook.core.fl = BitVec.ofNat 5 (c.crook.estat.toNat % 32) ∧
      d.crook.mode = BitVec.ofNat 3 (c.crook.estat.toNat / 32)) ∧
    (PlainAt s .crook px ⟨0xD1, f8.toNat + 256 * sr.toNat⟩ → Completes (.mvsr .crook px f8 sr) s fun d =>
      d.crook.core.pend = [(k.cyc + 1, .p ((seen c .crook px).preg (f8.toNat % 32)) (xres ((atIssue c .crook).sysReg sr.toNat)))]) ∧
    (PlainAt s .crook px ⟨0xD4, 0⟩ → Completes (.ei .crook px) s fun d =>
      d.crook.mode.getLsbD 1 = true ∧ d.crook.mode.getLsbD 0 = c.crook.mode.getLsbD 0 ∧
      d.crook.mode.getLsbD 2 = c.crook.mode.getLsbD 2) ∧
    (PlainAt s .crook px ⟨0xD5, 0⟩ → Completes (.di .crook px) s fun d =>
      d.crook.mode.getLsbD 1 = false ∧ d.crook.mode.getLsbD 0 = c.crook.mode.getLsbD 0 ∧
      d.crook.mode.getLsbD 2 = c.crook.mode.getLsbD 2) ∧
    (PlainAt s .crook px ⟨0xD3, 0⟩ → Completes (.wait .crook px) s fun d =>
      d.crook.waiting = true ∧ (c.pendingLine = none → d.canIssue .crook = false)) ∧
    (PlainAt s .crook px ⟨0xD8, 0⟩ → Completes (.sync .crook px) s fun d =>
      d.crook.syncing = true ∧ d.canIssue .crook = false)

/-- spill lowers the window depth and the stack pointer by one frame, fill raises them. -/
def Obligations.SpillAndFillMoveTheWindow : Prop :=
  ∀ (s : State) (px : Px),
    let k := s.chip.crook.core
    let a15 := fun (k : Core) => KMap.get 0 15 k.q
    (PlainAt s .crook px ⟨0xD6, 0⟩ → Completes (.spill .crook px) s fun d =>
      if k.wd = 0 then d.crook.core.wd = 0 ∧ a15 d.crook.core = a15 k
      else d.crook.core.wd = k.wd - 1 ∧ a15 d.crook.core = a15 k - 132) ∧
    (PlainAt s .crook px ⟨0xD7, 0⟩ → k.wd ≤ 14 → Completes (.fill .crook px) s fun d =>
      if k.wd = 14 then d.crook.core.wd = 14 ∧ a15 d.crook.core = a15 k
      else d.crook.core.wd = k.wd + 1 ∧ a15 d.crook.core = a15 k + 132)

/-- A privileged instruction at user level traps to vector 2 and has no other effect on the registers. -/
def Obligations.PrivilegedInstructionTrapsInUserMode : Prop :=
  ∀ (i : Instr) (s : State) (px : Px) (e : Enc), encOf i = some (.crook, px, e) → privileged e.op = true →
    s.chip.crook.mode.getLsbD 0 = false → s.chip.crook.mode.getLsbD 2 = false → s.chip.canIssue .crook = true →
    s.chip.crook.core.pend = [] → s.chip.crook.core.slot = .none →
    s.chip.fetchFault .crook s.chip.crook.core.pc (instrLen px e) = none → encodingOk true false px e = true →
    s.chip.crook.vbase.toNat + 16 * 2 < 2 ^ 20 → Completes i s fun d =>
      d.crook.core.pc = s.chip.crook.vbase.toNat + 16 * 2 ∧ d.crook.epc = s.chip.crook.core.pc % 2 ^ 20 ∧
      d.crook.mode = 0b101 ∧ d.crook.core.p = s.chip.crook.core.p ∧ d.crook.core.acc = s.chip.crook.core.acc ∧
      d.crook.core.q = s.chip.crook.core.q

/-- An illegal encoding ends an engine frame with a fault and traps the crook to vector 1. -/
def Obligations.IllegalEncodingFaultsOrTraps : Prop :=
  ∀ (s : State) (w : Proc) (bytes : List Byte), decodeBytes bytes = none → s.chip.canIssue w = true →
    (s.chip.core w).pend = [] → (s.chip.core w).slot = .none →
    (∀ n : Fin 17, w = .engine n → Completes (.illegalEncoding w bytes) s fun d =>
      (d.core w).ended = true ∧ d.get (F.SE_FAULT_eng n.val) = 1) ∧
    (w = .crook → s.chip.crook.mode.getLsbD 2 = false → s.chip.crook.vbase.toNat + 16 * 1 < 2 ^ 20 →
      s.chip.fetchFault w (s.chip.core w).pc (refusedLen 9 0xEF bytes) = none →
      Completes (.illegalEncoding w bytes) s fun d => d.crook.core.pc = s.chip.crook.vbase.toNat + 16 * 1 ∧
        d.crook.epc = s.chip.crook.core.pc % 2 ^ 20 ∧ d.crook.mode = 0b101)

/-! ## The other commands, family by family

For each family `…Ready` says when a command of the family has its own effect, as a function of the device alone, and `…Effect` what
that effect is, from the device before (`c`) to the device after (`d`). -/

namespace Sys2Proof

/-- Every command that is ready completes with its effect. -/
def RowsComplete (ready : Chip → Instr → Bool) (effect : Chip → Chip → Instr → Prop) : Prop :=
  ∀ (i : Instr) (s : State), safe s = true → ready s.chip i = true → Completes i s fun d => effect s.chip d i

/-- What the requester's last read returned. -/
def returned (d : Chip) : Req → Word
  | .crook => d.bus.crook
  | .host => d.bus.host
  | .dma _ => d.bus.dma

/-- A value as a field holds it. -/
def Machine.Fld.cut (f : Fld) (v : Nat) : Nat := v % 2 ^ f.width

/-! ### Clocks and time (chapter 02) -/

/-- Each row at the instant and in the state the spec gives it. -/
def clockReady (c : Chip) : Instr → Bool
  | .rootPllLock _ => decide (c.shp.stage = .t0) || (decide (c.get F.PWR_STAT_state = 4) && !c.time.rootOn)
  | .clkUnlock => c.bit F.CLK_STAT_locked
  | .rootPllRelock => !c.bit F.CLK_STAT_locked && c.evt.isOn Ev.CLK_UNLOCK locNone
  | .steeringStep => c.bit F.CLK_STAT_locked && c.atBoundary 192 && decide (c.time.steerAt ≠ some c.time.stc)
  | .sourceSelection => c.bit F.CLK_STAT_locked && c.atBoundary 192
  | .clkPerrSatWrite r _ => accepts c r R.CLK_PERR_SAT && c.bit F.CLK_STAT_locked && c.bit F.CLK_CTRL_sat_en
  | .satTimeout => c.bit F.CLK_STAT_locked && c.srcValid 0 && decide (c.timeoutAt 0 ≤ c.boundaryRoot)
  | .linkTimeout => c.bit F.CLK_STAT_locked && c.srcValid 1 && decide (c.timeoutAt 1 ≤ c.boundaryRoot)
  | .tmarkTimeout => c.bit F.CLK_STAT_locked && c.srcValid 2 && decide (c.timeoutAt 2 ≤ c.boundaryRoot)
  | .holdLimit => c.bit F.CLK_STAT_locked && decide (c.get F.CLK_STAT_state = stHold) && decide (c.get F.CLK_HOLD_hold_lim ≠ 0) &&
      decide (c.time.holdAt + c.get F.CLK_HOLD_hold_lim * rootPerSec ≤ c.boundaryRoot)
  | .loopEnable r v => accepts c r R.CLK_CTRL && (!F.CLK_CTRL_loop_en.ofB v ||
      (!c.bit F.CLK_CTRL_loop_en && c.srcValid (c.get F.CLK_STAT_src) &&
        (if c.get F.CLK_STAT_src = 0 then F.CLK_CTRL_sat_en.ofB v else if c.get F.CLK_STAT_src = 1 then F.CLK_CTRL_link_en.ofB v
          else F.CLK_CTRL_tmark_en.ofB v)))
  | .frameBoundary => c.framesRun && decide (c.nextBoundary < 2 ^ 64)
  | .superframeBoundary => c.onSuperframe && decide (c.lnk.sfDone ≠ some c.sfn)
  | .wholeSecond => c.atBoundary 192000 && !c.pwr.airReset
  | .stcSnapshot r => acceptsRead c r R.TIME_STC_LO
  | .stcLoadRequest r v => accepts c r R.TIME_LOAD_CTRL && F.TIME_LOAD_CTRL_go.ofB v && !c.bit F.TIME_LOAD_CTRL_go &&
      (!c.loadsNow || decide (F.TIME_LOAD_CTRL_frac.of v < rootPerTick))
  | .stcLoadApply => c.bit F.TIME_LOAD_CTRL_go && c.atBoundary 192000 && decide (c.time.loadAt < c.now) &&
      decide (c.rd64 R.TIME_LOAD_LO R.TIME_LOAD_HI % 192000 = 0) && decide (c.get F.TIME_LOAD_CTRL_frac = 0)
  | .tpApplyRequest r n v => accepts c r (R.TIME_TP_CTRL (b2n n)) && (F.TIME_TP_CTRL_apply (b2n n)).ofB v
  | .tpConfigApply n => c.bit (F.TIME_TP_CTRL_apply (b2n n)) && c.atBoundary 192000 && decide ((c.tp n).reqAt < c.now)
  | .timePulseStart n => !c.tpHeld n && (!(c.tp n).cfg.qual || decide (c.get F.CLK_STAT_state = stLocked)) &&
      decide (nsToRoot ((c.tp n).cfg.nextEdge c.now) ≤ c.boundaryRoot)
  | .timePulseEnd n => (c.tp n).active && decide ((c.tp n).endAt ≤ c.boundaryRoot)
  | .tmarkEdge falling => c.bit F.TIME_TMARK_CTRL_en && decide (c.bit F.TIME_TMARK_CTRL_edge = falling) && c.bit F.CLK_STAT_locked
  | .tmarkCapRead r => acceptsRead c r R.TIME_TMARK_CAP_LO
  | _ => false

def clockEffect (c d : Chip) : Instr → Prop
  | .rootPllLock n => d.time.rootOn = true ∧ d.bit F.CLK_STAT_locked = true ∧ (c.shp.stage = .t0 → d.shp.stage = .sense) ∧
      (c.shp.stage ≠ .t0 →
        let t := c.time.sleepStc * rootPerTick + c.time.sleepFrac + rootPer32k * (c.pwr.slept + n)
        d.time.stc = t / rootPerTick % 2 ^ 64 ∧ d.time.frac.val = t % rootPerTick)
  | .clkUnlock => d.bit F.CLK_STAT_locked = false ∧ d.rf.keyed = false ∧ d.time.tp0.active = false ∧ d.time.tp1.active = false ∧
      d.rd R.CLK_STEER = c.rd R.CLK_STEER
  | .rootPllRelock => d.bit F.CLK_STAT_locked = true ∧ d.rd R.CLK_STEER = c.rd R.CLK_STEER
  | .steeringStep =>
      let target := if c.get F.CLK_STAT_state = stManual then satInt (c.rd R.CLK_MANUAL).toInt (-steerLim) steerLim
        else (c.rd R.CLK_TARGET).toInt
      let old := (c.rd R.CLK_STEER).toInt
      (d.rd R.CLK_STEER).toInt = old + satInt (target - old) (-109) 109
  | .sourceSelection => d.get F.CLK_STAT_src = c.selectSrc
  | .clkPerrSatWrite _ v => d.time.satRun = 1 + c.runBefore 0 ∧ d.time.satAt = c.now ∧
      (c.get F.CLK_STAT_src = 0 → c.bit F.CLK_CTRL_loop_en = true → c.srcValid 0 = true → d.rd R.CLK_PERR_LAST = v)
  | .satTimeout => d.srcValid 0 = false
  | .linkTimeout => d.srcValid 1 = false
  | .tmarkTimeout => d.srcValid 2 = false
  | .holdLimit => d.get F.CLK_STAT_state = stFree ∧ d.rd R.CLK_INTEG = 0 ∧ d.rd R.CLK_TARGET = 0
  | .loopEnable _ v => (F.CLK_CTRL_loop_en.ofB v = false → d.get F.CLK_STAT_state = stManual) ∧
      (F.CLK_CTRL_loop_en.ofB v = true → d.get F.CLK_STAT_state = stAcq ∧ d.rd R.CLK_INTEG = c.rd R.CLK_STEER)
  | .frameBoundary => d.time.stc = c.nextBoundary ∧ d.time.frac.val = 0
  | .superframeBoundary => d.lnk.sfDone = some c.sfn
  | .wholeSecond => d.get F.GUARD_AIR_CNT_count = 0
  | .stcSnapshot r => d.snap r = ⟨c.time.stc, c.time.frac.val⟩ ∧ returned d r = BitVec.ofNat 32 c.time.stc
  | .stcLoadRequest _ v =>
      if c.loadsNow then d.time.stc = c.rd64 R.TIME_LOAD_LO R.TIME_LOAD_HI ∧ d.time.frac.val = F.TIME_LOAD_CTRL_frac.of v
      else d.bit F.TIME_LOAD_CTRL_go = true ∧ d.time.loadAt = c.now
  | .stcLoadApply => d.time.stc = c.rd64 R.TIME_LOAD_LO R.TIME_LOAD_HI ∧ d.time.frac.val = 0 ∧ d.bit F.TIME_LOAD_CTRL_go = false
  | .tpApplyRequest _ n _ => d.bit (F.TIME_TP_CTRL_apply (b2n n)) = true ∧
      (c.bit (F.TIME_TP_CTRL_apply (b2n n)) = false → (d.tp n).reqAt = c.now)
  | .tpConfigApply n => (d.tp n).cfg = c.tpShadow n ∧ d.bit (F.TIME_TP_CTRL_apply (b2n n)) = false ∧
      d.bit (F.TIME_TP_CTRL_cfg_err (b2n n)) = !(c.tpShadow n).valid
  | .timePulseStart n => (d.tp n).active = true ∧
      let e := nsToRoot ((c.tp n).cfg.nextEdge c.now + Int.ofNat (c.tp n).cfg.width)
      (d.tp n).endAt = if (c.tp n).active then max (c.tp n).endAt e else e
  | .timePulseEnd n => (d.tp n).active = false
  | .tmarkEdge _ => d.bit F.TIME_TMARK_CTRL_new = true ∧
      if c.bit F.TIME_TMARK_CTRL_new then d.bit F.TIME_TMARK_CTRL_ovr = true ∧ d.rd R.TIME_TMARK_CAP_LO = c.rd R.TIME_TMARK_CAP_LO
      else d.rd R.TIME_TMARK_CAP_LO = BitVec.ofNat 32 c.time.stc ∧ d.rd R.TIME_TMARK_CAP_HI = BitVec.ofNat 32 (c.time.stc / 2 ^ 32) ∧
        d.rd R.TIME_TMARK_CAP_FRAC = BitVec.ofNat 32 c.time.frac.val
  | .tmarkCapRead r => returned d r = c.rd R.TIME_TMARK_CAP_LO ∧ d.bit F.TIME_TMARK_CTRL_new = false
  | _ => True

end Sys2Proof

/-- Chapter 02's rows complete (R27 to R49). -/
def Obligations.ClockRowsComplete : Prop := RowsComplete clockReady clockEffect

namespace Sys2Proof

/-! ### Fold loads (chapter 03) -/

def foldReady (c : Chip) : Instr → Bool
  | .foldGo r v => accepts c r R.FOLD_CTRL && F.FOLD_CTRL_go.ofB v && decide (c.get F.FOLD_STAT_state = 0) &&
      decide (c.get F.BST_STAT_shut = 0)
  | .foldChecksEnd => decide (c.get F.FOLD_STAT_state = 1) && !c.fold.startLoad
  | .foldApply => c.fold.next.isSome && decide (c.get F.FOLD_STAT_state = 2) && decide (c.time.stc = c.fold.bAt) &&
      decide (c.time.frac.val = 0)
  | .foldZeroingEnd => c.fold.zeroing
  | .foldDone => c.fold.next.isSome && c.atR && decide (c.get F.PWR_STAT_state ≠ 4)
  | _ => false

def foldEffect (c d : Chip) : Instr → Prop
  | .foldGo _ v => d.get F.FOLD_STAT_state = 1 ∧ d.bit F.FOLD_CTRL_go = true ∧ d.fold.atTime = F.FOLD_CTRL_at_time.ofB v ∧
      d.fold.hold = F.FOLD_CTRL_hold.ofB v ∧ d.fold.at_ = c.rd64 R.FOLD_AT_LO R.FOLD_AT_HI ∧
      d.fold.bundle = c.copyBundle.fold.bundle ∧ d.fold.srcErr = c.copyBundle.fold.srcErr ∧ d.fold.cur = c.fold.cur
  | .foldChecksEnd =>
      match c.refoldCheck.1 with
      | .error e => d.get F.FOLD_STAT_state = 0 ∧ d.get F.FOLD_STAT_err = F.FOLD_STAT_err.cut e.1 ∧ d.bit F.FOLD_CTRL_go = false ∧
          d.fold.cur = c.fold.cur
      | .ok (f, img) => d.fold.cur = c.fold.cur ∧ d.fold.buf = img.map (BitVec.ofNat 8) ∧
          if c.fold.atTime = true ∧ (c.fold.at_ % 384 ≠ 0 ∨ c.fold.at_ * rootPerTick ≤ c.now) then
            d.get F.FOLD_STAT_state = 0 ∧ d.get F.FOLD_STAT_err = F.FOLD_STAT_err.cut 0x0D ∧ d.bit F.FOLD_CTRL_go = false
          else d.get F.FOLD_STAT_state = 2 ∧ d.get F.FOLD_STAT_err = 0 ∧ d.fold.next = some f ∧
            d.fold.bAt = c.clearBoundary (if c.fold.atTime then c.fold.at_ else c.nextSuperframe) ∧ d.fold.rAt = d.fold.bAt + 384
  | .foldApply => d.get F.FOLD_STAT_state = 3 ∧ d.fold.zeroing = true ∧ d.pas.words = [] ∧
      d.pas.pads = (c.fold.next.map (·.pads)).getD [] ∧ d.pas.sched = (c.fold.next.map (·.sched)).getD []
  | .foldZeroingEnd => d.fold.zeroing = false ∧ d.pas.scrubReq = [] ∧ d.pas.scrubRow = [] ∧
      d.pas.scrubAt = (if c.bit F.PAS_SCRUB_en then some d.now else none)
  | .foldDone => d.get F.FOLD_STAT_state = 0 ∧ d.bit F.FOLD_STAT_loaded = true ∧ d.fold.cur = c.fold.next ∧ d.fold.next = none ∧
      d.rd R.FOLD_ID = (c.fold.next.map (·.foldId)).getD 0 ∧
      d.get F.FOLD_STAT_rate = F.FOLD_STAT_rate.cut ((c.fold.next.map (·.rate)).getD 0) ∧
      (c.get F.PWR_STAT_state = 0 → d.get F.PWR_STAT_state = 1)
  | _ => True

/-! ### Control of the sample engines (chapter 04) -/

def engineReady (c : Chip) : Instr → Bool
  | .runReq r n v => accepts c r (R.SE_CTRL n.val) && (F.SE_CTRL_run_req n.val).ofB v && !(F.SE_CTRL_stop_req n.val).ofB v &&
      !(F.SE_CTRL_clr n.val).ofB v && (c.heldRole n.val).isSome
  | .stopReq r n v => accepts c r (R.SE_CTRL n.val) && (F.SE_CTRL_stop_req n.val).ofB v && !(F.SE_CTRL_run_req n.val).ofB v &&
      !(F.SE_CTRL_clr n.val).ofB v && (c.heldRole n.val).isSome && decide (c.seState n.val ≠ seStopped) &&
      decide (c.get F.FOLD_STAT_state ≠ 3)
  | .engineClear r n v => accepts c r (R.SE_CTRL n.val) && (F.SE_CTRL_clr n.val).ofB v && !(F.SE_CTRL_run_req n.val).ofB v &&
      !(F.SE_CTRL_stop_req n.val).ofB v && decide (c.seState n.val = seStopped)
  | .roleStart n => decide (c.seState n.val = seArmed) && decide ((c.engine n.val).runIn = 1) && decide ((c.engine n.val).stopIn ≠ 1)
  | .roleStop n => (c.heldRole n.val).isSome && decide ((c.engine n.val).stopIn = 1)
  | .engineClearDone n => c.bit (F.SE_CTRL_clr n.val)
  | .forcedFrameEnd n => c.runs n.val && !(c.engine n.val).core.ended
  | _ => false

def engineEffect (c d : Chip) : Instr → Prop
  | .runReq _ n _ =>
      if c.seState n.val = seStopped then
        d.seState n.val = seArmed ∧ d.bit (F.SE_CTRL_run_req n.val) = true ∧ (d.engine n.val).runIn = c.reqDelay
      else d.seState n.val = c.seState n.val ∧ d.engine n.val = c.engine n.val
  | .stopReq _ n _ => d.seState n.val = c.seState n.val ∧ d.bit (F.SE_CTRL_stop_req n.val) = true ∧
      (d.engine n.val).stopIn = if (c.engine n.val).stopIn = 0 then c.reqDelay else (c.engine n.val).stopIn
  | .engineClear _ n _ => d.bit (F.SE_CTRL_clr n.val) = true ∧ d.engine n.val = c.engine n.val
  | .roleStart n => d.seState n.val = seRunning ∧ (d.engine n.val).core.pc = 0 ∧ (d.engine n.val).core.ended = false ∧
      (d.engine n.val).core.g = (if c.rd (R.SE_SEED n.val) = 0 then 1 else c.rd (R.SE_SEED n.val)) ∧ (d.engine n.val).core.p = (c.engine n.val).core.p
  | .roleStop n => d.seState n.val = seStopped ∧ (d.engine n.val).core.outw = [] ∧ d.bit (F.SE_CTRL_run_req n.val) = false ∧
      d.bit (F.SE_CTRL_stop_req n.val) = false ∧ (d.engine n.val).core.p = (c.engine n.val).core.p
  | .engineClearDone n => d.bit (F.SE_CTRL_clr n.val) = false ∧ (d.engine n.val).core.p = [] ∧ (d.engine n.val).core.acc = [] ∧
      (d.engine n.val).core.q = [] ∧ (d.engine n.val).core.fl = 0 ∧ (d.engine n.val).core.scratch = [] ∧
      (d.engine n.val).core.outw = []
  | .forcedFrameEnd n => (d.engine n.val).core.ended = true ∧ d.bit (F.SE_FAULT_ovr n.val) = true ∧
      d.get (F.SE_OVR_CNT_count n.val) = min (c.get (F.SE_OVR_CNT_count n.val) + 1) (2 ^ (F.SE_OVR_CNT_count n.val).width - 1)
  | _ => True

/-! ### Engine rotation (chapter 04) -/

/-- The handover under way, not cancelled, as `p` wants it. -/
def handoverAt (c : Chip) (p : Fin 17 → Fin 17 → Nat → Bool) : Bool :=
  match c.rot.cur with
  | some (_, e, s, h) => !c.rot.cancel && p e s h
  | none => false

def rotationReady (c : Chip) : Instr → Bool
  | .rotationDue => c.onSuperframe && c.bit F.FOLD_STAT_loaded && c.bit F.SE_ROT_CTRL_en && decide (c.get F.FOLD_STAT_state = 0) &&
      c.rot.cur.isNone && !c.someTest && decide (c.get F.BST_STAT_shut ≠ 2) &&
      (c.claimDue || decide (max (c.get F.SE_ROT_CTRL_per) 1 * 384 ≤ stcSince c.time.stc c.rot.lastH)) &&
      (c.spareEngine.any fun s => decide (c.seState s.val = seSpare)) && (c.pickRole.any fun r => (c.holder r).isSome)
  | .programCopy => c.onBoundary && handoverAt c fun _ s h => decide (c.time.stc + 2 * c.frameTicks = h) && decide (c.seState s.val = seSpare)
  | .scratchMirror => c.onBoundary && handoverAt c fun _ s h => decide (c.time.stc + c.frameTicks = h) && decide (c.seState s.val = sePrep)
  | .stateCopy => decide (c.get F.SE_ROT_STAT_phase = 3) && handoverAt c fun e _ h => decide (c.time.stc < h) && c.runs e.val
  | .twinFrameStart => c.onBoundary && handoverAt c fun _ s h => decide (c.time.stc = h) && decide (c.seState s.val = sePrep)
  | .twinCompare => decide (c.get F.SE_ROT_STAT_phase = 4) && handoverAt c fun _ _ h => decide (h ≤ c.time.stc)
  | .handover => c.onBoundary && handoverAt c fun e s h => decide (c.time.stc = h + c.frameTicks) && decide (c.seState s.val = seTwin) &&
      decide (e ≠ s)
  | _ => false

def rotationEffect (c d : Chip) : Instr → Prop
  | .rotationDue => ∀ r e s, c.pickRole = some r → c.holder r = some e → c.spareEngine = some s →
      d.rot.cur = some (r, Fin.ofNat 17 e, s, c.time.stc + 384) ∧ d.get F.SE_ROT_STAT_phase = 1
  | .programCopy => ∀ r e s h, c.rot.cur = some (r, e, s, h) → d.seState s.val = sePrep ∧ d.get F.SE_ROT_STAT_phase = 2 ∧
      ∀ i < 0xC000, d.mem.byte (0x20000000 + s.val * 0x10000 + i) = c.mem.byte (0x20000000 + e.val * 0x10000 + i)
  | .scratchMirror => ∀ r e s h, c.rot.cur = some (r, e, s, h) → d.get F.SE_ROT_STAT_phase = 3 ∧
      (d.engine s.val).core.scratch = (c.engine e.val).core.scratch
  | .stateCopy => ∀ r e s h, c.rot.cur = some (r, e, s, h) →
      let k := (d.engine e.val).core
      let t := (d.engine s.val).core
      k.ended = true ∧ k.pend = [] ∧ t.p = k.p ∧ t.acc = k.acc ∧ t.q = k.q ∧ t.fl = k.fl ∧ t.g = k.g ∧ t.scratch = k.scratch ∧
        t.outw = k.outw ∧ t.ls = k.ls ∧ t.le = k.le
  | .twinFrameStart => ∀ r e s h, c.rot.cur = some (r, e, s, h) → d.seState s.val = seTwin ∧ d.get F.SE_ROT_STAT_phase = 4 ∧
      (d.engine s.val).core.pc = 0 ∧ (d.engine s.val).core.inw = (c.engine e.val).core.inw
  | .twinCompare => ∀ r e s h, c.rot.cur = some (r, e, s, h) →
      let out := (List.range 64).any fun i =>
        decide (KMap.get 0 i (d.engine e.val).core.outw ≠ KMap.get 0 i (d.engine s.val).core.outw)
      let bad := (firstDiff c.rot.storesE c.rot.storesS).isSome || out
      d.bit (F.SE_FAULT_twin e.val) = (bad || c.bit (F.SE_FAULT_twin e.val)) ∧
        d.bit (F.SE_FAULT_twin s.val) = (bad || c.bit (F.SE_FAULT_twin s.val))
  | .handover => ∀ r e s h, c.rot.cur = some (r, e, s, h) → d.seState s.val = seRunning ∧
      d.get (F.SE_STAT_role s.val) = (F.SE_STAT_role s.val).cut r ∧ d.seState e.val = seTest ∧ d.rot.cur = none ∧
      d.rot.lastRole = some r ∧ d.get F.SE_ROT_STAT_phase = 5 ∧ d.testing (.engine e) = true
  | _ => True

end Sys2Proof

/-- Chapter 03's rows complete (R65 to R73). -/
def Obligations.FoldRowsComplete : Prop := RowsComplete foldReady foldEffect

/-- Requests, start, stop, clear and forced end of an engine (R77, R86 to R89). -/
def Obligations.EngineControlRowsComplete : Prop := RowsComplete engineReady engineEffect

/-- The steps of a rotation (R79, R91 to R94). -/
def Obligations.RotationRowsComplete : Prop := RowsComplete rotationReady rotationEffect

namespace Sys2Proof

/-! ### Secure start (chapter 16) -/

/-- The slot that the header check chooses (R394); none where neither header passes or the start waits for the host. -/
def chosenSlot (c : Chip) : Option Nat :=
  let a := c.readSlot 0
  let b := c.readSlot 1
  if bitAt (c.shadow 0) 11 then none
  else if a.2 = 0 ∧ b.2 = 0 then some (if bunVer (toImage a.1) < bunVer (toImage b.1) then 1 else 0)
  else if a.2 = 0 then some 0
  else if b.2 = 0 then some 1
  else none

/-- The fuses after the repair burns (R387). -/
def repaired (c : Chip) : ShpSt := c.shp.weakBits.foldl ShpSt.burn c.shp

/-- Is the section a CROOK section of a bundle that starts the crook early (R396)? -/
def earlySect (b : Boot) (s : BSect) : Bool := decide (s.typ = 1) && bunEarly (toImage b.hdr)

def startReady (c : Chip) : Instr → Bool
  | .fuseRepair => decide (c.shp.stage = .sense)
  | .startTestEnd _ => decide (c.shp.stage = .test)
  | .headerCheck => decide (c.shp.stage = .select)
  | .sectionVerify =>
      match c.shp.boot with
      | none => false
      | some b =>
        let sects := bunSects (toImage b.hdr)
        decide (c.shp.stage = .verify) && b.checked &&
          if b.late then !sects.any fun s => decide (s.typ = 1) && sha384 (c.bytesAt s.dest s.len) != s.hash
          else match sects[b.next]? with
            | none => b.arrived b.len
            | some s => b.arrived (s.ofs + s.len) && !(decide (b.src ≠ 2) && c.flashFails (slotBase b.src + s.ofs) s.len) &&
                (earlySect b s || ((c.copySection b s (c.sectBytes b s)).1.sectErr sects s (c.sectBytes b s)).1.isNone)
  | .pass => decide (c.shp.stage = .passing) && c.fold.next.isSome &&
      (match c.shp.boot with
        | none => false
        | some b => c.bit F.CRK_STAT_running || decide (bunEntry (toImage b.hdr) < 2 ^ 20))
  | .mbDataWrite r _ => accepts c r R.SHP_MB_DATA &&
      (match c.shp.boot with
        | none => !c.shp.drop && decide (c.shp.fifo.length < 64) && !c.shp.hostCmd.any fun m => decide (m.code = 0x32)
        | some b => if b.src = 2 then b.checked && decide (b.bytes.length + 4 < b.len)
            else decide (c.shp.fifo.length < 64) && !c.shp.hostCmd.any fun m => decide (m.code = 0x32))
  | .streamTimeout => c.shp.boot.any fun b => decide (b.src = 2) && decide (b.bytes.length < b.len)
  | .dbgEnter => true
  | .scanEnter => true
  | .bypass => true
  | .idcode => true
  | .boundaryScan ir => decide (ir ≠ 0xFF ∧ ir ≠ 0x01 ∧ ir ≠ 0x30 ∧ ir ≠ 0x31)
  | _ => false

/-- What entering debug or scan does (R407, R408). -/
def tapEffect (c d : Chip) (ir : Byte) : Prop :=
  if c.tapAllowed then
    d.shp.tap = ir ∧ d.get F.SHP_STAT_phase = 6 ∧ d.rd R.GUARD_GATE = 0b10 ∧ d.shp.shadow = [] ∧ d.shp.key = [] ∧ d.fold.buf = [] ∧
      d.fold.bundle = []
  else d.shp.tap = 0xFF ∧ d.get F.SHP_STAT_phase = c.get F.SHP_STAT_phase ∧ d.shp.shadow = c.shp.shadow

def startEffect (c d : Chip) : Instr → Prop
  | .fuseRepair =>
      d.shp.fuse = (repaired c).fuse ∧ d.shp.shadow = d.shp.fuse ∧ d.get F.SHP_STAT_lc = lifecycle (d.shadow 0) ∧
        d.get F.SHP_STAT_repaired = min (c.shp.weakBits.filter (repaired c).burnt).length 255 ∧
        if c.shp.weakBits.all (repaired c).burnt then d.shp.stage = .test
        else d.shp.stage = .hold ∧ d.get F.SHP_BOOT_ERR_last = 0x0A ∧ d.get F.SHP_STAT_phase = 4
  | .startTestEnd _ => d.shp.stage = .select ∧ d.bit F.BST_STAT_rec_valid = recValid c.ret ∧
      d.get F.SHP_STAT_phase = if c.get F.SHP_STAT_phase = 4 then 4 else 1
  | .headerCheck =>
      match chosenSlot c with
      | some n => d.shp.stage = .verify ∧ d.shp.boot.map (·.src) = some n
      | none => d.shp.stage = .hold ∧ d.get F.SHP_STAT_phase = 4
  | .sectionVerify => ∀ b, c.shp.boot = some b →
      let sects := bunSects (toImage b.hdr)
      if b.late then d.shp.stage = .verify ∧ d.shp.boot = some { b with late := false }
      else match sects[b.next]? with
        | none => d.shp.stage = .passing
        | some s => d.shp.stage = .verify ∧ d.shp.boot.map (·.next) = some (b.next + 1) ∧
            let starts := earlySect b s && !(sects.drop (b.next + 1)).any fun x => decide (x.typ = 1)
            d.shp.boot.map (·.late) = some starts ∧
              (starts = true → d.bit F.CRK_STAT_running = true ∧ d.bit F.SHP_STAT_early = true ∧
                (bunEntry (toImage b.hdr) < 2 ^ 20 → d.crook.core.pc = bunEntry (toImage b.hdr) ∧ d.crook.mode = 1))
  | .pass => d.shp.stage = .passed ∧ d.get F.SHP_STAT_phase = 3 ∧ d.rd R.GUARD_GATE = gateAtPass c.lifeState ∧
      d.get F.FOLD_STAT_state = 2 ∧ d.fold.next = c.fold.next ∧ d.bit F.CRK_STAT_running = true ∧
      ∀ b, c.shp.boot = some b → c.bit F.CRK_STAT_running = false →
        d.crook.core.pc = bunEntry (toImage b.hdr) ∧ d.crook.mode = 1
  | .mbDataWrite _ v =>
      match c.shp.boot with
      | none => d.shp.fifo = c.shp.fifo ++ [v]
      | some b => if b.src = 2 then d.shp.boot = some { b with bytes := b.bytes ++ wordBytes v }
          else d.shp.fifo = c.shp.fifo ++ [v] ∧ d.shp.boot = some b
  | .streamTimeout => d.get F.SHP_BOOT_ERR_host = 0x0B ∧ d.shp.stage = .hold ∧ d.shp.boot = none ∧ d.get F.SHP_STAT_phase = 4
  | .dbgEnter => tapEffect c d 0x30
  | .scanEnter => tapEffect c d 0x31
  | .bypass => d.shp.tap = 0xFF
  | .idcode => d.shp.tap = 0x01
  | .boundaryScan ir => d.shp.tap = ir
  | _ => True

/-! ### The mailbox (chapter 16) -/

/-- What a command's start comes to: its arguments are those of the channel's registers. -/
def mbStart (c : Chip) (crook : Bool) (code : Nat) : MbStart :=
  c.judgeMb crook code (c.rd (R.SHP_MB_ARG0 (b2n crook))).toNat (c.rd (R.SHP_MB_ARG1 (b2n crook))).toNat

/-- The channel takes the command and does not turn it away. -/
def mbAdmits (c : Chip) (r : Req) (code : Nat) : Bool :=
  let crook := reqCrook r
  accepts c r (R.SHP_MB_CMD (b2n crook)) && !c.bit (F.SHP_MB_STAT_busy (b2n crook)) &&
    (match mbStart c crook code with
      | .result n => n == 0
      | _ => true)

def mailboxReady (c : Chip) : Instr → Bool
  | .loadStream r => mbAdmits c r 0x10 && decide (c.rd (R.SHP_MB_ARG0 0) ≠ 0) && c.shp.fifo.isEmpty
  | .bootFlash r => mbAdmits c r 0x11
  | .fuseProg r => mbAdmits c r 0x20
  | .arbAdvance r => mbAdmits c r 0x21
  | .revoke r => mbAdmits c r 0x22
  | .lcSecure r => mbAdmits c r 0x30
  | .challenge r => mbAdmits c r 0x31
  | .respond r => mbAdmits c r 0x32
  | .gateSet r => mbAdmits c r 0x40
  | .resetReq r => mbAdmits c r 0x41
  | .mailboxDone ch => (c.mbCmd (decide (ch = .crook))).any fun m =>
      m.result.isSome || (!m.burns.isEmpty && decide (c.shp.burnQ.head? = some (!decide (ch = .crook)))) ||
        (m.burns.isEmpty && decide (m.code = 0x41) && decide (c.get F.FOLD_STAT_state = 0) && !bitAt m.arg0.toNat 0)
  | _ => false

/-- A command of the fuses: its burns are queued, or it has nothing to burn. -/
def burnEffect (c d : Chip) (r : Req) (code : Nat) : Prop :=
  let crook := reqCrook r
  d.bit (F.SHP_MB_STAT_busy (b2n crook)) = true ∧
    match mbStart c crook code with
    | .burn l => (d.mbCmd crook).map (·.burns) = some l ∧ d.shp.burnQ = c.shp.burnQ ++ [!crook]
    | .result n => (d.mbCmd crook).map (·.result) = some (some n)
    | .runs => True

def mailboxEffect (c d : Chip) : Instr → Prop
  | .loadStream _ => d.bit (F.SHP_MB_STAT_busy 0) = true ∧ d.shp.stage = .verify ∧
      d.shp.boot.map (fun b => (b.src, b.len, b.bytes)) = some (2, (c.rd (R.SHP_MB_ARG0 0)).toNat, [])
  | .bootFlash _ => d.bit (F.SHP_MB_STAT_busy 0) = true ∧ d.shp.stage = .select
  | .fuseProg r => burnEffect c d r 0x20
  | .arbAdvance r => burnEffect c d r 0x21
  | .revoke r => burnEffect c d r 0x22
  | .lcSecure r => burnEffect c d r 0x30
  | .challenge _ => d.shp.chal.isSome = true ∧ (d.mbCmd false).map (·.result) = some (some 0)
  | .respond _ => d.bit (F.SHP_MB_STAT_busy 0) = true ∧
      (c.shp.fifo.length < 49 → (d.mbCmd false).map (fun m => (m.code, m.result)) = some (0x32, none)) ∧
      (49 ≤ c.shp.fifo.length → d.shp.chal = none ∧ d.shp.fifo = c.shp.fifo.drop 49)
  | .gateSet r => d.rd R.GUARD_GATE = ((c.rd R.GUARD_GATE &&& 0b10) |||
      (c.rd (R.SHP_MB_ARG0 (b2n (reqCrook r))) &&& 0b1101 &&& c.shp.gatePass)) ∧ (d.mbCmd (reqCrook r)).map (·.result) = some (some 0)
  | .resetReq r =>
      let mask := (c.rd (R.SHP_MB_ARG0 (b2n (reqCrook r)))).toNat
      if c.get F.FOLD_STAT_state ≠ 0 then (d.mbCmd (reqCrook r)).map (·.code) = some 0x41
      else if bitAt mask 0 then d.shp.stage = .t0 ∧ d.get F.PWR_STAT_cause = 5
      else (bitAt mask 1 = true → d.rf.keyed = false) ∧ (bitAt mask 4 = true → d.dma.rings = []) ∧
        (d.mbCmd (reqCrook r)).map (·.result) = some (some 0)
  | .mailboxDone ch =>
      let crook := decide (ch = .crook)
      d.bit (F.SHP_MB_STAT_busy (b2n crook)) = false ∧ d.bit (F.SHP_MB_STAT_done (b2n crook)) = true ∧ d.mbCmd crook = none ∧
        ∀ m, c.mbCmd crook = some m → (∀ n, m.result = some n →
            d.get (F.SHP_MB_STAT_result (b2n crook)) = (F.SHP_MB_STAT_result (b2n crook)).cut n) ∧
          (m.result = none → (∀ x ∈ m.burns, c.shp.isDud x = false ∧ x.2 < 32) → ∀ x ∈ m.burns, d.shp.burnt x = true)
  | _ => True

/-! ### Power and reset (chapter 18) -/

/-- A reset of the shepherd and core domains (R427, R436): the retention domain keeps its registers, the others take their reset
values, the root is off, and the start sequence stands at `st`. -/
def resetEffect (c d : Chip) (cause : Nat) (st : Stage) : Prop :=
  d.shp.stage = st ∧ d.get F.PWR_STAT_cause = cause ∧ d.get F.PWR_STAT_state = 0 ∧ d.time.rootOn = false ∧ d.time.stc = 0 ∧
    (∀ a, retainedReg a = false → d.rd a = regReset a) ∧
    (∀ a, retainedReg a = true → a ≠ R.PWR_STAT → a ≠ R.PWR_CMD → a ≠ R.GUARD_AIR_CNT → d.rd a = c.rd a)

def powerReady (c : Chip) : Instr → Bool
  | .sleepCommand r v => accepts c r R.PWR_CMD && reqHost r && F.PWR_CMD_sleep.ofB v && decide (c.get F.PWR_STAT_state = 1) &&
      c.bit F.FOLD_STAT_loaded && decide (c.get F.FOLD_STAT_state = 0) && decide (c.get F.SHP_STAT_phase = 3) &&
      decide (c.get F.BST_STAT_shut = 0)
  | .sleepEntry => decide (c.get F.PWR_STAT_state = 2) && !c.pwr.atQ && decide (c.time.stc = c.pwr.qAt) && decide (c.time.frac.val = 0)
  | .sleepEntered => decide (c.get F.PWR_STAT_state = 2) && c.pwr.atQ
  | .wake => decide (c.get F.PWR_STAT_state = 3) && c.pwr.pg
  | .wakeDigest => decide (c.get F.PWR_STAT_state = 4) && c.time.rootOn && c.fold.next.isNone
  | .wakeApply => decide (c.get F.PWR_STAT_state = 4) && c.fold.next.isSome && c.pwr.bwAt.isNone && c.atBoundary c.frameTicks
  | .runReady => decide (c.get F.PWR_STAT_state = 4) && c.fold.next.isSome && c.atR
  | .alarm => c.bit F.PWR_WAKE_alarm_en && (!c.time.rootOn || decide (c.toAlarm = 0) || !c.framesRun ||
      decide (c.now + (rootPer32k * c.toAlarm - c.pwr.frac32) ≤ c.boundaryRoot))
  | .powerOnReset => true
  | .retentionSupplyLoss => true
  | .rstNReset => c.pwr.supply
  | .rstNRelease => decide (c.shp.stage = .inReset) && c.pwr.supply && c.pwr.pg
  | .pwrGoodReset => c.pwr.supply && decide (c.get F.PWR_STAT_state ≠ 3)
  | .pwrGoodRelease => decide (c.shp.stage = .inReset) && c.pwr.supply && c.pwr.rstN
  | .hostSoftReset r v => accepts c r R.PWR_RESET && reqHost r && decide (v = 0xC3C3) && decide (c.get F.SHP_STAT_phase ≠ 6)
  | .pwrOvertemp temp => decide (4 * Int.ofNat (c.get F.PWR_TEMP_thr) ≤ temp.toInt)
  | .overtempEnd temp => decide (temp.toInt ≤ 4 * Int.ofNat (c.get F.PWR_TEMP_thr) - 12)
  | _ => false

def powerEffect (c d : Chip) : Instr → Prop
  | .sleepCommand _ _ => d.get F.PWR_STAT_state = 2 ∧ d.bit F.PWR_CMD_sleep = true ∧ d.pwr.qAt = c.clearBoundary c.nextSuperframe
  | .sleepEntry => d.pwr.atQ = true ∧ d.crook = CrookSt.zero ∧ d.dma.rings = [] ∧ d.rf.keyed = false
  | .sleepEntered => d.get F.PWR_STAT_state = 3 ∧ d.time.rootOn = false ∧ d.co.active = c.co.active ∧ d.co.shadow = c.co.shadow ∧
      ∀ a < 0x100000, d.mem.byte a = c.mem.byte a
  | .wake => d.get F.PWR_STAT_state = 4 ∧ d.get F.PWR_STAT_cause = 6
  | .wakeDigest =>
      if (c.advanceTo c.pwr.hashAt).wakeMatches then d.fold.next = some (readFold (toImage c.fold.buf))
      else d.bit F.SHP_STAT_wake_miss = true ∧ d.shp.stage = .t0 ∧ d.get F.PWR_STAT_cause = 7
  | .wakeApply => d.get F.FOLD_STAT_state = 3 ∧ d.fold.zeroing = true ∧ d.pwr.bwAt = some c.time.stc ∧ d.pas.words = []
  | .runReady => d.get F.PWR_STAT_state = 1 ∧ d.fold.cur = c.fold.next ∧ d.bit F.FOLD_STAT_loaded = true
  | .alarm => d.bit F.PWR_WAKE_alarm = true
  | .powerOnReset => d.time.rootOn = false ∧ d.pwr.supply = true ∧ d.shp.stage = .inReset ∧ (∀ a, d.rd a = regReset a) ∧
      ∀ a < 0xC0000000, d.mem.byte a = 0
  | .retentionSupplyLoss => d.time.rootOn = false ∧ d.pwr.supply = false ∧ d.shp.stage = .inReset ∧ ∀ a, d.rd a = regReset a
  | .rstNReset => resetEffect c d 1 .inReset ∧ d.pwr.rstN = false
  | .rstNRelease => d.shp.stage = .t0 ∧ d.pwr.rstN = true
  | .pwrGoodReset => resetEffect c d 2 .inReset ∧ d.pwr.pg = false
  | .pwrGoodRelease => d.shp.stage = .t0 ∧ d.pwr.pg = true
  | .hostSoftReset _ _ => resetEffect c d 3 .t0
  | .pwrOvertemp temp => d.bit F.PWR_STAT_otemp = true ∧ d.get F.PWR_TEMP_temp = temp.toNat
  | .overtempEnd temp => d.bit F.PWR_STAT_otemp = false ∧ d.get F.PWR_TEMP_temp = temp.toNat
  | _ => True

end Sys2Proof

/-- Chapter 16's start sequence, stream and TAP (R383 to R399, R407, R408). -/
def Obligations.StartRowsComplete : Prop := RowsComplete startReady startEffect

/-- The mailbox (R397 to R404, R409, R439). -/
def Obligations.MailboxRowsComplete : Prop := RowsComplete mailboxReady mailboxEffect

/-- Chapter 18's rows (R427 to R444). -/
def Obligations.PowerRowsComplete : Prop := RowsComplete powerReady powerEffect

namespace Sys2Proof

/-! ### Self-test (chapter 17) -/

/-- Is the engine requested, or next in the background, at a boundary at which an idle engine's test may start (R418, R419)? -/
def idleChoice (c : Chip) : Option Nat :=
  match c.bst.reqEng.filter fun n => c.idleOrder.contains n.val with
  | some n => some n.val
  | none => if c.bit F.BST_CTRL_idle_en then c.idleOrder.head? else none

/-- The test of a unit that runs. -/
def Machine.Chip.runOf (c : Chip) (u : TestUnit) : Option RunTest := c.bst.tests.find? fun t => decide (t.unit = u)

def testReady (c : Chip) : Instr → Bool
  | .testComplete u _ _ => (c.runOf u).any fun t => decide (c.now ≤ t.start + 4 * testLimit u)
  | .testDeadline u _ _ => (c.runOf u).isSome
  | .testStateChange u => c.bst.verdicts.any fun v => decide (v.unit = u) && v.due
  | .idleTestStart => c.onSuperframe && decide (c.get F.SHP_STAT_phase = 3) && !c.idleTestRuns && decide (c.get F.BST_STAT_shut < 2) &&
      (idleChoice c).isSome
  | .spareTestStart bank => c.onSuperframe && decide (c.get F.BST_STAT_shut < 2) &&
      if bank then c.bst.reqBank.any fun b => decide (c.spareBank = some b) && c.pas.mirror.isNone
      else c.bst.reqEng.any fun n => decide (c.seState n.val = seSpare) && c.rot.cur.isNone
  | .testRequest r v => accepts c r R.BST_REQ && F.BST_REQ_go.ofB v &&
      if F.BST_REQ_bank.ofB v then
        decide (F.BST_REQ_unit.of v < 49) && decide (c.get (F.FOLD_BANK_status (F.BST_REQ_unit.of v)) ≠ 3) &&
          !c.testing (.bank (Fin.ofNat 49 (F.BST_REQ_unit.of v)))
      else
        decide (F.BST_REQ_unit.of v < 17) && decide (c.seState (F.BST_REQ_unit.of v) ≠ seStopped) &&
          decide (c.seState (F.BST_REQ_unit.of v) ≠ seArmed) && decide (c.seState (F.BST_REQ_unit.of v) ≠ seUnusable) &&
          !c.testing (.engine (Fin.ofNat 17 (F.BST_REQ_unit.of v)))
  | .markClear r v => accepts c r R.BST_MARK_CLR && decide (v = 0x5A5A)
  | .shutdownRequest r v => accepts c r R.BST_SHUTDOWN && F.BST_SHUTDOWN_go.ofB v && c.mayShutdown r &&
      decide (c.get F.FOLD_STAT_state = 0) && (decide (c.get F.BST_STAT_shut = 0) || decide (c.get F.BST_STAT_shut = 3))
  | .shutdownStart => decide (c.get F.BST_STAT_shut = 1) && decide (c.time.stc = c.bst.zAt) && decide (c.time.frac.val = 0)
  | .shutdownEnd => decide (c.get F.BST_STAT_shut = 2) && c.bst.tests.isEmpty
  | _ => false

/-- A test of a unit ends with a verdict (R415). -/
def verdictEffect (c d : Chip) (u : TestUnit) (count : Nat) (sig : Word) : Prop :=
  let bad := decide (sig.toNat ≠ (testExpect u).2)
  let short := decide (count ≠ (testExpect u).1)
  let src := ((c.runOf u).map (·.src)).getD 0
  d.testing u = false ∧ d.bst.verdicts = c.bst.verdicts ++ [⟨u, !(bad || short), false⟩] ∧ d.rd (resultB u) = sig ∧
    d.rd (resultA u) = BitVec.ofNat 32 (2 ^ 31 + b2n bad * 2 ^ 30 + b2n short * 2 ^ 29 + src % 8 * 2 ^ 25 + count % 2 ^ 21)

def testEffect (c d : Chip) : Instr → Prop
  | .testComplete u count sig => verdictEffect c d u count sig
  | .testDeadline u count sig => verdictEffect c d u count sig
  | .testStateChange u => (d.bst.verdicts.all fun v => decide (v.unit ≠ u)) = true ∧
      ∀ v, (c.bst.verdicts.find? fun v => decide (v.unit = u) && v.due) = some v →
        match u with
        | .engine n => if v.pass then (c.seState n.val = seTest → d.seState n.val = seSpare ∧ d.get F.SE_ROT_STAT_spare = n.val)
            else d.seState n.val = seUnusable ∧ d.get (F.FOLD_ENGINE_status n.val) = 3
        | .bank b => if v.pass then (c.get (F.FOLD_BANK_status b.val) = 0 →
            d.get (F.FOLD_BANK_status b.val) = 2 ∧ d.get F.PAS_ROT_STAT_spare = b.val)
            else d.get (F.FOLD_BANK_status b.val) = 3 ∧ (c.spareBank = none → d.bit F.PAS_ROT_STAT_stopped = true)
  | .idleTestStart => ∀ n, idleChoice c = some n → d.testing (.engine (Fin.ofNat 17 n)) = true
  | .spareTestStart bank =>
      if bank then ∀ b, c.bst.reqBank = some b → d.testing (.bank b) = true ∧ d.bst.reqBank = none ∧ d.spareBank = none
      else ∀ n, c.bst.reqEng = some n → d.testing (.engine n) = true ∧ d.bst.reqEng = none ∧ d.seState n.val = seTest
  | .testRequest _ v =>
      if F.BST_REQ_bank.ofB v then d.bst.reqBank = some (Fin.ofNat 49 (F.BST_REQ_unit.of v))
      else d.bst.reqEng = some (Fin.ofNat 17 (F.BST_REQ_unit.of v))
  | .markClear _ _ => bitAt (recField d.ret 4 4) 1 = true ∧ d.rd R.BST_MARK_ENG = c.rd R.BST_MARK_ENG
  | .shutdownRequest _ _ => d.get F.BST_STAT_shut = 1 ∧ d.bit F.BST_SHUTDOWN_go = true ∧ d.bst.zAt = c.clearBoundary c.nextSuperframe
  | .shutdownStart => d.get F.BST_STAT_shut = 2 ∧ ∀ n : Fin 17, c.seState n.val ≠ seUnusable → d.testing (.engine n) = true
  | .shutdownEnd => d.get F.BST_STAT_shut = 3 ∧ d.bit F.FOLD_STAT_loaded = false ∧ bitAt (recField d.ret 4 4) 0 = true
  | _ => True

/-! ### The pasture (chapter 08) -/

/-- What a gap slot is granted to: the requester class and, for a window word, the request. -/
def granted (c : Chip) (lb : Nat) : Option (Nat × Option (Nat × WinReq)) :=
  (c.physOf lb).bind fun b => (c.gapPick lb b).map fun cls => (cls, if cls = 0 then c.pas.headOf lb else none)

/-- Requests of the window that nothing else follows: a host word after which no cell of a read transaction is waiting to begin. -/
def plainWindow (c : Chip) : WinReq → Bool
  | .crookLoad i => decide (i < c.crook.loads.length)
  | .crookStore i => decide (i < c.crook.stores.length)
  | .hostRead id => decide (c.hif.rid = id) && c.cellWaits && decide (c.hif.todo.2.1 = 0) && c.hif.late.isEmpty
  | .hostWrite _ => decide (c.hif.todo.2.1 = 0) && c.hif.late.isEmpty
  | .dmaRead _ _ _ _ => true
  | .dmaWrite _ _ _ => true
  | .acqWrite _ => true
  | .linkWrite _ => true
  | .linkRead _ => true

def pastureReady (c : Chip) : Instr → Bool
  | .scrubRequest => c.bit F.PAS_SCRUB_en && !c.fold.zeroing && c.pas.scrubAt.any fun t => decide (t ≤ c.boundaryRoot)
  | .gapSlotGrant lb k => c.gapOpen lb.val k &&
      (match granted c lb.val with
        | some (0, some q) => plainWindow c q.2
        | some (0, none) => false
        | some _ => true
        | none => false)
  | .mirrorStart => c.onSuperframe && c.bit F.FOLD_STAT_loaded && c.bit F.PAS_ROT_CTRL_en && !c.bit F.PAS_ROT_STAT_stopped &&
      decide (c.get F.FOLD_STAT_state = 0) && c.pas.mirror.isNone && decide (c.get F.PAS_ROT_STAT_phase ≠ 3) &&
      decide (max (c.get F.PAS_ROT_CTRL_per) 1 * 384 ≤ stcSince c.time.stc c.pas.lastH) && decide (c.get F.BST_STAT_shut ≠ 2) &&
      (c.physOf c.nextLogical).isSome && c.spareBank.isSome
  | .bankSwap => c.onBoundary && c.pas.mirror.any fun m => decide (65536 ≤ m.row) && decide (m.wait = 0) && decide (m.lb < 48)
  | _ => false

def pastureEffect (c d : Chip) : Instr → Prop
  | .scrubRequest => (∀ lb ∈ c.mappedBanks, lb ∈ d.pas.scrubReq) ∧ d.pas.scrubAt = c.pas.scrubAt.map (· + c.scrubStep) ∧
      ∀ t, c.pas.scrubAt = some t → d.now = (c.advanceTo t).now
  | .gapSlotGrant lb k => ∀ b, c.physOf lb.val = some b →
      match granted c lb.val with
      | some (cls, some q) => KMap.get 2 lb.val d.pas.lastGrant = cls ∧
          (match q.2 with
            | .crookLoad i => (d.crook.loads[i]?).map (·.val) = some (some (c.pasRead 1 k lb.val b (q.1 % bankWords)).1)
            | .crookStore i => ∀ st, c.crook.stores[i]? = some st →
                d.pas.readAt (k + 2) (b * bankWords + q.1 % bankWords) = BitVec.ofNat 32 st.val ∧
                  (d.crook.stores[i]?).map (·.done) = some true
            | .hostRead _ => d.hif.cells = c.hif.cells.dropLast ++ [.word (c.pasRead 1 k lb.val b (q.1 % bankWords)).1]
            | .hostWrite v => d.pas.readAt (k + 2) (b * bankWords + q.1 % bankWords) = v
            | .acqWrite v => d.pas.readAt (k + 2) (b * bankWords + q.1 % bankWords) = v
            | .linkWrite v => d.pas.readAt (k + 2) (b * bankWords + q.1 % bankWords) = v
            | .dmaWrite _ _ v => d.pas.readAt (k + 2) (b * bankWords + q.1 % bankWords) = v
            | .dmaRead n id i snd => ∀ j x t, ((c.ring n).findTxn fun _ t => decide (t.id = id)) = some (j, x, t) →
                ∃ t1 : Txn, d.ring n = (c.ring n).putDesc j (x.putTxn t1) ∧ t1.owed = t.owed - 1 ∧
                  KMap.get 0 i (if snd then t1.data2 else t1.data) = (c.pasRead 1 k lb.val b (q.1 % bankWords)).1 ∧
                  t1.err = (if (c.pasRead 1 k lb.val b (q.1 % bankWords)).2.1 then t.err else some 5)
            | .linkRead i => ∀ job, c.lnk.aud = some job →
                d.lnk.aud = some { job with words := job.words.set i (some (c.pasRead 1 k lb.val b (q.1 % bankWords)).1) })
      | some (cls, none) => KMap.get 2 lb.val d.pas.lastGrant = cls ∧
          (cls = 1 → ∀ m, c.pas.mirror = some m → d.pas.mirror.map (·.row) = some (m.row + 1)) ∧
          (cls = 2 → (c.pas.scrubBack.all fun x => !decide (x / bankWords = b)) = true →
            lb.val ∉ d.pas.scrubReq ∧ KMap.get 0 lb.val d.pas.scrubRow = (KMap.get 0 lb.val c.pas.scrubRow + 1) % 65536)
      | none => True
  | .mirrorStart => ∀ p s, c.physOf c.nextLogical = some p → c.spareBank = some s →
      d.pas.mirror = some ⟨c.nextLogical, Fin.ofNat 49 p, s, 0, 0⟩ ∧ d.get F.PAS_ROT_STAT_phase = 1
  | .bankSwap => ∀ m, c.pas.mirror = some m → d.pas.mirror = none ∧ d.get (F.FOLD_BANK_status m.s.val) = 1 ∧
      d.get (F.FOLD_BANK_logical m.s.val) = m.lb ∧ d.get F.PAS_ROT_STAT_phase = 3 ∧ d.testing (.bank m.p) = true
  | _ => True

/-! ### The coefficient store (chapter 08) -/

/-- A request of CO_COMMIT that is taken. -/
def commitReady (c : Chip) (r : Req) (v : Word) (timed : Bool) : Bool :=
  let t := c.rd64 R.CO_AT_LO R.CO_AT_HI
  accepts c r R.CO_COMMIT && F.CO_COMMIT_go.ofB v && !c.co.pending (F.CO_COMMIT_grp.of v) && decide (F.CO_COMMIT_at_time.ofB v = timed) &&
    (!timed || !c.bit F.FOLD_STAT_loaded ||
      (decide (t % c.frameTicks = 0) && decide (c.now + 2 * c.framePeriod ≤ t * rootPerTick)))

/-- The request as it waits. -/
def commitOf (c : Chip) (v : Word) (timed : Bool) : Commit :=
  let g := F.CO_COMMIT_grp.of v
  ⟨g, c.get (F.CO_GRP_BASE_base g), c.get (F.CO_GRP_LEN_len g),
    if timed then some (c.rd64 R.CO_AT_LO R.CO_AT_HI) else none, c.now + 2 * c.framePeriod, !c.bit F.FOLD_STAT_loaded⟩

/-- The slot selected after an access of CO_GLIDE_DATA (R206). -/
def nextSlot (c : Chip) : Nat := if c.bit F.CO_GLIDE_SEL_ainc then (c.glideSel + 1) % 4096 else c.glideSel

def coeffReady (c : Chip) : Instr → Bool
  | .commit r v => commitReady c r v false
  | .timedCommit r v => commitReady c r v true
  | .commitLand => c.onBoundary && c.co.commits.any c.commitDue
  | .glideEnd slot => (c.co.running slot.toNat).any fun g => decide (2 ^ g.k ≤ g.j)
  | .groupDescriptorWrite r g len _ => accepts c r (if len then R.CO_GRP_LEN g.toNat else R.CO_GRP_BASE g.toNat) && !c.co.pending g.toNat
  | .glideDataWrite r _ => accepts c r R.CO_GLIDE_DATA && (c.co.running c.glideSel).isNone
  | .glideDataRead r => acceptsRead c r R.CO_GLIDE_DATA
  | _ => false

def coeffEffect (c d : Chip) : Instr → Prop
  | .commit _ v => d.co.commits = c.co.commits ++ [commitOf c v false] ∧ d.co.active = c.co.active
  | .timedCommit _ v => d.co.commits = c.co.commits ++ [commitOf c v true] ∧ d.co.active = c.co.active
  | .commitLand => d.co.commits = c.co.commits.filter (fun m => !c.commitDue m) ∧
      d.rd R.CO_LAND_CNT = c.rd R.CO_LAND_CNT + BitVec.ofNat 32 (c.co.commits.filter c.commitDue).length ∧
      d.co.shadow = c.co.shadow ∧
      ∀ m ∈ c.co.commits, c.commitDue m = true → ∀ w, m.covers w = true → c.co.governs w = none →
        KMap.get 0 w d.co.active = KMap.get 0 w c.co.shadow
  | .glideEnd slot => d.co.running slot.toNat = none ∧ d.co.active = c.co.active
  | .groupDescriptorWrite _ g len v =>
      let a := if len then R.CO_GRP_LEN g.toNat else R.CO_GRP_BASE g.toNat
      d.rd a = (c.plainWrite a v).rd a
  | .glideDataWrite _ v => KMap.get 0 c.glideSel d.co.slots = (v &&& 0x601FFFFF) ∧ d.glideSel = nextSlot c
  | .glideDataRead r => returned d r = c.readGlideData.1 ∧ d.glideSel = nextSlot c ∧ d.co = c.co
  | _ => True

end Sys2Proof

/-- Chapter 17's rows (R412 to R426). -/
def Obligations.TestRowsComplete : Prop := RowsComplete testReady testEffect

/-- The rows of the pasture (R182 to R194). -/
def Obligations.PastureRowsComplete : Prop := RowsComplete pastureReady pastureEffect

/-- The rows of the coefficient store (R197 to R206, R472). -/
def Obligations.CoefficientRowsComplete : Prop := RowsComplete coeffReady coeffEffect

namespace Sys2Proof

/-! ### Serial audio ports (chapter 09) -/

/-- Is a mask refused on a lane (R224, R226)? -/
def maskRefused (c : Chip) (n m : Nat) : Bool :=
  let g := c.laneGrp n
  (!c.laneLocked n && decide (c.laneState n ≠ laneStopped)) || decide (2 ^ (if c.laneEn n then c.grpSlots g else 0) ≤ m) ||
    (c.laneEn n && c.grpAsrc g && decide (16 < (c.asrcChannels g n m).length))

/-- May the alignment group be triggered at the instant its registers name (R230)? -/
def triggerable (c : Chip) (a : Nat) : Bool :=
  let t := c.rd64 (R.PRT_ALIGN_AT_LO a) (R.PRT_ALIGN_AT_HI a)
  c.bit F.FOLD_STAT_loaded && decide (t % c.frameTicks = 0) && decide (c.now + 2 * c.framePeriod ≤ t * rootPerTick) &&
    ((c.alignLanes a).all fun n => decide (c.laneState n = laneStopped)) &&
    !(List.range 8).any fun g => c.grpEn g && decide (c.grpAlign g = a) && c.halted g

def portReady (c : Chip) : Instr → Bool
  | .groupHalt r g => accepts c r (R.PRT_GRP_CTRL g.toNat) && !c.grpOff g.toNat && !c.bit (F.PRT_GRP_CTRL_halt g.toNat) &&
      ((c.grp g.toNat).relAt.isSome || (((c.lanesOf g.toNat).all fun n => decide (c.laneState n = laneStopped)) &&
        !(decide (c.grpAlign g.toNat < 8) && (c.align (c.grpAlign g.toNat)).trigAt.isSome)))
  | .groupRelease r g => accepts c r (R.PRT_GRP_CTRL g.toNat) && !c.grpOff g.toNat && c.bit (F.PRT_GRP_CTRL_halt g.toNat)
  | .groupHaltEffect g => c.onBoundary && dueAt c.now (c.grp g.toNat).haltAt
  | .groupReleaseEffect g => c.onBoundary && dueAt c.now (c.grp g.toNat).relAt
  | .frameStart g _ _ => c.grpEn g.toNat && !c.grpMaster g.toNat && !c.halted g.toNat
  | .slaveClockLoss g => c.grpEn g.toNat && !c.grpMaster g.toNat && !c.halted g.toNat && c.lossDue g.toNat
  | .asrcLockChange g locked ratio => c.grpEn g.toNat && c.grpAsrc g.toNat && decide (c.rd (R.PRT_GRP_RATIO g.toNat) = ratio) &&
      (if locked then !c.bit (F.PRT_GRP_STAT_asrc_lock g.toNat) && !c.halted g.toNat && steadyRatios (c.grp g.toNat).ratios
        else c.bit (F.PRT_GRP_STAT_asrc_lock g.toNat) && (movedRatio (c.grp g.toNat).ratios || c.lossDue g.toNat))
  | .serialWord n slot _ => c.laneEn n.toNat && c.grpRuns (c.laneGrp n.toNat) && decide (slot.toNat < c.grpSlots (c.laneGrp n.toNat))
  | .laneFillReached n => c.laneEn n.toNat && c.bit (F.PRT_LANE_STAT_waiting n.toNat) &&
      decide (c.fillLevel n.toNat ≤ (c.lane n.toNat).buf.length) && c.fillInstant n.toNat
  | .maskWrite r n v _ => accepts c r (R.PRT_LANE_MASK n.toNat) && !c.laneOff n.toNat && !maskRefused c n.toNat ((F.PRT_LANE_MASK_mask n.toNat).of v)
  | .maskApply n => (c.lane n.toNat).maskPend.any fun p => decide (p.2 = 0)
  | .laneStartRequest r n v => accepts c r (R.PRT_LANE_CTRL n.toNat) && (F.PRT_LANE_CTRL_start n.toNat).ofB v &&
      !(F.PRT_LANE_CTRL_stop n.toNat).ofB v && c.laneEn n.toNat && decide (c.laneState n.toNat = laneStopped) &&
      !c.halted (c.laneGrp n.toNat) && decide (c.get F.FOLD_STAT_state ≠ 3)
  | .laneStart n => c.onBoundary && dueAt c.now (c.lane n.toNat).startAt && !dueAt c.now (c.lane n.toNat).stopAt &&
      !(c.lane n.toNat).trig
  | .laneStopRequest r n v => accepts c r (R.PRT_LANE_CTRL n.toNat) && (F.PRT_LANE_CTRL_stop n.toNat).ofB v &&
      !(F.PRT_LANE_CTRL_start n.toNat).ofB v && c.laneEn n.toNat &&
      (decide (c.laneState n.toNat = laneStarting) || decide (c.laneState n.toNat = laneRunning))
  | .laneStop n => c.onBoundary && dueAt c.now (c.lane n.toNat).stopAt
  | .alignGo r a v => accepts c r (R.PRT_ALIGN_CTRL a.toNat) && (F.PRT_ALIGN_CTRL_go a.toNat).ofB v &&
      !(F.PRT_ALIGN_CTRL_stop a.toNat).ofB v && triggerable c a.toNat
  | .triggeredStart a => c.onBoundary && decide ((c.align a.toNat).trigAt = some c.time.stc) && decide (c.get F.FOLD_STAT_state ≠ 3)
  | .alignStop r a v => accepts c r (R.PRT_ALIGN_CTRL a.toNat) && (F.PRT_ALIGN_CTRL_stop a.toNat).ofB v &&
      !(F.PRT_ALIGN_CTRL_go a.toNat).ofB v
  | _ => false

/-- A slot word on a lane (R215 to R223): what the pin carries, or where the word goes. -/
def serialEffect (c d : Chip) (n slot : Nat) (w : Word) : Prop :=
  let g := c.laneGrp n
  let width := c.grpWidth g
  let l := c.lane n
  let on := c.slotOn n slot
  let sent := fun (v : Word) => (d.lane n).pin = some (cutWord width (c.gateWord width v))
  let passes := l.serialOn && !c.bit (F.PRT_LANE_STAT_waiting n) && !decide (c.now < l.muteTo) && decide (c.get F.BST_STAT_shut < 2)
  let late := c.lateSlot g slot
  let took := if late then l.serialPrev && l.serialOn else l.serialOn
  if c.laneOut n then
    (on = false → (d.lane n).pin = none) ∧
    (on = true → passes = false → sent 0) ∧
    (on = true → passes = true → c.laneLocked n = true →
      sent (if c.grpAsrc g then c.asrcOut n slot else (KMap.get none slot l.outCur).getD 0)) ∧
    (on = true → passes = true → c.laneLocked n = false →
      match l.buf with
      | v :: rest => sent v ∧ (d.lane n).buf = rest
      | [] => sent 0 ∧ d.bit (F.PRT_LANE_STAT_udr n) = true)
  else
    (on = false ∨ took = false → d.lane n = l) ∧
    (on = true → took = true →
      if c.grpAsrc g then ∀ t, (c.grp g).starts[if late then 1 else 0]? = some t → d.lane n = l.record slot t (cutWord width w)
      else if c.laneLocked n then
        KMap.get none slot (if late then (d.lane n).inPrev else (d.lane n).inCur) = some (cutWord width w)
      else if l.buf.length < 64 then (d.lane n).buf = l.buf ++ [cutWord width w]
      else (d.lane n).buf = l.buf ∧ (c.bit (F.PRT_LANE_STAT_waiting n) = false → d.bit (F.PRT_LANE_STAT_ovr n) = true))

def portEffect (c d : Chip) : Instr → Prop
  | .groupHalt _ g => d.bit (F.PRT_GRP_CTRL_halt g.toNat) = true ∧
      if (c.grp g.toNat).relAt.isSome then (d.grp g.toNat).relAt = none
      else (d.grp g.toNat).haltAt = some (c.now + c.framePeriod)
  | .groupRelease _ g => d.bit (F.PRT_GRP_CTRL_halt g.toNat) = false ∧
      if (c.grp g.toNat).haltAt.isSome then (d.grp g.toNat).haltAt = none
      else (d.grp g.toNat).relAt = some (c.now + 2 * c.framePeriod)
  | .groupHaltEffect g => d.halted g.toNat = true ∧ d.bit (F.PRT_GRP_STAT_clk_ok g.toNat) = false ∧ (d.grp g.toNat).haltAt = none
  | .groupReleaseEffect g => d.halted g.toNat = false ∧ (d.grp g.toNat).relAt = none ∧
      (c.grpEn g.toNat = true → c.grpMaster g.toNat = true → d.bit (F.PRT_GRP_STAT_clk_ok g.toNat) = true)
  | .frameStart g bits phase =>
      let ca := if phase.toNat < c.framePeriod then c.advanceTo (c.now - c.sinceBoundary + phase.toNat) else c
      let x := c.grp g.toNat
      let lost := dueAt ca.now x.lossAt
      d.get (F.PRT_GRP_PHASE_phase g.toNat) = (F.PRT_GRP_PHASE_phase g.toNat).cut ca.sinceBoundary ∧
        (d.grp g.toNat).starts.head? = some (Int.ofNat ca.now) ∧ (d.grp g.toNat).lossAt = some (ca.now + clockWait) ∧
        (if x.seen = false ∨ lost = true then (d.grp g.toNat).seen = true ∧ (d.grp g.toNat).good = 0 ∧
            (lost = true → d.bit (F.PRT_GRP_STAT_clk_ok g.toNat) = false ∧ d.bit (F.PRT_GRP_STAT_clk_loss g.toNat) = true)
        else if bits = c.grpSlots g.toNat * c.grpWidth g.toNat then
          (d.grp g.toNat).good = x.good + 1 ∧ (1 ≤ x.good → d.bit (F.PRT_GRP_STAT_clk_ok g.toNat) = true)
        else (d.grp g.toNat).good = 0 ∧ d.bit (F.PRT_GRP_STAT_fsy_err g.toNat) = true)
  | .slaveClockLoss g => d.bit (F.PRT_GRP_STAT_clk_ok g.toNat) = false ∧ d.bit (F.PRT_GRP_STAT_clk_loss g.toNat) = true ∧
      d.bit (F.PRT_GRP_STAT_asrc_lock g.toNat) = false ∧ (d.grp g.toNat).seen = false ∧ (d.grp g.toNat).lossAt = none
  | .asrcLockChange g locked _ => d.bit (F.PRT_GRP_STAT_asrc_lock g.toNat) = locked
  | .serialWord n slot w => serialEffect c d n.toNat slot.toNat w
  | .laneFillReached n => d.bit (F.PRT_LANE_STAT_waiting n.toNat) = false
  | .maskWrite _ n v late => d.maskOf n.toNat = (F.PRT_LANE_MASK_mask n.toNat).of v ∧
      (d.lane n.toNat).maskPend = (c.lane n.toNat).maskPend ++
        [((F.PRT_LANE_MASK_mask n.toNat).of v, if c.maskLate (c.laneGrp n.toNat) late then 2 else 1)]
  | .maskApply n => ∀ p, ((c.lane n.toNat).maskPend.filter fun p => decide (p.2 = 0)).getLast? = some p →
      d.get (F.PRT_LANE_MASK_active n.toNat) = (F.PRT_LANE_MASK_active n.toNat).cut p.1 ∧
        (d.lane n.toNat).maskPend = (c.lane n.toNat).maskPend.filter fun p => !decide (p.2 = 0)
  | .laneStartRequest _ n _ => d.laneState n.toNat = laneStarting ∧ (d.lane n.toNat).startAt = some (c.now + 2 * c.framePeriod) ∧
      d.bit (F.PRT_LANE_CTRL_start n.toNat) = true
  | .laneStart n => (d.lane n.toNat).startAt = none ∧ d.bit (F.PRT_LANE_CTRL_start n.toNat) = false ∧
      d.laneState n.toNat = if (c.lane n.toNat).stopAt.isSome then laneStopping else laneRunning
  | .laneStopRequest _ n _ => d.laneState n.toNat = laneStopping ∧ (d.lane n.toNat).stopAt = some (c.now + c.framePeriod) ∧
      d.bit (F.PRT_LANE_CTRL_stop n.toNat) = true
  | .laneStop n => d.laneState n.toNat = laneStopped ∧ (d.lane n.toNat).stopAt = none ∧ (d.lane n.toNat).startAt = none ∧
      d.bit (F.PRT_LANE_CTRL_stop n.toNat) = false ∧ d.bit (F.PRT_LANE_CTRL_start n.toNat) = false ∧ (d.lane n.toNat).side = []
  | .alignGo _ a _ => (d.align a.toNat).trigAt = some (c.rd64 (R.PRT_ALIGN_AT_LO a.toNat) (R.PRT_ALIGN_AT_HI a.toNat)) ∧
      d.bit (F.PRT_ALIGN_CTRL_go a.toNat) = true ∧ ∀ n ∈ c.alignLanes a.toNat, d.laneState n = laneStarting ∧
        (d.lane n).startAt = some (c.rd64 (R.PRT_ALIGN_AT_LO a.toNat) (R.PRT_ALIGN_AT_HI a.toNat) * rootPerTick)
  | .triggeredStart a => (d.align a.toNat).trigAt = none ∧ d.bit (F.PRT_ALIGN_CTRL_go a.toNat) = false ∧
      ∀ n ∈ c.alignLanes a.toNat, (c.lane n).trig = true → (c.lane n).startAt ≠ none → dueAt c.now (c.lane n).stopAt = false →
        d.laneState n = if (c.lane n).stopAt.isSome then laneStopping else laneRunning
  | .alignStop _ a _ => (d.align a.toNat).trigAt = none ∧ d.bit (F.PRT_ALIGN_CTRL_go a.toNat) = false ∧
      ∀ n ∈ c.alignLanes a.toNat, (c.laneState n = laneStarting ∨ c.laneState n = laneRunning) →
        d.laneState n = laneStopping ∧ (d.lane n).stopAt = some (c.now + c.framePeriod)
  | _ => True

end Sys2Proof

/-- Chapter 09's rows (R207 to R233). -/
def Obligations.PortRowsComplete : Prop := RowsComplete portReady portEffect

namespace Sys2Proof

/-! ### DMA (chapter 10) -/

/-- A write of DMA_RING_CTRL that the ring's page accepts, with its three requests. -/
def ringWrite (c : Chip) (r : Req) (n : Nat) (v : Word) (start pause abort : Bool) : Bool :=
  accepts c r (R.DMA_RING_CTRL n) && decide ((F.DMA_RING_CTRL_start n).ofB v = start) &&
    decide ((F.DMA_RING_CTRL_abort n).ofB v = abort) && (start || abort || decide ((F.DMA_RING_CTRL_pause n).ofB v = pause))

def dmaReady (c : Chip) : Instr → Bool
  | .ringStart r n v => ringWrite c r n.toNat v true false false &&
      (decide (c.ringState n.toNat = ringIdle) || decide (c.ringState n.toNat = ringHalted)) &&
      decide (c.quotaSum + min (max ((F.DMA_RING_CTRL_quota n.toNat).of v) 1) 64 ≤ 256)
  | .ringAbort r n v => ringWrite c r n.toNat v false false true && c.holdsQuota n.toNat
  | .ringPause r n v => ringWrite c r n.toNat v false true false && decide (c.ringState n.toNat = ringRunning)
  | .ringResume r n v => ringWrite c r n.toNat v false false false &&
      (decide (c.ringState n.toNat = ringPausing) || decide (c.ringState n.toNat = ringPaused))
  | .ringAbortDone n => (c.ring n.toNat).aborting && decide ((c.ring n.toNat).flights = 0)
  | .ringPaused n => decide (c.ringState n.toNat = ringPausing) && decide ((c.ring n.toNat).flights = 0) &&
      !c.drains (c.ring n.toNat) && !c.statusDue n.toNat && !(c.ring n.toNat).aborting
  | .descriptorFetch n => (c.fetchAt n.toNat).isSome
  | .readTransaction n => decide (c.pickRing c.dma.lastRd c.readReady = some n.toNat)
  | .readResponse n => (c.ring n.toNat).waitingRead.any fun y =>
      decide (c.deadline y.2.1.readsWindow y.2.2.issued < c.now) || decide (y.2.2.owed = 0)
  | .writeBurst n => decide (c.pickRing c.dma.lastWr c.writeReady = some n.toNat)
  | .writeResponse n => (c.ring n.toNat).waitingBurst.any fun y =>
      decide (c.deadline (inWindow y.2.1.dst) (y.2.2.bursts.headD 0) < c.now) || decide (y.2.2.open_ = 0)
  | .transactionTimeout n k =>
      match k with
      | .read => (c.ring n.toNat).waitingRead.any fun y => decide (c.deadline y.2.1.readsWindow y.2.2.issued ≤ c.boundaryRoot)
      | .write => (c.ring n.toNat).waitingBurst.any fun y =>
          decide (c.deadline (inWindow y.2.1.dst) (y.2.2.bursts.headD 0) ≤ c.boundaryRoot)
      | .fetch => (c.fetchAt n.toNat).isSome && (c.ring n.toNat).fetchAt.any fun t => decide (c.deadline false t ≤ c.boundaryRoot)
      | .status => c.statusDue n.toNat && (c.ring n.toNat).statusAt.any fun t => decide (c.deadline false t ≤ c.boundaryRoot)
  | .laneBeat n => c.ringMoves n.toNat && ((c.ring n.toNat).findTxn (c.beatReady (c.ring n.toNat))).isSome
  | .descriptorEnd n => c.statusDue n.toNat &&
      !(match (c.ring n.toNat).descs with
        | x :: rest => (c.descEndOf n.toNat x).halts && rest.any fun y => y.txns.any y.busy
        | [] => false)
  | .ddrEnable r v => accepts c r R.DMA_DDR_CTRL && F.DMA_DDR_CTRL_en.ofB v && !c.bit F.DMA_DDR_STAT_ready &&
      !c.bit F.DMA_DDR_STAT_busy && decide (F.DMA_DDR_CTRL_size.of v ≠ 0) && decide (F.DMA_DDR_CTRL_size.of v ≤ 4)
  | .ddrDisable r v => accepts c r R.DMA_DDR_CTRL && !F.DMA_DDR_CTRL_en.ofB v
  | .ddrTrainingEnd _ _ => c.bit F.DMA_DDR_STAT_busy
  | _ => false

/-- The head descriptor of a ring ends (R236, R247 to R249): where its status goes and what the ring does next. -/
def endEffect (c d : Chip) (n : Nat) : Prop :=
  ∀ x rest, (c.ring n).descs = x :: rest →
    let e := c.descEndOf n x
    (e.writes = true → BitVec.ofNat 32 (Mem.read d.mem (x.addr + 0x1C) 4) = BitVec.ofNat 32 x.status ∧
      d.rd (R.DMA_RING_LAST n) = BitVec.ofNat 32 x.status) ∧
    (e.writes = false → d.mem = c.mem ∧ d.rd (R.DMA_RING_LAST n) = c.rd (R.DMA_RING_LAST n)) ∧
    (∀ k, e.code = some k → d.bit (F.DMA_RING_STAT_err n) = true ∧
      d.get (F.DMA_RING_STAT_code n) = (F.DMA_RING_STAT_code n).cut k) ∧
    (x.mis.isSome = true → d.bit (F.DMA_RING_STAT_mis n) = true) ∧
    d.get (F.DMA_RING_DONE_CNT_count n) = (F.DMA_RING_DONE_CNT_count n).cut (c.get (F.DMA_RING_DONE_CNT_count n) + 1) ∧
    (if e.halts then d.ringState n = ringHalted ∧ (d.ring n).descs = []
    else if x.last then d.ringState n = ringIdle ∧ (d.ring n).descs = []
    else d.ringState n = c.ringState n ∧ (d.ring n).descs = rest ∧
      (rest = [] → d.rd (R.DMA_RING_CUR n) = BitVec.ofNat 32 x.next))

/-- Descriptor `i` of a ring becomes `x`. -/
def becomes (c d : Chip) (n i : Nat) (x : DescRun) : Prop := (d.ring n).descs = ((c.ring n).putDesc i x).descs

/-- The descriptor that a fetch brings (R237, R247, R251). -/
def fetched (c : Chip) (n a hops : Nat) : DescRun :=
  if c.descRefused n false a then DescRun.unfetched a
  else
    let bad := if max (c.get (F.DMA_RING_CTRL_hop_lim n)) 1 < hops then some (8, 0, true)
      else if c.descValid n (c.readDesc a) (Mem.read c.mem (a + 0x18) 4) then none
      else some (6, 0, true)
    { c.readDesc a with fail := bad }

/-- The descriptor of the read that is answered (R238, R247, R248). -/
def answered (c : Chip) (x : DescRun) (t : Txn) : DescRun :=
  if c.deadline x.readsWindow t.issued < c.now then x.failOrDrop t 3 t.ofs
  else if t.dead then x.dropTxn t.id
  else match t.err with
    | some code => x.failAt t.id code t.ofs
    | none =>
      if x.op ≠ 2 then x.putTxn { t with ready := true }
      else match firstUnequal t.data t.data2 t.words with
        | none => { x.dropTxn t.id with wr := x.wr + t.bytes }
        | some k => { x with
            txns := (x.txns.filter fun y => !decide (y.id = t.id)).map fun y => { y with dead := true }
            mis := some (t.ofs + 4 * k)
            wr := t.ofs + 4 * k }

/-- The descriptor of the burst that is answered (R248, R249). -/
def confirmed (c : Chip) (x : DescRun) (t : Txn) : DescRun :=
  if c.deadline (inWindow x.dst) (t.bursts.headD 0) < c.now then x.failOrDrop t 4 (t.ofs + 4 * (t.sent - t.open_))
  else match t.err with
    | some code => x.failOrDrop t code (t.ofs + 4 * t.sent)
    | none => x.confirm t

def dmaEffect (c d : Chip) : Instr → Prop
  | .ringStart _ n v => (d.ring n.toNat).descs = [] ∧ d.rd (R.DMA_RING_CUR n.toNat) = c.rd (R.DMA_RING_HEAD n.toNat) ∧
      d.ringState n.toNat = if (F.DMA_RING_CTRL_pause n.toNat).ofB v then ringPaused else ringRunning
  | .ringAbort _ n _ => (d.ring n.toNat).aborting = true ∧ d.bit (F.DMA_RING_CTRL_abort n.toNat) = true ∧
      (d.ring n.toNat).descs = (c.ring n.toNat).descs
  | .ringPause _ n _ => d.ringState n.toNat = ringPausing ∧ d.bit (F.DMA_RING_CTRL_pause n.toNat) = true ∧
      (d.ring n.toNat).descs = (c.ring n.toNat).descs ∧ (d.ring n.toNat).aborting = (c.ring n.toNat).aborting
  | .ringResume _ n _ => d.ringState n.toNat = ringRunning ∧ d.bit (F.DMA_RING_CTRL_pause n.toNat) = false ∧
      (d.ring n.toNat).descs = (c.ring n.toNat).descs ∧ (d.ring n.toNat).aborting = (c.ring n.toNat).aborting
  | .ringAbortDone n => d.ringState n.toNat = ringIdle ∧ (d.ring n.toNat).descs = [] ∧ (d.ring n.toNat).aborting = false
  | .ringPaused n => d.ringState n.toNat = ringPaused ∧ d.ring n.toNat = c.ring n.toNat
  | .descriptorFetch n => ∀ a, c.fetchAt n.toNat = some a →
      let refused := c.descRefused n.toNat false a
      let hops := if !refused && (c.readDesc a).hopClr then 1 else c.get (F.DMA_RING_STAT_hops n.toNat) + 1
      (d.ring n.toNat).descs = (c.ring n.toNat).descs ++ [fetched c n.toNat a hops] ∧
        (refused = true ∨ hops ≤ max (c.get (F.DMA_RING_CTRL_hop_lim n.toNat)) 1 →
          d.get (F.DMA_RING_STAT_hops n.toNat) = (F.DMA_RING_STAT_hops n.toNat).cut hops)
  | .readTransaction n => d.dma.lastRd = n.toNat ∧ ∀ x, (c.ring n.toNat).descs.getLast? = some x →
      ∃ t : Txn, t.id = (c.ring n.toNat).nextId ∧ t.ofs = x.rd ∧ t.bytes = x.nextSize x.rd x.src x.srcLane ∧ t.ready = false ∧
        becomes c d n.toNat ((c.ring n.toNat).descs.length - 1) { x with rd := x.rd + t.bytes, txns := x.txns ++ [t] }
  | .readResponse n => ∀ i x t, (c.ring n.toNat).waitingRead = some (i, x, t) → becomes c d n.toNat i (answered c x t)
  | .writeBurst n => d.dma.lastWr = n.toNat ∧
      ∀ i x t fresh, (c.ring n.toNat).writing = some (i, x) → x.toWrite (c.ring n.toNat).nextId c.now = some (t, fresh) →
        let a := x.dst + t.ofs + 4 * t.sent
        let words := min (t.words - t.sent) ((256 - a % 256) / 4)
        a + 4 * words ≤ 0x100000 → (∀ k < words, c.gateOf (.dma n) true (a + 4 * k) 4 = .accept) →
          (∀ k < words, BitVec.ofNat 32 (Mem.read d.mem (a + 4 * k) 4) = KMap.get 0 (t.sent + k) t.data) ∧
          ((d.ring n.toNat).descs[i]?).map (·.wr) = some (x.wr + 4 * words)
  | .writeResponse n => ∀ i x t, (c.ring n.toNat).waitingBurst = some (i, x, t) → becomes c d n.toNat i (confirmed c x t)
  | .transactionTimeout n k =>
      match k with
      | .read => ∀ i x t, (c.ring n.toNat).waitingRead = some (i, x, t) → becomes c d n.toNat i (x.failOrDrop t 3 t.ofs)
      | .write => ∀ i x t, (c.ring n.toNat).waitingBurst = some (i, x, t) →
          becomes c d n.toNat i (x.failOrDrop t 4 (t.ofs + 4 * (t.sent - t.open_)))
      | .fetch => ∀ a, c.fetchAt n.toNat = some a → (d.ring n.toNat).descs = (c.ring n.toNat).descs ++ [DescRun.unfetched a]
      | .status => ∀ x rest, (c.ring n.toNat).descs = x :: rest →
          (d.ring n.toNat).descs = { x with fail := some (7, x.wr, false) } :: rest
  | .laneBeat n => ∀ i x t, (c.ring n.toNat).findTxn (c.beatReady (c.ring n.toNat)) = some (i, x, t) →
      if x.srcLane then ∀ v rest, (c.lane x.lane).buf = v :: rest → (d.lane x.lane).buf = rest ∧
        becomes c d n.toNat i (x.putTxn
          { t with data := KMap.set 0 t.got v t.data, got := t.got + 1, ready := decide (t.words ≤ t.got + 1) })
      else (d.lane x.lane).buf = (c.lane x.lane).buf ++ [KMap.get 0 t.sent t.data] ∧
        becomes c d n.toNat i { (if t.words ≤ t.sent + 1 then x.dropTxn t.id else x.putTxn { t with sent := t.sent + 1 }) with
          wr := x.wr + 4 }
  | .descriptorEnd n => endEffect c d n.toNat
  | .ddrEnable _ _ => d.bit F.DMA_DDR_STAT_busy = true
  | .ddrDisable _ _ => d.bit F.DMA_DDR_STAT_ready = false ∧ d.bit F.DMA_DDR_STAT_busy = false ∧ d.bit F.SYS_FEAT2_ext_mem = false ∧
      d.ddrBytes = 0
  | .ddrTrainingEnd ok density => d.bit F.DMA_DDR_STAT_busy = false ∧
      if ok = true ∧ density.toNat = c.get F.DMA_DDR_CTRL_size then
        d.bit F.DMA_DDR_STAT_ready = true ∧ d.bit F.SYS_FEAT2_ext_mem = true ∧ d.get F.SYS_FEAT2_ext_size = c.get F.DMA_DDR_CTRL_size
      else d.bit F.DMA_DDR_STAT_fail = true
  | _ => True

/-! ### Events and the output guard (chapter 12) -/

def eventReady (c : Chip) : Instr → Bool
  | .queuePop r v => accepts c r R.EVT_Q_POP && F.EVT_Q_POP_pop.ofB v
  | .lingerEnd id => (c.lingerEnd id.toNat).any fun t => decide (t ≤ Int.ofNat c.boundaryRoot)
  | .dcLatch ch => decide ((c.guardCh ch.toNat).n = 2400 * 2 ^ c.rateExp + 1) && !c.bit (F.GUARD_CH_STAT_dc ch.toNat)
  | .dcLatchClear r ch v => accepts c r (R.GUARD_CH_STAT ch.toNat) && (F.GUARD_CH_STAT_dc ch.toNat).ofB v &&
      c.bit (F.GUARD_CH_STAT_dc ch.toNat) &&
      (decide ((c.guardCh ch.toNat).d = 0) || decide ((c.guardCh ch.toNat).m.natAbs < (c.guardCh ch.toNat).d * 2 ^ 22))
  | _ => false

def eventEffect (c d : Chip) : Instr → Prop
  | .queuePop _ _ => d.evt.queue = c.evt.queue.drop 1 ∧ d.evt.tallies = c.evt.tallies
  | .lingerEnd id => (d.evt.linger.any fun e => decide (e.1 = id.toNat)) = false ∧ d.evt.queue = c.evt.queue ∧
      ∀ t, c.lingerEnd id.toNat = some t → d.now = (c.advanceTo t.toNat).now
  | .dcLatch ch => d.bit (F.GUARD_CH_STAT_dc ch.toNat) = true
  | .dcLatchClear _ ch _ => d.bit (F.GUARD_CH_STAT_dc ch.toNat) = false
  | _ => True

/-! ### The crook between instructions (chapter 11) -/

/-- A reset of the shepherd and core domains, as the device shows it afterwards. -/
def resetEffectOf (d : Chip) (cause : Nat) : Prop :=
  d.shp.stage = .t0 ∧ d.get F.PWR_STAT_cause = cause ∧ d.get F.PWR_STAT_state = 0 ∧ d.time.rootOn = false ∧
    ∀ a, retainedReg a = false → d.rd a = regReset a

/-- The crook at the entry of an interrupt: writes due by then have landed (R261). -/
def atEntry (c : Chip) : Chip := c.landTo .crook c.crook.core.cyc

/-- The vector of the next interrupt: the watchdog's warning, then the lowest line (R263, R266). -/
def nextVector (c : Chip) : Option Nat :=
  if c.crook.wdWarn then (if c.crook.mode.getLsbD 2 then none else some 6)
  else if c.crook.mode.getLsbD 1 then c.pendingLine.map (32 + ·)
  else none

def crookReady (c : Chip) : Instr → Bool
  | .crookLoadReturn => !c.crook.loads.isEmpty && !c.crook.loads.any HeldLoad.waits
  | .crookAccessComplete => c.crook.loads.isEmpty && !c.crook.stores.any HeldStore.waits &&
      ((c.crook.stores.all fun x => inPasture x.addr) || decide (c.crook.stores.length = 1))
  | .interruptEntry => c.crookBetween &&
      (nextVector (atEntry c)).any fun v => decide ((atEntry c).crook.vbase.toNat + 16 * v < 2 ^ 20)
  | .watchdogEnable r v => accepts c r R.CRK_WDT_CTRL && F.CRK_WDT_CTRL_en.ofB v
  | .watchdogKick r v => accepts c r R.CRK_WDT_KICK && reqCrook r && c.crook.mode.getLsbD 0 && decide (v = 0xA5A5) &&
      c.bit F.CRK_WDT_CTRL_en
  | .watchdogExpiry => c.bit F.CRK_WDT_CTRL_en && c.time.rootOn && decide (c.get F.SHP_STAT_phase ≠ 6) &&
      !(c.framesRun && decide (c.boundaryRoot < c.now + (8 * c.crook.wdCount - c.crook.wdFrac)))
  | _ => false

def crookEffect (c d : Chip) : Instr → Prop
  | .crookLoadReturn => d.crook.loads = [] ∧
      ∀ l v p, c.crook.loads = [l] → l.val = some v → l.dst = .word p →
        d.crook.core.pend = c.crook.core.pend ++ [(c.crook.core.cyc + l.lat, .p p (wordToP v))] ∧ d.bus.crook = v
  | .crookAccessComplete =>
      ((c.crook.stores.all fun x => inPasture x.addr) = true → d.crook.stores = [] ∧ d.crook.syncing = false ∧
        d.crook.core.cyc = if c.crook.syncing then max c.crook.core.cyc c.crook.memAt else c.crook.core.cyc) ∧
      ∀ x, c.crook.stores = [x] → inPasture x.addr = false →
        d = ((({ c with crook := { c.crook with stores := [] } }).busWriteN .crook x.addr x.bytes x.val).2.endSync).settle
  | .interruptEntry => ∀ v, nextVector (atEntry c) = some v →
      let k := (atEntry c).crook
      d.crook.core.pc = k.vbase.toNat + 16 * v ∧ d.crook.epc = k.core.pc % 2 ^ 20 ∧ d.crook.mode = 0b101 ∧
        d.crook.cause = BitVec.ofNat 17 v ∧ d.crook.estat = ((k.mode.zeroExtend 8 <<< 5) ||| k.core.fl.zeroExtend 8) ∧
        d.crook.wdWarn = false ∧ d.crook.repc = (if k.repLeft = 0 then k.repc else k.repLeft) ∧ d.mem = (atEntry c).mem
  | .watchdogEnable _ v => d.bit F.CRK_WDT_CTRL_en = true ∧ d.get F.CRK_WDT_CTRL_per = F.CRK_WDT_CTRL_per.of v ∧
      (d.crook.wdCount, d.crook.wdFrac) =
        if c.bit F.CRK_WDT_CTRL_en then (c.crook.wdCount, c.crook.wdFrac) else (max (F.CRK_WDT_CTRL_per.of v) 1 * 65536, 0)
  | .watchdogKick _ _ => d.crook.wdCount = max (c.get F.CRK_WDT_CTRL_per) 1 * 65536 ∧ d.crook.wdFrac = 0 ∧ d.get F.CRK_WDT_STAT_stage = 0
  | .watchdogExpiry =>
      if c.get F.CRK_WDT_STAT_stage = 0 then d.get F.CRK_WDT_STAT_stage = 1 ∧
        d.crook.wdCount = max (c.get F.CRK_WDT_CTRL_per) 1 * 65536 ∧ d.crook.wdFrac = 0 ∧
        (if c.crook.mode.getLsbD 2 then d.bit F.CRK_STAT_halted = true else d.crook.wdWarn = true)
      else resetEffectOf d 4
  | _ => True

end Sys2Proof

/-- Chapter 10's rows (R234 to R253). -/
def Obligations.DmaRowsComplete : Prop := RowsComplete dmaReady dmaEffect

/-- The rows of the event fabric and the guard (R277, R281, R288, R289). -/
def Obligations.EventRowsComplete : Prop := RowsComplete eventReady eventEffect

/-- The crook's rows (R123, R156, R266, R268). -/
def Obligations.CrookRowsComplete : Prop := RowsComplete crookReady crookEffect

namespace Sys2Proof

/-! ### Register accesses (chapter 01) -/

/-- Registers of the pages SYS, CLK, TIME and FOLD whose writes have no effect but their own bits. -/
def plainReg (a : Nat) : Bool :=
  within a 0x40000000 0x40003FFF && decide (a ≠ R.CLK_CTRL ∧ a ≠ R.CLK_PERR_SAT ∧ a ≠ R.TIME_LOAD_CTRL ∧
    a ≠ R.TIME_TP_CTRL 0 ∧ a ≠ R.TIME_TP_CTRL 1 ∧ a ≠ R.FOLD_CTRL)

/-- The fields that a read of each counter clears (R7), with the register and the requester. -/
def clearedFields : Instr → Option (Req × Nat × List Fld)
  | .seCycRead r n => some (r, R.SE_CYC n.val, [F.SE_CYC_max n.val])
  | .seOvrCntRead r n => some (r, R.SE_OVR_CNT n.val, [F.SE_OVR_CNT_count n.val])
  | .pasEccCntRead r => some (r, R.PAS_ECC_CNT, [F.PAS_ECC_CNT_uncorr, F.PAS_ECC_CNT_corr])
  | .pasMissCntRead r => some (r, R.PAS_MISS_CNT, [F.PAS_MISS_CNT_count])
  | .prtLaneSlipRead r n => some (r, R.PRT_LANE_SLIP n.toNat, [F.PRT_LANE_SLIP_ovr_cnt n.toNat, F.PRT_LANE_SLIP_udr_cnt n.toNat])
  | .prtGrpFerrRead r g => some (r, R.PRT_GRP_FERR g.toNat, [F.PRT_GRP_FERR_count g.toNat])
  | .evtQDropRead r => some (r, R.EVT_Q_DROP, [F.EVT_Q_DROP_count])
  | .guardChPeakCntRead r ch => some (r, R.GUARD_CH_PEAK_CNT ch.toNat, [F.GUARD_CH_PEAK_CNT_count ch.toNat])
  | .rfOvlCntRead r => some (r, R.RF_OVL_CNT, [F.RF_OVL_CNT_count])
  | .rfTxLateCntRead r => some (r, R.RF_TX_LATE_CNT, [F.RF_TX_LATE_CNT_count])
  | .lnkAudCntRead r => some (r, R.LNK_AUD_CNT, [F.LNK_AUD_CNT_rec, F.LNK_AUD_CNT_lost])
  | .lnkStrayCntRead r => some (r, R.LNK_STRAY_CNT, [F.LNK_STRAY_CNT_count])
  | .bstTallyRead r => some (r, R.BST_TALLY, [F.BST_TALLY_fail, F.BST_TALLY_pass])
  | _ => none

/-- What a read of a count that a read clears returns, and what the count holds afterwards (R7): what hardware has counted in the
cycle of the read is not lost. -/
def Machine.Chip.countedNow (c : Chip) (key : Nat) (cur : Word) : Word × Word :=
  match KMap.get none key c.freshNow.was with
  | none => (cur, 0)
  | some w => (w, KMap.get 0 key c.freshNow.new)

def registerReady (c : Chip) (i : Instr) : Bool :=
  match i with
  | .registerWrite r addr _ => plainReg addr.toNat && accepts c r addr.toNat && (regRow? addr.toNat).isSome && !soReg addr.toNat
  | .evtTallyRead r => acceptsRead c r R.EVT_TALLY
  | _ => (clearedFields i).any fun x => acceptsRead c x.1 x.2.1

def registerEffect (c d : Chip) (i : Instr) : Prop :=
  match i with
  | .registerWrite _ addr v => (∀ row, regRow? addr.toNat = some row →
        d.rd (regCanon addr.toNat) =
          (row.written (c.rd (regCanon addr.toNat)) v ||| (c.collide (regCanon addr.toNat) v &&& row.w1c))) ∧
      (∀ b, b ≠ regCanon addr.toNat → d.rd b = c.rd b) ∧ d.mem = c.mem ∧ d.pas = c.pas ∧ d.eng = c.eng ∧ d.crook = c.crook ∧
      d.co = c.co ∧ d.dma = c.dma ∧ d.prt = c.prt ∧ d.time.stc = c.time.stc
  | .evtTallyRead r =>
      let x := c.countedNow (2 ^ 32 + c.selId) (KMap.get 0 c.selId c.evt.tallies)
      returned d r = x.1 ∧ KMap.get 0 c.selId d.evt.tallies = x.2 ∧ d.evt.queue = c.evt.queue
  | _ => ∀ x, clearedFields i = some x →
      let y := c.countedNow x.2.1 (c.rd x.2.1)
      (∀ f ∈ x.2.2, f.of (returned d x.1) = f.of y.1 ∧ d.get f = f.of y.2) ∧
        (KMap.get none x.2.1 c.freshNow.was = none → returned d x.1 = c.rd x.2.1) ∧ ∀ b, b ≠ x.2.1 → d.rd b = c.rd b

/-! ### The host interface (chapter 19) -/

/-- The words of a write transaction as they wait. -/
def hostWordsOf (addr : Word) (fixed : Bool) (ws : List Word) : List HostWord :=
  ((List.range ws.length).zip ws).map fun e => .to (wordAddr addr fixed e.1) e.2

/-- What a write transaction leaves: its words at the tail of the buffer, `short` where its last word was cut. -/
def wordsEffect (c d : Chip) (ws : List HostWord) (tail : Nat) : Prop :=
  (c.hif.buf.length + ws.length ≤ 64 → d.hif.buf = c.hif.buf ++ ws ∧ d.get F.HIF_STAT_wovf = c.get F.HIF_STAT_wovf) ∧
    (64 < c.hif.buf.length + ws.length → d.bit F.HIF_STAT_wovf = true) ∧
    d.get F.HIF_STAT_short = if 0 < tail ∧ tail < 8 then 1 else c.get F.HIF_STAT_short

/-- The address of cell `i`. -/
def cellAddr (addr : Word) (fixed : Bool) (i : Nat) : Nat := if fixed then addr.toNat else addr.toNat + 4 * i

/-- Reads of crook RAM, or one cell of another range that answers at once. -/
def readsAtOnce (c : Chip) (addr : Word) (fixed : Bool) (n : Nat) : Bool :=
  c.hifUp && c.hif.buf.isEmpty && !c.hostWaits && c.heldReads.isEmpty &&
    ((decide (n = 1) && !inPasture addr.toNat && acceptsRead c .host addr.toNat) ||
      (List.range n).all fun i => decide (cellAddr addr fixed i < 0x100000) && acceptsRead c .host (cellAddr addr fixed i))

def cellsEffect (c d : Chip) (addr : Word) (fixed : Bool) (n : Nat) : Prop :=
  (n = 1 → d.hif.cells = [.word (c.busRead .host addr.toNat).2.1]) ∧
    (((List.range n).all fun i => decide (cellAddr addr fixed i < 0x100000)) = true →
      d.hif.cells = (List.range n).map fun i => .word (BitVec.ofNat 32 (Mem.read c.mem (cellAddr addr fixed i) 4)))

def hostReady (c : Chip) : Instr → Bool
  | .write _ _ _ => c.hifUp
  | .writeFixed _ _ _ => c.hifUp
  | .stream _ _ => c.hifUp
  | .read addr n => readsAtOnce c addr false n
  | .readFixed addr n => readsAtOnce c addr true n
  | .status => c.hifUp
  | .badCommand code => c.hifUp && !hostCodes.contains code
  | .cellTimeout => c.hif.late.isEmpty && (!c.framesRun || decide (c.cellEnd ≤ c.boundaryRoot)) &&
      (if c.cellWaits then decide (c.hif.todo.2.1 = 0) else decide (c.hif.todo.2.1 = 1) && c.hostWaits)
  | .bufferDrain => !c.hostWaits &&
      (match c.hif.buf with
        | [] => false
        | .to a _ :: _ => (decide (a < 0x100000) || inPasture a || (inPages a && !soReg a)) && accepts c .host a
        | .stream _ :: _ => !c.bit F.HIF_STRM_CTRL_en)
  | .streamEnable r v => accepts c r R.HIF_STRM_CTRL && F.HIF_STRM_CTRL_en.ofB v && !c.bit F.HIF_STRM_CTRL_en
  | _ => false

def hostEffect (c d : Chip) : Instr → Prop
  | .write addr ws tail => wordsEffect c d (hostWordsOf addr false ws) tail
  | .writeFixed addr ws tail => wordsEffect c d (hostWordsOf addr true ws) tail
  | .stream ws tail => wordsEffect c d (ws.map HostWord.stream) tail
  | .read addr n => cellsEffect c d addr false n
  | .readFixed addr n => cellsEffect c d addr true n
  | .status =>
      let st := c.get F.PWR_STAT_state
      ∃ b : Byte, d.hif.status = [b, BitVec.ofNat 8 (if st = 3 then 64 else 64 - c.hif.buf.length),
          BitVec.ofNat 8 (if st = 3 then 0 else c.get F.SHP_STAT_phase), 0x5C] ∧
        b.toNat / 32 = st ∧ b.toNat / 2 % 2 = c.get F.HIF_STAT_err ∧ b.toNat / 4 % 2 = c.get F.HIF_STAT_wovf ∧
        b.toNat / 8 % 2 = c.get F.HIF_STAT_tmo ∧ b.toNat / 16 % 2 = c.get F.HIF_STAT_short ∧ b.toNat % 2 = b2n c.hirq
  | .badCommand _ => d.bit F.HIF_STAT_badcmd = true ∧ d.hif = c.hif
  | .cellTimeout => d.bit F.HIF_STAT_tmo = true ∧
      if c.cellWaits then d.hif.cells = c.hif.cells.dropLast ++ [.error]
      else d.hif.cells = c.hif.cells ++ [.error] ∧ d.hif.late = [c.hif.todo.1]
  | .bufferDrain =>
      match c.hif.buf with
      | [] => True
      | .to a v :: rest =>
          let e := c.setHif fun h => { h with buf := rest }
          (a < 0x100000 → d.hif.buf = rest ∧ BitVec.ofNat 32 (Mem.read d.mem a 4) = v ∧
            ∀ b, (b < a ∨ a + 4 ≤ b) → d.mem.byte b = c.mem.byte b) ∧
          (inPasture a = true → d.hif.buf = rest ∧ d.pas.queue = c.pas.queue ++ [((a - 0x10000000) / 4, .hostWrite v)]) ∧
          (inPages a = true → d = (e.registerWrite .host a v).settle)
      | .stream _ :: rest => d.hif.buf = rest ∧ d.bit F.HIF_STAT_err = true ∧ d.mem = c.mem
  | .streamEnable _ _ => if c.streamOk then d.bit F.HIF_STRM_CTRL_en = true else d.bit F.HIF_STRM_CTRL_cfg_err = true
  | _ => True

end Sys2Proof

/-- Register accesses with no effect but their own (R6, R7, R280). -/
def Obligations.RegisterRowsComplete : Prop := RowsComplete registerReady registerEffect

/-- Chapter 19's commands (R445 to R454). -/
def Obligations.HostRowsComplete : Prop := RowsComplete hostReady hostEffect

namespace Sys2Proof

/-! ### The RF front end (chapter 13) -/

/-- May a transmission be keyed at K: gate, root lock, fused radio, transmit enable, no calibration (R284, R293, R307, R312)? -/
def mayKey (c : Chip) : Bool :=
  c.bit F.GUARD_GATE_tx && c.bit F.CLK_STAT_locked && c.bit F.SYS_FEAT2_radio_fused && c.bit F.RF_CTRL_tx_en && c.rf.cal.isNone

/-- Do the limits of R302 allow a correction update now? -/
def ilcAllowed (c : Chip) (x : IlcStep) : Bool :=
  decide (c.get F.RF_STAT_rx ≠ 2) || (ilcSmall x && !x.block && c.rf.ilcAt.all fun t => decide (t + rootPerMs ≤ c.now))

/-- Is a wake frame being sent? -/
def wakeInAir (c : Chip) : Bool := c.rf.cur.any Tx.isWake

/-- The instant at which the next scan's capture begins (R304). -/
def monStart (c : Chip) : Nat := c.rf.monAt.getD c.now

/-- The peaks that a scan records: at most eight of the bins above the median by the threshold, strongest first (R304). -/
def monitorTop (c : Chip) (bins : List Byte) : List (Nat × Nat) :=
  let all := sortPeaks ((bins.map (·.toNat)).zip (List.range 2048))
  let lvl := fun (k : Nat) => ((all[k]?).map (·.1)).getD 0
  (all.filter fun e => decide (2 * e.1 + 2 * c.get F.RF_MON_CTRL_thr < lvl 1023 + lvl 1024)).take 8

def rfReady (c : Chip) : Instr → Bool
  | .adcEnable r v => accepts c r R.RF_CTRL && F.RF_CTRL_adc_en.ofB v && !c.bit F.RF_CTRL_adc_en
  | .adcDisable r v => accepts c r R.RF_CTRL && !F.RF_CTRL_adc_en.ofB v && c.bit F.RF_CTRL_adc_en
  | .txEnable r v => accepts c r R.RF_CTRL && F.RF_CTRL_tx_en.ofB v && !c.bit F.RF_CTRL_tx_en
  | .txDisable r v => accepts c r R.RF_CTRL && !F.RF_CTRL_tx_en.ofB v && c.bit F.RF_CTRL_tx_en
  | .adcValid => c.bit F.RF_CTRL_adc_en && !c.rf.adcValid
  | .lnaGainApply => c.rf.gainAt.isSome
  | .rxRetune => c.rf.rxAt.isSome
  | .rfAdcOverload => c.rf.adcValid && !c.evt.isOn Ev.RF_ADC_OVERLOAD locNone
  | .rfAdcOverloadEnd => c.bit F.RF_STAT_ovl
  | .ilcUpdate x => !c.ilcBlind && !c.bit F.RF_CTRL_ilc_frz && ilcAllowed (c.advanceTo c.unitAt) x
  | .ilcOk img => !c.ilcBlind && decide (140 ≤ img.toNat)
  | .ilcOkClear img => !c.ilcBlind && decide (img.toNat < 128)
  | .monitorScan bins => c.bit F.RF_CTRL_mon_en && decide (bins.length = 2048) && !c.ilcBlind &&
      decide (c.rf.blindTo < Int.ofNat (monStart c)) && decide (monStart c + 4096 ≤ c.boundaryRoot)
  | .synthRetune => c.bit F.RF_CTRL_tx_en && !c.rf.keyed && c.nextTx.any fun t => decide (t.ch ≠ c.get F.RF_TX_STAT_ch) && decide (t.ch ≤ 6)
  | .synthLock => c.bit F.RF_CTRL_tx_en && !c.bit F.RF_STAT_synth_lock
  | .rfSynthUnlock => c.bit F.RF_STAT_synth_lock
  | .transmissionStart => !c.rf.posted.isEmpty && (!c.rf.keyed || c.rf.cur.isSome)
  | .txKey => c.rf.cur.isSome && !c.rf.keyed
  | .keyedEnd => c.rf.cur.isSome && c.rf.keyed
  | .protectStart => c.rf.cur.isSome && !c.rf.keyed
  | .protectEnd => c.bit F.RF_STAT_protect && !c.rf.keyed && !c.protectNext (max c.now (c.rf.endAt + 2950))
  | .loCalRequest r v => accepts c r R.RF_CAL_REQ && F.RF_CAL_REQ_lo.ofB v
  | .iqCalRequest r v => accepts c r R.RF_CAL_REQ && F.RF_CAL_REQ_iq.ofB v
  | .calStart => (c.bit F.RF_CAL_REQ_lo || c.bit F.RF_CAL_REQ_iq) && c.bit F.RF_CTRL_tx_en && c.bit F.RF_STAT_synth_lock &&
      !c.rf.cal.isSome && !wakeInAir c && !c.rf.keyed &&
      (c.advanceTo c.unitAt).idleRun (c.advanceTo c.unitAt).unitNow (if c.bit F.RF_CAL_REQ_lo then 2 else 4)
  | .calComplete _ => c.rf.cal.isSome && decide (c.unitCode c.unitNow = 0) && decide (c.now ≤ c.rf.calTo) &&
      decide (c.get F.RF_TX_STAT_ch < 7)
  | .wakeFrame n code => c.wakeMatch n code.toNat
  | .wakeTxGo r v => accepts c r R.RF_WAKE_TX_CTRL && F.RF_WAKE_TX_CTRL_go.ofB v && !c.bit F.RF_WAKE_TX_CTRL_go
  | _ => false

/-- What S decides about the transmission at the head of the posted ones (R308). -/
def decidedAtS (c d : Chip) (t : Tx) : Prop :=
  if c.bit F.GUARD_GATE_tx = false then d.bit F.RF_TX_STAT_ref_gate = true ∧ d.rf.cur = c.rf.cur
  else if c.bit F.SYS_FEAT2_radio_fused = false then d.bit F.RF_TX_STAT_ref_fuse = true ∧ d.rf.cur = c.rf.cur
  else if c.bit F.CLK_STAT_locked = false then d.bit F.RF_TX_STAT_ref_root = true ∧ d.rf.cur = c.rf.cur
  else if c.airAllows t.units = false then d.evt.isOn Ev.RF_AIRTIME locNone = true ∧ d.rf.cur = c.rf.cur
  else d.rf.cur = some { t with pwr := min t.pwr (min (c.get F.GUARD_RADIO_FUSE_pwr_max) (c.get F.GUARD_RADIO_LIM_pwr)) }

/-- What a keyed transmission carries (R307, R359, R360, R367): a beacon the grants and the members of now, an uplink the fouled units of
the last superframe, any other what was posted. -/
def keyedEffect (c d : Chip) (t : Tx) : Prop :=
  let sends := fun (t1 : Tx) => d.rf.cur = some t1 ∧ d.rf.air = t1.symbols
  if t.hdrType = 1 then
    let gs := c.lnk.grants.take 4
    let j := t.s / 128
    sends { t with body := d.beaconBody t.s [d.beaconWord0 j, d.beaconWord1 j gs] } ∧
      ∀ g ∈ gs, g.node < 32 → bitAt (d.rd R.LNK_MEMBERS).toNat g.node = true
  else if t.hdrType = 3 then
    sends { t with body := .burst c.uplinkHdr false 1 [] } ∧
      d.lnk.sentUp = c.lnk.sentUp ++ [(t.s / 128, c.get F.LNK_STAT_node)]
  else sends t ∧ d.lnk = c.lnk

def rfEffect (c d : Chip) : Instr → Prop
  | .adcEnable _ _ => d.bit F.RF_CTRL_adc_en = true ∧ d.get F.RF_STAT_rx = 1 ∧ d.bit F.RF_STAT_ilc_ok = false ∧ d.rf.adcValid = false ∧
      d.rf.adcAt = c.now + 294912
  | .adcDisable _ _ => d.bit F.RF_CTRL_adc_en = false ∧ d.get F.RF_STAT_rx = 0 ∧ d.rf.adcValid = false
  | .txEnable _ _ => d.bit F.RF_CTRL_tx_en = true ∧
      (c.bit F.RF_STAT_synth_lock = false → c.rf.cal = none → c.rf.cur = none → d.get F.RF_STAT_tx = 1)
  | .txDisable _ _ => d.bit F.RF_CTRL_tx_en = false ∧ d.rf.keyed = false ∧ d.rf.cal = none ∧ d.bit F.RF_STAT_synth_lock = false ∧
      d.get F.RF_STAT_tx = 0
  | .adcValid => d.rf.adcValid = true ∧ d.get F.RF_STAT_rx = c.get F.RF_STAT_rx ∧ d.now = (c.advanceTo c.rf.adcAt).now
  | .lnaGainApply => d.rf.gainA = c.get F.RF_LNA_gain_a ∧ d.rf.gainB = c.get F.RF_LNA_gain_b ∧ d.rf.gainAt = none ∧
      ∀ t, c.rf.gainAt = some t → d.now = (c.advanceTo t).now
  | .rxRetune => d.rf.rxCh = c.get F.RF_LNK_RX_ch ∧ d.rf.rxAt = none ∧ ∀ t, c.rf.rxAt = some t → d.now = (c.advanceTo t).now
  | .rfAdcOverload => d.bit F.RF_STAT_ovl = true ∧ d.get F.RF_OVL_CNT_count = min (c.get F.RF_OVL_CNT_count + 1) 65535 ∧
      d.evt.isOn Ev.RF_ADC_OVERLOAD locNone = true
  | .rfAdcOverloadEnd => d.bit F.RF_STAT_ovl = false ∧ d.evt.isOn Ev.RF_ADC_OVERLOAD locNone = false
  | .ilcUpdate x => d.rf.off0 = c.rf.off0 + x.off0 ∧ d.rf.off1 = c.rf.off1 + x.off1 ∧ d.rf.gain = c.rf.gain + x.gain ∧
      d.rf.skew = c.rf.skew + x.skew ∧ d.get F.RF_ILC_STAT_img = x.img.toNat
  | .ilcOk img => d.bit F.RF_STAT_ilc_ok = true ∧ d.get F.RF_ILC_STAT_img = img.toNat ∧
      d.get F.RF_STAT_rx = if c.get F.RF_STAT_rx = 1 then 2 else c.get F.RF_STAT_rx
  | .ilcOkClear img => d.bit F.RF_STAT_ilc_ok = false ∧ d.get F.RF_ILC_STAT_img = img.toNat ∧ d.get F.RF_STAT_rx = c.get F.RF_STAT_rx
  | .monitorScan bins => d.rd R.RF_MON_SEQ = c.rd R.RF_MON_SEQ + 1 ∧ d.now = (c.advanceTo (monStart c + 4096)).now ∧
      d.rf.monAt = some (max (monStart c + 192 * rootPerTick) c.now) ∧
      ∀ i < 8, match (monitorTop c bins)[i]? with
        | some e => d.bit (F.RF_MON_PEAK_valid i) = true ∧ d.get (F.RF_MON_PEAK_bin i) = (F.RF_MON_PEAK_bin i).cut e.2 ∧
            d.get (F.RF_MON_PEAK_lvl i) = (F.RF_MON_PEAK_lvl i).cut e.1
        | none => d.rd (R.RF_MON_PEAK i) = 0
  | .synthRetune => d.bit F.RF_STAT_synth_lock = false ∧ d.rf.posted = c.rf.posted ∧ d.evt.isOn Ev.RF_SYNTH_UNLOCK locNone = false ∧
      ∀ t, c.nextTx = some t → d.get F.RF_TX_STAT_ch = F.RF_TX_STAT_ch.cut t.ch
  | .synthLock => d.bit F.RF_STAT_synth_lock = true ∧ d.evt.isOn Ev.RF_SYNTH_UNLOCK locNone = false
  | .rfSynthUnlock => d.bit F.RF_STAT_synth_lock = false ∧ d.rf.keyed = false ∧ d.evt.isOn Ev.RF_SYNTH_UNLOCK locNone = true ∧
      (c.rf.keyed = true → c.rf.cur.isSome = true → d.bit F.RF_TX_STAT_cut = true)
  | .transmissionStart => d.rf.keyed = false ∧
      ∀ t rest, c.rf.posted = t :: rest → d.rf.posted = rest ∧ decidedAtS c.keyedEnd d t
  | .txKey => ∀ t, c.rf.cur = some t →
      if mayKey c = false then d.rf.keyed = false ∧ d.rf.cur = none
      else if c.bit F.RF_STAT_synth_lock = true ∧ c.get F.RF_TX_STAT_ch = t.ch then
        d.rf.keyed = true ∧ d.bit F.RF_STAT_protect = true ∧ keyedEffect c d t ∧
          d.get F.GUARD_AIR_CNT_count = min (c.get F.GUARD_AIR_CNT_count + (t.unitsBy d.now - c.rf.counted)) 65535
      else d.rf.keyed = false ∧ d.rf.cur = none ∧ d.bit F.RF_TX_STAT_late = true ∧
        d.get F.RF_TX_LATE_CNT_count = min (c.get F.RF_TX_LATE_CNT_count + 1) 65535
  | .keyedEnd => d.rf.keyed = false ∧ d.rf.cur = none ∧ ∀ t, c.rf.cur = some t →
      d.get F.RF_TX_STAT_cut = if t.cutAt < t.endAt then 1 else c.get F.RF_TX_STAT_cut
  | .protectStart => d.bit F.RF_STAT_protect = true ∧ d.rf.cur = c.rf.cur
  | .protectEnd => d.bit F.RF_STAT_protect = false
  | .loCalRequest _ _ => d.bit F.RF_CAL_REQ_lo = true
  | .iqCalRequest _ _ => d.bit F.RF_CAL_REQ_iq = true
  | .calStart =>
      let e := c.advanceTo c.unitAt
      d.rf.cal = some (!c.bit F.RF_CAL_REQ_lo) ∧ d.rf.calTo = e.now + e.idleUnits e.unitNow * rootPerUnit ∧ d.get F.RF_STAT_tx = 4 ∧
        d.rd R.RF_CAL_REQ = c.rd R.RF_CAL_REQ
  | .calComplete res =>
      let k := c.get F.RF_TX_STAT_ch
      d.rf.cal = none ∧ d.bit (F.RF_CAL_RES_valid k) = true ∧
        (c.rf.cal = some false → d.get (F.RF_CAL_RES_lo_res k) = res.toNat ∧ d.bit F.RF_CAL_REQ_lo = false) ∧
        (c.rf.cal = some true → d.get (F.RF_CAL_RES_img_res k) = res.toNat ∧ d.bit F.RF_CAL_REQ_iq = false)
  | .wakeFrame n _ => d.bit (if n then F.RF_WAKE_STAT_hit1 else F.RF_WAKE_STAT_hit0) = true
  | .wakeTxGo _ v =>
      if c.bit F.RF_CTRL_tx_en = false ∨ c.givesTx = true ∨ c.rf.cal.isSome = true then
        d.bit F.RF_WAKE_TX_CTRL_ref = true ∧ d.bit F.RF_WAKE_TX_CTRL_go = false ∧ d.rf.posted = c.rf.posted
      else d.bit F.RF_WAKE_TX_CTRL_go = true ∧
        (⟨c.nextSuperframe / 3, 52, if F.RF_WAKE_TX_CTRL_ch.of v = 7 then 0 else F.RF_WAKE_TX_CTRL_ch.of v, F.RF_WAKE_TX_CTRL_pwr.of v,
          .wake (BitVec.ofNat 64 (c.rd64 R.RF_WAKE_TX_LO R.RF_WAKE_TX_HI))⟩ : Tx) ∈ d.rf.posted
  | _ => True

end Sys2Proof

/-- Chapter 13's rows (R295 to R318). -/
def Obligations.RfRowsComplete : Prop := RowsComplete rfReady rfEffect

namespace Sys2Proof

/-! ### The positioning baseband (chapter 14) -/

/-- The rest of a capture as its band brings it (R298, R325); a microphone's capture has all its frames. -/
def capturedTo (c : Chip) (xs : List (Int × Int)) : Chip :=
  let l1 := decide (c.gn.acq.src = 0)
  if c.gn.acq.src = 2 then c else c.bandTo l1 xs (c.captureTo l1)

/-- A channel with a dump that waits; where none does, its band's samples bring it to the end of its millisecond (R333). -/
def withDump (c : Chip) (n : Nat) (xs : List (Int × Int)) : Chip := if (c.chan n).ready.isEmpty then c.toDump n xs else c

/-- What GN_ACQ_CTRL.src and .pad ask for. -/
def askedSrc (v : Word) : Nat := F.GN_ACQ_CTRL_src.of v
def askedPad (v : Word) : Nat := F.GN_ACQ_CTRL_pad.of v

def gnReady (c : Chip) : Instr → Bool
  | .notchAdapt i xs => c.bit (F.GN_NOTCH_CTRL_engaged i.toNat) && c.bandOn (decide (i.toNat < 4)) &&
      decide (xs.length ≤ 1024) && decide ((c.notch i.toNat).cnt < 1024)
  | .notchDisengage i => c.bit (F.GN_NOTCH_CTRL_engaged i.toNat) && c.bit (F.GN_NOTCH_CTRL_auto i.toNat) &&
      decide (16 ≤ (c.notch i.toNat).age)
  | .notchFreqWrite r i _ => accepts c r (R.GN_NOTCH_FREQ i.toNat)
  | .acqGo r v => accepts c r R.GN_ACQ_CTRL && F.GN_ACQ_CTRL_go.ofB v && !F.GN_ACQ_CTRL_abort.ofB v
  | .acqAbort r v => accepts c r R.GN_ACQ_CTRL && F.GN_ACQ_CTRL_abort.ofB v && decide (c.get F.GN_ACQ_STAT_state ≠ acqIdle)
  | .captureStart => decide (c.get F.GN_ACQ_STAT_state = acqCapture) && !c.gn.acq.capturing
  | .captureOverflow => c.gn.acq.capturing && c.gn.acq.fifoFull
  | .captureEnd xs => c.gn.acq.capturing && decide ((capturedTo c xs).gn.acq.words ≤ (capturedTo c xs).gn.acq.done)
  | .searchEnd sig => decide (c.get F.GN_ACQ_STAT_state = acqSearch) && decide (c.gn.acq.req.sig = sig.toNat)
  | .channelStartRequest r n v => accepts c r (R.GN_CH_CTRL n.val) && (F.GN_CH_CTRL_start n.val).ofB v
  | .channelStart n => (c.chan n.val).startAt.isSome
  | .channelStopRequest r n v => accepts c r (R.GN_CH_CTRL n.val) && (F.GN_CH_CTRL_stop n.val).ofB v && decide (c.chState n.val ≠ chIdle)
  | .channelStop n => c.bit (F.GN_CH_CTRL_stop n.val)
  | .dump n xs => decide (c.chState n.val ≠ chIdle) && !(c.chan n.val).full && !((withDump c n.val xs).chan n.val).ready.isEmpty
  | .integrationEnd n => (c.chan n.val).sums.isSome && (c.chan n.val).full && decide (c.chState n.val ≠ chIdle)
  | .pullTimeout n => decide (c.chState n.val = chPull) && decide (max 1 (c.get (F.GN_CH_COAST_coast n.val)) ≤ (c.chan n.val).msIn)
  | .coastTimeout n => decide (c.chState n.val = chLost) && decide (max 1 (c.get (F.GN_CH_COAST_coast n.val)) ≤ (c.chan n.val).msIn)
  | .channelConfigWrite r n k _ => accepts c r (chCfgAddr k n.val)
  | .epoch => c.bit F.GN_CTRL_ep_en
  | .epochRateApply => c.gn.rateAt.isSome
  | _ => false

/-- Samples through one notch at a fixed centre (R322, R323): its recursion, and the products of its block. -/
def notchRun (rho : Rat) (w : Rat × Rat) (n : Notch) (xs : List (Rat × Rat)) : Notch :=
  xs.foldl (fun n x =>
    let s := notchStep rho w n.v x
    let y := s.2
    { n with
      v := s.1
      y := y
      sum := (n.sum.1 + (y.1 * n.y.1 + y.2 * n.y.2), n.sum.2 + (y.2 * n.y.1 - y.1 * n.y.2))
      cnt := n.cnt + 1 }) n

/-- A notch at the end of its block of 1,024 samples, and where its centre goes (R322, R323). -/
def adaptEffect (c d : Chip) (i : Nat) (xs : List (Int × Int)) : Prop :=
  let l1 := decide (i < 4)
  let m := 1024 - (c.notch i).cnt
  let th := (c.rd (R.GN_NOTCH_FREQ i)).toInt
  let turn : Rat := (th : Rat) / 2 ^ 32
  let depth := min 12 (max 4 (c.get (F.GN_NOTCH_CTRL_k i)))
  let ins : List (Rat × Rat) := (List.range m).map fun j =>
    let x : Int × Int := (xs[j]?).getD (0, 0)
    ((x.1 : Rat), (x.2 : Rat))
  let after := notchRun (1 - 1 / ((2 : Rat) ^ depth)) (Config.cos turn, Config.sin turn) (c.notch i) ins
  let target := (Config.atan2 after.sum.2 after.sum.1 * 4294967296).floor
  let step := fdiv (sext (wrap (target - th) 32) 32) (2 ^ c.get (F.GN_NOTCH_CTRL_mu i))
  let lim := fdiv (Int.ofNat (c.get (F.GN_NOTCH_CTRL_span i)) * 10 * 2 ^ 32) (notchRate i)
  (d.notch i).cnt = 0 ∧ d.bandAt l1 = (c.bandAt l1 / bandStep l1 + m) * bandStep l1 ∧
    ((∀ j ∈ bandNotches l1, j < i → c.bit (F.GN_NOTCH_CTRL_engaged j) = false) →
      d.notch i = { after with sum := (0, 0), cnt := 0 } ∧
      d.rd (R.GN_NOTCH_FREQ i) =
        if c.bit (F.GN_NOTCH_CTRL_adapt i) = true ∧ c.bit F.RF_STAT_ovl = false then
          BitVec.ofInt 32 (satInt (th + step) (after.ref - lim) (after.ref + lim))
        else c.rd (R.GN_NOTCH_FREQ i))

/-- An accepted or refused `go` (R326). -/
def acqEffect (c d : Chip) (v : Word) : Prop :=
  if c.acqRefused (askedSrc v) (askedPad v) then
    d.bit F.GN_ACQ_STAT_ref = true ∧ d.get F.GN_ACQ_STAT_state = c.get F.GN_ACQ_STAT_state ∧ d.gn = c.gn
  else d.get F.GN_ACQ_STAT_state = acqCapture ∧ d.bit F.GN_ACQ_CTRL_go = true ∧ d.gn.acq.capturing = false ∧
    d.gn.acq.src = askedSrc v ∧ d.gn.acq.pad = askedPad v ∧ d.gn.acq.done = 0 ∧
    d.gn.acq.words = (if askedSrc v = 2 then 8192 * c.get F.GN_ACQ_PRM_nn else 8192 * c.get F.GN_ACQ_PRM_tc * c.get F.GN_ACQ_PRM_nn) ∧
    d.gn.acq.req = c.searchReq ∧
    let per := if askedSrc v = 2 then c.frameTicks else 192
    d.gn.acq.startAt = (c.time.stc / per + 1) * per * rootPerTick

/-- The record of PRN entry `i` (R327): its highest cell, the first where several are. -/
def resultEffect (c d : Chip) (i : Nat) (l : List Rat) : Prop :=
  let sum := l.foldl (· + ·) 0
  d.bit (F.GN_ACQ_RES_A_valid i) = true ∧
    (sum ≠ 0 → ∀ k peak, topCell l 0 (0, 0) = (k, peak) →
      let metric := min (peak * 256 * (l.length : Rat) / sum).floor.toNat 65535
      d.get (F.GN_ACQ_RES_B_metric i) = (F.GN_ACQ_RES_B_metric i).cut metric ∧
        d.get (F.GN_ACQ_RES_A_sample i) = (F.GN_ACQ_RES_A_sample i).cut (k % 16384) ∧
        d.get (F.GN_ACQ_RES_A_bin i) = (F.GN_ACQ_RES_A_bin i).cut (k / 16384) ∧
        d.bit (F.GN_ACQ_RES_A_det i) = decide (c.get F.GN_ACQ_THR_thr ≤ metric))

/-- The end of a search (R327, R328): its duration, and the record of each PRN entry from the cells of the captured samples. -/
def searchEffect (c d : Chip) : Prop :=
  let e := c.advanceTo (c.gn.acq.searchAt + c.gn.acq.req.span)
  d.get F.GN_ACQ_STAT_state = acqIdle ∧ d.bit F.GN_ACQ_CTRL_go = false ∧ d.now = e.now ∧
    ∀ i < 16, ∀ prn, c.gn.acq.req.prns[i]? = some prn → resultEffect c d i (c.cells e.captured.1 prn)

/-- An accepted or refused start of a channel (R331). -/
def chStartEffect (c d : Chip) (n : Nat) : Prop :=
  if c.startRefused n then d.bit (F.GN_CH_STAT_rej n) = true ∧ d.chState n = c.chState n ∧ d.chan n = c.chan n
  else
    let ms := 192 * rootPerTick
    let t := (c.now + 2 * ms - 1) / ms * ms
    (d.chan n).startAt = some t ∧ d.bit (F.GN_CH_CTRL_start n) = true ∧ d.rd (R.GN_CH_T0 n) = BitVec.ofNat 32 (t / rootPerTick)

/-- A dump that waits is taken (R334, R336): the integration under way, the noise power and the milliseconds. -/
def dumpEffect (c d : Chip) (n : Nat) : Prop :=
  let k := c.chan n
  let acc := max 1 (c.get (F.GN_CH_CFG_acc n))
  ∀ s nz rest, k.ready = (s, nz) :: rest →
    (d.chan n).ready = rest ∧ (d.chan n).ms = k.ms + 1 ∧ (d.chan n).msIn = k.msIn + 1 ∧
      (d.chan n).sums = (if k.ms % acc = c.get (F.GN_CH_CFG_aph n) then some s else k.sums.map fun a => a.add s) ∧
      (d.chan n).sig2 = k.sig2 + (((nz.1 * nz.1 + nz.2 * nz.2 : Int) : Rat) - k.sig2) / 128 ∧ d.chState n = c.chState n

/-- The end of an integration (R335, R336): loops, detector, state. -/
def integrationEffect (c d : Chip) (n : Nat) (s : Sums) : Prop :=
  let k := c.chan n
  let e := d.chan n
  let st := c.chState n
  let t : Rat := (max 1 (c.get (F.GN_CH_CFG_acc n)) : Rat) / 1000
  let disc := c.discriminate n s t
  let held := c.bit (F.GN_CH_CTRL_hold n) ∨ (c.bit F.RF_STAT_ovl = true ∧ c.corrSrc n ≠ 3) ∨ st = chLost
  let pw := s.p.1 * s.p.1 + s.p.2 * s.p.2
  let good := (c.get (F.GN_CH_LOCK_thr n) : Rat) / 256 ≤ e.lk ∧ (c.get (F.GN_CH_LOCK_cn0_min n) : Rat) / 100 ≤ e.cn0
  e.sums = none ∧ e.full = false ∧ e.aid = none ∧ e.fdop = k.fdop ∧ e.rate = k.rate ∧ e.due.isSome = true ∧
    (k.aid = none → held → e.w = loopHeld k.w) ∧
    (k.aid = none → ¬held → st = chTrack → c.bit (F.GN_CH_CFG_pll n) = true →
      e.w = loopHeld (k.w + (c.get (F.GN_CH_LOOP_A_kf n) : Rat) / 65536 * disc.1 / t)) ∧
    (k.aid = none → ¬held → (st = chPull ∨ c.bit (F.GN_CH_CFG_pll n) = false) →
      e.w = loopHeld (k.w + (c.get (F.GN_CH_LOOP_B_kfl n) : Rat) / 65536 * disc.2.1)) ∧
    (∀ v, k.aid = some v → e.w = loopHeld ((v.toInt : Rat) / 1024)) ∧
    (pw ≠ 0 → e.lk = k.lk + (((s.p.1 * s.p.1 - s.p.2 * s.p.2 : Int) : Rat) / (pw : Rat) - k.lk) / 8) ∧
    e.spAvg = k.spAvg + ((pw : Rat) - k.spAvg) / 16 ∧
    (st = chTrack → ¬good → max 1 (c.get (F.GN_CH_LOCK_lost_n n)) ≤ k.bad + 1 →
      d.chState n = chLost ∧ d.bit (F.GN_CH_STAT_lost n) = true) ∧
    (st = chTrack → (good ∨ k.bad + 1 < max 1 (c.get (F.GN_CH_LOCK_lost_n n))) → d.chState n = chTrack) ∧
    (st ≠ chTrack → good → 8 ≤ k.good + 1 → d.chState n = chTrack ∧ e.adr = 0) ∧
    (st ≠ chTrack → (¬good ∨ k.good + 1 < 8) → d.chState n = st)

/-- An epoch (R339, R340): every channel's record as its phases stand at the epoch. -/
def epochEffect (c d : Chip) : Prop :=
  let e := c.advanceTo (c.epochStc * rootPerTick)
  let seq := (c.get F.GN_EPOCH_SEQ_value + 1) % 2 ^ 32
  d.time.stc = e.time.stc ∧ d.rd R.GN_EPOCH_SEQ = c.rd R.GN_EPOCH_SEQ + 1 ∧
    d.rd R.GN_EPOCH_STC_LO = BitVec.ofNat 32 d.time.stc ∧ d.rd R.GN_EPOCH_STC_HI = BitVec.ofNat 32 (d.time.stc / 2 ^ 32) ∧
    d.rd R.GN_EPOCH_STEER = c.rd R.CLK_STEER ∧
    ∀ n < 96, ∀ i < 8,
      let m := if c.chState n = chIdle then e else e.chanMove true n e.now
      d.rd (R.GN_CH_MEAS n i) = BitVec.ofNat 32 (((m.record n seq)[i]?).getD 0)

def gnEffect (c d : Chip) : Instr → Prop
  | .notchAdapt i xs => adaptEffect c d i.toNat xs
  | .notchDisengage i => d.bit (F.GN_NOTCH_CTRL_engaged i.toNat) = false ∧ (d.notch i.toNat).v = (0, 0)
  | .notchFreqWrite _ i v => d.rd (R.GN_NOTCH_FREQ i.toNat) = v ∧ (d.notch i.toNat).ref = v.toInt
  | .acqGo _ v => acqEffect c d v
  | .acqAbort _ _ => d.get F.GN_ACQ_STAT_state = acqIdle ∧ d.bit F.GN_ACQ_CTRL_go = false ∧ d.gn.acq.capturing = false ∧
      (∀ i < 16, d.bit (F.GN_ACQ_RES_A_valid i) = false) ∧ d.pas.queue = c.pas.queue.filter fun q => !isAcqWord q
  | .captureStart => d.gn.acq.capturing = true ∧ d.gn.acq.startAt = c.gn.acq.startAt ∧
      d.rd R.GN_ACQ_T0_LO = BitVec.ofNat 32 (c.gn.acq.startAt / rootPerTick) ∧
      d.rd R.GN_ACQ_T0_HI = BitVec.ofNat 32 (c.gn.acq.startAt / rootPerTick / 2 ^ 32)
  | .captureOverflow => d.bit F.GN_ACQ_STAT_ovf = true ∧ d.get F.GN_ACQ_STAT_state = acqIdle ∧ d.bit F.GN_ACQ_CTRL_go = false ∧
      d.gn.acq.capturing = false ∧ d.pas.queue = c.pas.queue.filter fun q => !isAcqWord q
  | .captureEnd xs => d.get F.GN_ACQ_STAT_state = acqSearch ∧ d.gn.acq.capturing = false ∧
      d.gn.acq.searchAt = (capturedTo c xs).now ∧
        ∃ q, d.pas.queue = c.pas.queue ++ q ∧ q.length = c.gn.acq.words - c.gn.acq.done ∧ ∀ x ∈ q, isAcqWord x = true
  | .searchEnd _ => searchEffect c d
  | .channelStartRequest _ n _ => chStartEffect c d n.val
  | .channelStart n => d.chState n.val = chPull ∧ d.bit (F.GN_CH_CTRL_start n.val) = false ∧ (d.chan n.val).startAt = none ∧
      (d.chan n.val).code = ((c.rd (R.GN_CH_CODE n.val)).toNat : Rat) / 65536 ∧ (d.chan n.val).carr = 0 ∧
      (d.chan n.val).w = ((c.rd (R.GN_CH_DOP n.val)).toInt : Rat) / 1024 ∧ (d.chan n.val).sec = c.get (F.GN_CH_SEC_sec n.val) ∧
      ∀ t, (c.chan n.val).startAt = some t → d.now = (c.advanceTo t).now ∧ (d.chan n.val).at_ = t
  | .channelStopRequest _ n _ => d.bit (F.GN_CH_CTRL_stop n.val) = true ∧ d.chState n.val = c.chState n.val
  | .channelStop n => d.chState n.val = chIdle ∧ d.bit (F.GN_CH_CTRL_stop n.val) = false
  | .dump n xs => dumpEffect (withDump c n.val xs) d n.val
  | .integrationEnd n => ∀ s, (c.chan n.val).sums = some s → integrationEffect c d n.val s
  | .pullTimeout n => d.chState n.val = chIdle ∧ d.bit (F.GN_CH_STAT_fail n.val) = true
  | .coastTimeout n => d.chState n.val = chIdle ∧ d.get (F.GN_CH_STAT_fail n.val) = c.get (F.GN_CH_STAT_fail n.val)
  | .channelConfigWrite _ n k v => ∀ row, regRow? (chCfgAddr k n.val) = some row →
      let a := regCanon (chCfgAddr k n.val)
      if c.chState n.val = chIdle then d.rd a = (row.written (c.rd a) v ||| (c.collide a v &&& row.w1c))
      else d.bit (F.GN_CH_STAT_rej n.val) = true ∧ d.rd (chCfgAddr k n.val) = c.rd (chCfgAddr k n.val)
  | .epoch => epochEffect c d
  | .epochRateApply => d.gn.rate = c.get F.GN_CTRL_rate ∧ d.gn.rateAt = none
  | _ => True

end Sys2Proof

/-- Chapter 14's rows (R322 to R346). -/
def Obligations.GnRowsComplete : Prop := RowsComplete gnReady gnEffect

namespace Sys2Proof

/-! ### The flenan link (chapter 15) -/

/-- Does node membership want to be joined: `join` as applied, and the offset within 4 µs (R365)? -/
def wantsJoin (c : Chip) (aligned : Bool) : Bool := F.LNK_CTRL_join.ofB c.lnk.ctrl && aligned

/-- The node number of a join request's sender: one it holds already, or the lowest that may be granted (R367). -/
def grantFor (c : Chip) (b : BurstRx) : Option Nat :=
  let addr : Word48 := BitVec.ofNat 48 (leField b.hdr.info 6 6)
  match c.nodeOf addr with
  | some k => some k
  | none => c.freeNode

/-- May the audio of the superframe before its run be sent from unit `s` (R364, R379, R381)? -/
def audioDue (c : Chip) (s : Nat) (a : AudJob) : Bool :=
  decide (a.sf + 1 = s / 128) && (a.words.all fun w => w.isSome) && decide (16 ≤ s % 128) && decide (c.lnk.audFrom ≤ 3 * s) &&
    decide (c.get F.FOLD_STAT_state ≠ 3) && decide (c.get F.BST_STAT_shut < 2)

def linkReady (c : Chip) : Instr → Bool
  | .linkControlApply => c.lnk.ctrlAt.isSome
  | .beacon b => decide (1 ≤ c.lkState) && decide (c.lkState ≤ 5) && c.ownBurst b 1 && decide (b.words.length = 2) &&
      b.words.all fun w => rxDecodes w 223
  | .audioBurst b => decide (2 ≤ c.lkState) && decide (c.lkState ≤ 5) && c.ownBurst b 2
  | .uplink b => decide (c.lkState ≠ lkOff) && c.ownBurst b 3 && (c.planRun (0x20 + hdrNode b)).isSome
  | .joinRequest b => decide (c.lkState = lkBell) && F.LNK_CTRL_admit.ofB c.lnk.ctrl && c.ownBurst b 4 && (grantFor c b).isSome
  | .strayUnit _ => decide (c.lkState ≠ lkOff)
  | .beaconSend => decide (c.lkState = lkBell) && (c.nextRun 1).isSome
  | .audioMulticastSend => decide (c.lkState = lkBell) && F.LNK_CTRL_aud_tx.ofB c.lnk.ctrl &&
      (match c.nextRun 2, c.lnk.aud with
        | some (s, _), some a => audioDue c s a
        | _, _ => false)
  | .uplinkSend => (decide (c.lkState = lkHold) || (decide (c.lkState = lkMember) && c.bit F.LNK_STAT_aligned)) &&
      (c.nextRun (0x20 + c.get F.LNK_STAT_node)).isSome
  | .joinRequestSend u _ => decide (c.lkState = lkJoining) && !c.lnk.joinWait.isSome && (c.contention u.toNat).isSome
  | .joinBackoff => decide (c.lkState = lkJoining) && decide (c.lnk.joinWait = some 0) && decide (0 < c.lnk.cw)
  | .memberDrop k => decide (c.lkState = lkBell) && bitAt (c.rd R.LNK_MEMBERS).toNat k.toNat &&
      decide (max 1 (c.get F.LNK_TMO_lost_n) ≤ KMap.get 0 k.toNat c.lnk.upLost)
  | .beaconLoss => decide (2 ≤ c.lkState) && decide (c.lkState ≤ 4) && decide (max 1 (c.get F.LNK_TMO_bl_n) ≤ c.lnk.missed)
  | .channelScanStep => decide (c.lkState = lkSearch) && F.LNK_CTRL_scan.ofB c.lnk.ctrl && decide (64 ≤ c.lnk.scanCnt)
  | .holdExpiry => decide (c.lkState = lkHold) && decide (c.get F.LNK_TMO_hold ≤ c.lnk.holdCnt)
  | .hopRequest r v => accepts c r R.LNK_HOP && F.LNK_HOP_go.ofB v && decide (c.lkState = lkBell)
  | .hop => c.lnk.hop.isSome
  | _ => false

/-- LNK_CTRL takes effect (R72, R365). -/
def applyEffect (c d : Chip) : Prop :=
  let v := c.rd R.LNK_CTRL
  let en := F.LNK_CTRL_en.ofB v && c.bit F.FOLD_STAT_loaded
  let role := F.LNK_CTRL_role.ofB v
  let roleNew := F.LNK_CTRL_role.ofB c.lnk.ctrl ≠ role
  let want := F.LNK_CTRL_join.ofB v && c.bit F.LNK_STAT_aligned
  d.lnk.ctrl = v ∧ d.lnk.ctrlAt = none ∧ (∀ t, c.lnk.ctrlAt = some t → d.now = (c.advanceTo (t * rootPerTick)).now) ∧
    (en = false → d.lkState = lkOff) ∧
    (en = true → (roleNew ∨ c.lkState = lkOff) → d.lkState = if role then lkBell else lkSearch) ∧
    (en = true → ¬roleNew → c.lkState ≠ lkOff → d.lkState = if c.lkState = lkSync ∧ want = true then lkJoining
      else if c.lkState = lkJoining ∧ want = false then lkSync else c.lkState) ∧
    (en = false ∨ roleNew → d.rd R.LNK_MEMBERS = 0 ∧ d.lnk.table = [] ∧ d.lnk.grants = []) ∧
    d.lnk.plan = (if role = true ∧ roleNew then c.foldPlan else c.lnk.plan) ∧
    (d.lkState = lkBell → d.get F.LNK_STAT_node = F.LNK_CTRL_node.of v)

/-- A decoded beacon (R360, R365, R366). -/
def beaconEffect (c d : Chip) (b : BurstRx) (w0 w1 : List Byte) : Prop :=
  let d2 := beaconD2 b
  let near := decide (d2.natAbs ≤ 64000)
  let me := c.get F.LNK_STAT_node
  let st := c.lkState
  d.rd R.LNK_BW_OFS_LO = BitVec.ofInt 32 d2 ∧ d.rd R.LNK_BW_OFS_HI = BitVec.ofNat 32 (wrap d2 64 / 2 ^ 32) ∧
    d.bit F.LNK_STAT_aligned = near ∧ d.lnk.heard = true ∧ d.lnk.missed = 0 ∧
    d.lnk.nextPlan = some ((List.range 128).map (nthByte w0)) ∧ d.rd R.LNK_MEMBERS = BitVec.ofNat 32 (leField w0 135 4) ∧
    d.get F.LNK_PROBE_node = nthByte w0 139 % 32 ∧ d.bit F.LNK_PROBE_valid = bitAt (nthByte w0 139) 7 ∧
    (if bitAt (nthByte w0 128) 7 = true ∧ leField b.hdr.info 6 6 < leField w0 129 6 then d.bit F.LNK_STAT_hop_pend = true ∧
        d.lnk.hop = some (leField w0 129 6, if nthByte w0 128 % 8 = 7 then 0 else nthByte w0 128 % 8)
      else d.lnk.hop = c.lnk.hop) ∧
    d.evt.isOn Ev.LNK_BEACON_LOST locNone = false ∧
    (st ≤ 3 → d.lkState = if wantsJoin c near then lkJoining else lkSync) ∧
    (st = lkJoining → wantsJoin c near = true → ∀ k, grantOf w1 c.ownAddr = some k → d.lnk.granted = some k) ∧
    (st = lkMember → d.lkState = if listed w0 me then lkMember else lkSync) ∧
    (st = lkHold → d.lkState = if listed w0 me then lkMember else lkHold)

/-- A received audio burst (R378, R380). -/
def audioEffect (c d : Chip) (b : BurstRx) : Prop :=
  let h := b.hdr.info
  let ch := nthByte h 8 % 32 + 1
  let wide := bitAt (nthByte h 9) 4
  let n := nthByte h 10
  let j := c.sfn - 1
  let taken := decide (nthByte h 9 / 32 % 4 = c.get F.FOLD_STAT_rate) && decide (leField h 6 2 = j % 65536)
  let got := if taken then takeApart (nthByte h 9 % 16) (n + 1) n (b.words.map fun w => if rxDecodes w 223 then some w.info else none)
    else (List.replicate n none, 0)
  let lost := (got.1.filter (·.isNone)).length
  d.get F.LNK_AUD_CNT_lost = min (c.get F.LNK_AUD_CNT_lost + lost) 65535 ∧
    d.get F.LNK_AUD_CNT_rec = min (c.get F.LNK_AUD_CNT_rec + got.2) 65535 ∧
    (c.lnk.audFrom ≤ c.time.stc → c.get F.FOLD_STAT_state ≠ 3 → c.get F.BST_STAT_shut < 2 → ∀ pad, c.linkPad 0x11 = some pad →
      ∀ s < ch * c.phi,
        let stride := c.get F.LNK_RX_STRIDE_stride
        (s % ch + 1) * stride ≤ pad.2.length →
        (c.audWord pad stride j (s % ch) (s / ch), WinReq.linkWrite (sampleWord wide (if wide then 72 else 108) s got.1)) ∈ d.pas.queue)

/-- A decoded uplink (R370, R371). -/
def uplinkEffect (c d : Chip) (b : BurstRx) : Prop :=
  let k := hdrNode b
  KMap.get none k d.lnk.bwm = some (bitAt (nthByte b.hdr.info 3) 6) ∧
    (c.lkState = lkBell → KMap.get 0 k d.lnk.upLost = 0 ∧ k ∈ d.lnk.upSeen ∧
      ∀ u len, c.planRun (0x20 + k) = some (u, len) →
        let j := (fdiv b.arr (384 * 4000000)).toNat
        let v := toSixteenths (b.arr - refInstant (384 * j + 3 * u))
        v < 8388608 → -8388608 ≤ v → KMap.get none (j * 32 + k) d.lnk.d4 = some v)

/-- A unit at its end (R374, R375): whether it was measured, whether it is a stray unit, and the stray that it begins, extends or
closes. -/
def strayEffect (c d : Chip) (m : StrayMeas) : Prop :=
  let u := m.unit % 128
  let head := m.head && m.burst.any hdrValid
  let own := if head then m.burst.map hdrDrove else none
  let measured := c.linkHears (m.unit * rootPerUnit) && !m.burst.any c.droveBurst
  let loud := decide (m.power.toNat < c.get F.LNK_LBT_stray_thr)
  let stray := loud || own.isSome
  d.lnk.heads = c.lnk.heads ++ (if head then [u] else []) ∧
    (measured = false → d.lnk.stray = c.lnk.stray ∧ d.lnk.foul = c.lnk.foul ∧ d.lnk.loud = c.lnk.loud) ∧
    (measured = true → d.lnk.loud = c.lnk.loud ++ (if loud then [u] else []) ∧
      d.lnk.foul = c.lnk.foul ++ (if stray then [u] else [])) ∧
    (measured = true → stray = true → d.lnk.stray = some
      (match c.lnk.stray with
        | none => ⟨BitVec.ofNat 32 (3 * m.unit), 1, m.power.toNat, own.isSome, own.getD 0⟩
        | some s => ⟨s.stc, s.units + 1, min s.level m.power.toNat, s.kind || own.isSome, if s.kind then s.drove else own.getD 0⟩)) ∧
    (measured = true → stray = false → d.lnk.stray = none ∧ ∀ s, c.lnk.stray = some s →
      let i := c.get F.LNK_STRAY_CNT_next
      d.rd (R.LNK_STRAY_LOG_W0 i) = s.stc ∧ d.get (F.LNK_STRAY_LOG_W1_units i) = min s.units 65535 ∧
        d.rd (R.LNK_STRAY_LOG_W2 i) = BitVec.ofNat 32 s.drove ∧ d.get F.LNK_STRAY_CNT_next = (i + 1) % 16 ∧
        d.get F.LNK_STRAY_CNT_count = min (c.get F.LNK_STRAY_CNT_count + 1) 65535)

/-- What a burst of `nb` blocks in a run of `len` units from `s` comes to: it does not fit, it is silenced before a hop, or it is
posted with the power and on the channel of the link (R362, R364). -/
def postEffect (c d : Chip) (s len : Nat) (hdr : List Byte) (mod8 : Bool) (nb : Nat) (words : List (List Byte)) : Prop :=
  if 33 < nb ∨ len < unitsFor nb then d.bit F.LNK_STAT_fit = true ∧ d.rf.posted = c.rf.posted
  else if c.hopSilent s (unitsFor nb) = true then d.rf.posted = c.rf.posted
  else (⟨s, unitsFor nb, c.chanOf (s / 128), F.LNK_CTRL_pwr.of c.lnk.ctrl, .burst hdr mod8 nb words⟩ : Tx) ∈ d.rf.posted

def linkEffect (c d : Chip) : Instr → Prop
  | .linkControlApply => applyEffect c d
  | .beacon b => ∀ a w, b.words = [a, w] → beaconEffect c d b a.info w.info
  | .audioBurst b => audioEffect c d b
  | .uplink b => uplinkEffect c d b
  | .joinRequest b => ∀ k, grantFor c b = some k →
      d.lnk.grants = (c.lnk.grants.filter fun g => !decide (g.node = k)) ++ [⟨k, BitVec.ofNat 48 (leField b.hdr.info 6 6), 4⟩]
  | .strayUnit m => strayEffect c d m
  | .beaconSend => ∀ s len, c.nextRun 1 = some (s, len) →
      postEffect c d s len (c.header 1 (F.LNK_CTRL_node.of c.lnk.ctrl) false false false 5 2
        (toBytes (s / 128) 6 ++ toBytes (s % 128) 1 ++ toBytes (c.chanOf (s / 128)) 1)) false 5 []
  | .audioMulticastSend => ∀ s len a, c.nextRun 2 = some (s, len) → c.lnk.aud = some a →
      let words := withParity a.grp (a.packets.length + 1) 0 a.packets
      let nb := blocksFor true words.length
      d.lnk.aud = none ∧
        postEffect c d s len (c.header 2 (F.LNK_CTRL_node.of c.lnk.ctrl) false false true nb words.length
          (toBytes a.sf 2 ++ toBytes (a.ch - 1) 1 ++ toBytes (a.grp + 16 * b2n a.wide + 32 * c.get F.FOLD_STAT_rate) 1 ++
            toBytes a.packets.length 1)) true nb words
  | .uplinkSend =>
      let k := c.get F.LNK_STAT_node
      ∀ s len, c.nextRun (0x20 + k) = some (s, len) →
        postEffect c d s len (c.header 3 k (decide (c.lkState = lkHold)) false false 1 0 (toBytes (min c.foulCount 255) 1)) false 1 []
  | .joinRequestSend u heard => ∀ len, c.contention u.toNat = some len →
      let s := 128 * c.sfn + u.toNat
      if heard.own = true ∨ heard.power.toNat < c.get F.LNK_LBT_thr then d.lnk.b = c.lnk.b ∧ d.rf.posted = c.rf.posted ∧ d.lnk.joinWait = none
      else if c.lnk.b ≠ 0 then d.lnk.b = c.lnk.b - 1 ∧ d.rf.posted = c.rf.posted ∧ d.lnk.joinWait = none
      else if len < unitsFor 1 ∨ c.hopSilent s (unitsFor 1) = true then d.rf.posted = c.rf.posted ∧ d.lnk.joinWait = none
      else d.lnk.joinWait = some 4 ∧
        postEffect c d s len (c.header 4 (c.get F.LNK_STAT_node) false true false 1 0 (toBytes c.ownAddr 6)) false 1 []
  | .joinBackoff => d.lnk.cw = min (2 * c.lnk.cw) (2 ^ c.get F.LNK_LBT_cwmax) ∧ d.lnk.b < d.lnk.cw ∧ d.lnk.joinWait = none
  | .memberDrop k => d.rd R.LNK_MEMBERS = c.rd R.LNK_MEMBERS &&& ~~~BitVec.ofNat 32 (2 ^ k.toNat) ∧
      KMap.get none k.toNat d.lnk.table = none ∧ KMap.get 0 k.toNat d.lnk.upLost = 0
  | .beaconLoss => d.lkState = (if c.lkState = lkMember then lkHold else lkSearch) ∧ d.evt.isOn Ev.LNK_BEACON_LOST locNone = true
  | .channelScanStep => d.get F.LNK_STAT_ch = (c.get F.LNK_STAT_ch + 1) % 7 ∧ d.lnk.scanCnt = 0 ∧ d.lkState = lkSearch
  | .holdExpiry => d.lkState = lkSearch ∧ d.get F.LNK_STAT_node = 0
  | .hopRequest _ v => d.bit F.LNK_HOP_go = true ∧ d.bit F.LNK_STAT_hop_pend = true ∧
      d.lnk.hop = some (c.sfn + max 8 (F.LNK_HOP_lead.of v), if F.LNK_HOP_ch.of v = 7 then 0 else F.LNK_HOP_ch.of v) ∧
      d.lnk.hopAnn = d.lnk.hop
  | .hop => ∀ h ch, c.lnk.hop = some (h, ch) → d.lnk.hop = none ∧ d.get F.LNK_STAT_ch = F.LNK_STAT_ch.cut ch ∧ d.rf.rxCh = ch ∧
      d.get F.RF_LNK_RX_ch = F.RF_LNK_RX_ch.cut ch ∧ d.now = (c.advanceTo (h * 384 * rootPerTick)).now ∧ d.bit F.LNK_STAT_hop_pend = false ∧ d.bit F.LNK_HOP_go = false
  | _ => True

end Sys2Proof

/-- Chapter 15's rows (R348 to R382). -/
def Obligations.LinkRowsComplete : Prop := RowsComplete linkReady linkEffect

/-! ## The device as a whole -/

namespace Sys2Proof

/-! ### What a command leaves alone -/

/-- Memories, stores and units that no row of the clocks, the RF front end, the baseband or the link touches. -/
structure SameStores (c d : Chip) : Prop where
  mem : d.mem = c.mem
  ret : d.ret = c.ret
  co : d.co = c.co
  eng : d.eng = c.eng
  fold : d.fold = c.fold
  rot : d.rot = c.rot
  guard : d.guard = c.guard
  prt : d.prt = c.prt
  bst : d.bst = c.bst
  dma : d.dma = c.dma
  shp : d.shp = c.shp
  hif : d.hif = c.hif
  crook : d.crook = { c.crook with core := { c.crook.core with cyc := d.crook.core.cyc }, wdCount := d.crook.wdCount, wdFrac := d.crook.wdFrac }

/-- Every register outside `own`, the event page, the sleep timer's count and what the PA's hold writes is unchanged. -/
def sameRegs (own : Nat → Bool) (c d : Chip) : Prop :=
  ∀ a, own a = false → within a 0x40070000 0x40070FFF = false → a ≠ R.PWR_TMR → a ≠ R.GUARD_AIR_CNT → a ≠ R.RF_TX_STAT →
    a ≠ R.RF_WAKE_TX_CTRL → a ≠ R.RF_STAT → d.rd a = c.rd a

/-- Rows of chapter 02 that move no frame, load no count and start nothing else. -/
def clockRow : Instr → Bool
  | .clkUnlock => true
  | .rootPllRelock => true
  | .steeringStep => true
  | .sourceSelection => true
  | .clkPerrSatWrite _ _ => true
  | .satTimeout => true
  | .linkTimeout => true
  | .tmarkTimeout => true
  | .holdLimit => true
  | .loopEnable _ _ => true
  | .tpApplyRequest _ _ _ => true
  | .tpConfigApply _ => true
  | .timePulseStart _ => true
  | .timePulseEnd _ => true
  | .tmarkEdge _ => true
  | .stcSnapshot _ => true
  | .tmarkCapRead _ => true
  | _ => false

/-- Rows of chapter 13. -/
def rfRow : Instr → Bool
  | .adcEnable _ _ => true
  | .adcDisable _ _ => true
  | .txEnable _ _ => true
  | .txDisable _ _ => true
  | .adcValid => true
  | .lnaGainApply => true
  | .rxRetune => true
  | .rfAdcOverload => true
  | .rfAdcOverloadEnd => true
  | .ilcUpdate _ => true
  | .ilcOk _ => true
  | .ilcOkClear _ => true
  | .monitorScan _ => true
  | .synthRetune => true
  | .synthLock => true
  | .rfSynthUnlock => true
  | .transmissionStart => true
  | .txKey => true
  | .keyedEnd => true
  | .protectStart => true
  | .protectEnd => true
  | .loCalRequest _ _ => true
  | .iqCalRequest _ _ => true
  | .calStart => true
  | .calComplete _ => true
  | .wakeFrame _ _ => true
  | .wakeTxGo _ _ => true
  | _ => false

/-- Rows of chapter 14. -/
def gnRow : Instr → Bool
  | .notchAdapt _ _ => true
  | .notchDisengage _ => true
  | .notchFreqWrite _ _ _ => true
  | .acqGo _ _ => true
  | .acqAbort _ _ => true
  | .captureStart => true
  | .captureOverflow => true
  | .captureEnd _ => true
  | .searchEnd _ => true
  | .channelStartRequest _ _ _ => true
  | .channelStart _ => true
  | .channelStopRequest _ _ _ => true
  | .channelStop _ => true
  | .dump _ _ => true
  | .integrationEnd _ => true
  | .pullTimeout _ => true
  | .coastTimeout _ => true
  | .channelConfigWrite _ _ _ _ => true
  | .epoch => true
  | .epochRateApply => true
  | _ => false

/-- Rows of chapter 15. -/
def linkRow : Instr → Bool
  | .linkControlApply => true
  | .beacon _ => true
  | .audioBurst _ => true
  | .uplink _ => true
  | .joinRequest _ => true
  | .strayUnit _ => true
  | .beaconSend => true
  | .audioMulticastSend => true
  | .uplinkSend => true
  | .joinRequestSend _ _ => true
  | .joinBackoff => true
  | .memberDrop _ => true
  | .beaconLoss => true
  | .channelScanStep => true
  | .holdExpiry => true
  | .hopRequest _ _ => true
  | .hop => true
  | _ => false

/-- The registers of the family's own pages. -/
def clockRegs (a : Nat) : Bool := within a 0x40001000 0x40002FFF
def rfRegs (a : Nat) : Bool := within a 0x40080000 0x40080FFF || within a 0x40090000 0x40091FFF
def gnRegs (a : Nat) : Bool := within a 0x40090000 0x40091FFF || within a 0x400A0000 0x400A5FFF || within a 0x40030004 0x40030013
def linkRegs (a : Nat) : Bool := within a 0x400B0000 0x400B0FFF || within a 0x40001000 0x40001FFF || a == R.RF_LNK_RX

/-- The pasture of `d` is that of `c` but for words of one kind that the window is asked for besides those that wait. -/
def asksWindow (kind : Nat × WinReq → Bool) (c d : Chip) : Prop :=
  ∃ more, (∀ q ∈ more, kind q = true) ∧ d.pas = { c.pas with queue := c.pas.queue ++ more }

/-- The same where those of the kind that waited are taken back. -/
def asksAnew (kind : Nat × WinReq → Bool) (c d : Chip) : Prop :=
  ∃ more, (∀ q ∈ more, kind q = true) ∧ d.pas = { c.pas with queue := c.pas.queue.filter (fun q => !kind q) ++ more }

/-- A word that the link reads or writes. -/
def isLinkWord (q : Nat × WinReq) : Bool :=
  match q.2 with
  | .linkRead _ => true
  | .linkWrite _ => true
  | _ => false

/-- The RF state but for the slot units counted so far. -/
def sameRf (c d : Chip) : Prop := d.rf = { c.rf with counted := d.rf.counted }

end Sys2Proof

/-- The frame of chapter 02's rows. -/
def Obligations.ClockRowsFrame : Prop :=
  ∀ (i : Instr) (s t : State), clockRow i = true → safe s = true → exec i s = .next t →
    t.pending = s.pending ∧ SameStores s.chip t.chip ∧ t.chip.pas = s.chip.pas ∧ t.chip.lnk = s.chip.lnk ∧
      t.chip.gn.ch = s.chip.gn.ch ∧ t.chip.gn.acq = s.chip.gn.acq ∧ t.chip.rf.posted = s.chip.rf.posted ∧
      sameRegs clockRegs s.chip t.chip

/-- The frame of chapter 13's rows. -/
def Obligations.RfRowsFrame : Prop :=
  ∀ (i : Instr) (s t : State), rfRow i = true → safe s = true → exec i s = .next t →
    t.pending = s.pending ∧ SameStores s.chip t.chip ∧ t.chip.pas = s.chip.pas ∧ t.chip.lnk.plan = s.chip.lnk.plan ∧
      (i ≠ .txKey → t.chip.lnk = s.chip.lnk) ∧ (∀ n, (t.chip.chan n).code = (s.chip.chan n).code ∧ (t.chip.chan n).sums = (s.chip.chan n).sums) ∧
      sameRegs (fun a => rfRegs a || (i == .txKey && a == R.LNK_MEMBERS)) s.chip t.chip

/-- The frame of chapter 14's rows. -/
def Obligations.GnRowsFrame : Prop :=
  ∀ (i : Instr) (s t : State), gnRow i = true → safe s = true → exec i s = .next t →
    t.pending = s.pending ∧ SameStores s.chip t.chip ∧ t.chip.lnk = s.chip.lnk ∧ sameRf s.chip t.chip ∧
      (asksWindow isAcqWord s.chip t.chip ∨ asksAnew isAcqWord s.chip t.chip) ∧ sameRegs gnRegs s.chip t.chip ∧ t.chip.rd R.RF_STAT = s.chip.rd R.RF_STAT

/-- The frame of chapter 15's rows. -/
def Obligations.LinkRowsFrame : Prop :=
  ∀ (i : Instr) (s t : State), linkRow i = true → safe s = true → exec i s = .next t →
    t.pending = s.pending ∧ SameStores s.chip t.chip ∧ t.chip.gn = s.chip.gn ∧ t.chip.rf.cur = s.chip.rf.cur ∧
      t.chip.rf.keyed = s.chip.rf.keyed ∧
      (asksWindow isLinkWord s.chip t.chip ∨ asksAnew isLinkRead s.chip t.chip) ∧ sameRegs linkRegs s.chip t.chip

/-- R21 for register writes: an access that is refused has no effect but its report. -/
def Obligations.RefusedWriteOnlyReports : Prop :=
  ∀ (r : Req) (a v : Word) (s : State), safe s = true → inPages a.toNat = true → s.chip.rowGate r true a.toNat = .refuse →
    Completes (.registerWrite r a v) s fun d =>
      SameStores s.chip d ∧ d.pas = s.chip.pas ∧ d.rf = s.chip.rf ∧ d.gn = s.chip.gn ∧ d.lnk = s.chip.lnk ∧ d.time = s.chip.time ∧
        (∀ b, within b 0x40070000 0x40070FFF = false → d.rd b = s.chip.rd b) ∧
        (KMap.get 0 Ev.SYS_ACCESS_VIOLATION d.evt.tallies).toNat % 65536 =
          min ((KMap.get 0 Ev.SYS_ACCESS_VIOLATION s.chip.evt.tallies).toNat % 65536 + 1) 65535

/-- The queue of the block modelling: first in, first out. -/
def Obligations.StepRunsFrontCommand : Prop :=
  ∀ (i : Instr) (rest : List Instr) (c : Chip), step ⟨i :: rest, c⟩ = exec i ⟨rest, c⟩

/-- No command stops the device. -/
def Obligations.EveryCommandCompletes : Prop :=
  ∀ (i : Instr) (s : State), ∃ t, exec i s = .next t ∧ t.pending = s.pending

/-- Time in the idle block (the model's choice, logged; R37, R38, R43). -/
def Obligations.IdleStepOnlyPassesTime : Prop :=
  ∀ (s : State), safe s = true → s.pending = [] → ∃ t, step s = .next t ∧ t.pending = [] ∧
    SameStores s.chip t.chip ∧ t.chip.pas = s.chip.pas ∧ sameRf s.chip t.chip ∧ t.chip.gn = s.chip.gn ∧ t.chip.lnk = s.chip.lnk ∧
      (∀ a, a ≠ R.PWR_TMR → a ≠ R.GUARD_AIR_CNT → t.chip.rd a = s.chip.rd a) ∧
      (s.chip.framesRun = true → s.chip.nextBoundary < 2 ^ 64 →
        s.chip.now ≤ t.chip.now ∧ t.chip.now < s.chip.boundaryRoot)

/-- The invariant of every step (R45, R47, R277, R284, R293, R309). -/
def Obligations.EveryStepLeavesTheDeviceSafe : Prop := ∀ (s t : State), step s = .next t → safe t = true

/-- The state right after power-on. -/
def Obligations.ResetStateIsSafeAndAtItsResetValues : Prop :=
  safe State.reset = true ∧ State.reset.pending = [] ∧ (∀ a, State.reset.chip.rd a = regReset a) ∧
    State.reset.chip.mem = [] ∧ State.reset.chip.ret = [] ∧ State.reset.chip.shp.stage = .t0 ∧
    State.reset.chip.time.rootOn = false ∧ State.reset.chip.now = 0 ∧ State.reset.chip.get F.LNK_STAT_state = 0 ∧
    State.reset.chip.bit F.CRK_STAT_running = false ∧ State.reset.chip.bit F.GUARD_GATE_tx = false ∧
    State.reset.chip.bit F.GUARD_GATE_audio = false ∧ State.reset.chip.evt.queue = [] ∧
    (∀ n < 32, State.reset.chip.ringState n = ringIdle) ∧ (∀ n, (State.reset.chip.engine n).core.pend = [])

/-- R293. -/
def Obligations.UnfusedRadioNeverKeysThePa : Prop :=
  ∀ (s t : State), step s = .next t → t.chip.bit F.SYS_FEAT2_radio_fused = false → t.chip.rf.keyed = false

/-- R30. -/
def Obligations.SteeringMovesAtMost109PerMillisecond : Prop :=
  (∀ (s : State), s.chip.bit F.CLK_STAT_locked = true → s.chip.atBoundary 192 = true → s.chip.time.steerAt ≠ some s.chip.time.stc →
    Completes .steeringStep s fun d =>
      let old := (s.chip.rd R.CLK_STEER).toInt
      let new := (d.rd R.CLK_STEER).toInt
      let target := (d.rd R.CLK_TARGET).toInt
      (s.chip.get F.CLK_STAT_state = stManual → target = satInt (s.chip.rd R.CLK_MANUAL).toInt (-16492674) 16492674) ∧
        (s.chip.get F.CLK_STAT_state ≠ stManual → target = (s.chip.rd R.CLK_TARGET).toInt) ∧
        (new - old).natAbs ≤ 109 ∧ ((target - old).natAbs ≤ 109 → new = target) ∧ (109 < target - old → new = old + 109) ∧
        (target - old < -109 → new = old - 109) ∧ d.time.steerAt = some d.time.stc) ∧
  (∀ (s : State), s.chip.time.steerAt = some s.chip.time.stc ∨ s.chip.atBoundary 192 = false →
    Completes .steeringStep s fun d => d.rd R.CLK_STEER = s.chip.rd R.CLK_STEER)

/-- R45. -/
def Obligations.InvalidTimePulseIsHeldAndFlagged : Prop :=
  let ok := fun (t : TpCfg) =>
    let p := t.perS * 1000000000 + t.perNs
    1000 ≤ p ∧ p ≤ 60000000000 ∧ t.ofs < p ∧ t.dly < p ∧ 20 ≤ t.width ∧ t.width + 20 ≤ p
  (∀ (n : Bool) (s : State), safe s = true → s.chip.bit (F.TIME_TP_CTRL_apply (b2n n)) = true → s.chip.atBoundary 192000 = true →
    (s.chip.tp n).reqAt < s.chip.now → Completes (.tpConfigApply n) s fun d => (d.tp n).cfg = s.chip.tpShadow n ∧
      (ok (s.chip.tpShadow n) → d.bit (F.TIME_TP_CTRL_cfg_err (b2n n)) = false) ∧
      (¬ok (s.chip.tpShadow n) → d.bit (F.TIME_TP_CTRL_cfg_err (b2n n)) = true ∧ (d.tp n).active = false)) ∧
  (∀ (n : Bool) (s t : State), step s = .next t → ¬ok (t.chip.tp n).cfg → (t.chip.tp n).active = false)

/-- The limits of R288 with the effective values of R287. -/
def Obligations.GuardedWordNeverPassesItsCeiling : Prop :=
  ∀ (c : Chip) (ch : Nat) (o : Word), ch < 64 →
    let y := (c.guardWord ch o).1
    let d := (c.guardWord ch o).2
    let ceil := min ((c.rd (R.GUARD_CH_FUSE ch)).toNat % 65536) (c.get (F.GUARD_CH_LIM_pk ch)) * 32768 + 32767
    y.toInt.natAbs ≤ ceil ∧
      (d.bit (F.GUARD_CH_STAT_dc ch) = true ∨ c.bit (F.GUARD_CH_CTRL_mute ch) = true → y = 0) ∧
      (d.bit (F.GUARD_CH_STAT_dc ch) = false → c.bit (F.GUARD_CH_CTRL_mute ch) = false → c.bit (F.GUARD_CH_STAT_trip ch) = false →
        o.toInt.natAbs ≤ ceil → y = o)

/-- R188: the pointer's step. -/
def Obligations.SamplePointersStepBackOneWord : Prop :=
  ∀ (c : Chip) (i : Nat) (p : Pad), c.pas.pads[i]? = some p → 0 < p.length → p.length ≤ 2 ^ (F.PAS_SP_sp i).width →
    c.get (F.PAS_SP_sp i) < p.length →
      let frozen := c.get F.FOLD_STAT_state = 3 ∨ (c.get F.FOLD_STAT_state = 2 ∧ c.time.stc = c.fold.bAt)
      (¬frozen → Int.ofNat (c.stepPointers.get (F.PAS_SP_sp i)) = (Int.ofNat (c.get (F.PAS_SP_sp i)) - 1) % Int.ofNat p.length) ∧
        (frozen → c.stepPointers.get (F.PAS_SP_sp i) = c.get (F.PAS_SP_sp i))

/-! ### What the rows of the other chapters leave alone -/

namespace Sys2Proof

/-- A part of the device beside its registers. -/
inductive Part where
  | time | fold | eng | rot | pas | co | crook | guard | prt | bst | dma | rf | gn | lnk | shp | pwr | hif | bus | ret | mem
  deriving DecidableEq, Repr

/-- The part is unchanged. Counts that only move with time (the crook's cycle and watchdog counts, the fraction of CLK32K, the slot units
counted of a keyed burst) stand in `CrookSt`, `PwrSt` and `RfSt`, whose other fields stay. -/
def Part.same : Part → Chip → Chip → Prop
  | .time, c, d => d.now = c.now
  | .fold, c, d => d.fold = c.fold
  | .eng, c, d => d.eng = c.eng
  | .rot, c, d => d.rot = c.rot
  | .pas, c, d => d.pas = c.pas
  | .co, c, d => d.co = c.co
  | .crook, c, d => d.crook =
    { c.crook with core := { c.crook.core with cyc := d.crook.core.cyc }, wdCount := d.crook.wdCount, wdFrac := d.crook.wdFrac }
  | .guard, c, d => d.guard = c.guard
  | .prt, c, d => d.prt = c.prt
  | .bst, c, d => d.bst = c.bst
  | .dma, c, d => d.dma = c.dma
  | .rf, c, d => sameRf c d
  | .gn, c, d => d.gn = c.gn
  | .lnk, c, d => d.lnk = c.lnk
  | .shp, c, d => d.shp = c.shp
  | .pwr, c, d => d.pwr = { c.pwr with frac32 := d.pwr.frac32 }
  | .hif, c, d => d.hif = c.hif
  | .bus, c, d => d.bus = c.bus
  | .ret, c, d => d.ret = c.ret
  | .mem, c, d => d.mem = c.mem

/-- The registers of a chapter; `any` stands for all of them, where a register that is read may clear. -/
inductive Page where
  | any | sys | fold | se | pas | co | prt | dma | crk | guard | gn | shp | bst | pwr | hif
  deriving DecidableEq, Repr

/-- Does the address lie on the page? -/
def Page.has : Page → Nat → Bool
  | .any, _ => true
  | .sys, a => within a 0x40000000 0x40000FFF
  | .fold, a => within a 0x40003000 0x40003FFF
  | .se, a => within a 0x40010000 0x40020FFF
  | .pas, a => within a 0x40030000 0x40030FFF
  | .co, a => within a 0x40031000 0x40031FFF
  | .prt, a => within a 0x40040000 0x40042FFF
  | .dma, a => within a 0x40050000 0x40051FFF
  | .crk, a => within a 0x40060000 0x40060FFF
  | .guard, a => within a 0x40071000 0x40071FFF
  | .gn, a => within a 0x40090000 0x40091FFF
  | .shp, a => within a 0x400C0000 0x400C0FFF
  | .bst, a => within a 0x400D0000 0x400D0FFF
  | .pwr, a => within a 0x400E0000 0x400E0FFF
  | .hif, a => within a 0x400F0000 0x400F0FFF

/-- Folds, engines, rotation, the pasture's own rows, coefficients and tests: the parts a row may change and the pages it may
write, beside the event fabric. -/
def coreTouches : Instr → Option (List Part × List Page)
  | .foldGo _ _ => some ([.fold], [.fold])
  | .foldChecksEnd => some ([.fold], [.fold, .shp])
  | .foldZeroingEnd => some ([.time, .fold, .pas], [])
  | .runReq _ _ _ | .stopReq _ _ _ | .engineClear _ _ _ => some ([.rot, .eng], [.se])
  | .engineClearDone _ | .roleStart _ | .roleStop _ => some ([.eng], [.se])
  | .forcedFrameEnd _ => some ([.time, .rot, .eng], [.se])
  | .rotationDue => some ([.rot], [.se])
  | .programCopy => some ([.mem], [.se])
  | .scratchMirror => some ([.eng], [.se])
  | .stateCopy | .twinCompare => some ([.time, .rot, .eng], [.se])
  | .twinFrameStart => some ([.rot, .eng], [.se])
  | .handover => some ([.rot, .eng, .mem, .bst], [.se, .fold])
  | .scrubRequest => some ([.time, .pas], [])
  | .mirrorStart => some ([.pas], [.pas])
  | .bankSwap => some ([.bst, .pas], [.pas, .fold])
  | .commit _ _ | .timedCommit _ _ | .commitLand | .glideDataWrite _ _ => some ([.co], [.co])
  | .glideEnd _ => some ([.co], [])
  | .groupDescriptorWrite _ _ _ _ => some ([], [.co])
  | .testRequest _ _ | .shutdownRequest _ _ => some ([.bst], [.bst])
  | .testComplete _ _ _ | .testDeadline _ _ _ => some ([.time, .ret, .bst], [.bst])
  | .testStateChange _ => some ([.rot, .bst], [.pas, .se, .fold])
  | .idleTestStart => some ([.eng, .mem, .bst], [])
  | .spareTestStart _ => some ([.eng, .mem, .bst, .pas], [.pas, .se, .fold])
  | .markClear _ _ => some ([.ret], [])
  | .shutdownStart => some ([.time, .rot, .eng, .mem, .gn, .dma, .bst, .pas], [.bst, .pas, .se, .gn, .dma])
  | .shutdownEnd => some ([.ret], [.bst, .fold])
  | _ => none

/-- Ports, DMA, the event queue, the crook's own rows, power, the host link and debug: as for the core. -/
def edgeTouches : Instr → Option (List Part × List Page)
  | .groupHalt _ _ | .groupRelease _ _ | .groupHaltEffect _ | .groupReleaseEffect _ | .serialWord _ _ _ | .laneFillReached _ | .maskWrite _ _ _ _ | .maskApply _ | .laneStartRequest _ _ _ | .laneStart _ |
    .laneStopRequest _ _ _ | .laneStop _ | .alignGo _ _ _ | .triggeredStart _ | .alignStop _ _ _ => some ([.prt], [.prt])
  | .frameStart _ _ _ | .slaveClockLoss _ | .asrcLockChange _ _ _ => some ([.time, .prt], [.prt])
  | .ringStart _ _ _ | .ringAbort _ _ _ | .ringAbortDone _ | .ringPause _ _ _ | .ringResume _ _ _ | .descriptorFetch _ |
    .writeResponse _ => some ([.dma], [.dma])
  | .transactionTimeout _ _ => some ([.time, .dma], [.dma])
  | .ringPaused _ => some ([], [.dma])
  | .readTransaction _ => some ([.dma, .pas], [.any])
  | .laneBeat _ => some ([.prt, .dma], [.prt, .dma])
  | .descriptorEnd _ => some ([.mem, .dma], [.dma])
  | .ddrEnable _ _ | .ddrDisable _ _ => some ([.mem], [.dma, .sys])
  | .ddrTrainingEnd _ _ => some ([], [.dma, .sys])
  | .queuePop _ _ => some ([], [])
  | .lingerEnd _ => some ([.time], [])
  | .dcLatch _ | .dcLatchClear _ _ _ => some ([], [.guard])
  | .interruptEntry => some ([.crook, .mem], [.crk])
  | .watchdogEnable _ _ | .watchdogKick _ _ => some ([.crook], [.crk])
  | .sleepCommand _ _ | .wake => some ([.pwr], [.pwr])
  | .alarm => some ([.time, .pwr], [.pwr])
  | .pwrOvertemp _ | .overtempEnd _ => some ([], [.pwr])
  | .write _ _ _ | .writeFixed _ _ _ | .stream _ _ => some ([.hif], [.hif])
  | .status => some ([.hif], [])
  | .badCommand _ | .streamEnable _ _ => some ([], [.hif])
  | .bypass | .idcode | .boundaryScan _ => some ([.shp], [])
  | .headerCheck => some ([.shp], [.shp])
  | .dbgEnter | .scanEnter => some ([.shp, .ret, .fold, .rf], [.shp, .guard])
  | _ => none

/-- Every part outside `ps`, and every register outside `pages`, the event page, the sleep timer's count and what a cut of the
PA writes, is unchanged. -/
def KeepsAllBut (ps : List Part) (pages : List Page) (c d : Chip) : Prop :=
  (∀ p : Part, p ∉ ps → p.same c d) ∧ sameRegs (fun a => pages.any fun g => g.has a) c d

end Sys2Proof

/-- The frame of the rows of chapters 03, 04, 08 and 17. -/
def Obligations.CoreRowsFrame : Prop :=
  ∀ (i : Instr) (s t : State) (ps : List Part) (pages : List Page), coreTouches i = some (ps, pages) → safe s = true →
    exec i s = .next t → t.pending = s.pending ∧ KeepsAllBut ps pages s.chip t.chip

/-- The frame of the rows of chapters 09 to 12, 16, 18 and 19. -/
def Obligations.EdgeRowsFrame : Prop :=
  ∀ (i : Instr) (s t : State) (ps : List Part) (pages : List Page), edgeTouches i = some (ps, pages) → safe s = true →
    exec i s = .next t → t.pending = s.pending ∧ KeepsAllBut ps pages s.chip t.chip
end

