-- ==== Sys2Proof/Laws/KMap.lean ====
section
/-! SUPPORT. KMap.lean (laws): reading back what was written, and the canonical form every operation keeps. -/

namespace Sys2Proof.Machine

variable {α : Type}

theorem KMap.get_erase_self (d : α) (k : Nat) (m : KMap α) : KMap.get d k (KMap.erase k m) = d := by
  induction m with
  | nil => rfl
  | cons e m ih =>
    obtain ⟨j, v⟩ := e
    by_cases h : j = k <;> simp [KMap.erase, KMap.get, h, ih]

theorem KMap.get_erase_ne (d : α) {k j : Nat} (h : j ≠ k) (m : KMap α) :
    KMap.get d j (KMap.erase k m) = KMap.get d j m := by
  induction m with
  | nil => rfl
  | cons e m ih =>
    obtain ⟨i, v⟩ := e
    by_cases hi : i = k
    · subst hi
      simp [KMap.erase, KMap.get, ih, Ne.symm h]
    · simp [KMap.erase, KMap.get, hi, ih]

theorem KMap.get_insert_ne (d : α) {k j : Nat} (h : j ≠ k) (v : α) (m : KMap α) :
    KMap.get d j (KMap.insert k v m) = KMap.get d j m := by
  induction m with
  | nil => simp [KMap.insert, KMap.get, Ne.symm h]
  | cons e m ih =>
    obtain ⟨i, w⟩ := e
    by_cases hi : k < i
    · simp [KMap.insert, KMap.get, hi, Ne.symm h]
    · simp [KMap.insert, KMap.get, hi, ih]

theorem KMap.get_insert_erase (d : α) (k : Nat) (v : α) (m : KMap α) :
    KMap.get d k (KMap.insert k v (KMap.erase k m)) = v := by
  induction m with
  | nil => simp [KMap.insert, KMap.erase, KMap.get]
  | cons e m ih =>
    obtain ⟨i, w⟩ := e
    by_cases hk : i = k
    · simpa [KMap.erase, hk] using ih
    · by_cases hi : k < i <;> simp [KMap.erase, KMap.insert, KMap.get, hk, hi, ih]

/-- A read after a write to the same key gives the value written. -/
@[simp] theorem KMap.get_set_self [DecidableEq α] (d : α) (k : Nat) (v : α) (m : KMap α) :
    KMap.get d k (KMap.set d k v m) = v := by
  by_cases h : v = d
  · simp [KMap.set, h, KMap.get_erase_self]
  · simp [KMap.set, h, KMap.get_insert_erase]

theorem KMap.erase_erase (k : Nat) (m : KMap α) : KMap.erase k (KMap.erase k m) = KMap.erase k m := by
  induction m with
  | nil => rfl
  | cons e m ih =>
    obtain ⟨j, v⟩ := e
    by_cases h : j = k <;> simp [KMap.erase, h, ih]

theorem KMap.erase_insert_erase (k : Nat) (v : α) (m : KMap α) :
    KMap.erase k (KMap.insert k v (KMap.erase k m)) = KMap.erase k m := by
  induction m with
  | nil => simp [KMap.insert, KMap.erase]
  | cons e m ih =>
    obtain ⟨i, w⟩ := e
    by_cases hi : i = k
    · simpa [KMap.erase, hi] using ih
    · by_cases hk : k < i
      · simp [KMap.erase, KMap.insert, hi, hk, KMap.erase_erase]
      · simp [KMap.erase, KMap.insert, hi, hk, ih]

/-- Of two writes to one key the second stands. -/
theorem KMap.set_set [DecidableEq α] (d : α) (k : Nat) (v w : α) (m : KMap α) :
    KMap.set d k w (KMap.set d k v m) = KMap.set d k w m := by
  by_cases hv : v = d <;> by_cases hw : w = d <;> simp [KMap.set, hv, hw, KMap.erase_erase, KMap.erase_insert_erase]

/-- A write leaves every other key alone. -/
theorem KMap.get_set_ne [DecidableEq α] (d d' : α) {k j : Nat} (h : j ≠ k) (v : α) (m : KMap α) :
    KMap.get d' j (KMap.set d k v m) = KMap.get d' j m := by
  by_cases hv : v = d
  · simp [KMap.set, hv, KMap.get_erase_ne d' h]
  · simp [KMap.set, hv, KMap.get_insert_ne d' h, KMap.get_erase_ne d' h]

/-- `lo` is below `k`, as `wfFrom` compares them. -/
def KMap.below (lo : Option Nat) (k : Nat) : Bool :=
  match lo with
  | none => true
  | some l => decide (l < k)

theorem KMap.wfFrom_cons [DecidableEq α] (f : Nat → α) (lo : Option Nat) (j : Nat) (v : α) (m : KMap α) :
    KMap.wfFrom f lo ((j, v) :: m) = (KMap.below lo j && decide (v ≠ f j) && KMap.wfFrom f (some j) m) := rfl

theorem KMap.wfFrom_weaken [DecidableEq α] (f : Nat → α) {lo : Option Nat} {k : Nat} (m : KMap α)
    (h : KMap.below lo k = true) (hw : KMap.wfFrom f (some k) m = true) : KMap.wfFrom f lo m = true := by
  cases m with
  | nil => rfl
  | cons e m =>
    obtain ⟨j, v⟩ := e
    rw [KMap.wfFrom_cons] at hw ⊢
    simp only [Bool.and_eq_true] at hw ⊢
    refine ⟨⟨?_, hw.1.2⟩, hw.2⟩
    have hkj : k < j := by simpa [KMap.below] using hw.1.1
    cases lo with
    | none => rfl
    | some l =>
      have hlk : l < k := by simpa [KMap.below] using h
      simp [KMap.below]; omega

theorem KMap.wfFrom_erase [DecidableEq α] (f : Nat → α) (k : Nat) (m : KMap α) :
    ∀ lo, KMap.wfFrom f lo m = true → KMap.wfFrom f lo (KMap.erase k m) = true := by
  induction m with
  | nil => intro _ _; rfl
  | cons e m ih =>
    obtain ⟨j, v⟩ := e
    intro lo h
    rw [KMap.wfFrom_cons] at h
    simp only [Bool.and_eq_true] at h
    by_cases hj : j = k
    · simp only [KMap.erase, hj, if_true]
      exact KMap.wfFrom_weaken f _ (hj ▸ h.1.1) (hj ▸ ih _ h.2)
    · simp only [KMap.erase, hj, if_false]
      rw [KMap.wfFrom_cons]
      simp only [Bool.and_eq_true]
      exact ⟨h.1, ih _ h.2⟩

theorem KMap.wfFrom_insert [DecidableEq α] (f : Nat → α) (k : Nat) (v : α) (hv : v ≠ f k) (m : KMap α) :
    ∀ lo, KMap.below lo k = true → (∀ w, (k, w) ∉ m) → KMap.wfFrom f lo m = true →
      KMap.wfFrom f lo (KMap.insert k v m) = true := by
  induction m with
  | nil =>
    intro lo hlo _ _
    simp only [KMap.insert]
    rw [KMap.wfFrom_cons]
    simp [hlo, hv, KMap.wfFrom]
  | cons e m ih =>
    obtain ⟨j, w⟩ := e
    intro lo hlo hn h
    rw [KMap.wfFrom_cons] at h
    simp only [Bool.and_eq_true] at h
    by_cases hk : k < j
    · simp only [KMap.insert, hk, if_true]
      rw [KMap.wfFrom_cons, KMap.wfFrom_cons]
      simp only [Bool.and_eq_true]
      exact ⟨⟨hlo, by simp [hv]⟩, ⟨by simp [KMap.below, hk], h.1.2⟩, h.2⟩
    · have hne : j ≠ k := by
        intro he
        subst he
        exact hn w (by simp)
      have hjk : j < k := by omega
      simp only [KMap.insert, hk, if_false]
      rw [KMap.wfFrom_cons]
      simp only [Bool.and_eq_true]
      refine ⟨h.1, ih _ (by simp [KMap.below, hjk]) (fun x hx => hn x (by simp [hx])) h.2⟩

theorem KMap.not_mem_erase (k : Nat) (m : KMap α) : ∀ w, (k, w) ∉ KMap.erase k m := by
  induction m with
  | nil => simp [KMap.erase]
  | cons e m ih =>
    obtain ⟨j, v⟩ := e
    intro w
    by_cases hj : j = k
    · simpa [KMap.erase, hj] using ih w
    · simp only [KMap.erase, hj, if_false, List.mem_cons, Prod.mk.injEq, not_or]
      exact ⟨fun h => hj h.1.symm, ih w⟩

/-- A write keeps the canonical form. -/
theorem KMap.wf_set [DecidableEq α] (f : Nat → α) (k : Nat) (v : α) (m : KMap α) (h : KMap.wf f m = true) :
    KMap.wf f (KMap.set (f k) k v m) = true := by
  by_cases hv : v = f k
  · simpa [KMap.set, hv, KMap.wf] using KMap.wfFrom_erase f k m none h
  · simp only [KMap.set, hv, if_false, KMap.wf]
    exact KMap.wfFrom_insert f k v hv _ none rfl (KMap.not_mem_erase k m) (KMap.wfFrom_erase f k m none h)

theorem KMap.wfFrom_keep [DecidableEq α] (f : Nat → α) (p : Nat → Bool) (m : KMap α) :
    ∀ lo, KMap.wfFrom f lo m = true → KMap.wfFrom f lo (KMap.keep p m) = true := by
  induction m with
  | nil => intro _ _; rfl
  | cons e m ih =>
    obtain ⟨j, v⟩ := e
    intro lo h
    rw [KMap.wfFrom_cons] at h
    simp only [Bool.and_eq_true] at h
    cases hp : p j
    · have : KMap.keep p ((j, v) :: m) = KMap.keep p m := by simp [KMap.keep, hp]
      rw [this]
      exact KMap.wfFrom_weaken f _ h.1.1 (ih _ h.2)
    · have : KMap.keep p ((j, v) :: m) = (j, v) :: KMap.keep p m := by simp [KMap.keep, hp]
      rw [this, KMap.wfFrom_cons]
      simp only [Bool.and_eq_true]
      exact ⟨h.1, ih _ h.2⟩

/-- Dropping entries keeps the canonical form. -/
theorem KMap.wf_keep [DecidableEq α] (f : Nat → α) (p : Nat → Bool) (m : KMap α) (h : KMap.wf f m = true) :
    KMap.wf f (KMap.keep p m) = true :=
  KMap.wfFrom_keep f p m none h

theorem Mem.wf_setByte (a : Nat) (v : BitVec 8) (m : Mem) (h : m.wf = true) : (m.setByte a v).wf = true :=
  KMap.wf_set (fun _ => 0) a v m h

/-- A write of any number of bytes keeps the canonical form. -/
theorem Mem.wf_write (n : Nat) : ∀ (a v : Nat) (m : Mem), m.wf = true → (Mem.write a v m n).wf = true := by
  induction n with
  | zero => intro _ _ _ h; exact h
  | succ n ih => intro a v m h; exact ih _ _ _ (Mem.wf_setByte a _ m h)

@[simp] theorem Mem.byte_setByte_self (m : Mem) (a : Nat) (v : BitVec 8) : (m.setByte a v).byte a = v :=
  KMap.get_set_self _ _ _ _

theorem Mem.byte_setByte_ne {a b : Nat} (h : b ≠ a) (m : Mem) (v : BitVec 8) :
    (m.setByte a v).byte b = m.byte b :=
  KMap.get_set_ne _ _ h _ _

/-- A write changes no byte outside the bytes it writes. -/
theorem Mem.byte_write_outside (n : Nat) : ∀ (a v : Nat) (m : Mem) (b : Nat), (b < a ∨ a + n ≤ b) →
    (Mem.write a v m n).byte b = m.byte b := by
  induction n with
  | zero => intro _ _ _ _ _; rfl
  | succ n ih =>
    intro a v m b hb
    simp only [Mem.write]
    rw [ih (a + 1) _ _ b (by omega), Mem.byte_setByte_ne (by omega)]

end Sys2Proof.Machine
end

