-- ==== Sys2Proof/Laws/State.lean ====
section
/-! SUPPORT. State.lean (laws): what each update of the device leaves alone, one lemma per field, and what reading a register or a
field gives after it was set. -/

namespace Sys2Proof.Machine

variable (c : Chip)

@[simp] theorem Chip.wr_fresh (a : Nat) (v : Word) : (c.wr a v).fresh = c.fresh := rfl
@[simp] theorem Chip.wr_free (a : Nat) (v : Word) : (c.wr a v).free = c.free := rfl
@[simp] theorem Chip.wr_time (a : Nat) (v : Word) : (c.wr a v).time = c.time := rfl
@[simp] theorem Chip.wr_evt (a : Nat) (v : Word) : (c.wr a v).evt = c.evt := rfl
@[simp] theorem Chip.wr_fold (a : Nat) (v : Word) : (c.wr a v).fold = c.fold := rfl
@[simp] theorem Chip.wr_eng (a : Nat) (v : Word) : (c.wr a v).eng = c.eng := rfl
@[simp] theorem Chip.wr_rot (a : Nat) (v : Word) : (c.wr a v).rot = c.rot := rfl
@[simp] theorem Chip.wr_pas (a : Nat) (v : Word) : (c.wr a v).pas = c.pas := rfl
@[simp] theorem Chip.wr_co (a : Nat) (v : Word) : (c.wr a v).co = c.co := rfl
@[simp] theorem Chip.wr_crook (a : Nat) (v : Word) : (c.wr a v).crook = c.crook := rfl
@[simp] theorem Chip.wr_guard (a : Nat) (v : Word) : (c.wr a v).guard = c.guard := rfl
@[simp] theorem Chip.wr_prt (a : Nat) (v : Word) : (c.wr a v).prt = c.prt := rfl
@[simp] theorem Chip.wr_bst (a : Nat) (v : Word) : (c.wr a v).bst = c.bst := rfl
@[simp] theorem Chip.wr_dma (a : Nat) (v : Word) : (c.wr a v).dma = c.dma := rfl
@[simp] theorem Chip.wr_rf (a : Nat) (v : Word) : (c.wr a v).rf = c.rf := rfl
@[simp] theorem Chip.wr_gn (a : Nat) (v : Word) : (c.wr a v).gn = c.gn := rfl
@[simp] theorem Chip.wr_lnk (a : Nat) (v : Word) : (c.wr a v).lnk = c.lnk := rfl
@[simp] theorem Chip.wr_shp (a : Nat) (v : Word) : (c.wr a v).shp = c.shp := rfl
@[simp] theorem Chip.wr_pwr (a : Nat) (v : Word) : (c.wr a v).pwr = c.pwr := rfl
@[simp] theorem Chip.wr_hif (a : Nat) (v : Word) : (c.wr a v).hif = c.hif := rfl
@[simp] theorem Chip.wr_bus (a : Nat) (v : Word) : (c.wr a v).bus = c.bus := rfl
@[simp] theorem Chip.wr_ret (a : Nat) (v : Word) : (c.wr a v).ret = c.ret := rfl
@[simp] theorem Chip.wr_mem (a : Nat) (v : Word) : (c.wr a v).mem = c.mem := rfl

@[simp] theorem Chip.put_fresh (f : Fld) (v : Nat) : (c.put f v).fresh = c.fresh := rfl
@[simp] theorem Chip.put_free (f : Fld) (v : Nat) : (c.put f v).free = c.free := rfl
@[simp] theorem Chip.put_time (f : Fld) (v : Nat) : (c.put f v).time = c.time := rfl
@[simp] theorem Chip.put_evt (f : Fld) (v : Nat) : (c.put f v).evt = c.evt := rfl
@[simp] theorem Chip.put_fold (f : Fld) (v : Nat) : (c.put f v).fold = c.fold := rfl
@[simp] theorem Chip.put_eng (f : Fld) (v : Nat) : (c.put f v).eng = c.eng := rfl
@[simp] theorem Chip.put_rot (f : Fld) (v : Nat) : (c.put f v).rot = c.rot := rfl
@[simp] theorem Chip.put_pas (f : Fld) (v : Nat) : (c.put f v).pas = c.pas := rfl
@[simp] theorem Chip.put_co (f : Fld) (v : Nat) : (c.put f v).co = c.co := rfl
@[simp] theorem Chip.put_crook (f : Fld) (v : Nat) : (c.put f v).crook = c.crook := rfl
@[simp] theorem Chip.put_guard (f : Fld) (v : Nat) : (c.put f v).guard = c.guard := rfl
@[simp] theorem Chip.put_prt (f : Fld) (v : Nat) : (c.put f v).prt = c.prt := rfl
@[simp] theorem Chip.put_bst (f : Fld) (v : Nat) : (c.put f v).bst = c.bst := rfl
@[simp] theorem Chip.put_dma (f : Fld) (v : Nat) : (c.put f v).dma = c.dma := rfl
@[simp] theorem Chip.put_rf (f : Fld) (v : Nat) : (c.put f v).rf = c.rf := rfl
@[simp] theorem Chip.put_gn (f : Fld) (v : Nat) : (c.put f v).gn = c.gn := rfl
@[simp] theorem Chip.put_lnk (f : Fld) (v : Nat) : (c.put f v).lnk = c.lnk := rfl
@[simp] theorem Chip.put_shp (f : Fld) (v : Nat) : (c.put f v).shp = c.shp := rfl
@[simp] theorem Chip.put_pwr (f : Fld) (v : Nat) : (c.put f v).pwr = c.pwr := rfl
@[simp] theorem Chip.put_hif (f : Fld) (v : Nat) : (c.put f v).hif = c.hif := rfl
@[simp] theorem Chip.put_bus (f : Fld) (v : Nat) : (c.put f v).bus = c.bus := rfl
@[simp] theorem Chip.put_ret (f : Fld) (v : Nat) : (c.put f v).ret = c.ret := rfl
@[simp] theorem Chip.put_mem (f : Fld) (v : Nat) : (c.put f v).mem = c.mem := rfl

@[simp] theorem Chip.putB_fresh (f : Fld) (b : Bool) : (c.putB f b).fresh = c.fresh := rfl
@[simp] theorem Chip.putB_free (f : Fld) (b : Bool) : (c.putB f b).free = c.free := rfl
@[simp] theorem Chip.putB_time (f : Fld) (b : Bool) : (c.putB f b).time = c.time := rfl
@[simp] theorem Chip.putB_evt (f : Fld) (b : Bool) : (c.putB f b).evt = c.evt := rfl
@[simp] theorem Chip.putB_fold (f : Fld) (b : Bool) : (c.putB f b).fold = c.fold := rfl
@[simp] theorem Chip.putB_eng (f : Fld) (b : Bool) : (c.putB f b).eng = c.eng := rfl
@[simp] theorem Chip.putB_rot (f : Fld) (b : Bool) : (c.putB f b).rot = c.rot := rfl
@[simp] theorem Chip.putB_pas (f : Fld) (b : Bool) : (c.putB f b).pas = c.pas := rfl
@[simp] theorem Chip.putB_co (f : Fld) (b : Bool) : (c.putB f b).co = c.co := rfl
@[simp] theorem Chip.putB_crook (f : Fld) (b : Bool) : (c.putB f b).crook = c.crook := rfl
@[simp] theorem Chip.putB_guard (f : Fld) (b : Bool) : (c.putB f b).guard = c.guard := rfl
@[simp] theorem Chip.putB_prt (f : Fld) (b : Bool) : (c.putB f b).prt = c.prt := rfl
@[simp] theorem Chip.putB_bst (f : Fld) (b : Bool) : (c.putB f b).bst = c.bst := rfl
@[simp] theorem Chip.putB_dma (f : Fld) (b : Bool) : (c.putB f b).dma = c.dma := rfl
@[simp] theorem Chip.putB_rf (f : Fld) (b : Bool) : (c.putB f b).rf = c.rf := rfl
@[simp] theorem Chip.putB_gn (f : Fld) (b : Bool) : (c.putB f b).gn = c.gn := rfl
@[simp] theorem Chip.putB_lnk (f : Fld) (b : Bool) : (c.putB f b).lnk = c.lnk := rfl
@[simp] theorem Chip.putB_shp (f : Fld) (b : Bool) : (c.putB f b).shp = c.shp := rfl
@[simp] theorem Chip.putB_pwr (f : Fld) (b : Bool) : (c.putB f b).pwr = c.pwr := rfl
@[simp] theorem Chip.putB_hif (f : Fld) (b : Bool) : (c.putB f b).hif = c.hif := rfl
@[simp] theorem Chip.putB_bus (f : Fld) (b : Bool) : (c.putB f b).bus = c.bus := rfl
@[simp] theorem Chip.putB_ret (f : Fld) (b : Bool) : (c.putB f b).ret = c.ret := rfl
@[simp] theorem Chip.putB_mem (f : Fld) (b : Bool) : (c.putB f b).mem = c.mem := rfl

@[simp] theorem Chip.putS_fresh (f : Fld) (v : Int) : (c.putS f v).fresh = c.fresh := rfl
@[simp] theorem Chip.putS_free (f : Fld) (v : Int) : (c.putS f v).free = c.free := rfl
@[simp] theorem Chip.putS_time (f : Fld) (v : Int) : (c.putS f v).time = c.time := rfl
@[simp] theorem Chip.putS_evt (f : Fld) (v : Int) : (c.putS f v).evt = c.evt := rfl
@[simp] theorem Chip.putS_fold (f : Fld) (v : Int) : (c.putS f v).fold = c.fold := rfl
@[simp] theorem Chip.putS_eng (f : Fld) (v : Int) : (c.putS f v).eng = c.eng := rfl
@[simp] theorem Chip.putS_rot (f : Fld) (v : Int) : (c.putS f v).rot = c.rot := rfl
@[simp] theorem Chip.putS_pas (f : Fld) (v : Int) : (c.putS f v).pas = c.pas := rfl
@[simp] theorem Chip.putS_co (f : Fld) (v : Int) : (c.putS f v).co = c.co := rfl
@[simp] theorem Chip.putS_crook (f : Fld) (v : Int) : (c.putS f v).crook = c.crook := rfl
@[simp] theorem Chip.putS_guard (f : Fld) (v : Int) : (c.putS f v).guard = c.guard := rfl
@[simp] theorem Chip.putS_prt (f : Fld) (v : Int) : (c.putS f v).prt = c.prt := rfl
@[simp] theorem Chip.putS_bst (f : Fld) (v : Int) : (c.putS f v).bst = c.bst := rfl
@[simp] theorem Chip.putS_dma (f : Fld) (v : Int) : (c.putS f v).dma = c.dma := rfl
@[simp] theorem Chip.putS_rf (f : Fld) (v : Int) : (c.putS f v).rf = c.rf := rfl
@[simp] theorem Chip.putS_gn (f : Fld) (v : Int) : (c.putS f v).gn = c.gn := rfl
@[simp] theorem Chip.putS_lnk (f : Fld) (v : Int) : (c.putS f v).lnk = c.lnk := rfl
@[simp] theorem Chip.putS_shp (f : Fld) (v : Int) : (c.putS f v).shp = c.shp := rfl
@[simp] theorem Chip.putS_pwr (f : Fld) (v : Int) : (c.putS f v).pwr = c.pwr := rfl
@[simp] theorem Chip.putS_hif (f : Fld) (v : Int) : (c.putS f v).hif = c.hif := rfl
@[simp] theorem Chip.putS_bus (f : Fld) (v : Int) : (c.putS f v).bus = c.bus := rfl
@[simp] theorem Chip.putS_ret (f : Fld) (v : Int) : (c.putS f v).ret = c.ret := rfl
@[simp] theorem Chip.putS_mem (f : Fld) (v : Int) : (c.putS f v).mem = c.mem := rfl

@[simp] theorem Chip.incr_fresh (f : Fld) : (c.incr f).fresh = c.fresh := rfl
@[simp] theorem Chip.incr_free (f : Fld) : (c.incr f).free = c.free := rfl
@[simp] theorem Chip.incr_time (f : Fld) : (c.incr f).time = c.time := rfl
@[simp] theorem Chip.incr_evt (f : Fld) : (c.incr f).evt = c.evt := rfl
@[simp] theorem Chip.incr_fold (f : Fld) : (c.incr f).fold = c.fold := rfl
@[simp] theorem Chip.incr_eng (f : Fld) : (c.incr f).eng = c.eng := rfl
@[simp] theorem Chip.incr_rot (f : Fld) : (c.incr f).rot = c.rot := rfl
@[simp] theorem Chip.incr_pas (f : Fld) : (c.incr f).pas = c.pas := rfl
@[simp] theorem Chip.incr_co (f : Fld) : (c.incr f).co = c.co := rfl
@[simp] theorem Chip.incr_crook (f : Fld) : (c.incr f).crook = c.crook := rfl
@[simp] theorem Chip.incr_guard (f : Fld) : (c.incr f).guard = c.guard := rfl
@[simp] theorem Chip.incr_prt (f : Fld) : (c.incr f).prt = c.prt := rfl
@[simp] theorem Chip.incr_bst (f : Fld) : (c.incr f).bst = c.bst := rfl
@[simp] theorem Chip.incr_dma (f : Fld) : (c.incr f).dma = c.dma := rfl
@[simp] theorem Chip.incr_rf (f : Fld) : (c.incr f).rf = c.rf := rfl
@[simp] theorem Chip.incr_gn (f : Fld) : (c.incr f).gn = c.gn := rfl
@[simp] theorem Chip.incr_lnk (f : Fld) : (c.incr f).lnk = c.lnk := rfl
@[simp] theorem Chip.incr_shp (f : Fld) : (c.incr f).shp = c.shp := rfl
@[simp] theorem Chip.incr_pwr (f : Fld) : (c.incr f).pwr = c.pwr := rfl
@[simp] theorem Chip.incr_hif (f : Fld) : (c.incr f).hif = c.hif := rfl
@[simp] theorem Chip.incr_bus (f : Fld) : (c.incr f).bus = c.bus := rfl
@[simp] theorem Chip.incr_ret (f : Fld) : (c.incr f).ret = c.ret := rfl
@[simp] theorem Chip.incr_mem (f : Fld) : (c.incr f).mem = c.mem := rfl

@[simp] theorem Chip.setFresh_regs (f : Fresh) : (c.setFresh f).regs = c.regs := rfl
@[simp] theorem Chip.setFresh_free (f : Fresh) : (c.setFresh f).free = c.free := rfl
@[simp] theorem Chip.setFresh_time (f : Fresh) : (c.setFresh f).time = c.time := rfl
@[simp] theorem Chip.setFresh_evt (f : Fresh) : (c.setFresh f).evt = c.evt := rfl
@[simp] theorem Chip.setFresh_fold (f : Fresh) : (c.setFresh f).fold = c.fold := rfl
@[simp] theorem Chip.setFresh_eng (f : Fresh) : (c.setFresh f).eng = c.eng := rfl
@[simp] theorem Chip.setFresh_rot (f : Fresh) : (c.setFresh f).rot = c.rot := rfl
@[simp] theorem Chip.setFresh_pas (f : Fresh) : (c.setFresh f).pas = c.pas := rfl
@[simp] theorem Chip.setFresh_co (f : Fresh) : (c.setFresh f).co = c.co := rfl
@[simp] theorem Chip.setFresh_crook (f : Fresh) : (c.setFresh f).crook = c.crook := rfl
@[simp] theorem Chip.setFresh_guard (f : Fresh) : (c.setFresh f).guard = c.guard := rfl
@[simp] theorem Chip.setFresh_prt (f : Fresh) : (c.setFresh f).prt = c.prt := rfl
@[simp] theorem Chip.setFresh_bst (f : Fresh) : (c.setFresh f).bst = c.bst := rfl
@[simp] theorem Chip.setFresh_dma (f : Fresh) : (c.setFresh f).dma = c.dma := rfl
@[simp] theorem Chip.setFresh_rf (f : Fresh) : (c.setFresh f).rf = c.rf := rfl
@[simp] theorem Chip.setFresh_gn (f : Fresh) : (c.setFresh f).gn = c.gn := rfl
@[simp] theorem Chip.setFresh_lnk (f : Fresh) : (c.setFresh f).lnk = c.lnk := rfl
@[simp] theorem Chip.setFresh_shp (f : Fresh) : (c.setFresh f).shp = c.shp := rfl
@[simp] theorem Chip.setFresh_pwr (f : Fresh) : (c.setFresh f).pwr = c.pwr := rfl
@[simp] theorem Chip.setFresh_hif (f : Fresh) : (c.setFresh f).hif = c.hif := rfl
@[simp] theorem Chip.setFresh_bus (f : Fresh) : (c.setFresh f).bus = c.bus := rfl
@[simp] theorem Chip.setFresh_ret (f : Fresh) : (c.setFresh f).ret = c.ret := rfl
@[simp] theorem Chip.setFresh_mem (f : Fresh) : (c.setFresh f).mem = c.mem := rfl

@[simp] theorem Chip.noteBits_regs (a : Nat) (m : Word) : (c.noteBits a m).regs = c.regs := rfl
@[simp] theorem Chip.noteBits_free (a : Nat) (m : Word) : (c.noteBits a m).free = c.free := rfl
@[simp] theorem Chip.noteBits_time (a : Nat) (m : Word) : (c.noteBits a m).time = c.time := rfl
@[simp] theorem Chip.noteBits_evt (a : Nat) (m : Word) : (c.noteBits a m).evt = c.evt := rfl
@[simp] theorem Chip.noteBits_fold (a : Nat) (m : Word) : (c.noteBits a m).fold = c.fold := rfl
@[simp] theorem Chip.noteBits_eng (a : Nat) (m : Word) : (c.noteBits a m).eng = c.eng := rfl
@[simp] theorem Chip.noteBits_rot (a : Nat) (m : Word) : (c.noteBits a m).rot = c.rot := rfl
@[simp] theorem Chip.noteBits_pas (a : Nat) (m : Word) : (c.noteBits a m).pas = c.pas := rfl
@[simp] theorem Chip.noteBits_co (a : Nat) (m : Word) : (c.noteBits a m).co = c.co := rfl
@[simp] theorem Chip.noteBits_crook (a : Nat) (m : Word) : (c.noteBits a m).crook = c.crook := rfl
@[simp] theorem Chip.noteBits_guard (a : Nat) (m : Word) : (c.noteBits a m).guard = c.guard := rfl
@[simp] theorem Chip.noteBits_prt (a : Nat) (m : Word) : (c.noteBits a m).prt = c.prt := rfl
@[simp] theorem Chip.noteBits_bst (a : Nat) (m : Word) : (c.noteBits a m).bst = c.bst := rfl
@[simp] theorem Chip.noteBits_dma (a : Nat) (m : Word) : (c.noteBits a m).dma = c.dma := rfl
@[simp] theorem Chip.noteBits_rf (a : Nat) (m : Word) : (c.noteBits a m).rf = c.rf := rfl
@[simp] theorem Chip.noteBits_gn (a : Nat) (m : Word) : (c.noteBits a m).gn = c.gn := rfl
@[simp] theorem Chip.noteBits_lnk (a : Nat) (m : Word) : (c.noteBits a m).lnk = c.lnk := rfl
@[simp] theorem Chip.noteBits_shp (a : Nat) (m : Word) : (c.noteBits a m).shp = c.shp := rfl
@[simp] theorem Chip.noteBits_pwr (a : Nat) (m : Word) : (c.noteBits a m).pwr = c.pwr := rfl
@[simp] theorem Chip.noteBits_hif (a : Nat) (m : Word) : (c.noteBits a m).hif = c.hif := rfl
@[simp] theorem Chip.noteBits_bus (a : Nat) (m : Word) : (c.noteBits a m).bus = c.bus := rfl
@[simp] theorem Chip.noteBits_ret (a : Nat) (m : Word) : (c.noteBits a m).ret = c.ret := rfl
@[simp] theorem Chip.noteBits_mem (a : Nat) (m : Word) : (c.noteBits a m).mem = c.mem := rfl

@[simp] theorem Chip.dropBits_regs (a : Nat) (v : Word) : (c.dropBits a v).regs = c.regs := rfl
@[simp] theorem Chip.dropBits_free (a : Nat) (v : Word) : (c.dropBits a v).free = c.free := rfl
@[simp] theorem Chip.dropBits_time (a : Nat) (v : Word) : (c.dropBits a v).time = c.time := rfl
@[simp] theorem Chip.dropBits_evt (a : Nat) (v : Word) : (c.dropBits a v).evt = c.evt := rfl
@[simp] theorem Chip.dropBits_fold (a : Nat) (v : Word) : (c.dropBits a v).fold = c.fold := rfl
@[simp] theorem Chip.dropBits_eng (a : Nat) (v : Word) : (c.dropBits a v).eng = c.eng := rfl
@[simp] theorem Chip.dropBits_rot (a : Nat) (v : Word) : (c.dropBits a v).rot = c.rot := rfl
@[simp] theorem Chip.dropBits_pas (a : Nat) (v : Word) : (c.dropBits a v).pas = c.pas := rfl
@[simp] theorem Chip.dropBits_co (a : Nat) (v : Word) : (c.dropBits a v).co = c.co := rfl
@[simp] theorem Chip.dropBits_crook (a : Nat) (v : Word) : (c.dropBits a v).crook = c.crook := rfl
@[simp] theorem Chip.dropBits_guard (a : Nat) (v : Word) : (c.dropBits a v).guard = c.guard := rfl
@[simp] theorem Chip.dropBits_prt (a : Nat) (v : Word) : (c.dropBits a v).prt = c.prt := rfl
@[simp] theorem Chip.dropBits_bst (a : Nat) (v : Word) : (c.dropBits a v).bst = c.bst := rfl
@[simp] theorem Chip.dropBits_dma (a : Nat) (v : Word) : (c.dropBits a v).dma = c.dma := rfl
@[simp] theorem Chip.dropBits_rf (a : Nat) (v : Word) : (c.dropBits a v).rf = c.rf := rfl
@[simp] theorem Chip.dropBits_gn (a : Nat) (v : Word) : (c.dropBits a v).gn = c.gn := rfl
@[simp] theorem Chip.dropBits_lnk (a : Nat) (v : Word) : (c.dropBits a v).lnk = c.lnk := rfl
@[simp] theorem Chip.dropBits_shp (a : Nat) (v : Word) : (c.dropBits a v).shp = c.shp := rfl
@[simp] theorem Chip.dropBits_pwr (a : Nat) (v : Word) : (c.dropBits a v).pwr = c.pwr := rfl
@[simp] theorem Chip.dropBits_hif (a : Nat) (v : Word) : (c.dropBits a v).hif = c.hif := rfl
@[simp] theorem Chip.dropBits_bus (a : Nat) (v : Word) : (c.dropBits a v).bus = c.bus := rfl
@[simp] theorem Chip.dropBits_ret (a : Nat) (v : Word) : (c.dropBits a v).ret = c.ret := rfl
@[simp] theorem Chip.dropBits_mem (a : Nat) (v : Word) : (c.dropBits a v).mem = c.mem := rfl

@[simp] theorem Chip.latch_free (f : Fld) : (c.latch f).free = c.free := rfl
@[simp] theorem Chip.latch_time (f : Fld) : (c.latch f).time = c.time := rfl
@[simp] theorem Chip.latch_evt (f : Fld) : (c.latch f).evt = c.evt := rfl
@[simp] theorem Chip.latch_fold (f : Fld) : (c.latch f).fold = c.fold := rfl
@[simp] theorem Chip.latch_eng (f : Fld) : (c.latch f).eng = c.eng := rfl
@[simp] theorem Chip.latch_rot (f : Fld) : (c.latch f).rot = c.rot := rfl
@[simp] theorem Chip.latch_pas (f : Fld) : (c.latch f).pas = c.pas := rfl
@[simp] theorem Chip.latch_co (f : Fld) : (c.latch f).co = c.co := rfl
@[simp] theorem Chip.latch_crook (f : Fld) : (c.latch f).crook = c.crook := rfl
@[simp] theorem Chip.latch_guard (f : Fld) : (c.latch f).guard = c.guard := rfl
@[simp] theorem Chip.latch_prt (f : Fld) : (c.latch f).prt = c.prt := rfl
@[simp] theorem Chip.latch_bst (f : Fld) : (c.latch f).bst = c.bst := rfl
@[simp] theorem Chip.latch_dma (f : Fld) : (c.latch f).dma = c.dma := rfl
@[simp] theorem Chip.latch_rf (f : Fld) : (c.latch f).rf = c.rf := rfl
@[simp] theorem Chip.latch_gn (f : Fld) : (c.latch f).gn = c.gn := rfl
@[simp] theorem Chip.latch_lnk (f : Fld) : (c.latch f).lnk = c.lnk := rfl
@[simp] theorem Chip.latch_shp (f : Fld) : (c.latch f).shp = c.shp := rfl
@[simp] theorem Chip.latch_pwr (f : Fld) : (c.latch f).pwr = c.pwr := rfl
@[simp] theorem Chip.latch_hif (f : Fld) : (c.latch f).hif = c.hif := rfl
@[simp] theorem Chip.latch_bus (f : Fld) : (c.latch f).bus = c.bus := rfl
@[simp] theorem Chip.latch_ret (f : Fld) : (c.latch f).ret = c.ret := rfl
@[simp] theorem Chip.latch_mem (f : Fld) : (c.latch f).mem = c.mem := rfl

@[simp] theorem Chip.latchBits_free (a : Nat) (m : Word) : (c.latchBits a m).free = c.free := rfl
@[simp] theorem Chip.latchBits_time (a : Nat) (m : Word) : (c.latchBits a m).time = c.time := rfl
@[simp] theorem Chip.latchBits_evt (a : Nat) (m : Word) : (c.latchBits a m).evt = c.evt := rfl
@[simp] theorem Chip.latchBits_fold (a : Nat) (m : Word) : (c.latchBits a m).fold = c.fold := rfl
@[simp] theorem Chip.latchBits_eng (a : Nat) (m : Word) : (c.latchBits a m).eng = c.eng := rfl
@[simp] theorem Chip.latchBits_rot (a : Nat) (m : Word) : (c.latchBits a m).rot = c.rot := rfl
@[simp] theorem Chip.latchBits_pas (a : Nat) (m : Word) : (c.latchBits a m).pas = c.pas := rfl
@[simp] theorem Chip.latchBits_co (a : Nat) (m : Word) : (c.latchBits a m).co = c.co := rfl
@[simp] theorem Chip.latchBits_crook (a : Nat) (m : Word) : (c.latchBits a m).crook = c.crook := rfl
@[simp] theorem Chip.latchBits_guard (a : Nat) (m : Word) : (c.latchBits a m).guard = c.guard := rfl
@[simp] theorem Chip.latchBits_prt (a : Nat) (m : Word) : (c.latchBits a m).prt = c.prt := rfl
@[simp] theorem Chip.latchBits_bst (a : Nat) (m : Word) : (c.latchBits a m).bst = c.bst := rfl
@[simp] theorem Chip.latchBits_dma (a : Nat) (m : Word) : (c.latchBits a m).dma = c.dma := rfl
@[simp] theorem Chip.latchBits_rf (a : Nat) (m : Word) : (c.latchBits a m).rf = c.rf := rfl
@[simp] theorem Chip.latchBits_gn (a : Nat) (m : Word) : (c.latchBits a m).gn = c.gn := rfl
@[simp] theorem Chip.latchBits_lnk (a : Nat) (m : Word) : (c.latchBits a m).lnk = c.lnk := rfl
@[simp] theorem Chip.latchBits_shp (a : Nat) (m : Word) : (c.latchBits a m).shp = c.shp := rfl
@[simp] theorem Chip.latchBits_pwr (a : Nat) (m : Word) : (c.latchBits a m).pwr = c.pwr := rfl
@[simp] theorem Chip.latchBits_hif (a : Nat) (m : Word) : (c.latchBits a m).hif = c.hif := rfl
@[simp] theorem Chip.latchBits_bus (a : Nat) (m : Word) : (c.latchBits a m).bus = c.bus := rfl
@[simp] theorem Chip.latchBits_ret (a : Nat) (m : Word) : (c.latchBits a m).ret = c.ret := rfl
@[simp] theorem Chip.latchBits_mem (a : Nat) (m : Word) : (c.latchBits a m).mem = c.mem := rfl

@[simp] theorem Chip.w1c_free (f : Fld) : (c.w1c f).free = c.free := by unfold Chip.w1c; split <;> rfl
@[simp] theorem Chip.w1c_time (f : Fld) : (c.w1c f).time = c.time := by unfold Chip.w1c; split <;> rfl
@[simp] theorem Chip.w1c_evt (f : Fld) : (c.w1c f).evt = c.evt := by unfold Chip.w1c; split <;> rfl
@[simp] theorem Chip.w1c_fold (f : Fld) : (c.w1c f).fold = c.fold := by unfold Chip.w1c; split <;> rfl
@[simp] theorem Chip.w1c_eng (f : Fld) : (c.w1c f).eng = c.eng := by unfold Chip.w1c; split <;> rfl
@[simp] theorem Chip.w1c_rot (f : Fld) : (c.w1c f).rot = c.rot := by unfold Chip.w1c; split <;> rfl
@[simp] theorem Chip.w1c_pas (f : Fld) : (c.w1c f).pas = c.pas := by unfold Chip.w1c; split <;> rfl
@[simp] theorem Chip.w1c_co (f : Fld) : (c.w1c f).co = c.co := by unfold Chip.w1c; split <;> rfl
@[simp] theorem Chip.w1c_crook (f : Fld) : (c.w1c f).crook = c.crook := by unfold Chip.w1c; split <;> rfl
@[simp] theorem Chip.w1c_guard (f : Fld) : (c.w1c f).guard = c.guard := by unfold Chip.w1c; split <;> rfl
@[simp] theorem Chip.w1c_prt (f : Fld) : (c.w1c f).prt = c.prt := by unfold Chip.w1c; split <;> rfl
@[simp] theorem Chip.w1c_bst (f : Fld) : (c.w1c f).bst = c.bst := by unfold Chip.w1c; split <;> rfl
@[simp] theorem Chip.w1c_dma (f : Fld) : (c.w1c f).dma = c.dma := by unfold Chip.w1c; split <;> rfl
@[simp] theorem Chip.w1c_rf (f : Fld) : (c.w1c f).rf = c.rf := by unfold Chip.w1c; split <;> rfl
@[simp] theorem Chip.w1c_gn (f : Fld) : (c.w1c f).gn = c.gn := by unfold Chip.w1c; split <;> rfl
@[simp] theorem Chip.w1c_lnk (f : Fld) : (c.w1c f).lnk = c.lnk := by unfold Chip.w1c; split <;> rfl
@[simp] theorem Chip.w1c_shp (f : Fld) : (c.w1c f).shp = c.shp := by unfold Chip.w1c; split <;> rfl
@[simp] theorem Chip.w1c_pwr (f : Fld) : (c.w1c f).pwr = c.pwr := by unfold Chip.w1c; split <;> rfl
@[simp] theorem Chip.w1c_hif (f : Fld) : (c.w1c f).hif = c.hif := by unfold Chip.w1c; split <;> rfl
@[simp] theorem Chip.w1c_bus (f : Fld) : (c.w1c f).bus = c.bus := by unfold Chip.w1c; split <;> rfl
@[simp] theorem Chip.w1c_ret (f : Fld) : (c.w1c f).ret = c.ret := by unfold Chip.w1c; split <;> rfl
@[simp] theorem Chip.w1c_mem (f : Fld) : (c.w1c f).mem = c.mem := by unfold Chip.w1c; split <;> rfl

@[simp] theorem Chip.bump_free (f : Fld) : (c.bump f).free = c.free := rfl
@[simp] theorem Chip.bump_time (f : Fld) : (c.bump f).time = c.time := rfl
@[simp] theorem Chip.bump_evt (f : Fld) : (c.bump f).evt = c.evt := rfl
@[simp] theorem Chip.bump_fold (f : Fld) : (c.bump f).fold = c.fold := rfl
@[simp] theorem Chip.bump_eng (f : Fld) : (c.bump f).eng = c.eng := rfl
@[simp] theorem Chip.bump_rot (f : Fld) : (c.bump f).rot = c.rot := rfl
@[simp] theorem Chip.bump_pas (f : Fld) : (c.bump f).pas = c.pas := rfl
@[simp] theorem Chip.bump_co (f : Fld) : (c.bump f).co = c.co := rfl
@[simp] theorem Chip.bump_crook (f : Fld) : (c.bump f).crook = c.crook := rfl
@[simp] theorem Chip.bump_guard (f : Fld) : (c.bump f).guard = c.guard := rfl
@[simp] theorem Chip.bump_prt (f : Fld) : (c.bump f).prt = c.prt := rfl
@[simp] theorem Chip.bump_bst (f : Fld) : (c.bump f).bst = c.bst := rfl
@[simp] theorem Chip.bump_dma (f : Fld) : (c.bump f).dma = c.dma := rfl
@[simp] theorem Chip.bump_rf (f : Fld) : (c.bump f).rf = c.rf := rfl
@[simp] theorem Chip.bump_gn (f : Fld) : (c.bump f).gn = c.gn := rfl
@[simp] theorem Chip.bump_lnk (f : Fld) : (c.bump f).lnk = c.lnk := rfl
@[simp] theorem Chip.bump_shp (f : Fld) : (c.bump f).shp = c.shp := rfl
@[simp] theorem Chip.bump_pwr (f : Fld) : (c.bump f).pwr = c.pwr := rfl
@[simp] theorem Chip.bump_hif (f : Fld) : (c.bump f).hif = c.hif := rfl
@[simp] theorem Chip.bump_bus (f : Fld) : (c.bump f).bus = c.bus := rfl
@[simp] theorem Chip.bump_ret (f : Fld) : (c.bump f).ret = c.ret := rfl
@[simp] theorem Chip.bump_mem (f : Fld) : (c.bump f).mem = c.mem := rfl

@[simp] theorem Chip.raiseAt_regs (t : Int) (id : Nat) (l a : Word) : (c.raiseAt t id l a).regs = c.regs := rfl
@[simp] theorem Chip.raiseAt_fresh (t : Int) (id : Nat) (l a : Word) : (c.raiseAt t id l a).fresh = c.fresh := rfl
@[simp] theorem Chip.raiseAt_free (t : Int) (id : Nat) (l a : Word) : (c.raiseAt t id l a).free = c.free := rfl
@[simp] theorem Chip.raiseAt_time (t : Int) (id : Nat) (l a : Word) : (c.raiseAt t id l a).time = c.time := rfl
@[simp] theorem Chip.raiseAt_fold (t : Int) (id : Nat) (l a : Word) : (c.raiseAt t id l a).fold = c.fold := rfl
@[simp] theorem Chip.raiseAt_eng (t : Int) (id : Nat) (l a : Word) : (c.raiseAt t id l a).eng = c.eng := rfl
@[simp] theorem Chip.raiseAt_rot (t : Int) (id : Nat) (l a : Word) : (c.raiseAt t id l a).rot = c.rot := rfl
@[simp] theorem Chip.raiseAt_pas (t : Int) (id : Nat) (l a : Word) : (c.raiseAt t id l a).pas = c.pas := rfl
@[simp] theorem Chip.raiseAt_co (t : Int) (id : Nat) (l a : Word) : (c.raiseAt t id l a).co = c.co := rfl
@[simp] theorem Chip.raiseAt_crook (t : Int) (id : Nat) (l a : Word) : (c.raiseAt t id l a).crook = c.crook := rfl
@[simp] theorem Chip.raiseAt_guard (t : Int) (id : Nat) (l a : Word) : (c.raiseAt t id l a).guard = c.guard := rfl
@[simp] theorem Chip.raiseAt_prt (t : Int) (id : Nat) (l a : Word) : (c.raiseAt t id l a).prt = c.prt := rfl
@[simp] theorem Chip.raiseAt_bst (t : Int) (id : Nat) (l a : Word) : (c.raiseAt t id l a).bst = c.bst := rfl
@[simp] theorem Chip.raiseAt_dma (t : Int) (id : Nat) (l a : Word) : (c.raiseAt t id l a).dma = c.dma := rfl
@[simp] theorem Chip.raiseAt_rf (t : Int) (id : Nat) (l a : Word) : (c.raiseAt t id l a).rf = c.rf := rfl
@[simp] theorem Chip.raiseAt_gn (t : Int) (id : Nat) (l a : Word) : (c.raiseAt t id l a).gn = c.gn := rfl
@[simp] theorem Chip.raiseAt_lnk (t : Int) (id : Nat) (l a : Word) : (c.raiseAt t id l a).lnk = c.lnk := rfl
@[simp] theorem Chip.raiseAt_shp (t : Int) (id : Nat) (l a : Word) : (c.raiseAt t id l a).shp = c.shp := rfl
@[simp] theorem Chip.raiseAt_pwr (t : Int) (id : Nat) (l a : Word) : (c.raiseAt t id l a).pwr = c.pwr := rfl
@[simp] theorem Chip.raiseAt_hif (t : Int) (id : Nat) (l a : Word) : (c.raiseAt t id l a).hif = c.hif := rfl
@[simp] theorem Chip.raiseAt_bus (t : Int) (id : Nat) (l a : Word) : (c.raiseAt t id l a).bus = c.bus := rfl
@[simp] theorem Chip.raiseAt_ret (t : Int) (id : Nat) (l a : Word) : (c.raiseAt t id l a).ret = c.ret := rfl
@[simp] theorem Chip.raiseAt_mem (t : Int) (id : Nat) (l a : Word) : (c.raiseAt t id l a).mem = c.mem := rfl

@[simp] theorem Chip.raise_regs (id : Nat) (l a : Word) : (c.raise id l a).regs = c.regs := rfl
@[simp] theorem Chip.raise_fresh (id : Nat) (l a : Word) : (c.raise id l a).fresh = c.fresh := rfl
@[simp] theorem Chip.raise_free (id : Nat) (l a : Word) : (c.raise id l a).free = c.free := rfl
@[simp] theorem Chip.raise_time (id : Nat) (l a : Word) : (c.raise id l a).time = c.time := rfl
@[simp] theorem Chip.raise_fold (id : Nat) (l a : Word) : (c.raise id l a).fold = c.fold := rfl
@[simp] theorem Chip.raise_eng (id : Nat) (l a : Word) : (c.raise id l a).eng = c.eng := rfl
@[simp] theorem Chip.raise_rot (id : Nat) (l a : Word) : (c.raise id l a).rot = c.rot := rfl
@[simp] theorem Chip.raise_pas (id : Nat) (l a : Word) : (c.raise id l a).pas = c.pas := rfl
@[simp] theorem Chip.raise_co (id : Nat) (l a : Word) : (c.raise id l a).co = c.co := rfl
@[simp] theorem Chip.raise_crook (id : Nat) (l a : Word) : (c.raise id l a).crook = c.crook := rfl
@[simp] theorem Chip.raise_guard (id : Nat) (l a : Word) : (c.raise id l a).guard = c.guard := rfl
@[simp] theorem Chip.raise_prt (id : Nat) (l a : Word) : (c.raise id l a).prt = c.prt := rfl
@[simp] theorem Chip.raise_bst (id : Nat) (l a : Word) : (c.raise id l a).bst = c.bst := rfl
@[simp] theorem Chip.raise_dma (id : Nat) (l a : Word) : (c.raise id l a).dma = c.dma := rfl
@[simp] theorem Chip.raise_rf (id : Nat) (l a : Word) : (c.raise id l a).rf = c.rf := rfl
@[simp] theorem Chip.raise_gn (id : Nat) (l a : Word) : (c.raise id l a).gn = c.gn := rfl
@[simp] theorem Chip.raise_lnk (id : Nat) (l a : Word) : (c.raise id l a).lnk = c.lnk := rfl
@[simp] theorem Chip.raise_shp (id : Nat) (l a : Word) : (c.raise id l a).shp = c.shp := rfl
@[simp] theorem Chip.raise_pwr (id : Nat) (l a : Word) : (c.raise id l a).pwr = c.pwr := rfl
@[simp] theorem Chip.raise_hif (id : Nat) (l a : Word) : (c.raise id l a).hif = c.hif := rfl
@[simp] theorem Chip.raise_bus (id : Nat) (l a : Word) : (c.raise id l a).bus = c.bus := rfl
@[simp] theorem Chip.raise_ret (id : Nat) (l a : Word) : (c.raise id l a).ret = c.ret := rfl
@[simp] theorem Chip.raise_mem (id : Nat) (l a : Word) : (c.raise id l a).mem = c.mem := rfl

@[simp] theorem Chip.restamp_regs (n : Nat) (t : Int) : (c.restamp n t).regs = c.regs := by unfold Chip.restamp; split <;> rfl
@[simp] theorem Chip.restamp_fresh (n : Nat) (t : Int) : (c.restamp n t).fresh = c.fresh := by unfold Chip.restamp; split <;> rfl
@[simp] theorem Chip.restamp_free (n : Nat) (t : Int) : (c.restamp n t).free = c.free := by unfold Chip.restamp; split <;> rfl
@[simp] theorem Chip.restamp_time (n : Nat) (t : Int) : (c.restamp n t).time = c.time := by unfold Chip.restamp; split <;> rfl
@[simp] theorem Chip.restamp_fold (n : Nat) (t : Int) : (c.restamp n t).fold = c.fold := by unfold Chip.restamp; split <;> rfl
@[simp] theorem Chip.restamp_eng (n : Nat) (t : Int) : (c.restamp n t).eng = c.eng := by unfold Chip.restamp; split <;> rfl
@[simp] theorem Chip.restamp_rot (n : Nat) (t : Int) : (c.restamp n t).rot = c.rot := by unfold Chip.restamp; split <;> rfl
@[simp] theorem Chip.restamp_pas (n : Nat) (t : Int) : (c.restamp n t).pas = c.pas := by unfold Chip.restamp; split <;> rfl
@[simp] theorem Chip.restamp_co (n : Nat) (t : Int) : (c.restamp n t).co = c.co := by unfold Chip.restamp; split <;> rfl
@[simp] theorem Chip.restamp_crook (n : Nat) (t : Int) : (c.restamp n t).crook = c.crook := by unfold Chip.restamp; split <;> rfl
@[simp] theorem Chip.restamp_guard (n : Nat) (t : Int) : (c.restamp n t).guard = c.guard := by unfold Chip.restamp; split <;> rfl
@[simp] theorem Chip.restamp_prt (n : Nat) (t : Int) : (c.restamp n t).prt = c.prt := by unfold Chip.restamp; split <;> rfl
@[simp] theorem Chip.restamp_bst (n : Nat) (t : Int) : (c.restamp n t).bst = c.bst := by unfold Chip.restamp; split <;> rfl
@[simp] theorem Chip.restamp_dma (n : Nat) (t : Int) : (c.restamp n t).dma = c.dma := by unfold Chip.restamp; split <;> rfl
@[simp] theorem Chip.restamp_rf (n : Nat) (t : Int) : (c.restamp n t).rf = c.rf := by unfold Chip.restamp; split <;> rfl
@[simp] theorem Chip.restamp_gn (n : Nat) (t : Int) : (c.restamp n t).gn = c.gn := by unfold Chip.restamp; split <;> rfl
@[simp] theorem Chip.restamp_lnk (n : Nat) (t : Int) : (c.restamp n t).lnk = c.lnk := by unfold Chip.restamp; split <;> rfl
@[simp] theorem Chip.restamp_shp (n : Nat) (t : Int) : (c.restamp n t).shp = c.shp := by unfold Chip.restamp; split <;> rfl
@[simp] theorem Chip.restamp_pwr (n : Nat) (t : Int) : (c.restamp n t).pwr = c.pwr := by unfold Chip.restamp; split <;> rfl
@[simp] theorem Chip.restamp_hif (n : Nat) (t : Int) : (c.restamp n t).hif = c.hif := by unfold Chip.restamp; split <;> rfl
@[simp] theorem Chip.restamp_bus (n : Nat) (t : Int) : (c.restamp n t).bus = c.bus := by unfold Chip.restamp; split <;> rfl
@[simp] theorem Chip.restamp_ret (n : Nat) (t : Int) : (c.restamp n t).ret = c.ret := by unfold Chip.restamp; split <;> rfl
@[simp] theorem Chip.restamp_mem (n : Nat) (t : Int) : (c.restamp n t).mem = c.mem := by unfold Chip.restamp; split <;> rfl

@[simp] theorem Chip.levelOn_regs (id : Nat) (l a : Word) : (c.levelOn id l a).regs = c.regs := by unfold Chip.levelOn; split <;> rfl
@[simp] theorem Chip.levelOn_fresh (id : Nat) (l a : Word) : (c.levelOn id l a).fresh = c.fresh := by unfold Chip.levelOn; split <;> rfl
@[simp] theorem Chip.levelOn_free (id : Nat) (l a : Word) : (c.levelOn id l a).free = c.free := by unfold Chip.levelOn; split <;> rfl
@[simp] theorem Chip.levelOn_time (id : Nat) (l a : Word) : (c.levelOn id l a).time = c.time := by unfold Chip.levelOn; split <;> rfl
@[simp] theorem Chip.levelOn_fold (id : Nat) (l a : Word) : (c.levelOn id l a).fold = c.fold := by unfold Chip.levelOn; split <;> rfl
@[simp] theorem Chip.levelOn_eng (id : Nat) (l a : Word) : (c.levelOn id l a).eng = c.eng := by unfold Chip.levelOn; split <;> rfl
@[simp] theorem Chip.levelOn_rot (id : Nat) (l a : Word) : (c.levelOn id l a).rot = c.rot := by unfold Chip.levelOn; split <;> rfl
@[simp] theorem Chip.levelOn_pas (id : Nat) (l a : Word) : (c.levelOn id l a).pas = c.pas := by unfold Chip.levelOn; split <;> rfl
@[simp] theorem Chip.levelOn_co (id : Nat) (l a : Word) : (c.levelOn id l a).co = c.co := by unfold Chip.levelOn; split <;> rfl
@[simp] theorem Chip.levelOn_crook (id : Nat) (l a : Word) : (c.levelOn id l a).crook = c.crook := by unfold Chip.levelOn; split <;> rfl
@[simp] theorem Chip.levelOn_guard (id : Nat) (l a : Word) : (c.levelOn id l a).guard = c.guard := by unfold Chip.levelOn; split <;> rfl
@[simp] theorem Chip.levelOn_prt (id : Nat) (l a : Word) : (c.levelOn id l a).prt = c.prt := by unfold Chip.levelOn; split <;> rfl
@[simp] theorem Chip.levelOn_bst (id : Nat) (l a : Word) : (c.levelOn id l a).bst = c.bst := by unfold Chip.levelOn; split <;> rfl
@[simp] theorem Chip.levelOn_dma (id : Nat) (l a : Word) : (c.levelOn id l a).dma = c.dma := by unfold Chip.levelOn; split <;> rfl
@[simp] theorem Chip.levelOn_rf (id : Nat) (l a : Word) : (c.levelOn id l a).rf = c.rf := by unfold Chip.levelOn; split <;> rfl
@[simp] theorem Chip.levelOn_gn (id : Nat) (l a : Word) : (c.levelOn id l a).gn = c.gn := by unfold Chip.levelOn; split <;> rfl
@[simp] theorem Chip.levelOn_lnk (id : Nat) (l a : Word) : (c.levelOn id l a).lnk = c.lnk := by unfold Chip.levelOn; split <;> rfl
@[simp] theorem Chip.levelOn_shp (id : Nat) (l a : Word) : (c.levelOn id l a).shp = c.shp := by unfold Chip.levelOn; split <;> rfl
@[simp] theorem Chip.levelOn_pwr (id : Nat) (l a : Word) : (c.levelOn id l a).pwr = c.pwr := by unfold Chip.levelOn; split <;> rfl
@[simp] theorem Chip.levelOn_hif (id : Nat) (l a : Word) : (c.levelOn id l a).hif = c.hif := by unfold Chip.levelOn; split <;> rfl
@[simp] theorem Chip.levelOn_bus (id : Nat) (l a : Word) : (c.levelOn id l a).bus = c.bus := by unfold Chip.levelOn; split <;> rfl
@[simp] theorem Chip.levelOn_ret (id : Nat) (l a : Word) : (c.levelOn id l a).ret = c.ret := by unfold Chip.levelOn; split <;> rfl
@[simp] theorem Chip.levelOn_mem (id : Nat) (l a : Word) : (c.levelOn id l a).mem = c.mem := by unfold Chip.levelOn; split <;> rfl

@[simp] theorem Chip.levelOff_regs (id : Nat) (l : Word) : (c.levelOff id l).regs = c.regs := by unfold Chip.levelOff; split <;> rfl
@[simp] theorem Chip.levelOff_fresh (id : Nat) (l : Word) : (c.levelOff id l).fresh = c.fresh := by unfold Chip.levelOff; split <;> rfl
@[simp] theorem Chip.levelOff_free (id : Nat) (l : Word) : (c.levelOff id l).free = c.free := by unfold Chip.levelOff; split <;> rfl
@[simp] theorem Chip.levelOff_time (id : Nat) (l : Word) : (c.levelOff id l).time = c.time := by unfold Chip.levelOff; split <;> rfl
@[simp] theorem Chip.levelOff_fold (id : Nat) (l : Word) : (c.levelOff id l).fold = c.fold := by unfold Chip.levelOff; split <;> rfl
@[simp] theorem Chip.levelOff_eng (id : Nat) (l : Word) : (c.levelOff id l).eng = c.eng := by unfold Chip.levelOff; split <;> rfl
@[simp] theorem Chip.levelOff_rot (id : Nat) (l : Word) : (c.levelOff id l).rot = c.rot := by unfold Chip.levelOff; split <;> rfl
@[simp] theorem Chip.levelOff_pas (id : Nat) (l : Word) : (c.levelOff id l).pas = c.pas := by unfold Chip.levelOff; split <;> rfl
@[simp] theorem Chip.levelOff_co (id : Nat) (l : Word) : (c.levelOff id l).co = c.co := by unfold Chip.levelOff; split <;> rfl
@[simp] theorem Chip.levelOff_crook (id : Nat) (l : Word) : (c.levelOff id l).crook = c.crook := by unfold Chip.levelOff; split <;> rfl
@[simp] theorem Chip.levelOff_guard (id : Nat) (l : Word) : (c.levelOff id l).guard = c.guard := by unfold Chip.levelOff; split <;> rfl
@[simp] theorem Chip.levelOff_prt (id : Nat) (l : Word) : (c.levelOff id l).prt = c.prt := by unfold Chip.levelOff; split <;> rfl
@[simp] theorem Chip.levelOff_bst (id : Nat) (l : Word) : (c.levelOff id l).bst = c.bst := by unfold Chip.levelOff; split <;> rfl
@[simp] theorem Chip.levelOff_dma (id : Nat) (l : Word) : (c.levelOff id l).dma = c.dma := by unfold Chip.levelOff; split <;> rfl
@[simp] theorem Chip.levelOff_rf (id : Nat) (l : Word) : (c.levelOff id l).rf = c.rf := by unfold Chip.levelOff; split <;> rfl
@[simp] theorem Chip.levelOff_gn (id : Nat) (l : Word) : (c.levelOff id l).gn = c.gn := by unfold Chip.levelOff; split <;> rfl
@[simp] theorem Chip.levelOff_lnk (id : Nat) (l : Word) : (c.levelOff id l).lnk = c.lnk := by unfold Chip.levelOff; split <;> rfl
@[simp] theorem Chip.levelOff_shp (id : Nat) (l : Word) : (c.levelOff id l).shp = c.shp := by unfold Chip.levelOff; split <;> rfl
@[simp] theorem Chip.levelOff_pwr (id : Nat) (l : Word) : (c.levelOff id l).pwr = c.pwr := by unfold Chip.levelOff; split <;> rfl
@[simp] theorem Chip.levelOff_hif (id : Nat) (l : Word) : (c.levelOff id l).hif = c.hif := by unfold Chip.levelOff; split <;> rfl
@[simp] theorem Chip.levelOff_bus (id : Nat) (l : Word) : (c.levelOff id l).bus = c.bus := by unfold Chip.levelOff; split <;> rfl
@[simp] theorem Chip.levelOff_ret (id : Nat) (l : Word) : (c.levelOff id l).ret = c.ret := by unfold Chip.levelOff; split <;> rfl
@[simp] theorem Chip.levelOff_mem (id : Nat) (l : Word) : (c.levelOff id l).mem = c.mem := by unfold Chip.levelOff; split <;> rfl

@[simp] theorem Chip.setEngine_regs (n : Nat) (e : Eng) : (c.setEngine n e).regs = c.regs := rfl
@[simp] theorem Chip.setEngine_fresh (n : Nat) (e : Eng) : (c.setEngine n e).fresh = c.fresh := rfl
@[simp] theorem Chip.setEngine_free (n : Nat) (e : Eng) : (c.setEngine n e).free = c.free := rfl
@[simp] theorem Chip.setEngine_time (n : Nat) (e : Eng) : (c.setEngine n e).time = c.time := rfl
@[simp] theorem Chip.setEngine_evt (n : Nat) (e : Eng) : (c.setEngine n e).evt = c.evt := rfl
@[simp] theorem Chip.setEngine_fold (n : Nat) (e : Eng) : (c.setEngine n e).fold = c.fold := rfl
@[simp] theorem Chip.setEngine_rot (n : Nat) (e : Eng) : (c.setEngine n e).rot = c.rot := rfl
@[simp] theorem Chip.setEngine_pas (n : Nat) (e : Eng) : (c.setEngine n e).pas = c.pas := rfl
@[simp] theorem Chip.setEngine_co (n : Nat) (e : Eng) : (c.setEngine n e).co = c.co := rfl
@[simp] theorem Chip.setEngine_crook (n : Nat) (e : Eng) : (c.setEngine n e).crook = c.crook := rfl
@[simp] theorem Chip.setEngine_guard (n : Nat) (e : Eng) : (c.setEngine n e).guard = c.guard := rfl
@[simp] theorem Chip.setEngine_prt (n : Nat) (e : Eng) : (c.setEngine n e).prt = c.prt := rfl
@[simp] theorem Chip.setEngine_bst (n : Nat) (e : Eng) : (c.setEngine n e).bst = c.bst := rfl
@[simp] theorem Chip.setEngine_dma (n : Nat) (e : Eng) : (c.setEngine n e).dma = c.dma := rfl
@[simp] theorem Chip.setEngine_rf (n : Nat) (e : Eng) : (c.setEngine n e).rf = c.rf := rfl
@[simp] theorem Chip.setEngine_gn (n : Nat) (e : Eng) : (c.setEngine n e).gn = c.gn := rfl
@[simp] theorem Chip.setEngine_lnk (n : Nat) (e : Eng) : (c.setEngine n e).lnk = c.lnk := rfl
@[simp] theorem Chip.setEngine_shp (n : Nat) (e : Eng) : (c.setEngine n e).shp = c.shp := rfl
@[simp] theorem Chip.setEngine_pwr (n : Nat) (e : Eng) : (c.setEngine n e).pwr = c.pwr := rfl
@[simp] theorem Chip.setEngine_hif (n : Nat) (e : Eng) : (c.setEngine n e).hif = c.hif := rfl
@[simp] theorem Chip.setEngine_bus (n : Nat) (e : Eng) : (c.setEngine n e).bus = c.bus := rfl
@[simp] theorem Chip.setEngine_ret (n : Nat) (e : Eng) : (c.setEngine n e).ret = c.ret := rfl
@[simp] theorem Chip.setEngine_mem (n : Nat) (e : Eng) : (c.setEngine n e).mem = c.mem := rfl

@[simp] theorem Chip.setNow_regs (n : Nat) : (c.setNow n).regs = c.regs := rfl
@[simp] theorem Chip.setNow_fresh (n : Nat) : (c.setNow n).fresh = c.fresh := rfl
@[simp] theorem Chip.setNow_free (n : Nat) : (c.setNow n).free = c.free := rfl
@[simp] theorem Chip.setNow_evt (n : Nat) : (c.setNow n).evt = c.evt := rfl
@[simp] theorem Chip.setNow_fold (n : Nat) : (c.setNow n).fold = c.fold := rfl
@[simp] theorem Chip.setNow_eng (n : Nat) : (c.setNow n).eng = c.eng := rfl
@[simp] theorem Chip.setNow_rot (n : Nat) : (c.setNow n).rot = c.rot := rfl
@[simp] theorem Chip.setNow_pas (n : Nat) : (c.setNow n).pas = c.pas := rfl
@[simp] theorem Chip.setNow_co (n : Nat) : (c.setNow n).co = c.co := rfl
@[simp] theorem Chip.setNow_crook (n : Nat) : (c.setNow n).crook = c.crook := rfl
@[simp] theorem Chip.setNow_guard (n : Nat) : (c.setNow n).guard = c.guard := rfl
@[simp] theorem Chip.setNow_prt (n : Nat) : (c.setNow n).prt = c.prt := rfl
@[simp] theorem Chip.setNow_bst (n : Nat) : (c.setNow n).bst = c.bst := rfl
@[simp] theorem Chip.setNow_dma (n : Nat) : (c.setNow n).dma = c.dma := rfl
@[simp] theorem Chip.setNow_rf (n : Nat) : (c.setNow n).rf = c.rf := rfl
@[simp] theorem Chip.setNow_gn (n : Nat) : (c.setNow n).gn = c.gn := rfl
@[simp] theorem Chip.setNow_lnk (n : Nat) : (c.setNow n).lnk = c.lnk := rfl
@[simp] theorem Chip.setNow_shp (n : Nat) : (c.setNow n).shp = c.shp := rfl
@[simp] theorem Chip.setNow_pwr (n : Nat) : (c.setNow n).pwr = c.pwr := rfl
@[simp] theorem Chip.setNow_hif (n : Nat) : (c.setNow n).hif = c.hif := rfl
@[simp] theorem Chip.setNow_bus (n : Nat) : (c.setNow n).bus = c.bus := rfl
@[simp] theorem Chip.setNow_ret (n : Nat) : (c.setNow n).ret = c.ret := rfl
@[simp] theorem Chip.setNow_mem (n : Nat) : (c.setNow n).mem = c.mem := rfl

@[simp] theorem Chip.setRf_regs (f : RfSt → RfSt) : (c.setRf f).regs = c.regs := rfl
@[simp] theorem Chip.setRf_fresh (f : RfSt → RfSt) : (c.setRf f).fresh = c.fresh := rfl
@[simp] theorem Chip.setRf_free (f : RfSt → RfSt) : (c.setRf f).free = c.free := rfl
@[simp] theorem Chip.setRf_time (f : RfSt → RfSt) : (c.setRf f).time = c.time := rfl
@[simp] theorem Chip.setRf_evt (f : RfSt → RfSt) : (c.setRf f).evt = c.evt := rfl
@[simp] theorem Chip.setRf_fold (f : RfSt → RfSt) : (c.setRf f).fold = c.fold := rfl
@[simp] theorem Chip.setRf_eng (f : RfSt → RfSt) : (c.setRf f).eng = c.eng := rfl
@[simp] theorem Chip.setRf_rot (f : RfSt → RfSt) : (c.setRf f).rot = c.rot := rfl
@[simp] theorem Chip.setRf_pas (f : RfSt → RfSt) : (c.setRf f).pas = c.pas := rfl
@[simp] theorem Chip.setRf_co (f : RfSt → RfSt) : (c.setRf f).co = c.co := rfl
@[simp] theorem Chip.setRf_crook (f : RfSt → RfSt) : (c.setRf f).crook = c.crook := rfl
@[simp] theorem Chip.setRf_guard (f : RfSt → RfSt) : (c.setRf f).guard = c.guard := rfl
@[simp] theorem Chip.setRf_prt (f : RfSt → RfSt) : (c.setRf f).prt = c.prt := rfl
@[simp] theorem Chip.setRf_bst (f : RfSt → RfSt) : (c.setRf f).bst = c.bst := rfl
@[simp] theorem Chip.setRf_dma (f : RfSt → RfSt) : (c.setRf f).dma = c.dma := rfl
@[simp] theorem Chip.setRf_gn (f : RfSt → RfSt) : (c.setRf f).gn = c.gn := rfl
@[simp] theorem Chip.setRf_lnk (f : RfSt → RfSt) : (c.setRf f).lnk = c.lnk := rfl
@[simp] theorem Chip.setRf_shp (f : RfSt → RfSt) : (c.setRf f).shp = c.shp := rfl
@[simp] theorem Chip.setRf_pwr (f : RfSt → RfSt) : (c.setRf f).pwr = c.pwr := rfl
@[simp] theorem Chip.setRf_hif (f : RfSt → RfSt) : (c.setRf f).hif = c.hif := rfl
@[simp] theorem Chip.setRf_bus (f : RfSt → RfSt) : (c.setRf f).bus = c.bus := rfl
@[simp] theorem Chip.setRf_ret (f : RfSt → RfSt) : (c.setRf f).ret = c.ret := rfl
@[simp] theorem Chip.setRf_mem (f : RfSt → RfSt) : (c.setRf f).mem = c.mem := rfl

@[simp] theorem Chip.setRf_rf (f : RfSt → RfSt) : (c.setRf f).rf = f c.rf := rfl

@[simp] theorem Chip.setPas_regs (f : PasSt → PasSt) : (c.setPas f).regs = c.regs := rfl
@[simp] theorem Chip.setPas_fresh (f : PasSt → PasSt) : (c.setPas f).fresh = c.fresh := rfl
@[simp] theorem Chip.setPas_free (f : PasSt → PasSt) : (c.setPas f).free = c.free := rfl
@[simp] theorem Chip.setPas_time (f : PasSt → PasSt) : (c.setPas f).time = c.time := rfl
@[simp] theorem Chip.setPas_evt (f : PasSt → PasSt) : (c.setPas f).evt = c.evt := rfl
@[simp] theorem Chip.setPas_fold (f : PasSt → PasSt) : (c.setPas f).fold = c.fold := rfl
@[simp] theorem Chip.setPas_eng (f : PasSt → PasSt) : (c.setPas f).eng = c.eng := rfl
@[simp] theorem Chip.setPas_rot (f : PasSt → PasSt) : (c.setPas f).rot = c.rot := rfl
@[simp] theorem Chip.setPas_co (f : PasSt → PasSt) : (c.setPas f).co = c.co := rfl
@[simp] theorem Chip.setPas_crook (f : PasSt → PasSt) : (c.setPas f).crook = c.crook := rfl
@[simp] theorem Chip.setPas_guard (f : PasSt → PasSt) : (c.setPas f).guard = c.guard := rfl
@[simp] theorem Chip.setPas_prt (f : PasSt → PasSt) : (c.setPas f).prt = c.prt := rfl
@[simp] theorem Chip.setPas_bst (f : PasSt → PasSt) : (c.setPas f).bst = c.bst := rfl
@[simp] theorem Chip.setPas_dma (f : PasSt → PasSt) : (c.setPas f).dma = c.dma := rfl
@[simp] theorem Chip.setPas_rf (f : PasSt → PasSt) : (c.setPas f).rf = c.rf := rfl
@[simp] theorem Chip.setPas_gn (f : PasSt → PasSt) : (c.setPas f).gn = c.gn := rfl
@[simp] theorem Chip.setPas_lnk (f : PasSt → PasSt) : (c.setPas f).lnk = c.lnk := rfl
@[simp] theorem Chip.setPas_shp (f : PasSt → PasSt) : (c.setPas f).shp = c.shp := rfl
@[simp] theorem Chip.setPas_pwr (f : PasSt → PasSt) : (c.setPas f).pwr = c.pwr := rfl
@[simp] theorem Chip.setPas_hif (f : PasSt → PasSt) : (c.setPas f).hif = c.hif := rfl
@[simp] theorem Chip.setPas_bus (f : PasSt → PasSt) : (c.setPas f).bus = c.bus := rfl
@[simp] theorem Chip.setPas_ret (f : PasSt → PasSt) : (c.setPas f).ret = c.ret := rfl
@[simp] theorem Chip.setPas_mem (f : PasSt → PasSt) : (c.setPas f).mem = c.mem := rfl

@[simp] theorem Chip.setPas_pas (f : PasSt → PasSt) : (c.setPas f).pas = f c.pas := rfl

@[simp] theorem Chip.setCo_regs (f : CoSt → CoSt) : (c.setCo f).regs = c.regs := rfl
@[simp] theorem Chip.setCo_fresh (f : CoSt → CoSt) : (c.setCo f).fresh = c.fresh := rfl
@[simp] theorem Chip.setCo_free (f : CoSt → CoSt) : (c.setCo f).free = c.free := rfl
@[simp] theorem Chip.setCo_time (f : CoSt → CoSt) : (c.setCo f).time = c.time := rfl
@[simp] theorem Chip.setCo_evt (f : CoSt → CoSt) : (c.setCo f).evt = c.evt := rfl
@[simp] theorem Chip.setCo_fold (f : CoSt → CoSt) : (c.setCo f).fold = c.fold := rfl
@[simp] theorem Chip.setCo_eng (f : CoSt → CoSt) : (c.setCo f).eng = c.eng := rfl
@[simp] theorem Chip.setCo_rot (f : CoSt → CoSt) : (c.setCo f).rot = c.rot := rfl
@[simp] theorem Chip.setCo_pas (f : CoSt → CoSt) : (c.setCo f).pas = c.pas := rfl
@[simp] theorem Chip.setCo_crook (f : CoSt → CoSt) : (c.setCo f).crook = c.crook := rfl
@[simp] theorem Chip.setCo_guard (f : CoSt → CoSt) : (c.setCo f).guard = c.guard := rfl
@[simp] theorem Chip.setCo_prt (f : CoSt → CoSt) : (c.setCo f).prt = c.prt := rfl
@[simp] theorem Chip.setCo_bst (f : CoSt → CoSt) : (c.setCo f).bst = c.bst := rfl
@[simp] theorem Chip.setCo_dma (f : CoSt → CoSt) : (c.setCo f).dma = c.dma := rfl
@[simp] theorem Chip.setCo_rf (f : CoSt → CoSt) : (c.setCo f).rf = c.rf := rfl
@[simp] theorem Chip.setCo_gn (f : CoSt → CoSt) : (c.setCo f).gn = c.gn := rfl
@[simp] theorem Chip.setCo_lnk (f : CoSt → CoSt) : (c.setCo f).lnk = c.lnk := rfl
@[simp] theorem Chip.setCo_shp (f : CoSt → CoSt) : (c.setCo f).shp = c.shp := rfl
@[simp] theorem Chip.setCo_pwr (f : CoSt → CoSt) : (c.setCo f).pwr = c.pwr := rfl
@[simp] theorem Chip.setCo_hif (f : CoSt → CoSt) : (c.setCo f).hif = c.hif := rfl
@[simp] theorem Chip.setCo_bus (f : CoSt → CoSt) : (c.setCo f).bus = c.bus := rfl
@[simp] theorem Chip.setCo_ret (f : CoSt → CoSt) : (c.setCo f).ret = c.ret := rfl
@[simp] theorem Chip.setCo_mem (f : CoSt → CoSt) : (c.setCo f).mem = c.mem := rfl

@[simp] theorem Chip.setCo_co (f : CoSt → CoSt) : (c.setCo f).co = f c.co := rfl

@[simp] theorem Chip.setLnk_regs (f : LnkSt → LnkSt) : (c.setLnk f).regs = c.regs := rfl
@[simp] theorem Chip.setLnk_fresh (f : LnkSt → LnkSt) : (c.setLnk f).fresh = c.fresh := rfl
@[simp] theorem Chip.setLnk_free (f : LnkSt → LnkSt) : (c.setLnk f).free = c.free := rfl
@[simp] theorem Chip.setLnk_time (f : LnkSt → LnkSt) : (c.setLnk f).time = c.time := rfl
@[simp] theorem Chip.setLnk_evt (f : LnkSt → LnkSt) : (c.setLnk f).evt = c.evt := rfl
@[simp] theorem Chip.setLnk_fold (f : LnkSt → LnkSt) : (c.setLnk f).fold = c.fold := rfl
@[simp] theorem Chip.setLnk_eng (f : LnkSt → LnkSt) : (c.setLnk f).eng = c.eng := rfl
@[simp] theorem Chip.setLnk_rot (f : LnkSt → LnkSt) : (c.setLnk f).rot = c.rot := rfl
@[simp] theorem Chip.setLnk_pas (f : LnkSt → LnkSt) : (c.setLnk f).pas = c.pas := rfl
@[simp] theorem Chip.setLnk_co (f : LnkSt → LnkSt) : (c.setLnk f).co = c.co := rfl
@[simp] theorem Chip.setLnk_crook (f : LnkSt → LnkSt) : (c.setLnk f).crook = c.crook := rfl
@[simp] theorem Chip.setLnk_guard (f : LnkSt → LnkSt) : (c.setLnk f).guard = c.guard := rfl
@[simp] theorem Chip.setLnk_prt (f : LnkSt → LnkSt) : (c.setLnk f).prt = c.prt := rfl
@[simp] theorem Chip.setLnk_bst (f : LnkSt → LnkSt) : (c.setLnk f).bst = c.bst := rfl
@[simp] theorem Chip.setLnk_dma (f : LnkSt → LnkSt) : (c.setLnk f).dma = c.dma := rfl
@[simp] theorem Chip.setLnk_rf (f : LnkSt → LnkSt) : (c.setLnk f).rf = c.rf := rfl
@[simp] theorem Chip.setLnk_gn (f : LnkSt → LnkSt) : (c.setLnk f).gn = c.gn := rfl
@[simp] theorem Chip.setLnk_shp (f : LnkSt → LnkSt) : (c.setLnk f).shp = c.shp := rfl
@[simp] theorem Chip.setLnk_pwr (f : LnkSt → LnkSt) : (c.setLnk f).pwr = c.pwr := rfl
@[simp] theorem Chip.setLnk_hif (f : LnkSt → LnkSt) : (c.setLnk f).hif = c.hif := rfl
@[simp] theorem Chip.setLnk_bus (f : LnkSt → LnkSt) : (c.setLnk f).bus = c.bus := rfl
@[simp] theorem Chip.setLnk_ret (f : LnkSt → LnkSt) : (c.setLnk f).ret = c.ret := rfl
@[simp] theorem Chip.setLnk_mem (f : LnkSt → LnkSt) : (c.setLnk f).mem = c.mem := rfl

@[simp] theorem Chip.setLnk_lnk (f : LnkSt → LnkSt) : (c.setLnk f).lnk = f c.lnk := rfl

@[simp] theorem Chip.setShp_regs (f : ShpSt → ShpSt) : (c.setShp f).regs = c.regs := rfl
@[simp] theorem Chip.setShp_fresh (f : ShpSt → ShpSt) : (c.setShp f).fresh = c.fresh := rfl
@[simp] theorem Chip.setShp_free (f : ShpSt → ShpSt) : (c.setShp f).free = c.free := rfl
@[simp] theorem Chip.setShp_time (f : ShpSt → ShpSt) : (c.setShp f).time = c.time := rfl
@[simp] theorem Chip.setShp_evt (f : ShpSt → ShpSt) : (c.setShp f).evt = c.evt := rfl
@[simp] theorem Chip.setShp_fold (f : ShpSt → ShpSt) : (c.setShp f).fold = c.fold := rfl
@[simp] theorem Chip.setShp_eng (f : ShpSt → ShpSt) : (c.setShp f).eng = c.eng := rfl
@[simp] theorem Chip.setShp_rot (f : ShpSt → ShpSt) : (c.setShp f).rot = c.rot := rfl
@[simp] theorem Chip.setShp_pas (f : ShpSt → ShpSt) : (c.setShp f).pas = c.pas := rfl
@[simp] theorem Chip.setShp_co (f : ShpSt → ShpSt) : (c.setShp f).co = c.co := rfl
@[simp] theorem Chip.setShp_crook (f : ShpSt → ShpSt) : (c.setShp f).crook = c.crook := rfl
@[simp] theorem Chip.setShp_guard (f : ShpSt → ShpSt) : (c.setShp f).guard = c.guard := rfl
@[simp] theorem Chip.setShp_prt (f : ShpSt → ShpSt) : (c.setShp f).prt = c.prt := rfl
@[simp] theorem Chip.setShp_bst (f : ShpSt → ShpSt) : (c.setShp f).bst = c.bst := rfl
@[simp] theorem Chip.setShp_dma (f : ShpSt → ShpSt) : (c.setShp f).dma = c.dma := rfl
@[simp] theorem Chip.setShp_rf (f : ShpSt → ShpSt) : (c.setShp f).rf = c.rf := rfl
@[simp] theorem Chip.setShp_gn (f : ShpSt → ShpSt) : (c.setShp f).gn = c.gn := rfl
@[simp] theorem Chip.setShp_lnk (f : ShpSt → ShpSt) : (c.setShp f).lnk = c.lnk := rfl
@[simp] theorem Chip.setShp_pwr (f : ShpSt → ShpSt) : (c.setShp f).pwr = c.pwr := rfl
@[simp] theorem Chip.setShp_hif (f : ShpSt → ShpSt) : (c.setShp f).hif = c.hif := rfl
@[simp] theorem Chip.setShp_bus (f : ShpSt → ShpSt) : (c.setShp f).bus = c.bus := rfl
@[simp] theorem Chip.setShp_ret (f : ShpSt → ShpSt) : (c.setShp f).ret = c.ret := rfl
@[simp] theorem Chip.setShp_mem (f : ShpSt → ShpSt) : (c.setShp f).mem = c.mem := rfl

@[simp] theorem Chip.setShp_shp (f : ShpSt → ShpSt) : (c.setShp f).shp = f c.shp := rfl

@[simp] theorem Chip.setPwr_regs (f : PwrSt → PwrSt) : (c.setPwr f).regs = c.regs := rfl
@[simp] theorem Chip.setPwr_fresh (f : PwrSt → PwrSt) : (c.setPwr f).fresh = c.fresh := rfl
@[simp] theorem Chip.setPwr_free (f : PwrSt → PwrSt) : (c.setPwr f).free = c.free := rfl
@[simp] theorem Chip.setPwr_time (f : PwrSt → PwrSt) : (c.setPwr f).time = c.time := rfl
@[simp] theorem Chip.setPwr_evt (f : PwrSt → PwrSt) : (c.setPwr f).evt = c.evt := rfl
@[simp] theorem Chip.setPwr_fold (f : PwrSt → PwrSt) : (c.setPwr f).fold = c.fold := rfl
@[simp] theorem Chip.setPwr_eng (f : PwrSt → PwrSt) : (c.setPwr f).eng = c.eng := rfl
@[simp] theorem Chip.setPwr_rot (f : PwrSt → PwrSt) : (c.setPwr f).rot = c.rot := rfl
@[simp] theorem Chip.setPwr_pas (f : PwrSt → PwrSt) : (c.setPwr f).pas = c.pas := rfl
@[simp] theorem Chip.setPwr_co (f : PwrSt → PwrSt) : (c.setPwr f).co = c.co := rfl
@[simp] theorem Chip.setPwr_crook (f : PwrSt → PwrSt) : (c.setPwr f).crook = c.crook := rfl
@[simp] theorem Chip.setPwr_guard (f : PwrSt → PwrSt) : (c.setPwr f).guard = c.guard := rfl
@[simp] theorem Chip.setPwr_prt (f : PwrSt → PwrSt) : (c.setPwr f).prt = c.prt := rfl
@[simp] theorem Chip.setPwr_bst (f : PwrSt → PwrSt) : (c.setPwr f).bst = c.bst := rfl
@[simp] theorem Chip.setPwr_dma (f : PwrSt → PwrSt) : (c.setPwr f).dma = c.dma := rfl
@[simp] theorem Chip.setPwr_rf (f : PwrSt → PwrSt) : (c.setPwr f).rf = c.rf := rfl
@[simp] theorem Chip.setPwr_gn (f : PwrSt → PwrSt) : (c.setPwr f).gn = c.gn := rfl
@[simp] theorem Chip.setPwr_lnk (f : PwrSt → PwrSt) : (c.setPwr f).lnk = c.lnk := rfl
@[simp] theorem Chip.setPwr_shp (f : PwrSt → PwrSt) : (c.setPwr f).shp = c.shp := rfl
@[simp] theorem Chip.setPwr_hif (f : PwrSt → PwrSt) : (c.setPwr f).hif = c.hif := rfl
@[simp] theorem Chip.setPwr_bus (f : PwrSt → PwrSt) : (c.setPwr f).bus = c.bus := rfl
@[simp] theorem Chip.setPwr_ret (f : PwrSt → PwrSt) : (c.setPwr f).ret = c.ret := rfl
@[simp] theorem Chip.setPwr_mem (f : PwrSt → PwrSt) : (c.setPwr f).mem = c.mem := rfl

@[simp] theorem Chip.setPwr_pwr (f : PwrSt → PwrSt) : (c.setPwr f).pwr = f c.pwr := rfl

@[simp] theorem Chip.setHif_regs (f : HifSt → HifSt) : (c.setHif f).regs = c.regs := rfl
@[simp] theorem Chip.setHif_fresh (f : HifSt → HifSt) : (c.setHif f).fresh = c.fresh := rfl
@[simp] theorem Chip.setHif_free (f : HifSt → HifSt) : (c.setHif f).free = c.free := rfl
@[simp] theorem Chip.setHif_time (f : HifSt → HifSt) : (c.setHif f).time = c.time := rfl
@[simp] theorem Chip.setHif_evt (f : HifSt → HifSt) : (c.setHif f).evt = c.evt := rfl
@[simp] theorem Chip.setHif_fold (f : HifSt → HifSt) : (c.setHif f).fold = c.fold := rfl
@[simp] theorem Chip.setHif_eng (f : HifSt → HifSt) : (c.setHif f).eng = c.eng := rfl
@[simp] theorem Chip.setHif_rot (f : HifSt → HifSt) : (c.setHif f).rot = c.rot := rfl
@[simp] theorem Chip.setHif_pas (f : HifSt → HifSt) : (c.setHif f).pas = c.pas := rfl
@[simp] theorem Chip.setHif_co (f : HifSt → HifSt) : (c.setHif f).co = c.co := rfl
@[simp] theorem Chip.setHif_crook (f : HifSt → HifSt) : (c.setHif f).crook = c.crook := rfl
@[simp] theorem Chip.setHif_guard (f : HifSt → HifSt) : (c.setHif f).guard = c.guard := rfl
@[simp] theorem Chip.setHif_prt (f : HifSt → HifSt) : (c.setHif f).prt = c.prt := rfl
@[simp] theorem Chip.setHif_bst (f : HifSt → HifSt) : (c.setHif f).bst = c.bst := rfl
@[simp] theorem Chip.setHif_dma (f : HifSt → HifSt) : (c.setHif f).dma = c.dma := rfl
@[simp] theorem Chip.setHif_rf (f : HifSt → HifSt) : (c.setHif f).rf = c.rf := rfl
@[simp] theorem Chip.setHif_gn (f : HifSt → HifSt) : (c.setHif f).gn = c.gn := rfl
@[simp] theorem Chip.setHif_lnk (f : HifSt → HifSt) : (c.setHif f).lnk = c.lnk := rfl
@[simp] theorem Chip.setHif_shp (f : HifSt → HifSt) : (c.setHif f).shp = c.shp := rfl
@[simp] theorem Chip.setHif_pwr (f : HifSt → HifSt) : (c.setHif f).pwr = c.pwr := rfl
@[simp] theorem Chip.setHif_bus (f : HifSt → HifSt) : (c.setHif f).bus = c.bus := rfl
@[simp] theorem Chip.setHif_ret (f : HifSt → HifSt) : (c.setHif f).ret = c.ret := rfl
@[simp] theorem Chip.setHif_mem (f : HifSt → HifSt) : (c.setHif f).mem = c.mem := rfl

@[simp] theorem Chip.setHif_hif (f : HifSt → HifSt) : (c.setHif f).hif = f c.hif := rfl

@[simp] theorem Chip.setBst_regs (f : BstSt → BstSt) : (c.setBst f).regs = c.regs := rfl
@[simp] theorem Chip.setBst_fresh (f : BstSt → BstSt) : (c.setBst f).fresh = c.fresh := rfl
@[simp] theorem Chip.setBst_free (f : BstSt → BstSt) : (c.setBst f).free = c.free := rfl
@[simp] theorem Chip.setBst_time (f : BstSt → BstSt) : (c.setBst f).time = c.time := rfl
@[simp] theorem Chip.setBst_evt (f : BstSt → BstSt) : (c.setBst f).evt = c.evt := rfl
@[simp] theorem Chip.setBst_fold (f : BstSt → BstSt) : (c.setBst f).fold = c.fold := rfl
@[simp] theorem Chip.setBst_eng (f : BstSt → BstSt) : (c.setBst f).eng = c.eng := rfl
@[simp] theorem Chip.setBst_rot (f : BstSt → BstSt) : (c.setBst f).rot = c.rot := rfl
@[simp] theorem Chip.setBst_pas (f : BstSt → BstSt) : (c.setBst f).pas = c.pas := rfl
@[simp] theorem Chip.setBst_co (f : BstSt → BstSt) : (c.setBst f).co = c.co := rfl
@[simp] theorem Chip.setBst_crook (f : BstSt → BstSt) : (c.setBst f).crook = c.crook := rfl
@[simp] theorem Chip.setBst_guard (f : BstSt → BstSt) : (c.setBst f).guard = c.guard := rfl
@[simp] theorem Chip.setBst_prt (f : BstSt → BstSt) : (c.setBst f).prt = c.prt := rfl
@[simp] theorem Chip.setBst_dma (f : BstSt → BstSt) : (c.setBst f).dma = c.dma := rfl
@[simp] theorem Chip.setBst_rf (f : BstSt → BstSt) : (c.setBst f).rf = c.rf := rfl
@[simp] theorem Chip.setBst_gn (f : BstSt → BstSt) : (c.setBst f).gn = c.gn := rfl
@[simp] theorem Chip.setBst_lnk (f : BstSt → BstSt) : (c.setBst f).lnk = c.lnk := rfl
@[simp] theorem Chip.setBst_shp (f : BstSt → BstSt) : (c.setBst f).shp = c.shp := rfl
@[simp] theorem Chip.setBst_pwr (f : BstSt → BstSt) : (c.setBst f).pwr = c.pwr := rfl
@[simp] theorem Chip.setBst_hif (f : BstSt → BstSt) : (c.setBst f).hif = c.hif := rfl
@[simp] theorem Chip.setBst_bus (f : BstSt → BstSt) : (c.setBst f).bus = c.bus := rfl
@[simp] theorem Chip.setBst_ret (f : BstSt → BstSt) : (c.setBst f).ret = c.ret := rfl
@[simp] theorem Chip.setBst_mem (f : BstSt → BstSt) : (c.setBst f).mem = c.mem := rfl

@[simp] theorem Chip.setBst_bst (f : BstSt → BstSt) : (c.setBst f).bst = f c.bst := rfl

@[simp] theorem Chip.setFold_regs (f : FoldSt → FoldSt) : (c.setFold f).regs = c.regs := rfl
@[simp] theorem Chip.setFold_fresh (f : FoldSt → FoldSt) : (c.setFold f).fresh = c.fresh := rfl
@[simp] theorem Chip.setFold_free (f : FoldSt → FoldSt) : (c.setFold f).free = c.free := rfl
@[simp] theorem Chip.setFold_time (f : FoldSt → FoldSt) : (c.setFold f).time = c.time := rfl
@[simp] theorem Chip.setFold_evt (f : FoldSt → FoldSt) : (c.setFold f).evt = c.evt := rfl
@[simp] theorem Chip.setFold_eng (f : FoldSt → FoldSt) : (c.setFold f).eng = c.eng := rfl
@[simp] theorem Chip.setFold_rot (f : FoldSt → FoldSt) : (c.setFold f).rot = c.rot := rfl
@[simp] theorem Chip.setFold_pas (f : FoldSt → FoldSt) : (c.setFold f).pas = c.pas := rfl
@[simp] theorem Chip.setFold_co (f : FoldSt → FoldSt) : (c.setFold f).co = c.co := rfl
@[simp] theorem Chip.setFold_crook (f : FoldSt → FoldSt) : (c.setFold f).crook = c.crook := rfl
@[simp] theorem Chip.setFold_guard (f : FoldSt → FoldSt) : (c.setFold f).guard = c.guard := rfl
@[simp] theorem Chip.setFold_prt (f : FoldSt → FoldSt) : (c.setFold f).prt = c.prt := rfl
@[simp] theorem Chip.setFold_bst (f : FoldSt → FoldSt) : (c.setFold f).bst = c.bst := rfl
@[simp] theorem Chip.setFold_dma (f : FoldSt → FoldSt) : (c.setFold f).dma = c.dma := rfl
@[simp] theorem Chip.setFold_rf (f : FoldSt → FoldSt) : (c.setFold f).rf = c.rf := rfl
@[simp] theorem Chip.setFold_gn (f : FoldSt → FoldSt) : (c.setFold f).gn = c.gn := rfl
@[simp] theorem Chip.setFold_lnk (f : FoldSt → FoldSt) : (c.setFold f).lnk = c.lnk := rfl
@[simp] theorem Chip.setFold_shp (f : FoldSt → FoldSt) : (c.setFold f).shp = c.shp := rfl
@[simp] theorem Chip.setFold_pwr (f : FoldSt → FoldSt) : (c.setFold f).pwr = c.pwr := rfl
@[simp] theorem Chip.setFold_hif (f : FoldSt → FoldSt) : (c.setFold f).hif = c.hif := rfl
@[simp] theorem Chip.setFold_bus (f : FoldSt → FoldSt) : (c.setFold f).bus = c.bus := rfl
@[simp] theorem Chip.setFold_ret (f : FoldSt → FoldSt) : (c.setFold f).ret = c.ret := rfl
@[simp] theorem Chip.setFold_mem (f : FoldSt → FoldSt) : (c.setFold f).mem = c.mem := rfl

@[simp] theorem Chip.setFold_fold (f : FoldSt → FoldSt) : (c.setFold f).fold = f c.fold := rfl

@[simp] theorem Chip.setTp_regs (n : Bool) (t : TpSt) : (c.setTp n t).regs = c.regs := rfl
@[simp] theorem Chip.setTp_fresh (n : Bool) (t : TpSt) : (c.setTp n t).fresh = c.fresh := rfl
@[simp] theorem Chip.setTp_free (n : Bool) (t : TpSt) : (c.setTp n t).free = c.free := rfl
@[simp] theorem Chip.setTp_evt (n : Bool) (t : TpSt) : (c.setTp n t).evt = c.evt := rfl
@[simp] theorem Chip.setTp_fold (n : Bool) (t : TpSt) : (c.setTp n t).fold = c.fold := rfl
@[simp] theorem Chip.setTp_eng (n : Bool) (t : TpSt) : (c.setTp n t).eng = c.eng := rfl
@[simp] theorem Chip.setTp_rot (n : Bool) (t : TpSt) : (c.setTp n t).rot = c.rot := rfl
@[simp] theorem Chip.setTp_pas (n : Bool) (t : TpSt) : (c.setTp n t).pas = c.pas := rfl
@[simp] theorem Chip.setTp_co (n : Bool) (t : TpSt) : (c.setTp n t).co = c.co := rfl
@[simp] theorem Chip.setTp_crook (n : Bool) (t : TpSt) : (c.setTp n t).crook = c.crook := rfl
@[simp] theorem Chip.setTp_guard (n : Bool) (t : TpSt) : (c.setTp n t).guard = c.guard := rfl
@[simp] theorem Chip.setTp_prt (n : Bool) (t : TpSt) : (c.setTp n t).prt = c.prt := rfl
@[simp] theorem Chip.setTp_bst (n : Bool) (t : TpSt) : (c.setTp n t).bst = c.bst := rfl
@[simp] theorem Chip.setTp_dma (n : Bool) (t : TpSt) : (c.setTp n t).dma = c.dma := rfl
@[simp] theorem Chip.setTp_rf (n : Bool) (t : TpSt) : (c.setTp n t).rf = c.rf := rfl
@[simp] theorem Chip.setTp_gn (n : Bool) (t : TpSt) : (c.setTp n t).gn = c.gn := rfl
@[simp] theorem Chip.setTp_lnk (n : Bool) (t : TpSt) : (c.setTp n t).lnk = c.lnk := rfl
@[simp] theorem Chip.setTp_shp (n : Bool) (t : TpSt) : (c.setTp n t).shp = c.shp := rfl
@[simp] theorem Chip.setTp_pwr (n : Bool) (t : TpSt) : (c.setTp n t).pwr = c.pwr := rfl
@[simp] theorem Chip.setTp_hif (n : Bool) (t : TpSt) : (c.setTp n t).hif = c.hif := rfl
@[simp] theorem Chip.setTp_bus (n : Bool) (t : TpSt) : (c.setTp n t).bus = c.bus := rfl
@[simp] theorem Chip.setTp_ret (n : Bool) (t : TpSt) : (c.setTp n t).ret = c.ret := rfl
@[simp] theorem Chip.setTp_mem (n : Bool) (t : TpSt) : (c.setTp n t).mem = c.mem := rfl

@[simp] theorem Chip.setAcq_regs (f : AcqSt → AcqSt) : (c.setAcq f).regs = c.regs := rfl
@[simp] theorem Chip.setAcq_fresh (f : AcqSt → AcqSt) : (c.setAcq f).fresh = c.fresh := rfl
@[simp] theorem Chip.setAcq_free (f : AcqSt → AcqSt) : (c.setAcq f).free = c.free := rfl
@[simp] theorem Chip.setAcq_time (f : AcqSt → AcqSt) : (c.setAcq f).time = c.time := rfl
@[simp] theorem Chip.setAcq_evt (f : AcqSt → AcqSt) : (c.setAcq f).evt = c.evt := rfl
@[simp] theorem Chip.setAcq_fold (f : AcqSt → AcqSt) : (c.setAcq f).fold = c.fold := rfl
@[simp] theorem Chip.setAcq_eng (f : AcqSt → AcqSt) : (c.setAcq f).eng = c.eng := rfl
@[simp] theorem Chip.setAcq_rot (f : AcqSt → AcqSt) : (c.setAcq f).rot = c.rot := rfl
@[simp] theorem Chip.setAcq_pas (f : AcqSt → AcqSt) : (c.setAcq f).pas = c.pas := rfl
@[simp] theorem Chip.setAcq_co (f : AcqSt → AcqSt) : (c.setAcq f).co = c.co := rfl
@[simp] theorem Chip.setAcq_crook (f : AcqSt → AcqSt) : (c.setAcq f).crook = c.crook := rfl
@[simp] theorem Chip.setAcq_guard (f : AcqSt → AcqSt) : (c.setAcq f).guard = c.guard := rfl
@[simp] theorem Chip.setAcq_prt (f : AcqSt → AcqSt) : (c.setAcq f).prt = c.prt := rfl
@[simp] theorem Chip.setAcq_bst (f : AcqSt → AcqSt) : (c.setAcq f).bst = c.bst := rfl
@[simp] theorem Chip.setAcq_dma (f : AcqSt → AcqSt) : (c.setAcq f).dma = c.dma := rfl
@[simp] theorem Chip.setAcq_rf (f : AcqSt → AcqSt) : (c.setAcq f).rf = c.rf := rfl
@[simp] theorem Chip.setAcq_lnk (f : AcqSt → AcqSt) : (c.setAcq f).lnk = c.lnk := rfl
@[simp] theorem Chip.setAcq_shp (f : AcqSt → AcqSt) : (c.setAcq f).shp = c.shp := rfl
@[simp] theorem Chip.setAcq_pwr (f : AcqSt → AcqSt) : (c.setAcq f).pwr = c.pwr := rfl
@[simp] theorem Chip.setAcq_hif (f : AcqSt → AcqSt) : (c.setAcq f).hif = c.hif := rfl
@[simp] theorem Chip.setAcq_bus (f : AcqSt → AcqSt) : (c.setAcq f).bus = c.bus := rfl
@[simp] theorem Chip.setAcq_ret (f : AcqSt → AcqSt) : (c.setAcq f).ret = c.ret := rfl
@[simp] theorem Chip.setAcq_mem (f : AcqSt → AcqSt) : (c.setAcq f).mem = c.mem := rfl

@[simp] theorem Chip.setRing_fresh (n : Nat) (r : Ring) : (c.setRing n r).fresh = c.fresh := by unfold Chip.setRing Chip.showRing; split <;> rfl
@[simp] theorem Chip.setRing_free (n : Nat) (r : Ring) : (c.setRing n r).free = c.free := by unfold Chip.setRing Chip.showRing; split <;> rfl
@[simp] theorem Chip.setRing_time (n : Nat) (r : Ring) : (c.setRing n r).time = c.time := by unfold Chip.setRing Chip.showRing; split <;> rfl
@[simp] theorem Chip.setRing_evt (n : Nat) (r : Ring) : (c.setRing n r).evt = c.evt := by unfold Chip.setRing Chip.showRing; split <;> rfl
@[simp] theorem Chip.setRing_fold (n : Nat) (r : Ring) : (c.setRing n r).fold = c.fold := by unfold Chip.setRing Chip.showRing; split <;> rfl
@[simp] theorem Chip.setRing_eng (n : Nat) (r : Ring) : (c.setRing n r).eng = c.eng := by unfold Chip.setRing Chip.showRing; split <;> rfl
@[simp] theorem Chip.setRing_rot (n : Nat) (r : Ring) : (c.setRing n r).rot = c.rot := by unfold Chip.setRing Chip.showRing; split <;> rfl
@[simp] theorem Chip.setRing_pas (n : Nat) (r : Ring) : (c.setRing n r).pas = c.pas := by unfold Chip.setRing Chip.showRing; split <;> rfl
@[simp] theorem Chip.setRing_co (n : Nat) (r : Ring) : (c.setRing n r).co = c.co := by unfold Chip.setRing Chip.showRing; split <;> rfl
@[simp] theorem Chip.setRing_crook (n : Nat) (r : Ring) : (c.setRing n r).crook = c.crook := by unfold Chip.setRing Chip.showRing; split <;> rfl
@[simp] theorem Chip.setRing_guard (n : Nat) (r : Ring) : (c.setRing n r).guard = c.guard := by unfold Chip.setRing Chip.showRing; split <;> rfl
@[simp] theorem Chip.setRing_prt (n : Nat) (r : Ring) : (c.setRing n r).prt = c.prt := by unfold Chip.setRing Chip.showRing; split <;> rfl
@[simp] theorem Chip.setRing_bst (n : Nat) (r : Ring) : (c.setRing n r).bst = c.bst := by unfold Chip.setRing Chip.showRing; split <;> rfl
@[simp] theorem Chip.setRing_rf (n : Nat) (r : Ring) : (c.setRing n r).rf = c.rf := by unfold Chip.setRing Chip.showRing; split <;> rfl
@[simp] theorem Chip.setRing_gn (n : Nat) (r : Ring) : (c.setRing n r).gn = c.gn := by unfold Chip.setRing Chip.showRing; split <;> rfl
@[simp] theorem Chip.setRing_lnk (n : Nat) (r : Ring) : (c.setRing n r).lnk = c.lnk := by unfold Chip.setRing Chip.showRing; split <;> rfl
@[simp] theorem Chip.setRing_shp (n : Nat) (r : Ring) : (c.setRing n r).shp = c.shp := by unfold Chip.setRing Chip.showRing; split <;> rfl
@[simp] theorem Chip.setRing_pwr (n : Nat) (r : Ring) : (c.setRing n r).pwr = c.pwr := by unfold Chip.setRing Chip.showRing; split <;> rfl
@[simp] theorem Chip.setRing_hif (n : Nat) (r : Ring) : (c.setRing n r).hif = c.hif := by unfold Chip.setRing Chip.showRing; split <;> rfl
@[simp] theorem Chip.setRing_bus (n : Nat) (r : Ring) : (c.setRing n r).bus = c.bus := by unfold Chip.setRing Chip.showRing; split <;> rfl
@[simp] theorem Chip.setRing_ret (n : Nat) (r : Ring) : (c.setRing n r).ret = c.ret := by unfold Chip.setRing Chip.showRing; split <;> rfl
@[simp] theorem Chip.setRing_mem (n : Nat) (r : Ring) : (c.setRing n r).mem = c.mem := by unfold Chip.setRing Chip.showRing; split <;> rfl

@[simp] theorem Chip.setChan_regs (n : Nat) (x : Chan) : (c.setChan n x).regs = c.regs := rfl
@[simp] theorem Chip.setChan_fresh (n : Nat) (x : Chan) : (c.setChan n x).fresh = c.fresh := rfl
@[simp] theorem Chip.setChan_free (n : Nat) (x : Chan) : (c.setChan n x).free = c.free := rfl
@[simp] theorem Chip.setChan_time (n : Nat) (x : Chan) : (c.setChan n x).time = c.time := rfl
@[simp] theorem Chip.setChan_evt (n : Nat) (x : Chan) : (c.setChan n x).evt = c.evt := rfl
@[simp] theorem Chip.setChan_fold (n : Nat) (x : Chan) : (c.setChan n x).fold = c.fold := rfl
@[simp] theorem Chip.setChan_eng (n : Nat) (x : Chan) : (c.setChan n x).eng = c.eng := rfl
@[simp] theorem Chip.setChan_rot (n : Nat) (x : Chan) : (c.setChan n x).rot = c.rot := rfl
@[simp] theorem Chip.setChan_pas (n : Nat) (x : Chan) : (c.setChan n x).pas = c.pas := rfl
@[simp] theorem Chip.setChan_co (n : Nat) (x : Chan) : (c.setChan n x).co = c.co := rfl
@[simp] theorem Chip.setChan_crook (n : Nat) (x : Chan) : (c.setChan n x).crook = c.crook := rfl
@[simp] theorem Chip.setChan_guard (n : Nat) (x : Chan) : (c.setChan n x).guard = c.guard := rfl
@[simp] theorem Chip.setChan_prt (n : Nat) (x : Chan) : (c.setChan n x).prt = c.prt := rfl
@[simp] theorem Chip.setChan_bst (n : Nat) (x : Chan) : (c.setChan n x).bst = c.bst := rfl
@[simp] theorem Chip.setChan_dma (n : Nat) (x : Chan) : (c.setChan n x).dma = c.dma := rfl
@[simp] theorem Chip.setChan_rf (n : Nat) (x : Chan) : (c.setChan n x).rf = c.rf := rfl
@[simp] theorem Chip.setChan_lnk (n : Nat) (x : Chan) : (c.setChan n x).lnk = c.lnk := rfl
@[simp] theorem Chip.setChan_shp (n : Nat) (x : Chan) : (c.setChan n x).shp = c.shp := rfl
@[simp] theorem Chip.setChan_pwr (n : Nat) (x : Chan) : (c.setChan n x).pwr = c.pwr := rfl
@[simp] theorem Chip.setChan_hif (n : Nat) (x : Chan) : (c.setChan n x).hif = c.hif := rfl
@[simp] theorem Chip.setChan_bus (n : Nat) (x : Chan) : (c.setChan n x).bus = c.bus := rfl
@[simp] theorem Chip.setChan_ret (n : Nat) (x : Chan) : (c.setChan n x).ret = c.ret := rfl
@[simp] theorem Chip.setChan_mem (n : Nat) (x : Chan) : (c.setChan n x).mem = c.mem := rfl

@[simp] theorem Chip.setGrp_regs (g : Nat) (x : Grp) : (c.setGrp g x).regs = c.regs := rfl
@[simp] theorem Chip.setGrp_fresh (g : Nat) (x : Grp) : (c.setGrp g x).fresh = c.fresh := rfl
@[simp] theorem Chip.setGrp_free (g : Nat) (x : Grp) : (c.setGrp g x).free = c.free := rfl
@[simp] theorem Chip.setGrp_time (g : Nat) (x : Grp) : (c.setGrp g x).time = c.time := rfl
@[simp] theorem Chip.setGrp_evt (g : Nat) (x : Grp) : (c.setGrp g x).evt = c.evt := rfl
@[simp] theorem Chip.setGrp_fold (g : Nat) (x : Grp) : (c.setGrp g x).fold = c.fold := rfl
@[simp] theorem Chip.setGrp_eng (g : Nat) (x : Grp) : (c.setGrp g x).eng = c.eng := rfl
@[simp] theorem Chip.setGrp_rot (g : Nat) (x : Grp) : (c.setGrp g x).rot = c.rot := rfl
@[simp] theorem Chip.setGrp_pas (g : Nat) (x : Grp) : (c.setGrp g x).pas = c.pas := rfl
@[simp] theorem Chip.setGrp_co (g : Nat) (x : Grp) : (c.setGrp g x).co = c.co := rfl
@[simp] theorem Chip.setGrp_crook (g : Nat) (x : Grp) : (c.setGrp g x).crook = c.crook := rfl
@[simp] theorem Chip.setGrp_guard (g : Nat) (x : Grp) : (c.setGrp g x).guard = c.guard := rfl
@[simp] theorem Chip.setGrp_bst (g : Nat) (x : Grp) : (c.setGrp g x).bst = c.bst := rfl
@[simp] theorem Chip.setGrp_dma (g : Nat) (x : Grp) : (c.setGrp g x).dma = c.dma := rfl
@[simp] theorem Chip.setGrp_rf (g : Nat) (x : Grp) : (c.setGrp g x).rf = c.rf := rfl
@[simp] theorem Chip.setGrp_gn (g : Nat) (x : Grp) : (c.setGrp g x).gn = c.gn := rfl
@[simp] theorem Chip.setGrp_lnk (g : Nat) (x : Grp) : (c.setGrp g x).lnk = c.lnk := rfl
@[simp] theorem Chip.setGrp_shp (g : Nat) (x : Grp) : (c.setGrp g x).shp = c.shp := rfl
@[simp] theorem Chip.setGrp_pwr (g : Nat) (x : Grp) : (c.setGrp g x).pwr = c.pwr := rfl
@[simp] theorem Chip.setGrp_hif (g : Nat) (x : Grp) : (c.setGrp g x).hif = c.hif := rfl
@[simp] theorem Chip.setGrp_bus (g : Nat) (x : Grp) : (c.setGrp g x).bus = c.bus := rfl
@[simp] theorem Chip.setGrp_ret (g : Nat) (x : Grp) : (c.setGrp g x).ret = c.ret := rfl
@[simp] theorem Chip.setGrp_mem (g : Nat) (x : Grp) : (c.setGrp g x).mem = c.mem := rfl

@[simp] theorem Chip.setAlign_regs (a : Nat) (x : AlignSt) : (c.setAlign a x).regs = c.regs := rfl
@[simp] theorem Chip.setAlign_fresh (a : Nat) (x : AlignSt) : (c.setAlign a x).fresh = c.fresh := rfl
@[simp] theorem Chip.setAlign_free (a : Nat) (x : AlignSt) : (c.setAlign a x).free = c.free := rfl
@[simp] theorem Chip.setAlign_time (a : Nat) (x : AlignSt) : (c.setAlign a x).time = c.time := rfl
@[simp] theorem Chip.setAlign_evt (a : Nat) (x : AlignSt) : (c.setAlign a x).evt = c.evt := rfl
@[simp] theorem Chip.setAlign_fold (a : Nat) (x : AlignSt) : (c.setAlign a x).fold = c.fold := rfl
@[simp] theorem Chip.setAlign_eng (a : Nat) (x : AlignSt) : (c.setAlign a x).eng = c.eng := rfl
@[simp] theorem Chip.setAlign_rot (a : Nat) (x : AlignSt) : (c.setAlign a x).rot = c.rot := rfl
@[simp] theorem Chip.setAlign_pas (a : Nat) (x : AlignSt) : (c.setAlign a x).pas = c.pas := rfl
@[simp] theorem Chip.setAlign_co (a : Nat) (x : AlignSt) : (c.setAlign a x).co = c.co := rfl
@[simp] theorem Chip.setAlign_crook (a : Nat) (x : AlignSt) : (c.setAlign a x).crook = c.crook := rfl
@[simp] theorem Chip.setAlign_guard (a : Nat) (x : AlignSt) : (c.setAlign a x).guard = c.guard := rfl
@[simp] theorem Chip.setAlign_bst (a : Nat) (x : AlignSt) : (c.setAlign a x).bst = c.bst := rfl
@[simp] theorem Chip.setAlign_dma (a : Nat) (x : AlignSt) : (c.setAlign a x).dma = c.dma := rfl
@[simp] theorem Chip.setAlign_rf (a : Nat) (x : AlignSt) : (c.setAlign a x).rf = c.rf := rfl
@[simp] theorem Chip.setAlign_gn (a : Nat) (x : AlignSt) : (c.setAlign a x).gn = c.gn := rfl
@[simp] theorem Chip.setAlign_lnk (a : Nat) (x : AlignSt) : (c.setAlign a x).lnk = c.lnk := rfl
@[simp] theorem Chip.setAlign_shp (a : Nat) (x : AlignSt) : (c.setAlign a x).shp = c.shp := rfl
@[simp] theorem Chip.setAlign_pwr (a : Nat) (x : AlignSt) : (c.setAlign a x).pwr = c.pwr := rfl
@[simp] theorem Chip.setAlign_hif (a : Nat) (x : AlignSt) : (c.setAlign a x).hif = c.hif := rfl
@[simp] theorem Chip.setAlign_bus (a : Nat) (x : AlignSt) : (c.setAlign a x).bus = c.bus := rfl
@[simp] theorem Chip.setAlign_ret (a : Nat) (x : AlignSt) : (c.setAlign a x).ret = c.ret := rfl
@[simp] theorem Chip.setAlign_mem (a : Nat) (x : AlignSt) : (c.setAlign a x).mem = c.mem := rfl

@[simp] theorem Chip.setLane_fresh (n : Nat) (l : Lane) : (c.setLane n l).fresh = c.fresh := rfl
@[simp] theorem Chip.setLane_free (n : Nat) (l : Lane) : (c.setLane n l).free = c.free := rfl
@[simp] theorem Chip.setLane_time (n : Nat) (l : Lane) : (c.setLane n l).time = c.time := rfl
@[simp] theorem Chip.setLane_evt (n : Nat) (l : Lane) : (c.setLane n l).evt = c.evt := rfl
@[simp] theorem Chip.setLane_fold (n : Nat) (l : Lane) : (c.setLane n l).fold = c.fold := rfl
@[simp] theorem Chip.setLane_eng (n : Nat) (l : Lane) : (c.setLane n l).eng = c.eng := rfl
@[simp] theorem Chip.setLane_rot (n : Nat) (l : Lane) : (c.setLane n l).rot = c.rot := rfl
@[simp] theorem Chip.setLane_pas (n : Nat) (l : Lane) : (c.setLane n l).pas = c.pas := rfl
@[simp] theorem Chip.setLane_co (n : Nat) (l : Lane) : (c.setLane n l).co = c.co := rfl
@[simp] theorem Chip.setLane_crook (n : Nat) (l : Lane) : (c.setLane n l).crook = c.crook := rfl
@[simp] theorem Chip.setLane_guard (n : Nat) (l : Lane) : (c.setLane n l).guard = c.guard := rfl
@[simp] theorem Chip.setLane_bst (n : Nat) (l : Lane) : (c.setLane n l).bst = c.bst := rfl
@[simp] theorem Chip.setLane_dma (n : Nat) (l : Lane) : (c.setLane n l).dma = c.dma := rfl
@[simp] theorem Chip.setLane_rf (n : Nat) (l : Lane) : (c.setLane n l).rf = c.rf := rfl
@[simp] theorem Chip.setLane_gn (n : Nat) (l : Lane) : (c.setLane n l).gn = c.gn := rfl
@[simp] theorem Chip.setLane_lnk (n : Nat) (l : Lane) : (c.setLane n l).lnk = c.lnk := rfl
@[simp] theorem Chip.setLane_shp (n : Nat) (l : Lane) : (c.setLane n l).shp = c.shp := rfl
@[simp] theorem Chip.setLane_pwr (n : Nat) (l : Lane) : (c.setLane n l).pwr = c.pwr := rfl
@[simp] theorem Chip.setLane_hif (n : Nat) (l : Lane) : (c.setLane n l).hif = c.hif := rfl
@[simp] theorem Chip.setLane_bus (n : Nat) (l : Lane) : (c.setLane n l).bus = c.bus := rfl
@[simp] theorem Chip.setLane_ret (n : Nat) (l : Lane) : (c.setLane n l).ret = c.ret := rfl
@[simp] theorem Chip.setLane_mem (n : Nat) (l : Lane) : (c.setLane n l).mem = c.mem := rfl

@[simp] theorem Chip.advance_fresh (d : Nat) : (c.advance d).fresh = c.fresh := rfl
@[simp] theorem Chip.advance_free (d : Nat) : (c.advance d).free = c.free := rfl
@[simp] theorem Chip.advance_evt (d : Nat) : (c.advance d).evt = c.evt := rfl
@[simp] theorem Chip.advance_fold (d : Nat) : (c.advance d).fold = c.fold := rfl
@[simp] theorem Chip.advance_eng (d : Nat) : (c.advance d).eng = c.eng := rfl
@[simp] theorem Chip.advance_rot (d : Nat) : (c.advance d).rot = c.rot := rfl
@[simp] theorem Chip.advance_pas (d : Nat) : (c.advance d).pas = c.pas := rfl
@[simp] theorem Chip.advance_co (d : Nat) : (c.advance d).co = c.co := rfl
@[simp] theorem Chip.advance_guard (d : Nat) : (c.advance d).guard = c.guard := rfl
@[simp] theorem Chip.advance_prt (d : Nat) : (c.advance d).prt = c.prt := rfl
@[simp] theorem Chip.advance_bst (d : Nat) : (c.advance d).bst = c.bst := rfl
@[simp] theorem Chip.advance_dma (d : Nat) : (c.advance d).dma = c.dma := rfl
@[simp] theorem Chip.advance_rf (d : Nat) : (c.advance d).rf = c.rf := rfl
@[simp] theorem Chip.advance_gn (d : Nat) : (c.advance d).gn = c.gn := rfl
@[simp] theorem Chip.advance_lnk (d : Nat) : (c.advance d).lnk = c.lnk := rfl
@[simp] theorem Chip.advance_shp (d : Nat) : (c.advance d).shp = c.shp := rfl
@[simp] theorem Chip.advance_hif (d : Nat) : (c.advance d).hif = c.hif := rfl
@[simp] theorem Chip.advance_bus (d : Nat) : (c.advance d).bus = c.bus := rfl
@[simp] theorem Chip.advance_ret (d : Nat) : (c.advance d).ret = c.ret := rfl
@[simp] theorem Chip.advance_mem (d : Nat) : (c.advance d).mem = c.mem := rfl

@[simp] theorem Chip.advanceTo_fresh (n : Nat) : (c.advanceTo n).fresh = c.fresh := by unfold Chip.advanceTo; split <;> rfl
@[simp] theorem Chip.advanceTo_free (n : Nat) : (c.advanceTo n).free = c.free := by unfold Chip.advanceTo; split <;> rfl
@[simp] theorem Chip.advanceTo_evt (n : Nat) : (c.advanceTo n).evt = c.evt := by unfold Chip.advanceTo; split <;> rfl
@[simp] theorem Chip.advanceTo_fold (n : Nat) : (c.advanceTo n).fold = c.fold := by unfold Chip.advanceTo; split <;> rfl
@[simp] theorem Chip.advanceTo_eng (n : Nat) : (c.advanceTo n).eng = c.eng := by unfold Chip.advanceTo; split <;> rfl
@[simp] theorem Chip.advanceTo_rot (n : Nat) : (c.advanceTo n).rot = c.rot := by unfold Chip.advanceTo; split <;> rfl
@[simp] theorem Chip.advanceTo_pas (n : Nat) : (c.advanceTo n).pas = c.pas := by unfold Chip.advanceTo; split <;> rfl
@[simp] theorem Chip.advanceTo_co (n : Nat) : (c.advanceTo n).co = c.co := by unfold Chip.advanceTo; split <;> rfl
@[simp] theorem Chip.advanceTo_guard (n : Nat) : (c.advanceTo n).guard = c.guard := by unfold Chip.advanceTo; split <;> rfl
@[simp] theorem Chip.advanceTo_prt (n : Nat) : (c.advanceTo n).prt = c.prt := by unfold Chip.advanceTo; split <;> rfl
@[simp] theorem Chip.advanceTo_bst (n : Nat) : (c.advanceTo n).bst = c.bst := by unfold Chip.advanceTo; split <;> rfl
@[simp] theorem Chip.advanceTo_dma (n : Nat) : (c.advanceTo n).dma = c.dma := by unfold Chip.advanceTo; split <;> rfl
@[simp] theorem Chip.advanceTo_rf (n : Nat) : (c.advanceTo n).rf = c.rf := by unfold Chip.advanceTo; split <;> rfl
@[simp] theorem Chip.advanceTo_gn (n : Nat) : (c.advanceTo n).gn = c.gn := by unfold Chip.advanceTo; split <;> rfl
@[simp] theorem Chip.advanceTo_lnk (n : Nat) : (c.advanceTo n).lnk = c.lnk := by unfold Chip.advanceTo; split <;> rfl
@[simp] theorem Chip.advanceTo_shp (n : Nat) : (c.advanceTo n).shp = c.shp := by unfold Chip.advanceTo; split <;> rfl
@[simp] theorem Chip.advanceTo_hif (n : Nat) : (c.advanceTo n).hif = c.hif := by unfold Chip.advanceTo; split <;> rfl
@[simp] theorem Chip.advanceTo_bus (n : Nat) : (c.advanceTo n).bus = c.bus := by unfold Chip.advanceTo; split <;> rfl
@[simp] theorem Chip.advanceTo_ret (n : Nat) : (c.advanceTo n).ret = c.ret := by unfold Chip.advanceTo; split <;> rfl
@[simp] theorem Chip.advanceTo_mem (n : Nat) : (c.advanceTo n).mem = c.mem := by unfold Chip.advanceTo; split <;> rfl

/-! ## Reading back -/

@[simp] theorem Chip.rd_wr_self (a : Nat) (v : Word) : (c.wr a v).rd a = v := KMap.get_set_self _ _ _ _

theorem Chip.rd_wr_ne {a b : Nat} (h : b ≠ a) (v : Word) : (c.wr a v).rd b = c.rd b := KMap.get_set_ne _ _ h _ _

theorem Chip.rd_put_ne {f : Fld} {b : Nat} (h : b ≠ f.addr) (v : Nat) : (c.put f v).rd b = c.rd b := c.rd_wr_ne h _

theorem Chip.get_put_ne {f g : Fld} (h : g.addr ≠ f.addr) (v : Nat) : (c.put f v).get g = c.get g := by
  simp [Chip.get, c.rd_put_ne h v]

theorem Chip.get_wr_ne {a : Nat} {g : Fld} (h : g.addr ≠ a) (v : Word) : (c.wr a v).get g = c.get g := by
  simp [Chip.get, c.rd_wr_ne h v]

/-- Reading a register depends on the stored registers alone. -/
theorem Chip.rd_congr {c d : Chip} (h : d.regs = c.regs) (a : Nat) : d.rd a = c.rd a := by simp [Chip.rd, h]

theorem Chip.get_congr {c d : Chip} (h : d.regs = c.regs) (f : Fld) : d.get f = c.get f := by
  simp [Chip.get, Chip.rd_congr h]

theorem Chip.bit_congr {c d : Chip} (h : d.regs = c.regs) (f : Fld) : d.bit f = c.bit f := by
  simp only [Chip.bit, Chip.get_congr h]

theorem Chip.bit_put_ne {f g : Fld} (h : g.addr ≠ f.addr) (v : Nat) : (c.put f v).bit g = c.bit g := by
  simp only [Chip.bit, c.get_put_ne h v]

end Sys2Proof.Machine
end

