-- ==== Sys2Proof/Laws/Settle.lean ====
section
/-! SUPPORT. Settle.lean (laws): what the end of every command can change (routing the occurrences, and what the device holds at all
times), and that every step ends with it. -/

namespace Sys2Proof.Machine

/-- The registers that routing events may change (R277 to R279). -/
def flushReg (a : Nat) : Bool :=
  a == R.EVT_Q_DROP || a == R.EVT_STAT || a == R.EVT_LPEND_LO || a == R.EVT_LPEND_HI || a == R.EVT_HSUM

/-- The registers that what holds at all times may change (R291, R307, R309, R314, R318). -/
def holdReg (a : Nat) : Bool :=
  a == R.GUARD_AIR_CNT || a == R.RF_TX_STAT || a == R.RF_WAKE_TX_CTRL || a == R.RF_STAT

/-- `d` differs from `c` at most in the event fabric, and in the record of what hardware sets in this cycle (R7). -/
structure SameButEvt (c d : Chip) : Prop where
  rd : ∀ a, flushReg a = false → d.rd a = c.rd a
  rest : { d with regs := c.regs, evt := c.evt, fresh := c.fresh } = c

theorem SameButEvt.refl (c : Chip) : SameButEvt c c := ⟨fun _ _ => rfl, rfl⟩

theorem SameButEvt.trans {c d e : Chip} (h : SameButEvt c d) (k : SameButEvt d e) : SameButEvt c e := by
  refine ⟨fun a ha => (k.rd a ha).trans (h.rd a ha), ?_⟩
  have h1 := h.rest
  have h2 := k.rest
  rw [← h2] at h1
  simpa using h1

theorem SameButEvt.evt (c : Chip) (e : EvtSt) : SameButEvt c { c with evt := e } := ⟨fun _ _ => rfl, rfl⟩

theorem SameButEvt.wr (c : Chip) {a : Nat} (h : flushReg a = true) (v : Word) : SameButEvt c (c.wr a v) := by
  refine ⟨fun b hb => c.rd_wr_ne (fun he => ?_) v, rfl⟩
  subst he
  simp [h] at hb

theorem SameButEvt.put (c : Chip) {f : Fld} (h : flushReg f.addr = true) (v : Nat) : SameButEvt c (c.put f v) :=
  SameButEvt.wr c h _

theorem SameButEvt.fresh (c : Chip) (f : Fresh) : SameButEvt c { c with fresh := f } := ⟨fun _ _ => rfl, rfl⟩

theorem SameButEvt.bump (c : Chip) {f : Fld} (h : flushReg f.addr = true) : SameButEvt c (c.bump f) :=
  (SameButEvt.put c h _).trans (SameButEvt.fresh _ _)

theorem SameButEvt.latch (c : Chip) {f : Fld} (h : flushReg f.addr = true) : SameButEvt c (c.latch f) :=
  (SameButEvt.put c h _).trans (SameButEvt.fresh _ _)

theorem SameButEvt.latchBits (c : Chip) {a : Nat} (h : flushReg a = true) (m : Word) : SameButEvt c (c.latchBits a m) :=
  (SameButEvt.wr c h _).trans (SameButEvt.fresh _ _)

theorem SameButEvt.foldl {α : Type} (g : Chip → α → Chip) (hg : ∀ c x, SameButEvt c (g c x)) (l : List α) :
    ∀ c, SameButEvt c (l.foldl g c) := by
  induction l with
  | nil => exact SameButEvt.refl
  | cons x l ih => exact fun c => (hg c x).trans (ih _)

theorem SameButEvt.setLine (c : Chip) (n : Nat) : SameButEvt c (c.setLine n) := by
  unfold Chip.setLine
  split
  · exact SameButEvt.refl c
  · split <;> exact SameButEvt.latchBits c (by decide) _

theorem SameButEvt.enqueue (c : Chip) (o : Occ) : SameButEvt c (c.enqueue o) := by
  unfold Chip.enqueue
  split
  · exact SameButEvt.evt c _
  · split
    · exact (SameButEvt.bump c (by decide)).trans (SameButEvt.latch _ (by decide))
    · exact SameButEvt.evt c _

theorem SameButEvt.routeOcc (c : Chip) (o : Occ) : SameButEvt c (c.routeOcc o) := by
  unfold Chip.routeOcc
  simp only
  have h1 : SameButEvt c (if bitAt (c.evt.route o.id).toNat 9 && (!o.isEnd || o.startQueued) then c.enqueue o else c) := by
    split
    · exact SameButEvt.enqueue c o
    · exact SameButEvt.refl c
  split
  · exact (h1.trans (SameButEvt.setLine _ _)).trans (SameButEvt.latchBits _ (by decide) _)
  · exact h1.trans (SameButEvt.setLine _ _)

theorem SameButEvt.deliver (b : List Occ) (c : Chip) (o : Occ) : SameButEvt c (Chip.deliver b c o) := by
  unfold Chip.deliver
  simp only
  have h1 : SameButEvt c (({ c with evt := c.evt.tally o.id (!(c.heldBy b o).isEmpty) }).noteRc (2 ^ 32 + o.id)
      (KMap.get 0 o.id c.evt.tallies) (tallyUp (!(c.heldBy b o).isEmpty))) :=
    (SameButEvt.evt c _).trans (SameButEvt.fresh _ _)
  split
  · exact h1.trans (SameButEvt.evt _ _)
  · exact h1.trans (SameButEvt.routeOcc _ _)

/-- Routing the occurrences of a command changes the event fabric alone. -/
theorem SameButEvt.flush (c : Chip) : SameButEvt c c.flush := by
  unfold Chip.flush
  split
  · exact SameButEvt.refl c
  · rename_i o rest _
    exact ((SameButEvt.evt c _).trans (SameButEvt.foldl _ (SameButEvt.deliver _) _ _)).trans (SameButEvt.evt _ _)

/-! ## Routing -/

variable (c : Chip)

@[simp] theorem Chip.flush_free : c.flush.free = c.free := by
  have h := congrArg Chip.free (SameButEvt.flush c).rest
  exact h
@[simp] theorem Chip.flush_time : c.flush.time = c.time := by
  have h := congrArg Chip.time (SameButEvt.flush c).rest
  exact h
@[simp] theorem Chip.flush_fold : c.flush.fold = c.fold := by
  have h := congrArg Chip.fold (SameButEvt.flush c).rest
  exact h
@[simp] theorem Chip.flush_eng : c.flush.eng = c.eng := by
  have h := congrArg Chip.eng (SameButEvt.flush c).rest
  exact h
@[simp] theorem Chip.flush_rot : c.flush.rot = c.rot := by
  have h := congrArg Chip.rot (SameButEvt.flush c).rest
  exact h
@[simp] theorem Chip.flush_pas : c.flush.pas = c.pas := by
  have h := congrArg Chip.pas (SameButEvt.flush c).rest
  exact h
@[simp] theorem Chip.flush_co : c.flush.co = c.co := by
  have h := congrArg Chip.co (SameButEvt.flush c).rest
  exact h
@[simp] theorem Chip.flush_crook : c.flush.crook = c.crook := by
  have h := congrArg Chip.crook (SameButEvt.flush c).rest
  exact h
@[simp] theorem Chip.flush_guard : c.flush.guard = c.guard := by
  have h := congrArg Chip.guard (SameButEvt.flush c).rest
  exact h
@[simp] theorem Chip.flush_prt : c.flush.prt = c.prt := by
  have h := congrArg Chip.prt (SameButEvt.flush c).rest
  exact h
@[simp] theorem Chip.flush_bst : c.flush.bst = c.bst := by
  have h := congrArg Chip.bst (SameButEvt.flush c).rest
  exact h
@[simp] theorem Chip.flush_dma : c.flush.dma = c.dma := by
  have h := congrArg Chip.dma (SameButEvt.flush c).rest
  exact h
@[simp] theorem Chip.flush_rf : c.flush.rf = c.rf := by
  have h := congrArg Chip.rf (SameButEvt.flush c).rest
  exact h
@[simp] theorem Chip.flush_gn : c.flush.gn = c.gn := by
  have h := congrArg Chip.gn (SameButEvt.flush c).rest
  exact h
@[simp] theorem Chip.flush_lnk : c.flush.lnk = c.lnk := by
  have h := congrArg Chip.lnk (SameButEvt.flush c).rest
  exact h
@[simp] theorem Chip.flush_shp : c.flush.shp = c.shp := by
  have h := congrArg Chip.shp (SameButEvt.flush c).rest
  exact h
@[simp] theorem Chip.flush_pwr : c.flush.pwr = c.pwr := by
  have h := congrArg Chip.pwr (SameButEvt.flush c).rest
  exact h
@[simp] theorem Chip.flush_hif : c.flush.hif = c.hif := by
  have h := congrArg Chip.hif (SameButEvt.flush c).rest
  exact h
@[simp] theorem Chip.flush_bus : c.flush.bus = c.bus := by
  have h := congrArg Chip.bus (SameButEvt.flush c).rest
  exact h
@[simp] theorem Chip.flush_ret : c.flush.ret = c.ret := by
  have h := congrArg Chip.ret (SameButEvt.flush c).rest
  exact h
@[simp] theorem Chip.flush_mem : c.flush.mem = c.mem := by
  have h := congrArg Chip.mem (SameButEvt.flush c).rest
  exact h

theorem Chip.flush_rd {a : Nat} (h : flushReg a = false) : c.flush.rd a = c.rd a := (SameButEvt.flush c).rd a h

@[simp] theorem Chip.enqueue_batch (o : Occ) : (c.enqueue o).evt.batch = c.evt.batch := by
  unfold Chip.enqueue
  split
  · rfl
  · split
    · simp
    · rfl

@[simp] theorem Chip.noteRc_evt (k : Nat) (o : Word) (g : Word → Word) : (c.noteRc k o g).evt = c.evt := rfl

@[simp] theorem Chip.setLine_evt (n : Nat) : (c.setLine n).evt = c.evt := by
  unfold Chip.setLine
  split
  · rfl
  · split <;> rfl

theorem Chip.routeOcc_batch (o : Occ) : (c.routeOcc o).evt.batch = c.evt.batch := by
  unfold Chip.routeOcc
  simp only
  split <;> simp <;> split <;> simp

theorem Chip.deliver_batch (b : List Occ) (o : Occ) : (Chip.deliver b c o).evt.batch = c.evt.batch := by
  unfold Chip.deliver
  simp only
  split
  · rfl
  · rw [Chip.routeOcc_batch]
    rfl

theorem Chip.delivers_batch (b l : List Occ) : ∀ c : Chip, (l.foldl (Chip.deliver b) c).evt.batch = c.evt.batch := by
  induction l with
  | nil => exact fun _ => rfl
  | cons x l ih => exact fun c => (ih _).trans (Chip.deliver_batch c b x)

/-- After routing nothing waits to be routed. -/
@[simp] theorem Chip.flush_batch : c.flush.evt.batch = [] := by
  unfold Chip.flush
  split
  · assumption
  · exact Chip.delivers_batch _ _ _

/-- With nothing raised there is nothing to route. -/
theorem Chip.flush_nil (h : c.evt.batch = []) : c.flush = c := by
  unfold Chip.flush
  rw [h]

/-! ## What holds at all times -/

/-- What holds at all times is reached by changes of the transmitter, the time pulses, four registers and the record of R7. -/
structure SameButHold (c d : Chip) : Prop where
  rd : ∀ a, holdReg a = false → d.rd a = c.rd a
  rest : { d with regs := c.regs, fresh := c.fresh, rf := c.rf, time := c.time } = c

theorem SameButHold.refl : SameButHold c c := ⟨fun _ _ => rfl, rfl⟩

theorem SameButHold.trans {c d e : Chip} (h : SameButHold c d) (k : SameButHold d e) : SameButHold c e := by
  refine ⟨fun a ha => (k.rd a ha).trans (h.rd a ha), ?_⟩
  have h1 := h.rest
  have h2 := k.rest
  rw [← h2] at h1
  simpa using h1

theorem SameButHold.put {f : Fld} (h : holdReg f.addr = true) (v : Nat) : SameButHold c (c.put f v) := by
  refine ⟨fun b hb => c.rd_wr_ne (fun he => ?_) _, rfl⟩
  subst he
  simp [h] at hb

theorem SameButHold.latch {f : Fld} (h : holdReg f.addr = true) : SameButHold c (c.latch f) :=
  (SameButHold.put c h 1).trans ⟨fun _ _ => rfl, rfl⟩

theorem SameButHold.setRf (f : RfSt → RfSt) : SameButHold c (c.setRf f) := ⟨fun _ _ => rfl, rfl⟩

theorem SameButHold.setTp (n : Bool) (t : TpSt) : SameButHold c (c.setTp n t) := ⟨fun _ _ => rfl, rfl⟩

theorem SameButHold.countAir : SameButHold c c.countAir := by
  unfold Chip.countAir
  split
  · simp only
    split
    · exact (SameButHold.put c (by decide) _).trans (SameButHold.setRf _ _)
    · exact SameButHold.refl c
  · exact SameButHold.refl c

theorem SameButHold.endTx : SameButHold c c.endTx := by
  unfold Chip.endTx Chip.showTx
  simp only
  refine SameButHold.trans ?_ (SameButHold.put _ (by decide) _)
  split <;> split
  all_goals first
    | exact (SameButHold.setRf c _).trans (SameButHold.put _ (by decide) _)
    | exact SameButHold.setRf c _

theorem SameButHold.cutKeyed : SameButHold c c.cutKeyed := by
  unfold Chip.cutKeyed
  split
  · exact ((SameButHold.countAir c).trans (SameButHold.latch _ (by decide))).trans (SameButHold.endTx _)
  · exact SameButHold.refl c

theorem SameButHold.holdPa : SameButHold c c.holdPa := by
  unfold Chip.holdPa
  split
  · exact SameButHold.refl c
  · exact SameButHold.cutKeyed c

theorem SameButHold.endHeldPulse (n : Bool) : SameButHold c (c.endHeldPulse n) := by
  unfold Chip.endHeldPulse
  split
  · exact SameButHold.setTp c n _
  · exact SameButHold.refl c

theorem SameButHold.hold : SameButHold c c.hold :=
  (((SameButHold.countAir c).trans (SameButHold.holdPa _)).trans (SameButHold.endHeldPulse _ _)).trans (SameButHold.endHeldPulse _ _)

/-! ## The end of a command -/

@[simp] theorem Chip.settle_free : c.settle.free = c.free := by
  have h := congrArg Chip.free (SameButHold.hold c.flush).rest
  exact h.trans (Chip.flush_free c)
@[simp] theorem Chip.settle_fold : c.settle.fold = c.fold := by
  have h := congrArg Chip.fold (SameButHold.hold c.flush).rest
  exact h.trans (Chip.flush_fold c)
@[simp] theorem Chip.settle_eng : c.settle.eng = c.eng := by
  have h := congrArg Chip.eng (SameButHold.hold c.flush).rest
  exact h.trans (Chip.flush_eng c)
@[simp] theorem Chip.settle_rot : c.settle.rot = c.rot := by
  have h := congrArg Chip.rot (SameButHold.hold c.flush).rest
  exact h.trans (Chip.flush_rot c)
@[simp] theorem Chip.settle_pas : c.settle.pas = c.pas := by
  have h := congrArg Chip.pas (SameButHold.hold c.flush).rest
  exact h.trans (Chip.flush_pas c)
@[simp] theorem Chip.settle_co : c.settle.co = c.co := by
  have h := congrArg Chip.co (SameButHold.hold c.flush).rest
  exact h.trans (Chip.flush_co c)
@[simp] theorem Chip.settle_crook : c.settle.crook = c.crook := by
  have h := congrArg Chip.crook (SameButHold.hold c.flush).rest
  exact h.trans (Chip.flush_crook c)
@[simp] theorem Chip.settle_guard : c.settle.guard = c.guard := by
  have h := congrArg Chip.guard (SameButHold.hold c.flush).rest
  exact h.trans (Chip.flush_guard c)
@[simp] theorem Chip.settle_prt : c.settle.prt = c.prt := by
  have h := congrArg Chip.prt (SameButHold.hold c.flush).rest
  exact h.trans (Chip.flush_prt c)
@[simp] theorem Chip.settle_bst : c.settle.bst = c.bst := by
  have h := congrArg Chip.bst (SameButHold.hold c.flush).rest
  exact h.trans (Chip.flush_bst c)
@[simp] theorem Chip.settle_dma : c.settle.dma = c.dma := by
  have h := congrArg Chip.dma (SameButHold.hold c.flush).rest
  exact h.trans (Chip.flush_dma c)
@[simp] theorem Chip.settle_gn : c.settle.gn = c.gn := by
  have h := congrArg Chip.gn (SameButHold.hold c.flush).rest
  exact h.trans (Chip.flush_gn c)
@[simp] theorem Chip.settle_lnk : c.settle.lnk = c.lnk := by
  have h := congrArg Chip.lnk (SameButHold.hold c.flush).rest
  exact h.trans (Chip.flush_lnk c)
@[simp] theorem Chip.settle_shp : c.settle.shp = c.shp := by
  have h := congrArg Chip.shp (SameButHold.hold c.flush).rest
  exact h.trans (Chip.flush_shp c)
@[simp] theorem Chip.settle_pwr : c.settle.pwr = c.pwr := by
  have h := congrArg Chip.pwr (SameButHold.hold c.flush).rest
  exact h.trans (Chip.flush_pwr c)
@[simp] theorem Chip.settle_hif : c.settle.hif = c.hif := by
  have h := congrArg Chip.hif (SameButHold.hold c.flush).rest
  exact h.trans (Chip.flush_hif c)
@[simp] theorem Chip.settle_bus : c.settle.bus = c.bus := by
  have h := congrArg Chip.bus (SameButHold.hold c.flush).rest
  exact h.trans (Chip.flush_bus c)
@[simp] theorem Chip.settle_ret : c.settle.ret = c.ret := by
  have h := congrArg Chip.ret (SameButHold.hold c.flush).rest
  exact h.trans (Chip.flush_ret c)
@[simp] theorem Chip.settle_mem : c.settle.mem = c.mem := by
  have h := congrArg Chip.mem (SameButHold.hold c.flush).rest
  exact h.trans (Chip.flush_mem c)

/-- The end of a command leaves every register as it is but those of event routing and of the transmitter. -/
theorem Chip.settle_rd {a : Nat} (h : flushReg a = false) (k : holdReg a = false) : c.settle.rd a = c.rd a :=
  ((SameButHold.hold c.flush).rd a k).trans (c.flush_rd h)

theorem Chip.settle_get {f : Fld} (h : flushReg f.addr = false) (k : holdReg f.addr = false) : c.settle.get f = c.get f := by
  simp [Chip.get, c.settle_rd h k]

theorem Chip.settle_bit {f : Fld} (h : flushReg f.addr = false) (k : holdReg f.addr = false) : c.settle.bit f = c.bit f := by
  simp [Chip.bit, c.settle_get h k]

@[simp] theorem Chip.hold_evt : c.hold.evt = c.evt := by
  have h := congrArg Chip.evt (SameButHold.hold c).rest
  exact h

@[simp] theorem Chip.settle_batch : c.settle.evt.batch = [] := by simp [Chip.settle]

@[simp] theorem Chip.endHeldPulse_rf (n : Bool) : (c.endHeldPulse n).rf = c.rf := by
  unfold Chip.endHeldPulse
  split <;> rfl

@[simp] theorem Chip.endHeldPulse_regs (n : Bool) : (c.endHeldPulse n).regs = c.regs := by
  unfold Chip.endHeldPulse
  split <;> rfl

theorem Chip.paAllowed_congr {c d : Chip} (h : d.regs = c.regs) (k : d.rf = c.rf) : d.paAllowed = c.paAllowed := by
  simp only [Chip.paAllowed, Chip.bit_congr h, k]

theorem Chip.tpHeld_congr {c d : Chip} (n : Bool) (h : d.regs = c.regs) (k : d.tp n = c.tp n) : d.tpHeld n = c.tpHeld n := by
  simp only [Chip.tpHeld, Chip.bit_congr h, k]

@[simp] theorem Chip.showTx_rf : c.showTx.rf = c.rf := rfl

theorem Chip.endTx_keyed : c.endTx.rf.keyed = false := by
  unfold Chip.endTx
  split <;> simp
  split <;> simp

theorem Chip.cutKeyed_keyed : c.cutKeyed.rf.keyed = false := by
  unfold Chip.cutKeyed
  split
  · exact Chip.endTx_keyed _
  · rename_i h
    simpa using h

/-- After `holdPa` the PA is keyed only where it may be. -/
theorem Chip.holdPa_safe : Sys2Proof.paSafe c.holdPa = true := by
  unfold Chip.holdPa
  split
  · simp [Sys2Proof.paSafe, *]
  · simp [Sys2Proof.paSafe, Chip.cutKeyed_keyed]

@[simp] theorem Chip.setTp_now (n : Bool) (t : TpSt) : (c.setTp n t).now = c.now := by cases n <;> rfl

/-- Each slot unit keyed so far has been counted. -/
theorem Chip.countAir_safe : Sys2Proof.airSafe c.countAir = true := by
  unfold Chip.countAir Sys2Proof.airSafe
  cases hc : c.rf.cur with
  | none => simp [hc]
  | some t =>
    simp only
    split
    · simp [hc, Chip.now]
    · rename_i h
      cases hk : c.rf.keyed <;> simp_all

theorem airSafe_congr {c d : Chip} (h : d.rf = c.rf) (k : d.now = c.now) : Sys2Proof.airSafe d = Sys2Proof.airSafe c := by
  simp only [Sys2Proof.airSafe, h, k]

theorem Chip.holdPa_air (h : Sys2Proof.airSafe c = true) : Sys2Proof.airSafe c.holdPa = true := by
  unfold Chip.holdPa
  split
  · exact h
  · simp [Sys2Proof.airSafe, Chip.cutKeyed_keyed]

/-- After every command each slot unit keyed so far has been counted (R292). -/
theorem Chip.hold_air : Sys2Proof.airSafe c.hold = true := by
  have h := Chip.holdPa_air c.countAir (Chip.countAir_safe c)
  rw [← h]
  exact airSafe_congr (by simp [Chip.hold]) (by unfold Chip.hold Chip.endHeldPulse; repeat' split <;> simp)

end Sys2Proof.Machine
end

