-- ==== Sys2Proof/Laws/Issue.lean ====
section
/-! SUPPORT. Issue.lean (laws): what issuing an instruction does where nothing but the instruction itself happens. -/

namespace Sys2Proof.Machine

variable (c : Chip)

/-! ## A device that is settled stays as it is -/

theorem Chip.setTp_self (n : Bool) : c.setTp n (c.tp n) = c := by
  cases n <;> rfl

theorem Chip.endHeldPulse_id (n : Bool) (h : Sys2Proof.tpSafe c n = true) : c.endHeldPulse n = c := by
  unfold Chip.endHeldPulse
  split
  · rename_i hh
    have ha : (c.tp n).active = false := by simpa [Sys2Proof.tpSafe, hh] using h
    have : ({ c.tp n with active := false } : TpSt) = c.tp n := by
      rw [← ha]
    rw [this, Chip.setTp_self]
  · rfl

theorem Chip.holdPa_id (h : Sys2Proof.paSafe c = true) : c.holdPa = c := by
  unfold Chip.holdPa
  split
  · rfl
  · rename_i hh
    have hk : c.rf.keyed = false := by simpa [Sys2Proof.paSafe, hh] using h
    simp [Chip.cutKeyed, hk]

theorem Chip.countAir_id (h : Sys2Proof.airSafe c = true) : c.countAir = c := by
  unfold Chip.countAir
  cases hc : c.rf.cur with
  | none => rfl
  | some t =>
    simp only
    split
    · rename_i hh
      have := hh.2
      simp [Sys2Proof.airSafe, hh.1, hc] at h
      omega
    · rfl

/-- The end of a command changes nothing of a device in which nothing waits to be routed and all that must hold holds. -/
theorem Chip.settle_id (s : State) (h : Sys2Proof.safe s = true) : s.chip.settle = s.chip := by
  simp only [Sys2Proof.safe, Bool.and_eq_true] at h
  obtain ⟨⟨⟨⟨hp, ha⟩, h0⟩, h1⟩, he⟩ := h
  have hb : s.chip.evt.batch = [] := by simpa [Sys2Proof.evtSettled] using he
  simp only [Chip.settle, Chip.flush_nil _ hb, Chip.hold, Chip.countAir_id _ ha, Chip.holdPa_id _ hp, Chip.endHeldPulse_id _ _ h0,
    Chip.endHeldPulse_id _ _ h1]

/-- What a device must show to be settled depends on its registers, transmitter, time pulses and event fabric alone. -/
theorem safe_congr {s t : State} (hr : t.chip.regs = s.chip.regs) (hf : t.chip.rf = s.chip.rf) (ht : t.chip.time = s.chip.time)
    (he : t.chip.evt = s.chip.evt) : Sys2Proof.safe t = Sys2Proof.safe s := by
  have htp : ∀ n, t.chip.tp n = s.chip.tp n := by intro n; simp [Chip.tp, ht]
  have hn : t.chip.now = s.chip.now := by simp [Chip.now, ht]
  simp only [Sys2Proof.safe, Sys2Proof.paSafe, Sys2Proof.tpSafe, Sys2Proof.evtSettled, airSafe_congr hf hn, hf, he, htp,
    Chip.paAllowed_congr hr hf, Chip.tpHeld_congr _ hr (htp _)]

/-! ## The program counter -/

theorem Core.lcAt_nil (k : Core) (h : k.lc = []) (i : Nat) : k.lcAt i = 0 := by simp [Core.lcAt, h, KMap.get]

theorem Core.loopCheck_nil (k : Core) (h : k.lc = []) (next : Nat) : ∀ n, Core.loopCheck next n k = (k, next, none)
  | 0 => rfl
  | n + 1 => by rw [Core.loopCheck, if_pos (Core.lcAt_nil k h n)]; exact Core.loopCheck_nil k h next n

/-- Outside slots and block repeats the program goes on behind the instruction. -/
theorem Core.stepSeq_plain (k : Core) (hl : k.lc = []) (hs : k.slot = .none) (next body : Nat) (f : Nat → Nat → Bool) :
    k.stepSeq next .seq body f = { k with pc := next } := by
  simp [Core.stepSeq, Core.loopCheck_nil k hl, hs]

@[simp] theorem Chip.core_setCore (w : Proc) (k : Core) : (c.setCore w k).core w = k := by
  cases w with
  | engine n => simp [Chip.setCore, Chip.core, Chip.setEngine, Chip.engine]
  | crook => rfl

theorem Chip.setCore_setCore (w : Proc) (k l : Core) : (c.setCore w k).setCore w l = c.setCore w l := by
  cases w with
  | engine n => simp [Chip.setCore, Chip.setEngine, Chip.engine, KMap.set_set]
  | crook => rfl

theorem Chip.advancePc_seq (w : Proc) (len : Nat) (hl : (c.core w).lc = []) (hs : (c.core w).slot = .none) :
    c.advancePc w len .seq = c.setCore w { c.core w with pc := Sys2Proof.pcAfter w (c.core w) len } := by
  unfold Chip.advancePc
  simp only [hs, Core.stepSeq_plain _ hl hs, Sys2Proof.pcAfter]

/-! ## Issue -/

theorem Chip.landTo_nil (w : Proc) (cyc : Nat) (h : (c.core w).pend = []) : c.landTo w cyc = c := by
  simp [Chip.landTo, h]

@[simp] theorem atIssue_core (w : Proc) : (Sys2Proof.atIssue c w).core w = c.core w := by cases w <;> rfl

theorem atIssue_tail (w : Proc) : (Sys2Proof.atIssue c w).tailCycle = c.tailCycle := by cases w <;> rfl

theorem canIssue_tail (n : Fin 17) (h : c.canIssue (.engine n) = true) : (c.core (.engine n)).cyc < c.tailCycle := by
  simp only [Chip.canIssue, Bool.and_eq_true, decide_eq_true_eq] at h
  exact h.2

/-- With nothing raised since the first `n` occurrences no instant changes. -/
theorem Chip.restamp_id (n : Nat) (t : Int) (h : c.evt.batch.length ≤ n) : c.restamp n t = c := by
  unfold Chip.restamp
  rw [if_pos h]

@[simp] theorem Chip.core_restamp (n : Nat) (t : Int) (w : Proc) : (c.restamp n t).core w = c.core w := by
  unfold Chip.restamp
  split
  · rfl
  · cases w <;> rfl

/-- One iteration of an instruction that is not nullified and does not trap. -/
theorem Chip.iterate_one (w : Proc) (px : Px) (body : Body) (c2 : Chip) (ws : List (Nat × Wr)) (f : Flow)
    (ht : w.isCrook = true ∨ (c.core w).cyc < c.tailCycle) (hp : (c.core w).pend = [])
    (hn : Ctx.nullified ⟨w, c.core w, px⟩ = false) (hb : body c ⟨w, c.core w, px⟩ = .ok (c2, ws, f)) :
    Chip.iterate w px body 1 c = .done ((Sys2Proof.issued c c2 w).setCore w { c2.core w with
      pend := (c2.core w).pend ++ ws.map (fun p => ((c.core w).cyc + p.1, p.2)), cyc := (c.core w).cyc + 1 }) f := by
  have hc : (!w.isCrook && decide (c.tailCycle ≤ (c.core w).cyc)) = false := by
    rcases ht with h | h
    · simp [h]
    · simp; intro; omega
  simp only [Chip.iterate, hc, Chip.landTo_nil c w _ hp, hn, hb]
  simp [Sys2Proof.issued]

@[simp] theorem atIssue_evt (w : Proc) : (Sys2Proof.atIssue c w).evt = c.evt := by cases w <;> rfl

@[simp] theorem atIssue_instant (w v : Proc) : (Sys2Proof.atIssue c w).instant v = c.instant v := by cases w <;> cases v <;> rfl

@[simp] theorem issued_atIssue (d : Chip) (w : Proc) :
    Sys2Proof.issued (Sys2Proof.atIssue c w) d w = Sys2Proof.issued c d w := by
  simp [Sys2Proof.issued]

@[simp] theorem core_issued (d : Chip) (w v : Proc) : (Sys2Proof.issued c d w).core v = d.core v := by
  simp [Sys2Proof.issued]

/-- An instruction that raises nothing has nothing stamped. -/
theorem issued_id (d : Chip) (w : Proc) (h : d.evt.batch.length ≤ c.evt.batch.length) : Sys2Proof.issued c d w = d :=
  Chip.restamp_id _ _ _ h

/-- Issuing an instruction whose body answers (R126, R164): the shared law of every instruction. -/
theorem Chip.issue_plain (w : Proc) (px : Px) (e : Enc) (body : Body) (c2 : Chip) (ws : List (Nat × Wr)) (f : Flow)
    (hi : Sys2Proof.plainIssue c w px e = true) (hn : Ctx.nullified ⟨w, c.core w, px⟩ = false)
    (hb : body (Sys2Proof.atIssue c w) ⟨w, c.core w, px⟩ = .ok (c2, ws, f)) :
    c.issue w px e body = ((Sys2Proof.issued c c2 w).setCore w { c2.core w with
      pend := (c2.core w).pend ++ ws.map (fun p => ((c.core w).cyc + p.1, p.2)),
      cyc := (c.core w).cyc + 1 }).advancePc w (instrLen px e) f := by
  simp only [Sys2Proof.plainIssue, Bool.and_eq_true, decide_eq_true_eq, List.isEmpty_iff, Option.isNone_iff_eq_none] at hi
  obtain ⟨⟨⟨⟨⟨⟨⟨hcan, hpend⟩, hslot⟩, hfetch⟩, henc⟩, hpriv⟩, hrep⟩, hleft⟩ := hi
  have hpriv' : (w.isCrook && privileged e.op && !c.crook.mode.getLsbD 0) = false := by
    cases hw : w.isCrook <;> cases hp : privileged e.op <;> cases hm : c.crook.mode.getLsbD 0 <;> simp_all
  have h1 := Chip.iterate_one (Sys2Proof.atIssue c w) w px body c2 ws f
  simp only [atIssue_core, atIssue_tail, issued_atIssue] at h1
  have ht : w.isCrook = true ∨ (c.core w).cyc < c.tailCycle := by
    cases w with
    | engine n => exact .inr (canIssue_tail c n hcan)
    | crook => exact .inl rfl
  have h2 := h1 ht hpend hn hb
  have hr : Ctx.repCount ⟨w, c.core w, px⟩ = 1 := by simp [Ctx.repCount, hrep]
  unfold Chip.issue
  simp only [hcan, Chip.landTo_nil c w _ hpend, hslot, hfetch, hr, hpriv', hrep]
  cases w with
  | engine n =>
    simp only [Proc.isCrook] at *
    simp_all [Sys2Proof.atIssue]
  | crook =>
    simp only [Proc.isCrook] at *
    simp_all [Sys2Proof.atIssue]

/-- Outside slots and block repeats an instruction that goes on in program order moves on behind itself. -/
theorem Chip.issue_seq (w : Proc) (px : Px) (e : Enc) (body : Body) (c2 : Chip) (ws : List (Nat × Wr))
    (hi : Sys2Proof.plainIssue c w px e = true) (hn : Ctx.nullified ⟨w, c.core w, px⟩ = false)
    (hb : body (Sys2Proof.atIssue c w) ⟨w, c.core w, px⟩ = .ok (c2, ws, .seq))
    (hl : (c2.core w).lc = []) (hs : (c2.core w).slot = .none) :
    c.issue w px e body = Sys2Proof.moveOn (Sys2Proof.issued c c2 w) w (c.core w).cyc (instrLen px e) ws := by
  rw [Chip.issue_plain c w px e body c2 ws .seq hi hn hb, Chip.advancePc_seq]
  · simp [Chip.setCore_setCore, Sys2Proof.moveOn, Sys2Proof.pcAfter]
  · simpa using hl
  · simpa using hs

end Sys2Proof.Machine
end

