-- ==== Sys2Proof/Laws/Field.lean ====
section
/-! SUPPORT. Field.lean (laws): what a field reads as after it or another field of its register was set, and what the end of a
command leaves of the registers and the transmitter where the PA may stay as it is. -/

namespace Sys2Proof.Machine

variable (c : Chip)

theorem Fld.testBit_of (f : Fld) (w : Word) (i : Nat) :
    (f.of w).testBit i = (decide (i < f.width) && w.getLsbD (i + f.lo)) := by
  simp [Fld.of, Nat.testBit_mod_two_pow, Nat.testBit_div_two_pow, BitVec.getLsbD]

theorem Fld.getLsbD_mask (f : Fld) (i : Nat) :
    f.mask.getLsbD i = (decide (i < 32) && (decide (f.lo ≤ i) && decide (i < f.lo + f.width))) := by
  unfold Fld.mask
  rw [BitVec.getLsbD_ofNat, Nat.mul_comm, Nat.testBit_two_pow_mul, Nat.testBit_two_pow_sub_one]
  by_cases h : f.lo ≤ i
  · have : (i - f.lo < f.width) ↔ (i < f.lo + f.width) := by omega
    simp [h, this]
  · simp [h]

theorem Fld.getLsbD_ins (f : Fld) (w : Word) (v i : Nat) (hi : i < 32) :
    (f.ins w v).getLsbD i = if f.lo ≤ i ∧ i < f.lo + f.width then v.testBit (i - f.lo) else w.getLsbD i := by
  unfold Fld.ins
  rw [BitVec.getLsbD_or, BitVec.getLsbD_and, BitVec.getLsbD_not, Fld.getLsbD_mask, BitVec.getLsbD_ofNat, Nat.mul_comm,
    Nat.testBit_two_pow_mul, Nat.testBit_mod_two_pow]
  by_cases h : f.lo ≤ i
  · by_cases k : i < f.lo + f.width
    · have : i - f.lo < f.width := by omega
      simp [h, k, hi, this]
    · have : ¬ i - f.lo < f.width := by omega
      simp [h, k, hi, this]
  · simp [h, hi]

/-- What a field reads as after it was set. -/
theorem Fld.of_ins (f : Fld) (h : f.lo + f.width ≤ 32) (w : Word) (v : Nat) : f.of (f.ins w v) = v % 2 ^ f.width := by
  apply Nat.eq_of_testBit_eq
  intro i
  rw [Fld.testBit_of, Nat.testBit_mod_two_pow]
  by_cases k : i < f.width
  · rw [Fld.getLsbD_ins _ _ _ _ (by omega)]
    have : f.lo ≤ i + f.lo ∧ i + f.lo < f.lo + f.width := by omega
    simp [k, this]
  · simp [k]

/-- Setting a field leaves every other field of the register. -/
theorem Fld.of_ins_disj (f g : Fld) (hg : g.lo + g.width ≤ 32) (h : g.lo + g.width ≤ f.lo ∨ f.lo + f.width ≤ g.lo) (w : Word)
    (v : Nat) : g.of (f.ins w v) = g.of w := by
  apply Nat.eq_of_testBit_eq
  intro i
  rw [Fld.testBit_of, Fld.testBit_of]
  by_cases k : i < g.width
  · rw [Fld.getLsbD_ins _ _ _ _ (by omega)]
    have : ¬ (f.lo ≤ i + g.lo ∧ i + g.lo < f.lo + f.width) := by omega
    simp [k, this]
  · simp [k]

theorem Chip.get_put_self (f : Fld) (h : f.lo + f.width ≤ 32) (v : Nat) : (c.put f v).get f = v % 2 ^ f.width := by
  have := Fld.of_ins f h (c.rd f.addr) v
  simpa [Chip.get, Chip.put, Fld.of] using this

theorem Chip.get_put_disj {f g : Fld} (ha : g.addr = f.addr) (hg : g.lo + g.width ≤ 32)
    (h : g.lo + g.width ≤ f.lo ∨ f.lo + f.width ≤ g.lo) (v : Nat) : (c.put f v).get g = c.get g := by
  have := Fld.of_ins_disj f g hg h (c.rd f.addr) v
  simpa [Chip.get, Chip.put, Fld.of, ha] using this

/-- A one-bit field that was set to 1, and to 0. -/
theorem Chip.bit_put_self (f : Fld) (h : f.lo + f.width ≤ 32) (v : Nat) : (c.put f v).bit f = decide (v % 2 ^ f.width ≠ 0) := by
  simp [Chip.bit, c.get_put_self f h v]

theorem Chip.bit_put_disj {f g : Fld} (ha : g.addr = f.addr) (hg : g.lo + g.width ≤ 32)
    (h : g.lo + g.width ≤ f.lo ∨ f.lo + f.width ≤ g.lo) (v : Nat) : (c.put f v).bit g = c.bit g := by
  simp [Chip.bit, c.get_put_disj ha hg h v]

/-! ## The end of a command that leaves the PA as it may be -/

theorem Chip.flush_bit {f : Fld} (h : flushReg f.addr = false) : c.flush.bit f = c.bit f := by
  have e : c.flush.get f = c.get f := by simp [Chip.get, c.flush_rd h]
  simp [Chip.bit, e]

theorem Chip.flush_paSafe : Sys2Proof.paSafe c.flush = Sys2Proof.paSafe c := by
  have h : c.flush.paAllowed = c.paAllowed := by
    unfold Chip.paAllowed
    rw [c.flush_bit (f := F.GUARD_GATE_tx) (by decide), c.flush_bit (f := F.SYS_FEAT2_radio_fused) (by decide),
      c.flush_bit (f := F.CLK_STAT_locked) (by decide), c.flush_bit (f := F.RF_STAT_synth_lock) (by decide),
      c.flush_bit (f := F.RF_CTRL_tx_en) (by decide), c.flush_rf]
  simp [Sys2Proof.paSafe, h]

theorem Chip.flush_airSafe : Sys2Proof.airSafe c.flush = Sys2Proof.airSafe c := airSafe_congr (by simp) (by simp [Chip.now])

theorem Chip.settle_rf_of (h : Sys2Proof.paSafe c = true) (a : Sys2Proof.airSafe c = true) : c.settle.rf = c.rf := by
  have hp : Sys2Proof.paSafe c.flush = true := by rw [Chip.flush_paSafe, h]
  have ha : Sys2Proof.airSafe c.flush = true := by rw [Chip.flush_airSafe, a]
  simp [Chip.settle, Chip.hold, Chip.countAir_id _ ha, Chip.holdPa_id _ hp]

theorem Chip.settle_regs_of (h : Sys2Proof.paSafe c = true) (a : Sys2Proof.airSafe c = true) : c.settle.regs = c.flush.regs := by
  have hp : Sys2Proof.paSafe c.flush = true := by rw [Chip.flush_paSafe, h]
  have ha : Sys2Proof.airSafe c.flush = true := by rw [Chip.flush_airSafe, a]
  simp [Chip.settle, Chip.hold, Chip.countAir_id _ ha, Chip.holdPa_id _ hp]

theorem Chip.settle_rd_of (h : Sys2Proof.paSafe c = true) (a : Sys2Proof.airSafe c = true) {r : Nat} (k : flushReg r = false) :
    c.settle.rd r = c.rd r := by
  rw [Chip.rd_congr (c.settle_regs_of h a), c.flush_rd k]

theorem Chip.settle_get_of (h : Sys2Proof.paSafe c = true) (a : Sys2Proof.airSafe c = true) {f : Fld} (k : flushReg f.addr = false) :
    c.settle.get f = c.get f := by
  simp [Chip.get, c.settle_rd_of h a k]

theorem Chip.settle_bit_of (h : Sys2Proof.paSafe c = true) (a : Sys2Proof.airSafe c = true) {f : Fld} (k : flushReg f.addr = false) :
    c.settle.bit f = c.bit f := by
  simp [Chip.bit, c.settle_get_of h a k]

end Sys2Proof.Machine
end

