-- ==== Sys2Proof/Laws/Mem.lean ====
section
/-! SUPPORT. Mem.lean (laws): the canonical form, said as an order on the keys, and that block writes keep it too; memory has it at
reset. -/

namespace Sys2Proof.Machine

variable {α : Type}

theorem KMap.wfFrom_iff [DecidableEq α] (f : Nat → α) (m : KMap α) : ∀ lo, KMap.wfFrom f lo m = true ↔
    (∀ e ∈ m, KMap.below lo e.1 = true) ∧ m.Pairwise (fun a b => a.1 < b.1) ∧ ∀ e ∈ m, e.2 ≠ f e.1 := by
  induction m with
  | nil => intro lo; simp [KMap.wfFrom]
  | cons e m ih =>
    obtain ⟨j, v⟩ := e
    intro lo
    rw [KMap.wfFrom_cons]
    simp only [Bool.and_eq_true, decide_eq_true_eq, ih, List.pairwise_cons, List.mem_cons, forall_eq_or_imp]
    have hb : ∀ k, KMap.below (some j) k = true ↔ j < k := fun k => by simp [KMap.below]
    simp only [hb]
    constructor
    · rintro ⟨⟨h1, h2⟩, h3, h4, h5⟩
      refine ⟨⟨h1, fun e he => ?_⟩, ⟨fun e he => h3 e he, h4⟩, h2, h5⟩
      have := h3 e he
      cases lo with
      | none => rfl
      | some l =>
        have hl : l < j := by simpa [KMap.below] using h1
        simp [KMap.below]; omega
    · rintro ⟨⟨h1, _⟩, ⟨h3, h4⟩, h2, h5⟩
      exact ⟨⟨h1, h2⟩, h3, h4, h5⟩

/-- The canonical form: rising keys, and no entry equal to what an unlisted key reads as. -/
theorem KMap.wf_iff [DecidableEq α] (f : Nat → α) (m : KMap α) :
    KMap.wf f m = true ↔ m.Pairwise (fun a b => a.1 < b.1) ∧ ∀ e ∈ m, e.2 ≠ f e.1 := by
  rw [KMap.wf, KMap.wfFrom_iff]
  simp [KMap.below]

/-- A block between what lies below it and what lies above it. -/
theorem KMap.wf_splice [DecidableEq α] (f : Nat → α) {lo hi : Nat} (hlh : lo ≤ hi) (b m : KMap α) (hm : KMap.wf f m = true)
    (hb : b.Pairwise (fun x y => x.1 < y.1)) (hd : ∀ e ∈ b, lo ≤ e.1 ∧ e.1 < hi ∧ e.2 ≠ f e.1) :
    KMap.wf f ((m.filter fun e => decide (e.1 < lo)) ++ b ++ (m.filter fun e => decide (hi ≤ e.1))) = true := by
  rw [KMap.wf_iff] at hm ⊢
  have below : ∀ x ∈ m.filter (fun e => decide (e.1 < lo)), x.1 < lo := fun x hx => by simpa using (List.mem_filter.1 hx).2
  have above : ∀ x ∈ m.filter (fun e => decide (hi ≤ e.1)), hi ≤ x.1 := fun x hx => by simpa using (List.mem_filter.1 hx).2
  refine ⟨?_, ?_⟩
  · rw [List.pairwise_append, List.pairwise_append]
    refine ⟨⟨hm.1.filter _, hb, fun x hx y hy => ?_⟩, hm.1.filter _, fun x hx y hy => ?_⟩
    · have := below x hx
      have := (hd y hy).1
      omega
    · have := above y hy
      rcases List.mem_append.1 hx with hx | hx
      · have := below x hx
        omega
      · have := (hd x hx).2.1
        omega
  · intro e he
    rcases List.mem_append.1 he with he | he
    · rcases List.mem_append.1 he with he | he
      · exact hm.2 e (List.mem_filter.1 he).1
      · exact (hd e he).2.2
    · exact hm.2 e (List.mem_filter.1 he).1

/-- Entries at rising offsets from `lo`, those equal to the default left out. -/
theorem KMap.block_wf [DecidableEq α] (d : α) (lo n : Nat) (g : Nat → α) :
    let b : KMap α := (List.range n).filterMap fun i => if g i = d then none else some (lo + i, g i)
    b.Pairwise (fun x y => x.1 < y.1) ∧ ∀ e ∈ b, lo ≤ e.1 ∧ e.1 < lo + n ∧ e.2 ≠ d := by
  refine ⟨?_, fun e he => ?_⟩
  · refine List.Pairwise.filterMap _ (fun i j hij x hx y hy => ?_) List.pairwise_lt_range
    split at hx
    · simp at hx
    · split at hy
      · simp at hy
      · simp only [Option.some.injEq] at hx hy
        subst hx hy
        simpa using hij
  · obtain ⟨i, hi, h⟩ := List.mem_filterMap.1 he
    split at h
    · simp at h
    · rename_i hg
      simp only [Option.some.injEq] at h
      subst h
      exact ⟨by simp, by simpa using hi, hg⟩

/-- Replacing a block keeps the canonical form. -/
theorem KMap.wf_refill [DecidableEq α] (d : α) (lo n : Nat) (g : Nat → α) (m : KMap α) (h : KMap.wf (fun _ => d) m = true) :
    KMap.wf (fun _ => d) (KMap.refill d lo n g m) = true := by
  obtain ⟨h1, h2⟩ := KMap.block_wf d lo n g
  exact KMap.wf_splice (fun _ => d) (Nat.le_add_right lo n) _ m h h1 h2

theorem Mem.wf_clear (a n : Nat) (m : Mem) (h : m.wf = true) : (Mem.clear a n m).wf = true := KMap.wf_keep _ _ m h

theorem Mem.wf_keep (p : Nat → Bool) (m : Mem) (h : m.wf = true) : Mem.wf (KMap.keep p m) = true := KMap.wf_keep _ _ m h

/-- Copying a list of bytes into memory keeps the canonical form. -/
theorem Mem.wf_place (a : Nat) (bs : List Byte) (m : Mem) (h : m.wf = true) : (Mem.place a bs m).wf = true := by
  have e : ((List.range bs.length).zip bs) = (List.range bs.length).map fun i => (i, bs.getD i 0) := by
    apply List.ext_getElem
    · simp
    · intro i h1 h2
      simp at h1
      simp [h1]
  unfold Mem.place
  rw [e, List.filterMap_map]
  obtain ⟨h1, h2⟩ := KMap.block_wf (0 : Byte) a bs.length (fun i => bs.getD i 0)
  exact KMap.wf_splice (fun _ => (0 : Byte)) (Nat.le_add_right a _) _ m h h1 h2

/-- Memory has the canonical form at reset. -/
theorem State.reset_mem_wf : State.reset.chip.mem.wf = true ∧ State.reset.chip.ret.wf = true := ⟨rfl, rfl⟩

end Sys2Proof.Machine
end

