-- ==== Sys2Proof/Machine/Pins.lean ====
section
/-! DEFINITION. Pins.lean: what the output balls show, read from the state (R44 to R47, R207 to R212, R284, R308, R435, R453, R459). -/

namespace Sys2Proof.Machine

/-- HIRQ_N: low while something needs attention; released, it is undriven or driven high (R453). -/
def Chip.pinHirqN (c : Chip) : Option Bool := if c.hirq then some false else if c.bit F.HIF_CFG_pp then some true else none

/-- WAKE_OUT (R435). -/
def Chip.pinWakeOut (c : Chip) : Bool := c.bit F.PWR_WAKE_alarm || c.bit F.RF_WAKE_STAT_hit0 || c.bit F.RF_WAKE_STAT_hit1

/-- TPn: its active level within a pulse, else the inactive level (R44, R47). -/
def Chip.pinTp (c : Chip) (n : Bool) : Bool :=
  let t := c.tp n
  t.active != t.cfg.pol

/-- GPk: none where the device does not drive it (R284, R459). -/
def Chip.pinGp (c : Chip) (k : Nat) : Option Bool :=
  if c.bit F.GUARD_GATE_gpio && decide (k < 24) && (c.rd R.SYS_GPIO_OE).getLsbD k then some ((c.rd R.SYS_GPIO_OUT).getLsbD k) else none

/-- MCKn drives CLK_AUD (R209); else it is low. -/
def Chip.pinMck (c : Chip) (n : Bool) : Bool := if n then c.bit F.PRT_MCK_mck1 else c.bit F.PRT_MCK_mck0

/-! ## BCK, FSY and the data of a master group (R207, R208, R211, R212) -/

/-- The root cycle within a frame of BCK rising edge `i` of a master group's serial frame (R208). -/
def Chip.riseEdge (c : Chip) (g i : Nat) : Nat :=
  let b := c.grpSlots g * c.grpWidth g
  ((2 * i + 1) * c.framePeriod + b - 1) / (2 * b)

/-- Falling and rising edges of BCK since the frame boundary, in a master group that runs. -/
def Chip.falls (c : Chip) (g : Nat) : Nat :=
  ((List.range (c.grpSlots g * c.grpWidth g)).filter fun i => decide (c.fallEdge g i ≤ c.sinceBoundary)).length
def Chip.rises (c : Chip) (g : Nat) : Nat :=
  ((List.range (c.grpSlots g * c.grpWidth g)).filter fun i => decide (c.riseEdge g i ≤ c.sinceBoundary)).length

/-- BCK of a group: not driven by a slave or a disabled group (R207), low while a master is halted (R211). -/
def Chip.pinBck (c : Chip) (g : Nat) : Option Bool :=
  if !c.grpEn g || !c.grpMaster g then none else some (c.grpRuns g && decide (c.falls g ≤ c.rises g))

/-- FSY at falling edge `e` of a serial frame of slots of width `w` (R212). -/
def fsyLevel (fmt w e : Nat) : Bool :=
  if fmt = 0 then decide (w ≤ e) else if fmt = 1 then decide (e < w) else decide (e = 0)

/-- FSY of a group. -/
def Chip.pinFsy (c : Chip) (g : Nat) : Option Bool :=
  if !c.grpEn g || !c.grpMaster g then none
  else some (c.grpRuns g && fsyLevel (c.get (F.PRT_GRP_CFG_fmt g)) (c.grpWidth g) (c.falls g - 1))

/-- SDLn of an output lane of a master group in the slot in progress, MSB first (R212, R216); none where the lane does not drive. -/
def Chip.pinSdl (c : Chip) (n : Nat) : Option Bool :=
  let g := c.laneGrp n
  let b := c.grpSlots g * c.grpWidth g
  let k := (c.falls g - 1 + b - c.slotEdge g 0) % b % c.grpWidth g
  if !c.laneEn n || !c.laneOut n || !c.grpMaster g || !c.grpRuns g then none
  else (c.lane n).pin.map fun w => w.getLsbD (31 - k)

/-- Does the fold drive the output lane (R216, R459)? -/
def Chip.pinLaneDriven (c : Chip) (n : Nat) : Bool := c.laneEn n && c.laneOut n

/-- Is the PA keyed (R308)? In a wake frame for each 1 bit, of 10 µs (R315, R318). -/
def Chip.pinPa (c : Chip) : Bool :=
  c.rf.keyed && (match c.rf.cur with
    | some t => !t.isWake || decide (c.rf.air[(c.now - t.keyAt) * 3125 / 92160000]? = some 1)
    | none => true)

/-- DDR_CKE0 (R252). -/
def Chip.pinCke (c : Chip) : Bool := c.bit F.DMA_DDR_CTRL_en

/-! ## The TAP's data registers (R13, R407) -/

/-- The data register that an instruction of the TAP selects, by IEEE 1149.1. -/
inductive TapReg where
  | bypass
  | idcode
  | boundary
  | debug
  | scan
  deriving DecidableEq, Repr

def tapReg (ir : Byte) : TapReg :=
  if ir = 0xFF then .bypass else if ir = 0x01 then .idcode else if ir = 0x30 then .debug else if ir = 0x31 then .scan else .boundary

/-- What the selected register captures, first bit out first: one 0 for BYPASS, and for IDCODE the identification with its bit 0 at 1.
The spec lists no cells of the boundary-scan register, and no command row shifts the TAP (assumption 130). -/
def Chip.tapCapture (c : Chip) : Option (List Bool) :=
  match tapReg c.shp.tap with
  | .bypass => some [false]
  | .idcode => some (true :: (List.range 31).map fun i => Config.idcode.getLsbD (i + 1))
  | _ => none

end Sys2Proof.Machine
end

