-- ==== Sys2Proof/WellFormed.lean ====
section
/-! DEFINITION. WellFormed.lean: what an operand must be for a command to be one that the outside world can give. The types bound
most operands; what they leave is checked here. `exec` is total on ill-formed terms too. -/

namespace Sys2Proof

/-- A codeword as received has 32 check bytes beside its information (R354). -/
def RxWord.wf (w : RxWord) : Bool := decide (w.rx.length = w.info.length + 32)

/-- The header codeword of a burst as received: 16 information bytes (R355). -/
def RxWord.header (w : RxWord) : Bool := w.wf && decide (w.info.length = 16)

/-- A burst carries a header codeword and codewords of 223 information bytes (R354, R356). -/
def BurstRx.wf (b : BurstRx) : Bool := b.hdr.header && b.words.all fun w => w.wf && decide (w.info.length = 223)

/-- A sample of 12 bits or fewer fits a signed 16-bit part. -/
def iqFits (x : Int × Int) : Bool := decide (x.1.natAbs < 2 ^ 15 ∧ x.2.natAbs < 2 ^ 15)

/-- No unit is listed twice. -/
def distinctUnits : List TestRes → Bool
  | [] => true
  | t :: l => l.all (fun x => !decide (x.unit = t.unit)) && distinctUnits l

/-- The codes of the host interface's commands (R447). -/
def isHostCode (b : Byte) : Bool := b == 0x02 || b == 0x22 || b == 0x0B || b == 0x2B || b == 0x32 || b == 0x05

/-- The instruction codes of the TAP that have rows of their own (R407). -/
def isTapRow (b : Byte) : Bool := b == 0xFF || b == 0x01 || b == 0x30 || b == 0x31

/-- Is the command well formed? -/
def Instr.wellFormed : Instr → Bool
  | .rootPllLock n32k => decide (n32k ≤ 33)
  | .frameStart _ bits _ => decide (1 ≤ bits)
  | .gapSlotGrant _ cycle => decide (cycle < 15360)
  | .illegalEncoding _ bytes => decide (bytes ≠ [] ∧ bytes.length ≤ 8)
  | .monitorScan bins => decide (bins.length = 2048)
  | .notchAdapt _ xs => decide (xs.length ≤ 1024) && xs.all iqFits
  | .captureEnd samples => samples.all iqFits
  | .dump _ xs => xs.all iqFits
  | .startTestEnd res => distinctUnits res
  | .beacon b => b.wf
  | .audioBurst b => b.wf
  | .uplink b => b.wf
  | .joinRequest b => b.wf
  | .strayUnit m => m.burst.all RxWord.header
  | .write _ _ tail => decide (tail < 8)
  | .writeFixed _ _ tail => decide (tail < 8)
  | .stream _ tail => decide (tail < 8)
  | .badCommand code => !isHostCode code
  | .boundaryScan ir => !isTapRow ir
  | _ => true

end Sys2Proof
end

