-- ==== Sys2Proof/Tests/Slice0.lean ====
section
/-! SUPPORT. Slice0.lean: the model's own tests. Ill-formed terms that WellFormed refuses; for every statement with hypotheses a
theorem that shows states and operands that meet them; and single steps whose results the spec's worked examples or a hand
calculation from its rules give. -/

namespace Sys2Proof.Tests

set_option Elab.async false

open Sys2Proof Sys2Proof.Machine

/-! ## States for tests -/

/-- The device with the given fields set. -/
def setF (c : Chip) (l : List (Fld × Nat)) : Chip := l.foldl (fun c e => c.put e.1 e.2) c

/-- A register word with the given fields. -/
def word (l : List (Fld × Nat)) : Word := l.foldl (fun w e => e.1.ins w e.2) 0

/-- The root locked, at STC `stc` and fraction 0, the crook at the privileged level. -/
def up (stc : Nat) : Chip :=
  setF { Chip.powerOn with time := { TimeSt.zero with rootOn := true, stc := stc }, crook := { CrookSt.zero with mode := 1 } }
    [(F.CLK_STAT_locked, 1)]

/-- A fold with one role and one paddock. -/
def fold1 : Fold where
  foldId := 7
  rate := 0
  mck := 0
  clkCtrl := 0
  flocks := [(1, 0)]
  pads := [⟨0, 0, 16⟩]
  sched := List.replicate 768 0xFF
  groups := []
  lanes := []
  routes := []
  corr := []
  plan := none
  guard := []
  tree := none

/-- A fold in force and the shepherd passed, at STC `stc`. -/
def running (stc : Nat) : Chip :=
  setF { up stc with
      fold := { FoldSt.zero with cur := some fold1 }
      shp := { ShpSt.zero with stage := .passed }
      pas := { PasSt.zero with pads := fold1.pads, sched := fold1.sched } }
    [(F.FOLD_STAT_loaded, 1), (F.PWR_STAT_state, 1), (F.SHP_STAT_phase, 3)]

/-- Engine 0 holds role 0 in state `st`; engine 1 is the spare. -/
def engines (stc st : Nat) : Chip :=
  setF (running stc) [(F.SE_STAT_state 0, st), (F.SE_STAT_role 0, 0), (F.FOLD_ENGINE_status 0, 1), (F.SE_STAT_state 1, seSpare),
    (F.SE_ROT_STAT_spare, 1)]

/-- The crook released at user or privileged level, without protection. -/
def crookUp (mode : BitVec 3) : Chip :=
  let c := setF (running 0) [(F.CRK_STAT_running, 1)]
  { c with crook := { CrookSt.zero with mode := mode, vbase := 0x1000 } }

/-- Engine `n` running. -/
def engineUp (n : Fin 17) : Chip := setF (running 0) [(F.SE_STAT_state n.val, seRunning)]

/-- Every case is a settled state in which its row is ready. -/
def allReady (ready : Chip → Instr → Bool) (l : List (Chip × Instr)) : Bool := l.all fun e => safe ⟨[], e.1⟩ && ready e.1 e.2

/-! ## Every clause of a row's statement has a state that is ready for it -/

/-- A valid time-pulse configuration of one second, in use. -/
def pps : TpCfg := ⟨true, false, false, 1, 0, 0, 1000, 0⟩

/-- The register words of `pps`. -/
def ppsShadow : List (Fld × Nat) := [(F.TIME_TP_CTRL_en 0, 1), (F.TIME_TP_PER_S_per_s 0, 1), (F.TIME_TP_WIDTH_width 0, 1000)]

def clockCases : List (Chip × Instr) := [
  (Chip.powerOn, .rootPllLock 33),
  (setF Chip.powerOn [(F.PWR_STAT_state, 4)], .rootPllLock 0),
  (setF { Chip.powerOn with shp := { ShpSt.zero with stage := .passed } } [(F.PWR_STAT_state, 4)], .rootPllLock 20),
  (up 5, .clkUnlock),
  (setF { up 5 with evt := { EvtSt.zero with active := [⟨Ev.CLK_UNLOCK, locNone, false, 0, 0⟩] } } [(F.CLK_STAT_locked, 0)], .rootPllRelock),
  (up 192, .steeringStep),
  ((up 192).wr R.CLK_TARGET 300, .steeringStep),
  (setF ((up 192).wr R.CLK_MANUAL 0x80000000) [(F.CLK_STAT_state, stManual)], .steeringStep),
  (up 384, .sourceSelection),
  (setF (up 384) [(F.CLK_CTRL_sat_en, 1), (F.CLK_STAT_sat_valid, 1)], .sourceSelection),
  (setF (up 10) [(F.CLK_CTRL_sat_en, 1)], .clkPerrSatWrite .crook 77),
  (setF (up 10) [(F.CLK_CTRL_sat_en, 1), (F.CLK_CTRL_loop_en, 1), (F.CLK_STAT_sat_valid, 1), (F.CLK_STAT_src, 0), (F.CLK_STAT_state, stAcq)],
    .clkPerrSatWrite .crook 0xFFFFFF00),
  (setF (up (192 * 2200)) [(F.CLK_STAT_sat_valid, 1), (F.CLK_STAT_src, 0), (F.CLK_STAT_state, stLocked)], .satTimeout),
  (setF (up (384 * 60)) [(F.CLK_STAT_link_valid, 1)], .linkTimeout),
  (setF (up (192 * 2500)) [(F.CLK_STAT_tmark_valid, 1)], .tmarkTimeout),
  (setF (up (192 * 2500)) [(F.CLK_STAT_state, stHold), (F.CLK_HOLD_hold_lim, 1)], .holdLimit),
  (setF (up 3) [(F.CLK_CTRL_loop_en, 1)], .loopEnable .crook 0),
  (setF (up 3) [(F.CLK_STAT_sat_valid, 1), (F.CLK_STAT_src, 0), (F.CLK_STAT_state, stManual)], .loopEnable .crook (word [(F.CLK_CTRL_loop_en, 1), (F.CLK_CTRL_sat_en, 1)])),
  (setF (up 3) [(F.CLK_STAT_link_valid, 1), (F.CLK_STAT_src, 1), (F.CLK_STAT_state, stFree)], .loopEnable .crook (word [(F.CLK_CTRL_loop_en, 1), (F.CLK_CTRL_link_en, 1)])),
  (setF (up 3) [(F.CLK_STAT_tmark_valid, 1), (F.CLK_STAT_src, 2), (F.CLK_STAT_state, stFree)], .loopEnable .crook (word [(F.CLK_CTRL_loop_en, 1), (F.CLK_CTRL_tmark_en, 1)])),
  (running 1, .frameBoundary),
  (engines 1 seRunning, .frameBoundary),
  (running 384, .superframeBoundary),
  (up 192000, .wholeSecond),
  (setF { up 99 with time := { (up 99).time with frac := 15359 } } [], .stcSnapshot .crook),
  (up 0xFFFFFFFF1, .stcSnapshot (.dma 3)),
  (setF (up 7) [(F.SHP_STAT_phase, 3)], .stcSnapshot .host),
  ((up 7).wr R.TIME_LOAD_LO 500, .stcLoadRequest .crook (word [(F.TIME_LOAD_CTRL_go, 1), (F.TIME_LOAD_CTRL_frac, 15359)])),
  (engines 7 seRunning, .stcLoadRequest .crook (word [(F.TIME_LOAD_CTRL_go, 1)])),
  (setF ((engines 192000 seRunning).wr R.TIME_LOAD_LO 384000) [(F.TIME_LOAD_CTRL_go, 1)], .stcLoadApply),
  (up 7, .tpApplyRequest .crook true (word [(F.TIME_TP_CTRL_apply 1, 1)])),
  (setF (up 192000) ([(F.TIME_TP_CTRL_apply 0, 1)] ++ ppsShadow), .tpConfigApply false),
  (setF (up 192000) [(F.TIME_TP_CTRL_apply 1, 1)], .tpConfigApply true),
  (setF { up 191999 with time := { (up 191999).time with tp0 := ⟨pps, false, 0, 0⟩ } } [(F.GUARD_GATE_gpio, 1)], .timePulseStart false),
  (setF { up 5 with time := { (up 5).time with tp1 := ⟨pps, true, 80000, 0⟩ } } [(F.GUARD_GATE_gpio, 1)], .timePulseEnd true),
  (setF (up 0x100000007) [(F.TIME_TMARK_CTRL_en, 1)], .tmarkEdge false),
  (setF (up 7) [(F.TIME_TMARK_CTRL_en, 1), (F.TIME_TMARK_CTRL_edge, 1), (F.TIME_TMARK_CTRL_new, 1)], .tmarkEdge true),
  (setF ((up 7).wr R.TIME_TMARK_CAP_LO 0x12345678) [(F.TIME_TMARK_CTRL_new, 1)], .tmarkCapRead .crook)]

theorem witness_clock_rows : allReady clockReady clockCases = true := by decide +kernel


/-- A load that has passed its checks and waits, or whose B has come. -/
def loading (stc st : Nat) (zeroing : Bool) : Chip :=
  setF { running stc with fold := { FoldSt.zero with cur := some fold1, next := some { fold1 with foldId := 9, rate := 1 }, bAt := 768, rAt := 1152, zeroing := zeroing } }
    [(F.FOLD_STAT_state, st)]

def foldCases : List (Chip × Instr) := [
  (running 8, .foldGo .crook (word [(F.FOLD_CTRL_go, 1)])),
  (running 8, .foldGo .crook (word [(F.FOLD_CTRL_go, 1), (F.FOLD_CTRL_at_time, 1), (F.FOLD_CTRL_hold, 1)])),
  (setF (running 8) [(F.FOLD_STAT_state, 1)], .foldChecksEnd),
  (loading 768 2 false, .foldApply),
  (loading 800 3 true, .foldZeroingEnd),
  (loading 1152 3 true, .foldDone),
  (setF (loading 1152 3 true) [(F.PWR_STAT_state, 0)], .foldDone)]

theorem witness_fold_rows : allReady foldReady foldCases = true := by decide +kernel

/-- Engine 0 with its requests this many boundaries away. -/
def requested (stc st runIn stopIn : Nat) : Chip :=
  let c := engines stc st
  c.setEngine 0 { c.engine 0 with runIn := runIn, stopIn := stopIn, core := { Core.zero with p := [(3, 5)], outw := [(1, 9)] } }

def engineCases : List (Chip × Instr) := [
  (engines 1 seStopped, .runReq .crook 0 (word [(F.SE_CTRL_run_req 0, 1)])),
  (engines 1 seRunning, .runReq .crook 0 (word [(F.SE_CTRL_run_req 0, 1)])),
  (engines 1 seRunning, .stopReq .crook 0 (word [(F.SE_CTRL_stop_req 0, 1)])),
  (requested 1 seArmed 2 1, .stopReq .crook 0 (word [(F.SE_CTRL_stop_req 0, 1)])),
  (engines 1 seStopped, .engineClear .crook 0 (word [(F.SE_CTRL_clr 0, 1)])),
  (requested 4 seArmed 1 0, .roleStart 0),
  (requested 4 seRunning 0 1, .roleStop 0),
  (requested 4 seArmed 1 1, .roleStop 0),
  (setF (requested 4 seStopped 0 0) [(F.SE_CTRL_clr 0, 1)], .engineClearDone 0),
  (engines 1 seRunning, .forcedFrameEnd 0),
  (setF (engines 1 seRunning) [(F.SE_OVR_CNT_count 0, 0xFFFF), (F.SE_CTRL_ovr_stop 0, 1)], .forcedFrameEnd 0)]

theorem witness_engine_control_rows : allReady engineReady engineCases = true := by decide +kernel

/-- A handover of role 0 from engine 0 to engine 1 at H = 768, at STC `stc`, with the spare in state `st`. -/
def handing (stc st phase : Nat) : Chip :=
  setF { requested stc seRunning 0 0 with rot := { RotSt.zero with cur := some (0, 0, 1, 768) } }
    [(F.SE_STAT_state 1, st), (F.SE_ROT_STAT_phase, phase)]

def rotationCases : List (Chip × Instr) := [
  (setF (engines 384 seRunning) [(F.SE_ROT_CTRL_en, 1), (F.SE_ROT_CTRL_per, 1)], .rotationDue),
  ({ handing 760 seSpare 1 with mem := [(0x20000000, 1), (0x2000BFFF, 2)] }, .programCopy),
  (handing 764 sePrep 2, .scratchMirror),
  (handing 765 sePrep 3, .stateCopy),
  (handing 768 sePrep 3, .twinFrameStart),
  (handing 769 seTwin 4, .twinCompare),
  ({ handing 769 seTwin 4 with rot := { RotSt.zero with cur := some (0, 0, 1, 768), storesE := [(5, 2, 1, 1)] } }, .twinCompare),
  (handing 772 seTwin 4, .handover)]

theorem witness_rotation_rows : allReady rotationReady rotationCases = true := by decide +kernel


/-- The start sequence at a stage, the root locked. -/
def starting (st : Stage) : Chip := { up 0 with shp := { ShpSt.zero with stage := st } }

/-- A bundle header of 1,248 bytes with one CROOK section at offset 288 of length 4 and its entry point. -/
def header1 : List Byte :=
  [0x42, 0x4E, 0x44, 0x4C, 1, 0, 1, 0, 0x24, 1, 0, 0, 0, 0, 0, 0, 0x10, 0, 0, 0] ++ List.replicate 108 0 ++
    [1, 0, 0, 0, 0x20, 1, 0, 0, 4, 0, 0, 0] ++ List.replicate 1108 0

/-- A bundle under way from flash, `next` sections verified. -/
def booting (st : Stage) (src next : Nat) : Chip :=
  let c := starting st
  { c with shp := { c.shp with boot := some ⟨src, header1, next, none, [], 292, [], true, false⟩ } }

def startCases : List (Chip × Instr) := [
  (starting .sense, .fuseRepair),
  ({ starting .sense with shp := { ShpSt.zero with stage := .sense, weak := [(49, 2)], fuse := [(0, 0x101)] } }, .fuseRepair),
  ({ starting .sense with shp := { ShpSt.zero with stage := .sense, weak := [(49, 2)], dud := [(49, 2)] } }, .fuseRepair),
  (starting .test, .startTestEnd [⟨.engine 3, 1, 2⟩]),
  (setF (starting .test) [(F.SHP_STAT_phase, 4)], .startTestEnd []),
  (starting .select, .headerCheck),
  (booting .verify 0 1, .sectionVerify),
  ({ booting .passing 0 1 with fold := { FoldSt.zero with next := some fold1 } }, .pass),
  (setF { booting .passing 0 1 with fold := { FoldSt.zero with next := some fold1 } } [(F.CRK_STAT_running, 1)], .pass),
  (starting .hold, .mbDataWrite .host 7),
  ({ booting .verify 2 0 with shp := { (booting .verify 2 0).shp with boot := some ⟨2, [], 0, none, [], 2000, [], true, false⟩ } },
    .mbDataWrite .host 7),
  ({ booting .verify 2 0 with shp := { (booting .verify 2 0).shp with boot := some ⟨2, [], 0, none, [], 2000, [1], false, false⟩ } },
    .streamTimeout),
  (running 4, .dbgEnter),
  (setF (running 4) [(F.SHP_STAT_lc, 1)], .dbgEnter),
  (running 4, .scanEnter),
  (Chip.powerOn, .bypass),
  (Chip.powerOn, .idcode)]

theorem witness_start_rows : allReady startReady startCases = true := by decide +kernel

theorem witness_boundary_scan : startReady Chip.powerOn (.boundaryScan 0x05) = true := by decide +kernel

/-- A device that has passed, unfused. -/
def passedUp (args : List (Nat × Word)) : Chip := args.foldl (fun c a => c.wr a.1 a.2) (running 4)

/-- A mailbox command under way on the host channel. -/
def commanded (m : MbCmd) (q : List Bool) : Chip :=
  let c := setF (running 4) [(F.SHP_MB_STAT_busy 0, 1)]
  { c with shp := { c.shp with hostCmd := some m, burnQ := q } }

def mailboxCases : List (Chip × Instr) := [
  (setF ((starting .hold).wr (R.SHP_MB_ARG0 0) 2000) [(F.SHP_STAT_phase, 4)], .loadStream .host),
  (setF (starting .hold) [(F.SHP_STAT_phase, 4)], .bootFlash .host),
  (passedUp [(R.SHP_MB_ARG0 0, 0), (R.SHP_MB_ARG1 0, 4)], .fuseProg .host),
  (setF (passedUp [(R.SHP_MB_ARG0 1, 0)]) [(F.SHP_STAT_lc, 1)], .arbAdvance .crook),
  (setF { passedUp [(R.SHP_MB_ARG0 1, 1)] with shp := { (running 4).shp with shadow := [(1, 7), (13, 9)] } } [(F.SHP_STAT_lc, 1), (F.SHP_CTR_key, 0)], .revoke .crook),
  (setF { running 4 with shp := { (running 4).shp with shadow := [(1, 7)] } } [], .lcSecure .host),
  (setF { passedUp [(R.SHP_MB_ARG0 0, 1)] with shp := { (running 4).shp with key := List.replicate 96 1 } } [(F.SHP_STAT_lc, 1)], .challenge .host),
  (setF { running 4 with shp := { (running 4).shp with key := List.replicate 96 1, chal := some (List.replicate 48 2) } } [(F.SHP_STAT_lc, 1)],
    .respond .host),
  ({ passedUp [(R.SHP_MB_ARG0 1, 1)] with shp := { (running 4).shp with gatePass := 13 } }, .gateSet .crook),
  (passedUp [(R.SHP_MB_ARG0 1, 9)], .gateSet .crook),
  (passedUp [(R.SHP_MB_ARG0 1, 18)], .resetReq .crook),
  (passedUp [(R.SHP_MB_ARG0 1, 1)], .resetReq .crook),
  (setF (passedUp [(R.SHP_MB_ARG0 1, 2)]) [(F.FOLD_STAT_state, 2)], .resetReq .crook),
  (commanded ⟨0x41, 0, 0, some 0, []⟩ [], .mailboxDone .host),
  (commanded ⟨0x20, 0, 4, none, [(0, 2)]⟩ [true], .mailboxDone .host)]

theorem witness_mailbox_rows : allReady mailboxReady mailboxCases = true := by decide +kernel

def powerCases : List (Chip × Instr) := [
  (running 4, .sleepCommand .host (word [(F.PWR_CMD_sleep, 1)])),
  (setF { running 768 with pwr := { PwrSt.zero with qAt := 768 } } [(F.PWR_STAT_state, 2)], .sleepEntry),
  (setF { running 768 with pwr := { PwrSt.zero with qAt := 768, atQ := true }, mem := [(3, 4)] } [(F.PWR_STAT_state, 2)], .sleepEntered),
  (setF Chip.powerOn [(F.PWR_STAT_state, 3)], .wake),
  (setF (starting .passed) [(F.PWR_STAT_state, 4)], .wakeDigest),
  (setF { running 768 with fold := { FoldSt.zero with next := some fold1 } } [(F.PWR_STAT_state, 4), (F.FOLD_STAT_loaded, 0)], .wakeApply),
  (setF (loading 1152 3 true) [(F.PWR_STAT_state, 4)], .runReady),
  (setF Chip.powerOn [(F.PWR_WAKE_alarm_en, 1)], .alarm),
  (setF (up 5) [(F.PWR_WAKE_alarm_en, 1)], .alarm),
  (running 9, .powerOnReset),
  (running 9, .retentionSupplyLoss),
  (running 9, .rstNReset),
  ({ starting .inReset with pwr := { PwrSt.zero with rstN := false } }, .rstNRelease),
  (running 9, .pwrGoodReset),
  ({ starting .inReset with pwr := { PwrSt.zero with pg := false } }, .pwrGoodRelease),
  (setF (running 9) [(F.PWR_WAKE_alarm_en, 1)], .hostSoftReset .host 0xC3C3),
  (setF (running 9) [(F.PWR_TEMP_thr, 100)], .pwrOvertemp 400),
  (setF (running 9) [(F.PWR_TEMP_thr, 100), (F.PWR_STAT_otemp, 1)], .overtempEnd 388)]

theorem witness_power_rows : allReady powerReady powerCases = true := by decide +kernel


/-- A device with units under test and verdicts waiting. -/
def tested (stc : Nat) (t : List RunTest) (v : List Verdict) : Chip :=
  { engines stc seRunning with bst := { BstSt.zero with tests := t, verdicts := v } }

/-- Bank 0 holds logical bank 0; bank 48 is the spare. -/
def banked (stc : Nat) : Chip :=
  setF (running stc) [(F.FOLD_BANK_status 0, 1), (F.FOLD_BANK_logical 0, 0), (F.FOLD_BANK_status 48, 2), (F.PAS_ROT_STAT_spare, 48)]

def testCases : List (Chip × Instr) := [
  (tested 5 [⟨.engine 3, 1, 0⟩] [], .testComplete (.engine 3) 201856 0x5D3A91C4),
  (tested 5 [⟨.bank 48, 2, 0⟩] [], .testComplete (.bank 48) 1310720 0x0E7B26F0),
  (tested 5 [⟨.bank 0, 3, 0⟩] [], .testDeadline (.bank 0) 7 0),
  (setF (tested 8 [] [⟨.engine 3, true, true⟩]) [(F.SE_STAT_state 3, seTest)], .testStateChange (.engine 3)),
  (setF (tested 8 [] [⟨.engine 3, false, true⟩]) [(F.SE_STAT_state 3, seTest)], .testStateChange (.engine 3)),
  ({ banked 8 with bst := { BstSt.zero with verdicts := [⟨.bank 5, true, true⟩] } }, .testStateChange (.bank 5)),
  ({ banked 8 with bst := { BstSt.zero with verdicts := [⟨.bank 5, false, true⟩] } }, .testStateChange (.bank 5)),
  (setF (engines 384 seRunning) [(F.BST_CTRL_idle_en, 1)], .idleTestStart),
  ({ engines 384 seRunning with bst := { BstSt.zero with reqEng := some 16 } }, .idleTestStart),
  ({ engines 384 seRunning with bst := { BstSt.zero with reqEng := some 1 } }, .spareTestStart false),
  ({ banked 384 with bst := { BstSt.zero with reqBank := some 48 } }, .spareTestStart true),
  (engines 5 seRunning, .testRequest .crook (word [(F.BST_REQ_go, 1), (F.BST_REQ_unit, 16)])),
  (banked 5, .testRequest .crook (word [(F.BST_REQ_go, 1), (F.BST_REQ_bank, 1), (F.BST_REQ_unit, 48)])),
  ((running 5).wr R.BST_MARK_ENG 8, .markClear .crook 0x5A5A),
  (running 5, .shutdownRequest .host (word [(F.BST_SHUTDOWN_go, 1)])),
  (setF (running 5) [(F.BST_STAT_shut, 3)], .shutdownRequest .host (word [(F.BST_SHUTDOWN_go, 1)])),
  (setF { engines 768 seRunning with bst := { BstSt.zero with zAt := 768 } } [(F.BST_STAT_shut, 1), (F.SE_STAT_state 7, seUnusable)],
    .shutdownStart),
  (setF (running 9) [(F.BST_STAT_shut, 2)], .shutdownEnd)]

theorem witness_test_rows : allReady testReady testCases = true := by decide +kernel

/-- Window words waiting at bank 0. -/
def waiting (q : List (Nat × WinReq)) : Chip := { banked 5 with pas := { (banked 5).pas with queue := q, words := [(3, 0x55)] } }

def pastureCases : List (Chip × Instr) := [
  (setF { banked 5 with pas := { (banked 5).pas with scrubAt := some 90000 } } [(F.PAS_SCRUB_en, 1)], .scrubRequest),
  ({ waiting [(3, .crookLoad 0)] with crook := { CrookSt.zero with loads := [⟨0x1000000C, 4, .word 2, 4, none⟩] } }, .gapSlotGrant 0 5),
  ({ waiting [(3, .crookStore 0)] with crook := { CrookSt.zero with stores := [⟨0x1000000C, 4, 0x99, false⟩] } }, .gapSlotGrant 0 15359),
  ({ waiting [(3, .hostRead 0)] with hif := { HifSt.zero with cells := [.word 1, .wait 0x1000000C] } }, .gapSlotGrant 0 5),
  (waiting [(3, .hostWrite 0x77), (4, .hostWrite 0x78)], .gapSlotGrant 0 0),
  (waiting [(3, .acqWrite 0x77)], .gapSlotGrant 0 0),
  (waiting [(3, .linkWrite 0x77)], .gapSlotGrant 0 0),
  ({ banked 5 with pas := { (banked 5).pas with mirror := some ⟨0, 0, 48, 65535, 0⟩ } }, .gapSlotGrant 0 3),
  ({ banked 5 with pas := { (banked 5).pas with scrubReq := [0], scrubRow := [(0, 65535)] } }, .gapSlotGrant 0 3),
  ({ banked 5 with pas := { (banked 5).pas with scrubReq := [0], scrubBack := [7], err := [(7, 1)] } }, .gapSlotGrant 0 3),
  (setF (banked 384) [(F.PAS_ROT_CTRL_en, 1), (F.PAS_ROT_CTRL_per, 1)], .mirrorStart),
  ({ banked 384 with pas := { (banked 384).pas with mirror := some ⟨0, 0, 48, 65536, 0⟩ } }, .bankSwap)]

theorem witness_pasture_rows : allReady pastureReady pastureCases = true := by decide +kernel

/-- A glide on slot 9 of word 4, one step short of or at its last step. -/
def gliding (stc j : Nat) : Chip :=
  { running stc with co := { CoSt.zero with glides := [⟨9, 4, false, 1, 0, 0x100, j⟩], slots := [(9, 0x40020004)] } }

def coeffCases : List (Chip × Instr) := [
  (running 5, .commit .crook (word [(F.CO_COMMIT_go, 1), (F.CO_COMMIT_grp, 255)])),
  (setF (up 5) [], .commit .crook (word [(F.CO_COMMIT_go, 1)])),
  ((running 5).wr R.CO_AT_LO 16, .timedCommit .crook (word [(F.CO_COMMIT_go, 1), (F.CO_COMMIT_at_time, 1)])),
  ((up 5).wr R.CO_AT_LO 17, .timedCommit .crook (word [(F.CO_COMMIT_go, 1), (F.CO_COMMIT_at_time, 1)])),
  ({ gliding 16 1 with co := { (gliding 16 1).co with shadow := [(2, 8), (4, 0x200)], commits := [⟨0, 0, 8, some 16, 0, false⟩, ⟨1, 0, 8, some 20, 0, false⟩] } },
    .commitLand),
  (gliding 16 2, .glideEnd 9),
  (running 5, .groupDescriptorWrite .crook 255 true 0x12345),
  (running 5, .groupDescriptorWrite .crook 0 false 0xFFFFFFFF),
  (setF (running 5) [(F.CO_GLIDE_SEL_slot, 4095), (F.CO_GLIDE_SEL_ainc, 1)], .glideDataWrite .crook 0xFFFFFFFF),
  (gliding 5 1, .glideDataRead .crook),
  (setF (gliding 5 1) [(F.CO_GLIDE_SEL_slot, 9), (F.CO_GLIDE_SEL_ainc, 1)], .glideDataRead (.dma 31))]

theorem witness_coefficient_rows : allReady coeffReady coeffCases = true := by decide +kernel


/-- Clock group 0 with a lane 0, of `slots` slots of 24 bits. -/
def ported (stc : Nat) (l : List (Fld × Nat)) : Chip :=
  setF (running stc) ([(F.PRT_GRP_CFG_en 0, 1), (F.PRT_GRP_CFG_role 0, 1), (F.PRT_GRP_CFG_slots 0, 2), (F.PRT_GRP_CFG_width 0, 24),
    (F.PRT_GRP_STAT_clk_ok 0, 1), (F.PRT_LANE_CFG_en 0, 1), (F.PRT_LANE_MASK_active 0, 1), (F.GUARD_GATE_audio, 1)] ++ l)

/-- The same with the lane, the group and the alignment group outside their registers. -/
def portedWith (stc : Nat) (l : List (Fld × Nat)) (lane : Lane) (g : Grp) (a : AlignSt) : Chip :=
  { ported stc l with prt := ⟨[(0, lane)], [(0, g)], [(0, a)]⟩ }

def lane0 : Lane := { Lane.zero with serialOn := true }

def portCases : List (Chip × Instr) := [
  (ported 5 [], .groupHalt .crook 0),
  (portedWith 5 [(F.PRT_GRP_STAT_halted 0, 1)] Lane.zero { Grp.zero with relAt := some 80 } AlignSt.zero, .groupHalt .crook 0),
  (portedWith 5 [(F.PRT_GRP_CTRL_halt 0, 1)] Lane.zero { Grp.zero with haltAt := some 80 } AlignSt.zero, .groupRelease .crook 0),
  (ported 5 [(F.PRT_GRP_CTRL_halt 0, 1), (F.PRT_GRP_STAT_halted 0, 1)], .groupRelease .crook 0),
  (portedWith 8 [] Lane.zero { Grp.zero with haltAt := some 122880 } AlignSt.zero, .groupHaltEffect 0),
  (portedWith 8 [(F.PRT_GRP_STAT_halted 0, 1), (F.PRT_GRP_STAT_clk_ok 0, 0)] Lane.zero { Grp.zero with relAt := some 122880 } AlignSt.zero, .groupReleaseEffect 0),
  (ported 5 [(F.PRT_GRP_CFG_role 0, 0)], .frameStart 0 48 100),
  (portedWith 5 [(F.PRT_GRP_CFG_role 0, 0)] Lane.zero { Grp.zero with seen := true } AlignSt.zero, .frameStart 0 48 0xFFFF),
  (portedWith 5 [(F.PRT_GRP_CFG_role 0, 0), (F.PRT_GRP_STAT_clk_ok 0, 0)] Lane.zero { Grp.zero with seen := true, good := 1 } AlignSt.zero, .frameStart 0 48 0),
  (portedWith 5 [(F.PRT_GRP_CFG_role 0, 0)] Lane.zero { Grp.zero with seen := true, good := 7 } AlignSt.zero, .frameStart 0 47 0),
  (portedWith 5 [(F.PRT_GRP_CFG_role 0, 0), (F.PRT_GRP_STAT_asrc_lock 0, 1)] Lane.zero { Grp.zero with lossAt := some 80000 } AlignSt.zero, .slaveClockLoss 0),
  (portedWith 5 [(F.PRT_GRP_CFG_asrc 0, 1), (F.PRT_GRP_CFG_role 0, 0), (F.PRT_GRP_STAT_asrc_lock 0, 1)] Lane.zero { Grp.zero with lossAt := some 80000 } AlignSt.zero, .asrcLockChange 0 false 0),
  (portedWith 5 [(F.PRT_GRP_CFG_asrc 0, 1), (F.PRT_GRP_CFG_role 0, 0)] Lane.zero { Grp.zero with ratios := List.replicate 64 0x1000000 } AlignSt.zero, .asrcLockChange 0 true 0),
  (portedWith 5 [(F.PRT_GRP_CFG_asrc 0, 1), (F.PRT_GRP_CFG_role 0, 0), (F.PRT_GRP_STAT_asrc_lock 0, 1)] Lane.zero { Grp.zero with ratios := [0x1100000, 0x1000000] } AlignSt.zero, .asrcLockChange 0 false 0),
  (portedWith 5 [(F.PRT_LANE_CFG_dir 0, 1)] { lane0 with buf := [0x12345678, 2] } Grp.zero AlignSt.zero, .serialWord 0 0 0),
  (portedWith 5 [(F.PRT_LANE_CFG_dir 0, 1)] { lane0 with buf := [0x12345678, 2] } Grp.zero AlignSt.zero, .serialWord 0 1 0),
  (portedWith 5 [(F.PRT_LANE_CFG_dir 0, 1)] Lane.zero Grp.zero AlignSt.zero, .serialWord 0 0 0),
  (portedWith 5 [(F.PRT_LANE_CFG_dir 0, 1), (F.PRT_LANE_CFG_locked 0, 1)] { lane0 with outCur := [(0, some 0x12345678)] } Grp.zero AlignSt.zero, .serialWord 0 0 0),
  (portedWith 5 [] { lane0 with buf := [1] } Grp.zero AlignSt.zero, .serialWord 0 0 0x89ABCDEF),
  (portedWith 5 [(F.PRT_LANE_CFG_locked 0, 1)] lane0 Grp.zero AlignSt.zero, .serialWord 0 0 0x89ABCDEF),
  (portedWith 5 [] lane0 Grp.zero AlignSt.zero, .serialWord 0 1 0x89ABCDEF),
  (portedWith 8 [(F.PRT_LANE_STAT_waiting 0, 1), (F.PRT_LANE_STAT_state 0, laneRunning)] { lane0 with buf := [1, 2] } Grp.zero AlignSt.zero, .laneFillReached 0),
  (ported 5 [], .maskWrite .crook 0 (word [(F.PRT_LANE_MASK_mask 0, 3)]) false),
  (ported 5 [], .maskWrite .crook 0 (word [(F.PRT_LANE_MASK_mask 0, 0)]) true),
  (portedWith 5 [] { lane0 with maskPend := [(3, 0), (1, 1)] } Grp.zero AlignSt.zero, .maskApply 0),
  (ported 5 [], .laneStartRequest .crook 0 (word [(F.PRT_LANE_CTRL_start 0, 1)])),
  (portedWith 8 [(F.PRT_LANE_STAT_state 0, laneStarting)] { Lane.zero with startAt := some 122880 } Grp.zero AlignSt.zero, .laneStart 0),
  (portedWith 8 [(F.PRT_LANE_STAT_state 0, laneStopping)] { Lane.zero with startAt := some 122880, stopAt := some 122881 } Grp.zero AlignSt.zero, .laneStart 0),
  (portedWith 5 [(F.PRT_LANE_STAT_state 0, laneRunning)] lane0 Grp.zero AlignSt.zero, .laneStopRequest .crook 0 (word [(F.PRT_LANE_CTRL_stop 0, 1)])),
  (portedWith 8 [(F.PRT_LANE_STAT_state 0, laneStopping)] { lane0 with stopAt := some 122880, side := [(0, 1)] } Grp.zero AlignSt.zero, .laneStop 0),
  ((ported 5 []).wr (R.PRT_ALIGN_AT_LO 0) 16, .alignGo .crook 0 (word [(F.PRT_ALIGN_CTRL_go 0, 1)])),
  (portedWith 8 [] Lane.zero Grp.zero ⟨some 8, none⟩, .triggeredStart 0),
  (portedWith 8 [(F.PRT_LANE_STAT_state 0, laneRunning)] lane0 Grp.zero ⟨some 8, none⟩, .alignStop .crook 0 (word [(F.PRT_ALIGN_CTRL_stop 0, 1)]))]

theorem witness_port_rows : allReady portReady portCases = true := by decide +kernel


/-- A descriptor of 16 bytes from 0x100 to 0x200 in crook RAM, the last of its chain. -/
def desc0 : DescRun where
  addr := 0x40
  ctrl := 4
  len := 16
  src := 0x100
  dst := 0x200
  pat := 0
  next := 0x60
  rd := 16
  wr := 0
  fail := none
  mis := none
  txns := []

/-- Its one transaction, issued and not answered. -/
def txn0 : Txn := ⟨0, 0, 16, 0, [], [], 0, 0, false, 0, 0, [], none, false⟩

/-- Its one transaction with its four words read. -/
def txnRead : Txn := { txn0 with data := [(0, 1), (1, 2), (2, 3), (3, 4)], got := 4, ready := true }

/-- Ring 0 in state `st` with the given descriptors. -/
def ringed (st : Nat) (l : List DescRun) (m : Mem) : Chip :=
  setF { running 5 with dma := ⟨[(0, ⟨l, 1, false, none, none⟩)], 0, 0⟩, mem := m } [(F.DMA_RING_STAT_state 0, st)]

/-- `desc0` as it lies in memory, with the words it copies. -/
def descMem : Mem := [(0x40, 4), (0x44, 16), (0x49, 1), (0x4D, 2), (0x54, 0x60), (0x100, 1), (0x104, 2), (0x108, 3), (0x10C, 4)]

def aborting (c : Chip) : Chip := { c with dma := { c.dma with rings := c.dma.rings.map fun e => (e.1, { e.2 with aborting := true }) } }

/-- The requests of ring 0 issued at 76,800 root cycles or before, and the shortest timeout. -/
def hasty (c : Chip) : Chip :=
  setF { c with dma := { c.dma with rings := c.dma.rings.map fun e => (e.1, { e.2 with fetchAt := some 76800, statusAt := some 76800 }) } }
    [(F.DMA_TO_to, 1)]

def dmaCases : List (Chip × Instr) := [
  ((ringed ringIdle [] []).wr (R.DMA_RING_HEAD 0) 0x40, .ringStart .crook 0 (word [(F.DMA_RING_CTRL_start 0, 1), (F.DMA_RING_CTRL_quota 0, 64)])),
  ((ringed ringHalted [] []).wr (R.DMA_RING_HEAD 0) 0x40, .ringStart .crook 0 (word [(F.DMA_RING_CTRL_start 0, 1), (F.DMA_RING_CTRL_pause 0, 1)])),
  (ringed ringRunning [desc0] [], .ringAbort .crook 0 (word [(F.DMA_RING_CTRL_abort 0, 1)])),
  (ringed ringRunning [desc0] [], .ringPause .crook 0 (word [(F.DMA_RING_CTRL_pause 0, 1)])),
  (setF (ringed ringPaused [desc0] []) [(F.DMA_RING_CTRL_pause 0, 1)], .ringResume .crook 0 0),
  (aborting (ringed ringRunning [{ desc0 with txns := [txnRead] }] []), .ringAbortDone 0),
  (aborting (ringed ringRunning [{ desc0 with ctrl := 0x24, src := 0, txns := [{ txn0 with data := [(0, 7)], got := 1 }] }] []), .ringAbortDone 0),
  (ringed ringPausing [desc0] [], .ringPaused 0),
  ((ringed ringRunning [] descMem).wr (R.DMA_RING_CUR 0) 0x40, .descriptorFetch 0),
  (ringed ringRunning [{ desc0 with next := 0x40, ctrl := 0, wr := 16 }] descMem, .descriptorFetch 0),
  ((ringed ringRunning [] []).wr (R.DMA_RING_CUR 0) 0x50000000, .descriptorFetch 0),
  (ringed ringRunning [{ desc0 with rd := 0 }] descMem, .readTransaction 0),
  (ringed ringRunning [{ desc0 with txns := [txn0] }] descMem, .readResponse 0),
  (ringed ringRunning [{ desc0 with ctrl := 6, txns := [txn0] }] descMem, .readResponse 0),
  (ringed ringRunning [{ desc0 with ctrl := 6, dst := 0x100, txns := [txn0] }] descMem, .readResponse 0),
  (ringed ringRunning [{ desc0 with txns := [txnRead] }] [], .writeBurst 0),
  (ringed ringRunning [{ desc0 with ctrl := 5, rd := 0, pat := 0xDEADBEEF }] [], .writeBurst 0),
  (ringed ringRunning [{ desc0 with dst := 0x1F8, txns := [txnRead] }] [], .writeBurst 0),
  (ringed ringRunning [{ desc0 with len := 32, fail := some (1, 16, true), txns := [txnRead] }] [], .writeBurst 0),
  (ringed ringRunning [{ desc0 with wr := 16, txns := [{ txnRead with sent := 4, bursts := [0] }] }] [], .writeResponse 0),
  (ringed ringRunning [{ desc0 with wr := 16, txns := [{ txnRead with sent := 4, bursts := [0], err := some 4 }] }] [], .writeResponse 0),
  (hasty (ringed ringRunning [{ desc0 with txns := [txn0] }] []), .transactionTimeout 0 .read),
  (hasty (ringed ringRunning [{ desc0 with wr := 16, txns := [{ txnRead with sent := 4, bursts := [0], open_ := 2 }] }] []), .transactionTimeout 0 .write),
  (hasty (ringed ringRunning [] []), .transactionTimeout 0 .fetch),
  (hasty (ringed ringRunning [{ desc0 with wr := 16 }] []), .transactionTimeout 0 .status),
  ({ ringed ringRunning [{ desc0 with ctrl := 0x24, src := 0, txns := [txn0] }] [] with prt := ⟨[(0, { Lane.zero with buf := [7, 8] })], [], []⟩ }, .laneBeat 0),
  (ringed ringRunning [{ desc0 with ctrl := 0x44, dst := 0, txns := [txnRead] }] [], .laneBeat 0),
  (ringed ringRunning [{ desc0 with wr := 16 }] [], .descriptorEnd 0),
  (ringed ringRunning [{ desc0 with ctrl := 0, wr := 16 }] [], .descriptorEnd 0),
  (ringed ringRunning [{ desc0 with ctrl := 0, wr := 16 }, desc0] [], .descriptorEnd 0),
  (ringed ringRunning [{ desc0 with addr := 0x50000000, fail := some (7, 0, false) }] [], .descriptorEnd 0),
  (ringed ringRunning [{ desc0 with fail := some (3, 4, true) }] [], .descriptorEnd 0),
  (ringed ringRunning [{ desc0 with fail := some (6, 0, true) }] [], .descriptorEnd 0),
  (running 5, .ddrEnable .crook (word [(F.DMA_DDR_CTRL_en, 1), (F.DMA_DDR_CTRL_size, 4)])),
  (setF (running 5) [(F.DMA_DDR_STAT_ready, 1), (F.SYS_FEAT2_ext_mem, 1), (F.SYS_FEAT2_ext_size, 1)], .ddrDisable .crook 0),
  (setF (running 5) [(F.DMA_DDR_STAT_busy, 1), (F.DMA_DDR_CTRL_size, 4)], .ddrTrainingEnd true 4),
  (setF (running 5) [(F.DMA_DDR_STAT_busy, 1), (F.DMA_DDR_CTRL_size, 4)], .ddrTrainingEnd true 3),
  (setF (running 5) [(F.DMA_DDR_STAT_busy, 1), (F.DMA_DDR_CTRL_size, 4)], .ddrTrainingEnd false 4)]

theorem witness_dma_rows : allReady dmaReady dmaCases = true := by decide +kernel

def eventCases : List (Chip × Instr) := [
  ({ running 5 with evt := { EvtSt.zero with queue := [⟨0, 3, 0, 1, 0⟩, ⟨1, 4, 0, 2, 0⟩] } }, .queuePop .crook (word [(F.EVT_Q_POP_pop, 1)])),
  (running 5, .queuePop .crook (word [(F.EVT_Q_POP_pop, 1)])),
  ({ running 5 with evt := { EvtSt.zero with linger := [(9, 80000), (3, -100000000)] } }, .lingerEnd 3),
  ({ running 5 with guard := ⟨[(0, { GuardCh.zero with n := 2401 })]⟩ }, .dcLatch 0),
  (setF { running 5 with guard := ⟨[(63, { GuardCh.zero with m := 4194303, d := 1 })]⟩ } [(F.GUARD_CH_STAT_dc 63, 1)],
    .dcLatchClear .crook 63 (word [(F.GUARD_CH_STAT_dc 63, 1)])),
  (setF (running 5) [(F.GUARD_CH_STAT_dc 0, 1)], .dcLatchClear .crook 0 (word [(F.GUARD_CH_STAT_dc 0, 1)]))]

theorem witness_event_rows : allReady eventReady eventCases = true := by decide +kernel

/-- The crook with held accesses. -/
def holding (l : List HeldLoad) (t : List HeldStore) : Chip :=
  let c := crookUp 1
  { c with crook := { c.crook with loads := l, stores := t, syncing := true } }

def crookCases : List (Chip × Instr) := [
  (holding [⟨0x40001008, 4, .word 2, 4, some 0x80000000⟩] [], .crookLoadReturn),
  (holding [] [⟨0x10000000, 4, 5, true⟩, ⟨0x10000004, 4, 6, true⟩], .crookAccessComplete),
  (holding [] [⟨0x40001018, 4, 5, false⟩], .crookAccessComplete),
  ({ crookUp 0 with crook := { (crookUp 0).crook with wdWarn := true, repLeft := 7 } }, .interruptEntry),
  (setF { crookUp 2 with crook := { (crookUp 2).crook with imask := 4 } } [(F.EVT_LPEND_LO_pend, 1)], .interruptEntry),
  (running 5, .watchdogEnable .crook (word [(F.CRK_WDT_CTRL_en, 1), (F.CRK_WDT_CTRL_per, 3)])),
  (setF (running 5) [(F.CRK_WDT_CTRL_en, 1)], .watchdogEnable .crook (word [(F.CRK_WDT_CTRL_en, 1), (F.CRK_WDT_CTRL_per, 3)])),
  (setF (crookUp 1) [(F.CRK_WDT_CTRL_en, 1), (F.CRK_WDT_CTRL_per, 3), (F.CRK_WDT_STAT_stage, 1)], .watchdogKick .crook 0xA5A5),
  (setF (crookUp 1) [(F.CRK_WDT_CTRL_en, 1), (F.CRK_WDT_CTRL_per, 3)], .watchdogExpiry),
  (setF (crookUp 1) [(F.CRK_WDT_CTRL_en, 1), (F.CRK_WDT_CTRL_per, 3), (F.CRK_WDT_STAT_stage, 1)], .watchdogExpiry)]

theorem witness_crook_rows : allReady crookReady crookCases = true := by decide +kernel


def registerCases : List (Chip × Instr) := [
  (running 5, .registerWrite .crook 0x40001018 0xFFFFFFFF),
  (setF (running 5) [(F.TIME_TMARK_CTRL_new, 1)], .registerWrite (.dma 2) 0x40002060 0xFFFFFFFF),
  (setF (running 5) [(F.CLK_STAT_src, 2)], .registerWrite .host 0x40001004 0),
  (setF (running 5) [(F.EVT_SEL_id, 4)], .evtTallyRead .crook),
  ({ running 5 with evt := { EvtSt.zero with tallies := [(0, 0x30007)] } }, .evtTallyRead .crook),
  (setF (running 5) [(F.SE_CYC_max 16, 77), (F.SE_CYC_last 16, 5)], .seCycRead .crook 16),
  (setF (running 5) [(F.SE_OVR_CNT_count 0, 77)], .seOvrCntRead .host 0),
  (setF (running 5) [(F.PAS_ECC_CNT_corr, 9), (F.PAS_ECC_CNT_uncorr, 65535)], .pasEccCntRead .crook),
  (setF (running 5) [(F.PAS_MISS_CNT_count, 9)], .pasMissCntRead .crook),
  (setF (running 5) [(F.PRT_LANE_SLIP_ovr_cnt 31, 9)], .prtLaneSlipRead .crook 31),
  (setF (running 5) [(F.PRT_GRP_FERR_count 7, 9)], .prtGrpFerrRead .crook 7),
  (setF (running 5) [(F.EVT_Q_DROP_count, 9)], .evtQDropRead .crook),
  (setF (running 5) [(F.GUARD_CH_PEAK_CNT_count 63, 9)], .guardChPeakCntRead .crook 63),
  (setF (running 5) [(F.RF_OVL_CNT_count, 9)], .rfOvlCntRead .crook),
  (setF (running 5) [(F.RF_TX_LATE_CNT_count, 9)], .rfTxLateCntRead .crook),
  (setF (running 5) [(F.LNK_AUD_CNT_rec, 9)], .lnkAudCntRead .crook),
  (setF (running 5) [(F.LNK_STRAY_CNT_count, 9), (F.LNK_STRAY_CNT_next, 3)], .lnkStrayCntRead .crook),
  (setF (running 5) [(F.BST_TALLY_pass, 9)], .bstTallyRead .crook)]

theorem witness_register_rows : allReady registerReady registerCases = true := by decide +kernel

/-- The host interface holding the given words and cells. -/
def hosted (buf : List HostWord) (cells : List Cell) (todo : Nat × Nat × Bool) : Chip :=
  { banked 5 with hif := { HifSt.zero with buf := buf, cells := cells, todo := todo }, mem := [(0x10, 0xAA), (0x17, 0xBB)] }

def hostCases : List (Chip × Instr) := [
  (hosted [] [] (0, 0, false), .write 0xFFFFFFFC [1, 2] 7),
  (hosted (List.replicate 63 (.stream 1)) [] (0, 0, false), .write 0x10 [1, 2] 0),
  (hosted [] [] (0, 0, false), .writeFixed 0x40001018 [1, 2] 1),
  (hosted (List.replicate 62 (.stream 1)) [] (0, 0, false), .stream [1, 2] 0),
  (hosted [] [.error] (0, 0, false), .read 0x10 2),
  (hosted [] [.error] (0, 0, false), .read 0x40001004 1),
  (hosted [] [.error] (0, 0, false), .readFixed 0xFFFFC 3),
  (hosted [] [.error] (0, 0, false), .readFixed 0x400E0000 1),
  (setF (hosted [.stream 3] [] (0, 0, false)) [(F.HIF_STAT_err, 1), (F.HIF_IRQ_EN_mbox, 1), (F.SHP_MB_STAT_done 0, 1)], .status),
  (setF Chip.powerOn [(F.PWR_STAT_state, 3)], .status),
  (running 5, .badCommand 0x03),
  (hosted [] [.word 1, .wait 0x10000000] (0, 0, false), .cellTimeout),
  ({ hosted [] [.word 1] (0x10000004, 1, false) with pas := { (banked 5).pas with queue := [(0, .hostWrite 4)] } }, .cellTimeout),
  (hosted [.to 0x14 0x12345678, .stream 4] [] (0, 0, false), .bufferDrain),
  (hosted [.to 0x10000004 0x12345678] [] (0, 0, false), .bufferDrain),
  (hosted [.to 0x40001018 0x12345678] [] (0, 0, false), .bufferDrain),
  (hosted [.stream 4] [] (0, 0, false), .bufferDrain),
  (setF (running 5) [(F.HIF_STRM_LEN_len, 65536), (F.HIF_STRM_BASE_base, 0x04000000)], .streamEnable .host 1),
  (running 5, .streamEnable .host 1)]

theorem witness_host_rows : allReady hostReady hostCases = true := by decide +kernel


/-- A transmission of two units from unit `s` on channel 1. -/
def tx0 (s : Nat) : Tx := ⟨s, 2, 1, 5, .burst [] false 1 []⟩

/-- The radio with everything that a transmission needs: gate, fuse, root, synthesiser on channel 1, transmit enable. -/
def radio (stc : Nat) (r : RfSt) (l : List (Fld × Nat)) : Chip :=
  setF { running stc with rf := r } ([(F.GUARD_GATE_tx, 1), (F.SYS_FEAT2_radio_fused, 1), (F.RF_CTRL_tx_en, 1), (F.RF_STAT_synth_lock, 1),
    (F.RF_STAT_tx, 2), (F.RF_TX_STAT_ch, 1), (F.GUARD_RADIO_FUSE_pwr_max, 63), (F.GUARD_RADIO_FUSE_air_max, 60000),
    (F.GUARD_RADIO_LIM_air, 60000), (F.GUARD_RADIO_LIM_pwr, 3)] ++ l)

/-- The receiver: ADC enabled and valid. -/
def receiver (l : List (Fld × Nat)) : Chip :=
  setF { running 192000 with rf := { RfSt.zero with adcValid := true } } ([(F.RF_CTRL_adc_en, 1), (F.RF_STAT_rx, 1)] ++ l)

def rfCases : List (Chip × Instr) := [
  (running 5, .adcEnable .crook (word [(F.RF_CTRL_adc_en, 1)])),
  (receiver [], .adcDisable .crook 0),
  (running 5, .txEnable .crook (word [(F.RF_CTRL_tx_en, 1)])),
  (radio 5 { RfSt.zero with keyed := true, cur := some (tx0 0), counted := 2 } [], .txDisable .crook 0),
  (radio 5 { RfSt.zero with cal := some true } [], .txDisable .crook 0),
  (setF (running 5) [(F.RF_CTRL_adc_en, 1)], .adcValid),
  (setF { running 5 with rf := { RfSt.zero with gainAt := some 92160 } } [(F.RF_LNA_gain_a, 15)], .lnaGainApply),
  (setF { running 5 with rf := { RfSt.zero with rxAt := some 92160 } } [(F.RF_LNK_RX_ch, 6)], .rxRetune),
  (receiver [(F.RF_OVL_CNT_count, 65535)], .rfAdcOverload),
  ({ receiver [(F.RF_STAT_ovl, 1)] with evt := { EvtSt.zero with active := [⟨Ev.RF_ADC_OVERLOAD, locNone, false, 0, 0⟩] } }, .rfAdcOverloadEnd),
  (receiver [], .ilcUpdate ⟨3, -4, 5, -6, 130, true⟩),
  (receiver [(F.RF_STAT_rx, 2)], .ilcUpdate ⟨1, -1, 1, -1, 150, false⟩),
  (receiver [], .ilcOk 140),
  (receiver [(F.RF_STAT_rx, 2), (F.RF_STAT_ilc_ok, 1)], .ilcOk 255),
  (receiver [(F.RF_CTRL_mon_en, 1), (F.RF_MON_CTRL_thr, 10)], .monitorScan ([1, 2, 3, 1, 2, 3, 1, 2, 3] ++ List.replicate 2039 100)),
  (receiver [(F.RF_CTRL_mon_en, 1), (F.RF_MON_CTRL_thr, 255)], .monitorScan (List.replicate 2048 100)),
  (radio 5 { RfSt.zero with posted := [{ tx0 90 with ch := 6 }] } [], .synthRetune),
  (radio 5 { RfSt.zero with cal := some true, posted := [{ tx0 90 with ch := 6 }] } [], .synthRetune),
  (radio 5 { RfSt.zero with cur := some { tx0 90 with ch := 6 } } [], .synthRetune),
  (radio 5 RfSt.zero [(F.RF_STAT_synth_lock, 0), (F.RF_STAT_tx, 1)], .synthLock),
  (radio 5 RfSt.zero [], .rfSynthUnlock),
  (radio 5 { RfSt.zero with keyed := true, cur := some (tx0 0), counted := 2 } [], .rfSynthUnlock),
  (radio 5 { RfSt.zero with posted := [tx0 4, tx0 9] } [], .transmissionStart),
  (radio 5 { RfSt.zero with posted := [tx0 4] } [(F.GUARD_GATE_tx, 0)], .transmissionStart),
  (radio 5 { RfSt.zero with posted := [tx0 4] } [(F.SYS_FEAT2_radio_fused, 0)], .transmissionStart),
  (radio 5 { RfSt.zero with posted := [tx0 4] } [(F.CLK_STAT_locked, 0)], .transmissionStart),
  (radio 5 { RfSt.zero with posted := [tx0 4] } [(F.GUARD_AIR_CNT_count, 60000)], .transmissionStart),
  (radio 5 { RfSt.zero with cur := some (tx0 4) } [], .txKey),
  (radio 5 { RfSt.zero with cur := some (tx0 4) } [(F.RF_STAT_synth_lock, 0), (F.RF_TX_LATE_CNT_count, 65535)], .txKey),
  (radio 5 { RfSt.zero with cur := some { tx0 4 with units := 4, body := .wake 7 } } [], .txKey),
  (radio 5 { RfSt.zero with keyed := true, cur := some (tx0 1), counted := 1 } [], .keyedEnd),
  (radio 5 { RfSt.zero with keyed := true, cur := some { tx0 1 with units := 1, body := .burst [] true 33 [] }, counted := 1 } [], .keyedEnd),
  (radio 5 { RfSt.zero with cur := some (tx0 4) } [], .protectStart),
  (radio 5 RfSt.zero [(F.RF_STAT_protect, 1)], .protectEnd),
  (running 5, .loCalRequest .crook 1),
  (running 5, .iqCalRequest .crook (word [(F.RF_CAL_REQ_iq, 1)])),
  (radio 384 RfSt.zero [(F.RF_CAL_REQ_lo, 1)], .calStart),
  (radio 384 RfSt.zero [(F.RF_CAL_REQ_iq, 1)], .calStart),
  (radio 9 { RfSt.zero with cal := some false, calTo := 200000 } [(F.RF_CAL_REQ_lo, 1), (F.RF_STAT_tx, 4)], .calComplete 77),
  (radio 9 { RfSt.zero with cal := some true, calTo := 200000 } [(F.RF_CAL_REQ_iq, 1), (F.RF_STAT_tx, 4)], .calComplete 0),
  (setF ((running 5).wr (R.RF_WAKE_CODE0_LO) 0x1234) [(F.RF_WAKE_CTRL_en0, 1)], .wakeFrame false 0x1234),
  (running 5, .wakeTxGo .crook (word [(F.RF_WAKE_TX_CTRL_go, 1)])),
  (radio 5 RfSt.zero [], .wakeTxGo .crook (word [(F.RF_WAKE_TX_CTRL_go, 1), (F.RF_WAKE_TX_CTRL_ch, 7), (F.RF_WAKE_TX_CTRL_pwr, 63)])),
  (radio 5 RfSt.zero [], .wakeTxGo .crook (word [(F.RF_WAKE_TX_CTRL_go, 1), (F.RF_WAKE_TX_CTRL_ch, 6)]))]

theorem witness_rf_rows : allReady rfReady rfCases = true := by decide +kernel

theorem witness_ilc_ok_clear :
    rfReady (receiver [(F.RF_STAT_rx, 2), (F.RF_STAT_ilc_ok, 1)]) (.ilcOkClear 127) = true := by decide +kernel


/-- Channel 0 fed by the first down-converter, on signal 0 PRN 5, with its loops as given. -/
def tracking (stc st : Nat) (x : Chan) (l : List (Fld × Nat)) : Chip :=
  let f : Fold := { fold1 with corr := [(1, 0)], pads := [⟨0, 0, 16⟩, ⟨0x10, 0x20000, 131072⟩] }
  let c := running stc
  setF { c with
      gn := { GnSt.zero with ch := [(0, x)] }
      fold := { FoldSt.zero with cur := some f }
      pas := { c.pas with pads := f.pads }
      rf := { RfSt.zero with adcValid := true } }
    ([(F.GN_CH_STAT_state 0, st), (F.GN_CH_CFG_sig 0, 0), (F.GN_CH_CFG_prn 0, 5), (F.GN_CH_CFG_acc 0, 2), (F.GN_CH_SPACE_sp 0, 8),
      (F.GN_CH_SPACE_vsp 0, 16), (F.RF_CTRL_adc_en, 1), (F.RF_CTRL_ddc_l1, 1), (F.RF_STAT_rx, 1), (F.RF_STAT_ilc_ok, 1)] ++ l)

/-- An acquisition of GPS L1 with four registers' defaults. -/
def acquiring (st : Nat) (a : AcqSt) (l : List (Fld × Nat)) : Chip :=
  let c := tracking 200 0 Chan.zero ([(F.GN_ACQ_PRM_tc, 1), (F.GN_ACQ_PRM_nn, 1), (F.GN_ACQ_PRM_nb, 1), (F.GN_ACQ_SIG_cnt, 1), (F.GN_ACQ_STAT_state, st)] ++ l)
  { c with gn := { c.gn with acq := a } }

/-- One word short of a capture of four that began at 1 ms. -/
def acq3 : AcqSt := { AcqSt.zero with startAt := 192 * 15360, capturing := true, sh := 2, words := 4, done := 3 }

def sums0 : Sums := ⟨(1, 2), (3, 4), (100, 50), (5, 6), (7, 8)⟩

/-- Notch `i` engaged, two samples short of the end of its block. -/
def blocked (i : Nat) (l : List (Fld × Nat)) : Chip :=
  let c := receiver [(F.RF_CTRL_ddc_l1, 1), (F.RF_CTRL_ddc_l5, 1), (F.GN_NOTCH_CTRL_engaged i, 1)]
  setF { c with gn := { GnSt.zero with notch := [(i, { Notch.zero with cnt := 1022 })], l1At := c.now, l5At := c.now } } l

/-- A capture from L1 whose last sample is the next of its band. -/
def lastSample : Chip :=
  let c := acquiring acqCapture { acq3 with half := some (7, 8), made := 7 } []
  { c with gn := { c.gn with l1At := 192 * 15360 + 1248 } }

/-- A channel 29 root cycles before the end of its millisecond. -/
def nearDump : Chip :=
  let c := tracking 5 chTrack { Chan.zero with code := 1022 + 99 / 100, rate := 1023000, msNext := 1, at_ := 5 * 15360 } []
  { c with gn := { c.gn with l1At := 5 * 15360 } }

def gnCases : List (Chip × Instr) := [
  (blocked 0 [(F.GN_NOTCH_CTRL_adapt 0, 1), (F.GN_NOTCH_CTRL_k 0, 4)], .notchAdapt 0 [(1, -1), (2, 3)]),
  (blocked 7 [(F.GN_NOTCH_CTRL_k 7, 15), (F.RF_STAT_ovl, 1), (F.GN_NOTCH_CTRL_adapt 7, 1)], .notchAdapt 7 []),
  (setF { running 5 with gn := { GnSt.zero with notch := [(2, { Notch.zero with age := 16, v := (1, 2) })] } } [(F.GN_NOTCH_CTRL_engaged 2, 1), (F.GN_NOTCH_CTRL_auto 2, 1)],
    .notchDisengage 2),
  (running 5, .notchFreqWrite .crook 7 0x80000000),
  (acquiring acqIdle GnSt.zero.acq [], .acqGo .crook (word [(F.GN_ACQ_CTRL_go, 1)])),
  (acquiring acqIdle GnSt.zero.acq [(F.GN_ACQ_SIG_sig, 11)], .acqGo .crook (word [(F.GN_ACQ_CTRL_go, 1), (F.GN_ACQ_CTRL_src, 2)])),
  (running 5, .acqGo .crook (word [(F.GN_ACQ_CTRL_go, 1), (F.GN_ACQ_CTRL_src, 3)])),
  (acquiring acqCapture acq3 [(F.GN_ACQ_RES_A_valid 15, 1)], .acqAbort .crook (word [(F.GN_ACQ_CTRL_abort, 1)])),
  (acquiring acqCapture { acq3 with capturing := false, startAt := 384 * 15360 } [], .captureStart),
  (acquiring acqCapture { acq3 with fifoFull := true } [], .captureOverflow),
  (lastSample, .captureEnd [(100, -3)]),
  (acquiring acqCapture { acq3 with src := 2, done := 4 } [], .captureEnd []),
  (acquiring acqSearch { AcqSt.zero with req := { SearchReq.zero with prns := [1, 2] }, searchAt := 200 * 15360 } [(F.GN_ACQ_THR_thr, 256)], .searchEnd 0),
  (tracking 5 chIdle Chan.zero [], .channelStartRequest .crook 0 (word [(F.GN_CH_CTRL_start 0, 1)])),
  (tracking 5 chTrack Chan.zero [], .channelStartRequest .crook 0 (word [(F.GN_CH_CTRL_start 0, 1)])),
  ((tracking 384 chIdle { Chan.zero with startAt := some (384 * 15360) } []).wr (R.GN_CH_CODE 0) 0x18000, .channelStart 0),
  (tracking 5 chTrack Chan.zero [], .channelStopRequest .crook 0 (word [(F.GN_CH_CTRL_stop 0, 1)])),
  (tracking 5 chTrack Chan.zero [(F.GN_CH_CTRL_stop 0, 1)], .channelStop 0),
  (tracking 5 chTrack { Chan.zero with ready := [(sums0, (9, -9))] } [], .dump 0 []),
  (tracking 5 chPull { Chan.zero with ms := 1, sums := some sums0, ready := [(sums0, (9, -9)), (Sums.zero, (0, 0))] } [(F.GN_CH_CFG_comp 0, 2)], .dump 0 []),
  (nearDump, .dump 0 [(100, 50)]),
  (tracking 5 chTrack { Chan.zero with sums := some sums0, full := true, w := 10 } [(F.GN_CH_CFG_pll 0, 1)], .integrationEnd 0),
  (tracking 5 chTrack { Chan.zero with sums := some sums0, full := true, w := 10, lk := 50, cn0 := 90, spAvg := 9000000, sig2 := 1 } [(F.GN_CH_LOCK_thr 0, 0), (F.GN_CH_LOCK_cn0_min 0, 0)], .integrationEnd 0),
  (tracking 5 chTrack { Chan.zero with sums := some sums0, full := true, w := 10, bad := 99 } [(F.GN_CH_LOCK_thr 0, 255), (F.GN_CH_CTRL_hold 0, 1)], .integrationEnd 0),
  (tracking 5 chPull { Chan.zero with sums := some sums0, full := true, w := 10, good := 7, lk := 200 } [(F.GN_CH_LOCK_thr 0, 0), (F.GN_CH_LOCK_cn0_min 0, 0)], .integrationEnd 0),
  (tracking 5 chLost { Chan.zero with sums := some Sums.zero, full := true, w := 10 } [], .integrationEnd 0),
  (tracking 5 chTrack { Chan.zero with sums := some sums0, full := true, w := 10, aid := some 0xFFFFF000 } [], .integrationEnd 0),
  (tracking 5 chPull { Chan.zero with msIn := 255 } [(F.GN_CH_COAST_coast 0, 255)], .pullTimeout 0),
  (tracking 5 chLost { Chan.zero with msIn := 1 } [(F.GN_CH_COAST_coast 0, 0)], .coastTimeout 0),
  (tracking 5 chIdle Chan.zero [], .channelConfigWrite .crook 0 .cfg 0xFFFFFFFF),
  (tracking 5 chIdle Chan.zero [], .channelConfigWrite .crook 95 .space 0xFFFFFFFF),
  (tracking 5 chTrack Chan.zero [], .channelConfigWrite .crook 0 .space 0),
  (setF (tracking 5 chTrack { Chan.zero with w := 5, code := 7 } []) [(F.GN_CTRL_ep_en, 1)], .epoch),
  (setF { running 192000 with gn := { GnSt.zero with rateAt := some (192000 * 15360) } } [(F.GN_CTRL_rate, 3)], .epochRateApply)]

theorem witness_gn_rows : allReady gnReady gnCases = true := by decide +kernel


/-- A plan: 23 units of beacon, audio from unit 24, uplinks of nodes 1 and 2, contention, and free units. -/
def plan1 : List Nat := List.replicate 23 1 ++ [0] ++ List.replicate 56 2 ++ List.replicate 8 0x21 ++ List.replicate 8 0x22 ++
  List.replicate 16 3 ++ List.replicate 16 0

/-- The link in state `st`, with LNK_CTRL as applied. -/
def linked (stc st : Nat) (ctrl : Word) (x : LnkSt) (l : List (Fld × Nat)) : Chip :=
  let c := running stc
  setF { c with
      lnk := { x with ctrl := ctrl, plan := some plan1 }
      rf := { RfSt.zero with adcValid := true }
      pas := { c.pas with pads := [⟨0x11, 0, 4096⟩, ⟨0x12, 4096, 4096⟩] } }
    ([(F.LNK_STAT_state, st), (F.GUARD_GATE_tx, 1), (F.SYS_FEAT2_radio_fused, 1), (F.RF_CTRL_tx_en, 1), (F.RF_CTRL_adc_en, 1),
      (F.RF_CTRL_ddc_lnk, 1), (F.RF_STAT_rx, 1)] ++ l)

/-- A codeword as received without error. -/
def rxOf (info : List Byte) : RxWord := ⟨(rsEncode (bytesNat info)).map (BitVec.ofNat 8), info⟩

/-- A burst of drove 0: type, node byte, modulation and blocks, codewords, and the type's own bytes. -/
def burstOf (type node m nw : Nat) (own : List Byte) (words : List RxWord) (arr : Int) : BurstRx :=
  ⟨rxOf (padTo 16 ([BitVec.ofNat 8 (16 * type + 1), 0, 0, BitVec.ofNat 8 node, BitVec.ofNat 8 m, BitVec.ofNat 8 nw] ++ own)), words, arr⟩

def zero223 : RxWord := ⟨List.replicate 255 0, List.replicate 223 0⟩

/-- A beacon of superframe 2 whose first codeword lists node 1 and asks for a hop. -/
def beacon1 : BurstRx :=
  burstOf 1 0 5 2 [2] [rxOf (padTo 223 ((plan1.map fun x => BitVec.ofNat 8 x) ++ [0x83, 9, 0, 0, 0, 0, 0, 2, 0, 0, 0, 0x85])), zero223]
    (refInstant 768 + 48)

def ctl (l : List (Fld × Nat)) : Word := word ((F.LNK_CTRL_en, 1) :: l)
def bellCtl : Word := ctl [(F.LNK_CTRL_role, 1), (F.LNK_CTRL_admit, 1), (F.LNK_CTRL_aud_tx, 1), (F.LNK_CTRL_pwr, 9)]

def linkCases : List (Chip × Instr) := [
  ((linked 380 0 0 { LnkSt.zero with ctrlAt := some 384 } []).wr R.LNK_CTRL (ctl []), .linkControlApply),
  ((linked 380 0 0 { LnkSt.zero with ctrlAt := some 384 } []).wr R.LNK_CTRL (ctl [(F.LNK_CTRL_role, 1), (F.LNK_CTRL_node, 31)]), .linkControlApply),
  ((linked 380 4 (ctl []) { LnkSt.zero with ctrlAt := some 384, table := [(1, some 5)] } []).wr R.LNK_CTRL 0, .linkControlApply),
  ((linked 380 2 (ctl []) { LnkSt.zero with ctrlAt := some 384 } [(F.LNK_STAT_aligned, 1)]).wr R.LNK_CTRL (ctl [(F.LNK_CTRL_join, 1)]), .linkControlApply),
  (linked 770 1 (ctl []) LnkSt.zero [], .beacon beacon1),
  (linked 770 2 (ctl [(F.LNK_CTRL_join, 1)]) LnkSt.zero [], .beacon beacon1),
  (linked 770 3 (ctl [(F.LNK_CTRL_join, 1)]) LnkSt.zero [], .beacon beacon1),
  (linked 770 4 (ctl []) LnkSt.zero [(F.LNK_STAT_node, 1)], .beacon beacon1),
  (linked 770 4 (ctl []) LnkSt.zero [(F.LNK_STAT_node, 2)], .beacon beacon1),
  (linked 770 5 (ctl []) LnkSt.zero [(F.LNK_STAT_node, 2)], .beacon { beacon1 with words := [zero223, zero223] }),
  (setF { linked 770 2 (ctl []) LnkSt.zero [(F.LNK_RX_STRIDE_stride, 128)] with pas := { (running 770).pas with pads := [⟨0x11, 0, 4096⟩] } } [],
    .audioBurst (burstOf 2 0 (64 + 4) 2 [1, 0, 1, 0x01, 1] [zero223, zero223] 0)),
  (linked 770 2 (ctl []) LnkSt.zero [(F.LNK_AUD_CNT_lost, 65535)], .audioBurst (burstOf 2 0 (64 + 4) 2 [7, 0, 0, 0x11, 1] [zero223, zero223] 0)),
  (linked 770 6 bellCtl LnkSt.zero [], .uplink (burstOf 3 0x41 1 0 [4] [] (refInstant (768 + 3 * 80) - 24))),
  (linked 770 2 (ctl []) LnkSt.zero [], .uplink (burstOf 3 1 1 0 [4] [] (refInstant (768 + 3 * 80)))),
  (linked 770 6 bellCtl LnkSt.zero [], .joinRequest (burstOf 4 0x20 1 0 [1, 2, 3, 4, 5, 6] [] 0)),
  (linked 770 6 bellCtl { LnkSt.zero with table := [(1, some 0x060504030201)] } [], .joinRequest (burstOf 4 0x20 1 0 [1, 2, 3, 4, 5, 6] [] 0)),
  (linked 770 1 (ctl []) LnkSt.zero [(F.LNK_LBT_stray_thr, 90)], .strayUnit ⟨300, 89, none, false⟩),
  (linked 770 1 (ctl []) { LnkSt.zero with stray := some ⟨7, 3, 80, false, 0⟩ } [(F.LNK_LBT_stray_thr, 90), (F.LNK_DROVE_drove, 7)], .strayUnit ⟨300, 95, some (burstOf 1 0 5 2 [] [] 0).hdr, true⟩),
  (linked 770 1 (ctl []) { LnkSt.zero with stray := some ⟨7, 3, 80, false, 0⟩ } [(F.LNK_LBT_stray_thr, 90), (F.LNK_STRAY_CNT_next, 15)], .strayUnit ⟨300, 90, none, true⟩),
  (linked 770 1 (ctl []) LnkSt.zero [(F.LNK_LBT_stray_thr, 90)], .strayUnit ⟨300, 70, none, true⟩),
  (linked 770 6 bellCtl { LnkSt.zero with grants := [⟨31, 5, 4⟩, ⟨2, 9, 1⟩] } [], .beaconSend),
  (linked 770 6 bellCtl { LnkSt.zero with hop := some (9, 3) } [], .beaconSend),
  (linked 770 6 bellCtl { LnkSt.zero with aud := some ⟨1, 1, false, 4, [some 5, some 6]⟩ } [], .audioMulticastSend),
  (linked 770 4 (ctl []) { LnkSt.zero with foul := [1, 2] } [(F.LNK_STAT_aligned, 1), (F.LNK_STAT_node, 1)], .uplinkSend),
  (linked 770 5 (ctl []) LnkSt.zero [(F.LNK_STAT_node, 2)], .uplinkSend),
  (linked 770 3 (ctl []) { LnkSt.zero with b := 3 } [], .joinRequestSend 100 ⟨90, false⟩),
  (linked 770 3 (ctl []) LnkSt.zero [], .joinRequestSend 104 ⟨255, false⟩),
  (linked 770 3 (ctl []) LnkSt.zero [(F.LNK_LBT_thr, 90)], .joinRequestSend 104 ⟨89, false⟩),
  (linked 770 3 (ctl []) LnkSt.zero [], .joinRequestSend 104 ⟨255, true⟩),
  (linked 770 3 (ctl []) { LnkSt.zero with cw := 8, joinWait := some 0 } [(F.LNK_LBT_cwmax, 10)], .joinBackoff),
  (linked 770 3 (ctl []) { LnkSt.zero with cw := 8, joinWait := some 0 } [(F.LNK_LBT_cwmax, 3)], .joinBackoff),
  ((linked 770 6 bellCtl { LnkSt.zero with table := [(31, some 7)], upLost := [(31, 50)] } [(F.LNK_TMO_lost_n, 50)]).wr R.LNK_MEMBERS 0x80000001, .memberDrop 31),
  (linked 770 4 (ctl []) { LnkSt.zero with missed := 5 } [(F.LNK_TMO_bl_n, 5)], .beaconLoss),
  (linked 770 2 (ctl []) { LnkSt.zero with missed := 5 } [(F.LNK_TMO_bl_n, 5)], .beaconLoss),
  (linked 770 1 (ctl [(F.LNK_CTRL_scan, 1)]) { LnkSt.zero with scanCnt := 64 } [(F.LNK_STAT_ch, 6)], .channelScanStep),
  (linked 770 5 (ctl []) { LnkSt.zero with holdCnt := 3 } [(F.LNK_TMO_hold, 3)], .holdExpiry),
  (linked 770 6 bellCtl LnkSt.zero [], .hopRequest .crook (word [(F.LNK_HOP_go, 1), (F.LNK_HOP_ch, 7), (F.LNK_HOP_lead, 7)])),
  (linked 770 6 bellCtl LnkSt.zero [], .hopRequest .crook (word [(F.LNK_HOP_go, 1), (F.LNK_HOP_ch, 6), (F.LNK_HOP_lead, 255)])),
  (linked 770 1 (ctl []) { LnkSt.zero with hop := some (9, 5) } [(F.LNK_STAT_hop_pend, 1)], .hop)]

theorem witness_link_rows : allReady linkReady linkCases = true := by decide +kernel


/-! ## Witnesses of the instruction statements -/

/-- The instruction issues plainly in a settled device with nothing waiting. -/
def plainIn (c : Chip) (w : Proc) (px : Px) (e : Enc) : Bool :=
  safe ⟨[], c⟩ && plainIssue c w px e && noLoop c w && !(seen c w px).nullified

theorem plainAt_of {c : Chip} {w : Proc} {px : Px} {e : Enc} (h : plainIn c w px e = true) : PlainAt ⟨[], c⟩ w px e := by
  simp only [plainIn, Bool.and_eq_true, Bool.not_eq_true'] at h
  exact ⟨h.1.1.1, h.1.1.2, h.1.2, h.2⟩

/-- Only an `if` prefix. -/
def Px.onlyIf (cc : Byte) : Px := { Px.none with cond := some cc }

theorem witness_mac_engine : ∃ i m, macMeaning i = some m ∧ PlainAt ⟨[], engineUp 16⟩ m.w m.px m.enc :=
  ⟨.mac (.engine 16) Px.none 0, _, rfl, plainAt_of (by decide +kernel)⟩
theorem witness_mac_crook : ∃ i m, macMeaning i = some m ∧ PlainAt ⟨[], crookUp 1⟩ m.w m.px m.enc :=
  ⟨.dmpyn .crook Px.none 0, _, rfl, plainAt_of (by decide +kernel)⟩
theorem witness_arith_engine : ∃ i m, arithMeaning i = some m ∧ PlainAt ⟨[], engineUp 0⟩ m.w m.px m.enc :=
  ⟨.addi (.engine 0) (Px.onlyIf 2) 31 0xFFFF, _, rfl, plainAt_of (by decide +kernel)⟩
theorem witness_arith_crook : ∃ i m, arithMeaning i = some m ∧ PlainAt ⟨[], crookUp 1⟩ m.w m.px m.enc :=
  ⟨.add .crook Px.none 0x7FFF, _, rfl, plainAt_of (by decide +kernel)⟩
theorem witness_acc_engine : ∃ i m, accMeaning i = some m ∧ PlainAt ⟨[], engineUp 0⟩ m.w m.px m.enc :=
  ⟨.aclr (.engine 0) Px.none 0, _, rfl, plainAt_of (by decide +kernel)⟩
theorem witness_logic_engine : ∃ i m, logicMeaning i = some m ∧ PlainAt ⟨[], engineUp 0⟩ m.w m.px m.enc :=
  ⟨.bset (.engine 0) Px.none 0 31, _, rfl, plainAt_of (by decide +kernel)⟩
theorem witness_decimal_crook : ∃ i m, decimalMeaning i = some m ∧ PlainAt ⟨[], crookUp 1⟩ m.w m.px m.enc :=
  ⟨.dadd .crook Px.none 0, _, rfl, plainAt_of (by decide +kernel)⟩
theorem witness_move_engine : ∃ i m, moveMeaning i = some m ∧ PlainAt ⟨[], engineUp 0⟩ m.w m.px m.enc :=
  ⟨.nop (.engine 0) Px.none, _, rfl, plainAt_of (by decide +kernel)⟩
theorem witness_move_crook : ∃ i m, moveMeaning i = some m ∧ PlainAt ⟨[], crookUp 1⟩ m.w m.px m.enc :=
  ⟨.mtsr .crook Px.none 0 0, _, rfl, plainAt_of (by decide +kernel)⟩

theorem witness_nullified : ∃ i w px e, encOf i = some (w, px, e) ∧ safe ⟨[], engineUp 0⟩ = true ∧
    plainIssue (engineUp 0) w px e = true ∧ noLoop (engineUp 0) w = true ∧ (seen (engineUp 0) w px).nullified = true :=
  ⟨.add (.engine 0) (Px.onlyIf 1) 0, _, _, _, rfl, by decide +kernel, by decide +kernel, by decide +kernel, by decide +kernel⟩

theorem witness_may_not_issue : mayNotIssue (.add (.engine 0) Px.none 0) (running 0) = true ∧ safe ⟨[], running 0⟩ = true := by
  decide +kernel

theorem witness_repeat : ∃ i m, arithMeaning i = some m ∧ m.px.rep = some (.u 255) ∧
    plainIssue (engineUp 0) m.w { m.px with rep := none } m.enc = true ∧ noLoop (engineUp 0) m.w = true ∧
    (engineUp 0).fetchFault m.w ((engineUp 0).core m.w).pc (instrLen m.px m.enc) = none ∧
    encodingOk m.w.isCrook false m.px m.enc = true ∧ m.px.cond = none ∧ (m.w = .crook → (engineUp 0).crook.afterRti = false) ∧
    (∀ c x, ∀ p ∈ m.op c x, ∀ k v, p.2 ≠ .sys k v) ∧
    (m.w.isCrook = true ∨ ((engineUp 0).core m.w).cyc + 255 < (engineUp 0).tailCycle) := by
  refine ⟨.cmp (.engine 0) { Px.none with rep := some (.u 255) } 0, _, rfl, rfl, by decide +kernel, by decide +kernel,
    by decide +kernel, by decide +kernel, rfl, by simp, ?_, by decide +kernel⟩
  intro c x p hp k v
  simp [opCmp, cmpW] at hp
  simp [hp]

/-- The crook with an address register. -/
def crookAt (mode : BitVec 3) (a : QWord) : Chip :=
  let c := crookUp mode
  { c with crook := { c.crook with core := { c.crook.core with q := [(0, a)] } }, mem := [(0x100, 0x78), (0x103, 0x81)] }

/-- The operand that a class M instruction of the crook finds. -/
def opndIs (c : Chip) (m : MemMeaning) (st : Bool) (p : MemOp → Bool) : Bool :=
  match memOperand ⟨[], c⟩ m with
  | .ok o => p o && (match (atIssue c m.w).protect (seen c m.w m.px) [(st, o)] with
    | .ok _ => true
    | .error _ => false)
  | .error _ => false

theorem witness_load : ∃ i m, loadMeaning i = some m ∧ PlainAt ⟨[], crookAt 1 0x100⟩ m.w m.px m.enc ∧
    opndIs (crookAt 1 0x100) m false (fun o => (readsNow (atIssue (crookAt 1 0x100) m.w) (seen (crookAt 1 0x100) m.w m.px) o m.narrow).isSome) = true :=
  ⟨.ldx .crook Px.none 0 0, _, rfl, plainAt_of (by decide +kernel), by decide +kernel⟩
theorem witness_load_scratch : ∃ i m, loadMeaning i = some m ∧ PlainAt ⟨[], engineUp 0⟩ m.w m.px m.enc ∧
    opndIs (engineUp 0) m false (fun o => (readsNow (atIssue (engineUp 0) m.w) (seen (engineUp 0) m.w m.px) o m.narrow).isSome) = true :=
  ⟨.ldz (.engine 0) Px.none 0 0, _, rfl, plainAt_of (by decide +kernel), by decide +kernel⟩
theorem witness_store : ∃ i m, storeMeaning i = some m ∧ PlainAt ⟨[], crookAt 1 0xFFFFC⟩ m.w m.px m.enc ∧
    opndIs (crookAt 1 0xFFFFC) m true (fun o => (storesNow (atIssue (crookAt 1 0xFFFFC) m.w) (seen (crookAt 1 0xFFFFC) m.w m.px) o m.narrow).isSome) = true :=
  ⟨.stx .crook Px.none 0 0, _, rfl, plainAt_of (by decide +kernel), by decide +kernel⟩
theorem witness_load_outside_ram : ∃ i m, loadMeaning i = some m ∧ PlainAt ⟨[], crookAt 1 0x100000⟩ m.w m.px m.enc ∧
    opndIs (crookAt 1 0x100000) m false (fun o => decide (o.addrs = [0x100000]) && decide (o.regs.length = 1) && !isRam 0x100000) = true :=
  ⟨.ldx .crook Px.none 0 0, _, rfl, plainAt_of (by decide +kernel), by decide +kernel⟩
/-- The crook with an address register and an X-bus base. -/
def crookOver (b : Word) (a : QWord) : Chip :=
  let c := crookAt 1 a
  { c with crook := { c.crook with xb := b } }

theorem witness_store_outside_ram : ∃ i m, storeMeaning i = some m ∧ PlainAt ⟨[], crookOver 0x40000000 0x1018⟩ m.w m.px m.enc ∧
    opndIs (crookOver 0x40000000 0x1018) m true (fun o => decide (o.addrs = [0x40001018]) && decide (o.regs.length = 1) && !isRam 0x40001018) = true :=
  ⟨.stx .crook Px.none 0 0, _, rfl, plainAt_of (by decide +kernel), by decide +kernel⟩

theorem witness_stg : PlainAt ⟨[], engineUp 0⟩ (.engine 0) Px.none ⟨0x6C, 0⟩ := plainAt_of (by decide +kernel)

/-- Both moves of a parallel instruction can be made now. -/
def bothMoves (c : Chip) (m : ParMeaning) : Bool :=
  match m.operand ⟨[], c⟩ false, m.operand ⟨[], c⟩ true with
  | .ok a, .ok b =>
    (match (atIssue c m.w).protect (seen c m.w m.px) [(moveStores m.o, a), (false, b)], m.first ⟨[], c⟩ a with
      | .ok _, .ok r => (match r.1.doLoad (seen c m.w m.px) b false with
        | .ok _ => true
        | .error _ => false)
      | _, _ => false)
  | _, _ => false

theorem witness_parallel_crook : ∃ i m, parMeaning i = some m ∧ PlainAt ⟨[], crookAt 1 0x100⟩ m.w m.px m.enc ∧
    bothMoves (crookAt 1 0x100) m = true :=
  ⟨.macPl .crook Px.none 0 0x000100, _, rfl, plainAt_of (by decide +kernel), by decide +kernel⟩

theorem witness_branches : plainIn (engineUp 0) (.engine 0) Px.none ⟨0xA0, 0⟩ = true ∧
    plainIn (crookUp 1) .crook Px.none ⟨0xA0, 256 * 0xFFFFF0⟩ = true ∧ plainIn (engineUp 0) (.engine 0) Px.none ⟨0xA2, 0⟩ = true ∧
    plainIn (engineUp 0) (.engine 0) Px.none ⟨0xA1, 0⟩ = true ∧ plainIn (engineUp 0) (.engine 0) Px.none ⟨0xA3, 1⟩ = true := by
  decide +kernel

/-- Engine 0 and the crook at a window depth. -/
def deep (wd : Nat) : Chip :=
  let c := setF (crookUp 1) [(F.SE_STAT_state 0, seRunning)]
  ({ c with crook := { c.crook with core := { c.crook.core with wd := wd } } }).setEngine 0 { Eng.zero with core := { Core.zero with wd := wd } }

theorem witness_return : plainIn (deep 1) (.engine 0) Px.none ⟨0xA4, 0⟩ = true ∧ plainIn (deep 14) .crook Px.none ⟨0xA4, 0⟩ = true := by
  decide +kernel
theorem witness_window_overflow :
    ([Proc.engine 0, Proc.crook].all fun w => plainIn (deep 14) w Px.none ⟨0xA1, 0⟩ && plainIn (deep 14) w Px.none ⟨0xA3, 0⟩ &&
      plainIn (deep 0) w Px.none ⟨0xA4, 0⟩) = true ∧ condTrue 0 0 = true ∧ (deep 14).crook.mode.getLsbD 2 = false ∧
      (deep 14).crook.vbase.toNat + 16 * 4 < 2 ^ 20 := by decide +kernel

theorem witness_block_repeats : plainIn (engineUp 0) (.engine 0) Px.none ⟨0xA5, 256 * 0xFFFF + 2 ^ 24 * 16⟩ = true ∧
    plainIn (engineUp 0) (.engine 0) Px.none ⟨0xA6, 2 ^ 24 * 16⟩ = true := by decide +kernel
theorem witness_bbrk :
    let c := (engineUp 0).setEngine 0 { Eng.zero with core := { Core.zero with lc := [(0, 5)], ls := [(0, 0)], le := [(0, 9)] } }
    plainIssue c (.engine 0) Px.none ⟨0xA7, 0⟩ = true ∧ (seen c (.engine 0) Px.none).nullified = false ∧
      (c.core (.engine 0)).innermost = some 0 ∧ KMap.get 0 0 (c.core (.engine 0)).le ≠ pcAfter (.engine 0) (c.core (.engine 0)) 1 := by
  decide +kernel
theorem witness_fend : plainIn (engineUp 16) (.engine 16) Px.none ⟨0xA8, 0⟩ = true := by decide +kernel
theorem witness_crook_system :
    ([0xD0, 0xD1, 0xD3, 0xD4, 0xD5, 0xD6, 0xD7, 0xD8, 0xB0].all fun o => plainIn (crookUp 1) .crook Px.none ⟨o, 0⟩) = true ∧
      plainIn (crookUp 1) .crook Px.none ⟨0xB0, 256 * 255⟩ = true ∧ plainIn (deep 14) .crook Px.none ⟨0xD6, 0⟩ = true ∧
      plainIn (deep 14) .crook Px.none ⟨0xD7, 0⟩ = true := by decide +kernel
theorem witness_privileged :
    let c := setF (crookUp 2) [(F.CRK_MPU_BASE_en 0, 1), (F.CRK_MPU_BASE_u_x 0, 1)]
    encOf (.di .crook Px.none) = some (.crook, Px.none, ⟨0xD5, 0⟩) ∧ privileged 0xD5 = true ∧ c.crook.mode.getLsbD 0 = false ∧
      c.crook.mode.getLsbD 2 = false ∧ c.canIssue .crook = true ∧ c.crook.core.pend = [] ∧ c.crook.core.slot = .none ∧
      c.fetchFault .crook c.crook.core.pc 1 = none ∧ encodingOk true false Px.none ⟨0xD5, 0⟩ = true ∧
      c.crook.vbase.toNat + 32 < 2 ^ 20 := by
  refine ⟨rfl, ?_⟩
  decide +kernel
theorem witness_illegal_engine :
    let c := engineUp 0
    decodeBytes [0xFF] = none ∧ c.canIssue (.engine 0) = true ∧ (c.core (.engine 0)).pend = [] ∧ (c.core (.engine 0)).slot = .none ∧
      c.fetchFault (.engine 0) (c.core (.engine 0)).pc 1 = none := by decide +kernel
theorem witness_illegal_crook :
    let c := crookUp 1
    decodeBytes [0xFF] = none ∧ c.canIssue .crook = true ∧ (c.core .crook).pend = [] ∧ (c.core .crook).slot = .none ∧
      c.fetchFault .crook (c.core .crook).pc 1 = none ∧ c.crook.mode.getLsbD 2 = false ∧ c.crook.vbase.toNat + 16 < 2 ^ 20 := by
  decide +kernel

/-! ## Witnesses of the statements about the whole device -/

theorem witness_refused_write : safe ⟨[], running 5⟩ = true ∧ inPages 0x400C0140 = true ∧ (running 5).rowGate .host true 0x400C0140 = .refuse := by
  decide +kernel
theorem witness_steering_again :
    ({ up 192 with time := { (up 192).time with steerAt := some 192 } } : Chip).time.steerAt = some 192 ∧ (up 193).atBoundary 192 = false := by
  decide +kernel
theorem witness_invalid_pulse :
    let c := setF (up 192000) [(F.TIME_TP_CTRL_apply 1, 1), (F.TIME_TP_PER_S_per_s 1, 0), (F.TIME_TP_PER_NS_per_ns 1, 999)]
    safe ⟨[], c⟩ = true ∧ c.bit (F.TIME_TP_CTRL_apply 1) = true ∧ c.atBoundary 192000 = true ∧ (c.tp true).reqAt < c.now ∧ (c.tpShadow true).period < 1000 := by
  decide +kernel
theorem witness_guard : (setF (running 5) [(F.GUARD_CH_STAT_dc 63, 1)]).bit (F.GUARD_CH_STAT_dc 63) = true := by decide +kernel
theorem witness_pointer : (running 5).pas.pads[0]? = some ⟨0, 0, 16⟩ ∧ 0 < 16 ∧ 16 ≤ 2 ^ (F.PAS_SP_sp 0).width ∧
    (running 5).get (F.PAS_SP_sp 0) < 16 := by decide +kernel
theorem witness_idle : safe ⟨[], running 5⟩ = true ∧ (running 5).framesRun = true ∧ (running 5).nextBoundary < 2 ^ 64 := by decide +kernel

/-! ## WellFormed refuses -/

theorem test_wf_no_such_n32k : (Instr.rootPllLock 34).wellFormed = false := by decide
theorem test_wf_empty_serial_frame : (Instr.frameStart 0 0 0).wellFormed = false := by decide
theorem test_wf_cycle_past_the_frame : (Instr.gapSlotGrant 0 15360).wellFormed = false := by decide
theorem test_wf_no_bytes : (Instr.illegalEncoding .crook []).wellFormed = false := by decide
theorem test_wf_nine_bytes : (Instr.illegalEncoding .crook [0, 0, 0, 0, 0, 0, 0, 0, 0]).wellFormed = false := by decide
theorem test_wf_few_bins : (Instr.monitorScan [0]).wellFormed = false := by decide
theorem test_wf_long_notch_block : (Instr.notchAdapt 0 (List.replicate 1025 (0, 0))).wellFormed = false := by decide +kernel
theorem test_wf_wide_notch_sample : (Instr.notchAdapt 0 [(32768, 0)]).wellFormed = false := by decide
theorem test_wf_wide_capture_sample : (Instr.captureEnd [(0, 32768)]).wellFormed = false := by decide
theorem test_wf_unit_twice : (Instr.startTestEnd [⟨.engine 3, 0, 0⟩, ⟨.engine 3, 1, 0⟩]).wellFormed = false := by decide
theorem test_wf_short_header :
    ((Instr.beacon ⟨⟨[], []⟩, [], 0⟩).wellFormed || (Instr.audioBurst ⟨⟨[], []⟩, [], 0⟩).wellFormed ||
      (Instr.uplink ⟨⟨[], []⟩, [], 0⟩).wellFormed || (Instr.joinRequest ⟨⟨[], []⟩, [], 0⟩).wellFormed) = false := by decide
theorem test_wf_short_stray_header : (Instr.strayUnit ⟨0, 0, some ⟨[], []⟩, false⟩).wellFormed = false := by decide
theorem test_wf_short_codeword : (Instr.uplink { beacon1 with words := [⟨List.replicate 254 0, List.replicate 223 0⟩] }).wellFormed = false := by
  decide +kernel
theorem test_wf_tail_of_a_word :
    ((Instr.write 0 [] 8).wellFormed || (Instr.writeFixed 0 [] 8).wellFormed || (Instr.stream [] 8).wellFormed) = false := by decide
theorem test_wf_known_code : (Instr.badCommand 0x02).wellFormed = false := by decide
theorem test_wf_row_of_the_tap : (Instr.boundaryScan 0xFF).wellFormed = false := by decide

/-! ## Worked examples of the spec -/

/-- 05, "an encoding": `rep.u 8; mac.pl acc1, d2, d4` with `ldx d6, (a0)p` and `ldy d8, (a8)+`. -/
theorem test_mac_pl_bytes :
    decodeBytes [0xF0, 0x07, 0x80, 0x41, 0x10, 0x06, 0x46, 0x08] =
        some ({ Px.none with rep := some (.u 7) }, ⟨0x80, 0x1041 + 2 ^ 16 * 0x084606⟩) ∧
      instrLen { Px.none with rep := some (.u 7) } ⟨0x80, 0x1041 + 2 ^ 16 * 0x084606⟩ = 8 := by decide +kernel
/-- The same: the fields of the two moves, their buses, and that the encoding is legal in an engine. -/
theorem test_mac_pl_fields :
    moveField 0x084606 false = (6, 0, 6) ∧ moveField 0x084606 true = (8, 8, 1) ∧ moveBus 0x084606 false false = 0 ∧
      moveBus 0x084606 false true = 1 ∧ encodingOk false false { Px.none with rep := some (.u 7) } ⟨0x80, 0x1041 + 2 ^ 16 * 0x084606⟩ = true ∧
      fAcc 0x1041 = 1 ∧ fX 0x1041 = 2 ∧ fY 0x1041 = 4 := by decide +kernel

/-- 06, "one sample to a 24-bit slot". -/
theorem test_dither : ditherNext 1 = 0x00042021 ∧ ditherVal (ditherNext 1) 256 = -224 := by decide +kernel
theorem test_convert :
    convert 0 256 0x42021 305419932 = (0x12345600, false) ∧ convert 1 256 0x42021 305419932 = (0x12345700, false) ∧
      convert 2 256 0x42021 305419932 = (0x12345500, false) ∧ convert 0 256 0x42021 (2 ^ 31) = (0x7FFFFF00, true) := by decide +kernel

/-- A context of engine 0 with two data registers. -/
def ctxOf (d1 d2 : PWord) : Ctx := ⟨.engine 0, { Core.zero with p := [(1, d1), (2, d2)] }, Px.none⟩

/-- 07, "a cue clock". -/
theorem test_dadd : opDadd 0x0823 (ctxOf 0x00129875 0x0250) = [(1, .p 3 0x00130125), (1, .znc false false false)] := by decide +kernel
theorem test_dsub : opDsub 0x0823 (ctxOf 0x0100 0x0250) = [(1, .p 3 0xFF99999850), (1, .znc false false true)] := by decide +kernel
theorem test_bin : opBin 0x0023 (ctxOf 0x00130125 0) = [(1, .p 3 0x0001FC4D), (1, .znc false false false)] := by decide +kernel
/-- 07, R174. -/
theorem test_dadj : opDadj 0x0023 (ctxOf 0x9A 0) = [(1, .p 3 0x100), (1, .znc false false false)] := by decide +kernel

/-- 08, "a gain glide". -/
theorem test_glide :
    glideVal false 10 1 0x40000000 0x2AAAAAAB = 1073392298 ∧ glideVal false 10 512 0x40000000 0x2AAAAAAB = 894784853 ∧
      glideVal false 10 1023 0x40000000 0x2AAAAAAB = 716177408 ∧ glideVal false 10 1024 0x40000000 0x2AAAAAAB = 0x2AAAAAAB := by
  decide +kernel

/-- 05, "delay and circular addresses": the paddock of 65,536 words at 131,072 with sp(1) = 1,000. -/
def delayChip : Chip :=
  let c := setF (engines 0 seRunning) [(F.PAS_SP_sp 1, 1000)]
  { c with pas := { c.pas with pads := [⟨0, 0, 16⟩, ⟨0, 131072, 65536⟩] } }
def delayCtx (a : QWord) : Ctx := ⟨.engine 0, { Core.zero with q := [(3, a), (35, 1)] }, Px.none⟩
theorem test_delay_address :
    ((delayChip.operand (delayCtx 48000) 0 4 3 6 0 false 0 false 4).toOption.map MemOp.addrs) = some [180072] ∧
      ((delayChip.operand (delayCtx 65000) 0 4 3 6 0 false 0 false 4).toOption.map MemOp.addrs) = some [131536] := by decide +kernel
/-- The same: a circular buffer of 100 words with m4 = 7, from a4 = 470. -/
theorem test_circular_address : addrMode 5 470 7 100 1 0 false 0 = (470, 477) ∧ (addrMode 5 477 7 100 1 0 false 0).2 = 384 := by decide +kernel

/-- 12, R285: the cap leaves the cut of a 16-bit slot unchanged. -/
theorem test_cap : capOf 32 = 214748364 ∧ capOf 16 = 0x0CCC0000 := by decide +kernel

/-- 13, "frequency plan": link channels 0 and 6, GPS L1 and L5, in kHz. -/
theorem test_alias : aliasOf 2949120 (linkCentre 0) = (163240, true) ∧ aliasOf 2949120 (linkCentre 6) = (43240, true) ∧
    aliasOf 2949120 1575420 = (1373700, true) ∧ aliasOf 2949120 1176450 = (1176450, false) := by decide

/-- 15, "a sound-bar drove at 48 kHz". -/
theorem test_sound_bar : blocksFor true 10 = 14 ∧ unitsFor 14 = 56 ∧ blocksFor false 2 = 5 ∧ unitsFor 5 = 23 := by decide +kernel


/-! ### The frames' hypotheses are met -/

theorem witness_frames_safe : safe State.reset = true ∧ safe ⟨[], running 5⟩ = true := by decide +kernel
theorem witness_clock_frame : clockRow .steeringStep = true ∧ ∃ t, exec .steeringStep ⟨[], running 5⟩ = .next t := ⟨rfl, _, rfl⟩
theorem witness_rf_frame : rfRow .rfAdcOverload = true ∧ ∃ t, exec .rfAdcOverload ⟨[], running 5⟩ = .next t := ⟨rfl, _, rfl⟩
theorem witness_gn_frame : gnRow .captureOverflow = true ∧ ∃ t, exec .captureOverflow ⟨[], running 5⟩ = .next t := ⟨rfl, _, rfl⟩
theorem witness_link_frame : linkRow .joinBackoff = true ∧ ∃ t, exec .joinBackoff ⟨[], running 5⟩ = .next t := ⟨rfl, _, rfl⟩
theorem witness_core_frame : coreTouches .mirrorStart = some ([.pas], [.pas]) ∧ ∃ t, exec .mirrorStart ⟨[], running 5⟩ = .next t :=
  ⟨rfl, _, rfl⟩
theorem witness_edge_frame : edgeTouches (.dcLatch 63) = some ([], [.guard]) ∧ ∃ t, exec (.dcLatch 63) ⟨[], running 5⟩ = .next t :=
  ⟨rfl, _, rfl⟩

end Sys2Proof.Tests
end

section
/-! PROOFS. The landing of a store to RAM, plain register writes, and the reads that clear counters. -/

/-! ## Stores that land in memory (R2, R155) -/

namespace Sys2Proof.Machine

/-- A write of `n` bytes leaves byte `k` of the value at its `k`-th address. -/
theorem Mem.byte_write_inside (n : Nat) : ∀ (a v k : Nat) (m : Mem), k < n →
    (Mem.write a v m n).byte (a + k) = BitVec.ofNat 8 (v / 256 ^ k) := by
  induction n with
  | zero => intro _ _ k _ hk; exact absurd hk (Nat.not_lt_zero k)
  | succ n ih =>
    intro a v k m hk
    simp only [Mem.write]
    cases k with
    | zero => simpa using Mem.byte_write_outside n (a + 1) (v / 256) (m.setByte a (BitVec.ofNat 8 v)) a (.inl (Nat.lt_succ_self a))
    | succ k =>
      have h := ih (a + 1) (v / 256) k (m.setByte a (BitVec.ofNat 8 v)) (by omega)
      rw [show a + (k + 1) = a + 1 + k by omega, h, Nat.div_div_eq_div_mul, Nat.pow_succ']

@[simp] theorem Chip.landOuter_ram_mem (c : Chip) (a n v : Nat) :
    (c.landOuter (.ram a n v)).mem = Mem.write a v c.mem n := rfl

@[simp] theorem Chip.landOuter_ram_rd (c : Chip) (a n v r : Nat) : (c.landOuter (.ram a n v)).rd r = c.rd r := rfl

end Sys2Proof.Machine

namespace Sys2Proof

open Sys2Proof.Machine

/-- Settles O12: the landing is `Mem.write`, whose bytes inside and outside its range are known. -/
theorem ramStoreLandsOnItsBytesOnly : Obligations.RamStoreLandsOnItsBytesOnly := by
  intro c a n v
  refine ⟨fun k hk => ?_, fun b hb => ?_, c.landOuter_ram_rd a n v⟩
  · rw [Chip.landOuter_ram_mem, Mem.byte_write_inside n a v k c.mem hk]
  · rw [Chip.landOuter_ram_mem, Mem.byte_write_outside n a v c.mem b hb]

end Sys2Proof

/-! ## Commands that leave a settled device settled -/

namespace Sys2Proof.Machine

/-- The registers that decide whether the PA may be keyed and the time pulses may run (R45, R284, R293, R309). -/
def permitRegs : List Nat := [R.GUARD_GATE, R.SYS_FEAT2, R.CLK_STAT, R.RF_STAT, R.RF_CTRL]

/-- `d` has the permissions, the transmitter and the time of `c`, and as many occurrences to route. -/
structure SamePermits (c d : Chip) : Prop where
  rd : ∀ a ∈ permitRegs, d.rd a = c.rd a
  rf : d.rf = c.rf
  time : d.time = c.time
  batch : d.evt.batch = c.evt.batch

theorem SamePermits.bit {c d : Chip} (h : SamePermits c d) {f : Fld} (hf : f.addr ∈ permitRegs) : d.bit f = c.bit f := by
  have hg : d.get f = c.get f := by simp only [Chip.get, h.rd _ hf]
  simp only [Chip.bit, hg]

theorem SamePermits.paSafe {c d : Chip} (h : SamePermits c d) : Sys2Proof.paSafe d = Sys2Proof.paSafe c := by
  simp only [Sys2Proof.paSafe, Chip.paAllowed, h.rf, h.bit (f := F.GUARD_GATE_tx) (by decide),
    h.bit (f := F.SYS_FEAT2_radio_fused) (by decide), h.bit (f := F.CLK_STAT_locked) (by decide),
    h.bit (f := F.RF_STAT_synth_lock) (by decide), h.bit (f := F.RF_CTRL_tx_en) (by decide)]

theorem SamePermits.tpSafe {c d : Chip} (h : SamePermits c d) (n : Bool) : Sys2Proof.tpSafe d n = Sys2Proof.tpSafe c n := by
  have ht : d.tp n = c.tp n := by simp only [Chip.tp, h.time]
  simp only [Sys2Proof.tpSafe, Chip.tpHeld, ht, h.bit (f := F.GUARD_GATE_gpio) (by decide),
    h.bit (f := F.CLK_STAT_locked) (by decide)]

theorem SamePermits.safe {s : State} {d : Chip} (h : SamePermits s.chip d) (hs : Sys2Proof.safe s = true) :
    Sys2Proof.safe ⟨s.pending, d⟩ = true := by
  have hn : d.now = s.chip.now := by simp only [Chip.now, h.time]
  rw [← hs]
  simp only [Sys2Proof.safe, Sys2Proof.evtSettled, h.paSafe, airSafe_congr h.rf hn, h.tpSafe, h.batch]

/-- A command that leaves the permissions of a settled device alone changes nothing at its end. -/
theorem SamePermits.settle {s : State} {d : Chip} (h : SamePermits s.chip d) (hs : Sys2Proof.safe s = true) : d.settle = d :=
  Chip.settle_id ⟨s.pending, d⟩ (h.safe hs)

/-- Such a command completes with what its function gives. -/
theorem SamePermits.completes {s : State} {i : Instr} {f : Chip → Chip} {P : Chip → Prop} (h : SamePermits s.chip (f s.chip))
    (hs : Sys2Proof.safe s = true) (he : exec i s = s.act f) (hP : P (f s.chip)) : Sys2Proof.Completes i s P :=
  ⟨⟨s.pending, (f s.chip).settle⟩, he, rfl, by rwa [h.settle hs]⟩

/-! ## Plain register writes (R6, R7) -/

/-- `BitVec.and_allOnes` with the ones as `simp` writes the complement of zero. -/
theorem Word.and_ones (w : Word) : w &&& 4294967295#32 = w := BitVec.and_allOnes

variable (c : Chip)

theorem Chip.rd_plainWrite_self {a : Nat} {row : RegRow} (h : regRow? a = some row) (v : Word) :
    (c.plainWrite a v).rd (regCanon a) = (row.written (c.rd (regCanon a)) v ||| (c.collide (regCanon a) v &&& row.w1c)) := by
  unfold Chip.plainWrite
  rw [h]
  exact Chip.rd_wr_self _ _ _

theorem Chip.rd_plainWrite_ne {a b : Nat} (h : b ≠ regCanon a) (v : Word) : (c.plainWrite a v).rd b = c.rd b := by
  unfold Chip.plainWrite
  split
  · exact Chip.rd_wr_ne _ h _
  · rfl

/-- A plain write changes the registers and the record of R7 alone. -/
theorem Chip.plainWrite_rest (a : Nat) (v : Word) : { c.plainWrite a v with regs := c.regs, fresh := c.fresh } = c := by
  unfold Chip.plainWrite
  split <;> rfl

/-- No bit of the register takes a plain write. -/
def RegRow.fixed (r : RegRow) : Bool := decide (r.rw = 0 ∧ r.w1c = 0 ∧ r.w1s = 0)

theorem Chip.rd_plainWrite_fixed {a : Nat} (h : (regRow? a).all RegRow.fixed = true) (b : Nat) (v : Word) :
    (c.plainWrite a v).rd b = c.rd b := by
  by_cases hb : b = regCanon a
  · subst hb
    cases hr : regRow? a with
    | none => simp [Chip.plainWrite, hr]
    | some row =>
      obtain ⟨hrw, hc, hs⟩ : row.rw = 0 ∧ row.w1c = 0 ∧ row.w1s = 0 := by simpa [hr, RegRow.fixed] using h
      simp [c.rd_plainWrite_self hr, RegRow.written, hrw, hc, hs, Word.and_ones]
  · exact c.rd_plainWrite_ne hb v

theorem regCanon_of_plainReg {a : Nat} (h : Sys2Proof.plainReg a = true) : regCanon a = a := by
  simp only [Sys2Proof.plainReg, within, Bool.and_eq_true, decide_eq_true_eq] at h
  unfold regCanon
  rw [if_neg (by omega)]

theorem inPages_of_plainReg {a : Nat} (h : Sys2Proof.plainReg a = true) : inPages a = true := by
  simp only [Sys2Proof.plainReg, within, Bool.and_eq_true, decide_eq_true_eq] at h
  simp only [inPages, within, Bool.and_eq_true, decide_eq_true_eq]
  omega

/-- The registers that permit something take no plain write where they are plain registers, SYS_FEAT2 and CLK_STAT. -/
theorem permitRegs_fixed : ∀ a ∈ permitRegs, Sys2Proof.plainReg a = true → (regRow? a).all RegRow.fixed = true := by
  decide +kernel

theorem SamePermits.plainWrite {a : Nat} (h : Sys2Proof.plainReg a = true) (v : Word) : SamePermits c (c.plainWrite a v) := by
  have hrest := c.plainWrite_rest a v
  refine ⟨fun b hb => ?_, (congrArg Chip.rf hrest :), (congrArg Chip.time hrest :),
    (congrArg (fun d => d.evt.batch) hrest :)⟩
  by_cases hba : b = a
  · subst hba
    exact c.rd_plainWrite_fixed (permitRegs_fixed b hb h) b v
  · exact c.rd_plainWrite_ne (by rwa [regCanon_of_plainReg h]) v

/-- The write of a plain register has no effect of its own. -/
theorem Chip.writeReg_plain (r : Req) {a : Nat} (h : Sys2Proof.plainReg a = true) (v : Word) :
    c.writeReg r a v = c.plainWrite a v := by
  simp only [Sys2Proof.plainReg, Bool.and_eq_true, decide_eq_true_eq] at h
  obtain ⟨hw, hctrl, hperr, hload, htp0, htp1, hfold⟩ := h
  have hr : 0x40000000 ≤ a ∧ a ≤ 0x40003FFF := by simpa [within] using hw
  by_cases hsys : a ≤ 0x40000FFF
  · have hne : a ≠ R.LNK_CTRL ∧ a ≠ R.LNK_HOP := by simp only [R.LNK_CTRL, R.LNK_HOP]; omega
    have hout : ∀ lo hi, 0x40001000 ≤ lo → within a lo hi = false := fun lo hi hlo => by simp [within]; omega
    have hlow : ¬ 0x400D0000 ≤ a := by omega
    simp [Chip.writeReg, hout, hne, hlow]
  · have hin : within a 0x40001000 0x40003FFF = true := by simp [within]; omega
    simp [Chip.writeReg, Chip.writeClkTime, hin, hctrl, hperr, hload, htp0, htp1, hfold]

/-! ## Accepted accesses -/

theorem Chip.gateOf_of_rowGate {r : Req} {wr : Bool} {a : Nat} (h : c.rowGate r wr a = .accept) : c.gateOf r wr a 4 = .accept := by
  unfold Chip.rowGate at h
  split at h
  · cases h
  · exact h

theorem Chip.registerWrite_accepted {r : Req} {a : Nat} (ha : Sys2Proof.accepts c r a = true) (hp : inPages a = true)
    (hs : soReg a = false) (v : Word) : c.registerWrite r a v = c.writeReg r a v := by
  have hg : c.rowGate r true a = .accept := by simpa [Sys2Proof.accepts] using ha
  simp [Chip.registerWrite, Chip.busWrite, Chip.busWriteN, Chip.storeMap, hp, hg, c.gateOf_of_rowGate hg, hs]

theorem Chip.readTo_accepted {r : Req} {a : Nat} (ha : Sys2Proof.acceptsRead c r a = true) (hp : inPages a = true) :
    c.readTo r a = (c.readReg r a).2.keepRead r (c.readReg r a).1 := by
  have hg : c.rowGate r false a = .accept := by simpa [Sys2Proof.acceptsRead] using ha
  simp [Chip.readTo, Chip.busRead, Chip.busReadN, Chip.fetchMap, hp, hg, c.gateOf_of_rowGate hg]

@[simp] theorem returned_keepRead (r : Req) (v : Word) : Sys2Proof.returned (c.keepRead r v) r = v := by cases r <;> rfl
@[simp] theorem Chip.keepRead_rd (r : Req) (v : Word) (a : Nat) : (c.keepRead r v).rd a = c.rd a := rfl

/-! ## Reads that clear (R7) -/

/-- A field depends on the bits under its mask alone: it reads what was merged in over them. -/
theorem Fld.of_merge {f : Fld} {rc : Word} (h : f.mask &&& rc = f.mask) (x y : Word) :
    f.of ((x &&& ~~~rc) ||| (y &&& rc)) = f.of y := by
  apply Nat.eq_of_testBit_eq
  intro i
  rw [Fld.testBit_of, Fld.testBit_of]
  by_cases hi : i < f.width ∧ i + f.lo < 32
  · have hrc : rc.getLsbD (i + f.lo) = true := by
      have hbit := congrArg (fun w : Word => w.getLsbD (i + f.lo)) h
      have hm : f.mask.getLsbD (i + f.lo) = true := by
        simp only [Fld.getLsbD_mask, Bool.and_eq_true, decide_eq_true_eq]; omega
      simpa [hm] using hbit
    simp [hrc]
  · by_cases hw : i < f.width
    · have hbig : 32 ≤ i + f.lo := by omega
      simp [BitVec.getLsbD_of_ge _ _ hbig]
    · simp [hw]

/-- A clearing read returns, under its mask, what the count holds now. -/
theorem Chip.readRc_value (key : Nat) (cur rc : Word) :
    (c.readRc key cur rc).1 = (cur &&& ~~~rc) ||| ((c.countedNow key cur).1 &&& rc) := by
  cases hw : KMap.get none key c.freshNow.was with
  | none =>
    simp only [Chip.readRc, Chip.countedNow, hw]
    ext i hi
    cases h : rc[i] <;> simp [h]
  | some w => simp only [Chip.readRc, Chip.countedNow, hw]

/-- It leaves, under its mask, what hardware has counted in this cycle. -/
theorem Chip.readRc_left (key : Nat) (cur rc : Word) :
    (c.readRc key cur rc).2.1 = (cur &&& ~~~rc) ||| ((c.countedNow key cur).2 &&& rc) := by
  cases hw : KMap.get none key c.freshNow.was with
  | none => simp [Chip.readRc, Chip.countedNow, hw]
  | some w => simp only [Chip.readRc, Chip.countedNow, hw]

/-- Where hardware counts nothing in this cycle the read returns the word as it stands. -/
theorem Chip.readRc_value_quiet {key : Nat} (h : KMap.get none key c.freshNow.was = none) (cur rc : Word) :
    (c.readRc key cur rc).1 = cur := by
  simp only [Chip.readRc, h]

/-- Pages SYS to CO: a read of the register at `a` shows what it holds, so that `readLow` leaves it alone. -/
def storedLow (a : Nat) : Bool :=
  !decide (a ∈ [R.SYS_GPIO_IN, R.SYS_FEAT3, R.TIME_STC_LO, R.TIME_STC_HI, R.TIME_STC_FRAC, R.TIME_TMARK_CAP_LO, R.CO_GLIDE_DATA,
    R.CO_GLIDE_STEP]) && !within a (R.CO_PEND 0) (R.CO_PEND 7)

/-- The same of pages PRT to RF and `readMid`. -/
def storedMid (a : Nat) : Bool :=
  (arrIdx (R.PRT_ALIGN_CTRL 0) 0x10 8 a).isNone && !within a R.EVT_Q_W0 R.EVT_Q_W3 &&
    !decide (a ∈ [R.DMA_STAT, R.CRK_STAT, R.CRK_WDT_STAT, R.EVT_STAT, R.EVT_ROUTE, R.EVT_TALLY, R.EVT_INFO])

/-- The same of pages GN to HIF and `readHigh`. -/
def storedHigh (a : Nat) : Bool :=
  (arrIdx (R.GN_CH_DOP 0) 0x100 96 a).isNone && (arrIdx (R.GN_CH_CODE 0) 0x100 96 a).isNone &&
    !within a (R.SHP_FUSE 0) (R.SHP_FUSE 255) && !decide (a ∈ [R.SHP_MB_SPACE, R.BST_REQ, R.PWR_STAT, R.PWR_WAKE, R.HIF_STAT])

/-- A read of the register at `a` shows what it holds. -/
def readsStored (a : Nat) : Bool :=
  if a < 0x40040000 then storedLow a else if a < 0x40090000 then storedMid a else storedHigh a

theorem Chip.readLow_stored (r : Req) {a : Nat} (h : storedLow a = true) : c.readLow r a = none := by
  simp only [storedLow, Bool.and_eq_true, Bool.not_eq_true', decide_eq_false_iff_not, List.mem_cons, List.not_mem_nil, or_false,
    not_or] at h
  simp [Chip.readLow, h]

theorem Chip.readMid_stored {a : Nat} (h : storedMid a = true) : c.readMid a = none := by
  simp only [storedMid, Bool.and_eq_true, Option.isNone_iff_eq_none, Bool.not_eq_true', decide_eq_false_iff_not, List.mem_cons,
    List.not_mem_nil, or_false, not_or] at h
  simp [Chip.readMid, h]

theorem Chip.readHigh_stored {a : Nat} (h : storedHigh a = true) : c.readHigh a = none := by
  simp only [storedHigh, Bool.and_eq_true, Option.isNone_iff_eq_none, Bool.not_eq_true', decide_eq_false_iff_not, List.mem_cons,
    List.not_mem_nil, or_false, not_or] at h
  simp [Chip.readHigh, h]

/-- A register at `a` whose reads show what it holds and clear the fields `fs`, and that permits nothing. -/
def isCounter (a : Nat) (fs : List Fld) : Bool :=
  inPages a && readsStored a && decide (regCanon a = a) && !decide (a ∈ permitRegs) &&
    (regRow? a).any fun row => decide (row.rc ≠ 0) && fs.all fun f => decide (f.addr = a ∧ f.mask &&& row.rc = f.mask)

theorem Chip.readReg_stored (r : Req) {a : Nat} {row : RegRow} (h : readsStored a = true) (hrow : regRow? a = some row)
    (hk : regCanon a = a) (hrc : row.rc ≠ 0) :
    c.readReg r a = ((c.readRc a (c.rd a) row.rc).1,
      (c.wr a (c.readRc a (c.rd a) row.rc).2.1).setFresh (c.readRc a (c.rd a) row.rc).2.2) := by
  have hspecial : (if a < 0x40040000 then c.readLow r a else if a < 0x40090000 then c.readMid a else c.readHigh a) = none := by
    unfold readsStored at h
    split_ifs at h ⊢
    · exact c.readLow_stored r h
    · exact c.readMid_stored h
    · exact c.readHigh_stored h
  unfold Chip.readReg
  simp only [hspecial, hrow, hk, hrc, if_false]

/-- From `c` to `d` the requester `r` read the counter at `a` (R7): of its fields `fs` it has what they hold now, the counter keeps
what hardware adds in this cycle, and no other register changed. -/
structure CounterRead (c d : Chip) (r : Req) (a : Nat) (fs : List Fld) : Prop where
  value : ∀ f ∈ fs, f.of (Sys2Proof.returned d r) = f.of (c.countedNow a (c.rd a)).1
  left : ∀ f ∈ fs, d.get f = f.of (c.countedNow a (c.rd a)).2
  quiet : KMap.get none a c.freshNow.was = none → Sys2Proof.returned d r = c.rd a
  others : ∀ b, b ≠ a → d.rd b = c.rd b

/-- An accepted read of a counter, with the register and the data it leaves. -/
theorem Chip.readTo_isCounter {r : Req} {a : Nat} {fs : List Fld} (ha : Sys2Proof.acceptsRead c r a = true)
    (h : isCounter a fs = true) : a ∉ permitRegs ∧ ∃ rc : Word, (∀ f ∈ fs, f.addr = a ∧ f.mask &&& rc = f.mask) ∧
      c.readTo r a = ((c.wr a (c.readRc a (c.rd a) rc).2.1).setFresh (c.readRc a (c.rd a) rc).2.2).keepRead r
        (c.readRc a (c.rd a) rc).1 := by
  simp only [isCounter, Bool.and_eq_true, Option.any_eq_true, List.all_eq_true, decide_eq_true_eq, Bool.not_eq_true',
    decide_eq_false_iff_not] at h
  obtain ⟨⟨⟨⟨hp, hst⟩, hk⟩, hperm⟩, row, hrow, hrc, hfs⟩ := h
  exact ⟨hperm, row.rc, hfs, by rw [c.readTo_accepted ha hp, c.readReg_stored r hst hrow hk hrc]⟩

theorem Chip.setFresh_wr_rd_self (a : Nat) (w : Word) (f : Fresh) : ((c.wr a w).setFresh f).rd a = w := c.rd_wr_self a w

theorem Chip.setFresh_wr_rd_ne {a b : Nat} (h : b ≠ a) (w : Word) (f : Fresh) : ((c.wr a w).setFresh f).rd b = c.rd b :=
  c.rd_wr_ne h w

theorem Chip.counterRead_readTo {r : Req} {a : Nat} {fs : List Fld} (ha : Sys2Proof.acceptsRead c r a = true)
    (h : isCounter a fs = true) : CounterRead c (c.readTo r a) r a fs := by
  obtain ⟨-, rc, hfs, hread⟩ := c.readTo_isCounter ha h
  rw [hread]
  refine ⟨fun f hf => ?_, fun f hf => ?_, fun hq => ?_, fun b hb => ?_⟩
  · rw [returned_keepRead, c.readRc_value, Fld.of_merge (hfs f hf).2]
  · obtain ⟨haddr, hmask⟩ := hfs f hf
    rw [← Fld.of_merge hmask (c.rd a), ← c.readRc_left]
    simp only [Chip.get, Fld.of, haddr, Chip.keepRead_rd, Chip.setFresh_wr_rd_self]
  · rw [returned_keepRead, c.readRc_value_quiet hq]
  · rw [Chip.keepRead_rd, c.setFresh_wr_rd_ne hb]

theorem SamePermits.readTo {r : Req} {a : Nat} {fs : List Fld} (ha : Sys2Proof.acceptsRead c r a = true)
    (h : isCounter a fs = true) : SamePermits c (c.readTo r a) := by
  obtain ⟨hperm, rc, -, hread⟩ := c.readTo_isCounter ha h
  rw [hread]
  refine ⟨fun b hb => ?_, rfl, rfl, rfl⟩
  have hne : b ≠ a := fun e => hperm (e ▸ hb)
  rw [Chip.keepRead_rd, c.setFresh_wr_rd_ne hne]

/-- What a read of EVT_TALLY does (R280): the tallies of the selected event go to the requester and clear. -/
theorem Chip.readTo_tally {r : Req} (ha : Sys2Proof.acceptsRead c r R.EVT_TALLY = true) :
    c.readTo r R.EVT_TALLY = c.readTally.2.keepRead r c.readTally.1 := by
  rw [c.readTo_accepted ha (by decide)]
  rfl

theorem Chip.readTally_value : c.readTally.1 = (c.countedNow (2 ^ 32 + c.selId) (KMap.get 0 c.selId c.evt.tallies)).1 := by
  simp [Chip.readTally, c.readRc_value, Word.and_ones]

theorem Chip.readTally_left : KMap.get 0 c.selId c.readTally.2.evt.tallies =
    (c.countedNow (2 ^ 32 + c.selId) (KMap.get 0 c.selId c.evt.tallies)).2 := by
  simp [Chip.readTally, c.readRc_left, Word.and_ones]

end Sys2Proof.Machine

namespace Sys2Proof

open Sys2Proof.Machine

/-! ## The rows -/

/-- What a counter's command is: the read of a counter's register, ready where the access is accepted. -/
structure ReadsCounter (i : Instr) (r : Req) (a : Nat) (fs : List Fld) : Prop where
  counter : isCounter a fs = true
  exec_eq : ∀ s, exec i s = s.act fun c => c.readTo r a
  ready_eq : ∀ c, registerReady c i = acceptsRead c r a
  effect : ∀ c d, CounterRead c d r a fs → registerEffect c d i

theorem isCounter_seCyc : ∀ n : Fin 17, isCounter (R.SE_CYC n.val) [F.SE_CYC_max n.val] = true := by decide +kernel
theorem isCounter_seOvrCnt : ∀ n : Fin 17, isCounter (R.SE_OVR_CNT n.val) [F.SE_OVR_CNT_count n.val] = true := by decide +kernel
theorem isCounter_prtLaneSlip : ∀ n : BitVec 5, isCounter (R.PRT_LANE_SLIP n.toNat)
    [F.PRT_LANE_SLIP_ovr_cnt n.toNat, F.PRT_LANE_SLIP_udr_cnt n.toNat] = true := by decide +kernel
theorem isCounter_prtGrpFerr : ∀ g : BitVec 3, isCounter (R.PRT_GRP_FERR g.toNat) [F.PRT_GRP_FERR_count g.toNat] = true := by
  decide +kernel
theorem isCounter_guardChPeakCnt : ∀ ch : BitVec 6, isCounter (R.GUARD_CH_PEAK_CNT ch.toNat)
    [F.GUARD_CH_PEAK_CNT_count ch.toNat] = true := by decide +kernel

/-- The commands that `clearedFields` lists are reads of counters. -/
theorem readsCounter_of_clearedFields {i : Instr} {r : Req} {a : Nat} {fs : List Fld} (h : clearedFields i = some (r, a, fs)) :
    ReadsCounter i r a fs := by
  unfold clearedFields at h
  split at h
  all_goals cases h
  all_goals refine ⟨?_, fun _ => rfl, fun _ => rfl, fun _ _ he x hx => by
    cases hx; exact ⟨fun f hf => ⟨he.value f hf, he.left f hf⟩, he.quiet, he.others⟩⟩
  case h_1 n => exact isCounter_seCyc n
  case h_2 n => exact isCounter_seOvrCnt n
  case h_5 n => exact isCounter_prtLaneSlip n
  case h_6 g => exact isCounter_prtGrpFerr g
  case h_8 ch => exact isCounter_guardChPeakCnt ch
  all_goals decide +kernel

/-- A counter's read completes with the count for the requester and the count cleared. -/
theorem ReadsCounter.completes {i : Instr} {r : Req} {a : Nat} {fs : List Fld} (h : ReadsCounter i r a fs) {s : State}
    (hs : safe s = true) (hr : registerReady s.chip i = true) : Completes i s fun d => registerEffect s.chip d i := by
  have ha : acceptsRead s.chip r a = true := (h.ready_eq s.chip).symm.trans hr
  exact (SamePermits.readTo s.chip ha h.counter).completes hs (h.exec_eq s) (h.effect _ _ (s.chip.counterRead_readTo ha h.counter))

/-- A read of EVT_TALLY completes with both tallies for the requester and the tallies cleared. -/
theorem completes_evtTallyRead {s : State} {r : Req} (hs : safe s = true) (hr : registerReady s.chip (.evtTallyRead r) = true) :
    Completes (.evtTallyRead r) s fun d => registerEffect s.chip d (.evtTallyRead r) := by
  have hread := s.chip.readTo_tally hr
  have hsame : SamePermits s.chip (s.chip.readTo r R.EVT_TALLY) := by
    rw [hread]
    exact ⟨fun _ _ => rfl, rfl, rfl, rfl⟩
  refine SamePermits.completes (f := fun c => c.readTo r R.EVT_TALLY) hsame hs rfl ?_
  rw [hread]
  exact ⟨(returned_keepRead _ _ _).trans s.chip.readTally_value, s.chip.readTally_left, rfl⟩

/-- The write of a plain register completes with what the access codes give, and nothing else. -/
theorem completes_registerWrite {s : State} {r : Req} {addr v : Word} (hs : safe s = true)
    (hr : registerReady s.chip (.registerWrite r addr v) = true) :
    Completes (.registerWrite r addr v) s fun d => registerEffect s.chip d (.registerWrite r addr v) := by
  simp only [registerReady, Bool.and_eq_true, Bool.not_eq_true'] at hr
  obtain ⟨⟨⟨hplain, hacc⟩, -⟩, hso⟩ := hr
  have hwrite : s.chip.registerWrite r addr.toNat v = s.chip.plainWrite addr.toNat v := by
    rw [s.chip.registerWrite_accepted hacc (inPages_of_plainReg hplain) hso, s.chip.writeReg_plain r hplain]
  refine SamePermits.completes (f := fun c => c.registerWrite r addr.toNat v) ?_ hs rfl ?_
  · rw [hwrite]
    exact .plainWrite s.chip hplain v
  · rw [hwrite]
    have hrest := s.chip.plainWrite_rest addr.toNat v
    exact ⟨fun row hrow => s.chip.rd_plainWrite_self hrow v, fun b hb => s.chip.rd_plainWrite_ne hb v,
      (congrArg Chip.mem hrest :), (congrArg Chip.pas hrest :), (congrArg Chip.eng hrest :), (congrArg Chip.crook hrest :),
      (congrArg Chip.co hrest :), (congrArg Chip.dma hrest :), (congrArg Chip.prt hrest :),
      (congrArg (fun d => d.time.stc) hrest :)⟩

/-- Settles O39: a plain write is `plainWrite` and a counter's read is `readRc`, and neither touches what permits the PA or a pulse,
so that the end of the command changes nothing more. -/
theorem registerRowsComplete : Obligations.RegisterRowsComplete := by
  intro i s hs hr
  cases hcl : clearedFields i with
  | some x => exact (readsCounter_of_clearedFields hcl).completes hs hr
  | none =>
    have hready := hr
    unfold registerReady at hready
    split at hready
    next => exact completes_registerWrite hs hr
    next => exact completes_evtTallyRead hs hr
    next => simp [hcl] at hready

end Sys2Proof
end

section
/-! PROOFS. What every command of the table has in common: it acts on the device and leaves the queue. -/

namespace Sys2Proof.Machine

/-- An action on the device has a next state, which is settled and waits for the same commands. -/
theorem State.act_next (s : State) (f : Chip → Chip) :
    ∃ t, s.act f = .next t ∧ t.pending = s.pending ∧ t.chip = (f s.chip).settle :=
  ⟨{ s with chip := (f s.chip).settle }, rfl, rfl, rfl⟩

/-- Each command is one action on the device, the same whatever the state and whatever waits behind the command: no row of the
table has a branch that faults, refuses or touches the queue. -/
theorem exec_eq_act (i : Instr) : ∃ f : Chip → Chip, ∀ s, exec i s = s.act f := by
  unfold exec
  cases i <;> exact ⟨_, fun _ => rfl⟩

end Sys2Proof.Machine

namespace Sys2Proof

open Sys2Proof.Machine

/-- Settles O50: every command is an action on the device (`exec_eq_act`), and an action has a next state with the same queue. -/
theorem everyCommandCompletes : Obligations.EveryCommandCompletes := by
  intro i s
  obtain ⟨f, hf⟩ := exec_eq_act i
  obtain ⟨t, hnext, hpending, -⟩ := s.act_next f
  exact ⟨t, (hf s).trans hnext, hpending⟩

end Sys2Proof
end

section
/-! PROOFS. The end of every command: what it makes of time and of the time pulses, and that it leaves the device safe. -/

namespace Sys2Proof.Machine

variable (c : Chip)

/-! ## Time and the pulses at the end of a command -/

@[simp] theorem Chip.countAir_time : c.countAir.time = c.time := by
  unfold Chip.countAir
  split
  · dsimp only
    split <;> rfl
  · rfl

@[simp] theorem Chip.endTx_time : c.endTx.time = c.time := by
  unfold Chip.endTx Chip.showTx
  dsimp only
  split <;> split <;> rfl

@[simp] theorem Chip.holdPa_time : c.holdPa.time = c.time := by
  unfold Chip.holdPa Chip.cutKeyed
  split
  · rfl
  · split
    · rw [Chip.endTx_time]
      exact c.countAir_time
    · rfl

theorem Chip.tp_congr {c d : Chip} (h : d.time = c.time) (n : Bool) : d.tp n = c.tp n := by simp only [Chip.tp, h]

/-- Ending the pulses that are held changes of time nothing but whether a pulse is active. -/
theorem Chip.endHeldPulse_time (n : Bool) : (c.endHeldPulse n).time =
    { c.time with tp0 := (c.endHeldPulse n).time.tp0, tp1 := (c.endHeldPulse n).time.tp1 } := by
  unfold Chip.endHeldPulse
  cases n <;> split <;> rfl

/-- The pulse `t`, no longer active where it is held. -/
def TpSt.judged (t : TpSt) (held : Bool) : TpSt := { t with active := t.active && !held }

theorem Chip.endHeldPulse_tp_self (n : Bool) : (c.endHeldPulse n).tp n = (c.tp n).judged (c.tpHeld n) := by
  unfold Chip.endHeldPulse
  split
  next h => cases n <;> simp [Chip.setTp, Chip.tp, h, TpSt.judged]
  next h => simp [h, TpSt.judged]

theorem Chip.endHeldPulse_tp_ne {m n : Bool} (h : m ≠ n) : (c.endHeldPulse n).tp m = c.tp m := by
  obtain rfl := Bool.eq_not_of_ne h
  unfold Chip.endHeldPulse
  cases n <;> split <;> rfl

theorem Chip.endHeldPulse_tpHeld_ne {m n : Bool} (h : m ≠ n) : (c.endHeldPulse n).tpHeld m = c.tpHeld m :=
  Chip.tpHeld_congr _ (c.endHeldPulse_regs n) (c.endHeldPulse_tp_ne h)

/-- Whether a pulse is held is settled by its configuration, the gate and the lock, none of which the end of a command changes. -/
theorem Chip.tpHeld_of_same {c d : Chip} {n : Bool} (ht : d.tp n = c.tp n) (hg : d.bit F.GUARD_GATE_gpio = c.bit F.GUARD_GATE_gpio)
    (hl : d.bit F.CLK_STAT_locked = c.bit F.CLK_STAT_locked) : d.tpHeld n = c.tpHeld n := by
  simp only [Chip.tpHeld, ht, hg, hl]

/-- The device as routing and the PA's hold leave it, before pulses are judged. -/
def Chip.paHeld : Chip := c.flush.countAir.holdPa

theorem Chip.settle_eq : c.settle = (c.paHeld.endHeldPulse false).endHeldPulse true := rfl

@[simp] theorem Chip.paHeld_time : c.paHeld.time = c.time := by simp [Chip.paHeld]

theorem Chip.paHeld_rd {a : Nat} (h : flushReg a = false) (k : holdReg a = false) : c.paHeld.rd a = c.rd a := by
  have hp := ((SameButHold.countAir c.flush).trans (SameButHold.holdPa _)).rd a k
  exact hp.trans (c.flush_rd h)

theorem Chip.paHeld_bit {f : Fld} (h : flushReg f.addr = false) (k : holdReg f.addr = false) : c.paHeld.bit f = c.bit f := by
  have hg : c.paHeld.get f = c.get f := by simp only [Chip.get, c.paHeld_rd h k]
  simp only [Chip.bit, hg]

theorem Chip.paHeld_tpHeld (n : Bool) : c.paHeld.tpHeld n = c.tpHeld n :=
  Chip.tpHeld_of_same (Chip.tp_congr c.paHeld_time n) (c.paHeld_bit (by decide) (by decide)) (c.paHeld_bit (by decide) (by decide))

/-- At the end of a command a pulse is as the command left it, but that one which is held is no longer active (R45, R47). -/
theorem Chip.settle_tp (n : Bool) : c.settle.tp n = (c.tp n).judged (c.tpHeld n) := by
  rw [c.settle_eq, ← Chip.tp_congr c.paHeld_time n, ← c.paHeld_tpHeld n]
  cases n with
  | false => rw [Chip.endHeldPulse_tp_ne _ Bool.false_ne_true, Chip.endHeldPulse_tp_self]
  | true =>
    have hne := Bool.false_ne_true.symm
    rw [Chip.endHeldPulse_tp_self, Chip.endHeldPulse_tp_ne _ hne, Chip.endHeldPulse_tpHeld_ne _ hne]

/-- The end of a command changes of time nothing but whether a pulse is active. -/
theorem Chip.settle_time : c.settle.time = { c.time with tp0 := c.settle.time.tp0, tp1 := c.settle.time.tp1 } := by
  rw [c.settle_eq]
  generalize hd : c.paHeld.endHeldPulse false = d
  have h1 := d.endHeldPulse_time true
  have h0 := c.paHeld.endHeldPulse_time false
  rw [c.paHeld_time, hd] at h0
  rw [h1, h0]

@[simp] theorem Chip.settle_stc : c.settle.time.stc = c.time.stc := (congrArg TimeSt.stc c.settle_time :)
@[simp] theorem Chip.settle_frac : c.settle.time.frac = c.time.frac := (congrArg TimeSt.frac c.settle_time :)
@[simp] theorem Chip.settle_rootOn : c.settle.time.rootOn = c.time.rootOn := (congrArg TimeSt.rootOn c.settle_time :)
@[simp] theorem Chip.settle_satRun : c.settle.time.satRun = c.time.satRun := (congrArg TimeSt.satRun c.settle_time :)
@[simp] theorem Chip.settle_satAt : c.settle.time.satAt = c.time.satAt := (congrArg TimeSt.satAt c.settle_time :)
@[simp] theorem Chip.settle_loadAt : c.settle.time.loadAt = c.time.loadAt := (congrArg TimeSt.loadAt c.settle_time :)
@[simp] theorem Chip.settle_steerAt : c.settle.time.steerAt = c.time.steerAt := (congrArg TimeSt.steerAt c.settle_time :)
@[simp] theorem Chip.settle_now : c.settle.now = c.now := by simp only [Chip.now, Chip.settle_stc, Chip.settle_frac]
@[simp] theorem Chip.settle_snap (r : Req) : c.settle.snap r = c.snap r := by
  unfold Chip.snap
  rw [c.settle_time]

/-! ## The end of a command leaves the device safe -/

theorem Chip.tpSafe_settle (n : Bool) : Sys2Proof.tpSafe c.settle n = true := by
  have ht := c.settle_tp n
  have hh : c.settle.tpHeld n = c.tpHeld n := by
    simp only [Chip.tpHeld, ht, TpSt.judged, c.settle_bit (f := F.GUARD_GATE_gpio) (by decide) (by decide),
      c.settle_bit (f := F.CLK_STAT_locked) (by decide) (by decide)]
  simp only [Sys2Proof.tpSafe, hh, ht, TpSt.judged]
  cases c.tpHeld n <;> simp

theorem Chip.paSafe_settle : Sys2Proof.paSafe c.settle = true := by
  have hregs : c.settle.regs = c.paHeld.regs := by simp [c.settle_eq]
  have hrf : c.settle.rf = c.paHeld.rf := by simp [c.settle_eq]
  simp only [Sys2Proof.paSafe, Chip.paAllowed_congr hregs hrf, hrf]
  exact Chip.holdPa_safe _

/-- Whatever a command did, at its end the device is safe. -/
theorem Chip.safe_settle (q : List Instr) : Sys2Proof.safe ⟨q, c.settle⟩ = true := by
  simp only [Sys2Proof.safe, Chip.paSafe_settle, Chip.tpSafe_settle, Sys2Proof.evtSettled, Chip.settle_batch, List.isEmpty_nil,
    Bool.and_true, Bool.true_and]
  exact Chip.hold_air _

/-- Every step is an action on the device: time that passes, or the front command's. -/
theorem step_eq_act (s : State) : ∃ (q : List Instr) (f : Chip → Chip), step s = State.act ⟨q, s.chip⟩ f := by
  unfold step
  split
  next h => exact ⟨s.pending, _, rfl⟩
  next i rest h =>
    obtain ⟨f, hf⟩ := exec_eq_act i
    exact ⟨rest, f, hf _⟩

end Sys2Proof.Machine

namespace Sys2Proof

open Sys2Proof.Machine

/-- Settles O52: each step is an action on the device, and an action ends with `settle`, which leaves any device safe. -/
theorem everyStepLeavesTheDeviceSafe : Obligations.EveryStepLeavesTheDeviceSafe := by
  intro s t h
  obtain ⟨q, f, hf⟩ := step_eq_act s
  rw [hf] at h
  cases h
  exact Chip.safe_settle _ q

/-- Settles O53: every register, count and list of the device at power-on is the one its table or its zero value names. -/
theorem resetStateIsSafeAndAtItsResetValues : Obligations.ResetStateIsSafeAndAtItsResetValues := by
  refine ⟨by decide +kernel, rfl, fun _ => rfl, rfl, rfl, rfl, rfl, rfl, by decide +kernel, by decide +kernel, by decide +kernel,
    by decide +kernel, rfl, by decide +kernel, fun _ => rfl⟩

end Sys2Proof
end

section
/-! PROOFS. What the rows of the clocks can change at all: some fields of the registers, time, the event fabric, and what counts with
time. -/

namespace Sys2Proof.Machine

/-! ## Fields apart -/

/-- The fields share no bit. -/
def Fld.apart (f g : Fld) : Bool :=
  decide (g.addr ≠ f.addr) || decide (g.lo + g.width ≤ f.lo) || decide (f.lo + f.width ≤ g.lo)

/-- The field lies within a word. -/
def Fld.fits (f : Fld) : Bool := decide (f.lo + f.width ≤ 32)

/-- The whole register at `a`. -/
def Fld.whole (a : Nat) : Fld := ⟨a, 0, 32⟩

/-- `g` is a field of a word that shares no bit with any of `l`. -/
def Fld.freeOf (g : Fld) (l : List Fld) : Bool := g.fits && l.all fun f => f.apart g

theorem Fld.freeOf_mono {g : Fld} {l m : List Fld} (h : l ⊆ m) (hg : g.freeOf m = true) : g.freeOf l = true := by
  simp only [Fld.freeOf, Bool.and_eq_true, List.all_eq_true] at hg ⊢
  exact ⟨hg.1, fun f hf => hg.2 f (h hf)⟩

/-- A register is free of fields of other registers. -/
theorem Fld.whole_freeOf {a : Nat} {l : List Fld} (h : ∀ f ∈ l, a ≠ f.addr) : (Fld.whole a).freeOf l = true := by
  simp only [Fld.freeOf, Bool.and_eq_true, List.all_eq_true]
  exact ⟨rfl, fun f hf => by simp [Fld.apart, Fld.whole, h f hf]⟩

variable (c : Chip)

theorem Chip.get_whole (a : Nat) : c.get (Fld.whole a) = (c.rd a).toNat := by
  have h := (c.rd a).isLt
  simp only [Chip.get, Fld.whole]
  omega

theorem Chip.get_put_apart {f g : Fld} (h : f.apart g = true) (hg : g.fits = true) (v : Nat) : (c.put f v).get g = c.get g := by
  simp only [Fld.apart, Fld.fits, Bool.or_eq_true, decide_eq_true_eq] at h hg
  by_cases ha : g.addr = f.addr
  · exact c.get_put_disj ha hg (by tauto) v
  · exact c.get_put_ne ha v

/-! ## The relation -/

/-- `d` with what the rows of the clocks may change, registers apart, put back as it is in `c`: time and what counts with it, the event
fabric, the record of R7, the free values drawn, what a read returned, and the mark of an unlocked root (R337). -/
def Chip.clockBack (c d : Chip) : Chip :=
  { d with
    regs := c.regs
    fresh := c.fresh
    free := c.free
    time := c.time
    evt := c.evt
    pwr := c.pwr
    bus := c.bus
    gn := { d.gn with ru := c.gn.ru }
    crook := { d.crook with
      core := { d.crook.core with cyc := c.crook.core.cyc }
      wdCount := c.crook.wdCount
      wdFrac := c.crook.wdFrac } }

/-- From `c` to `d` a row of the clocks sets no more of the registers than the fields `l`, and leaves what no such row touches. -/
structure ClockMoves (l : List Fld) (c d : Chip) : Prop where
  get : ∀ g : Fld, g.freeOf l = true → d.get g = c.get g
  rest : c.clockBack d = c

namespace ClockMoves

theorem refl (l : List Fld) : ClockMoves l c c := ⟨fun _ _ => rfl, rfl⟩

variable {c}
variable {d e : Chip} {l m : List Fld}

theorem mono (h : ClockMoves l c d) (hl : l ⊆ m) : ClockMoves m c d := ⟨fun g hg => h.get g (Fld.freeOf_mono hl hg), h.rest⟩

theorem trans (h : ClockMoves l c d) (k : ClockMoves l d e) : ClockMoves l c e :=
  ⟨fun g hg => (k.get g hg).trans (h.get g hg), (congrArg c.clockBack k.rest).trans h.rest⟩

/-- A row that sets the fields of both. -/
theorem append (h : ClockMoves l c d) (k : ClockMoves m d e) : ClockMoves (l ++ m) c e :=
  (h.mono (List.subset_append_left l m)).trans (k.mono (List.subset_append_right l m))

theorem bit (h : ClockMoves l c d) {g : Fld} (hg : g.freeOf l = true) : d.bit g = c.bit g := by
  simp only [Chip.bit, h.get g hg]

theorem rd (h : ClockMoves l c d) {a : Nat} (ha : (Fld.whole a).freeOf l = true) : d.rd a = c.rd a := by
  have hw := h.get _ ha
  rw [Chip.get_whole, Chip.get_whole] at hw
  exact BitVec.eq_of_toNat_eq hw

/-- A change that touches no register. -/
theorem of_regs (hr : d.regs = c.regs) (h : c.clockBack d = c) : ClockMoves l c d := ⟨fun g _ => Chip.get_congr hr g, h⟩

end ClockMoves

/-! ## The operations that the rows are made of -/

theorem Chip.put_moves (f : Fld) (v : Nat) : ClockMoves [f] c (c.put f v) := by
  refine ⟨fun g hg => ?_, rfl⟩
  simp only [Fld.freeOf, Bool.and_eq_true, List.all_cons, List.all_nil, Bool.and_true] at hg
  exact c.get_put_apart hg.2 hg.1 v

theorem Chip.putB_moves (f : Fld) (b : Bool) : ClockMoves [f] c (c.putB f b) := c.put_moves f _

theorem Chip.wr_moves (a : Nat) (v : Word) : ClockMoves [Fld.whole a] c (c.wr a v) := by
  refine ⟨fun g hg => ?_, rfl⟩
  simp only [Fld.freeOf, Fld.fits, Fld.apart, Fld.whole, Bool.and_eq_true, List.all_cons, List.all_nil, Bool.and_true, Bool.or_eq_true,
    decide_eq_true_eq] at hg
  by_cases ha : g.addr = a
  · have hw : g.width = 0 := by omega
    simp only [Chip.get, hw, pow_zero, Nat.mod_one]
  · exact c.get_wr_ne ha v

theorem Chip.raise_moves (id : Nat) (loc arg : Word) : ClockMoves [] c (c.raise id loc arg) := .of_regs rfl rfl

theorem Chip.levelOn_moves (id : Nat) (loc arg : Word) : ClockMoves [] c (c.levelOn id loc arg) := by
  unfold Chip.levelOn
  split <;> exact .of_regs rfl rfl

theorem Chip.levelOff_moves (id : Nat) (loc : Word) : ClockMoves [] c (c.levelOff id loc) := by
  unfold Chip.levelOff
  split <;> exact .of_regs rfl rfl

theorem Chip.latch_moves (f : Fld) : ClockMoves [f] c (c.latch f) := (c.put_moves f 1).trans (.of_regs rfl rfl)

theorem Chip.setTime_moves (t : TimeSt) : ClockMoves [] c { c with time := t } := .of_regs rfl rfl

theorem Chip.setTp_moves (n : Bool) (t : TpSt) : ClockMoves [] c (c.setTp n t) := .of_regs rfl rfl

theorem Chip.draw_moves : ClockMoves [] c c.draw.2 := .of_regs rfl rfl

/-- A plain write sets no more than its register. -/
theorem Chip.plainWrite_moves (a : Nat) (v : Word) : ClockMoves [Fld.whole (regCanon a)] c (c.plainWrite a v) := by
  unfold Chip.plainWrite
  split
  · exact (c.wr_moves _ _).trans (.of_regs rfl rfl)
  · exact .refl c _

/-- Time that passes counts in PWR_TMR alone. -/
theorem Chip.advance_moves (n : Nat) : ClockMoves [Fld.whole R.PWR_TMR] c (c.advance n) :=
  ⟨fun g hg => ((c.setNow (c.now + n)).wr_moves R.PWR_TMR _).get g hg, rfl⟩

theorem Chip.advanceTo_moves (n : Nat) : ClockMoves [Fld.whole R.PWR_TMR] c (c.advanceTo n) := by
  unfold Chip.advanceTo
  split
  · exact c.advance_moves _
  · exact .refl c _

/-! ## Discipline -/

/-- The fields that show the steering target. -/
def targetFlds : List Fld := [Fld.whole R.CLK_TARGET, F.CLK_STAT_slewing, F.CLK_STAT_at_limit]

/-- Once the target is written the rest shows how it compares. -/
theorem Chip.setTarget_shows (t : Int) : ClockMoves [F.CLK_STAT_slewing, F.CLK_STAT_at_limit]
    (c.wr R.CLK_TARGET (BitVec.ofInt 32 (satInt t (-steerLim) steerLim))) (c.setTarget t) := by
  have h1 := Chip.putB_moves (c.wr R.CLK_TARGET (BitVec.ofInt 32 (satInt t (-steerLim) steerLim))) F.CLK_STAT_slewing
    (decide ((c.rd R.CLK_STEER).toInt ≠ satInt t (-steerLim) steerLim))
  unfold Chip.setTarget
  dsimp only
  split
  · exact h1.append ((Chip.put_moves _ _ _).append (Chip.levelOff_moves _ _ _))
  · exact h1.append ((Chip.put_moves _ _ _).append (Chip.levelOn_moves _ _ _ _))

theorem Chip.setTarget_moves (t : Int) : ClockMoves targetFlds c (c.setTarget t) :=
  (c.wr_moves _ _).append (c.setTarget_shows t)

/-- The fields that a change of the discipline state sets. -/
def discFlds : List Fld := F.CLK_STAT_state :: Fld.whole R.CLK_INTEG :: targetFlds

/-- The state and its event, before the target of the state (R36). -/
def Chip.enterDisc (st : Nat) : Chip :=
  if c.get F.CLK_STAT_state = st then c
  else { ((c.put F.CLK_STAT_state st).raise Ev.CLK_STATE locNone 0) with
    time := { c.time with holdAt := if st = stHold then c.now else c.time.holdAt } }

theorem Chip.setDisc_eq (st : Nat) : c.setDisc st =
    if st = stFree then ((c.enterDisc st).wr R.CLK_INTEG 0).setTarget 0
    else if st = stHold then (c.enterDisc st).setTarget ((c.enterDisc st).rd R.CLK_INTEG).toInt
    else if st = stManual then (c.enterDisc st).setTarget ((c.enterDisc st).rd R.CLK_MANUAL).toInt
    else c.enterDisc st := rfl

theorem Chip.enterDisc_moves (st : Nat) : ClockMoves [F.CLK_STAT_state] c (c.enterDisc st) := by
  unfold Chip.enterDisc
  split
  · exact .refl c _
  · exact (((c.put_moves _ st).append (Chip.raise_moves _ _ _ _)).append (Chip.setTime_moves _ _)).mono (by simp)

theorem Chip.setDisc_moves (st : Nat) : ClockMoves discFlds c (c.setDisc st) := by
  have h1 := c.enterDisc_moves st
  rw [c.setDisc_eq]
  split_ifs
  · exact (h1.append ((Chip.wr_moves _ _ _).append (Chip.setTarget_moves _ _))).mono (by decide)
  · exact (h1.append (Chip.setTarget_moves _ _)).mono (by decide)
  · exact (h1.append (Chip.setTarget_moves _ _)).mono (by decide)
  · exact h1.mono (by decide)

/-- The lock detector starts afresh (R36). -/
def Chip.freshLock : Chip := { c with time := { c.time with inThr := 0, outThr := 0 } }

theorem Chip.freshLock_moves : ClockMoves [] c c.freshLock := c.setTime_moves _

theorem Chip.judgeDisc_eq : c.judgeDisc =
    if c.get F.CLK_STAT_state = stManual then c
    else if (c.get F.CLK_STAT_state = stAcq ∨ c.get F.CLK_STAT_state = stLocked) ∧ !c.anyValid then c.setDisc stHold
    else if (c.get F.CLK_STAT_state = stFree ∨ c.get F.CLK_STAT_state = stHold) ∧ c.srcValid (c.get F.CLK_STAT_src) then
      (c.setDisc stAcq).freshLock
    else c := rfl

theorem Chip.judgeDisc_moves : ClockMoves discFlds c c.judgeDisc := by
  rw [c.judgeDisc_eq]
  split_ifs
  · exact .refl c _
  · exact c.setDisc_moves _
  · exact ((c.setDisc_moves _).append (Chip.freshLock_moves _)).mono (by simp)
  · exact .refl c _

theorem Chip.invalidate_moves (src : Nat) : ClockMoves (validFld src :: discFlds) c (c.invalidate src) := by
  unfold Chip.invalidate
  exact (((c.setTime_moves _).append (Chip.put_moves _ _ 0)).append (Chip.judgeDisc_moves _)).mono (by simp)

theorem Chip.countSample_moves (src : Nat) : ClockMoves [validFld src] c (c.countSample src) := by
  unfold Chip.countSample
  split
  · exact .refl c _
  · dsimp only
    split
    · exact ((c.setTime_moves _).append (Chip.put_moves _ _ 1)).mono (by simp)
    · exact (c.setTime_moves _).mono (by simp)

/-- The runs of samples within and beyond the threshold, one sample on (R36). -/
def Chip.countLock (e : Int) : Chip :=
  let ok := decide (e.natAbs ≤ c.get F.CLK_LOCK_THR_thr)
  { c with time := { c.time with inThr := if ok then c.time.inThr + 1 else 0, outThr := if ok then 0 else c.time.outThr + 1 } }

theorem Chip.judgeLock_eq (e : Int) : c.judgeLock e =
    if (c.countLock e).get F.CLK_STAT_state = stAcq ∧ 16 ≤ (c.countLock e).time.inThr then (c.countLock e).setDisc stLocked
    else if (c.countLock e).get F.CLK_STAT_state = stLocked ∧ 4 ≤ (c.countLock e).time.outThr then
      ((c.countLock e).setDisc stAcq).freshLock
    else c.countLock e := rfl

theorem Chip.judgeLock_moves (e : Int) : ClockMoves discFlds c (c.judgeLock e) := by
  have h1 : ClockMoves [] c (c.countLock e) := c.setTime_moves _
  rw [c.judgeLock_eq]
  split_ifs
  · exact (h1.append (Chip.setDisc_moves _ _)).mono (by simp)
  · exact ((h1.append (Chip.setDisc_moves _ _)).append (Chip.freshLock_moves _)).mono (by simp)
  · exact h1.mono (by simp)

theorem Chip.loopUpdate_moves (e : Int) : ClockMoves discFlds c (c.loopUpdate e) := by
  unfold Chip.loopUpdate
  exact ((c.wr_moves _ _).append (Chip.setTarget_moves _ _)).mono (by decide)

/-- The fields that a sample of a source sets. -/
def sampleFlds (src : Nat) : List Fld := validFld src :: Fld.whole R.CLK_PERR_LAST :: F.CLK_STAT_coarse :: discFlds

theorem sampleFlds_all (src : Nat) :
    [validFld src] ++ ([Fld.whole R.CLK_PERR_LAST] ++ [F.CLK_STAT_coarse] ++ discFlds ++ discFlds) ⊆ sampleFlds src := by
  intro f
  simp only [sampleFlds, List.mem_append, List.mem_cons, List.not_mem_nil]
  tauto

theorem Chip.sample_moves (src : Nat) (e : Int) : ClockMoves (sampleFlds src) c (c.sample src e) := by
  unfold Chip.sample
  have h1 := c.countSample_moves src
  dsimp only
  split
  · exact .refl c _
  · split
    · exact (h1.append ((((Chip.wr_moves _ _ _).append (Chip.put_moves _ _ _)).append (Chip.loopUpdate_moves _ _)).append
        (Chip.judgeLock_moves _ _))).mono (sampleFlds_all src)
    · exact h1.mono (by simp [sampleFlds])

/-- Another source is shown as selected (R33). -/
def Chip.showSource (src : Nat) : Chip := ((c.put F.CLK_STAT_src src).raise Ev.CLK_SRC_CHANGE locNone 0).freshLock

theorem Chip.newSource_eq (src : Nat) : c.newSource src =
    (if src ≠ 3 ∧ (c.showSource src).get F.CLK_STAT_state = stLocked then (c.showSource src).setDisc stAcq
      else c.showSource src).judgeDisc := rfl

theorem Chip.showSource_moves (src : Nat) : ClockMoves [F.CLK_STAT_src] c (c.showSource src) :=
  ((c.put_moves _ src).append (Chip.raise_moves _ _ _ _)).append (Chip.freshLock_moves _)

theorem Chip.newSource_moves (src : Nat) : ClockMoves (F.CLK_STAT_src :: discFlds) c (c.newSource src) := by
  have h1 := c.showSource_moves src
  rw [c.newSource_eq]
  split
  · exact (h1.append ((Chip.setDisc_moves _ _).append (Chip.judgeDisc_moves _))).mono (by simp)
  · exact h1.append (Chip.judgeDisc_moves _)

theorem Chip.selectSource_moves : ClockMoves (F.CLK_STAT_src :: discFlds) c c.selectSource := by
  unfold Chip.selectSource
  dsimp only
  split
  · exact .refl c _
  · split
    · exact c.judgeDisc_moves.mono (by simp)
    · exact c.newSource_moves _

theorem Chip.steerStep_moves : ClockMoves (Fld.whole R.CLK_STEER :: targetFlds) c c.steerStep := by
  unfold Chip.steerStep
  dsimp only
  split
  · exact .refl c _
  · refine ((ClockMoves.append (m := [Fld.whole R.CLK_STEER, F.CLK_STAT_slewing]) ?_
      (((Chip.wr_moves _ _ _).append (Chip.putB_moves _ _ _)).append (Chip.setTime_moves _ _))).mono (l := targetFlds ++ _) (by decide))
    split
    · exact c.setTarget_moves _
    · exact .refl c _

theorem Chip.sourceTimeout_moves (src : Nat) :
    ClockMoves (Fld.whole R.PWR_TMR :: validFld src :: discFlds) c (c.sourceTimeout src) := by
  unfold Chip.sourceTimeout
  split
  · exact .refl c _
  · exact (c.advanceTo_moves _).append (Chip.invalidate_moves _ src)

theorem Chip.holdLimit_moves : ClockMoves (Fld.whole R.PWR_TMR :: discFlds) c c.holdLimit := by
  unfold Chip.holdLimit
  dsimp only
  split
  · exact .refl c _
  · exact (c.advanceTo_moves _).append (Chip.setDisc_moves _ _)

/-- A source that loses its enable becomes invalid (R32). -/
def Chip.dropUnless (en : Fld) (src : Nat) : Chip := if c.bit en then c else c.invalidate src

theorem Chip.dropUnless_moves (en : Fld) (src : Nat) : ClockMoves (validFld src :: discFlds) c (c.dropUnless en src) := by
  unfold Chip.dropUnless
  split
  · exact .refl c _
  · exact c.invalidate_moves src

/-- A write of CLK_CTRL up to the enables of the sources. -/
def Chip.clkCtrlSet (v : Word) : Chip :=
  (((c.plainWrite R.CLK_CTRL v).dropUnless F.CLK_CTRL_sat_en 0).dropUnless F.CLK_CTRL_link_en 1).dropUnless F.CLK_CTRL_tmark_en 2

/-- The loop begins from the applied word (R35). -/
def Chip.startLoop : Chip :=
  let c1 := c.wr R.CLK_INTEG (c.rd R.CLK_STEER)
  if c1.srcValid (c1.get F.CLK_STAT_src) then (c1.setDisc stAcq).freshLock
  else if c1.time.everValid then c1.setDisc stHold
  else c1.setDisc stFree

theorem Chip.writeClkCtrl_eq (v : Word) : c.writeClkCtrl v =
    if !(c.clkCtrlSet v).bit F.CLK_CTRL_loop_en then (c.clkCtrlSet v).setDisc stManual
    else if c.bit F.CLK_CTRL_loop_en then c.clkCtrlSet v
    else (c.clkCtrlSet v).startLoop := rfl

/-- The fields that the sources' enables set. -/
def validFlds : List Fld := [F.CLK_STAT_sat_valid, F.CLK_STAT_link_valid, F.CLK_STAT_tmark_valid]

theorem Chip.clkCtrlSet_moves (v : Word) :
    ClockMoves (Fld.whole R.CLK_CTRL :: validFlds ++ discFlds) c (c.clkCtrlSet v) :=
  ((((c.plainWrite_moves R.CLK_CTRL v).append (Chip.dropUnless_moves _ _ 0)).append (Chip.dropUnless_moves _ _ 1)).append
    (Chip.dropUnless_moves _ _ 2)).mono (by decide)

theorem Chip.startLoop_moves : ClockMoves discFlds c c.startLoop := by
  have h1 := c.wr_moves R.CLK_INTEG (c.rd R.CLK_STEER)
  unfold Chip.startLoop
  dsimp only
  split_ifs
  · exact (h1.append ((Chip.setDisc_moves _ _).append (Chip.freshLock_moves _))).mono (by decide)
  · exact (h1.append (Chip.setDisc_moves _ _)).mono (by decide)
  · exact (h1.append (Chip.setDisc_moves _ _)).mono (by decide)

theorem Chip.writeClkCtrl_moves (v : Word) :
    ClockMoves (Fld.whole R.CLK_CTRL :: validFlds ++ discFlds) c (c.writeClkCtrl v) := by
  have h1 := c.clkCtrlSet_moves v
  rw [c.writeClkCtrl_eq]
  split_ifs
  · exact (h1.append (Chip.setDisc_moves _ _)).mono (by decide)
  · exact h1
  · exact (h1.append (Chip.startLoop_moves _)).mono (by decide)

/-! ## Lock, pulses and marks -/

theorem Chip.unlock_moves : ClockMoves [F.CLK_STAT_locked] c c.unlock := by
  unfold Chip.unlock
  split
  · have h1 : ClockMoves [] c { c with gn := { c.gn with ru := true } } := .of_regs rfl rfl
    exact (h1.append (Chip.put_moves _ _ 0)).append (Chip.levelOn_moves _ _ _ _)
  · exact .refl c _

theorem Chip.relock_moves : ClockMoves [F.CLK_STAT_locked] c c.relock := by
  unfold Chip.relock
  split
  · exact .refl c _
  · exact (c.put_moves _ 1).append (Chip.levelOff_moves _ _ _)

theorem Chip.tpStart_moves (n : Bool) : ClockMoves [Fld.whole R.PWR_TMR] c (c.tpStart n) := by
  unfold Chip.tpStart
  dsimp only
  split
  · exact .refl c _
  · exact (c.advanceTo_moves _).append (Chip.setTp_moves _ _ _)

theorem Chip.tpEnd_moves (n : Bool) : ClockMoves [Fld.whole R.PWR_TMR] c (c.tpEnd n) := by
  unfold Chip.tpEnd
  dsimp only
  split
  · exact .refl c _
  · exact (c.advanceTo_moves _).append (Chip.setTp_moves _ _ _)

theorem Chip.writeTpCtrl_moves (n : Bool) (v : Word) :
    ClockMoves [Fld.whole (regCanon (R.TIME_TP_CTRL (b2n n)))] c (c.writeTpCtrl n v) := by
  have h1 := c.plainWrite_moves (R.TIME_TP_CTRL (b2n n)) v
  unfold Chip.writeTpCtrl
  dsimp only
  split
  · exact h1
  · exact h1.append (Chip.setTp_moves _ _ _)

theorem Chip.tpApply_moves (n : Bool) :
    ClockMoves [F.TIME_TP_CTRL_apply (b2n n), F.TIME_TP_CTRL_cfg_err (b2n n)] c (c.tpApply n) := by
  unfold Chip.tpApply
  dsimp only
  split
  · exact .refl c _
  · exact ((c.setTp_moves n _).append (Chip.put_moves _ _ 0)).append (Chip.putB_moves _ _ _)

theorem Chip.markError_moves : ClockMoves [] c c.markError.2 := by
  unfold Chip.markError
  dsimp only
  split
  · exact .refl c _
  · exact c.draw_moves

/-- The capture of a mark, or its loss behind one that stands unread (R49). -/
def Chip.captureMark : Chip :=
  if c.bit F.TIME_TMARK_CTRL_new then c.latch F.TIME_TMARK_CTRL_ovr
  else (((c.put F.TIME_TMARK_CTRL_new 1).wr R.TIME_TMARK_CAP_LO (BitVec.ofNat 32 c.time.stc)).wr R.TIME_TMARK_CAP_HI
    (BitVec.ofNat 32 (c.time.stc / 2 ^ 32))).wr R.TIME_TMARK_CAP_FRAC (BitVec.ofNat 32 c.time.frac.val)

/-- A mark's error is shown (R48). -/
def Chip.showMarkErr (e : Int) : Chip :=
  if e.natAbs < 2 ^ 31 then c.wr R.TIME_TMARK_ERR (BitVec.ofInt 32 e) else c.draw.2.wr R.TIME_TMARK_ERR (BitVec.ofNat 32 c.draw.1)

/-- A mark that is rejected (R48). -/
def Chip.wildMark : Chip :=
  ({ c with time := { c.time with tmarkRun := 0 } }.latch F.TIME_TMARK_CTRL_wild).raise Ev.TMARK_WILD locNone 0

/-- What is done with a mark of error `e`, once that is shown (R48). -/
def Chip.useMark (e : Int) : Chip := if e.natAbs ≤ 16000000 then c.sample 2 e else c.wildMark

theorem Chip.tmarkEdge_eq (falling : Bool) : c.tmarkEdge falling =
    if !c.bit F.TIME_TMARK_CTRL_en || decide (c.bit F.TIME_TMARK_CTRL_edge ≠ falling) || !c.bit F.CLK_STAT_locked then c
    else (c.captureMark.markError.2.showMarkErr c.captureMark.markError.1).useMark c.captureMark.markError.1 := rfl

/-- The fields that the capture of a mark sets. -/
def captureFlds : List Fld :=
  [F.TIME_TMARK_CTRL_new, F.TIME_TMARK_CTRL_ovr, Fld.whole R.TIME_TMARK_CAP_LO, Fld.whole R.TIME_TMARK_CAP_HI,
    Fld.whole R.TIME_TMARK_CAP_FRAC]

theorem Chip.captureMark_moves : ClockMoves captureFlds c c.captureMark := by
  unfold Chip.captureMark
  split
  · exact (c.latch_moves _).mono (by decide)
  · exact ((((c.put_moves _ 1).append (Chip.wr_moves _ _ _)).append (Chip.wr_moves _ _ _)).append (Chip.wr_moves _ _ _)).mono (by decide)

theorem Chip.showMarkErr_moves (e : Int) : ClockMoves [Fld.whole R.TIME_TMARK_ERR] c (c.showMarkErr e) := by
  unfold Chip.showMarkErr
  split
  · exact c.wr_moves _ _
  · exact c.draw_moves.append (Chip.wr_moves _ _ _)

/-- The fields that the use of a mark sets, its capture apart. -/
def markFlds : List Fld := Fld.whole R.TIME_TMARK_ERR :: F.TIME_TMARK_CTRL_wild :: sampleFlds 2

theorem Chip.wildMark_moves : ClockMoves [F.TIME_TMARK_CTRL_wild] c c.wildMark :=
  ((c.setTime_moves _).append (Chip.latch_moves _ _)).append (Chip.raise_moves _ _ _ _)

theorem Chip.useMark_moves (e : Int) : ClockMoves markFlds c (c.useMark e) := by
  unfold Chip.useMark
  split
  · exact (c.sample_moves 2 e).mono (by decide)
  · exact c.wildMark_moves.mono (by decide)

/-- What follows a mark's capture sets none of the captured values. -/
theorem Chip.afterCapture_moves (e : Int) : ClockMoves markFlds c ((c.markError.2.showMarkErr e).useMark e) :=
  ((c.markError_moves.append (Chip.showMarkErr_moves _ e)).append (Chip.useMark_moves _ e)).mono (by decide)

theorem Chip.tmarkEdge_moves (falling : Bool) : ClockMoves (captureFlds ++ markFlds) c (c.tmarkEdge falling) := by
  rw [c.tmarkEdge_eq]
  split
  · exact .refl c _
  · exact c.captureMark_moves.append (Chip.afterCapture_moves _ _)

/-! ## Accesses to the registers of the clocks -/

theorem Chip.refused_moves (r : Req) (wr : Bool) {a : Nat} (h : within a 0x20000000 0x2010FFFF = false) :
    ClockMoves [] c (c.refused r wr a) := by
  have hs : c.storeRefused wr a = none := by simp [Chip.storeRefused, h]
  simp only [Chip.refused, hs]
  exact c.raise_moves _ _ _

theorem Chip.guarded_moves {l : List Fld} (r : Req) {a : Nat} {f : Chip → Chip} (h : within a 0x20000000 0x2010FFFF = false)
    (hf : ClockMoves l c (f c)) : ClockMoves l c (c.guarded r a f) := by
  unfold Chip.guarded
  split
  · exact hf
  · exact (c.refused_moves r true h).mono (by simp)
  · exact .refl c _

theorem Chip.keepRead_moves (r : Req) (v : Word) : ClockMoves [] c (c.keepRead r v) := .of_regs rfl rfl

theorem Chip.readTo_moves {l : List Fld} (r : Req) {a : Nat} (hp : inPages a = true) (hf : ClockMoves l c (c.readReg r a).2) :
    ClockMoves l c (c.readTo r a) := by
  have hw : within a 0x20000000 0x2010FFFF = false := by
    simp only [inPages, within, Bool.and_eq_true, decide_eq_true_eq] at hp
    simp only [within, Bool.and_eq_false_iff, decide_eq_false_iff_not]
    omega
  unfold Chip.readTo Chip.busRead Chip.busReadN
  split
  · exact (c.keepRead_moves r 0).mono (by simp)
  · cases c.gateOf r false a 4 with
    | accept =>
      simp only [Chip.fetchMap, hp, if_true]
      exact (hf.append (Chip.keepRead_moves _ _ _)).mono (by simp)
    | refuse => exact ((c.refused_moves r false hw).append (Chip.keepRead_moves _ _ _)).mono (by simp)
    | silent => exact (c.keepRead_moves _ _).mono (by simp)

theorem Chip.readReg_stcLo (r : Req) : c.readReg r R.TIME_STC_LO = c.readStcLo r := rfl
theorem Chip.readReg_capLo (r : Req) : c.readReg r R.TIME_TMARK_CAP_LO = c.readCapLo := rfl

theorem Chip.readStcLo_moves (r : Req) : ClockMoves [] c (c.readStcLo r).2 := .of_regs rfl rfl
theorem Chip.readCapLo_moves : ClockMoves [F.TIME_TMARK_CTRL_new] c c.readCapLo.2 := c.put_moves _ 0

end Sys2Proof.Machine
end

section
/-! PROOFS. The frame of the rows of the clocks. -/

namespace Sys2Proof.Machine

variable (c : Chip)

theorem Chip.countAir_posted : c.countAir.rf.posted = c.rf.posted := by
  unfold Chip.countAir
  split
  · dsimp only
    split <;> rfl
  · rfl

theorem Chip.endTx_posted : c.endTx.rf.posted = c.rf.posted := by
  unfold Chip.endTx Chip.showTx
  dsimp only
  split <;> split <;> rfl

@[simp] theorem Chip.settle_posted : c.settle.rf.posted = c.rf.posted := by
  have hcut : ∀ d : Chip, d.holdPa.rf.posted = d.rf.posted := by
    intro d
    unfold Chip.holdPa Chip.cutKeyed
    split
    · rfl
    · split
      · rw [Chip.endTx_posted]
        exact d.countAir_posted
      · rfl
  simp only [c.settle_eq, Chip.paHeld, Chip.endHeldPulse_rf, hcut, Chip.countAir_posted, Chip.flush_rf]

/-- The registers that routing changes stand in page EVT. -/
theorem flushReg_of_outside {a : Nat} (h : within a 0x40070000 0x40070FFF = false) : flushReg a = false := by
  cases hf : flushReg a with
  | false => rfl
  | true =>
    have hin : within a 0x40070000 0x40070FFF = true := by
      simp only [flushReg, Bool.or_eq_true, beq_iff_eq] at hf
      rcases hf with (((rfl | rfl) | rfl) | rfl) | rfl <;> decide
    rw [hin] at h
    exact h

/-- The fields lie in the pages of the clocks and of time, or count in PWR_TMR. -/
def clockFlds (l : List Fld) : Bool := l.all fun f => Sys2Proof.clockRegs f.addr || f.addr == R.PWR_TMR

namespace ClockMoves

variable {c}
variable {d : Chip} {l : List Fld}

/-- No row of the clocks touches a store. -/
theorem sameStores (h : ClockMoves l c d) : Sys2Proof.SameStores c d where
  mem := (congrArg Chip.mem h.rest :)
  ret := (congrArg Chip.ret h.rest :)
  co := (congrArg Chip.co h.rest :)
  eng := (congrArg Chip.eng h.rest :)
  fold := (congrArg Chip.fold h.rest :)
  rot := (congrArg Chip.rot h.rest :)
  guard := (congrArg Chip.guard h.rest :)
  prt := (congrArg Chip.prt h.rest :)
  bst := (congrArg Chip.bst h.rest :)
  dma := (congrArg Chip.dma h.rest :)
  shp := (congrArg Chip.shp h.rest :)
  hif := (congrArg Chip.hif h.rest :)
  crook := by
    conv_rhs => rw [← (congrArg Chip.crook h.rest :)]
    rfl

theorem rd_outside (h : ClockMoves l c d) (hl : clockFlds l = true) {a : Nat} (ha : Sys2Proof.clockRegs a = false)
    (ht : a ≠ R.PWR_TMR) : d.rd a = c.rd a := by
  refine h.rd (Fld.whole_freeOf fun f hf he => ?_)
  have hin := List.all_eq_true.mp hl f hf
  rw [← he, ha, Bool.false_or, beq_iff_eq] at hin
  exact ht hin

end ClockMoves

/-- The end of a command touches no store. -/
theorem sameStores_settle {c d : Chip} (h : Sys2Proof.SameStores c d) : Sys2Proof.SameStores c d.settle where
  mem := d.settle_mem.trans h.mem
  ret := d.settle_ret.trans h.ret
  co := d.settle_co.trans h.co
  eng := d.settle_eng.trans h.eng
  fold := d.settle_fold.trans h.fold
  rot := d.settle_rot.trans h.rot
  guard := d.settle_guard.trans h.guard
  prt := d.settle_prt.trans h.prt
  bst := d.settle_bst.trans h.bst
  dma := d.settle_dma.trans h.dma
  shp := d.settle_shp.trans h.shp
  hif := d.settle_hif.trans h.hif
  crook := by
    rw [d.settle_crook]
    exact h.crook

end Sys2Proof.Machine

namespace Sys2Proof

open Sys2Proof.Machine

/-! ## What each row of the clocks does to the device (chapter 02) -/

section

variable (s : State)

theorem exec_clkUnlock : exec .clkUnlock s = s.act fun c => c.unlock := rfl
theorem exec_rootPllRelock : exec .rootPllRelock s = s.act fun c => c.relock := rfl
theorem exec_steeringStep : exec .steeringStep s = s.act fun c => c.steerStep := rfl
theorem exec_sourceSelection : exec .sourceSelection s = s.act fun c => c.selectSource := rfl
theorem exec_clkPerrSatWrite (r : Req) (v : Word) : exec (.clkPerrSatWrite r v) s =
    s.act fun c => c.guarded r R.CLK_PERR_SAT fun c => c.writePerrSat v := rfl
theorem exec_satTimeout : exec .satTimeout s = s.act fun c => c.sourceTimeout 0 := rfl
theorem exec_linkTimeout : exec .linkTimeout s = s.act fun c => c.sourceTimeout 1 := rfl
theorem exec_tmarkTimeout : exec .tmarkTimeout s = s.act fun c => c.sourceTimeout 2 := rfl
theorem exec_holdLimit : exec .holdLimit s = s.act fun c => c.holdLimit := rfl
theorem exec_loopEnable (r : Req) (v : Word) : exec (.loopEnable r v) s =
    s.act fun c => c.guarded r R.CLK_CTRL fun c => c.writeClkCtrl v := rfl
theorem exec_tpApplyRequest (r : Req) (n : Bool) (v : Word) : exec (.tpApplyRequest r n v) s =
    s.act fun c => c.guarded r (R.TIME_TP_CTRL (b2n n)) fun c => c.writeTpCtrl n v := rfl
theorem exec_tpConfigApply (n : Bool) : exec (.tpConfigApply n) s = s.act fun c => c.tpApply n := rfl
theorem exec_timePulseStart (n : Bool) : exec (.timePulseStart n) s = s.act fun c => c.tpStart n := rfl
theorem exec_timePulseEnd (n : Bool) : exec (.timePulseEnd n) s = s.act fun c => c.tpEnd n := rfl
theorem exec_tmarkEdge (b : Bool) : exec (.tmarkEdge b) s = s.act fun c => c.tmarkEdge b := rfl
theorem exec_stcSnapshot (r : Req) : exec (.stcSnapshot r) s = s.act fun c => c.readTo r R.TIME_STC_LO := rfl
theorem exec_tmarkCapRead (r : Req) : exec (.tmarkCapRead r) s = s.act fun c => c.readTo r R.TIME_TMARK_CAP_LO := rfl

end

/-- Each of these rows is one action that moves clock fields alone. -/
theorem clockRow_moves {i : Instr} (h : clockRow i = true) :
    ∃ (f : Chip → Chip) (l : List Fld), (∀ s, exec i s = s.act f) ∧ clockFlds l = true ∧ ∀ c, ClockMoves l c (f c) := by
  unfold clockRow at h
  split at h
  next => exact ⟨_, _, exec_clkUnlock, by decide, Chip.unlock_moves⟩
  next => exact ⟨_, _, exec_rootPllRelock, by decide, Chip.relock_moves⟩
  next => exact ⟨_, _, exec_steeringStep, by decide, Chip.steerStep_moves⟩
  next => exact ⟨_, _, exec_sourceSelection, by decide, Chip.selectSource_moves⟩
  next r v => exact ⟨_, _, fun s => exec_clkPerrSatWrite s r v, by decide, fun c => c.guarded_moves r (by decide) (c.sample_moves 0 v.toInt)⟩
  next => exact ⟨_, _, exec_satTimeout, by decide, fun c => c.sourceTimeout_moves 0⟩
  next => exact ⟨_, _, exec_linkTimeout, by decide, fun c => c.sourceTimeout_moves 1⟩
  next => exact ⟨_, _, exec_tmarkTimeout, by decide, fun c => c.sourceTimeout_moves 2⟩
  next => exact ⟨_, _, exec_holdLimit, by decide, Chip.holdLimit_moves⟩
  next r v => exact ⟨_, _, fun s => exec_loopEnable s r v, by decide, fun c => c.guarded_moves r (by decide) (c.writeClkCtrl_moves v)⟩
  next r n v =>
    refine ⟨_, _, fun s => exec_tpApplyRequest s r n v, ?_, fun c => c.guarded_moves r ?_ (c.writeTpCtrl_moves n v)⟩ <;> cases n <;> decide
  next n => exact ⟨_, _, fun s => exec_tpConfigApply s n, by cases n <;> decide, fun c => c.tpApply_moves n⟩
  next n => exact ⟨_, _, fun s => exec_timePulseStart s n, by decide, fun c => c.tpStart_moves n⟩
  next n => exact ⟨_, _, fun s => exec_timePulseEnd s n, by decide, fun c => c.tpEnd_moves n⟩
  next b => exact ⟨_, _, fun s => exec_tmarkEdge s b, by decide, fun c => c.tmarkEdge_moves b⟩
  next r => exact ⟨_, _, fun s => exec_stcSnapshot s r, by decide, fun c => c.readTo_moves r (by decide) (c.readStcLo_moves r)⟩
  next r => exact ⟨_, _, fun s => exec_tmarkCapRead s r, by decide, fun c => c.readTo_moves r (by decide) c.readCapLo_moves⟩
  next => cases h

/-- Settles O44: a row of the clocks moves clock fields and what counts with time, and the end of the command the registers of
routing and of the PA's hold. -/
theorem clockRowsFrame : Obligations.ClockRowsFrame := by
  intro i s t hrow _ hnext
  obtain ⟨f, l, hexec, hl, hmoves⟩ := clockRow_moves hrow
  rw [hexec] at hnext
  cases hnext
  have h := hmoves s.chip
  have hgn := (congrArg Chip.gn h.rest :)
  refine ⟨rfl, sameStores_settle h.sameStores, (Chip.settle_pas _).trans (congrArg Chip.pas h.rest :),
    (Chip.settle_lnk _).trans (congrArg Chip.lnk h.rest :), ?_, ?_, (Chip.settle_posted _).trans (congrArg (fun d => d.rf.posted) h.rest :),
    fun a ha hevt htmr hair htx hwake hstat => ?_⟩
  · rw [Chip.settle_gn]
    exact (congrArg GnSt.ch hgn :)
  · rw [Chip.settle_gn]
    exact (congrArg GnSt.acq hgn :)
  · have hhold : holdReg a = false := by simp [holdReg, hair, htx, hwake, hstat]
    exact ((f s.chip).settle_rd (flushReg_of_outside hevt) hhold).trans (h.rd_outside hl ha htmr)

end Sys2Proof
end

section
/-! PROOFS. Time that passes, the idle step, the steering step and the apply of a time pulse's configuration. -/

namespace Sys2Proof.Machine

variable (c : Chip)

/-! ## Instants -/

theorem Chip.frameTicks_pos : 0 < c.frameTicks := by
  unfold Chip.frameTicks frameTicks?
  dsimp only
  split <;> decide

/-- The next boundary lies ahead. -/
theorem Chip.now_lt_boundaryRoot : c.now < c.boundaryRoot := by
  have hstc : c.time.stc < c.nextBoundary := by
    simpa [Chip.nextBoundary] using Nat.lt_mul_of_div_lt (Nat.lt_succ_self _) c.frameTicks_pos
  have hfrac := c.time.frac.isLt
  simp only [Chip.now, Chip.boundaryRoot, rootPerTick]
  omega

theorem Chip.setNow_stc (n : Nat) : (c.setNow n).time.stc = n / rootPerTick % 2 ^ 64 := rfl
theorem Chip.setNow_frac (n : Nat) : (c.setNow n).time.frac.val = n % rootPerTick := rfl

/-- An instant whose count fits the counter is now. -/
theorem Chip.setNow_now {n : Nat} (h : n < 2 ^ 64 * rootPerTick) : (c.setNow n).now = n := by
  simp only [Chip.now, Chip.setNow_stc, Chip.setNow_frac, rootPerTick] at *
  omega

theorem Chip.advance_time (d : Nat) : (c.advance d).time = (c.setNow (c.now + d)).time := rfl

theorem Chip.advance_now {d : Nat} (h : c.now + d < 2 ^ 64 * rootPerTick) : (c.advance d).now = c.now + d := by
  rw [← c.setNow_now h]
  rfl

/-! ## The idle step -/

/-- Root cycles that may pass in an idle step: short of the next boundary and of the alarm. -/
def Chip.idleRoom : Nat :=
  let room := if c.framesRun then c.boundaryRoot - c.now else 0
  match c.alarmIn with
  | some k => min room (rootPer32k * k - c.pwr.frac32)
  | none => room

/-- CLK32K cycles that pass in an idle step with the root off. -/
def Chip.idleSleep : Nat :=
  match c.alarmIn with
  | some k => if k = 0 then 0 else c.draw.1 % k
  | none => c.draw.1

/-- The sleep timer counts with the root off. -/
def Chip.idleCount : Chip := c.draw.2.wr R.PWR_TMR (c.draw.2.rd R.PWR_TMR + BitVec.ofNat 32 c.idleSleep)

theorem Chip.idle_eq : c.idle =
    if c.time.rootOn then (if c.idleRoom = 0 then c.draw.2 else c.draw.2.advance (c.draw.1 % c.idleRoom))
    else if !c.pwr.supply then c.draw.2
    else if c.get F.PWR_STAT_state = 3 ∨ c.get F.PWR_STAT_state = 4 then
      c.idleCount.setPwr fun p => { p with slept := p.slept + c.idleSleep }
    else c.idleCount := rfl

theorem Chip.idleRoom_le : c.idleRoom ≤ c.boundaryRoot - c.now := by
  have hroom : (if c.framesRun then c.boundaryRoot - c.now else 0) ≤ c.boundaryRoot - c.now := by
    split
    · exact le_rfl
    · exact Nat.zero_le _
  unfold Chip.idleRoom
  dsimp only
  split
  · exact (Nat.min_le_left _ _).trans hroom
  · exact hroom

/-- With no command waiting time passes short of the next boundary; with the root off only CLK32K counts; or nothing passes. -/
theorem Chip.idle_cases :
    (∃ d, c.idle = c.draw.2.advance d ∧ d < c.boundaryRoot - c.now) ∨ c.idle = c.draw.2 ∨
      c.time.rootOn = false ∧ ∃ w p, c.idle = { c.draw.2.wr R.PWR_TMR w with pwr := p } := by
  rw [c.idle_eq]
  split_ifs with hroot hroom hsupply hsleep
  · exact .inr (.inl rfl)
  · exact .inl ⟨_, rfl, (Nat.mod_lt _ (Nat.pos_of_ne_zero hroom)).trans_le c.idleRoom_le⟩
  · exact .inr (.inl rfl)
  · exact .inr (.inr ⟨by simpa using hroot, _, _, rfl⟩)
  · exact .inr (.inr ⟨by simpa using hroot, _, c.pwr, rfl⟩)

/-- An idle step counts in PWR_TMR alone. -/
theorem Chip.idle_moves : ClockMoves [Fld.whole R.PWR_TMR] c c.idle := by
  obtain ⟨d, h, -⟩ | h | ⟨-, w, p, h⟩ := c.idle_cases <;> rw [h]
  · exact c.draw_moves.append (Chip.advance_moves _ d)
  · exact c.draw_moves.mono (by simp)
  · have hp : ClockMoves [] (c.draw.2.wr R.PWR_TMR w) { c.draw.2.wr R.PWR_TMR w with pwr := p } := .of_regs rfl rfl
    exact (c.draw_moves.append (Chip.wr_moves _ _ w)).append hp

theorem Chip.idle_evt : c.idle.evt = c.evt := by
  obtain ⟨d, h, -⟩ | h | ⟨-, w, p, h⟩ := c.idle_cases <;> rw [h] <;> rfl

theorem Chip.idle_gn : c.idle.gn = c.gn := by
  obtain ⟨d, h, -⟩ | h | ⟨-, w, p, h⟩ := c.idle_cases <;> rw [h] <;> rfl

theorem Chip.idle_rf : c.idle.rf = c.rf := (congrArg Chip.rf c.idle_moves.rest :)

/-- While frames run an idle step ends before the next boundary, and not before it began. -/
theorem Chip.idle_now (hf : c.framesRun = true) (hb : c.nextBoundary < 2 ^ 64) :
    c.now ≤ c.idle.now ∧ c.idle.now < c.boundaryRoot := by
  have hlt := c.now_lt_boundaryRoot
  have hroot : c.time.rootOn = true := by
    simp only [Chip.framesRun, Bool.and_eq_true] at hf
    exact hf.1
  obtain ⟨d, h, hd⟩ | h | ⟨hoff, -⟩ := c.idle_cases
  · have hfit : c.draw.2.now + d < 2 ^ 64 * rootPerTick := by
      have hmax : c.boundaryRoot < 2 ^ 64 * rootPerTick := Nat.mul_lt_mul_of_pos_right hb (by decide)
      have hnow : c.draw.2.now = c.now := rfl
      omega
    rw [h, Chip.advance_now _ hfit]
    have hnow : c.draw.2.now = c.now := rfl
    omega
  · rw [h]
    exact ⟨le_rfl, hlt⟩
  · rw [hroot] at hoff
    cases hoff

/-! ## The end of a command that raised nothing and leaves the PA as it may be -/

theorem Chip.countAir_rd {a : Nat} (h : a ≠ R.GUARD_AIR_CNT) : c.countAir.rd a = c.rd a := by
  unfold Chip.countAir
  split
  · dsimp only
    split
    · exact Chip.rd_put_ne _ h _
    · rfl
  · rfl

theorem Chip.countAir_rf : c.countAir.rf = { c.rf with counted := c.countAir.rf.counted } := by
  unfold Chip.countAir
  split
  · dsimp only
    split <;> rfl
  · rfl

theorem paSafe_congr {c d : Chip} (hr : ∀ a ∈ permitRegs, d.rd a = c.rd a) (hk : d.rf.keyed = c.rf.keyed) (hc : d.rf.cal = c.rf.cal) :
    Sys2Proof.paSafe d = Sys2Proof.paSafe c := by
  have hbit : ∀ f : Fld, f.addr ∈ permitRegs → d.bit f = c.bit f := fun f hf => by
    have hg : d.get f = c.get f := by simp only [Chip.get, hr _ hf]
    simp only [Chip.bit, hg]
  simp only [Sys2Proof.paSafe, Chip.paAllowed, hk, hc, hbit F.GUARD_GATE_tx (by decide), hbit F.SYS_FEAT2_radio_fused (by decide),
    hbit F.CLK_STAT_locked (by decide), hbit F.RF_STAT_synth_lock (by decide), hbit F.RF_CTRL_tx_en (by decide)]

theorem Chip.countAir_paSafe : Sys2Proof.paSafe c.countAir = Sys2Proof.paSafe c :=
  paSafe_congr (fun a ha => c.countAir_rd (by rintro rfl; revert ha; decide)) (congrArg RfSt.keyed c.countAir_rf :)
    (congrArg RfSt.cal c.countAir_rf :)

/-- Where nothing waits to be routed and the PA may stay as it is, the end of a command counts keyed units and judges pulses. -/
theorem Chip.paHeld_quiet (hb : c.evt.batch = []) (hp : Sys2Proof.paSafe c = true) : c.paHeld = c.countAir := by
  rw [Chip.paHeld, c.flush_nil hb, Chip.holdPa_id _ (by rw [c.countAir_paSafe, hp])]

theorem Chip.settle_quiet_rd (hb : c.evt.batch = []) (hp : Sys2Proof.paSafe c = true) {a : Nat} (h : a ≠ R.GUARD_AIR_CNT) :
    c.settle.rd a = c.rd a := by
  rw [c.settle_eq, c.paHeld_quiet hb hp, Chip.rd_congr ((Chip.endHeldPulse_regs _ _).trans (Chip.endHeldPulse_regs _ _)),
    c.countAir_rd h]

theorem Chip.settle_quiet_rf (hb : c.evt.batch = []) (hp : Sys2Proof.paSafe c = true) :
    c.settle.rf = { c.rf with counted := c.settle.rf.counted } := by
  rw [c.settle_eq, c.paHeld_quiet hb hp]
  simp only [Chip.endHeldPulse_rf]
  exact c.countAir_rf

/-- What a safe device shows, one by one. -/
theorem safe_parts {s : State} (h : Sys2Proof.safe s = true) : Sys2Proof.paSafe s.chip = true ∧ Sys2Proof.airSafe s.chip = true ∧
    (∀ n, Sys2Proof.tpSafe s.chip n = true) ∧ s.chip.evt.batch = [] := by
  simp only [Sys2Proof.safe, Bool.and_eq_true, Sys2Proof.evtSettled, List.isEmpty_iff] at h
  obtain ⟨⟨⟨⟨hp, ha⟩, h0⟩, h1⟩, he⟩ := h
  exact ⟨hp, ha, fun n => by cases n <;> assumption, he⟩

end Sys2Proof.Machine

namespace Sys2Proof

open Sys2Proof.Machine

/-- Settles O51: an idle step moves time and PWR_TMR (`idle_moves`, `idle_now`), and its end counts keyed units and judges pulses. -/
theorem idleStepOnlyPassesTime : Obligations.IdleStepOnlyPassesTime := by
  intro s hs hq
  obtain ⟨hp, -, -, hb⟩ := safe_parts hs
  have h := s.chip.idle_moves
  have hrf := s.chip.idle_rf
  have htmr : ∀ a, a ≠ R.PWR_TMR → s.chip.idle.rd a = s.chip.rd a := fun a ha =>
    h.rd (Fld.whole_freeOf fun f hf => by simp at hf; rwa [hf])
  have hb' : s.chip.idle.evt.batch = [] := by rw [s.chip.idle_evt, hb]
  have hp' : paSafe s.chip.idle = true := by
    rw [paSafe_congr (fun a ha => htmr a (by rintro rfl; revert ha; decide)) (congrArg RfSt.keyed hrf) (congrArg RfSt.cal hrf), hp]
  refine ⟨⟨s.pending, s.chip.idle.settle⟩, by simp [step, hq, State.act], hq, sameStores_settle h.sameStores,
    (Chip.settle_pas _).trans (congrArg Chip.pas h.rest :), ?_, (Chip.settle_gn _).trans s.chip.idle_gn,
    (Chip.settle_lnk _).trans (congrArg Chip.lnk h.rest :), ?_, ?_⟩
  · exact (s.chip.idle.settle_quiet_rf hb' hp').trans (by rw [hrf])
  · exact fun a ha hair => (s.chip.idle.settle_quiet_rd hb' hp' hair).trans (htmr a ha)
  · rw [Chip.settle_now]
    exact s.chip.idle_now

end Sys2Proof
end

section
/-! PROOFS. The steering step, and the apply of a time pulse's configuration. -/

namespace Sys2Proof.Machine

variable (c : Chip)

/-! ## The steering step (R29, R30) -/

/-- A word shows every number of its range. -/
theorem Word.toInt_ofInt {x : Int} (h : -2147483648 ≤ x) (k : x < 2147483648) : (BitVec.ofInt 32 x).toInt = x :=
  BitVec.toInt_ofInt_eq_self (by decide) h k

theorem Word.toInt_range (w : Word) : -2147483648 ≤ w.toInt ∧ w.toInt < 2147483648 := by
  have hl := BitVec.le_toInt w
  have hu := BitVec.toInt_lt (x := w)
  norm_num at hl hu
  exact ⟨hl, hu⟩

theorem satInt_mem {x lo hi : Int} (h : lo ≤ hi) : lo ≤ satInt x lo hi ∧ satInt x lo hi ≤ hi := by
  unfold satInt
  split_ifs <;> omega

/-- The target is set clamped. -/
theorem Chip.setTarget_target (t : Int) : ((c.setTarget t).rd R.CLK_TARGET).toInt = satInt t (-steerLim) steerLim := by
  have hlim := satInt_mem (x := t) (show -steerLim ≤ steerLim by decide)
  rw [(c.setTarget_shows t).rd (by decide), Chip.rd_wr_self]
  simp only [steerLim] at hlim ⊢
  exact Word.toInt_ofInt (by omega) (by omega)

/-- The number that the applied word moves towards (R30, R35). -/
def Chip.aim : Int :=
  if c.get F.CLK_STAT_state = stManual then satInt (c.rd R.CLK_MANUAL).toInt (-steerLim) steerLim else (c.rd R.CLK_TARGET).toInt

/-- In MANUAL the target follows CLK_MANUAL (R35). -/
def Chip.aimed : Chip := if c.get F.CLK_STAT_state = stManual then c.setTarget (c.rd R.CLK_MANUAL).toInt else c

/-- The applied word after a step from `steer` towards `target`. -/
def steered (steer target : Int) : Int := steer + satInt (target - steer) (-109) 109

/-- The step itself, where one is due. -/
def Chip.steerOnce : Chip :=
  let s := steered (c.aimed.rd R.CLK_STEER).toInt (c.aimed.rd R.CLK_TARGET).toInt
  let c2 := (c.aimed.wr R.CLK_STEER (BitVec.ofInt 32 s)).putB F.CLK_STAT_slewing (decide (s ≠ (c.aimed.rd R.CLK_TARGET).toInt))
  { c2 with time := { c2.time with steerAt := some c2.time.stc } }

/-- Is a steering step due (R27, R30)? -/
def Chip.steerDue : Bool := c.bit F.CLK_STAT_locked && c.atBoundary 192 && decide (c.time.steerAt ≠ some c.time.stc)

theorem Chip.steerStep_eq : c.steerStep = if c.steerDue then c.steerOnce else c := by
  have hcond : (!c.bit F.CLK_STAT_locked || !c.atBoundary 192 || decide (c.time.steerAt = some c.time.stc)) = !c.steerDue := by
    simp [Chip.steerDue]
  have hstep : c.steerStep =
      if !c.bit F.CLK_STAT_locked || !c.atBoundary 192 || decide (c.time.steerAt = some c.time.stc) then c else c.steerOnce := rfl
  rw [hstep, hcond]
  cases c.steerDue <;> rfl

theorem Chip.aimed_target : (c.aimed.rd R.CLK_TARGET).toInt = c.aim := by
  unfold Chip.aimed Chip.aim
  split
  · exact c.setTarget_target _
  · rfl

theorem Chip.aimed_steer : c.aimed.rd R.CLK_STEER = c.rd R.CLK_STEER := by
  unfold Chip.aimed
  split
  · exact (c.setTarget_moves _).rd (by decide)
  · rfl

theorem Chip.aim_range : -2147483648 ≤ c.aim ∧ c.aim < 2147483648 := by
  unfold Chip.aim
  split
  · have h := satInt_mem (x := (c.rd R.CLK_MANUAL).toInt) (show -steerLim ≤ steerLim by decide)
    simp only [steerLim] at h ⊢
    omega
  · exact Word.toInt_range _

theorem Chip.steerOnce_steer : (c.steerOnce.rd R.CLK_STEER).toInt = steered (c.rd R.CLK_STEER).toInt c.aim := by
  have hrd : c.steerOnce.rd R.CLK_STEER = BitVec.ofInt 32 (steered (c.aimed.rd R.CLK_STEER).toInt (c.aimed.rd R.CLK_TARGET).toInt) :=
    (((Chip.putB_moves _ F.CLK_STAT_slewing _).append (Chip.setTime_moves _ _)).rd (by decide)).trans (Chip.rd_wr_self _ _ _)
  have hs := Word.toInt_range (c.rd R.CLK_STEER)
  have ha := c.aim_range
  rw [hrd, c.aimed_steer, c.aimed_target]
  have hr : -2147483648 ≤ steered (c.rd R.CLK_STEER).toInt c.aim ∧ steered (c.rd R.CLK_STEER).toInt c.aim < 2147483648 := by
    unfold steered satInt
    split_ifs <;> omega
  exact Word.toInt_ofInt hr.1 hr.2

theorem Chip.steerOnce_target : (c.steerOnce.rd R.CLK_TARGET).toInt = c.aim := by
  have hrd : c.steerOnce.rd R.CLK_TARGET = c.aimed.rd R.CLK_TARGET :=
    (((Chip.wr_moves _ R.CLK_STEER _).append (Chip.putB_moves _ F.CLK_STAT_slewing _)).append (Chip.setTime_moves _ _)).rd (by decide)
  rw [hrd, c.aimed_target]

theorem Chip.steerOnce_steerAt : c.steerOnce.time.steerAt = some c.steerOnce.time.stc := rfl

/-! ## The apply of a pulse's configuration (R45, R46) -/

theorem TpCfg.valid_iff (t : TpCfg) : t.valid = true ↔
    1000 ≤ t.period ∧ t.period ≤ 60000000000 ∧ t.ofs < t.period ∧ t.dly < t.period ∧ 20 ≤ t.width ∧ t.width + 20 ≤ t.period :=
  decide_eq_true_iff

/-- The shadow of TPn in use (R46). -/
def Chip.tpApplied (n : Bool) : Chip :=
  ((c.setTp n { c.tp n with cfg := c.tpShadow n }).put (F.TIME_TP_CTRL_apply (b2n n)) 0).putB (F.TIME_TP_CTRL_cfg_err (b2n n))
    (!(c.tpShadow n).valid)

theorem Chip.tpApply_due {n : Bool} (h : c.bit (F.TIME_TP_CTRL_apply (b2n n)) = true) (hb : c.atBoundary 192000 = true)
    (ht : (c.tp n).reqAt < c.now) : c.tpApply n = c.tpApplied n := by
  have hle : ¬ c.now ≤ (c.tp n).reqAt := Nat.not_le.mpr ht
  simp [Chip.tpApply, h, hb, hle, Chip.tpApplied]

@[simp] theorem Chip.setTp_tp (n : Bool) (t : TpSt) : (c.setTp n t).tp n = t := by cases n <;> rfl

@[simp] theorem Chip.tpApplied_cfg (n : Bool) : ((c.tpApplied n).tp n).cfg = c.tpShadow n :=
  congrArg TpSt.cfg (c.setTp_tp n _)

theorem Chip.tpApplied_apply (n : Bool) : (c.tpApplied n).bit (F.TIME_TP_CTRL_apply (b2n n)) = false := by
  have h := (Chip.putB_moves ((c.setTp n { c.tp n with cfg := c.tpShadow n }).put (F.TIME_TP_CTRL_apply (b2n n)) 0)
    (F.TIME_TP_CTRL_cfg_err (b2n n)) (!(c.tpShadow n).valid)).bit (g := F.TIME_TP_CTRL_apply (b2n n)) (by cases n <;> decide)
  exact h.trans (Chip.bit_put_self _ _ (by cases n <;> decide) 0)

/-- A one-bit field holds the truth value that it was set to. -/
theorem Chip.bit_putB_self {f : Fld} (h : f.fits = true) (hw : f.width = 1) (b : Bool) : (c.putB f b).bit f = b := by
  rw [Chip.putB, c.bit_put_self f (by simpa [Fld.fits] using h), hw]
  cases b <;> rfl

theorem Chip.tpApplied_cfgErr (n : Bool) :
    (c.tpApplied n).bit (F.TIME_TP_CTRL_cfg_err (b2n n)) = !(c.tpShadow n).valid :=
  Chip.bit_putB_self _ (by cases n <;> decide) rfl _

/-- The registers of the pulses are none that the end of a command changes. -/
theorem tpCtrl_kept (n : Bool) : flushReg (R.TIME_TP_CTRL (b2n n)) = false ∧ holdReg (R.TIME_TP_CTRL (b2n n)) = false := by
  cases n <;> decide

/-- A pulse whose configuration is not valid is held. -/
theorem Chip.tpHeld_of_invalid {n : Bool} (h : (c.tp n).cfg.valid = false) : c.tpHeld n = true := by
  simp [Chip.tpHeld, h]

end Sys2Proof.Machine

namespace Sys2Proof

open Sys2Proof.Machine

/-- A command completes with what its action and the end of the command give. -/
theorem completes_act {i : Instr} {s : State} {f : Chip → Chip} {P : Chip → Prop} (he : exec i s = s.act f)
    (hP : P (f s.chip).settle) : Completes i s P :=
  ⟨⟨s.pending, (f s.chip).settle⟩, he, rfl, hP⟩

/-- Settles O55: a step that is due moves the word by `steered`, one that is not changes nothing, and the end of the command leaves
steering alone. -/
theorem steeringMovesAtMost109PerMillisecond : Obligations.SteeringMovesAtMost109PerMillisecond := by
  refine ⟨fun s hl hb ha => completes_act (exec_steeringStep s) ?_, fun s h => completes_act (exec_steeringStep s) ?_⟩
  · have hdue : s.chip.steerDue = true := by simp [Chip.steerDue, hl, hb, ha]
    have hsteer := s.chip.steerOnce_steer
    have htarget := s.chip.steerOnce_target
    simp only [s.chip.steerStep_eq, hdue, if_true]
    rw [Chip.settle_rd (a := R.CLK_STEER) _ (by decide) (by decide), Chip.settle_rd (a := R.CLK_TARGET) _ (by decide) (by decide),
      hsteer, htarget, Chip.settle_steerAt, Chip.settle_stc]
    refine ⟨fun hm => ?_, fun hm => ?_, ?_, ?_, ?_, ?_, s.chip.steerOnce_steerAt⟩
    · simp [Chip.aim, hm, steerLim]
    · simp [Chip.aim, hm]
    all_goals
      unfold steered satInt
      split_ifs <;> omega
  · have hdue : s.chip.steerDue = false := by
      rcases h with h | h <;> simp [Chip.steerDue, h]
    simp only [s.chip.steerStep_eq, hdue]
    exact Chip.settle_rd _ (by decide) (by decide)

theorem Completes.imp {i : Instr} {s : State} {P Q : Chip → Prop} (h : Completes i s P) (hpq : ∀ d, P d → Q d) : Completes i s Q := by
  obtain ⟨t, hnext, hpending, hP⟩ := h
  exact ⟨t, hnext, hpending, hpq _ hP⟩

/-- The apply of a pulse's shadow at its whole second (R45, R46). -/
theorem tpConfigApply_completes {n : Bool} {s : State} (h : s.chip.bit (F.TIME_TP_CTRL_apply (b2n n)) = true)
    (hb : s.chip.atBoundary 192000 = true) (ht : (s.chip.tp n).reqAt < s.chip.now) :
    Completes (.tpConfigApply n) s fun d => (d.tp n).cfg = s.chip.tpShadow n ∧ d.bit (F.TIME_TP_CTRL_apply (b2n n)) = false ∧
      d.bit (F.TIME_TP_CTRL_cfg_err (b2n n)) = (!(s.chip.tpShadow n).valid) ∧
      ((s.chip.tpShadow n).valid = false → (d.tp n).active = false) := by
  refine completes_act (exec_tpConfigApply s n) ?_
  obtain ⟨hflush, hhold⟩ := tpCtrl_kept n
  have happly := Chip.settle_bit (s.chip.tpApplied n) (f := F.TIME_TP_CTRL_apply (b2n n)) hflush hhold
  have herr := Chip.settle_bit (s.chip.tpApplied n) (f := F.TIME_TP_CTRL_cfg_err (b2n n)) hflush hhold
  rw [s.chip.tpApply_due h hb ht, Chip.settle_tp, happly, herr]
  refine ⟨s.chip.tpApplied_cfg n, s.chip.tpApplied_apply n, s.chip.tpApplied_cfgErr n, fun hinv => ?_⟩
  have hheld : (s.chip.tpApplied n).tpHeld n = true := Chip.tpHeld_of_invalid _ (by rw [Chip.tpApplied_cfg, hinv])
  simp [TpSt.judged, hheld]

/-- Settles O56: the apply puts the shadow in use and flags it where it is not valid, and after every step the device is safe, so that
a pulse without a valid configuration, which is held, is not active. -/
theorem invalidTimePulseIsHeldAndFlagged : Obligations.InvalidTimePulseIsHeldAndFlagged := by
  have hvalid : ∀ t : TpCfg, (let p := t.perS * 1000000000 + t.perNs
      1000 ≤ p ∧ p ≤ 60000000000 ∧ t.ofs < p ∧ t.dly < p ∧ 20 ≤ t.width ∧ t.width + 20 ≤ p) ↔ t.valid = true :=
    fun t => t.valid_iff.symm
  simp only [Obligations.InvalidTimePulseIsHeldAndFlagged, hvalid, Bool.not_eq_true]
  refine ⟨fun n s _ h hb ht => (tpConfigApply_completes h hb ht).imp fun d hd => ?_, fun n s t hstep hinv => ?_⟩
  · obtain ⟨hcfg, -, herr, hinactive⟩ := hd
    exact ⟨hcfg, fun hv => by rw [herr, hv]; rfl, fun hv => ⟨by rw [herr, hv]; rfl, hinactive hv⟩⟩
  · obtain ⟨-, -, htp, -⟩ := safe_parts (everyStepLeavesTheDeviceSafe s t hstep)
    have hsafe := htp n
    simpa [tpSafe, t.chip.tpHeld_of_invalid hinv] using hsafe

end Sys2Proof
end

section
/-! PROOFS. The instant of a frame boundary: the frame that ends moves time no further than its end, and what happens at the boundary
moves no time. -/

namespace Sys2Proof.Machine

variable (c : Chip)

/-! ## The frame that ends -/

/-- `d` has the time, the fold and the registers from which `c` takes its frames. -/
structure SamePlan (c d : Chip) : Prop where
  time : d.time = c.time
  fold : d.fold = c.fold
  pwr : d.rd R.PWR_STAT = c.rd R.PWR_STAT
  stat : d.rd R.FOLD_STAT = c.rd R.FOLD_STAT

namespace SamePlan

variable {c}
variable {d e : Chip}

theorem trans (h : SamePlan c d) (k : SamePlan d e) : SamePlan c e :=
  ⟨k.time.trans h.time, k.fold.trans h.fold, k.pwr.trans h.pwr, k.stat.trans h.stat⟩

theorem frameTicks (h : SamePlan c d) : d.frameTicks = c.frameTicks := by
  simp only [Chip.frameTicks, Chip.get, show F.PWR_STAT_state.addr = R.PWR_STAT from rfl, show F.FOLD_STAT_rate.addr = R.FOLD_STAT from rfl,
    h.pwr, h.stat, h.fold]

end SamePlan

theorem SamePlan.of_regs {c d : Chip} (ht : d.time = c.time) (hf : d.fold = c.fold) (hr : d.regs = c.regs) : SamePlan c d :=
  ⟨ht, hf, Chip.rd_congr hr _, Chip.rd_congr hr _⟩

theorem SamePlan.setEngine (n : Nat) (e : Eng) : SamePlan c (c.setEngine n e) := .of_regs rfl rfl rfl

theorem SamePlan.put {f : Fld} (hp : R.PWR_STAT ≠ f.addr) (hf : R.FOLD_STAT ≠ f.addr) (v : Nat) : SamePlan c (c.put f v) :=
  ⟨rfl, rfl, c.rd_put_ne hp v, c.rd_put_ne hf v⟩

/-- An address in the engines' pages. -/
def inSe (a : Nat) : Prop := 0x40010000 ≤ a ∧ a ≤ 0x40020FFF

section

variable {n : Nat}

theorem inSe_ctrl (hn : n < 17) : inSe (R.SE_CTRL n) := by unfold inSe R.SE_CTRL; omega
theorem inSe_stat (hn : n < 17) : inSe (R.SE_STAT n) := by unfold inSe R.SE_STAT; omega
theorem inSe_cyc (hn : n < 17) : inSe (R.SE_CYC n) := by unfold inSe R.SE_CYC; omega
theorem inSe_ovrCnt (hn : n < 17) : inSe (R.SE_OVR_CNT n) := by unfold inSe R.SE_OVR_CNT; omega
theorem inSe_fault (hn : n < 17) : inSe (R.SE_FAULT n) := by unfold inSe R.SE_FAULT; omega

end

theorem SamePlan.putSe {f : Fld} (hf : inSe f.addr) (v : Nat) : SamePlan c (c.put f v) := by
  obtain ⟨hlo, hhi⟩ := hf
  exact .put c (by simp only [R.PWR_STAT]; omega) (by simp only [R.FOLD_STAT]; omega) v

theorem SamePlan.latchSe {f : Fld} (hf : inSe f.addr) : SamePlan c (c.latch f) := (SamePlan.putSe c hf 1).trans (.of_regs rfl rfl rfl)

theorem SamePlan.rcChangeSe {f : Fld} (hf : inSe f.addr) (g : Nat → Nat) : SamePlan c (c.rcChange f g) :=
  (SamePlan.putSe c hf _).trans (.of_regs rfl rfl rfl)

theorem SamePlan.bumpSe {f : Fld} (hf : inSe f.addr) : SamePlan c (c.bump f) := .rcChangeSe c hf f.up

theorem SamePlan.raise (id : Nat) (loc arg : Word) : SamePlan c (c.raise id loc arg) := .of_regs rfl rfl rfl

theorem SamePlan.cancelHandover (r : Nat) : SamePlan c (c.cancelHandover r) := by
  unfold Chip.cancelHandover
  split
  · split <;> exact .of_regs rfl rfl rfl
  · exact .of_regs rfl rfl rfl

theorem SamePlan.noteCycle {n : Nat} (hn : n < 17) (k : Nat) : SamePlan c (c.noteCycle n k) :=
  (SamePlan.putSe c (inSe_cyc hn) k).trans
    (.rcChangeSe _ (inSe_cyc hn) _)

theorem SamePlan.askRoleStop {n : Nat} (hn : n < 17) : SamePlan c (c.askRoleStop n) := by
  have hctrl : inSe (F.SE_CTRL_stop_req n).addr := inSe_ctrl hn
  unfold Chip.askRoleStop
  dsimp only
  split
  · exact .latchSe c (inSe_stat hn)
  · split
    · exact (SamePlan.setEngine c n _).trans (.putSe _ hctrl 1)
    · split
      · exact .of_regs rfl rfl rfl
      · refine SamePlan.trans ?_ ((SamePlan.putSe _ hctrl 1).trans (.cancelHandover _ _))
        split
        · exact .setEngine c n _
        · exact .of_regs rfl rfl rfl

/-- The frame of engine `n` is ended. -/
def Chip.endEngine (n : Nat) : Chip :=
  c.setEngine n { c.engine n with core := { (c.engine n).core with ended := true } }

/-- An engine's forced end (R77), time apart: cycle `k` is the first of the tail. -/
def Chip.overrun (n k : Nat) (loc : Word) : Chip :=
  ((((c.endEngine n).noteCycle n k).latch (F.SE_FAULT_ovr n)).bump (F.SE_OVR_CNT_count n)).raise Ev.SE_OVERRUN loc 0

theorem SamePlan.overrun {n : Nat} (hn : n < 17) (k : Nat) (loc : Word) : SamePlan c (c.overrun n k loc) := by
  have hfault : inSe (F.SE_FAULT_ovr n).addr := inSe_fault hn
  have hcount : inSe (F.SE_OVR_CNT_count n).addr := inSe_ovrCnt hn
  have hended : SamePlan c (c.endEngine n) := .setEngine c n _
  exact (((hended.trans (.noteCycle _ hn k)).trans (.latchSe _ hfault)).trans (.bumpSe _ hcount)).trans (.raise _ _ _ _)

theorem Chip.forceEnd_eq (n : Nat) : c.forceEnd n =
    if !c.runs n || (c.engine n).core.ended then c
    else
      let d := (c.advanceTo (c.cycleRoot c.tailCycle)).overrun n c.tailCycle (c.locEng n)
      if d.bit (F.SE_CTRL_ovr_stop n) then d.askRoleStop n else d := rfl

theorem SamePlan.forceEnd {n : Nat} (hn : n < 17) :
    c.forceEnd n = c ∨ SamePlan (c.advanceTo (c.cycleRoot c.tailCycle)) (c.forceEnd n) := by
  rw [c.forceEnd_eq]
  split
  · exact .inl rfl
  · right
    extract_lets d
    have hd : SamePlan (c.advanceTo (c.cycleRoot c.tailCycle)) d := SamePlan.overrun _ hn _ _
    split
    · exact hd.trans (.askRoleStop d hn)
    · exact hd

/-! ## Instants of one frame -/

/-- `d` lies in the frame of `c`. -/
structure SameFrame (c d : Chip) : Prop where
  ticks : d.frameTicks = c.frameTicks
  ends : d.boundaryRoot = c.boundaryRoot

/-- The frame in progress ends one frame period after it began. -/
theorem Chip.boundaryRoot_eq : c.boundaryRoot = (c.now / c.framePeriod + 1) * c.framePeriod := by
  have hfrac := c.time.frac.isLt
  have hstc : c.now / rootPerTick = c.time.stc := by
    simp only [Chip.now, rootPerTick]
    omega
  have hframe : c.now / c.framePeriod = c.time.stc / c.frameTicks := by
    rw [Chip.framePeriod, Nat.mul_comm, ← Nat.div_div_eq_div_mul, hstc]
  rw [hframe, Chip.boundaryRoot, Chip.nextBoundary, Chip.framePeriod, Nat.mul_assoc]

theorem Chip.boundaryRoot_congr {c d : Chip} (hs : d.time.stc = c.time.stc) (ht : d.frameTicks = c.frameTicks) :
    d.boundaryRoot = c.boundaryRoot := by
  simp only [Chip.boundaryRoot, Chip.nextBoundary, hs, ht]

theorem SamePlan.sameFrame {c d : Chip} (h : SamePlan c d) : SameFrame c d :=
  ⟨h.frameTicks, Chip.boundaryRoot_congr (by rw [h.time]) h.frameTicks⟩

theorem SameFrame.refl (c : Chip) : SameFrame c c := ⟨rfl, rfl⟩

theorem SameFrame.trans {c d e : Chip} (h : SameFrame c d) (k : SameFrame d e) : SameFrame c e :=
  ⟨k.ticks.trans h.ticks, k.ends.trans h.ends⟩

theorem Chip.advanceTo_ticks (n : Nat) : (c.advanceTo n).frameTicks = c.frameTicks := by
  have h := c.advanceTo_moves n
  simp only [Chip.frameTicks, h.get F.PWR_STAT_state (by decide), h.get F.FOLD_STAT_rate (by decide), Chip.advanceTo_fold]

/-- Time that moves on to an instant of the frame, which ends before the counter wraps, stays in the frame. -/
theorem SameFrame.advanceTo {n : Nat} (hn : n / c.framePeriod = c.now / c.framePeriod) (hb : c.boundaryRoot ≤ 2 ^ 64 * rootPerTick) :
    SameFrame c (c.advanceTo n) := by
  have hticks := c.advanceTo_ticks n
  have hperiod : (c.advanceTo n).framePeriod = c.framePeriod := by rw [Chip.framePeriod, hticks, Chip.framePeriod]
  refine ⟨hticks, ?_⟩
  rw [Chip.boundaryRoot_eq, hperiod, c.boundaryRoot_eq]
  have hpos : 0 < c.framePeriod := Nat.mul_pos c.frameTicks_pos (by decide)
  have hlt : n < c.boundaryRoot := by
    rw [c.boundaryRoot_eq, ← hn]
    exact Nat.lt_mul_of_div_lt (Nat.lt_succ_self _) hpos
  unfold Chip.advanceTo
  split
  next h => rw [Chip.advance_now _ (by omega), Nat.add_sub_cancel' h.le, hn]
  next => rfl

/-- A cycle of the frame lies in the frame. -/
theorem Chip.cycleRoot_div {k : Nat} (hk : k < c.frameCycles) : c.cycleRoot k / c.framePeriod = c.now / c.framePeriod := by
  have hpos : 0 < c.framePeriod := Nat.mul_pos c.frameTicks_pos (by decide)
  have hlt : 4 * k < c.framePeriod := by
    simp only [Chip.frameCycles, Chip.framePeriod, rootPerTick] at *
    omega
  rw [Chip.cycleRoot, Nat.mul_comm, Nat.mul_add_div hpos, Nat.div_eq_of_lt hlt, Nat.add_zero]

theorem Chip.tailCycle_lt : c.tailCycle < c.frameCycles := by
  have hpos := c.frameTicks_pos
  have hcycles : c.frameCycles = c.frameTicks * 3840 := rfl
  have htail : c.tailCycle = c.frameCycles - 320 := rfl
  omega

theorem SameFrame.forceEnd {n : Nat} (hn : n < 17) (hb : c.boundaryRoot ≤ 2 ^ 64 * rootPerTick) : SameFrame c (c.forceEnd n) := by
  rcases SamePlan.forceEnd c hn with h | h
  · rw [h]
    exact .refl c
  · exact (SameFrame.advanceTo c (c.cycleRoot_div c.tailCycle_lt) hb).trans h.sameFrame

/-- What the frame that ends does, its end apart, lies in the frame. -/
theorem SameFrame.endFrames (hb : c.boundaryRoot ≤ 2 ^ 64 * rootPerTick) : SameFrame c c.endFrames := by
  have hforce : SameFrame c ((List.range 17).foldl Chip.forceEnd c) :=
    List.foldlRecOn (motive := SameFrame c) _ _ (.refl c) fun d hd n hn =>
      hd.trans (.forceEnd d (List.mem_range.mp hn) (by rw [hd.ends]; exact hb))
  refine List.foldlRecOn (motive := SameFrame c) _ _ hforce fun d hd n _ => hd.trans ?_
  dsimp only
  split
  · exact (SamePlan.setEngine d n _).sameFrame
  · exact .refl d

/-- After the frame in progress time stands at the next boundary (R38). -/
theorem Chip.endFrames_boundary (h : c.nextBoundary < 2 ^ 64) :
    (c.endFrames.advanceTo c.boundaryRoot).time.stc = c.nextBoundary ∧ (c.endFrames.advanceTo c.boundaryRoot).time.frac.val = 0 := by
  have hb : c.boundaryRoot ≤ 2 ^ 64 * rootPerTick := (Nat.mul_lt_mul_of_pos_right h (by decide)).le
  have hlt := c.endFrames.now_lt_boundaryRoot
  rw [(SameFrame.endFrames c hb).ends] at hlt
  rw [Chip.advanceTo, if_pos hlt, Chip.advance_time, Nat.add_sub_cancel' hlt.le, Chip.setNow_stc, Chip.setNow_frac]
  simp only [Chip.boundaryRoot, rootPerTick]
  omega

end Sys2Proof.Machine
end

section
/-! PROOFS. What happens at a frame boundary and in a load of the counter moves no time. -/

namespace Sys2Proof.Machine

variable (c : Chip)

/-- A list of operations none of which moves time moves none. -/
theorem foldl_time {α : Type} {g : Chip → α → Chip} (hg : ∀ d x, (g d x).time = d.time) (l : List α) : (l.foldl g c).time = c.time :=
  List.foldlRecOn (motive := fun d => d.time = c.time) l g rfl fun d hd x _ => (hg d x).trans hd

/-! ## The baseband -/

theorem Chip.chanRun_time (strict : Bool) (n t : Nat) : ∀ (fuel : Nat) (c : Chip), (Chip.chanRun strict n t fuel c).time = c.time
  | 0, _ => rfl
  | fuel + 1, c => by
    rw [Chip.chanRun]
    split
    · rfl
    · split
      · exact Chip.chanRun_time strict n t fuel _
      · rfl

theorem Chip.acousticSample_time (n : Nat) : (c.acousticSample n).time = c.time := by
  unfold Chip.acousticSample Chip.chanMove
  dsimp only
  split
  · rfl
  · rw [Chip.chanRun_time]
    split <;> rfl

@[simp] theorem Chip.acousticFrame_time : c.acousticFrame.time = c.time := foldl_time c Chip.acousticSample_time _

theorem Chip.takeSample_time (x : Int × Int) : (c.takeSample x).time = c.time := by
  unfold Chip.takeSample
  dsimp only
  split
  · rfl
  · split <;> rfl

@[simp] theorem Chip.acqFrame_time : c.acqFrame.time = c.time := by
  unfold Chip.acqFrame
  dsimp only
  split
  · rfl
  · exact c.takeSample_time _

/-! ## The pasture and the coefficients -/

@[simp] theorem Chip.relayBoundary_time : c.relayBoundary.time = c.time := rfl
@[simp] theorem Chip.pasBoundary_time : c.pasBoundary.time = c.time := rfl
@[simp] theorem Chip.stepGlides_time : c.stepGlides.time = c.time := rfl

@[simp] theorem Chip.stepPointers_time : c.stepPointers.time = c.time := by
  unfold Chip.stepPointers
  dsimp only
  split
  · rfl
  · refine foldl_time c (fun d i => ?_) _
    split <;> rfl

/-! ## The guard -/

theorem Chip.dcLatch_time (ch : Nat) : (c.dcLatch ch).time = c.time := by
  unfold Chip.dcLatch
  split
  · exact (Chip.levelOn_time _ _ _ _)
  · rfl

theorem Chip.guardDc_time (ch : Nat) (x : Int) : (c.guardDc ch x).time = c.time := by
  unfold Chip.guardDc
  rw [Chip.dcLatch_time]
  rfl

theorem Chip.guardLimit_time (ch : Nat) (x : Int) : (c.guardLimit ch x).2.time = c.time := by
  unfold Chip.guardLimit
  split
  · rfl
  · dsimp only
    split <;> rfl

theorem Chip.levelIf_time (t : Bool) (id : Nat) (loc : Word) : (if t then c.levelOn id loc 0 else c.levelOff id loc).time = c.time := by
  split
  · exact c.levelOn_time id loc 0
  · exact c.levelOff_time id loc

theorem Chip.guardHeat_time (ch : Nat) (y : Int) : (c.guardHeat ch y).time = c.time :=
  (Chip.levelIf_time _ _ Ev.GUARD_THERMAL (c.locGuardCh ch)).trans rfl

theorem Chip.guardWord_time (ch : Nat) (o : Word) : (c.guardWord ch o).2.time = c.time := by
  unfold Chip.guardWord
  dsimp only
  rw [Chip.guardHeat_time, Chip.guardLimit_time, Chip.guardDc_time]

/-! ## The ports -/

theorem Chip.takeOutput_time (discard : Bool) (r : Route) : (Chip.takeOutput discard c r).time = c.time := by
  unfold Chip.takeOutput
  split
  · rfl
  · dsimp only
    split
    · exact c.guardWord_time _ _
    · rfl

@[simp] theorem Chip.takeOutputs_time : c.takeOutputs.time = c.time := by
  unfold Chip.takeOutputs
  dsimp only
  split
  · rfl
  · refine (foldl_time _ (Chip.takeOutput_time · _) _).trans (foldl_time c (fun d n => ?_) _)
    split <;> rfl

theorem Chip.setLost_time (a : Nat) : (c.setLost a).time = c.time := by
  unfold Chip.setLost
  split <;> rfl

theorem Chip.slip_time (n slot : Nat) (under : Bool) : (c.slip n slot under).time = c.time := by
  unfold Chip.slip
  dsimp only
  rw [Chip.setLost_time]
  split_ifs <;> rfl

theorem Chip.pushWord_time (n slot : Nat) (v : Word) : (c.pushWord n slot v).time = c.time := by
  unfold Chip.pushWord
  dsimp only
  split
  · rfl
  · split
    · rfl
    · exact c.slip_time n slot false

theorem Chip.popWord_time (n slot : Nat) : (c.popWord n slot).2.time = c.time := by
  unfold Chip.popWord
  dsimp only
  split
  · exact c.slip_time n slot true
  · rfl

theorem Chip.popSlots_time (n : Nat) : ∀ (l : List Nat) (c : Chip), (c.popSlots n l).2.time = c.time
  | [], _ => rfl
  | s :: r, c => (Chip.popSlots_time n r (c.popWord n s).2).trans (c.popWord_time n s)

theorem Chip.inputSide_time (n : Nat) : (c.inputSide n).time = c.time := by
  unfold Chip.inputSide
  dsimp only
  split_ifs
  · rfl
  · exact Chip.popSlots_time n _ c
  · rfl
  · rfl

theorem Chip.outputSide_time (n : Nat) : (c.outputSide n).time = c.time := by
  unfold Chip.outputSide
  dsimp only
  split_ifs
  · rfl
  · rfl
  · rfl
  · exact foldl_time c (fun d s => d.pushWord_time n s _) _

@[simp] theorem Chip.movePorts_time : c.movePorts.time = c.time := by
  refine foldl_time c (fun d n => ?_) _
  have hserial : (if d.grpMaster (d.laneGrp n) && d.grpRuns (d.laneGrp n) then d.serialFrame n else d).time = d.time := by
    split <;> rfl
  dsimp only
  split_ifs at hserial ⊢ <;> simp [Chip.inputSide_time, Chip.outputSide_time, hserial]

/-! ## The engines -/

@[simp] theorem Chip.latchInputs_time : c.latchInputs.time = c.time := by
  unfold Chip.latchInputs
  split
  · rfl
  · refine foldl_time c (fun d n => ?_) _
    split <;> rfl

@[simp] theorem Chip.nearRequests_time : c.nearRequests.time = c.time := by
  unfold Chip.nearRequests
  split
  · rfl
  · refine foldl_time c (fun d n => ?_) _
    exact Chip.setEngine_time d n _

@[simp] theorem Chip.dropHandover_time : c.dropHandover.time = c.time := by
  unfold Chip.dropHandover
  split <;> rfl

@[simp] theorem Chip.startFrames_time : c.startFrames.time = c.time := by
  unfold Chip.startFrames
  split
  · rfl
  · refine foldl_time c (fun d n => ?_) _
    dsimp only
    split <;> rfl

/-- A frame boundary moves time where the frame in progress ends, and nowhere else (R38). -/
theorem Chip.frameBoundary_time (h : c.framesRun = true) : c.frameBoundary.time = (c.endFrames.advanceTo c.boundaryRoot).time := by
  unfold Chip.frameBoundary
  rw [if_neg (by simp [h])]
  extract_lets c1 c2 c2' c3 c4 c5 c6
  have h2 : c2.time = c1.time := by simp [c2]
  have h2' : c2'.time = c2.time := by simp [c2']
  have h3 : c3.time = c2'.time := by
    simp only [c3]
    split
    · exact c2'.stepGlides_time
    · rfl
  have h5 : c5.time = c3.time := by simp [c5, c4]
  have h6 : c6.time = c5.time := by
    simp only [c6]
    split
    · exact c5.dropHandover_time
    · rfl
  rw [Chip.startFrames_time, h6, h5, h3, h2', h2]

end Sys2Proof.Machine
end

section
/-! PROOFS. The rows of discipline complete: lock, sources, the hold limit and the loop's enable. -/

namespace Sys2Proof.Machine

variable (c : Chip)

/-! ## Discipline states (R36) -/

theorem Chip.enterDisc_state {st : Nat} (h : st < 8) : (c.enterDisc st).get F.CLK_STAT_state = st := by
  unfold Chip.enterDisc
  split
  next hst => exact hst
  next => exact (c.get_put_self F.CLK_STAT_state (by decide) st).trans (Nat.mod_eq_of_lt h)

/-- Once a state is entered the rest is its target. -/
theorem Chip.setDisc_aims (st : Nat) : ClockMoves (Fld.whole R.CLK_INTEG :: targetFlds) (c.enterDisc st) (c.setDisc st) := by
  rw [c.setDisc_eq]
  split_ifs
  · exact (Chip.wr_moves _ _ _).append (Chip.setTarget_moves _ _)
  · exact (Chip.setTarget_moves _ _).mono (by decide)
  · exact (Chip.setTarget_moves _ _).mono (by decide)
  · exact .refl _ _

theorem Chip.setDisc_state {st : Nat} (h : st < 8) : (c.setDisc st).get F.CLK_STAT_state = st :=
  ((c.setDisc_aims st).get _ (by decide)).trans (c.enterDisc_state h)

theorem Chip.setDisc_free : c.setDisc stFree = ((c.enterDisc stFree).wr R.CLK_INTEG 0).setTarget 0 := rfl

theorem Chip.setDisc_free_integ : (c.setDisc stFree).rd R.CLK_INTEG = 0 := by
  rw [c.setDisc_free, (Chip.setTarget_moves _ 0).rd (by decide), Chip.rd_wr_self]

theorem Chip.setDisc_free_target : (c.setDisc stFree).rd R.CLK_TARGET = 0 := by
  rw [c.setDisc_free, (Chip.setTarget_shows _ 0).rd (by decide), Chip.rd_wr_self]
  decide

/-! ## The validity of sources (R32) -/

theorem validFld_free (src : Nat) : (validFld src).freeOf discFlds = true := by
  unfold validFld
  split_ifs <;> decide

theorem Chip.srcValid_congr {c d : Chip} {src : Nat} (h : d.bit (validFld src) = c.bit (validFld src)) : d.srcValid src = c.srcValid src := by
  simp only [Chip.srcValid, h]

theorem Chip.srcValid_lt {src : Nat} (h : c.srcValid src = true) : src < 3 := by
  simp only [Chip.srcValid, Bool.and_eq_true, decide_eq_true_eq] at h
  exact h.1

theorem Chip.settle_srcValid (src : Nat) : c.settle.srcValid src = c.srcValid src := by
  refine Chip.srcValid_congr (Chip.settle_bit _ ?_ ?_) <;> unfold validFld <;> split_ifs <;> decide

theorem Chip.invalidate_srcValid (src : Nat) : (c.invalidate src).srcValid src = false := by
  have hbit : (c.invalidate src).bit (validFld src) = false :=
    ((Chip.judgeDisc_moves _).bit (validFld_free src)).trans
      (Chip.bit_put_self _ (validFld src) (by unfold validFld; split_ifs <;> decide) 0)
  simp [Chip.srcValid, hbit]

theorem Chip.sourceTimeout_srcValid {src : Nat} (hl : c.bit F.CLK_STAT_locked = true) (hv : c.srcValid src = true)
    (ht : c.timeoutAt src ≤ c.boundaryRoot) : (c.sourceTimeout src).srcValid src = false := by
  unfold Chip.sourceTimeout
  rw [if_neg (by simp [hl, hv, ht])]
  exact Chip.invalidate_srcValid _ src

/-! ## Selection (R33) -/

theorem Chip.selectSrc_lt : c.selectSrc < 4 := by
  unfold Chip.selectSrc
  dsimp only
  cases h : List.find? c.srcValid [c.get F.CLK_CTRL_prio0, c.get F.CLK_CTRL_prio1, c.get F.CLK_CTRL_prio2] with
  | none => decide
  | some src => exact (c.srcValid_lt (List.find?_some h)).trans (by decide)

theorem Chip.newSource_src {src : Nat} (h : src < 4) : (c.newSource src).get F.CLK_STAT_src = src := by
  have hshow : (c.showSource src).get F.CLK_STAT_src = src :=
    (c.get_put_self F.CLK_STAT_src (by decide) src).trans (Nat.mod_eq_of_lt h)
  rw [c.newSource_eq, (Chip.judgeDisc_moves _).get F.CLK_STAT_src (by decide)]
  split
  · rw [(Chip.setDisc_moves _ _).get F.CLK_STAT_src (by decide), hshow]
  · exact hshow

theorem Chip.selectSource_src (hl : c.bit F.CLK_STAT_locked = true) (hb : c.atBoundary 192 = true) :
    c.selectSource.get F.CLK_STAT_src = c.selectSrc := by
  unfold Chip.selectSource
  rw [if_neg (by simp [hl, hb])]
  dsimp only
  split
  next h => rw [c.judgeDisc_moves.get F.CLK_STAT_src (by decide), h]
  next => exact c.newSource_src c.selectSrc_lt

/-! ## Samples of satellite time (R32, R34) -/

/-- The count and the instant of the satellite's samples. -/
def Chip.satMark : Nat × Nat := (c.time.satRun, c.time.satAt)

theorem Chip.setTarget_satMark (t : Int) : (c.setTarget t).satMark = c.satMark := by
  unfold Chip.setTarget
  dsimp only
  split
  · simp only [Chip.satMark, Chip.levelOff_time]; rfl
  · simp only [Chip.satMark, Chip.levelOn_time]; rfl

theorem Chip.enterDisc_satMark (st : Nat) : (c.enterDisc st).satMark = c.satMark := by
  unfold Chip.enterDisc
  split <;> rfl

theorem Chip.setDisc_satMark (st : Nat) : (c.setDisc st).satMark = c.satMark := by
  rw [c.setDisc_eq, ← c.enterDisc_satMark st]
  split_ifs
  · exact Chip.setTarget_satMark _ _
  · exact Chip.setTarget_satMark _ _
  · exact Chip.setTarget_satMark _ _
  · rfl

theorem Chip.judgeLock_satMark (e : Int) : (c.judgeLock e).satMark = c.satMark := by
  rw [c.judgeLock_eq]
  split_ifs
  · exact Chip.setDisc_satMark (c.countLock e) _
  · exact Chip.setDisc_satMark (c.countLock e) _
  · rfl

theorem Chip.loopUpdate_satMark (e : Int) : (c.loopUpdate e).satMark = c.satMark := Chip.setTarget_satMark _ _

theorem Chip.countSample_satMark (h : c.bit F.CLK_CTRL_sat_en = true) : (c.countSample 0).satMark = (1 + c.runBefore 0, c.now) := by
  have hen : c.srcEnabled 0 = true := h
  unfold Chip.countSample
  rw [if_neg (by simp [hen])]
  dsimp only
  split <;> rfl

/-- What follows the count of a sample of the selected source (R34). -/
def Chip.useSample (e : Int) : Chip :=
  (((c.wr R.CLK_PERR_LAST (BitVec.ofInt 32 e)).put F.CLK_STAT_coarse 0).loopUpdate e).judgeLock e

theorem Chip.sample_eq {src : Nat} {e : Int} (hl : c.bit F.CLK_STAT_locked = true) : c.sample src e =
    if (c.countSample src).get F.CLK_STAT_src = src ∧ (c.countSample src).bit F.CLK_CTRL_loop_en ∧ (c.countSample src).srcValid src then
      (c.countSample src).useSample e
    else c.countSample src := by
  unfold Chip.sample
  rw [if_neg (by simp [hl])]
  rfl

theorem Chip.sample_satMark (e : Int) (hl : c.bit F.CLK_STAT_locked = true) (h : c.bit F.CLK_CTRL_sat_en = true) :
    (c.sample 0 e).satMark = (1 + c.runBefore 0, c.now) := by
  rw [c.sample_eq hl, ← c.countSample_satMark h]
  split
  · unfold Chip.useSample
    rw [Chip.judgeLock_satMark, Chip.loopUpdate_satMark]
    rfl
  · rfl

/-- A sample takes no validity away. -/
theorem Chip.countSample_srcValid {src : Nat} (h : c.srcValid src = true) : (c.countSample src).srcValid src = true := by
  have hput (d : Chip) : (d.put (validFld src) 1).srcValid src = true := by
    have hbit : (d.put (validFld src) 1).bit (validFld src) = true := by
      unfold validFld
      split_ifs <;> exact Chip.bit_put_self _ _ (by decide) 1
    simp [Chip.srcValid, hbit, c.srcValid_lt h]
  unfold Chip.countSample
  split
  · exact h
  · dsimp only
    split
    · exact hput _
    · exact h

theorem Chip.useSample_last (e : Int) : (c.useSample e).rd R.CLK_PERR_LAST = BitVec.ofInt 32 e := by
  have hmoves := ((Chip.put_moves (c.wr R.CLK_PERR_LAST (BitVec.ofInt 32 e)) F.CLK_STAT_coarse 0).append (Chip.loopUpdate_moves _ e)).append
    (Chip.judgeLock_moves _ e)
  exact (hmoves.rd (by decide)).trans (Chip.rd_wr_self _ _ _)

theorem Chip.sample_last {src : Nat} {e : Int} (hl : c.bit F.CLK_STAT_locked = true) (hs : c.get F.CLK_STAT_src = src)
    (he : c.bit F.CLK_CTRL_loop_en = true) (hv : c.srcValid src = true) : (c.sample src e).rd R.CLK_PERR_LAST = BitVec.ofInt 32 e := by
  have hm := c.countSample_moves src
  have hsrc : (c.countSample src).get F.CLK_STAT_src = src := by
    refine (hm.get _ ?_).trans hs
    unfold validFld
    split_ifs <;> decide
  have hen : (c.countSample src).bit F.CLK_CTRL_loop_en = true := by
    refine (hm.bit ?_).trans he
    unfold validFld
    split_ifs <;> decide
  rw [c.sample_eq hl, if_pos ⟨hsrc, hen, c.countSample_srcValid hv⟩]
  exact Chip.useSample_last _ e

/-! ## The hold limit (R36) -/

theorem Chip.holdLimit_due (hl : c.bit F.CLK_STAT_locked = true) (hs : c.get F.CLK_STAT_state = stHold) (hh : c.get F.CLK_HOLD_hold_lim ≠ 0)
    (ht : c.time.holdAt + c.get F.CLK_HOLD_hold_lim * rootPerSec ≤ c.boundaryRoot) :
    c.holdLimit = (c.advanceTo (c.time.holdAt + c.get F.CLK_HOLD_hold_lim * rootPerSec)).setDisc stFree := by
  unfold Chip.holdLimit
  rw [if_neg (by simp [hl, hs, hh, ht])]

/-! ## The enables (R32, R35) -/

/-- A field whose register takes its bits as they are written, and no bit of which software only clears or only sets. -/
def Fld.plain (f : Fld) : Bool :=
  decide (regCanon f.addr = f.addr) &&
    (regRow? f.addr).any fun r => decide (f.mask &&& r.rw = f.mask) && decide (r.w1c = 0) && decide (r.w1s = 0)

/-- A plain field takes what is written to it. -/
theorem Chip.get_plainWrite {f : Fld} (hf : f.plain = true) (v : Word) : (c.plainWrite f.addr v).get f = f.of v := by
  simp only [Fld.plain, Bool.and_eq_true, decide_eq_true_eq, Option.any_eq_true] at hf
  obtain ⟨ha, row, hr, ⟨hm, h1⟩, h2⟩ := hf
  have hrd := c.rd_plainWrite_self hr v
  have hw : row.written (c.rd f.addr) v ||| (c.collide f.addr v &&& row.w1c) = (c.rd f.addr &&& ~~~row.rw) ||| (v &&& row.rw) := by
    simp only [RegRow.written, h1, h2, BitVec.and_zero, BitVec.or_zero, BitVec.not_zero, BitVec.and_allOnes, BitVec.ofNat_eq_ofNat]
  rw [ha, hw] at hrd
  have hof : (c.plainWrite f.addr v).get f = f.of ((c.plainWrite f.addr v).rd f.addr) := rfl
  rw [hof, hrd, Fld.of_merge hm]

theorem Chip.bit_plainWrite {f : Fld} (hf : f.plain = true) (v : Word) : (c.plainWrite f.addr v).bit f = f.ofB v := by
  simp only [Chip.bit, c.get_plainWrite hf v]
  rfl

/-- The enable of a source in CLK_CTRL. -/
def enFld (src : Nat) : Fld :=
  if src = 0 then F.CLK_CTRL_sat_en else if src = 1 then F.CLK_CTRL_link_en else F.CLK_CTRL_tmark_en

/-- What the enables of the sources do after the write itself leaves CLK_CTRL and the applied word. -/
theorem Chip.clkCtrlSet_drops (v : Word) : ClockMoves (validFlds ++ discFlds) (c.plainWrite R.CLK_CTRL v) (c.clkCtrlSet v) :=
  (((Chip.dropUnless_moves _ F.CLK_CTRL_sat_en 0).append (Chip.dropUnless_moves _ F.CLK_CTRL_link_en 1)).append
    (Chip.dropUnless_moves _ F.CLK_CTRL_tmark_en 2)).mono (by decide)

theorem Chip.clkCtrlSet_loopEn (v : Word) : (c.clkCtrlSet v).bit F.CLK_CTRL_loop_en = F.CLK_CTRL_loop_en.ofB v :=
  ((c.clkCtrlSet_drops v).bit (by decide)).trans (c.bit_plainWrite (f := F.CLK_CTRL_loop_en) (by decide) v)

theorem Chip.dropUnless_of_bit {en : Fld} (h : c.bit en = true) (src : Nat) : c.dropUnless en src = c := if_pos h

/-- A source that keeps its enable keeps its validity. -/
theorem Chip.clkCtrlSet_srcValid {v : Word} {src : Nat} (hv : c.srcValid src = true) (he : (enFld src).ofB v = true) :
    (c.clkCtrlSet v).srcValid src = true := by
  have hlt := c.srcValid_lt hv
  rw [← hv]
  refine Chip.srcValid_congr ?_
  have hp := c.plainWrite_moves R.CLK_CTRL v
  unfold Chip.clkCtrlSet
  generalize hd : c.plainWrite R.CLK_CTRL v = d at hp ⊢
  interval_cases src
  · have h0 : d.bit F.CLK_CTRL_sat_en = true := by
      rw [← hd, ← he]
      exact c.bit_plainWrite (f := F.CLK_CTRL_sat_en) (by decide) v
    rw [d.dropUnless_of_bit h0]
    exact ((hp.append (Chip.dropUnless_moves _ _ 1)).append (Chip.dropUnless_moves _ _ 2)).bit (by decide)
  · have h1 : (d.dropUnless F.CLK_CTRL_sat_en 0).bit F.CLK_CTRL_link_en = true := by
      rw [(d.dropUnless_moves _ 0).bit (by decide), ← hd, ← he]
      exact c.bit_plainWrite (f := F.CLK_CTRL_link_en) (by decide) v
    rw [Chip.dropUnless_of_bit _ h1]
    exact ((hp.append (Chip.dropUnless_moves _ _ 0)).append (Chip.dropUnless_moves _ _ 2)).bit (by decide)
  · have h2 : ((d.dropUnless F.CLK_CTRL_sat_en 0).dropUnless F.CLK_CTRL_link_en 1).bit F.CLK_CTRL_tmark_en = true := by
      rw [(Chip.dropUnless_moves _ _ 1).bit (by decide), (d.dropUnless_moves _ 0).bit (by decide), ← hd, ← he]
      exact c.bit_plainWrite (f := F.CLK_CTRL_tmark_en) (by decide) v
    rw [Chip.dropUnless_of_bit _ h2]
    exact ((hp.append (Chip.dropUnless_moves _ _ 0)).append (Chip.dropUnless_moves _ _ 1)).bit (by decide)

/-- The loop that starts on a valid source. -/
theorem Chip.startLoop_valid (h : c.srcValid (c.get F.CLK_STAT_src) = true) :
    c.startLoop.get F.CLK_STAT_state = stAcq ∧ c.startLoop.rd R.CLK_INTEG = c.rd R.CLK_STEER := by
  have hm := c.wr_moves R.CLK_INTEG (c.rd R.CLK_STEER)
  have hsrc := hm.get F.CLK_STAT_src (by decide)
  have hvalid : (c.wr R.CLK_INTEG (c.rd R.CLK_STEER)).srcValid (c.get F.CLK_STAT_src) = true := by
    rw [← h]
    refine Chip.srcValid_congr (hm.bit ?_)
    unfold validFld
    split_ifs <;> decide
  have hstart : c.startLoop = ((c.wr R.CLK_INTEG (c.rd R.CLK_STEER)).setDisc stAcq).freshLock := by
    unfold Chip.startLoop
    dsimp only
    rw [hsrc, if_pos hvalid]
  rw [hstart]
  exact ⟨Chip.setDisc_state _ (by decide), ((Chip.enterDisc_moves _ stAcq).rd (by decide)).trans (Chip.rd_wr_self _ _ _)⟩

theorem Chip.writeClkCtrl_off {v : Word} (h : F.CLK_CTRL_loop_en.ofB v = false) : (c.writeClkCtrl v).get F.CLK_STAT_state = stManual := by
  rw [c.writeClkCtrl_eq, c.clkCtrlSet_loopEn, if_pos (by simp [h])]
  exact Chip.setDisc_state _ (by decide)

theorem Chip.writeClkCtrl_on {v : Word} (h : F.CLK_CTRL_loop_en.ofB v = true) (hoff : c.bit F.CLK_CTRL_loop_en = false)
    (hv : c.srcValid (c.get F.CLK_STAT_src) = true) (he : (enFld (c.get F.CLK_STAT_src)).ofB v = true) :
    (c.writeClkCtrl v).get F.CLK_STAT_state = stAcq ∧ (c.writeClkCtrl v).rd R.CLK_INTEG = c.rd R.CLK_STEER := by
  have hm := c.clkCtrlSet_moves v
  have hvalid : (c.clkCtrlSet v).srcValid ((c.clkCtrlSet v).get F.CLK_STAT_src) = true := by
    rw [hm.get F.CLK_STAT_src (by decide)]
    exact c.clkCtrlSet_srcValid hv he
  rw [c.writeClkCtrl_eq, c.clkCtrlSet_loopEn, if_neg (by simp [h]), if_neg (by simp [hoff]), ← hm.rd (a := R.CLK_STEER) (by decide)]
  exact Chip.startLoop_valid _ hvalid

/-! ## Rows that write one register -/

theorem Chip.guarded_accepted {r : Req} {a : Nat} (h : Sys2Proof.accepts c r a = true) (f : Chip → Chip) : c.guarded r a f = f c := by
  have hg : c.rowGate r true a = .accept := by simpa [Sys2Proof.accepts] using h
  simp [Chip.guarded, hg]

end Sys2Proof.Machine

namespace Sys2Proof

open Sys2Proof.Machine

variable {s : State}

/-- The command `i` has its effect where it is ready. -/
def RowCompletes (i : Instr) (s : State) : Prop := clockReady s.chip i = true → Completes i s fun d => clockEffect s.chip d i

theorem clkUnlock_completes : RowCompletes .clkUnlock s := by
  intro (hl : s.chip.bit F.CLK_STAT_locked = true)
  refine completes_act (exec_clkUnlock s) ?_
  have hoff : s.chip.unlock.bit F.CLK_STAT_locked = false := by
    unfold Chip.unlock
    rw [if_pos hl, (Chip.levelOn_moves _ _ _ _).bit (by decide)]
    exact Chip.bit_put_self _ _ (by decide) 0
  have hsettled : s.chip.unlock.settle.bit F.CLK_STAT_locked = false := (Chip.settle_bit _ (by decide) (by decide)).trans hoff
  have hpa := s.chip.unlock.paSafe_settle
  have htp (n : Bool) : (s.chip.unlock.settle.tp n).active = false := by
    rw [Chip.settle_tp]
    simp [TpSt.judged, Chip.tpHeld, hoff]
  refine ⟨hsettled, ?_, htp false, htp true, ?_⟩
  · simpa [paSafe, Chip.paAllowed, hsettled] using hpa
  · exact (Chip.settle_rd _ (by decide) (by decide)).trans (s.chip.unlock_moves.rd (by decide))

theorem rootPllRelock_completes : RowCompletes .rootPllRelock s := by
  intro h
  simp only [clockReady, Bool.and_eq_true, Bool.not_eq_true'] at h
  obtain ⟨hl, hevt⟩ := h
  refine completes_act (exec_rootPllRelock s) ⟨?_, ?_⟩
  · rw [Chip.settle_bit (f := F.CLK_STAT_locked) _ (by decide) (by decide), Chip.relock, if_neg (by simp [hl, hevt]),
      (Chip.levelOff_moves _ _ _).bit (by decide)]
    exact Chip.bit_put_self _ _ (by decide) 1
  · exact (Chip.settle_rd _ (by decide) (by decide)).trans (s.chip.relock_moves.rd (by decide))

theorem steeringStep_completes : RowCompletes .steeringStep s := by
  intro (hdue : s.chip.steerDue = true)
  refine completes_act (exec_steeringStep s) ?_
  simp only [clockEffect]
  rw [Chip.settle_rd (a := R.CLK_STEER) _ (by decide) (by decide), s.chip.steerStep_eq, if_pos hdue, s.chip.steerOnce_steer]
  rfl

theorem sourceSelection_completes : RowCompletes .sourceSelection s := by
  intro h
  simp only [clockReady, Bool.and_eq_true] at h
  obtain ⟨hl, hb⟩ := h
  exact completes_act (exec_sourceSelection s)
    ((Chip.settle_get _ (by decide) (by decide)).trans (s.chip.selectSource_src hl hb))

theorem clkPerrSatWrite_completes {r : Req} {v : Word} : RowCompletes (.clkPerrSatWrite r v) s := by
  intro h
  simp only [clockReady, Bool.and_eq_true] at h
  obtain ⟨⟨hacc, hl⟩, hen⟩ := h
  refine completes_act (exec_clkPerrSatWrite s r v) ?_
  rw [s.chip.guarded_accepted hacc]
  obtain ⟨hrun, hat⟩ := Prod.mk.inj (s.chip.sample_satMark v.toInt hl hen)
  refine ⟨by rw [Chip.settle_satRun]; exact hrun, by rw [Chip.settle_satAt]; exact hat, fun hsrc hloop hvalid => ?_⟩
  rw [Chip.settle_rd (a := R.CLK_PERR_LAST) _ (by decide) (by decide)]
  exact (s.chip.sample_last hl hsrc hloop hvalid).trans (BitVec.ofInt_toInt ..)

theorem sourceTimeout_completes {i : Instr} {src : Nat} (he : exec i s = s.act fun c => c.sourceTimeout src)
    (h : (s.chip.bit F.CLK_STAT_locked && s.chip.srcValid src && decide (s.chip.timeoutAt src ≤ s.chip.boundaryRoot)) = true) :
    Completes i s fun d => d.srcValid src = false := by
  simp only [Bool.and_eq_true, decide_eq_true_eq] at h
  obtain ⟨⟨hl, hv⟩, ht⟩ := h
  exact completes_act he ((Chip.settle_srcValid _ src).trans (s.chip.sourceTimeout_srcValid hl hv ht))

theorem satTimeout_completes : RowCompletes .satTimeout s := sourceTimeout_completes (exec_satTimeout s)
theorem linkTimeout_completes : RowCompletes .linkTimeout s := sourceTimeout_completes (exec_linkTimeout s)
theorem tmarkTimeout_completes : RowCompletes .tmarkTimeout s := sourceTimeout_completes (exec_tmarkTimeout s)

theorem holdLimit_completes : RowCompletes .holdLimit s := by
  intro h
  simp only [clockReady, Bool.and_eq_true, decide_eq_true_eq] at h
  obtain ⟨⟨⟨hl, hst⟩, hlim⟩, ht⟩ := h
  refine completes_act (exec_holdLimit s) ⟨?_, ?_, ?_⟩
  · rw [Chip.settle_get (f := F.CLK_STAT_state) _ (by decide) (by decide), s.chip.holdLimit_due hl hst hlim ht]
    exact Chip.setDisc_state _ (by decide)
  · rw [Chip.settle_rd (a := R.CLK_INTEG) _ (by decide) (by decide), s.chip.holdLimit_due hl hst hlim ht]
    exact Chip.setDisc_free_integ _
  · rw [Chip.settle_rd (a := R.CLK_TARGET) _ (by decide) (by decide), s.chip.holdLimit_due hl hst hlim ht]
    exact Chip.setDisc_free_target _

theorem loopEnable_completes {r : Req} {v : Word} : RowCompletes (.loopEnable r v) s := by
  intro h
  simp only [clockReady, Bool.and_eq_true, Bool.or_eq_true, Bool.not_eq_true'] at h
  obtain ⟨hacc, hrest⟩ := h
  refine completes_act (exec_loopEnable s r v) ?_
  rw [s.chip.guarded_accepted hacc]
  refine ⟨fun hv => ?_, fun hv => ?_⟩
  · exact (Chip.settle_get _ (by decide) (by decide)).trans (s.chip.writeClkCtrl_off hv)
  · rcases hrest with hoff | ⟨⟨hoff, hvalid⟩, hen⟩
    · rw [hv] at hoff
      cases hoff
    have hfld : (enFld (s.chip.get F.CLK_STAT_src)).ofB v = true := by
      unfold enFld
      split_ifs at hen ⊢ <;> exact hen
    obtain ⟨hstate, hinteg⟩ := s.chip.writeClkCtrl_on hv hoff hvalid hfld
    exact ⟨(Chip.settle_get _ (by decide) (by decide)).trans hstate, (Chip.settle_rd _ (by decide) (by decide)).trans hinteg⟩

end Sys2Proof
end

section
/-! PROOFS. The rows of time pulses, of marks and of the counter's reads complete. -/

namespace Sys2Proof.Machine

variable (c : Chip)

/-! ## Time pulses (R44, R46) -/

theorem Fld.of_or (f : Fld) (x y : Word) : f.of (x ||| y) = f.of x ||| f.of y := by
  apply Nat.eq_of_testBit_eq
  intro i
  rw [Nat.testBit_or, Fld.testBit_of, Fld.testBit_of, Fld.testBit_of]
  cases decide (i < f.width) <;> simp

/-- A field whose bits software sets by writing 1. -/
def Fld.setting (f : Fld) : Bool :=
  decide (regCanon f.addr = f.addr) && (regRow? f.addr).any fun r => decide (f.mask &&& r.w1s = f.mask) && decide (r.w1c = 0)

/-- A field that software sets shows the 1 that is written to it. -/
theorem Chip.bit_plainWrite_set {f : Fld} (hf : f.setting = true) {v : Word} (hv : f.ofB v = true) : (c.plainWrite f.addr v).bit f = true := by
  simp only [Fld.setting, Bool.and_eq_true, decide_eq_true_eq, Option.any_eq_true] at hf
  obtain ⟨ha, row, hr, hm, h1⟩ := hf
  have hrd := c.rd_plainWrite_self hr v
  rw [ha] at hrd
  have hset : f.of (v &&& row.w1s) = f.of v := by
    have h := Fld.of_merge hm 0 v
    rwa [BitVec.ofNat_eq_ofNat, BitVec.zero_and, BitVec.zero_or] at h
  have hne : f.of v ≠ 0 := by simpa [Fld.ofB] using hv
  have hget : (c.plainWrite f.addr v).get f = f.of ((c.plainWrite f.addr v).rd f.addr) := rfl
  have hor (a b : Nat) (h : b ≠ 0) : a ||| b ≠ 0 := fun h0 => h (Nat.or_eq_zero_iff.mp h0).2
  simp only [Chip.bit, decide_eq_true_eq, hget, hrd, RegRow.written, h1, BitVec.ofNat_eq_ofNat, BitVec.and_zero,
    BitVec.or_zero, Fld.of_or, hset]
  exact hor _ _ hne

theorem Chip.plainWrite_time (a : Nat) (v : Word) : (c.plainWrite a v).time = c.time := (congrArg Chip.time (c.plainWrite_rest a v) :)

theorem Chip.writeTpCtrl_apply {n : Bool} {v : Word} (hv : (F.TIME_TP_CTRL_apply (b2n n)).ofB v = true) :
    (c.writeTpCtrl n v).bit (F.TIME_TP_CTRL_apply (b2n n)) = true := by
  have hbit := c.bit_plainWrite_set (f := F.TIME_TP_CTRL_apply (b2n n)) (by cases n <;> decide) hv
  unfold Chip.writeTpCtrl
  dsimp only
  split
  · exact hbit
  · exact ((Chip.setTp_moves _ n _).bit (by cases n <;> decide)).trans hbit

theorem Chip.writeTpCtrl_reqAt {n : Bool} {v : Word} (hv : (F.TIME_TP_CTRL_apply (b2n n)).ofB v = true)
    (h : c.bit (F.TIME_TP_CTRL_apply (b2n n)) = false) : ((c.writeTpCtrl n v).tp n).reqAt = c.now := by
  have hbit : (c.plainWrite (R.TIME_TP_CTRL (b2n n)) v).bit (F.TIME_TP_CTRL_apply (b2n n)) = true :=
    c.bit_plainWrite_set (f := F.TIME_TP_CTRL_apply (b2n n)) (by cases n <;> decide) hv
  unfold Chip.writeTpCtrl
  dsimp only
  rw [if_neg (by simp [h, hbit]), Chip.setTp_tp]
  simp only [Chip.now, c.plainWrite_time]

/-- A configuration in use decides, with the gate and the lock, whether its pulse is held. -/
theorem Chip.tpHeld_of_cfg {c d : Chip} {n : Bool} (ht : (d.tp n).cfg = (c.tp n).cfg) (hg : d.bit F.GUARD_GATE_gpio = c.bit F.GUARD_GATE_gpio)
    (hl : d.bit F.CLK_STAT_locked = c.bit F.CLK_STAT_locked) : d.tpHeld n = c.tpHeld n := by
  simp only [Chip.tpHeld, ht, hg, hl]

/-- The pulse of TPn from its next start edge (R44, R46). -/
def Chip.pulseOn (n : Bool) : TpSt :=
  let e := nsToRoot ((c.tp n).cfg.nextEdge c.now + Int.ofNat (c.tp n).cfg.width)
  { c.tp n with active := true, endAt := if (c.tp n).active then max (c.tp n).endAt e else e }

theorem Chip.tpStart_due {n : Bool} (hh : c.tpHeld n = false) (hq : (c.tp n).cfg.qual = false ∨ c.get F.CLK_STAT_state = stLocked)
    (he : nsToRoot ((c.tp n).cfg.nextEdge c.now) ≤ c.boundaryRoot) :
    c.tpStart n = (c.advanceTo (nsToRoot ((c.tp n).cfg.nextEdge c.now))).setTp n (c.pulseOn n) := by
  have hcond : (c.tpHeld n || ((c.tp n).cfg.qual && decide (c.get F.CLK_STAT_state ≠ stLocked)) ||
      decide (c.boundaryRoot < nsToRoot ((c.tp n).cfg.nextEdge c.now))) = false := by
    rcases hq with hq | hq <;> simp [hh, hq, he]
  unfold Chip.tpStart
  dsimp only
  rw [hcond]
  rfl

theorem Chip.tpEnd_due {n : Bool} (ha : (c.tp n).active = true) (he : (c.tp n).endAt ≤ c.boundaryRoot) :
    c.tpEnd n = (c.advanceTo (c.tp n).endAt).setTp n { c.tp n with active := false } := by
  unfold Chip.tpEnd
  dsimp only
  rw [if_neg (by simp [ha, he])]

/-! ## Marks (R49) -/

theorem Chip.captureMark_new : c.captureMark.bit F.TIME_TMARK_CTRL_new = true := by
  unfold Chip.captureMark
  split
  next h => rw [(c.latch_moves _).bit (by decide), h]
  next =>
    rw [(((Chip.wr_moves _ R.TIME_TMARK_CAP_LO _).append (Chip.wr_moves _ R.TIME_TMARK_CAP_HI _)).append
      (Chip.wr_moves _ R.TIME_TMARK_CAP_FRAC _)).bit (by decide)]
    exact c.bit_put_self _ (by decide) 1

theorem Chip.captureMark_unread (h : c.bit F.TIME_TMARK_CTRL_new = true) :
    c.captureMark.bit F.TIME_TMARK_CTRL_ovr = true ∧ c.captureMark.rd R.TIME_TMARK_CAP_LO = c.rd R.TIME_TMARK_CAP_LO := by
  unfold Chip.captureMark
  rw [if_pos h]
  exact ⟨c.bit_put_self _ (by decide) 1, (c.latch_moves _).rd (by decide)⟩

theorem Chip.captureMark_fresh (h : c.bit F.TIME_TMARK_CTRL_new = false) :
    c.captureMark.rd R.TIME_TMARK_CAP_LO = BitVec.ofNat 32 c.time.stc ∧
      c.captureMark.rd R.TIME_TMARK_CAP_HI = BitVec.ofNat 32 (c.time.stc / 2 ^ 32) ∧
      c.captureMark.rd R.TIME_TMARK_CAP_FRAC = BitVec.ofNat 32 c.time.frac.val := by
  unfold Chip.captureMark
  rw [if_neg (by simp [h])]
  refine ⟨?_, ?_, Chip.rd_wr_self _ _ _⟩
  · rw [Chip.rd_wr_ne _ (by decide), Chip.rd_wr_ne _ (by decide), Chip.rd_wr_self]
  · rw [Chip.rd_wr_ne _ (by decide), Chip.rd_wr_self]

/-- What follows a mark's capture leaves it as it is. -/
theorem Chip.tmarkEdge_captured {falling : Bool} (hen : c.bit F.TIME_TMARK_CTRL_en = true) (he : c.bit F.TIME_TMARK_CTRL_edge = falling)
    (hl : c.bit F.CLK_STAT_locked = true) : ClockMoves markFlds c.captureMark (c.tmarkEdge falling) := by
  rw [c.tmarkEdge_eq, if_neg (by simp [hen, he, hl])]
  exact Chip.afterCapture_moves _ _

end Sys2Proof.Machine

namespace Sys2Proof

open Sys2Proof.Machine

variable {s : State}

theorem tpApplyRequest_completes {r : Req} {n : Bool} {v : Word} : RowCompletes (.tpApplyRequest r n v) s := by
  intro h
  simp only [clockReady, Bool.and_eq_true] at h
  obtain ⟨hacc, hv⟩ := h
  obtain ⟨hflush, hhold⟩ := tpCtrl_kept n
  refine completes_act (exec_tpApplyRequest s r n v) ?_
  rw [s.chip.guarded_accepted hacc]
  refine ⟨?_, fun hoff => ?_⟩
  · exact (Chip.settle_bit _ hflush hhold).trans (s.chip.writeTpCtrl_apply hv)
  · rw [Chip.settle_tp]
    exact s.chip.writeTpCtrl_reqAt hv hoff

theorem tpConfigApply_row {n : Bool} : RowCompletes (.tpConfigApply n) s := by
  intro h
  simp only [clockReady, Bool.and_eq_true, decide_eq_true_eq] at h
  obtain ⟨⟨happly, hb⟩, ht⟩ := h
  exact (tpConfigApply_completes happly hb ht).imp fun d ⟨hcfg, hoff, herr, _⟩ => ⟨hcfg, hoff, herr⟩

theorem timePulseStart_completes {n : Bool} : RowCompletes (.timePulseStart n) s := by
  intro h
  simp only [clockReady, Bool.and_eq_true, Bool.not_eq_true', Bool.or_eq_true, decide_eq_true_eq] at h
  obtain ⟨⟨hh, hq⟩, he⟩ := h
  refine completes_act (exec_timePulseStart s n) ?_
  simp only [clockEffect]
  rw [s.chip.tpStart_due hh hq he]
  have hheld : ((s.chip.advanceTo (nsToRoot ((s.chip.tp n).cfg.nextEdge s.chip.now))).setTp n (s.chip.pulseOn n)).tpHeld n = false := by
    have hm := (s.chip.advanceTo_moves (nsToRoot ((s.chip.tp n).cfg.nextEdge s.chip.now))).append (Chip.setTp_moves _ n (s.chip.pulseOn n))
    refine (Chip.tpHeld_of_cfg ?_ (hm.bit (by decide)) (hm.bit (by decide))).trans hh
    rw [Chip.setTp_tp]
    rfl
  rw [Chip.settle_tp, hheld, Chip.setTp_tp]
  exact ⟨rfl, rfl⟩

theorem timePulseEnd_completes {n : Bool} : RowCompletes (.timePulseEnd n) s := by
  intro h
  simp only [clockReady, Bool.and_eq_true, decide_eq_true_eq] at h
  obtain ⟨ha, he⟩ := h
  refine completes_act (exec_timePulseEnd s n) ?_
  simp only [clockEffect]
  rw [s.chip.tpEnd_due ha he, Chip.settle_tp, Chip.setTp_tp]
  rfl

theorem tmarkEdge_completes {falling : Bool} : RowCompletes (.tmarkEdge falling) s := by
  intro h
  simp only [clockReady, Bool.and_eq_true, decide_eq_true_eq] at h
  obtain ⟨⟨hen, he⟩, hl⟩ := h
  have hm := s.chip.tmarkEdge_captured hen he hl
  refine completes_act (exec_tmarkEdge s falling) ⟨?_, ?_⟩
  · rw [Chip.settle_bit (f := F.TIME_TMARK_CTRL_new) _ (by decide) (by decide), hm.bit (by decide)]
    exact s.chip.captureMark_new
  · rw [Chip.settle_bit (f := F.TIME_TMARK_CTRL_ovr) _ (by decide) (by decide), hm.bit (g := F.TIME_TMARK_CTRL_ovr) (by decide),
      Chip.settle_rd (a := R.TIME_TMARK_CAP_LO) _ (by decide) (by decide), hm.rd (a := R.TIME_TMARK_CAP_LO) (by decide),
      Chip.settle_rd (a := R.TIME_TMARK_CAP_HI) _ (by decide) (by decide), hm.rd (a := R.TIME_TMARK_CAP_HI) (by decide),
      Chip.settle_rd (a := R.TIME_TMARK_CAP_FRAC) _ (by decide) (by decide), hm.rd (a := R.TIME_TMARK_CAP_FRAC) (by decide)]
    split
    next hnew => exact s.chip.captureMark_unread hnew
    next hnew => exact s.chip.captureMark_fresh (Bool.eq_false_of_not_eq_true hnew)

/-! ## Reads (R39, R49) -/

theorem returned_settle (d : Chip) (r : Req) : returned d.settle r = returned d r := by
  cases r <;> simp only [returned, Chip.settle_bus]

theorem stcSnapshot_completes {r : Req} : RowCompletes (.stcSnapshot r) s := by
  intro hacc
  refine completes_act (exec_stcSnapshot s r) ?_
  simp only [clockEffect]
  rw [s.chip.readTo_accepted hacc (by decide), Chip.readReg_stcLo, returned_settle, returned_keepRead, Chip.settle_snap]
  refine ⟨?_, rfl⟩
  cases r <;> rfl

theorem tmarkCapRead_completes {r : Req} : RowCompletes (.tmarkCapRead r) s := by
  intro hacc
  refine completes_act (exec_tmarkCapRead s r) ?_
  simp only [clockEffect]
  rw [s.chip.readTo_accepted hacc (by decide), Chip.readReg_capLo, returned_settle, returned_keepRead,
    Chip.settle_bit (f := F.TIME_TMARK_CTRL_new) _ (by decide) (by decide)]
  exact ⟨rfl, s.chip.bit_put_self F.TIME_TMARK_CTRL_new (by decide) 0⟩

end Sys2Proof
end

section
/-! PROOFS. The rows that number time complete: the root's lock, boundaries, whole seconds and loads of the counter. -/

namespace Sys2Proof.Machine

variable (c : Chip)

/-! ## The root's lock (R27, R43, R433) -/

/-- The root runs and is locked. -/
def Chip.rootLocks : Chip := ({ c with time := { c.time with rootOn := true } }).put F.CLK_STAT_locked 1

theorem Chip.rootLocks_locked : c.rootLocks.bit F.CLK_STAT_locked = true :=
  Chip.bit_put_self { c with time := { c.time with rootOn := true } } F.CLK_STAT_locked (by decide) 1

theorem Chip.renewOvertemp_moves : ClockMoves [] c c.renewOvertemp := by
  unfold Chip.renewOvertemp
  split
  · exact c.levelOn_moves _ _ _
  · exact .refl c _

@[simp] theorem Chip.renewOvertemp_time : c.renewOvertemp.time = c.time := by
  unfold Chip.renewOvertemp
  split
  · exact c.levelOn_time _ _ _
  · rfl

/-- A count of CLK32K cycles up to the lock. -/
def Chip.tick32k (n : Nat) : Chip := c.wr R.PWR_TMR (c.rd R.PWR_TMR + BitVec.ofNat 32 n)

/-- The lock after power-on (R383). -/
theorem Chip.pllLock_powerOn (n : Nat) (h : c.shp.stage = .t0) :
    c.pllLock n = (c.tick32k n).rootLocks.renewOvertemp.setShp fun s => { s with stage := .sense } := if_pos h

/-- The instant at which a sleep ends. -/
def Chip.wakeRoot (n : Nat) : Nat := c.time.sleepStc * rootPerTick + c.time.sleepFrac + rootPer32k * (c.pwr.slept + n)

/-- The device at a wake up to the state of discipline (R431, R433). -/
def Chip.woken (n : Nat) : Chip :=
  let c0 := { c.tick32k n with regs := KMap.keep (fun a => !within a 0x400F0000 0x400F0FFF) (c.tick32k n).regs, hif := HifSt.zero }
  let c1 := c0.setNow (c.wakeRoot n)
  c1.rootLocks.setPwr fun p => { p with wakeAt := c1.now - rootPer32k * n, hashAt := c1.now + 8 * 671744 }

theorem Chip.pllLock_wake (n : Nat) (h : c.shp.stage ≠ .t0) (hs : c.get F.PWR_STAT_state = 4) (hr : c.time.rootOn = false) :
    c.pllLock n = (c.woken n).wakeDisc.renewOvertemp := by
  have hwake : c.pllLock n = if c.shp.stage = .t0 then (c.tick32k n).rootLocks.renewOvertemp.setShp fun s => { s with stage := .sense }
      else if c.get F.PWR_STAT_state = 4 ∧ !c.time.rootOn then (c.woken n).wakeDisc.renewOvertemp else c := rfl
  rw [hwake, if_neg h, if_pos ⟨hs, by simp [hr]⟩]

theorem Chip.wakeDisc_time : c.wakeDisc.time = { c.time with holdAt := c.now } := rfl

theorem Chip.wakeDisc_locked : c.wakeDisc.bit F.CLK_STAT_locked = c.bit F.CLK_STAT_locked := by
  have h (st : Nat) : (((c.put F.CLK_STAT_state st).put F.CLK_STAT_coarse 1).setDisc st).bit F.CLK_STAT_locked = c.bit F.CLK_STAT_locked :=
    (((c.put_moves F.CLK_STAT_state st).append (Chip.put_moves _ F.CLK_STAT_coarse 1)).append (Chip.setDisc_moves _ st)).bit (by decide)
  exact h _

theorem Chip.woken_locked (n : Nat) : (c.woken n).bit F.CLK_STAT_locked = true := Chip.rootLocks_locked _

/-! ## Boundaries -/

theorem Chip.calAbandon_lnk : c.calAbandon.lnk = c.lnk := by
  unfold Chip.calAbandon Chip.calEnd
  split <;> rfl

theorem Chip.superframe_due (hb : c.onSuperframe = true) (hd : c.lnk.sfDone ≠ some c.sfn) : c.superframe.lnk.sfDone = some c.sfn := by
  unfold Chip.superframe
  rw [if_neg (by simp [hb, hd])]
  exact congrArg LnkSt.sfDone (Chip.calAbandon_lnk _)

/-- The whole second that clears the count of keyed units (R291). -/
def Chip.airCleared : Chip :=
  { (c.levelOff Ev.RF_AIRTIME locNone).put F.GUARD_AIR_CNT_count 0 with
    pwr := { (c.levelOff Ev.RF_AIRTIME locNone).pwr with
      airReset := false
      airClear := ((c.levelOff Ev.RF_AIRTIME locNone).rd R.PWR_TMR).toNat } }

theorem Chip.wholeSecond_due (ha : Sys2Proof.airSafe c = true) (hb : c.atBoundary 192000 = true) (hr : c.pwr.airReset = false) :
    c.wholeSecond = c.airCleared := by
  unfold Chip.wholeSecond
  dsimp only
  rw [if_neg (by simp [hb]), c.countAir_id ha, if_neg (by simp [hr])]
  rfl

theorem Chip.airCleared_rf : c.airCleared.rf = c.rf := Chip.levelOff_rf c _ _

theorem Chip.airCleared_safe (hp : Sys2Proof.paSafe c = true) (ha : Sys2Proof.airSafe c = true) :
    Sys2Proof.paSafe c.airCleared = true ∧ Sys2Proof.airSafe c.airCleared = true := by
  have hmoves : ClockMoves [F.GUARD_AIR_CNT_count] c c.airCleared :=
    ((c.levelOff_moves _ _).append (Chip.put_moves _ _ 0)).append (.of_regs rfl rfl)
  have hnow : c.airCleared.now = c.now := by
    have ht : c.airCleared.time = c.time := c.levelOff_time _ _
    simp only [Chip.now, ht]
  have hrd : ∀ a ∈ permitRegs, c.airCleared.rd a = c.rd a := by
    intro a ha
    simp only [permitRegs, List.mem_cons, List.not_mem_nil, or_false] at ha
    rcases ha with rfl | rfl | rfl | rfl | rfl <;> exact hmoves.rd (by decide)
  refine ⟨?_, ?_⟩
  · rw [paSafe_congr hrd (congrArg RfSt.keyed c.airCleared_rf) (congrArg RfSt.cal c.airCleared_rf), hp]
  · simpa [Sys2Proof.airSafe, c.airCleared_rf, hnow] using ha

/-! ## Loads of the counter (R40 to R42) -/

theorem Chip.rd64_lt (lo hi : Nat) : c.rd64 lo hi < 2 ^ 64 := by
  have hl := (c.rd lo).isLt
  have hh := (c.rd hi).isLt
  simp only [Chip.rd64]
  omega

/-- PAS_R_STC set (R42). -/
def Chip.putRStc (v : Nat) : Chip := (c.wr R.PAS_R_STC_LO (BitVec.ofNat 32 v)).wr R.PAS_R_STC_HI (BitVec.ofNat 32 (v / 2 ^ 32))

theorem Chip.putRStc_time (v : Nat) : (c.putRStc v).time = c.time := rfl

theorem Chip.moveRStc_time (old : Nat) (s : Step) : (c.moveRStc old s).time = c.time := by
  unfold Chip.moveRStc
  extract_lets r put
  split
  · exact c.putRStc_time _
  · split
    · exact c.putRStc_time _
    · split
      · exact c.putRStc_time _
      · rfl

theorem Chip.dropTrig_time (n : Nat) : (c.dropTrig n).time = c.time := by
  unfold Chip.dropTrig
  dsimp only
  split_ifs <;> rfl

theorem Chip.refuseAt_time : c.refuseAt.time = c.time := rfl

theorem Chip.failFold_time (code : Nat) : (c.failFold code).time = c.time := rfl

/-- The triggered starts of an alignment group are refused (R42). -/
def Chip.dropAlign (a : Nat) : Chip :=
  let c' := (c.setAlign a { c.align a with trigAt := none }).put (F.PRT_ALIGN_CTRL_go a) 0
  (((c'.alignLanes a).foldl Chip.dropTrig c').latch (F.PRT_ALIGN_CTRL_refused a)).raise Ev.PRT_REFUSED (locAlign a) 0

theorem Chip.dropAlign_time (a : Nat) : (c.dropAlign a).time = c.time := by
  unfold Chip.dropAlign
  dsimp only
  rw [Chip.raise_time, Chip.latch_time, foldl_time _ Chip.dropTrig_time]
  rfl

theorem Chip.refuseCarried_time (s : Step) (old new : Nat) : (c.refuseCarried s old new).time = c.time := by
  unfold Chip.refuseCarried
  extract_lets gone c1 c2 st
  have h1 : c1.time = c.time := by
    refine (foldl_time _ (g := fun d (_ : Commit) => d.refuseAt) (fun d _ => d.refuseAt_time) _).trans ?_
    rfl
  have h2 : c2.time = c1.time := by
    refine foldl_time c1 (fun d a => ?_) _
    dsimp only
    split
    · split
      · exact d.dropAlign_time a
      · rfl
    · rfl
  rw [← h1, ← h2]
  clear_value st c2
  split
  · exact c2.failFold_time 0x0D
  · rfl

/-- The instant that a load puts the count at, in root cycles. -/
def Chip.loadRoot : Nat := c.rd64 R.TIME_LOAD_LO R.TIME_LOAD_HI * rootPerTick + c.get F.TIME_LOAD_CTRL_frac

/-- The device with its count and its instants moved by a load (R42). -/
def Chip.recounted (whole : Bool) : Chip :=
  ((c.discardCapture c.time.stc).renumber ⟨Int.ofNat c.loadRoot - Int.ofNat c.now, whole⟩).setNow c.loadRoot

theorem Chip.applyLoad_eq (whole : Bool) : ∃ s : Step, c.applyLoad whole =
    (((c.recounted whole).moveRStc c.time.stc s).refuseCarried s c.time.stc (c.rd64 R.TIME_LOAD_LO R.TIME_LOAD_HI)).put F.TIME_LOAD_CTRL_go 0 :=
  ⟨⟨Int.ofNat c.loadRoot - Int.ofNat c.now, whole⟩, rfl⟩

/-- An applied load puts the count where its registers ask for. -/
theorem Chip.applyLoad_time (whole : Bool) (h : c.get F.TIME_LOAD_CTRL_frac < rootPerTick) :
    (c.applyLoad whole).time.stc = c.rd64 R.TIME_LOAD_LO R.TIME_LOAD_HI ∧
      (c.applyLoad whole).time.frac.val = c.get F.TIME_LOAD_CTRL_frac := by
  have hlt := c.rd64_lt R.TIME_LOAD_LO R.TIME_LOAD_HI
  obtain ⟨s, happly⟩ := c.applyLoad_eq whole
  have htime : (c.applyLoad whole).time = (c.recounted whole).time := by
    rw [happly, Chip.put_time, Chip.refuseCarried_time, Chip.moveRStc_time]
  rw [htime, Chip.recounted, Chip.setNow_stc, Chip.setNow_frac, Chip.loadRoot]
  generalize c.rd64 R.TIME_LOAD_LO R.TIME_LOAD_HI = new at hlt ⊢
  generalize c.get F.TIME_LOAD_CTRL_frac = frac at h ⊢
  simp only [rootPerTick] at h ⊢
  omega

theorem Chip.applyLoad_go (whole : Bool) : (c.applyLoad whole).bit F.TIME_LOAD_CTRL_go = false :=
  Chip.bit_put_self _ F.TIME_LOAD_CTRL_go (by decide) 0

theorem Chip.stcLoadApply_due (hg : c.bit F.TIME_LOAD_CTRL_go = true) (hb : c.atBoundary 192000 = true) (ht : c.time.loadAt < c.now)
    (hn : c.rd64 R.TIME_LOAD_LO R.TIME_LOAD_HI % 192000 = 0) (hf : c.get F.TIME_LOAD_CTRL_frac = 0) : c.stcLoadApply = c.applyLoad true := by
  unfold Chip.stcLoadApply
  rw [if_neg (by simp [hg, hb, ht])]
  exact if_pos ⟨hn, hf⟩

theorem Chip.w1c_moves (f : Fld) : ClockMoves [f] c (c.w1c f) := by
  unfold Chip.w1c
  split
  · exact (c.put_moves f 0).trans (.of_regs rfl rfl)
  · exact .of_regs rfl rfl

/-- The fields of a request to load, before it is judged. -/
def Chip.loadAsked (v : Word) : Chip :=
  let c1 := c.put F.TIME_LOAD_CTRL_frac (F.TIME_LOAD_CTRL_frac.of v)
  if F.TIME_LOAD_CTRL_refused.ofB v then c1.w1c F.TIME_LOAD_CTRL_refused else c1

theorem Chip.writeLoadCtrl_eq {v : Word} (hv : F.TIME_LOAD_CTRL_go.ofB v = true) (hg : c.bit F.TIME_LOAD_CTRL_go = false) :
    c.writeLoadCtrl v =
      if (c.loadAsked v).loadsNow then
        if ((c.loadAsked v).advance 8).get F.TIME_LOAD_CTRL_frac < rootPerTick then ((c.loadAsked v).advance 8).applyLoad false
        else ((c.loadAsked v).advance 8).refuseLoad
      else { (c.loadAsked v).put F.TIME_LOAD_CTRL_go 1 with time := { (c.loadAsked v).time with loadAt := (c.loadAsked v).now } } := by
  unfold Chip.writeLoadCtrl
  dsimp only
  rw [if_neg (by simp [hv, hg])]
  rfl

/-- What a request sets before it is judged. -/
def loadFlds : List Fld := [F.TIME_LOAD_CTRL_frac, F.TIME_LOAD_CTRL_refused]

theorem Chip.loadAsked_moves (v : Word) : ClockMoves loadFlds c (c.loadAsked v) := by
  unfold Chip.loadAsked
  dsimp only
  split
  · exact (c.put_moves _ _).append (Chip.w1c_moves _ _)
  · exact (c.put_moves _ _).mono (by decide)

theorem Chip.loadAsked_frac (v : Word) : (c.loadAsked v).get F.TIME_LOAD_CTRL_frac = F.TIME_LOAD_CTRL_frac.of v := by
  have hput : (c.put F.TIME_LOAD_CTRL_frac (F.TIME_LOAD_CTRL_frac.of v)).get F.TIME_LOAD_CTRL_frac = F.TIME_LOAD_CTRL_frac.of v :=
    (c.get_put_self _ (by decide) _).trans (Nat.mod_mod _ _)
  unfold Chip.loadAsked
  dsimp only
  split
  · exact ((Chip.w1c_moves _ _).get _ (by decide)).trans hput
  · exact hput

theorem Chip.loadAsked_time (v : Word) : (c.loadAsked v).time = c.time := by
  unfold Chip.loadAsked Chip.w1c
  dsimp only
  split
  · split <;> rfl
  · rfl

/-- A field of a register that `l` leaves alone. -/
theorem Fld.freeOf_of_addr {g : Fld} {l : List Fld} (hg : g.fits = true) (h : ∀ f ∈ l, g.addr ≠ f.addr) : g.freeOf l = true := by
  simp only [Fld.freeOf, Bool.and_eq_true, List.all_eq_true]
  exact ⟨hg, fun f hf => by simp [Fld.apart, h f hf]⟩

theorem loadFlds_addr : ∀ f ∈ loadFlds, f.addr = R.TIME_LOAD_CTRL := by decide

/-- Engines and clock groups decide whether a load acts at once. -/
theorem ClockMoves.loadsNow {c d : Chip} (h : ClockMoves loadFlds c d) : d.loadsNow = c.loadsNow := by
  have hget {g : Fld} (hg : g.fits = true) (ha : R.TIME_LOAD_CTRL < g.addr) : d.get g = c.get g :=
    h.get g (Fld.freeOf_of_addr hg fun f hf => by rw [loadFlds_addr f hf]; exact ha.ne')
  have hse (n : Nat) : d.seState n = c.seState n :=
    hget (g := F.SE_STAT_state n) rfl (by simp only [R.TIME_LOAD_CTRL, F.SE_STAT_state, R.SE_STAT]; omega)
  have hbit {g : Fld} (hg : g.fits = true) (ha : R.TIME_LOAD_CTRL < g.addr) : d.bit g = c.bit g := by
    simp only [Chip.bit, hget hg ha]
  have hen (g : Nat) : d.bit (F.PRT_GRP_CFG_en g) = c.bit (F.PRT_GRP_CFG_en g) :=
    hbit rfl (by simp only [R.TIME_LOAD_CTRL, F.PRT_GRP_CFG_en, R.PRT_GRP_CFG]; omega)
  have hhalt (g : Nat) : d.bit (F.PRT_GRP_STAT_halted g) = c.bit (F.PRT_GRP_STAT_halted g) :=
    hbit rfl (by simp only [R.TIME_LOAD_CTRL, F.PRT_GRP_STAT_halted, R.PRT_GRP_STAT]; omega)
  simp only [Chip.loadsNow, Chip.grpEn, Chip.halted, hse, hen, hhalt]

theorem Chip.writeLoadCtrl_now {v : Word} (hv : F.TIME_LOAD_CTRL_go.ofB v = true) (hg : c.bit F.TIME_LOAD_CTRL_go = false)
    (hn : c.loadsNow = true) (hf : F.TIME_LOAD_CTRL_frac.of v < rootPerTick) :
    (c.writeLoadCtrl v).time.stc = c.rd64 R.TIME_LOAD_LO R.TIME_LOAD_HI ∧
      (c.writeLoadCtrl v).time.frac.val = F.TIME_LOAD_CTRL_frac.of v := by
  have hadv := (c.loadAsked v).advance_moves 8
  have hfrac : ((c.loadAsked v).advance 8).get F.TIME_LOAD_CTRL_frac = F.TIME_LOAD_CTRL_frac.of v :=
    (hadv.get _ (by decide)).trans (c.loadAsked_frac v)
  have hm := (c.loadAsked_moves v).append hadv
  have hrd : ((c.loadAsked v).advance 8).rd64 R.TIME_LOAD_LO R.TIME_LOAD_HI = c.rd64 R.TIME_LOAD_LO R.TIME_LOAD_HI := by
    simp only [Chip.rd64, hm.rd (a := R.TIME_LOAD_LO) (by decide), hm.rd (a := R.TIME_LOAD_HI) (by decide)]
  rw [c.writeLoadCtrl_eq hv hg, if_pos ((c.loadAsked_moves v).loadsNow.trans hn), if_pos (hfrac ▸ hf), ← hrd, ← hfrac]
  exact Chip.applyLoad_time _ false (hfrac ▸ hf)

theorem Chip.writeLoadCtrl_later {v : Word} (hv : F.TIME_LOAD_CTRL_go.ofB v = true) (hg : c.bit F.TIME_LOAD_CTRL_go = false)
    (hn : c.loadsNow = false) : (c.writeLoadCtrl v).bit F.TIME_LOAD_CTRL_go = true ∧ (c.writeLoadCtrl v).time.loadAt = c.now := by
  have hlater : ¬ (c.loadAsked v).loadsNow = true := by simp [(c.loadAsked_moves v).loadsNow, hn]
  rw [c.writeLoadCtrl_eq hv hg, if_neg hlater]
  refine ⟨Chip.bit_put_self _ F.TIME_LOAD_CTRL_go (by decide) 1, ?_⟩
  simp only [Chip.now, c.loadAsked_time v]

end Sys2Proof.Machine

namespace Sys2Proof

open Sys2Proof.Machine

section

variable (s : State)

theorem exec_rootPllLock (n : Nat) : exec (.rootPllLock n) s = s.act fun c => c.pllLock n := rfl
theorem exec_frameBoundary : exec .frameBoundary s = s.act fun c => c.frameBoundary := rfl
theorem exec_superframeBoundary : exec .superframeBoundary s = s.act fun c => c.superframe := rfl
theorem exec_wholeSecond : exec .wholeSecond s = s.act fun c => c.wholeSecond := rfl
theorem exec_stcLoadRequest (r : Req) (v : Word) : exec (.stcLoadRequest r v) s =
    s.act fun c => c.guarded r R.TIME_LOAD_CTRL fun c => c.writeLoadCtrl v := rfl
theorem exec_stcLoadApply : exec .stcLoadApply s = s.act fun c => c.stcLoadApply := rfl

end

section

variable {s : State}

theorem rootPllLock_completes {n : Nat} : RowCompletes (.rootPllLock n) s := by
  intro h
  refine completes_act (exec_rootPllLock s n) ?_
  simp only [clockEffect]
  rw [Chip.settle_rootOn, Chip.settle_bit (f := F.CLK_STAT_locked) _ (by decide) (by decide), Chip.settle_shp, Chip.settle_stc, Chip.settle_frac]
  by_cases hst : s.chip.shp.stage = .t0
  · rw [s.chip.pllLock_powerOn n hst]
    refine ⟨?_, ?_, fun _ => rfl, fun hne => absurd hst hne⟩
    · exact (congrArg TimeSt.rootOn (Chip.renewOvertemp_time _) :)
    · exact ((Chip.renewOvertemp_moves _).bit (by decide)).trans (Chip.rootLocks_locked _)
  · simp only [clockReady, hst, decide_false, Bool.false_or, Bool.and_eq_true, decide_eq_true_eq, Bool.not_eq_true'] at h
    obtain ⟨hs, hr⟩ := h
    rw [s.chip.pllLock_wake n hst hs hr]
    have htime : (s.chip.woken n).wakeDisc.renewOvertemp.time = { (s.chip.woken n).time with holdAt := (s.chip.woken n).now } :=
      (Chip.renewOvertemp_time _).trans (Chip.wakeDisc_time _)
    rw [htime, (Chip.renewOvertemp_moves _).bit (by decide), Chip.wakeDisc_locked]
    exact ⟨rfl, s.chip.woken_locked n, fun h0 => absurd h0 hst, fun _ => ⟨rfl, rfl⟩⟩

theorem frameBoundary_completes : RowCompletes .frameBoundary s := by
  intro h
  simp only [clockReady, Bool.and_eq_true, decide_eq_true_eq] at h
  obtain ⟨hrun, hlt⟩ := h
  refine completes_act (exec_frameBoundary s) ?_
  simp only [clockEffect]
  rw [Chip.settle_stc, Chip.settle_frac, s.chip.frameBoundary_time hrun]
  exact s.chip.endFrames_boundary hlt

theorem superframeBoundary_completes : RowCompletes .superframeBoundary s := by
  intro h
  simp only [clockReady, Bool.and_eq_true, decide_eq_true_eq] at h
  obtain ⟨hb, hd⟩ := h
  refine completes_act (exec_superframeBoundary s) ?_
  simp only [clockEffect]
  rw [Chip.settle_lnk]
  exact s.chip.superframe_due hb hd

theorem wholeSecond_completes (hs : safe s = true) : RowCompletes .wholeSecond s := by
  intro h
  simp only [clockReady, Bool.and_eq_true, Bool.not_eq_true'] at h
  obtain ⟨hb, hr⟩ := h
  obtain ⟨hpa, hair, -, -⟩ := safe_parts hs
  obtain ⟨hpa', hair'⟩ := s.chip.airCleared_safe hpa hair
  refine completes_act (exec_wholeSecond s) ?_
  simp only [clockEffect]
  rw [s.chip.wholeSecond_due hair hb hr, Chip.settle_get_of _ hpa' hair' (by decide)]
  exact Chip.get_put_self (s.chip.levelOff Ev.RF_AIRTIME locNone) F.GUARD_AIR_CNT_count (by decide) 0

theorem stcLoadRequest_completes {r : Req} {v : Word} : RowCompletes (.stcLoadRequest r v) s := by
  intro h
  simp only [clockReady, Bool.and_eq_true, Bool.not_eq_true', Bool.or_eq_true, decide_eq_true_eq] at h
  obtain ⟨⟨⟨hacc, hv⟩, hg⟩, hfrac⟩ := h
  refine completes_act (exec_stcLoadRequest s r v) ?_
  simp only [clockEffect]
  rw [s.chip.guarded_accepted hacc, Chip.settle_stc, Chip.settle_frac, Chip.settle_loadAt,
    Chip.settle_bit (f := F.TIME_LOAD_CTRL_go) _ (by decide) (by decide)]
  split
  next hn =>
    have hlt : F.TIME_LOAD_CTRL_frac.of v < rootPerTick := hfrac.resolve_left (by simp [hn])
    exact s.chip.writeLoadCtrl_now hv hg hn hlt
  next hn => exact s.chip.writeLoadCtrl_later hv hg (Bool.eq_false_of_not_eq_true hn)

theorem stcLoadApply_completes : RowCompletes .stcLoadApply s := by
  intro h
  simp only [clockReady, Bool.and_eq_true, decide_eq_true_eq] at h
  obtain ⟨⟨⟨⟨hg, hb⟩, ht⟩, hn⟩, hf⟩ := h
  obtain ⟨hstc, hfrac⟩ := s.chip.applyLoad_time true (by rw [hf]; decide)
  refine completes_act (exec_stcLoadApply s) ?_
  simp only [clockEffect]
  rw [s.chip.stcLoadApply_due hg hb ht hn hf, Chip.settle_stc, Chip.settle_frac,
    Chip.settle_bit (f := F.TIME_LOAD_CTRL_go) _ (by decide) (by decide)]
  exact ⟨hstc, hfrac.trans hf, s.chip.applyLoad_go true⟩

end

/-- Settles O25: each row that is ready completes with its effect. -/
theorem clockRowsComplete : Obligations.ClockRowsComplete := by
  intro i s hs hready
  have h := hready
  unfold clockReady at h
  split at h
  next => exact rootPllLock_completes hready
  next => exact clkUnlock_completes hready
  next => exact rootPllRelock_completes hready
  next => exact steeringStep_completes hready
  next => exact sourceSelection_completes hready
  next => exact clkPerrSatWrite_completes hready
  next => exact satTimeout_completes hready
  next => exact linkTimeout_completes hready
  next => exact tmarkTimeout_completes hready
  next => exact holdLimit_completes hready
  next => exact loopEnable_completes hready
  next => exact frameBoundary_completes hready
  next => exact superframeBoundary_completes hready
  next => exact wholeSecond_completes hs hready
  next => exact stcSnapshot_completes hready
  next => exact stcLoadRequest_completes hready
  next => exact stcLoadApply_completes hready
  next => exact tpApplyRequest_completes hready
  next => exact tpConfigApply_row hready
  next => exact timePulseStart_completes hready
  next => exact timePulseEnd_completes hready
  next => exact tmarkEdge_completes hready
  next => exact tmarkCapRead_completes hready
  next => cases h

end Sys2Proof
end

section
/-! PROOFS. What a row can change at all: some parts of the device and some registers, and beside them what its end routes and counts. -/

-- One theorem at a time: many at once, each with a thread of its own, do not fit in memory.
set_option Elab.async false

namespace Sys2Proof

open Sys2Proof.Machine

/-! ## Parts and pages -/

theorem Part.same_refl (p : Part) (c : Chip) : p.same c c := by cases p <;> rfl

theorem Part.same_trans {c d e : Chip} (p : Part) (h : p.same c d) (k : p.same d e) : p.same c e := by
  cases p
  case crook => simp only [Part.same] at *; rw [k, h]
  case rf => simp only [Part.same, sameRf] at *; rw [k, h]
  case pwr => simp only [Part.same] at *; rw [k, h]
  all_goals exact Eq.trans k h

/-- The registers of some pages. -/
def onPages (l : List Page) (a : Nat) : Bool := l.any fun g => g.has a

theorem onPages_mono {l m : List Page} (h : l ⊆ m) (a : Nat) (ha : onPages l a = true) : onPages m a = true := by
  simp only [onPages, List.any_eq_true] at ha ⊢
  obtain ⟨g, hg, hin⟩ := ha
  exact ⟨g, h hg, hin⟩

end Sys2Proof

namespace Sys2Proof.Machine

/-! ## The relation -/

/-- From `c` to `d` no part outside `ps` changes, no register outside `own` but the sleep timer's count, which moves with time, and the
transmitter only where `ps` names it. -/
structure Touches (ps : List Part) (own : Nat → Bool) (c d : Chip) : Prop where
  same : ∀ p, p ∉ ps → p.same c d
  rf : Part.rf ∉ ps → d.rf = c.rf
  rd : ∀ a, own a = false → a ≠ R.PWR_TMR → d.rd a = c.rd a

namespace Touches

theorem refl (ps : List Part) (own : Nat → Bool) (c : Chip) : Touches ps own c c :=
  ⟨fun p _ => p.same_refl c, fun _ => rfl, fun _ _ _ => rfl⟩

variable {c d e : Chip} {ps qs : List Part} {own own' : Nat → Bool}

theorem trans (h : Touches ps own c d) (k : Touches ps own d e) : Touches ps own c e :=
  ⟨fun p hp => p.same_trans (h.same p hp) (k.same p hp), fun hp => (k.rf hp).trans (h.rf hp),
    fun a ha ht => (k.rd a ha ht).trans (h.rd a ha ht)⟩

theorem mono (h : Touches ps own c d) (hp : ps ⊆ qs) (ho : ∀ a, own a = true → own' a = true) : Touches qs own' c d :=
  ⟨fun p hq => h.same p fun hin => hq (hp hin), fun hq => h.rf fun hin => hq (hp hin),
    fun a ha ht => h.rd a (Bool.eq_false_iff.mpr fun hown => by simp [ho a hown] at ha) ht⟩

/-- What touches no more than named may be followed by what touches less. -/
theorem andThen {l m : List Page} (h : Touches ps (onPages m) c d) (k : Touches qs (onPages l) d e) (hp : qs ⊆ ps := by decide)
    (hl : l ⊆ m := by decide) : Touches ps (onPages m) c e :=
  h.trans (k.mono hp (onPages_mono hl))

theorem foldl {α : Type} {g : Chip → α → Chip} {l : List α} (h : Touches ps own c d) (hg : ∀ x ∈ l, ∀ e, Touches ps own e (g e x)) :
    Touches ps own c (l.foldl g d) :=
  List.foldlRecOn (motive := fun e => Touches ps own c e) l g h fun e he x hx => he.trans (hg x hx e)

/-! ### Registers -/

theorem wr (h : Touches ps own c d) {a : Nat} {v : Word} (ha : own a = true := by decide) : Touches ps own c (d.wr a v) :=
  h.trans ⟨fun p _ => by cases p <;> rfl, fun _ => rfl, fun b hb _ => d.rd_wr_ne (by rintro rfl; simp [ha] at hb) v⟩

theorem put (h : Touches ps own c d) {f : Fld} {v : Nat} (ha : own f.addr = true := by decide) : Touches ps own c (d.put f v) := h.wr ha

theorem putB (h : Touches ps own c d) {f : Fld} {b : Bool} (ha : own f.addr = true := by decide) : Touches ps own c (d.putB f b) := h.wr ha

theorem incr (h : Touches ps own c d) {f : Fld} (ha : own f.addr = true := by decide) : Touches ps own c (d.incr f) := h.wr ha

/-- A change of the event fabric, of the record of R7 and of the free values drawn. -/
theorem aside (h : Touches ps own c d) (evt : EvtSt) (fresh : Fresh) (free : Nat) :
    Touches ps own c { d with evt := evt, fresh := fresh, free := free } :=
  h.trans ⟨fun p _ => by cases p <;> rfl, fun _ => rfl, fun _ _ _ => rfl⟩

theorem latch (h : Touches ps own c d) {f : Fld} (ha : own f.addr = true := by decide) : Touches ps own c (d.latch f) :=
  (h.put ha).aside _ _ _

theorem rcChange (h : Touches ps own c d) {f : Fld} {g : Nat → Nat} (ha : own f.addr = true := by decide) :
    Touches ps own c (d.rcChange f g) :=
  (h.put ha).aside _ _ _

theorem bump (h : Touches ps own c d) {f : Fld} (ha : own f.addr = true := by decide) : Touches ps own c (d.bump f) := h.rcChange ha

theorem w1c (h : Touches ps own c d) {f : Fld} (ha : own f.addr = true := by decide) : Touches ps own c (d.w1c f) := by
  unfold Chip.w1c
  split
  · exact (h.put ha).aside _ _ _
  · exact h.aside _ _ _

theorem plainWrite (h : Touches ps own c d) {a : Nat} {v : Word} (ha : own (regCanon a) = true := by decide) :
    Touches ps own c (d.plainWrite a v) := by
  unfold Chip.plainWrite
  split
  · exact (h.wr ha).aside _ _ _
  · exact h

/-! ### Events, free values and time -/

theorem raise (h : Touches ps own c d) {id : Nat} {loc arg : Word} : Touches ps own c (d.raise id loc arg) := h.aside _ _ _

theorem levelOn (h : Touches ps own c d) {id : Nat} {loc arg : Word} : Touches ps own c (d.levelOn id loc arg) := by
  unfold Chip.levelOn
  split
  · exact h
  · exact h.aside _ _ _

theorem levelOff (h : Touches ps own c d) {id : Nat} {loc : Word} : Touches ps own c (d.levelOff id loc) := by
  unfold Chip.levelOff
  split
  · exact h
  · exact h.aside _ _ _

theorem advance (h : Touches ps own c d) {n : Nat} (hp : .time ∈ ps := by decide) : Touches ps own c (d.advance n) := by
  refine h.trans ⟨fun p hq => ?_, fun _ => rfl, fun a _ ha => d.rd_wr_ne ha _⟩
  cases p
  case time => exact absurd hp hq
  all_goals rfl

theorem advanceTo (h : Touches ps own c d) {n : Nat} (hp : .time ∈ ps := by decide) : Touches ps own c (d.advanceTo n) := by
  unfold Chip.advanceTo
  split
  · exact h.advance hp
  · exact h

/-! ### Parts -/

/-- A change of one part alone. -/
theorem set (h : Touches ps own c d) {p : Part} (hp : p ∈ ps) (hs : ∀ q, q ≠ p → q.same d e) (hf : p ≠ .rf → e.rf = d.rf)
    (hr : e.regs = d.regs) : Touches ps own c e :=
  h.trans ⟨fun q hq => hs q fun he => hq (he ▸ hp), fun hq => hf fun he => hq (he ▸ hp), fun a _ _ => Chip.rd_congr hr a⟩

theorem fold (h : Touches ps own c d) {x : FoldSt} (hp : .fold ∈ ps := by decide) : Touches ps own c { d with fold := x } :=
  h.set hp (fun q hq => by cases q <;> trivial) (fun _ => rfl) rfl
theorem eng (h : Touches ps own c d) {x : KMap Eng} (hp : .eng ∈ ps := by decide) : Touches ps own c { d with eng := x } :=
  h.set hp (fun q hq => by cases q <;> trivial) (fun _ => rfl) rfl
theorem rot (h : Touches ps own c d) {x : RotSt} (hp : .rot ∈ ps := by decide) : Touches ps own c { d with rot := x } :=
  h.set hp (fun q hq => by cases q <;> trivial) (fun _ => rfl) rfl
theorem pas (h : Touches ps own c d) {x : PasSt} (hp : .pas ∈ ps := by decide) : Touches ps own c { d with pas := x } :=
  h.set hp (fun q hq => by cases q <;> trivial) (fun _ => rfl) rfl
theorem co (h : Touches ps own c d) {x : CoSt} (hp : .co ∈ ps := by decide) : Touches ps own c { d with co := x } :=
  h.set hp (fun q hq => by cases q <;> trivial) (fun _ => rfl) rfl
theorem guard (h : Touches ps own c d) {x : GuardSt} (hp : .guard ∈ ps := by decide) : Touches ps own c { d with guard := x } :=
  h.set hp (fun q hq => by cases q <;> trivial) (fun _ => rfl) rfl
theorem prt (h : Touches ps own c d) {x : PrtSt} (hp : .prt ∈ ps := by decide) : Touches ps own c { d with prt := x } :=
  h.set hp (fun q hq => by cases q <;> trivial) (fun _ => rfl) rfl
theorem bst (h : Touches ps own c d) {x : BstSt} (hp : .bst ∈ ps := by decide) : Touches ps own c { d with bst := x } :=
  h.set hp (fun q hq => by cases q <;> trivial) (fun _ => rfl) rfl
theorem dma (h : Touches ps own c d) {x : DmaSt} (hp : .dma ∈ ps := by decide) : Touches ps own c { d with dma := x } :=
  h.set hp (fun q hq => by cases q <;> trivial) (fun _ => rfl) rfl
theorem rfSt (h : Touches ps own c d) {x : RfSt} (hp : .rf ∈ ps := by decide) : Touches ps own c { d with rf := x } :=
  h.set hp (fun q hq => by cases q <;> trivial) (fun hq => absurd rfl hq) rfl
theorem gn (h : Touches ps own c d) {x : GnSt} (hp : .gn ∈ ps := by decide) : Touches ps own c { d with gn := x } :=
  h.set hp (fun q hq => by cases q <;> trivial) (fun _ => rfl) rfl
theorem lnk (h : Touches ps own c d) {x : LnkSt} (hp : .lnk ∈ ps := by decide) : Touches ps own c { d with lnk := x } :=
  h.set hp (fun q hq => by cases q <;> trivial) (fun _ => rfl) rfl
theorem ret (h : Touches ps own c d) {x : Mem} (hp : .ret ∈ ps := by decide) : Touches ps own c { d with ret := x } :=
  h.set hp (fun q hq => by cases q <;> trivial) (fun _ => rfl) rfl
theorem mem (h : Touches ps own c d) {x : Mem} (hp : .mem ∈ ps := by decide) : Touches ps own c { d with mem := x } :=
  h.set hp (fun q hq => by cases q <;> trivial) (fun _ => rfl) rfl

theorem setEngine (h : Touches ps own c d) {n : Nat} {x : Eng} (hp : .eng ∈ ps := by decide) : Touches ps own c (d.setEngine n x) := h.eng hp
theorem setFold (h : Touches ps own c d) {f : FoldSt → FoldSt} (hp : .fold ∈ ps := by decide) : Touches ps own c (d.setFold f) := h.fold hp
theorem setPas (h : Touches ps own c d) {f : PasSt → PasSt} (hp : .pas ∈ ps := by decide) : Touches ps own c (d.setPas f) := h.pas hp
theorem setCo (h : Touches ps own c d) {f : CoSt → CoSt} (hp : .co ∈ ps := by decide) : Touches ps own c (d.setCo f) := h.co hp
theorem setBst (h : Touches ps own c d) {f : BstSt → BstSt} (hp : .bst ∈ ps := by decide) : Touches ps own c (d.setBst f) := h.bst hp

end Touches

/-! ### Accesses -/

/-- A write that is refused is reported; one that is accepted does what it does. -/
theorem Touches.guarded {ps : List Part} {own : Nat → Bool} {c : Chip} {r : Req} {a : Nat} {f : Chip → Chip}
    (hf : Touches ps own c (f c)) (ha : within a 0x20000000 0x2010FFFF = false := by decide) : Touches ps own c (c.guarded r a f) := by
  unfold Chip.guarded
  split
  · exact hf
  · have hs : c.storeRefused true a = none := by simp [Chip.storeRefused, ha]
    simp only [Chip.refused, hs]
    exact (Touches.refl ps own c).raise
  · exact .refl ps own c

/-! ## The end of a command -/

variable (c : Chip)

/-- Where the PA may stay as it is, the end of a command changes no more of the transmitter than the slot units counted. -/
theorem Chip.settle_counts (hp : Sys2Proof.paSafe c = true) : c.settle.rf = { c.rf with counted := c.settle.rf.counted } := by
  have hheld : c.paHeld = c.flush.countAir := Chip.holdPa_id _ (by rw [Chip.countAir_paSafe, Chip.flush_paSafe, hp])
  have hrf : c.settle.rf = c.flush.countAir.rf := by rw [c.settle_eq, Chip.endHeldPulse_rf, Chip.endHeldPulse_rf, hheld]
  have hcount := c.flush.countAir_rf
  rw [c.flush_rf] at hcount
  rw [hrf]
  exact hcount

/-- The end of a command changes no part of the device but for the transmitter. -/
theorem Part.same_settle {p : Part} (hp : p ≠ .rf) : p.same c c.settle := by
  cases p
  case rf => exact absurd rfl hp
  all_goals simp [Part.same]

/-- A command that touches parts and pages, none of which permits the PA or is the transmitter, keeps all but them. -/
theorem Touches.keepsAllBut {s : State} {d : Chip} {ps : List Part} {pages : List Page} (h : Touches ps (onPages pages) s.chip d)
    (hs : Sys2Proof.safe s = true) (hpermit : ∀ a ∈ permitRegs, onPages pages a = false) (hrf : Part.rf ∉ ps) :
    KeepsAllBut ps pages s.chip d.settle := by
  have hsafe : Sys2Proof.paSafe d = true := by
    rw [paSafe_congr (fun a ha => h.rd a (hpermit a ha) (by rintro rfl; revert ha; decide)) (congrArg RfSt.keyed (h.rf hrf))
      (congrArg RfSt.cal (h.rf hrf))]
    exact (safe_parts hs).1
  refine ⟨fun p hp => ?_, fun a ha hevt htmr hair htx hwake hstat => ?_⟩
  · by_cases hprf : p = .rf
    · subst hprf
      exact (d.settle_counts hsafe).trans (by rw [h.rf hrf])
    · exact p.same_trans (h.same p hp) (Part.same_settle d hprf)
  · have hhold : holdReg a = false := by simp [holdReg, hair, htx, hwake, hstat]
    exact (d.settle_rd (flushReg_of_outside hevt) hhold).trans (h.rd a ha htmr)

end Sys2Proof.Machine
end

section
/-! PROOFS. What the rows of folds, of engine control and of rotation touch. -/

-- One theorem at a time: many at once, each with a thread of its own, do not fit in memory.
set_option Elab.async false

namespace Sys2Proof.Machine

variable (c : Chip)

/-! ## Loads of a fold (chapter 03) -/

theorem Chip.copyBundle_touches : Touches [.fold] (onPages []) c c.copyBundle := by
  unfold Chip.copyBundle
  exact (Touches.refl _ _ c).setFold

theorem Chip.writeFoldCtrl_touches (v : Word) : Touches [.fold] (onPages [.fold]) c (c.writeFoldCtrl v) := by
  have h0 : Touches [.fold] (onPages [.fold]) c (if F.FOLD_CTRL_rej.ofB v then c.w1c F.FOLD_CTRL_rej else c) := by
    split
    · exact (Touches.refl _ _ c).w1c
    · exact .refl _ _ c
  unfold Chip.writeFoldCtrl
  extract_lets c0 c1
  have h1 : Touches [.fold] (onPages [.fold]) c c1 := h0.put.put
  split_ifs
  · exact h1
  · exact h1.latch
  · exact (h1.put.put.andThen (Chip.copyBundle_touches _)).setFold

theorem Chip.foldResult_touches (e : FoldErr) : Touches [] (onPages [.fold]) c (c.foldResult e) := (Touches.refl _ _ c).put.put.put

theorem Chip.failFold_touches (code : Nat) : Touches [] (onPages [.fold]) c (c.failFold code) :=
  (Touches.refl _ _ c).put.put.put.put.put.raise

theorem Chip.foldWaits_touches (f : Fold) (b : Nat) : Touches [.fold] (onPages [.fold]) c (c.foldWaits f b) :=
  ((Touches.refl _ _ c).andThen (c.foldResult_touches _)).put.setFold

/-- A load's checks end on the device `c1` that has recorded the code for SHP_BOOT_ERR.last. -/
def Chip.checksEnd (c1 : Chip) : Except FoldErr (Fold × List Nat) → Chip
  | .error e => (((c1.foldResult e).put F.FOLD_STAT_state 0).put F.FOLD_CTRL_go 0).raise Ev.FOLD_ERR locNone 0
  | .ok (f, img) =>
    let c2 := c1.setFold fun s => { s with buf := img.map (BitVec.ofNat 8) }
    if !c2.fold.atTime then c2.foldWaits f c2.nextSuperframe
    else if c2.fold.at_ % 384 ≠ 0 ∨ c2.fold.at_ * rootPerTick ≤ c2.now then c2.failFold 0x0D
    else c2.foldWaits f c2.fold.at_

/-- The code that SHP_BOOT_ERR.last takes, where one applies (R392). -/
def Chip.putLast : Option Nat → Chip
  | some e => c.put F.SHP_BOOT_ERR_last e
  | none => c

theorem Chip.foldChecksEnd_eq : c.foldChecksEnd =
    if c.get F.FOLD_STAT_state ≠ 1 || c.fold.startLoad then c else (c.putLast c.refoldCheck.2).checksEnd c.refoldCheck.1 := rfl

theorem Chip.putLast_touches (last : Option Nat) : Touches [] (onPages [.shp]) c (c.putLast last) := by
  unfold Chip.putLast
  split
  · exact (Touches.refl _ _ c).put
  · exact .refl _ _ c

theorem Chip.checksEnd_touches (res : Except FoldErr (Fold × List Nat)) : Touches [.fold] (onPages [.fold]) c (c.checksEnd res) := by
  unfold Chip.checksEnd
  split
  · exact ((Touches.refl _ _ c).andThen (Chip.foldResult_touches _ _)).put.put.raise
  · extract_lets c2
    have h2 : Touches [.fold] (onPages [.fold]) c c2 := (Touches.refl _ _ c).setFold
    split_ifs
    · exact h2.andThen (Chip.foldWaits_touches _ _ _)
    · exact h2.andThen (Chip.failFold_touches _ _)
    · exact h2.andThen (Chip.foldWaits_touches _ _ _)

theorem Chip.foldChecksEnd_touches : Touches [.fold] (onPages [.fold, .shp]) c c.foldChecksEnd := by
  rw [c.foldChecksEnd_eq]
  split
  · exact .refl _ _ c
  · exact ((Touches.refl _ _ c).andThen (c.putLast_touches _)).andThen (Chip.checksEnd_touches _ _)

theorem Chip.foldZeroingEnd_touches : Touches [.time, .fold, .pas] (onPages []) c c.foldZeroingEnd := by
  unfold Chip.foldZeroingEnd
  split
  · exact .refl _ _ c
  · exact (Touches.refl _ _ c).advanceTo.setFold.setPas

/-! ## Control of the engines (chapter 04) -/

theorem inSe.on {a : Nat} {l : List Page} (h : inSe a) (hl : .se ∈ l := by decide) : onPages l a = true := by
  simp only [onPages, List.any_eq_true]
  exact ⟨.se, hl, by simpa [Page.has, within, inSe] using h⟩

theorem Chip.cancelHandover_touches (r : Nat) : Touches [.rot] (onPages []) c (c.cancelHandover r) := by
  unfold Chip.cancelHandover
  split
  · split
    · exact (Touches.refl _ _ c).rot
    · exact .refl _ _ c
  · exact .refl _ _ c

section

variable {n : Nat} (hn : n < 17)

include hn

theorem Chip.askRoleStop_touches : Touches [.rot, .eng] (onPages [.se]) c (c.askRoleStop n) := by
  have hctrl : onPages [.se] (F.SE_CTRL_stop_req n).addr = true := (inSe_ctrl hn).on
  unfold Chip.askRoleStop
  split
  · exact (Touches.refl _ _ c).latch (inSe_stat hn).on
  · split_ifs
    · exact (Touches.refl _ _ c).setEngine.put hctrl
    · exact .refl _ _ c
    · exact ((Touches.refl _ _ c).setEngine.put hctrl).andThen (Chip.cancelHandover_touches _ _)
    · exact ((Touches.refl _ _ c).put hctrl).andThen (Chip.cancelHandover_touches _ _)

theorem Chip.askRoleRun_touches : Touches [.eng] (onPages [.se]) c (c.askRoleRun n) := by
  unfold Chip.askRoleRun
  split
  · exact (Touches.refl _ _ c).latch (inSe_stat hn).on
  · split
    · exact .refl _ _ c
    · exact ((Touches.refl _ _ c).setEngine.put (inSe_ctrl hn).on).put (inSe_stat hn).on

theorem Chip.askClear_touches : Touches [] (onPages [.se]) c (c.askClear n) := by
  unfold Chip.askClear
  split
  · exact (Touches.refl _ _ c).put (inSe_ctrl hn).on
  · exact (Touches.refl _ _ c).latch (inSe_stat hn).on

theorem Chip.writeSeCtrl_touches (v : Word) : Touches [.rot, .eng] (onPages [.se]) c (c.writeSeCtrl n v) := by
  unfold Chip.writeSeCtrl
  extract_lets c0 c1 c2
  have h0 : Touches [.rot, .eng] (onPages [.se]) c c0 := (Touches.refl _ _ c).put (inSe_ctrl hn).on
  have h1 : Touches [.rot, .eng] (onPages [.se]) c c1 := by
    unfold c1
    split
    · exact h0.andThen (Chip.askRoleRun_touches _ hn)
    · exact h0
  have h2 : Touches [.rot, .eng] (onPages [.se]) c c2 := by
    unfold c2
    split
    · exact h1.andThen (Chip.askRoleStop_touches _ hn)
    · exact h1
  split
  · exact h2.andThen (Chip.askClear_touches _ hn)
  · exact h2

theorem Chip.clearDone_touches : Touches [.eng] (onPages [.se]) c (c.clearDone n) := by
  unfold Chip.clearDone
  split
  · exact .refl _ _ c
  · exact (Touches.refl _ _ c).setEngine.put (inSe_ctrl hn).on

theorem Chip.roleStart_touches : Touches [.eng] (onPages [.se]) c (c.roleStart n) := by
  unfold Chip.roleStart
  dsimp only
  split
  · exact .refl _ _ c
  · exact ((Touches.refl _ _ c).setEngine.put (inSe_stat hn).on).put (inSe_ctrl hn).on

theorem Chip.roleStop_touches : Touches [.eng] (onPages [.se]) c (c.roleStop n) := by
  unfold Chip.roleStop
  dsimp only
  split
  · exact .refl _ _ c
  · exact (((Touches.refl _ _ c).setEngine.put (inSe_stat hn).on).put (inSe_ctrl hn).on).put (inSe_ctrl hn).on

theorem Chip.noteCycle_touches (k : Nat) : Touches [] (onPages [.se]) c (c.noteCycle n k) :=
  ((Touches.refl _ _ c).put (inSe_cyc hn).on).rcChange (inSe_cyc hn).on

theorem Chip.overrun_touches (k : Nat) (loc : Word) : Touches [.eng] (onPages [.se]) c (c.overrun n k loc) :=
  ((((Touches.refl _ _ c).setEngine.andThen (Chip.noteCycle_touches _ hn k)).latch (inSe_fault hn).on).bump (inSe_ovrCnt hn).on).raise

theorem Chip.forceEnd_touches : Touches [.time, .rot, .eng] (onPages [.se]) c (c.forceEnd n) := by
  rw [c.forceEnd_eq]
  split
  · exact .refl _ _ c
  · extract_lets d
    have hd : Touches [.time, .rot, .eng] (onPages [.se]) c d :=
      (Touches.refl _ _ c).advanceTo.andThen (Chip.overrun_touches _ hn _ _)
    split
    · exact hd.andThen (Chip.askRoleStop_touches _ hn)
    · exact hd

end

/-! ## Rotation of the engines (chapter 04) -/

theorem Chip.rotationDue_touches : Touches [.rot] (onPages [.se]) c c.rotationDue := by
  unfold Chip.rotationDue
  dsimp only
  split
  · exact .refl _ _ c
  · split
    · split
      · exact (Touches.refl _ _ c).rot.put.put.put
      · exact .refl _ _ c
    · exact .refl _ _ c

theorem Chip.programCopy_touches : Touches [.mem] (onPages [.se]) c c.programCopy := by
  unfold Chip.programCopy
  split
  next r e s h _ =>
    dsimp only
    split
    · exact .refl _ _ c
    · exact ((Touches.refl _ _ c).mem.put (inSe_stat s.isLt).on).put
  next => exact .refl _ _ c

theorem Chip.scratchMirror_touches : Touches [.eng] (onPages [.se]) c c.scratchMirror := by
  unfold Chip.scratchMirror
  split
  · dsimp only
    split
    · exact .refl _ _ c
    · exact (Touches.refl _ _ c).setEngine.put
  · exact .refl _ _ c

theorem Chip.stateCopy_touches : Touches [.time, .rot, .eng] (onPages [.se]) c c.stateCopy := by
  unfold Chip.stateCopy
  split
  next r e s h _ =>
    dsimp only
    split
    · exact .refl _ _ c
    · exact (c.forceEnd_touches e.isLt).advanceTo.setEngine.setEngine
  next => exact .refl _ _ c

theorem Chip.twinStart_touches : Touches [.rot, .eng] (onPages [.se]) c c.twinStart := by
  unfold Chip.twinStart
  split
  next r e s h _ =>
    dsimp only
    split
    · exact .refl _ _ c
    · exact ((Touches.refl _ _ c).setEngine.rot.put (inSe_stat s.isLt).on).put
  next => exact .refl _ _ c

theorem Chip.twinCompare_touches : Touches [.time, .rot, .eng] (onPages [.se]) c c.twinCompare := by
  unfold Chip.twinCompare
  split
  next r e s h _ =>
    have hend : Touches [.time, .rot, .eng] (onPages [.se]) c ((c.forceEnd e).forceEnd s) :=
      (c.forceEnd_touches e.isLt).trans (Chip.forceEnd_touches _ s.isLt)
    dsimp only
    split
    · exact .refl _ _ c
    · split
      · exact hend.advanceTo.setEngine.setEngine.rot
      · exact ((hend.advanceTo.setEngine.setEngine.rot.wr.rot.latch (inSe_fault e.isLt).on).latch (inSe_fault s.isLt).on).raise.raise
  next => exact .refl _ _ c

end Sys2Proof.Machine
end

section
/-! PROOFS. What the rows of tests, of the pasture and of the coefficient store touch. -/

-- One theorem at a time: many at once, each with a thread of its own, do not fit in memory.
set_option Elab.async false

namespace Sys2Proof.Machine

variable (c : Chip)

/-! ## Registers that stand several times -/

theorem within_iff {a lo hi : Nat} : within a lo hi = true ↔ lo ≤ a ∧ a ≤ hi := by
  simp only [within, Bool.and_eq_true, decide_eq_true_eq]

theorem within_of_lt {a lo hi : Nat} (h : hi < a) : within a lo hi = false :=
  Bool.eq_false_iff.mpr fun hin => absurd (within_iff.mp hin).2 (Nat.not_le.mpr h)

theorem onPages_of_has {g : Page} {l : List Page} {a : Nat} (h : g.has a = true) (hl : g ∈ l := by decide) : onPages l a = true :=
  List.any_eq_true.mpr ⟨g, hl, h⟩

section

variable {n : Nat}

theorem foldEngine_has (hn : n < 17) : Page.fold.has (R.FOLD_ENGINE n) = true := within_iff.mpr (by unfold R.FOLD_ENGINE; omega)
theorem foldBank_has (hn : n < 49) : Page.fold.has (R.FOLD_BANK n) = true := within_iff.mpr (by unfold R.FOLD_BANK; omega)
theorem ringCtrl_has (hn : n < 32) : Page.dma.has (R.DMA_RING_CTRL n) = true := within_iff.mpr (by unfold R.DMA_RING_CTRL; omega)
theorem ringStat_has (hn : n < 32) : Page.dma.has (R.DMA_RING_STAT n) = true := within_iff.mpr (by unfold R.DMA_RING_STAT; omega)
theorem acqResA_has (hn : n < 16) : Page.gn.has (R.GN_ACQ_RES_A n) = true := within_iff.mpr (by unfold R.GN_ACQ_RES_A; omega)
theorem acqResB_has (hn : n < 16) : Page.gn.has (R.GN_ACQ_RES_B n) = true := within_iff.mpr (by unfold R.GN_ACQ_RES_B; omega)

end

theorem resultA_has (u : TestUnit) : Page.bst.has (resultA u) = true := by
  cases u with
  | engine n => exact within_iff.mpr (by simp only [resultA, R.BST_ENG_A]; omega)
  | bank b => exact within_iff.mpr (by simp only [resultA, R.BST_BANK_A]; omega)

theorem resultB_has (u : TestUnit) : Page.bst.has (resultB u) = true := by
  cases u with
  | engine n => exact within_iff.mpr (by simp only [resultB, R.BST_ENG_B]; omega)
  | bank b => exact within_iff.mpr (by simp only [resultB, R.BST_BANK_B]; omega)

/-! ## Tests (chapter 17) -/

/-- The part that a test of a unit scrambles. -/
def testedParts : TestUnit → List Part
  | .engine _ => [.eng, .mem]
  | .bank _ => [.pas]

theorem Chip.scramble_touches (u : TestUnit) : Touches (testedParts u) (onPages []) c (c.scramble u) := by
  cases u with
  | engine n => exact ((Touches.refl [.eng, .mem] (onPages []) c).aside c.evt c.fresh _).setEngine.mem
  | bank b => exact ((Touches.refl [.pas] (onPages []) c).aside c.evt c.fresh _).pas

theorem Chip.startTest_touches (u : TestUnit) (src : Nat) : Touches (.bst :: (testedParts u)) (onPages []) c (c.startTest u src) := by
  unfold Chip.startTest
  split
  · exact .refl _ _ c
  · exact ((Touches.refl _ _ c).andThen (c.scramble_touches u) (List.subset_cons_self _ _)).setBst List.mem_cons_self

theorem Chip.testEngine_touches (n : Fin 17) (src : Nat) : Touches [.bst, .eng, .mem] (onPages []) c (c.startTest (.engine n) src) :=
  c.startTest_touches (.engine n) src

theorem Chip.testBank_touches (b : Fin 49) (src : Nat) : Touches [.bst, .pas] (onPages []) c (c.startTest (.bank b) src) :=
  c.startTest_touches (.bank b) src

theorem Chip.markUnit_touches (u : TestUnit) : Touches [.ret] (onPages [.bst]) c (c.markUnit u) := by
  have hmarks : ∀ eng bank, Touches [.ret] (onPages [.bst]) c (c.setMarks eng bank) := fun _ _ => (Touches.refl _ _ c).wr.wr.wr
  unfold Chip.markUnit Chip.saveMarks
  split
  · exact (hmarks _ _).ret
  · exact (hmarks _ _).ret

theorem Chip.recordVerdict_touches (u : TestUnit) (src count : Nat) (sig : Word) :
    Touches [.ret] (onPages [.bst]) c (c.recordVerdict u src count sig) := by
  have h1 : ∀ v w, Touches [.ret] (onPages [.bst]) c ((c.wr (resultA u) v).wr (resultB u) w) := fun _ _ =>
    ((Touches.refl _ _ c).wr (onPages_of_has (resultA_has u))).wr (onPages_of_has (resultB_has u))
  unfold Chip.recordVerdict
  rcases judgeTest u count sig with ⟨bad, short⟩
  dsimp only
  split
  · exact (h1 _ _).bump.andThen (Chip.markUnit_touches _ u)
  · exact (h1 _ _).bump

theorem Chip.endTest_touches (t : RunTest) (count : Nat) (sig : Word) : Touches [.ret, .bst] (onPages [.bst]) c (c.endTest t count sig) := by
  have h1 : ∀ f, Touches [.ret, .bst] (onPages [.bst]) c ((c.setBst f).recordVerdict t.unit t.src count sig) := fun _ =>
    (Touches.refl _ _ c).setBst.andThen (Chip.recordVerdict_touches _ _ _ _ _)
  unfold Chip.endTest
  rcases judgeTest t.unit count sig with ⟨bad, short⟩
  dsimp only
  split
  · exact (h1 _).raise
  · exact h1 _

theorem Chip.testComplete_touches (u : TestUnit) (count : Nat) (sig : Word) :
    Touches [.time, .ret, .bst] (onPages [.bst]) c (c.testComplete u count sig) := by
  unfold Chip.testComplete
  split
  · exact .refl _ _ c
  · split
    · exact .refl _ _ c
    · exact (Touches.refl _ _ c).advanceTo.andThen (Chip.endTest_touches _ _ _ _)

theorem Chip.testDeadline_touches (u : TestUnit) (count : Nat) (sig : Word) :
    Touches [.time, .ret, .bst] (onPages [.bst]) c (c.testDeadline u count sig) := by
  unfold Chip.testDeadline
  split
  · exact .refl _ _ c
  · exact (Touches.refl _ _ c).advanceTo.andThen (Chip.endTest_touches _ _ _ _)

theorem Chip.makeSpare_touches {n : Nat} (hn : n < 17) : Touches [] (onPages [.se, .fold]) c (c.makeSpare n) :=
  (((Touches.refl _ _ c).put (inSe_stat hn).on).put (onPages_of_has (foldEngine_has hn))).put

theorem Chip.enginePass_touches {n : Nat} (hn : n < 17) : Touches [.rot] (onPages [.se, .fold]) c (c.enginePass n) := by
  unfold Chip.enginePass
  split
  · exact .refl _ _ c
  · extract_lets c1
    have h1 : Touches [.rot] (onPages [.se, .fold]) c c1 := ((Touches.refl _ _ c).andThen (c.makeSpare_touches hn)).put
    exact h1.rot

theorem Chip.engineFail_touches {n : Nat} (hn : n < 17) : Touches [.rot] (onPages [.se, .fold]) c (c.engineFail n) := by
  unfold Chip.engineFail
  extract_lets was c1 spare _ _ c2 c3
  have h1 : Touches [.rot] (onPages [.se, .fold]) c c1 :=
    ((((Touches.refl _ _ c).put (inSe_stat hn).on).put (onPages_of_has (foldEngine_has hn))).latch (inSe_fault hn).on).raise
  have h2 : Touches [.rot] (onPages [.se, .fold]) c c2 := by
    unfold c2
    split
    · exact h1.put.rot
    · exact h1
  have h3 : Touches [.rot] (onPages [.se, .fold]) c c3 := by
    unfold c3
    split
    · exact h2.put
    · exact h2
  split
  · exact h1
  · split
    · exact h3
    · split
      next i hi =>
        have hlt : i < 17 := by simpa using (List.mem_filter.mp (List.mem_of_getLast? hi)).1
        exact h3.andThen (Chip.makeSpare_touches _ hlt)
      next => exact h3.put.put.raise

theorem Chip.bankPass_touches {b : Nat} (hb : b < 49) : Touches [] (onPages [.pas, .fold]) c (c.bankPass b) := by
  unfold Chip.bankPass
  split
  · exact .refl _ _ c
  · exact ((Touches.refl _ _ c).put (onPages_of_has (foldBank_has hb))).put.put

theorem Chip.bankFail_touches {b : Nat} (hb : b < 49) : Touches [] (onPages [.pas, .fold]) c (c.bankFail b) := by
  unfold Chip.bankFail
  extract_lets c1
  have h1 : Touches [] (onPages [.pas, .fold]) c c1 := ((Touches.refl _ _ c).put (onPages_of_has (foldBank_has hb))).put.raise
  split
  · exact h1
  · exact h1.put.put.raise

theorem Chip.testStateChange_touches (u : TestUnit) : Touches [.rot, .bst] (onPages [.pas, .se, .fold]) c (c.testStateChange u) := by
  unfold Chip.testStateChange
  split
  · exact .refl _ _ c
  · extract_lets c1
    have h1 : Touches [.rot, .bst] (onPages [.pas, .se, .fold]) c c1 := (Touches.refl _ _ c).setBst
    split
    next n _ _ => exact h1.andThen (Chip.enginePass_touches _ n.isLt)
    next n _ _ => exact h1.andThen (Chip.engineFail_touches _ n.isLt)
    next b _ _ => exact h1.andThen (Chip.bankPass_touches _ b.isLt)
    next b _ _ => exact h1.andThen (Chip.bankFail_touches _ b.isLt)

theorem Chip.idleTestStart_touches : Touches [.eng, .mem, .bst] (onPages []) c c.idleTestStart := by
  unfold Chip.idleTestStart
  split
  · exact .refl _ _ c
  · split
    · exact (Touches.refl _ _ c).setBst.andThen (Chip.testEngine_touches _ _ _)
    · split
      · exact .refl _ _ c
      · split
        · exact .refl _ _ c
        · exact (Touches.refl _ _ c).setBst.andThen (Chip.testEngine_touches _ _ _)

theorem Chip.spareTestStart_touches (bank : Bool) :
    Touches [.eng, .mem, .bst, .pas] (onPages [.pas, .se, .fold]) c (c.spareTestStart bank) := by
  unfold Chip.spareTestStart
  split
  · exact .refl _ _ c
  · split
    · split
      next b _ =>
        split
        · exact ((Touches.refl _ _ c).setBst.put (onPages_of_has (foldBank_has b.isLt))).put.andThen (Chip.testBank_touches _ _ _)
        · exact .refl _ _ c
      next => exact .refl _ _ c
    · split
      next n _ =>
        split
        · exact (((Touches.refl _ _ c).setBst.put (inSe_stat n.isLt).on).put (onPages_of_has (foldEngine_has n.isLt))).put.andThen
            (Chip.testEngine_touches _ _ _)
        · exact .refl _ _ c
      next => exact .refl _ _ c

theorem Chip.askTest_touches (bank : Bool) (n : Nat) : Touches [.bst] (onPages [.bst]) c (c.askTest bank n) := by
  unfold Chip.askTest
  dsimp only
  split_ifs
  · exact (Touches.refl _ _ c).latch
  · exact .refl _ _ c
  · exact (Touches.refl _ _ c).setBst
  · exact (Touches.refl _ _ c).latch
  · exact (Touches.refl _ _ c).latch
  · exact .refl _ _ c
  · exact (Touches.refl _ _ c).setBst

theorem Chip.writeTestReq_touches (v : Word) : Touches [.bst] (onPages [.bst]) c (c.writeTestReq v) := by
  unfold Chip.writeTestReq
  extract_lets c1 c2
  have h2 : Touches [.bst] (onPages [.bst]) c c2 := by
    unfold c2
    split
    · exact (Touches.refl _ _ c).put.put.w1c
    · exact (Touches.refl _ _ c).put.put
  split
  · exact h2.andThen (Chip.askTest_touches _ _ _)
  · exact h2

theorem Chip.writeShutdown_touches (r : Req) (v : Word) : Touches [.bst] (onPages [.bst]) c (c.writeShutdown r v) := by
  unfold Chip.writeShutdown
  extract_lets c1 shut
  have h1 : Touches [.bst] (onPages [.bst]) c c1 := by
    unfold c1
    split
    · exact (Touches.refl _ _ c).w1c
    · exact .refl _ _ c
  split_ifs
  · exact h1
  · exact h1.latch
  · exact h1.put.put.setBst

theorem Chip.writeMarkClr_touches (v : Word) : Touches [.ret] (onPages []) c (c.writeMarkClr v) := by
  unfold Chip.writeMarkClr
  split
  · exact (Touches.refl _ _ c).ret
  · exact .refl _ _ c

theorem Chip.shutdownEnd_touches : Touches [.ret] (onPages [.bst, .fold]) c c.shutdownEnd := by
  unfold Chip.shutdownEnd
  split
  · exact .refl _ _ c
  · exact (Touches.refl _ _ c).ret.put.put.put.raise

theorem Chip.handover_touches : Touches [.rot, .eng, .mem, .bst] (onPages [.se, .fold]) c c.handover := by
  unfold Chip.handover
  split
  next r e s h _ =>
    have hse := inSe_stat s.isLt
    have hee := inSe_stat e.isLt
    have hsc := inSe_ctrl s.isLt
    have hec := inSe_ctrl e.isLt
    split
    · exact .refl _ _ c
    · extract_lets ee es _ c1 fl c2 c3 c4 c5 req claimed c5' rot c6
      have h1 : Touches [.rot, .eng, .mem, .bst] (onPages [.se, .fold]) c c1 := (Touches.refl _ _ c).setEngine.setEngine
      have h2 : Touches [.rot, .eng, .mem, .bst] (onPages [.se, .fold]) c c2 :=
        (((h1.put hse.on).put hse.on).put hse.on).wr (onPages_of_has (foldEngine_has s.isLt))
      have h3 : Touches [.rot, .eng, .mem, .bst] (onPages [.se, .fold]) c c3 :=
        (((h2.put hee.on).put hee.on).put hee.on).wr (onPages_of_has (foldEngine_has e.isLt))
      have h5 : Touches [.rot, .eng, .mem, .bst] (onPages [.se, .fold]) c c5 :=
        ((((h3.put hsc.on).put hsc.on).put hec.on).put hec.on).incr.put
      have h6 : Touches [.rot, .eng, .mem, .bst] (onPages [.se, .fold]) c c6 :=
        (show Touches [.rot, .eng, .mem, .bst] (onPages [.se, .fold]) c c5' from h5.put).rot.setBst
      exact h6.andThen (Chip.testEngine_touches _ _ _)
  next => exact .refl _ _ c

/-! ## The pasture (chapter 08) -/

theorem Chip.scrubRequest_touches : Touches [.time, .pas] (onPages []) c c.scrubRequest := by
  unfold Chip.scrubRequest
  split
  · exact .refl _ _ c
  · split
    · exact .refl _ _ c
    · exact (Touches.refl _ _ c).advanceTo.setPas

theorem Chip.mirrorStart_touches : Touches [.pas] (onPages [.pas]) c c.mirrorStart := by
  unfold Chip.mirrorStart
  dsimp only
  split
  · exact .refl _ _ c
  · split
    · exact (Touches.refl _ _ c).setPas.put.put.put.put
    · exact .refl _ _ c

theorem Chip.bankSwap_touches : Touches [.bst, .pas] (onPages [.pas, .fold]) c c.bankSwap := by
  unfold Chip.bankSwap
  split
  · exact .refl _ _ c
  next m _ =>
    split
    · exact .refl _ _ c
    · extract_lets unc c1 c2 c3 req
      have hs : onPages [.pas, .fold] (R.FOLD_BANK m.s) = true := onPages_of_has (foldBank_has m.s.isLt)
      have h1 : Touches [.bst, .pas] (onPages [.pas, .fold]) c c1 :=
        (Touches.refl _ _ c).setPas.wr (onPages_of_has (foldBank_has m.p.isLt))
      have h2 : Touches [.bst, .pas] (onPages [.pas, .fold]) c c2 := ((h1.put hs).put hs).incr
      have h3 : Touches [.bst, .pas] (onPages [.pas, .fold]) c c3 := by
        unfold c3 unc
        split
        · exact h2.put.put.wr
        · exact h2.put.put.wr
      exact h3.setBst.andThen (Chip.testBank_touches _ _ _)

/-! ## The coefficient store (chapter 08) -/

theorem Chip.refuseAt_touches : Touches [] (onPages [.co]) c c.refuseAt := (Touches.refl _ _ c).latch.raise

theorem Chip.writeCommit_touches (v : Word) : Touches [.co] (onPages [.co]) c (c.writeCommit v) := by
  unfold Chip.writeCommit
  dsimp only
  split_ifs
  · exact .refl _ _ c
  · exact (Touches.refl _ _ c).latch.raise
  · exact (Touches.refl _ _ c).andThen c.refuseAt_touches
  · exact (Touches.refl _ _ c).setCo
  · exact (Touches.refl _ _ c).setCo

theorem Chip.commitLand_touches : Touches [.co] (onPages [.co]) c c.commitLand := by
  unfold Chip.commitLand
  split
  · exact .refl _ _ c
  · split
    · exact .refl _ _ c
    · exact (Touches.refl _ _ c).setCo.wr.raise

theorem Chip.glideEnd_touches (slot : Nat) : Touches [.co] (onPages []) c (c.glideEnd slot) := by
  unfold Chip.glideEnd
  split
  · exact .refl _ _ c
  · split
    · exact .refl _ _ c
    · exact (Touches.refl _ _ c).setCo

theorem Chip.glideAinc_touches : Touches [] (onPages [.co]) c c.glideAinc := by
  unfold Chip.glideAinc
  split
  · exact (Touches.refl _ _ c).incr
  · exact .refl _ _ c

theorem Chip.writeGlideData_touches (v : Word) : Touches [.co] (onPages [.co]) c (c.writeGlideData v) := by
  unfold Chip.writeGlideData
  extract_lets c1
  have h1 : Touches [.co] (onPages [.co]) c c1 := by
    unfold c1
    split
    · exact (Touches.refl _ _ c).latch
    · exact (Touches.refl _ _ c).setCo
  exact h1.andThen c1.glideAinc_touches

/-- The registers of the group descriptors stand in page CO, under the addresses that a write decodes to. -/
theorem group_has : ∀ (g : BitVec 8) (len : Bool),
    Page.co.has (regCanon (if len then R.CO_GRP_LEN g.toNat else R.CO_GRP_BASE g.toNat)) = true := by
  decide +kernel

theorem Chip.writeGroup_touches (g : BitVec 8) (len : Bool) (v : Word) : Touches [] (onPages [.co]) c (c.writeGroup g.toNat len v) := by
  unfold Chip.writeGroup
  split
  · exact (Touches.refl _ _ c).latch
  · exact (Touches.refl _ _ c).plainWrite (onPages_of_has (group_has g len))

/-! ## The shutdown test (R425) -/

theorem Chip.dropHandover_touches : Touches [.rot] (onPages [.se]) c c.dropHandover := by
  unfold Chip.dropHandover
  split
  · exact .refl _ _ c
  next r e s h _ => exact ((Touches.refl _ _ c).rot.put (inSe_stat s.isLt).on).put

theorem Chip.dropMirror_touches : Touches [.pas] (onPages [.pas]) c c.dropMirror := by
  unfold Chip.dropMirror
  split
  · exact .refl _ _ c
  · exact (Touches.refl _ _ c).setPas.put

theorem Chip.abandonTests_touches : Touches [.bst] (onPages [.bst]) c c.abandonTests := by
  unfold Chip.abandonTests
  exact (Touches.refl _ _ c).setBst.foldl fun t _ e => (Touches.refl _ _ e).wr (onPages_of_has (resultA_has t.unit))

theorem Chip.noteRing_touches (n : Nat) : Touches [.dma] (onPages []) c (c.noteRing n) := (Touches.refl _ _ c).dma

theorem Chip.pauseRing_touches {n : Nat} (hn : n < 32) : Touches [.dma] (onPages [.dma]) c (c.ringPause n true) := by
  have h1 : Touches [.dma] (onPages [.dma]) c (c.putB (F.DMA_RING_CTRL_pause n) true) :=
    (Touches.refl _ _ c).putB (onPages_of_has (ringCtrl_has hn))
  simp only [Chip.ringPause, if_true]
  split
  · exact (h1.put (onPages_of_has (ringStat_has hn))).andThen (Chip.noteRing_touches _ n)
  · exact h1

theorem Chip.pauseOnPasture_touches (rf : Bool) : Touches [.dma] (onPages [.dma]) c (c.pauseOnPasture rf) := by
  unfold Chip.pauseOnPasture
  refine (Touches.refl _ _ c).foldl fun n hn e => ?_
  have hlt : n < 32 := List.mem_range.mp hn
  dsimp only
  split
  · split
    · exact (e.pauseRing_touches hlt).put (onPages_of_has (ringStat_has hlt))
    · exact e.pauseRing_touches hlt
  · exact .refl _ _ e

theorem Chip.stopNow_touches {n : Nat} (hn : n < 17) : Touches [.eng] (onPages [.se]) c (c.stopNow n) := by
  have h1 := (((Touches.refl [.eng] (onPages [.se]) c).setEngine (n := n) (x := ⟨{ (c.engine n).core with
    outw := [], ended := true, pend := [], slot := .none }, 0, 0⟩)).put (f := F.SE_CTRL_run_req n) (v := 0) (inSe_ctrl hn).on).put
    (f := F.SE_CTRL_stop_req n) (v := 0) (inSe_ctrl hn).on
  unfold Chip.stopNow
  dsimp only
  split
  · exact h1.put (inSe_stat hn).on
  · exact h1

theorem Chip.clearResults_touches : Touches [] (onPages [.gn]) c c.clearResults := by
  unfold Chip.clearResults
  exact (Touches.refl _ _ c).foldl fun i hi e =>
    ((Touches.refl _ _ e).wr (onPages_of_has (acqResA_has (List.mem_range.mp hi)))).wr (onPages_of_has (acqResB_has (List.mem_range.mp hi)))

theorem Chip.acqAbort_touches : Touches [.gn, .pas] (onPages [.gn]) c c.acqAbort := by
  unfold Chip.acqAbort
  split
  · exact .refl _ _ c
  · exact ((Touches.refl _ _ c).pas.andThen (Chip.clearResults_touches _)).put.put.gn.raise

theorem Chip.shutdownStart_touches :
    Touches [.time, .rot, .eng, .mem, .gn, .dma, .bst, .pas] (onPages [.bst, .pas, .se, .gn, .dma]) c c.shutdownStart := by
  unfold Chip.shutdownStart
  split
  · exact .refl _ _ c
  · extract_lets c1 c2 c3 c4 c5
    have h1 : Touches [.time, .rot, .eng, .mem, .gn, .dma, .bst, .pas] (onPages [.bst, .pas, .se, .gn, .dma]) c c1 :=
      (((Touches.refl _ _ c).put.andThen (Chip.dropHandover_touches _)).andThen (Chip.dropMirror_touches _)).andThen
        (Chip.abandonTests_touches _)
    have h2 : Touches [.time, .rot, .eng, .mem, .gn, .dma, .bst, .pas] (onPages [.bst, .pas, .se, .gn, .dma]) c c2 :=
      (h1.andThen (c1.pauseOnPasture_touches false)).foldl fun n hn e =>
        (Touches.refl _ _ e).andThen (e.stopNow_touches (List.mem_range.mp hn))
    have h3 : Touches [.time, .rot, .eng, .mem, .gn, .dma, .bst, .pas] (onPages [.bst, .pas, .se, .gn, .dma]) c c3 := by
      unfold c3
      split
      · exact h2
      · exact h2.andThen c2.acqAbort_touches
    have h5 : Touches [.time, .rot, .eng, .mem, .gn, .dma, .bst, .pas] (onPages [.bst, .pas, .se, .gn, .dma]) c c5 :=
      h3.advanceTo.foldl fun n _ e => by
        split
        · exact .refl _ _ e
        · exact (Touches.refl _ _ e).andThen (e.testEngine_touches _ 4)
    refine h5.foldl fun b _ e => ?_
    split
    · exact .refl _ _ e
    · exact (Touches.refl _ _ e).andThen (e.testBank_touches _ 4)

end Sys2Proof.Machine
end

section
/-! PROOFS. The frame of the rows of folds, engines, rotation, the pasture, coefficients and tests. -/

-- One theorem at a time: many at once, each with a thread of its own, do not fit in memory.
set_option Elab.async false

namespace Sys2Proof

open Sys2Proof.Machine

/-- A write of SE_CTRL, whichever of its bits it sets (R86, R89). -/
def seCtrlWrite (r : Req) (n : Fin 17) (v : Word) (c : Chip) : Chip := c.guarded r (R.SE_CTRL n.val) fun c => c.writeSeCtrl n.val v

theorem seCtrlWrite_touches (r : Req) (n : Fin 17) (v : Word) (c : Chip) : Touches [.rot, .eng] (onPages [.se]) c (seCtrlWrite r n v c) := by
  refine (c.writeSeCtrl_touches n.isLt v).guarded (within_of_lt ?_)
  exact lt_of_lt_of_le (by decide) (inSe_ctrl n.isLt).1

/-- A write of a group descriptor (R198). -/
def groupWrite (r : Req) (g : BitVec 8) (len : Bool) (v : Word) (c : Chip) : Chip :=
  c.guarded r (if len then R.CO_GRP_LEN g.toNat else R.CO_GRP_BASE g.toNat) fun c => c.writeGroup g.toNat len v

theorem groupWrite_touches (r : Req) (g : BitVec 8) (len : Bool) (v : Word) (c : Chip) :
    Touches [] (onPages [.co]) c (groupWrite r g len v c) := by
  refine (c.writeGroup_touches g len v).guarded (within_of_lt ?_)
  unfold R.CO_GRP_LEN R.CO_GRP_BASE
  split <;> omega

/-- Each of these rows is one action, which touches the parts and pages that `coreTouches` gives it. -/
theorem coreRow_touches {i : Instr} {ps : List Part} {pages : List Page} (h : coreTouches i = some (ps, pages)) :
    ∃ f : Chip → Chip, (∀ s, exec i s = s.act f) ∧ ∀ c, Touches ps (onPages pages) c (f c) := by
  unfold coreTouches at h
  split at h <;> cases h
  next r v => exact ⟨fun c => c.guarded r R.FOLD_CTRL fun c => c.writeFoldCtrl v, fun _ => rfl, fun c => (c.writeFoldCtrl_touches v).guarded⟩
  next => exact ⟨fun c => c.foldChecksEnd, fun _ => rfl, Chip.foldChecksEnd_touches⟩
  next => exact ⟨fun c => c.foldZeroingEnd, fun _ => rfl, Chip.foldZeroingEnd_touches⟩
  next r n v => exact ⟨seCtrlWrite r n v, fun _ => rfl, seCtrlWrite_touches r n v⟩
  next r n v => exact ⟨seCtrlWrite r n v, fun _ => rfl, seCtrlWrite_touches r n v⟩
  next r n v => exact ⟨seCtrlWrite r n v, fun _ => rfl, seCtrlWrite_touches r n v⟩
  next n => exact ⟨fun c => c.clearDone n.val, fun _ => rfl, fun c => c.clearDone_touches n.isLt⟩
  next n => exact ⟨fun c => c.roleStart n.val, fun _ => rfl, fun c => c.roleStart_touches n.isLt⟩
  next n => exact ⟨fun c => c.roleStop n.val, fun _ => rfl, fun c => c.roleStop_touches n.isLt⟩
  next n => exact ⟨fun c => c.forceEnd n.val, fun _ => rfl, fun c => c.forceEnd_touches n.isLt⟩
  next => exact ⟨fun c => c.rotationDue, fun _ => rfl, Chip.rotationDue_touches⟩
  next => exact ⟨fun c => c.programCopy, fun _ => rfl, Chip.programCopy_touches⟩
  next => exact ⟨fun c => c.scratchMirror, fun _ => rfl, Chip.scratchMirror_touches⟩
  next => exact ⟨fun c => c.stateCopy, fun _ => rfl, Chip.stateCopy_touches⟩
  next => exact ⟨fun c => c.twinCompare, fun _ => rfl, Chip.twinCompare_touches⟩
  next => exact ⟨fun c => c.twinStart, fun _ => rfl, Chip.twinStart_touches⟩
  next => exact ⟨fun c => c.handover, fun _ => rfl, Chip.handover_touches⟩
  next => exact ⟨fun c => c.scrubRequest, fun _ => rfl, Chip.scrubRequest_touches⟩
  next => exact ⟨fun c => c.mirrorStart, fun _ => rfl, Chip.mirrorStart_touches⟩
  next => exact ⟨fun c => c.bankSwap, fun _ => rfl, Chip.bankSwap_touches⟩
  next r v => exact ⟨fun c => c.guarded r R.CO_COMMIT fun c => c.writeCommit v, fun _ => rfl, fun c => (c.writeCommit_touches v).guarded⟩
  next r v => exact ⟨fun c => c.guarded r R.CO_COMMIT fun c => c.writeCommit v, fun _ => rfl, fun c => (c.writeCommit_touches v).guarded⟩
  next => exact ⟨fun c => c.commitLand, fun _ => rfl, Chip.commitLand_touches⟩
  next r v => exact ⟨fun c => c.guarded r R.CO_GLIDE_DATA fun c => c.writeGlideData v, fun _ => rfl,
    fun c => (c.writeGlideData_touches v).guarded⟩
  next slot => exact ⟨fun c => c.glideEnd slot.toNat, fun _ => rfl, fun c => c.glideEnd_touches _⟩
  next r g len v => exact ⟨groupWrite r g len v, fun _ => rfl, groupWrite_touches r g len v⟩
  next r v => exact ⟨fun c => c.guarded r R.BST_REQ fun c => c.writeTestReq v, fun _ => rfl, fun c => (c.writeTestReq_touches v).guarded⟩
  next r v => exact ⟨fun c => c.guarded r R.BST_SHUTDOWN fun c => c.writeShutdown r v, fun _ => rfl,
    fun c => (c.writeShutdown_touches r v).guarded⟩
  next u count sig => exact ⟨fun c => c.testComplete u count sig, fun _ => rfl, fun c => c.testComplete_touches u count sig⟩
  next u count sig => exact ⟨fun c => c.testDeadline u count sig, fun _ => rfl, fun c => c.testDeadline_touches u count sig⟩
  next u => exact ⟨fun c => c.testStateChange u, fun _ => rfl, fun c => c.testStateChange_touches u⟩
  next => exact ⟨fun c => c.idleTestStart, fun _ => rfl, Chip.idleTestStart_touches⟩
  next bank => exact ⟨fun c => c.spareTestStart bank, fun _ => rfl, fun c => c.spareTestStart_touches bank⟩
  next r v => exact ⟨fun c => c.guarded r R.BST_MARK_CLR fun c => c.writeMarkClr v, fun _ => rfl,
    fun c => (c.writeMarkClr_touches v).guarded⟩
  next => exact ⟨fun c => c.shutdownStart, fun _ => rfl, Chip.shutdownStart_touches⟩
  next => exact ⟨fun c => c.shutdownEnd, fun _ => rfl, Chip.shutdownEnd_touches⟩

/-- No such row names the transmitter, or a page with a register that permits the PA. -/
theorem coreTouches_permits {i : Instr} {ps : List Part} {pages : List Page} (h : coreTouches i = some (ps, pages)) :
    Part.rf ∉ ps ∧ ∀ a ∈ permitRegs, onPages pages a = false := by
  unfold coreTouches at h
  split at h <;> cases h <;> decide

/-- Settles O59: a row touches what `coreTouches` gives it, and the end of the command keeps the rest, since the PA may stay as it is. -/
theorem coreRowsFrame : Obligations.CoreRowsFrame := by
  intro i s t ps pages hrow hsafe hnext
  obtain ⟨f, hexec, htouches⟩ := coreRow_touches hrow
  obtain ⟨hrf, hpermit⟩ := coreTouches_permits hrow
  rw [hexec] at hnext
  cases hnext
  exact ⟨rfl, (htouches s.chip).keepsAllBut hsafe hpermit hrf⟩

end Sys2Proof
end

section
/-! PROOFS. A fold load is asked for and checked: FOLD_GO and FOLD_CHECKS_END (R65, R69, R70). -/

-- One theorem at a time: many at once, each with a thread of its own, do not fit in memory.
set_option Elab.async false

namespace Sys2Proof.Machine

variable (c : Chip)

/-- A field of a register that is not touched. -/
theorem Touches.get {ps : List Part} {own : Nat → Bool} {c d : Chip} (h : Touches ps own c d) {f : Fld} (hf : own f.addr = false)
    (ht : f.addr ≠ R.PWR_TMR := by decide) : d.get f = c.get f := by
  simp only [Chip.get, h.rd _ hf ht]

theorem Touches.bit {ps : List Part} {own : Nat → Bool} {c d : Chip} (h : Touches ps own c d) {f : Fld} (hf : own f.addr = false)
    (ht : f.addr ≠ R.PWR_TMR := by decide) : d.bit f = c.bit f := by
  simp only [Chip.bit, h.get hf ht]

/-! ## FOLD_GO -/

/-- Registers FOLD_CTRL and FOLD_STAT. -/
def foldWords (a : Nat) : Bool := a == R.FOLD_CTRL || a == R.FOLD_STAT

/-- The code with which a bundle cannot be copied, and the bytes that are copied. -/
def Chip.bundleErr : Option Nat :=
  if !c.sourceOk (c.get F.FOLD_SRC_ADDR_addr) (c.get F.FOLD_SRC_LEN_len) then some 0x0C
  else if c.flashFails (c.get F.FOLD_SRC_ADDR_addr) (c.get F.FOLD_SRC_LEN_len) then some 0x09 else none
def Chip.bundleBytes : List (BitVec 8) :=
  if c.bundleErr.isNone then (c.bytesAt (c.get F.FOLD_SRC_ADDR_addr) (c.get F.FOLD_SRC_LEN_len)).map (BitVec.ofNat 8) else []

theorem Chip.copyBundle_bundle : c.copyBundle.fold.bundle = c.bundleBytes := rfl
theorem Chip.copyBundle_srcErr : c.copyBundle.fold.srcErr = c.bundleErr := rfl

section

variable {c}
variable {d : Chip} (h : Touches [] foldWords c d)

include h

theorem Touches.bundleErr : d.bundleErr = c.bundleErr := by
  have hshp : d.shp = c.shp := h.same .shp (by decide)
  have hddr : d.ddrBytes = c.ddrBytes := by
    unfold Chip.ddrBytes
    rw [h.bit (f := F.SYS_FEAT2_ext_mem) rfl, h.get (f := F.SYS_FEAT2_ext_size) rfl]
  have hok : d.sourceOk = c.sourceOk := by
    funext a n
    rw [Chip.sourceOk, Chip.sourceOk, hddr]
  have hflash : d.flashFails = c.flashFails := by
    funext a n
    rw [Chip.flashFails, Chip.flashFails, hshp]
  rw [Chip.bundleErr, Chip.bundleErr, hok, hflash, h.get (f := F.FOLD_SRC_ADDR_addr) rfl, h.get (f := F.FOLD_SRC_LEN_len) rfl]

theorem Touches.bundleBytes : d.bundleBytes = c.bundleBytes := by
  have hmem : d.mem = c.mem := h.same .mem (by decide)
  simp only [Chip.bundleBytes, h.bundleErr, Chip.bytesAt, hmem, h.get (f := F.FOLD_SRC_ADDR_addr) rfl, h.get (f := F.FOLD_SRC_LEN_len) rfl]

end

/-- FOLD_CTRL as a write of it leaves the fields that software sets. -/
def Chip.foldAsked (v : Word) : Chip :=
  ((if F.FOLD_CTRL_rej.ofB v then c.w1c F.FOLD_CTRL_rej else c).put F.FOLD_CTRL_at_time (F.FOLD_CTRL_at_time.of v)).put
    F.FOLD_CTRL_hold (F.FOLD_CTRL_hold.of v)

theorem Chip.foldAsked_touches (v : Word) : Touches [] (fun a => a == R.FOLD_CTRL) c (c.foldAsked v) := by
  unfold Chip.foldAsked
  split
  · exact (Touches.refl _ _ c).w1c.put.put
  · exact (Touches.refl _ _ c).put.put

/-- The load that a request starts. -/
def Chip.foldBegun : Chip := (c.put F.FOLD_CTRL_go 1).put F.FOLD_STAT_state 1

theorem Chip.writeFoldCtrl_taken {v : Word} (hv : F.FOLD_CTRL_go.ofB v = true) (hst : c.get F.FOLD_STAT_state = 0)
    (hsh : c.get F.BST_STAT_shut = 0) : c.writeFoldCtrl v = ((c.foldAsked v).foldBegun.copyBundle).setFold fun f =>
      { f with
        atTime := F.FOLD_CTRL_at_time.ofB v
        hold := F.FOLD_CTRL_hold.ofB v
        at_ := (c.foldAsked v).rd64 R.FOLD_AT_LO R.FOLD_AT_HI
        next := none
        startLoad := false } := by
  have h1 := c.foldAsked_touches v
  have hst' : (c.foldAsked v).get F.FOLD_STAT_state = 0 := (h1.get rfl).trans hst
  have hsh' : (c.foldAsked v).get F.BST_STAT_shut = 0 := (h1.get rfl).trans hsh
  have hacc : ((c.foldAsked v).get F.FOLD_STAT_state ≠ 0 || (c.foldAsked v).get F.BST_STAT_shut ≠ 0) = false := by simp [hst', hsh']
  unfold Chip.writeFoldCtrl
  exact (if_neg (by simp [hv])).trans (if_neg (Bool.eq_false_iff.mp hacc))

/-! ## FOLD_CHECKS_END -/

/-- How the checks of a load end, from `c` that they found to have the result `res`: with a code in IDLE, or in WAITING. -/
def foldChecked (c d : Chip) : Except FoldErr (Fold × List Nat) → Prop
  | .error e => d.get F.FOLD_STAT_state = 0 ∧ d.get F.FOLD_STAT_err = F.FOLD_STAT_err.cut e.1 ∧ d.bit F.FOLD_CTRL_go = false ∧
      d.fold.cur = c.fold.cur
  | .ok (f, img) => d.fold.cur = c.fold.cur ∧ d.fold.buf = img.map (BitVec.ofNat 8) ∧
      if c.fold.atTime = true ∧ (c.fold.at_ % 384 ≠ 0 ∨ c.fold.at_ * rootPerTick ≤ c.now) then
        d.get F.FOLD_STAT_state = 0 ∧ d.get F.FOLD_STAT_err = F.FOLD_STAT_err.cut 0x0D ∧ d.bit F.FOLD_CTRL_go = false
      else d.get F.FOLD_STAT_state = 2 ∧ d.get F.FOLD_STAT_err = 0 ∧ d.fold.next = some f ∧
        d.fold.bAt = c.clearBoundary (if c.fold.atTime then c.fold.at_ else c.nextSuperframe) ∧ d.fold.rAt = d.fold.bAt + 384

theorem Chip.foldResult_err (e : FoldErr) : (c.foldResult e).get F.FOLD_STAT_err = F.FOLD_STAT_err.cut e.1 := by
  unfold Chip.foldResult
  rw [Chip.get_put_ne _ (by decide), Chip.get_put_apart _ (by decide) (by decide), Chip.get_put_self _ _ (by decide)]
  rfl

/-- A load that fails stands in IDLE with its code, its request dropped. -/
theorem Chip.loadFailed_shows (e : FoldErr) {d : Chip}
    (hd : d.regs = (((c.foldResult e).put F.FOLD_STAT_state 0).put F.FOLD_CTRL_go 0).regs) :
    d.get F.FOLD_STAT_state = 0 ∧ d.get F.FOLD_STAT_err = F.FOLD_STAT_err.cut e.1 ∧ d.bit F.FOLD_CTRL_go = false := by
  rw [Chip.get_congr hd, Chip.get_congr hd, Chip.bit_congr hd]
  refine ⟨?_, ?_, Chip.bit_put_self _ _ (by decide) 0⟩
  · rw [Chip.get_put_ne _ (by decide), Chip.get_put_self _ _ (by decide)]
    rfl
  · rw [Chip.get_put_ne _ (by decide), Chip.get_put_apart _ (by decide) (by decide), Chip.foldResult_err]

theorem Chip.foldWaits_shows (f : Fold) (b : Nat) :
    (c.foldWaits f b).get F.FOLD_STAT_state = 2 ∧ (c.foldWaits f b).get F.FOLD_STAT_err = 0 := by
  refine ⟨Chip.get_put_self (c.foldResult (0, 0, 0)) F.FOLD_STAT_state (by decide) 2, ?_⟩
  exact (Chip.get_put_apart (c.foldResult (0, 0, 0)) (by decide) (by decide) 2).trans (c.foldResult_err (0, 0, 0))

/-- The device with the fold's bytes in the fold buffer. -/
def Chip.foldRead (img : List Nat) : Chip := c.setFold fun s => { s with buf := img.map (BitVec.ofNat 8) }

theorem Chip.checksEnd_checked (res : Except FoldErr (Fold × List Nat)) : foldChecked c (c.checksEnd res) res := by
  cases res with
  | error e =>
    obtain ⟨hst, herr, hgo⟩ := c.loadFailed_shows e rfl
    exact ⟨hst, herr, hgo, rfl⟩
  | ok r =>
    obtain ⟨f, img⟩ := r
    have heq : c.checksEnd (.ok (f, img)) =
        if !c.fold.atTime then (c.foldRead img).foldWaits f c.nextSuperframe
        else if c.fold.at_ % 384 ≠ 0 ∨ c.fold.at_ * rootPerTick ≤ c.now then (c.foldRead img).failFold 0x0D
        else (c.foldRead img).foldWaits f c.fold.at_ := rfl
    have hwaits := (c.foldRead img).foldWaits_shows f
    rw [heq]
    by_cases hat : c.fold.atTime = true
    · by_cases hbad : c.fold.at_ % 384 ≠ 0 ∨ c.fold.at_ * rootPerTick ≤ c.now
      · rw [if_neg (by simp [hat]), if_pos hbad]
        refine ⟨rfl, rfl, ?_⟩
        rw [if_pos ⟨hat, hbad⟩]
        exact (c.foldRead img).loadFailed_shows (0x0D, 0, 0) rfl
      · rw [if_neg (by simp [hat]), if_neg hbad]
        refine ⟨rfl, rfl, ?_⟩
        rw [if_neg (by simp [hbad]), if_pos hat]
        exact ⟨(hwaits _).1, (hwaits _).2, rfl, rfl, rfl⟩
    · rw [if_pos (by simp [hat])]
      refine ⟨rfl, rfl, ?_⟩
      rw [if_neg (by simp [hat]), if_neg hat]
      exact ⟨(hwaits _).1, (hwaits _).2, rfl, rfl, rfl⟩

end Sys2Proof.Machine
end

section
/-! PROOFS. What a fold load does beside the load itself at B and at R (R70 to R73): it leaves the record of loads, FOLD_STAT, FOLD_ID and
PWR_STAT alone. -/

-- One theorem at a time: many at once, each with a thread of its own, do not fit in memory.
set_option Elab.async false

namespace Sys2Proof.Machine

/-! ## The relation -/

/-- The registers that show a load are not these: all but FOLD_STAT, FOLD_ID and PWR_STAT. -/
def offLoad (a : Nat) : Bool := a != R.FOLD_STAT && a != R.FOLD_ID && a != R.PWR_STAT

/-- The parts but the record of fold loads. -/
def loadParts : List Part :=
  [.time, .eng, .rot, .pas, .co, .crook, .guard, .prt, .bst, .dma, .rf, .gn, .lnk, .shp, .pwr, .hif, .bus, .ret, .mem]

/-- From `c` to `d` neither the record of fold loads changes nor a register that shows one. -/
abbrev KeepsLoad (c d : Chip) : Prop := Touches loadParts offLoad c d

section

variable {c d e : Chip} (h : KeepsLoad c d)

include h

theorem KeepsLoad.fold_eq : d.fold = c.fold := h.same .fold (by decide)

/-- What touches other pages may follow. -/
theorem KeepsLoad.andOff {qs : List Part} {l : List Page} (k : Touches qs (onPages l) d e) (hq : qs ⊆ loadParts := by decide)
    (hl : [R.FOLD_STAT, R.FOLD_ID, R.PWR_STAT].any (onPages l) = false := by decide) : KeepsLoad c e := by
  refine h.trans (k.mono hq fun a ha => ?_)
  simp only [List.any_cons, List.any_nil, Bool.or_false, Bool.or_eq_false_iff] at hl
  obtain ⟨hstat, hid, hpwr⟩ := hl
  simp only [offLoad, Bool.and_eq_true, bne_iff_ne]
  refine ⟨⟨?_, ?_⟩, ?_⟩ <;> rintro rfl <;> simp_all

end

/-! ## Registers that stand several times -/

theorem off_of {a : Nat} (h : 0x40003008 < a ∧ a < 0x400E0000) : offLoad a = true := by
  simp only [offLoad, Bool.and_eq_true, bne_iff_ne, R.FOLD_STAT, R.FOLD_ID, R.PWR_STAT]
  omega

theorem inSe.off {a : Nat} (h : inSe a) : offLoad a = true := off_of (by unfold inSe at h; omega)

section

variable {n : Nat}

theorem foldEngine_off (hn : n < 17) : offLoad (R.FOLD_ENGINE n) = true := off_of (by unfold R.FOLD_ENGINE; omega)
theorem foldBank_off (hn : n < 49) : offLoad (R.FOLD_BANK n) = true := off_of (by unfold R.FOLD_BANK; omega)
theorem laneCtrl_off (hn : n < 32) : offLoad (R.PRT_LANE_CTRL n) = true := off_of (by unfold R.PRT_LANE_CTRL; omega)
theorem laneCfg_off (hn : n < 32) : offLoad (R.PRT_LANE_CFG n) = true := off_of (by unfold R.PRT_LANE_CFG; omega)
theorem laneMask_off (hn : n < 32) : offLoad (R.PRT_LANE_MASK n) = true := off_of (by unfold R.PRT_LANE_MASK; omega)
theorem laneStat_off (hn : n < 32) : offLoad (R.PRT_LANE_STAT n) = true := off_of (by unfold R.PRT_LANE_STAT; omega)
theorem laneSlip_off (hn : n < 32) : offLoad (R.PRT_LANE_SLIP n) = true := off_of (by unfold R.PRT_LANE_SLIP; omega)
theorem grpCfg_off (hn : n < 8) : offLoad (R.PRT_GRP_CFG n) = true := off_of (by unfold R.PRT_GRP_CFG; omega)
theorem grpStat_off (hn : n < 8) : offLoad (R.PRT_GRP_STAT n) = true := off_of (by unfold R.PRT_GRP_STAT; omega)
theorem grpPhase_off (hn : n < 8) : offLoad (R.PRT_GRP_PHASE n) = true := off_of (by unfold R.PRT_GRP_PHASE; omega)
theorem grpRatio_off (hn : n < 8) : offLoad (R.PRT_GRP_RATIO n) = true := off_of (by unfold R.PRT_GRP_RATIO; omega)
theorem grpFerr_off (hn : n < 8) : offLoad (R.PRT_GRP_FERR n) = true := off_of (by unfold R.PRT_GRP_FERR; omega)
theorem grpCtrl_off (hn : n < 8) : offLoad (R.PRT_GRP_CTRL n) = true := off_of (by unfold R.PRT_GRP_CTRL; omega)
theorem alignCtrl_off (hn : n < 8) : offLoad (R.PRT_ALIGN_CTRL n) = true := off_of (by unfold R.PRT_ALIGN_CTRL; omega)
theorem guardHeat_off (hn : n < 64) : offLoad (R.GUARD_CH_HEAT n) = true := off_of (by unfold R.GUARD_CH_HEAT; omega)
theorem guardDcm_off (hn : n < 64) : offLoad (R.GUARD_CH_DCM n) = true := off_of (by unfold R.GUARD_CH_DCM; omega)
theorem guardStat_off (hn : n < 64) : offLoad (R.GUARD_CH_STAT n) = true := off_of (by unfold R.GUARD_CH_STAT; omega)
theorem chanCtrl_off (hn : n < 96) : offLoad (R.GN_CH_CTRL n) = true := off_of (by unfold R.GN_CH_CTRL; omega)
theorem chanStat_off (hn : n < 96) : offLoad (R.GN_CH_STAT n) = true := off_of (by unfold R.GN_CH_STAT; omega)
theorem sharedPointer_off (hn : n < 32) : offLoad (R.PAS_SP n) = true := off_of (by unfold R.PAS_SP; omega)
theorem padBase_off (hn : n < 32) : offLoad (R.PAS_PAD_BASE n) = true := off_of (by unfold R.PAS_PAD_BASE; omega)
theorem padLen_off (hn : n < 32) : offLoad (R.PAS_PAD_LEN n) = true := off_of (by unfold R.PAS_PAD_LEN; omega)
theorem sched_off (hn : n < 192) : offLoad (R.PAS_SCHED n) = true := off_of (by unfold R.PAS_SCHED; omega)

end

variable (c : Chip)

/-! ## Channels, lanes and units at B -/

theorem Chip.chanDrop_keeps {n : Nat} (hn : n < 96) : KeepsLoad c (c.chanDrop n) := by
  unfold Chip.chanDrop Chip.chanIdle Chip.setChan
  exact (((Touches.refl _ _ c).gn.put (chanStat_off hn)).put (chanCtrl_off hn)).put (chanCtrl_off hn)

theorem Chip.dropChannels_keeps (f : Fold) : KeepsLoad c (c.dropChannels f) := by
  unfold Chip.dropChannels
  extract_lets old c1
  have h1 : KeepsLoad c c1 := (Touches.refl _ _ c).foldl fun n hn e => by
    split
    · exact .refl _ _ e
    · exact e.chanDrop_keeps (List.mem_range.mp hn)
  split
  · exact h1
  · exact KeepsLoad.andOff h1 c1.acqAbort_touches

theorem Chip.setLane_keeps {n : Nat} (hn : n < 32) (l : Lane) : KeepsLoad c (c.setLane n l) := by
  unfold Chip.setLane
  exact (Touches.refl _ _ c).prt.put (laneStat_off hn)

theorem Chip.setAlign_keeps (a : Nat) (x : AlignSt) : KeepsLoad c (c.setAlign a x) := by
  unfold Chip.setAlign
  exact (Touches.refl _ _ c).prt

theorem Chip.setGrp_keeps (g : Nat) (x : Grp) : KeepsLoad c (c.setGrp g x) := by
  unfold Chip.setGrp
  exact (Touches.refl _ _ c).prt

theorem Chip.stopLanes_keeps (f : Fold) : KeepsLoad c (c.stopLanes f) := by
  unfold Chip.stopLanes
  extract_lets c1 c2
  have h1 : KeepsLoad c c1 := (Touches.refl _ _ c).foldl fun n hn e => by
    have hlt := List.mem_range.mp hn
    exact ((((e.setLane_keeps hlt _).put (laneStat_off hlt)).put (laneStat_off hlt)).put (laneCtrl_off hlt)).put (laneCtrl_off hlt)
  have h2 : KeepsLoad c c2 := h1.foldl fun a ha e => by
    have hlt := List.mem_range.mp ha
    exact ((e.setAlign_keeps a _).put (alignCtrl_off hlt)).put (alignCtrl_off hlt)
  refine h2.foldl fun g hg e => ?_
  split
  · exact .refl _ _ e
  · exact ((e.setGrp_keeps g _).put (grpStat_off (List.mem_range.mp hg))).levelOff

theorem Chip.placeEngines_keeps (f : Fold) : KeepsLoad c (c.placeEngines f) := by
  unfold Chip.placeEngines
  rcases c.planEngines f with ⟨l, rest⟩
  dsimp -zeta only
  extract_lets spare c1 c2
  have h1 : KeepsLoad c c1 := (Touches.refl _ _ c).foldl fun n hn e => by
    have hlt : n < 17 := List.mem_range.mp (List.mem_filter.mp hn).1
    extract_lets role e0 _ c' set c''
    clear_value role
    have hset : ∀ st status flock role, KeepsLoad e (set st status flock role) := fun _ _ _ _ =>
      ((((Touches.refl _ _ e).setEngine.put (inSe_stat hlt).off).put (inSe_stat hlt).off).put (inSe_stat hlt).off).wr (foldEngine_off hlt)
    have h2 : KeepsLoad e c'' := by
      unfold c''
      cases role with
      | some r => exact hset _ _ _ _
      | none =>
        dsimp only
        split
        · exact hset _ _ _ _
        · exact hset _ _ _ _
    exact (h2.put (inSe_ctrl hlt).off).put (inSe_ctrl hlt).off
  have h2 : KeepsLoad c c2 := (h1.wr.put).put
  exact h2.rot

theorem Chip.placeBanks_keeps : KeepsLoad c c.placeBanks := by
  unfold Chip.placeBanks
  rcases assignUnits c.usableBanks (List.range 48) fun lb => (c.physOf lb).filter fun b => c.usableBanks.contains b with ⟨l, rest⟩
  dsimp -zeta only
  extract_lets spare c1
  have h1 : KeepsLoad c c1 := (Touches.refl _ _ c).foldl fun b hb e => by
    have hlt : b < 49 := List.mem_range.mp (List.mem_filter.mp hb).1
    split
    · exact (Touches.refl _ _ e).wr (foldBank_off hlt)
    · exact (Touches.refl _ _ e).wr (foldBank_off hlt)
  exact h1.wr.put.put.setPas

/-! ## Lanes and engines at R -/

theorem Chip.setLost_keeps (a : Nat) : KeepsLoad c (c.setLost a) := by
  unfold Chip.setLost
  split
  · exact .refl _ _ c
  next ha => exact ((Touches.refl _ _ c).put (alignCtrl_off (by omega))).raise

section

variable {n : Nat} (hn : n < 32)

include hn

theorem Chip.slip_keeps (slot : Nat) (under : Bool) : KeepsLoad c (c.slip n slot under) := by
  unfold Chip.slip
  extract_lets l told c1 c2 c3
  have h1 : KeepsLoad c c1 := (Touches.refl _ _ c).put (laneStat_off hn)
  have h2 : KeepsLoad c c2 := by
    unfold c2
    split
    · exact (h1.latch (laneStat_off hn)).bump (laneSlip_off hn)
    · exact (h1.latch (laneStat_off hn)).bump (laneSlip_off hn)
  have h3 : KeepsLoad c c3 := by
    unfold c3
    split
    · exact h2
    · exact (h2.trans (Chip.setLane_keeps _ hn _)).raise
  exact h3.trans (Chip.setLost_keeps _ _)

theorem Chip.pushWord_keeps (slot : Nat) (v : Word) : KeepsLoad c (c.pushWord n slot v) := by
  unfold Chip.pushWord
  dsimp only
  split_ifs
  · exact c.setLane_keeps hn _
  · exact .refl _ _ c
  · exact c.slip_keeps hn _ _

theorem Chip.outputSide_keeps : KeepsLoad c (c.outputSide n) := by
  unfold Chip.outputSide
  dsimp only
  split_ifs
  · exact .refl _ _ c
  · exact c.setLane_keeps hn _
  · exact c.setLane_keeps hn _
  · exact (Touches.refl _ _ c).foldl fun s _ e => e.pushWord_keeps hn _ _

theorem Chip.startLane_keeps (trig : Bool) : KeepsLoad c (c.startLane n trig) := by
  unfold Chip.startLane
  extract_lets l g keep l1 c1 c2
  have h1 : KeepsLoad c c1 :=
    ((((c.setLane_keeps hn l1).put (laneStat_off hn)).put (laneCtrl_off hn)).put (laneStat_off hn)).putB (laneStat_off hn)
  have h2 : KeepsLoad c c2 := by
    unfold c2
    split
    · exact h1.trans (Chip.outputSide_keeps _ hn)
    · exact h1
  split
  · exact h2.trans (Chip.setLost_keeps _ _)
  · exact h2

end

theorem Chip.startLanes_keeps (hold : Bool) : KeepsLoad c (c.startLanes hold) := by
  unfold Chip.startLanes
  extract_lets c0
  have h0 : KeepsLoad c c0 := (Touches.refl _ _ c).foldl fun a ha e => by
    have hlt := List.mem_range.mp ha
    exact ((e.setAlign_keeps a _).put (alignCtrl_off hlt)).put (alignCtrl_off hlt)
  refine h0.foldl fun n hn e => ?_
  have hlt := List.mem_range.mp hn
  split
  · exact (e.startLane_keeps hlt _).trans (Chip.setLane_keeps _ hlt _)
  · exact .refl _ _ e

theorem Chip.startEngines_keeps (hold : Bool) : KeepsLoad c (c.startEngines hold) := by
  unfold Chip.startEngines
  refine (Touches.refl _ _ c).foldl fun n hn e => ?_
  have hlt := List.mem_range.mp hn
  dsimp only
  split
  · exact .refl _ _ e
  · exact (((Touches.refl _ _ e).setEngine.put (inSe_stat hlt).off).put (inSe_ctrl hlt).off).put (inSe_ctrl hlt).off

theorem Chip.useGuard_keeps (f : Fold) : KeepsLoad c (c.useGuard f) := by
  unfold Chip.useGuard
  extract_lets old
  refine (Touches.refl _ _ c).foldl fun ch hch e => ?_
  have hlt := List.mem_range.mp hch
  split
  · exact .refl _ _ e
  · rcases f.guard.getD ch (0, 0) with ⟨lane, slot⟩
    dsimp -zeta only
    extract_lets c1 c2
    have h1 : KeepsLoad e c1 := (Touches.refl _ _ e).levelOff.levelOff
    have h2 : KeepsLoad e c2 := ((show KeepsLoad e (c1.setGuardCh ch GuardCh.zero) from h1.guard).wr (guardHeat_off hlt)).wr (guardDcm_off hlt)
    exact ((((h2.put (guardStat_off hlt)).put (guardStat_off hlt)).put (guardStat_off hlt)).put (guardStat_off hlt)).putB (guardStat_off hlt)

theorem Chip.usePorts_keeps (f : Fold) : KeepsLoad c (c.usePorts f) := by
  unfold Chip.usePorts
  extract_lets c1 c2
  have h1 : KeepsLoad c c1 := (Touches.refl _ _ c).foldl fun g hg e => by
    have hlt := List.mem_range.mp hg
    have hcfg := grpCfg_off hlt
    have hstat := grpStat_off hlt
    extract_lets d slave loss _ c0 c' c''
    have h0 : KeepsLoad e c0 := ((e.setGrp_keeps g _).put (grpCtrl_off hlt)).put hstat
    have h' : KeepsLoad e c' := ((((((h0.wr hcfg).put hcfg).put hcfg).put hcfg).put hcfg).put hcfg).put hcfg |>.put hcfg
    have h'' : KeepsLoad e c'' := by
      unfold c''
      split
      · exact h'
      · exact h'.put hstat
    split_ifs
    · exact (((h'.wr hstat).wr (grpPhase_off hlt)).wr (grpRatio_off hlt)).wr (grpFerr_off hlt)
    · exact (h''.put hstat).put (grpPhase_off hlt)
    · exact h''
    · exact h''.put hstat
  have h2 : KeepsLoad c c2 := h1.foldl fun n hn e => by
    have hlt := List.mem_range.mp hn
    have hcfg := laneCfg_off hlt
    extract_lets d g locked c0 c' l
    have h0 : KeepsLoad e c0 := by
      unfold c0
      split
      · exact (((Touches.refl _ _ e).wr (laneCtrl_off hlt)).wr (laneStat_off hlt)).wr (laneSlip_off hlt)
      · exact .refl _ _ e
    have h' : KeepsLoad e c' := ((((((h0.wr hcfg).put hcfg).put hcfg).put hcfg).put hcfg).put hcfg).putB hcfg
    exact ((h'.put (laneMask_off hlt)).put (laneMask_off hlt)).trans (Chip.setLane_keeps _ hlt _)
  exact h2.wr

/-! ## Clocks, commits and the link at R -/

/-- A row of the clocks leaves the loads alone. -/
theorem ClockMoves.keepsLoad {l : List Fld} {d : Chip} (h : ClockMoves l c d) (hl : clockFlds l = true := by decide) : KeepsLoad c d := by
  refine ⟨fun p hp => ?_, fun hp => absurd (by decide) hp, fun a ha ht => h.rd_outside hl ?_ ht⟩
  · cases p
    case fold => exact (congrArg Chip.fold h.rest :)
    all_goals exact absurd (by decide) hp
  · simp only [offLoad, Bool.and_eq_false_iff, bne_eq_false_iff_eq] at ha
    rcases ha with (rfl | rfl) | rfl <;> decide

theorem Chip.judgeNoFold_keeps : KeepsLoad c c.judgeNoFold := by
  unfold Chip.judgeNoFold
  refine (Touches.refl _ _ c).foldl fun m _ e => ?_
  dsimp only
  split
  · exact .refl _ _ e
  · split
    · exact (Touches.refl _ _ e).setCo
    · split
      · exact KeepsLoad.andOff (Touches.refl _ _ e).setCo (Chip.refuseAt_touches _)
      · exact (Touches.refl _ _ e).setCo

theorem Chip.lkTune_keeps (ch : Nat) : KeepsLoad c (c.lkTune ch) := by
  have h1 : KeepsLoad c (c.put F.LNK_STAT_ch ch) := (Touches.refl _ _ c).put
  unfold Chip.lkTune Chip.askRx Chip.setRf
  split
  · exact h1
  · exact h1.put.rfSt

theorem Chip.calJudge_keeps : KeepsLoad c c.calJudge := by
  have hend : KeepsLoad c c.calEnd := by
    unfold Chip.calEnd Chip.setRf
    split
    · exact (Touches.refl _ _ c).rfSt
    · exact .refl _ _ c
  unfold Chip.calJudge Chip.calAbandon Chip.showTx
  split
  · split
    · exact hend.put
    · exact .refl _ _ c
  · exact .refl _ _ c

theorem Chip.lnkFold_keeps (f : Fold) : KeepsLoad c (c.lnkFold f) := by
  unfold Chip.lnkFold Chip.setLnk
  extract_lets from' c1
  have h1 : KeepsLoad c c1 := by
    unfold c1
    split
    · exact (Touches.refl _ _ c).lnk
    · exact .refl _ _ c
  refine Touches.trans ?_ (Chip.calJudge_keeps _)
  split
  · exact h1.lnk
  · exact (h1.trans (Chip.lkTune_keeps _ _)).lnk

end Sys2Proof.Machine
end

section
/-! PROOFS. The rows of a fold load complete with their effects (R65 to R73). -/

-- One theorem at a time: many at once, each with a thread of its own, do not fit in memory.
set_option Elab.async false

namespace Sys2Proof.Machine

variable (c : Chip)

/-! ## FOLD_CHECKS_END -/

section

variable {c} {d : Chip} {res : Except FoldErr (Fold × List Nat)}

/-- The code kept for SHP_BOOT_ERR.last has no part in how the checks end. -/
theorem foldChecked_of_putLast {last : Option Nat} (h : foldChecked (c.putLast last) d res) : foldChecked c d res := by
  cases last with
  | none => exact h
  | some e => exact h

/-- Nor has the end of the command. -/
theorem foldChecked_settle (h : foldChecked c d res) : foldChecked c d.settle res := by
  cases res <;>
    simpa only [foldChecked, Chip.settle_fold, d.settle_get (f := F.FOLD_STAT_state) rfl rfl, d.settle_get (f := F.FOLD_STAT_err) rfl rfl,
      d.settle_bit (f := F.FOLD_CTRL_go) rfl rfl] using h

end

/-! ## FOLD_APPLY and FOLD_ZEROING_END -/

/-- At B all that a load stops stands, and units are placed; the pasture is next. -/
def Chip.foldStopped (f : Fold) : Chip :=
  ((((((c.put F.FOLD_STAT_state 3).put F.FOLD_STAT_held 0).dropHandover.abandonTests.dropMirror.pauseOnPasture true).dropChannels f).stopLanes
    f).placeEngines f).placeBanks

theorem Chip.foldStopped_keeps (f : Fold) : KeepsLoad ((c.put F.FOLD_STAT_state 3).put F.FOLD_STAT_held 0) (c.foldStopped f) := by
  have h1 : KeepsLoad ((c.put F.FOLD_STAT_state 3).put F.FOLD_STAT_held 0)
      (((c.put F.FOLD_STAT_state 3).put F.FOLD_STAT_held 0).dropHandover.abandonTests.dropMirror.pauseOnPasture true) :=
    (((KeepsLoad.andOff (.refl _ _ _) (Chip.dropHandover_touches _)).andOff (Chip.abandonTests_touches _)).andOff
      (Chip.dropMirror_touches _)).andOff (Chip.pauseOnPasture_touches _ true)
  unfold Chip.foldStopped
  exact (((h1.trans (Chip.dropChannels_keeps _ f)).trans (Chip.stopLanes_keeps _ f)).trans (Chip.placeEngines_keeps _ f)).trans
    (Chip.placeBanks_keeps _)

/-- The pasture has the paddocks and the bank schedules of `f`; their registers stay as they are. -/
def Chip.padsOf (f : Fold) : Chip := c.setPas fun p => { p with pads := f.pads, sched := f.sched }

theorem Chip.usePads_shows (f : Fold) : Touches [] offLoad (c.padsOf f) (c.usePads f) := by
  unfold Chip.usePads
  extract_lets c1 c2
  have h2 : Touches [] offLoad (c.padsOf f) c2 := (Touches.refl _ _ (c.padsOf f)).foldl fun i hi e => by
    have hlt := List.mem_range.mp hi
    exact (((Touches.refl _ _ e).wr (padBase_off hlt)).wr (padLen_off hlt)).put (sharedPointer_off hlt)
  exact h2.foldl fun i hi e => (Touches.refl _ _ e).wr (sched_off (List.mem_range.mp hi))

/-- The pasture from B on: zero, with the paddocks and the bank schedules of the new fold. -/
def Chip.foldPasture (f : Fold) : Chip := (c.foldStopped f).zeroPasture.usePads f

theorem Chip.foldPasture_pas (f : Fold) : (c.foldPasture f).pas = ((c.foldStopped f).zeroPasture.padsOf f).pas :=
  (Chip.usePads_shows _ f).same .pas (by decide)

theorem Chip.foldPasture_state (f : Fold) : (c.foldPasture f).get F.FOLD_STAT_state = 3 := by
  calc (c.foldPasture f).get F.FOLD_STAT_state
      = (c.foldStopped f).get F.FOLD_STAT_state := (Chip.usePads_shows _ f).get rfl
    _ = ((c.put F.FOLD_STAT_state 3).put F.FOLD_STAT_held 0).get F.FOLD_STAT_state := (c.foldStopped_keeps f).get rfl
    _ = (c.put F.FOLD_STAT_state 3).get F.FOLD_STAT_state := Chip.get_put_apart _ (by decide) (by decide) 0
    _ = 3 := c.get_put_self _ (by decide) 3

theorem Chip.foldApply_due {f : Fold} (hf : c.fold.next = some f) (hst : c.get F.FOLD_STAT_state = 2) (hb : c.time.stc = c.fold.bAt)
    (hz : c.time.frac.val = 0) : c.foldApply =
      (((c.foldPasture f).setFold fun s => { s with zeroing := true }).wr R.PAS_R_STC_LO (BitVec.ofNat 32 c.fold.rAt)).wr R.PAS_R_STC_HI
        (BitVec.ofNat 32 (c.fold.rAt / 2 ^ 32)) := by
  unfold Chip.foldApply
  rw [hf]
  exact if_neg (by simp [hst, hb, hz])

theorem Chip.foldZeroingEnd_due (h : c.fold.zeroing = true) : c.foldZeroingEnd =
    ((c.advanceTo (c.fold.bAt * rootPerTick + 4 * 65536)).setFold fun s => { s with zeroing := false }).setPas fun p =>
      { p with
        scrubReq := []
        scrubBack := []
        scrubRow := []
        scrubAt := if (c.advanceTo (c.fold.bAt * rootPerTick + 4 * 65536)).bit F.PAS_SCRUB_en then
          some (c.advanceTo (c.fold.bAt * rootPerTick + 4 * 65536)).now else none } := by
  unfold Chip.foldZeroingEnd
  exact if_neg (by simp [h])

/-! ## FOLD_DONE -/

/-- The registers that show that a fold is in force from R. -/
def Chip.loadShown (f : Fold) (hold : Bool) : Chip :=
  (((((c.put F.FOLD_STAT_state 0).put F.FOLD_STAT_loaded 1).put F.FOLD_STAT_rate f.rate).wr R.FOLD_ID f.foldId).put F.FOLD_CTRL_go 0).putB
    F.FOLD_STAT_held hold

/-- A field of FOLD_STAT that the last steps of `loadShown` leave. -/
theorem Chip.loadShown_get (f : Fold) (hold : Bool) {g : Fld} (ha : g.addr = R.FOLD_STAT) (hg : g.fits = true)
    (hh : F.FOLD_STAT_held.apart g = true) : (c.loadShown f hold).get g =
      (((c.put F.FOLD_STAT_state 0).put F.FOLD_STAT_loaded 1).put F.FOLD_STAT_rate f.rate).get g := by
  unfold Chip.loadShown Chip.putB
  rw [Chip.get_put_apart _ hh hg, Chip.get_put_ne _ (by rw [ha]; decide), Chip.get_wr_ne _ (by rw [ha]; decide)]

theorem Chip.loadShown_state (f : Fold) (hold : Bool) : (c.loadShown f hold).get F.FOLD_STAT_state = 0 := by
  rw [c.loadShown_get f hold rfl (by decide) (by decide), Chip.get_put_apart _ (by decide) (by decide),
    Chip.get_put_apart _ (by decide) (by decide), Chip.get_put_self _ _ (by decide)]
  rfl

theorem Chip.loadShown_loaded (f : Fold) (hold : Bool) : (c.loadShown f hold).get F.FOLD_STAT_loaded = 1 := by
  rw [c.loadShown_get f hold rfl (by decide) (by decide), Chip.get_put_apart _ (by decide) (by decide), Chip.get_put_self _ _ (by decide)]
  rfl

theorem Chip.loadShown_rate (f : Fold) (hold : Bool) : (c.loadShown f hold).get F.FOLD_STAT_rate = F.FOLD_STAT_rate.cut f.rate := by
  rw [c.loadShown_get f hold rfl (by decide) (by decide), Chip.get_put_self _ _ (by decide)]
  rfl

theorem Chip.loadShown_id (f : Fold) (hold : Bool) : (c.loadShown f hold).rd R.FOLD_ID = f.foldId := by
  unfold Chip.loadShown Chip.putB
  rw [Chip.rd_put_ne _ (by decide), Chip.rd_put_ne _ (by decide), Chip.rd_wr_self]

theorem Chip.loadShown_touches (f : Fold) (hold : Bool) : Touches [] (onPages [.fold]) c (c.loadShown f hold) :=
  (Touches.refl _ _ c).put.put.put.wr.put.putB

/-- At R the load's registers are set, then the fold is in force; nothing else that happens at R changes either. -/
theorem Chip.reachR_parts (f : Fold) (hold : Bool) : ∃ b e, KeepsLoad (c.loadShown f hold) b ∧ KeepsLoad e (c.reachR f hold) ∧
    e.regs = b.regs ∧ e.fold = { b.fold with cur := some f, next := none, zeroing := false, startLoad := false } := by
  unfold Chip.reachR
  extract_lets c1 c2 _ _ _ c3 c4
  refine ⟨(c1.useGuard f).usePorts f, c3, (c1.useGuard_keeps f).trans (Chip.usePorts_keeps _ f), ?_, rfl, rfl⟩
  have h4 : KeepsLoad c3 c4 := (((c3.startLanes_keeps hold).trans (Chip.startEngines_keeps _ hold)).trans
    (ClockMoves.keepsLoad _ (Chip.writeClkCtrl_moves _ _))).trans (Chip.judgeNoFold_keeps _)
  exact h4.trans (c4.lnkFold_keeps f)

theorem Chip.reachR_fold (f : Fold) (hold : Bool) : (c.reachR f hold).fold.cur = some f ∧ (c.reachR f hold).fold.next = none := by
  obtain ⟨b, e, -, hlast, -, he⟩ := c.reachR_parts f hold
  rw [hlast.fold_eq, he]
  exact ⟨rfl, rfl⟩

theorem Chip.reachR_rd (f : Fold) (hold : Bool) {a : Nat} (ha : offLoad a = false) (ht : a ≠ R.PWR_TMR := by decide) :
    (c.reachR f hold).rd a = (c.loadShown f hold).rd a := by
  obtain ⟨b, e, hfirst, hlast, hregs, -⟩ := c.reachR_parts f hold
  calc (c.reachR f hold).rd a = e.rd a := hlast.rd a ha ht
    _ = b.rd a := Chip.rd_congr hregs a
    _ = (c.loadShown f hold).rd a := hfirst.rd a ha ht

theorem Chip.reachR_get (f : Fold) (hold : Bool) {g : Fld} (hg : offLoad g.addr = false) (ht : g.addr ≠ R.PWR_TMR := by decide) :
    (c.reachR f hold).get g = (c.loadShown f hold).get g := by
  simp only [Chip.get, c.reachR_rd f hold hg ht]

/-- The first load ends state START (R428). -/
def Chip.endStart : Chip := if c.get F.PWR_STAT_state = 0 then c.put F.PWR_STAT_state 1 else c

theorem Chip.endStart_touches : Touches [] (onPages [.pwr]) c c.endStart := by
  unfold Chip.endStart
  split
  · exact (Touches.refl _ _ c).put
  · exact .refl _ _ c

theorem Chip.endStart_state (h : c.get F.PWR_STAT_state = 0) : c.endStart.get F.PWR_STAT_state = 1 := by
  rw [Chip.endStart, if_pos h]
  exact c.get_put_self _ (by decide) 1

theorem Chip.foldDone_due {f : Fold} (hf : c.fold.next = some f) (hr : c.atR = true) (hw : c.get F.PWR_STAT_state ≠ 4) :
    c.foldDone = (c.reachR f c.fold.hold).endStart.raise Ev.FOLD_DONE locNone 0 := by
  unfold Chip.foldDone
  rw [hf]
  exact if_neg (by simp [hr, hw])

end Sys2Proof.Machine

namespace Sys2Proof

open Sys2Proof.Machine

section

variable (s : State)

theorem exec_foldGo (r : Req) (v : Word) : exec (.foldGo r v) s = s.act fun c => c.guarded r R.FOLD_CTRL fun c => c.writeFoldCtrl v := rfl
theorem exec_foldChecksEnd : exec .foldChecksEnd s = s.act fun c => c.foldChecksEnd := rfl
theorem exec_foldApply : exec .foldApply s = s.act fun c => c.foldApply := rfl
theorem exec_foldZeroingEnd : exec .foldZeroingEnd s = s.act fun c => c.foldZeroingEnd := rfl
theorem exec_foldDone : exec .foldDone s = s.act fun c => c.foldDone := rfl

end

/-- A row of a fold load that is ready completes with its effect. -/
def FoldRowCompletes (i : Instr) (s : State) : Prop :=
  foldReady s.chip i = true → Completes i s fun d => foldEffect s.chip d i

section

variable {s : State}

theorem foldGo_completes {r : Req} {v : Word} : FoldRowCompletes (.foldGo r v) s := by
  intro h
  simp only [foldReady, Bool.and_eq_true, decide_eq_true_eq] at h
  obtain ⟨⟨⟨hacc, hv⟩, hst⟩, hsh⟩ := h
  have h1 := s.chip.foldAsked_touches v
  have hbegun : Touches [] foldWords s.chip (s.chip.foldAsked v).foldBegun :=
    (h1.mono (by decide) fun a ha => by simp_all [foldWords]).put.put
  have hat : (s.chip.foldAsked v).rd64 R.FOLD_AT_LO R.FOLD_AT_HI = s.chip.rd64 R.FOLD_AT_LO R.FOLD_AT_HI := by
    simp only [Chip.rd64, h1.rd R.FOLD_AT_LO rfl (by decide), h1.rd R.FOLD_AT_HI rfl (by decide)]
  have hcur : (s.chip.foldAsked v).foldBegun.fold = s.chip.fold := hbegun.same .fold (by decide)
  refine completes_act (exec_foldGo s r v) ?_
  simp only [foldEffect]
  rw [s.chip.guarded_accepted hacc, s.chip.writeFoldCtrl_taken hv hst hsh, Chip.settle_get _ (by decide) (by decide),
    Chip.settle_bit _ (by decide) (by decide), Chip.settle_fold, s.chip.copyBundle_bundle, s.chip.copyBundle_srcErr]
  refine ⟨?_, ?_, rfl, rfl, hat, hbegun.bundleBytes, hbegun.bundleErr, (congrArg FoldSt.cur hcur :)⟩
  · exact Chip.get_put_self ((s.chip.foldAsked v).put F.FOLD_CTRL_go 1) F.FOLD_STAT_state (by decide) 1
  · exact (Chip.bit_put_ne _ (by decide) 1).trans (Chip.bit_put_self (s.chip.foldAsked v) F.FOLD_CTRL_go (by decide) 1)

theorem foldChecksEnd_completes : FoldRowCompletes .foldChecksEnd s := by
  intro h
  simp only [foldReady, Bool.and_eq_true, decide_eq_true_eq, Bool.not_eq_true'] at h
  obtain ⟨hst, hsl⟩ := h
  have hdue : s.chip.foldChecksEnd = (s.chip.putLast s.chip.refoldCheck.2).checksEnd s.chip.refoldCheck.1 := by
    rw [s.chip.foldChecksEnd_eq]
    exact if_neg (by simp [hst, hsl])
  refine completes_act (exec_foldChecksEnd s) ?_
  rw [hdue]
  exact foldChecked_settle (foldChecked_of_putLast (Chip.checksEnd_checked _ _))

theorem foldApply_completes : FoldRowCompletes .foldApply s := by
  intro h
  simp only [foldReady, Bool.and_eq_true, decide_eq_true_eq] at h
  obtain ⟨⟨⟨hsome, hst⟩, hb⟩, hz⟩ := h
  obtain ⟨f, hf⟩ := Option.isSome_iff_exists.mp hsome
  refine completes_act (exec_foldApply s) ?_
  simp only [foldEffect]
  rw [s.chip.foldApply_due hf hst hb hz, Chip.settle_get _ (by decide) (by decide), Chip.settle_fold, Chip.settle_pas, hf,
    Chip.get_wr_ne _ (by decide), Chip.get_wr_ne _ (by decide), Chip.get_congr (Chip.setFold_regs _ _), Chip.wr_fold, Chip.wr_fold,
    Chip.wr_pas, Chip.wr_pas, Chip.setFold_pas, s.chip.foldPasture_pas f]
  exact ⟨s.chip.foldPasture_state f, rfl, rfl, rfl, rfl⟩

theorem foldZeroingEnd_completes : FoldRowCompletes .foldZeroingEnd s := by
  intro h
  have hadv : Touches [.time] (onPages []) s.chip (s.chip.advanceTo (s.chip.fold.bAt * rootPerTick + 4 * 65536)) :=
    (Touches.refl _ _ s.chip).advanceTo
  refine completes_act (exec_foldZeroingEnd s) ?_
  simp only [foldEffect]
  rw [s.chip.foldZeroingEnd_due h, Chip.settle_fold, Chip.settle_pas, Chip.settle_now, hadv.bit rfl]
  exact ⟨rfl, rfl, rfl, rfl⟩

theorem foldDone_completes : FoldRowCompletes .foldDone s := by
  intro h
  simp only [foldReady, Bool.and_eq_true, decide_eq_true_eq] at h
  obtain ⟨⟨hsome, hr⟩, hw⟩ := h
  obtain ⟨f, hf⟩ := Option.isSome_iff_exists.mp hsome
  have hend := (s.chip.reachR f s.chip.fold.hold).endStart_touches
  have hfold : (s.chip.reachR f s.chip.fold.hold).endStart.fold = (s.chip.reachR f s.chip.fold.hold).fold := hend.same .fold (by decide)
  obtain ⟨hcur, hnext⟩ := s.chip.reachR_fold f s.chip.fold.hold
  have hget {g : Fld} (hoff : offLoad g.addr = false) (hpwr : onPages [.pwr] g.addr = false) (ht : g.addr ≠ R.PWR_TMR) :
      (s.chip.reachR f s.chip.fold.hold).endStart.get g = (s.chip.loadShown f s.chip.fold.hold).get g :=
    (hend.get hpwr ht).trans (s.chip.reachR_get f _ hoff ht)
  refine completes_act (exec_foldDone s) ?_
  simp only [foldEffect]
  rw [s.chip.foldDone_due hf hr hw, Chip.settle_get (f := F.FOLD_STAT_state) _ (by decide) (by decide),
    Chip.settle_get (f := F.FOLD_STAT_rate) _ (by decide) (by decide), Chip.settle_get (f := F.PWR_STAT_state) _ (by decide) (by decide),
    Chip.settle_bit _ (by decide) (by decide), Chip.settle_rd _ (by decide) (by decide), Chip.settle_fold, hf]
  refine ⟨?_, ?_, ?_, ?_, ?_, ?_, fun h0 => ?_⟩
  · exact (hget rfl (by decide) (by decide)).trans (s.chip.loadShown_state f _)
  · have hl := (hget (g := F.FOLD_STAT_loaded) rfl (by decide) (by decide)).trans (s.chip.loadShown_loaded f _)
    exact (congrArg (fun n => decide (n ≠ 0)) hl :)
  · exact (congrArg FoldSt.cur hfold).trans hcur
  · exact (congrArg FoldSt.next hfold).trans hnext
  · exact ((hend.rd R.FOLD_ID (by decide) (by decide)).trans (s.chip.reachR_rd f _ rfl)).trans (s.chip.loadShown_id f _)
  · exact (hget rfl (by decide) (by decide)).trans (s.chip.loadShown_rate f _)
  · refine Chip.endStart_state _ ?_
    rw [s.chip.reachR_get f _ rfl, (s.chip.loadShown_touches f _).get (by decide), h0]

end

/-- Settles O26: each row that is ready completes with its effect. -/
theorem foldRowsComplete : Obligations.FoldRowsComplete := by
  intro i s hs hready
  have h := hready
  unfold foldReady at h
  split at h
  next => exact foldGo_completes hready
  next => exact foldChecksEnd_completes hready
  next => exact foldApply_completes hready
  next => exact foldZeroingEnd_completes hready
  next => exact foldDone_completes hready
  next => exact absurd h (by decide)

end Sys2Proof
end

section
/-! PROOFS. What an instruction does whose processor may not issue, and what an instruction that fails does: an engine's fault ends its
frame (R78), the crook takes a trap (R261). -/

namespace Sys2Proof.Machine

variable (c : Chip)

/-! ## A processor that may not issue (R76, R77, R85, R123) -/

/-- An instruction of an engine or the crook is an issue of its encoding. -/
theorem exec_eq_issue {i : Instr} {w : Proc} {px : Px} {e : Enc} (h : Sys2Proof.encOf i = some (w, px, e)) :
    ∃ body, ∀ s, exec i s = s.act fun c => c.issue w px e body := by
  unfold Sys2Proof.encOf at h
  split at h <;> cases h <;> exact ⟨_, fun _ => rfl⟩

theorem Chip.issue_blocked {w : Proc} (h : c.canIssue w = false) (px : Px) (e : Enc) (body : Body) : c.issue w px e body = c := by
  unfold Chip.issue
  rw [if_pos (by rw [h]; rfl)]

/-! ## Engines and the end of a command -/

@[simp] theorem Chip.engine_setEngine_self (n : Nat) (e : Eng) : (c.setEngine n e).engine n = e := KMap.get_set_self _ _ _ _

theorem Chip.engine_setEngine_ne {n m : Nat} (h : m ≠ n) (e : Eng) : (c.setEngine n e).engine m = c.engine m :=
  KMap.get_set_ne _ _ h _ _

theorem Chip.engine_congr {c d : Chip} (h : d.eng = c.eng) (n : Nat) : d.engine n = c.engine n := by simp only [Chip.engine, h]

@[simp] theorem Chip.settle_engine (n : Nat) : c.settle.engine n = c.engine n := Chip.engine_congr c.settle_eng n

/-- The end of a command leaves the engines' pages. -/
theorem inSe.kept {a : Nat} (h : inSe a) : flushReg a = false ∧ holdReg a = false := by
  obtain ⟨hlo, hhi⟩ := h
  simp only [flushReg, holdReg, R.EVT_Q_DROP, R.EVT_STAT, R.EVT_LPEND_LO, R.EVT_LPEND_HI, R.EVT_HSUM, R.GUARD_AIR_CNT, R.RF_TX_STAT,
    R.RF_WAKE_TX_CTRL, R.RF_STAT, Bool.or_eq_false_iff, beq_eq_false_iff_ne, ne_eq]
  omega

theorem Chip.settle_getSe {f : Fld} (h : inSe f.addr) : c.settle.get f = c.get f := c.settle_get h.kept.1 h.kept.2

theorem Chip.settle_bitSe {f : Fld} (h : inSe f.addr) : c.settle.bit f = c.bit f := c.settle_bit h.kept.1 h.kept.2

/-! ## A field that is set stays set -/

theorem Chip.latch_regs (f : Fld) : (c.latch f).regs = (c.put f 1).regs := rfl

theorem Chip.get_latch_self {f : Fld} (h : f.lo + f.width ≤ 32) : (c.latch f).get f = 1 % 2 ^ f.width := by
  rw [Chip.get_congr (c.latch_regs f), c.get_put_self f h]

/-! ## An engine's fault (R78) -/

theorem Chip.engineFault_ended (n : Nat) : ((c.engineFault n).engine n).core.ended = true :=
  congrArg (fun e : Eng => e.core.ended) (c.engine_setEngine_self n _)

/-- An engine's fault, the event apart. -/
def Chip.faultNoted (n : Nat) : Chip := ((c.endEngine n).noteCycle n (c.engine n).core.cyc).latch (F.SE_FAULT_eng n)

theorem Chip.engineFault_regs (n : Nat) :
    (c.engineFault n).regs = ((c.faultNoted n).put (F.SE_FAULT_PC_pc n) (c.engine n).core.pc).regs := rfl

theorem Chip.engineFault_eng (n : Nat) : (c.engineFault n).get (F.SE_FAULT_eng n) = 1 := by
  have hne : (F.SE_FAULT_eng n).addr ≠ (F.SE_FAULT_PC_pc n).addr := by simp [F.SE_FAULT_eng, F.SE_FAULT_PC_pc, R.SE_FAULT, R.SE_FAULT_PC]
  rw [Chip.get_congr (c.engineFault_regs n), Chip.get_put_ne _ hne, Chip.faultNoted, Chip.get_latch_self _ (by simp [F.SE_FAULT_eng])]
  rfl

theorem Chip.engineFault_pc (n : Nat) : (c.engineFault n).get (F.SE_FAULT_PC_pc n) = (c.engine n).core.pc % 2 ^ 16 := by
  rw [Chip.get_congr (c.engineFault_regs n), Chip.get_put_self _ _ (by simp [F.SE_FAULT_PC_pc])]
  rfl

theorem inSe_faultPc {n : Nat} (hn : n < 17) : inSe (R.SE_FAULT_PC n) := by unfold inSe R.SE_FAULT_PC; omega

/-! ## A trap of the crook (R261) -/

/-- The crook as a trap leaves it that does not halt it. -/
structure EnteredTrap (vec epc : Nat) (c d : Chip) : Prop where
  pc : d.crook.core.pc = c.crook.vbase.toNat + 16 * vec
  epc : d.crook.epc = epc % 2 ^ 20
  mode : d.crook.mode = 0b101
  wd : d.crook.core.wd = c.crook.core.wd

theorem Chip.takeTrap_enters {vec : Nat} (hm : c.crook.mode.getLsbD 2 = false) (hv : c.crook.vbase.toNat + 16 * vec < 2 ^ 20)
    (epc t : Nat) (ds sync : Bool) (fa : Option Word) : EnteredTrap vec epc c (c.takeTrap vec epc t ds sync fa) := by
  have hpc : ¬ 2 ^ 20 ≤ c.crook.vbase.toNat + 16 * vec := Nat.not_le.mpr hv
  unfold Chip.takeTrap
  simp only [hm, Bool.and_false, Bool.false_eq_true, if_false, if_neg hpc]
  exact ⟨rfl, rfl, rfl, rfl⟩

theorem Chip.takeTrap_cause {vec : Nat} (hm : c.crook.mode.getLsbD 2 = false) (hv : c.crook.vbase.toNat + 16 * vec < 2 ^ 20)
    (h7 : vec ≠ 7) (epc t : Nat) (sync : Bool) (fa : Option Word) :
    (c.takeTrap vec epc t false sync fa).crook.cause = BitVec.ofNat 17 vec := by
  have hpc : ¬ 2 ^ 20 ≤ c.crook.vbase.toNat + 16 * vec := Nat.not_le.mpr hv
  unfold Chip.takeTrap
  simp only [hm, Bool.and_false, Bool.false_eq_true, if_false, if_neg hpc, if_neg h7]
  rfl

/-- Outside slots and repeats an instruction of the crook that fails is a trap at its own address. -/
theorem Chip.fail_crook (hs : c.crook.core.slot = .none) (left : Nat) (t : Trap) :
    c.fail .crook false left t = c.takeTrap t.1 c.crook.core.pc 0 false true t.2 := by
  unfold Chip.fail
  rw [hs]
  rfl

/-! ## An instruction whose body fails -/

theorem Chip.iterate_one_error {w : Proc} {px : Px} {body : Body} {t : Trap} (ht : w.isCrook = true ∨ (c.core w).cyc < c.tailCycle)
    (hp : (c.core w).pend = []) (hn : Ctx.nullified ⟨w, c.core w, px⟩ = false) (hb : body c ⟨w, c.core w, px⟩ = .error t) :
    Chip.iterate w px body 1 c = .trapped c 1 t := by
  have hc : (!w.isCrook && decide (c.tailCycle ≤ (c.core w).cyc)) = false := by
    rcases ht with h | h
    · simp [h]
    · simp [Nat.not_le.mpr h]
  simp [Chip.iterate, hc, Chip.landTo_nil c w _ hp, hn, hb]

/-- Issuing an instruction whose body fails, where nothing but the instruction itself happens: the shared law of faults and traps. -/
theorem Chip.issue_plain_error {w : Proc} {px : Px} {e : Enc} {body : Body} {t : Trap} (hi : Sys2Proof.plainIssue c w px e = true)
    (hn : Ctx.nullified ⟨w, c.core w, px⟩ = false) (hb : body (Sys2Proof.atIssue c w) ⟨w, c.core w, px⟩ = .error t) :
    c.issue w px e body = (Sys2Proof.atIssue c w).fail w false 1 t := by
  simp only [Sys2Proof.plainIssue, Bool.and_eq_true, decide_eq_true_eq, List.isEmpty_iff, Option.isNone_iff_eq_none] at hi
  obtain ⟨⟨⟨⟨⟨⟨⟨hcan, hpend⟩, hslot⟩, hfetch⟩, henc⟩, hpriv⟩, hrep⟩, hleft⟩ := hi
  have hpriv' : (w.isCrook && privileged e.op && !c.crook.mode.getLsbD 0) = false := by
    rcases Bool.or_eq_true_iff.mp hpriv with h | h
    · rw [Bool.not_eq_true'] at h
      rw [h, Bool.false_and]
    · rw [h, Bool.not_true, Bool.and_false]
  have ht : w.isCrook = true ∨ (c.core w).cyc < c.tailCycle := by
    cases w with
    | engine n => exact .inr (canIssue_tail c n hcan)
    | crook => exact .inl rfl
  have h1 := Chip.iterate_one_error (Sys2Proof.atIssue c w) (w := w) (px := px) (body := body) (t := t)
  simp only [atIssue_core, atIssue_tail] at h1
  have h2 := h1 ht hpend hn hb
  have hr : Ctx.repCount ⟨w, c.core w, px⟩ = 1 := by simp [Ctx.repCount, hrep]
  unfold Chip.issue
  simp only [hcan, Chip.landTo_nil c w _ hpend, hslot, hfetch, hr, hpriv', hrep]
  cases w with
  | engine n => simp_all [Proc.isCrook, Sys2Proof.atIssue]
  | crook => simp_all [Proc.isCrook, Sys2Proof.atIssue]

/-- Bytes that decode to no instruction fail, with a trap to vector 1 where they may be fetched (R109, R256). -/
theorem Chip.illegal_undecoded {w : Proc} {bytes : List Byte} (hd : decodeBytes bytes = none) (hc : c.canIssue w = true)
    (hp : (c.core w).pend = []) : ∃ t, c.illegal w bytes = c.fail w false 0 t ∧
      (c.fetchFault w (c.core w).pc (refusedLen 9 0xEF bytes) = none → t = (1, none)) := by
  unfold Chip.illegal
  simp only [hd, hc, Bool.not_true, Bool.false_eq_true, if_false, Chip.landTo_nil c w _ hp]
  cases hf : c.fetchFault w (c.core w).pc (refusedLen 9 0xEF bytes) with
  | some t => exact ⟨t, rfl, fun h => by cases h⟩
  | none => exact ⟨(1, none), rfl, fun _ => rfl⟩

end Sys2Proof.Machine

namespace Sys2Proof

open Sys2Proof.Machine

/-- Settles O8: such an instruction is an issue, an issue by a processor that may not leaves the device, and so does the end of the
command, since the device is settled. -/
theorem processorThatMayNotIssueStandsStill : Obligations.ProcessorThatMayNotIssueStandsStill := by
  intro i s hmay hsafe
  unfold mayNotIssue at hmay
  split at hmay
  next w px e henc =>
    obtain ⟨body, hexec⟩ := exec_eq_issue henc
    rw [hexec, State.act, s.chip.issue_blocked (by simpa using hmay), Chip.settle_id s hsafe]
  next => cases hmay

variable {s : State} {i : Instr}

/-- A command that ends in an engine's fault completes with it (R78). -/
theorem completes_engineFault {n : Fin 17} {f : Chip → Chip} (he : exec i s = s.act f) (hf : f s.chip = s.chip.engineFault n.val) :
    Completes i s fun d => (d.core (.engine n)).ended = true ∧ d.get (F.SE_FAULT_eng n.val) = 1 ∧
      d.get (F.SE_FAULT_PC_pc n.val) = (s.chip.core (.engine n)).pc % 2 ^ 16 := by
  refine completes_act he ?_
  rw [hf, Chip.settle_getSe _ (inSe_fault n.isLt), Chip.settle_getSe _ (inSe_faultPc n.isLt)]
  refine ⟨?_, s.chip.engineFault_eng n.val, s.chip.engineFault_pc n.val⟩
  exact (congrArg (fun e : Eng => e.core.ended) (Chip.settle_engine _ n.val)).trans (s.chip.engineFault_ended n.val)

/-- A program that may be fetched lies within the addresses that SE_FAULT_PC holds. -/
theorem pc_lt_of_plainIssue {n : Fin 17} {px : Px} {e : Enc} (h : plainIssue s.chip (.engine n) px e = true) :
    (s.chip.core (.engine n)).pc < 2 ^ 16 := by
  simp only [plainIssue, Bool.and_eq_true] at h
  obtain ⟨⟨⟨⟨⟨-, hfetch⟩, -⟩, -⟩, -⟩, -⟩ := h
  by_contra hpc
  rw [Chip.fetchFault, if_neg (by omega)] at hfetch
  exact absurd hfetch (by simp)

/-- An instruction that fails to move the window fails with the trap of that vector. -/
theorem window_fails {px : Px} {c8 : Byte} {off : BitVec 24} {w : Proc} {e : Enc} {v : Nat}
    (hcond : condTrue (c8.toNat % 16) (s.chip.core w).fl = true)
    (h : (i = .call w px c8 off ∧ e = ⟨0xA1, c8.toNat + 256 * off.toNat⟩ ∧ (s.chip.core w).wd = 14 ∧ v = 3) ∨
      (i = .callr w px c8 ∧ e = ⟨0xA3, c8.toNat⟩ ∧ (s.chip.core w).wd = 14 ∧ v = 3) ∨
      (i = .ret w px c8 ∧ e = ⟨0xA4, c8.toNat⟩ ∧ (s.chip.core w).wd = 0 ∧ v = 4)) :
    ∃ body, (exec i s = s.act fun c => c.issue w px e body) ∧ body (atIssue s.chip w) ⟨w, s.chip.core w, px⟩ = .error (v, none) := by
  rcases h with ⟨rfl, rfl, hwd, rfl⟩ | ⟨rfl, rfl, hwd, rfl⟩ | ⟨rfl, rfl, hwd, rfl⟩
  · exact ⟨_, rfl, by simp [opCall, hcond, hwd]⟩
  · exact ⟨_, rfl, by simp [opCall, hcond, hwd]⟩
  · exact ⟨_, rfl, by simp [opRet, hcond, hwd]⟩

/-- Settles O17: the body of the instruction fails, which in an engine is its fault and in the crook a trap at its address. -/
theorem windowOverflowAndUnderflow : Obligations.WindowOverflowAndUnderflow := by
  intro s px c8 off w i e v k hplain hcond hcase
  obtain ⟨-, hissue, -, hnull⟩ := hplain
  have hslot : (s.chip.core w).slot = .none := by
    simp only [plainIssue, Bool.and_eq_true, decide_eq_true_eq] at hissue
    obtain ⟨⟨⟨⟨⟨⟨-, hslot⟩, -⟩, -⟩, -⟩, -⟩, -⟩ := hissue
    exact hslot
  have hv : v ≠ 7 := by omega
  obtain ⟨body, hexec, hbody⟩ := window_fails hcond hcase
  have hfail := s.chip.issue_plain_error hissue hnull hbody
  refine ⟨fun n hw => ?_, fun hw hm hvec => ?_⟩
  · subst hw
    have h := completes_engineFault hexec hfail
    rwa [Nat.mod_eq_of_lt (pc_lt_of_plainIssue hissue)] at h
  · subst hw
    have htrap := (Chip.fail_crook (atIssue s.chip .crook) hslot 1 (v, none))
    have hin := Chip.takeTrap_enters (atIssue s.chip .crook) hm hvec s.chip.crook.core.pc 0 false true none
    refine completes_act hexec ?_
    rw [hfail, htrap, Chip.settle_crook]
    exact ⟨hin.pc, hin.epc, hin.mode, Chip.takeTrap_cause (atIssue s.chip .crook) hm hvec hv _ _ _ _, hin.wd⟩

/-- Settles O24: bytes that decode to no instruction fail, which in an engine is its fault and in the crook a trap to vector 1. -/
theorem illegalEncodingFaultsOrTraps : Obligations.IllegalEncodingFaultsOrTraps := by
  intro s w bytes hdec hcan hpend hslot
  obtain ⟨t, hfail, ht⟩ := s.chip.illegal_undecoded hdec hcan hpend
  have hexec : exec (.illegalEncoding w bytes) s = s.act fun c => c.illegal w bytes := rfl
  refine ⟨fun n hw => ?_, fun hw hm hvec hfetch => ?_⟩
  · subst hw
    exact (completes_engineFault hexec hfail).imp fun d hd => ⟨hd.1, hd.2.1⟩
  · subst hw
    obtain rfl := ht hfetch
    have hin := s.chip.takeTrap_enters hm hvec s.chip.crook.core.pc 0 false true none
    refine completes_act hexec ?_
    rw [hfail, s.chip.fail_crook hslot, Chip.settle_crook]
    exact ⟨hin.pc, hin.epc, hin.mode⟩

end Sys2Proof
end

section
/-! PROOFS. The rows that start, stop, clear and end engines complete with their effects (R77, R86 to R89, R149). -/

namespace Sys2Proof.Machine

variable (c : Chip)

/-! ## Fields that a row sets -/

theorem Chip.put_engine (f : Fld) (v n : Nat) : (c.put f v).engine n = c.engine n := Chip.engine_congr rfl n

/-- From `c` to `d` no field of a register changes but those that share a bit with one of `l`. -/
def KeepsFlds (l : List Fld) (c d : Chip) : Prop := ∀ g : Fld, g.freeOf l = true → d.get g = c.get g

namespace KeepsFlds

theorem refl (c : Chip) : KeepsFlds [] c c := fun _ _ => rfl

variable {c} {d e : Chip} {l m : List Fld}

theorem append (h : KeepsFlds l c d) (k : KeepsFlds m d e) : KeepsFlds (m ++ l) c e := fun g hg =>
  (k g (Fld.freeOf_mono (List.subset_append_left m l) hg)).trans (h g (Fld.freeOf_mono (List.subset_append_right m l) hg))

theorem bit (h : KeepsFlds l c d) {g : Fld} (hg : g.freeOf l = true) : d.bit g = c.bit g := by simp only [Chip.bit, h g hg]

/-- A change beside the registers. -/
theorem aside (h : KeepsFlds l c d) (hr : e.regs = d.regs) : KeepsFlds l c e := fun g hg => (Chip.get_congr hr g).trans (h g hg)

theorem put (h : KeepsFlds l c d) {f : Fld} {v : Nat} : KeepsFlds (f :: l) c (d.put f v) := h.append (d.put_moves f v).get

theorem wr (h : KeepsFlds l c d) {a : Nat} {v : Word} : KeepsFlds (Fld.whole a :: l) c (d.wr a v) := h.append (d.wr_moves a v).get

theorem latch (h : KeepsFlds l c d) {f : Fld} : KeepsFlds (f :: l) c (d.latch f) := h.append (d.latch_moves f).get

theorem rcChange (h : KeepsFlds l c d) {f : Fld} {g : Nat → Nat} : KeepsFlds (f :: l) c (d.rcChange f g) := h.put.aside rfl

theorem bump (h : KeepsFlds l c d) {f : Fld} : KeepsFlds (f :: l) c (d.bump f) := h.rcChange

theorem advanceTo (h : KeepsFlds l c d) {n : Nat} : KeepsFlds (Fld.whole R.PWR_TMR :: l) c (d.advanceTo n) :=
  h.append (d.advanceTo_moves n).get

end KeepsFlds

/-! ## A write of SE_CTRL (R86 to R89) -/

/-- The plain bit of SE_CTRL is written. -/
def Chip.ctrlWritten (n : Nat) (v : Word) : Chip := c.put (F.SE_CTRL_ovr_stop n) ((F.SE_CTRL_ovr_stop n).of v)

section

variable {n : Nat} {v : Word}

theorem Chip.writeSeCtrl_run (hr : (F.SE_CTRL_run_req n).ofB v = true) (hs : (F.SE_CTRL_stop_req n).ofB v = false)
    (hc : (F.SE_CTRL_clr n).ofB v = false) : c.writeSeCtrl n v = (c.ctrlWritten n v).askRoleRun n := by
  simp [Chip.writeSeCtrl, hr, hs, hc, Chip.ctrlWritten]

theorem Chip.writeSeCtrl_stop (hr : (F.SE_CTRL_run_req n).ofB v = false) (hs : (F.SE_CTRL_stop_req n).ofB v = true)
    (hc : (F.SE_CTRL_clr n).ofB v = false) : c.writeSeCtrl n v = (c.ctrlWritten n v).askRoleStop n := by
  simp [Chip.writeSeCtrl, hr, hs, hc, Chip.ctrlWritten]

theorem Chip.writeSeCtrl_clear (hr : (F.SE_CTRL_run_req n).ofB v = false) (hs : (F.SE_CTRL_stop_req n).ofB v = false)
    (hc : (F.SE_CTRL_clr n).ofB v = true) : c.writeSeCtrl n v = (c.ctrlWritten n v).askClear n := by
  simp [Chip.writeSeCtrl, hr, hs, hc, Chip.ctrlWritten]

end

/-- The fields of SE_CTRL. -/
def ctrlFlds (n : Nat) : List Fld := [F.SE_CTRL_ovr_stop n, F.SE_CTRL_run_req n, F.SE_CTRL_stop_req n, F.SE_CTRL_clr n]

theorem stat_free_ctrl : ∀ n : Fin 17, (F.SE_STAT_state n.val).freeOf (ctrlFlds n.val) = true ∧
    (F.SE_STAT_role n.val).freeOf (ctrlFlds n.val) = true ∧ F.FOLD_STAT_state.freeOf (ctrlFlds n.val) = true := by decide +kernel

theorem stat_free_stop : ∀ n : Fin 17, (F.SE_STAT_state n.val).freeOf [F.SE_STAT_rej n.val, F.SE_CTRL_stop_req n.val] = true := by
  decide +kernel

/-- What `c` shows of the state and the role of engine `n`, of the load in progress, of its engines and of time, `d` shows too. -/
structure SameRole (n : Nat) (c d : Chip) : Prop where
  state : d.seState n = c.seState n
  held : d.heldRole n = c.heldRole n
  load : d.get F.FOLD_STAT_state = c.get F.FOLD_STAT_state
  eng : d.engine n = c.engine n
  delay : d.reqDelay = c.reqDelay

theorem SamePlan.reqDelay {d : Chip} (h : SamePlan c d) : d.reqDelay = c.reqDelay := by
  have htail : d.tailCycle = c.tailCycle := congrArg (fun t => t * 3840 - 320) h.frameTicks
  have hcyc : d.seCycle = c.seCycle := by
    rw [Chip.seCycle, Chip.framePeriod, Chip.now, h.frameTicks, h.time, Chip.seCycle, Chip.framePeriod, Chip.now]
  rw [Chip.reqDelay, htail, hcyc, Chip.reqDelay]

theorem Chip.ctrlWritten_sameRole (n : Fin 17) (v : Word) : SameRole n.val c (c.ctrlWritten n.val v) := by
  obtain ⟨hstate, hrole, hload⟩ := stat_free_ctrl n
  have hkeeps : KeepsFlds [F.SE_CTRL_ovr_stop n.val] c (c.ctrlWritten n.val v) := (KeepsFlds.refl c).put
  have hl : [F.SE_CTRL_ovr_stop n.val] ⊆ ctrlFlds n.val := by simp [ctrlFlds]
  have hst : (c.ctrlWritten n.val v).seState n.val = c.seState n.val := hkeeps _ (Fld.freeOf_mono hl hstate)
  refine ⟨hst, ?_, hkeeps _ (Fld.freeOf_mono hl hload), rfl, (SamePlan.putSe c (inSe_ctrl n.isLt) _).reqDelay⟩
  simp only [Chip.heldRole, hst, hkeeps _ (Fld.freeOf_mono hl hrole)]

/-! ### `run_req` -/

/-- A stopped role is armed. -/
def Chip.armed (n : Nat) : Chip :=
  ((c.setEngine n { c.engine n with runIn := c.reqDelay }).put (F.SE_CTRL_run_req n) 1).put (F.SE_STAT_state n) seArmed

theorem Chip.askRoleRun_held {n : Nat} (h : (c.heldRole n).isSome = true) :
    c.askRoleRun n = if c.seState n = seStopped then c.armed n else c := by
  obtain ⟨r, hr⟩ := Option.isSome_iff_exists.mp h
  simp only [Chip.askRoleRun, hr, ite_not]
  rfl

theorem Chip.armed_state (n : Nat) : (c.armed n).seState n = seArmed := Chip.get_put_self _ _ (by simp [F.SE_STAT_state]) _

theorem Chip.armed_runReq (n : Nat) : (c.armed n).bit (F.SE_CTRL_run_req n) = true := by
  rw [Chip.armed, Chip.bit_put_ne _ (by simp [F.SE_CTRL_run_req, F.SE_STAT_state, R.SE_CTRL, R.SE_STAT]),
    Chip.bit_put_self _ _ (by simp [F.SE_CTRL_run_req])]
  rfl

theorem Chip.armed_runIn (n : Nat) : ((c.armed n).engine n).runIn = c.reqDelay := by
  rw [Chip.armed, Chip.put_engine, Chip.put_engine, Chip.engine_setEngine_self]

/-! ### `stop_req` -/

theorem Chip.cancelHandover_regs (r : Nat) : (c.cancelHandover r).regs = c.regs := by
  unfold Chip.cancelHandover
  split
  · split <;> rfl
  · rfl

theorem Chip.cancelHandover_engine (r n : Nat) : (c.cancelHandover r).engine n = c.engine n :=
  Chip.engine_congr ((c.cancelHandover_touches r).same .eng (by decide)) n

/-- The stop of a role is noted, where none is noted yet. -/
def Chip.stopNoted (n : Nat) : Chip :=
  if (c.engine n).stopIn = 0 then c.setEngine n { c.engine n with stopIn := c.reqDelay } else c

theorem Chip.stopNoted_regs (n : Nat) : (c.stopNoted n).regs = c.regs := by
  unfold Chip.stopNoted
  split <;> rfl

theorem Chip.stopNoted_engine (n : Nat) : (c.stopNoted n).engine n =
    { c.engine n with stopIn := if (c.engine n).stopIn = 0 then c.reqDelay else (c.engine n).stopIn } := by
  unfold Chip.stopNoted
  split <;> simp

theorem Chip.askRoleStop_held {n r : Nat} (h : c.heldRole n = some r) : c.askRoleStop n =
    if c.get F.FOLD_STAT_state = 3 then (c.setEngine n { c.engine n with stopIn := 2 }).put (F.SE_CTRL_stop_req n) 1
    else if c.seState n = seStopped then c else ((c.stopNoted n).put (F.SE_CTRL_stop_req n) 1).cancelHandover r := by
  simp only [Chip.askRoleStop, h]
  rfl

/-! ## Start, stop and clear at a boundary (R87 to R89) -/

/-- The engine of a role that starts: its frame starts at address 0 with the seed. -/
def Eng.started (e : Eng) (seed : Word) : Eng :=
  { e with core := { e.core.startFrame with g := seedOf seed, pend := [] }, runIn := 0 }

/-- The engine of a role that stops. -/
def Eng.stopped (e : Eng) : Eng := ⟨{ e.core with outw := [], ended := true }, 0, 0⟩

section

variable {n : Nat}

theorem Chip.roleStart_due (hs : c.seState n = seArmed) (hr : (c.engine n).runIn = 1) (hp : (c.engine n).stopIn ≠ 1) :
    c.roleStart n = ((c.setEngine n ((c.engine n).started (c.rd (R.SE_SEED n)))).put (F.SE_STAT_state n) seRunning).put
      (F.SE_CTRL_run_req n) 0 := by
  unfold Chip.roleStart
  rw [if_neg (by simp [hs, hr, hp])]
  rfl

theorem Chip.roleStop_due (hr : (c.heldRole n).isSome = true) (hp : (c.engine n).stopIn = 1) :
    c.roleStop n = (((c.setEngine n (c.engine n).stopped).put (F.SE_STAT_state n) seStopped).put (F.SE_CTRL_run_req n) 0).put
      (F.SE_CTRL_stop_req n) 0 := by
  unfold Chip.roleStop
  rw [if_neg (by simp [Option.isSome_iff_ne_none.mp hr, hp])]
  rfl

theorem Chip.clearDone_due (h : c.bit (F.SE_CTRL_clr n) = true) :
    c.clearDone n = (c.setEngine n { c.engine n with core := (c.engine n).core.cleared }).put (F.SE_CTRL_clr n) 0 := by
  unfold Chip.clearDone
  rw [if_neg (by simp [h])]

theorem stat_ne_ctrl : R.SE_STAT n ≠ R.SE_CTRL n := by simp [R.SE_STAT, R.SE_CTRL]

theorem Chip.putState_state {st : Nat} (h : st < 16) : (c.put (F.SE_STAT_state n) st).seState n = st :=
  (c.get_put_self _ (by simp [F.SE_STAT_state]) st).trans (Nat.mod_eq_of_lt h)

theorem Chip.putCtrl_state {f : Fld} (hf : f.addr = R.SE_CTRL n) (v : Nat) : (c.put f v).seState n = c.seState n :=
  c.get_put_ne (by rw [hf]; exact stat_ne_ctrl) v

theorem runReq_free_stop : ∀ n : Fin 17, (F.SE_CTRL_run_req n.val).freeOf [F.SE_CTRL_stop_req n.val] = true := by decide +kernel

theorem Chip.put_zero_bit {f : Fld} (h : f.fits = true) : (c.put f 0).bit f = false := by
  rw [c.bit_put_self f (by simpa [Fld.fits] using h)]
  simp

end

/-! ## The forced end (R77) -/

/-- `d` is `c` with a stop asked of engine `n`, which works at its boundary: no core changes, and no record of the twin frame. -/
structure StopAsked (n : Nat) (c d : Chip) : Prop where
  flds : KeepsFlds [F.SE_STAT_rej n, F.SE_CTRL_stop_req n] c d
  core : ∀ m, (d.engine m).core = (c.engine m).core
  storesE : d.rot.storesE = c.rot.storesE
  storesS : d.rot.storesS = c.rot.storesS

theorem Chip.core_setEngine {n : Nat} {e : Eng} (h : e.core = (c.engine n).core) (m : Nat) :
    ((c.setEngine n e).engine m).core = (c.engine m).core := by
  by_cases hm : m = n
  · rw [hm, Chip.engine_setEngine_self, h]
  · rw [c.engine_setEngine_ne hm]

theorem Chip.stopNoted_core (n m : Nat) : ((c.stopNoted n).engine m).core = (c.engine m).core := by
  unfold Chip.stopNoted
  split
  · exact c.core_setEngine (by rfl) m
  · rfl

theorem Chip.cancelHandover_stores (r : Nat) :
    (c.cancelHandover r).rot.storesE = c.rot.storesE ∧ (c.cancelHandover r).rot.storesS = c.rot.storesS := by
  unfold Chip.cancelHandover
  split
  · split <;> exact ⟨rfl, rfl⟩
  · exact ⟨rfl, rfl⟩

theorem Chip.stopNoted_rot (n : Nat) : (c.stopNoted n).rot = c.rot := by
  unfold Chip.stopNoted
  split <;> rfl

theorem Chip.askRoleStop_asks (n : Nat) : StopAsked n c (c.askRoleStop n) := by
  have hkeeps {d : Chip} {l : List Fld} (h : KeepsFlds l c d) (hl : l ⊆ [F.SE_STAT_rej n, F.SE_CTRL_stop_req n] := by simp) :
      KeepsFlds [F.SE_STAT_rej n, F.SE_CTRL_stop_req n] c d := fun g hg => h g (Fld.freeOf_mono hl hg)
  cases hr : c.heldRole n with
  | none =>
    have hrej : c.askRoleStop n = c.latch (F.SE_STAT_rej n) := by simp only [Chip.askRoleStop, hr]
    rw [hrej]
    exact ⟨hkeeps (KeepsFlds.refl c).latch, fun _ => rfl, rfl, rfl⟩
  | some r =>
    rw [c.askRoleStop_held hr]
    split_ifs
    · exact ⟨hkeeps ((KeepsFlds.refl c).aside (e := c.setEngine n _) rfl).put, c.core_setEngine rfl, rfl, rfl⟩
    · exact ⟨hkeeps (KeepsFlds.refl c), fun _ => rfl, rfl, rfl⟩
    · obtain ⟨hE, hS⟩ := ((c.stopNoted n).put (F.SE_CTRL_stop_req n) 1).cancelHandover_stores r
      refine ⟨hkeeps (((KeepsFlds.refl c).aside (c.stopNoted_regs n)).put.aside (Chip.cancelHandover_regs _ r)), fun m => ?_, ?_, ?_⟩
      · rw [Chip.cancelHandover_engine]
        exact c.stopNoted_core n m
      · rw [hE, Chip.put_rot, c.stopNoted_rot]
      · rw [hS, Chip.put_rot, c.stopNoted_rot]

/-- The fields that an engine's forced end sets. -/
def overrunFlds (n : Nat) : List Fld := [F.SE_OVR_CNT_count n, F.SE_FAULT_ovr n, F.SE_CYC_max n, F.SE_CYC_last n]

theorem Chip.overrun_flds (n k : Nat) (loc : Word) : KeepsFlds (overrunFlds n) c (c.overrun n k loc) :=
  (((KeepsFlds.refl c).aside (e := c.endEngine n) rfl).put.rcChange.latch.bump).aside rfl

theorem Chip.overrun_engine (n k : Nat) (loc : Word) : (c.overrun n k loc).engine n =
    { c.engine n with core := { (c.engine n).core with ended := true } } := Chip.engine_setEngine_self _ _ _

theorem Chip.overrun_rot (n k : Nat) (loc : Word) : (c.overrun n k loc).rot = c.rot := rfl

/-- The device with an engine's frame ended by force, the count and the event apart. -/
def Chip.overrunNoted (n k : Nat) : Chip := ((c.endEngine n).noteCycle n k).latch (F.SE_FAULT_ovr n)

theorem Chip.overrun_regs (n k : Nat) (loc : Word) :
    (c.overrun n k loc).regs = ((c.overrunNoted n k).put (F.SE_OVR_CNT_count n)
      ((F.SE_OVR_CNT_count n).up ((c.overrunNoted n k).get (F.SE_OVR_CNT_count n)))).regs := rfl

theorem Chip.overrun_fault (n k : Nat) (loc : Word) : (c.overrun n k loc).bit (F.SE_FAULT_ovr n) = true := by
  have hne : (F.SE_FAULT_ovr n).addr ≠ (F.SE_OVR_CNT_count n).addr := by simp [F.SE_FAULT_ovr, F.SE_OVR_CNT_count, R.SE_FAULT, R.SE_OVR_CNT]
  rw [Chip.bit_congr (c.overrun_regs n k loc), Chip.bit_put_ne _ hne, Chip.bit, Chip.overrunNoted,
    Chip.get_latch_self _ (by simp [F.SE_FAULT_ovr])]
  rfl

theorem Fld.up_eq (f : Fld) (v : Nat) : f.up v % 2 ^ f.width = min (v + 1) (2 ^ f.width - 1) := by
  have hpos : 0 < 2 ^ f.width := Nat.two_pow_pos _
  have hup : f.up v = min (v + 1) (2 ^ f.width - 1) := by
    unfold Fld.up
    split <;> omega
  rw [hup, Nat.mod_eq_of_lt (by omega)]

theorem overrunCount_free : ∀ n : Fin 17,
    (F.SE_OVR_CNT_count n.val).freeOf [F.SE_FAULT_ovr n.val, F.SE_CYC_max n.val, F.SE_CYC_last n.val] = true := by decide +kernel

theorem overrun_free_stop : ∀ n : Fin 17,
    (F.SE_OVR_CNT_count n.val).freeOf [F.SE_STAT_rej n.val, F.SE_CTRL_stop_req n.val] = true ∧
      (F.SE_FAULT_ovr n.val).freeOf [F.SE_STAT_rej n.val, F.SE_CTRL_stop_req n.val] = true := by decide +kernel

theorem count_free_tmr : ∀ n : Fin 17, (F.SE_OVR_CNT_count n.val).freeOf [Fld.whole R.PWR_TMR] = true := by decide +kernel

theorem Chip.overrun_count (n : Fin 17) (k : Nat) (loc : Word) : (c.overrun n.val k loc).get (F.SE_OVR_CNT_count n.val) =
    min (c.get (F.SE_OVR_CNT_count n.val) + 1) (2 ^ (F.SE_OVR_CNT_count n.val).width - 1) := by
  have hnoted : KeepsFlds [F.SE_FAULT_ovr n.val, F.SE_CYC_max n.val, F.SE_CYC_last n.val] c (c.overrunNoted n.val k) :=
    ((KeepsFlds.refl c).aside (e := c.endEngine n.val) rfl).put.rcChange.latch
  rw [Chip.get_congr (c.overrun_regs n.val k loc), Chip.get_put_self _ _ (by simp [F.SE_OVR_CNT_count]), Fld.up_eq,
    hnoted _ (overrunCount_free n)]

/-- An engine that is ended by force: its frame ends, and of the registers no field changes but the fault's, the count's, the cycle's,
a stop's and the timer's. -/
structure ForcedEnd (n : Nat) (c d : Chip) : Prop where
  flds : KeepsFlds (F.SE_STAT_rej n :: F.SE_CTRL_stop_req n :: (overrunFlds n ++ [Fld.whole R.PWR_TMR])) c d
  ended : c.runs n = true → (d.engine n).core.ended = true
  storesE : d.rot.storesE = c.rot.storesE
  storesS : d.rot.storesS = c.rot.storesS

/-- The forced end, where it is due, is that of `overrun` at the first tail cycle, and perhaps a request to stop. -/
theorem Chip.forceEnd_due {n : Nat} (hr : c.runs n = true) (he : (c.engine n).core.ended = false) :
    let d := (c.advanceTo (c.cycleRoot c.tailCycle)).overrun n c.tailCycle (c.locEng n)
    c.forceEnd n = d ∨ StopAsked n d (c.forceEnd n) := by
  intro d
  have heq : c.forceEnd n = if d.bit (F.SE_CTRL_ovr_stop n) then d.askRoleStop n else d := by
    rw [c.forceEnd_eq, hr, he]
    rfl
  rw [heq]
  split
  · exact .inr (d.askRoleStop_asks n)
  · exact .inl rfl

theorem Chip.forceEnd_not_due {n : Nat} (h : c.runs n = false ∨ (c.engine n).core.ended = true) : c.forceEnd n = c := by
  unfold Chip.forceEnd
  rw [if_pos (by rcases h with h | h <;> simp [h])]

theorem Chip.forceEnd_ends (n : Nat) : ForcedEnd n c (c.forceEnd n) := by
  have hkeeps {d : Chip} {l : List Fld} (h : KeepsFlds l c d)
      (hl : l ⊆ F.SE_STAT_rej n :: F.SE_CTRL_stop_req n :: (overrunFlds n ++ [Fld.whole R.PWR_TMR])) :
      KeepsFlds (F.SE_STAT_rej n :: F.SE_CTRL_stop_req n :: (overrunFlds n ++ [Fld.whole R.PWR_TMR])) c d :=
    fun g hg => h g (Fld.freeOf_mono hl hg)
  by_cases hdue : c.runs n = true ∧ (c.engine n).core.ended = false
  · have hover := ((KeepsFlds.refl c).advanceTo (n := c.cycleRoot c.tailCycle)).append
      (Chip.overrun_flds _ n c.tailCycle (c.locEng n))
    have hended := congrArg (fun e : Eng => e.core.ended)
      ((c.advanceTo (c.cycleRoot c.tailCycle)).overrun_engine n c.tailCycle (c.locEng n))
    have hrot := ((c.advanceTo (c.cycleRoot c.tailCycle)).overrun_rot n c.tailCycle (c.locEng n)).trans (c.advanceTo_rot _)
    rcases c.forceEnd_due hdue.1 hdue.2 with h | h
    · rw [h]
      exact ⟨hkeeps hover (by simp), fun _ => hended, congrArg RotSt.storesE hrot, congrArg RotSt.storesS hrot⟩
    · exact ⟨hkeeps (hover.append h.flds) (by simp), fun _ => (congrArg Core.ended (h.core n)).trans hended,
        h.storesE.trans (congrArg RotSt.storesE hrot), h.storesS.trans (congrArg RotSt.storesS hrot)⟩
  · rw [c.forceEnd_not_due (by simpa [or_iff_not_imp_left] using hdue)]
    exact ⟨hkeeps (KeepsFlds.refl c) (by simp), fun hr => by simpa [hr] using hdue, rfl, rfl⟩

end Sys2Proof.Machine

namespace Sys2Proof

open Sys2Proof.Machine

section

variable {s : State}

theorem exec_runReq (r : Req) (n : Fin 17) (v : Word) : exec (.runReq r n v) s = s.act (seCtrlWrite r n v) := rfl
theorem exec_stopReq (r : Req) (n : Fin 17) (v : Word) : exec (.stopReq r n v) s = s.act (seCtrlWrite r n v) := rfl
theorem exec_engineClear (r : Req) (n : Fin 17) (v : Word) : exec (.engineClear r n v) s = s.act (seCtrlWrite r n v) := rfl
theorem exec_roleStart (n : Fin 17) : exec (.roleStart n) s = s.act fun c => c.roleStart n.val := rfl
theorem exec_roleStop (n : Fin 17) : exec (.roleStop n) s = s.act fun c => c.roleStop n.val := rfl
theorem exec_engineClearDone (n : Fin 17) : exec (.engineClearDone n) s = s.act fun c => c.clearDone n.val := rfl
theorem exec_forcedFrameEnd (n : Fin 17) : exec (.forcedFrameEnd n) s = s.act fun c => c.forceEnd n.val := rfl

/-- The row completes with its effect where it is ready. -/
def EngineRowCompletes (i : Instr) (s : State) : Prop :=
  engineReady s.chip i = true → Completes i s fun d => engineEffect s.chip d i

theorem seCtrlWrite_accepted {c : Chip} {r : Req} {n : Fin 17} (h : accepts c r (R.SE_CTRL n.val) = true) (v : Word) :
    seCtrlWrite r n v c = c.writeSeCtrl n.val v := c.guarded_accepted h _

theorem settle_seState (c : Chip) (n : Fin 17) : c.settle.seState n.val = c.seState n.val := c.settle_getSe (inSe_stat n.isLt)

theorem runReq_completes {r : Req} {n : Fin 17} {v : Word} : EngineRowCompletes (.runReq r n v) s := by
  intro h
  simp only [engineReady, Bool.and_eq_true, Bool.not_eq_true'] at h
  obtain ⟨⟨⟨⟨hacc, hrun⟩, hstop⟩, hclr⟩, hrole⟩ := h
  have hw := s.chip.ctrlWritten_sameRole n v
  refine completes_act (exec_runReq r n v) ?_
  simp only [engineEffect]
  rw [seCtrlWrite_accepted hacc, s.chip.writeSeCtrl_run hrun hstop hclr, Chip.askRoleRun_held _ (hw.held ▸ hrole), hw.state,
    settle_seState, Chip.settle_bitSe _ (inSe_ctrl n.isLt), Chip.settle_engine]
  split
  · exact ⟨Chip.armed_state _ _, Chip.armed_runReq _ _, (Chip.armed_runIn _ _).trans hw.delay⟩
  · exact ⟨hw.state, hw.eng⟩

theorem stopReq_completes {r : Req} {n : Fin 17} {v : Word} : EngineRowCompletes (.stopReq r n v) s := by
  intro h
  simp only [engineReady, Bool.and_eq_true, Bool.not_eq_true', decide_eq_true_eq] at h
  obtain ⟨⟨⟨⟨⟨⟨hacc, hstop⟩, hrun⟩, hclr⟩, hrole⟩, hstate⟩, hload⟩ := h
  have hw := s.chip.ctrlWritten_sameRole n v
  generalize hc : s.chip.ctrlWritten n.val v = c at hw
  obtain ⟨role, hheld⟩ := Option.isSome_iff_exists.mp hrole
  have hasked : c.askRoleStop n.val = ((c.stopNoted n.val).put (F.SE_CTRL_stop_req n.val) 1).cancelHandover role := by
    rw [c.askRoleStop_held (hw.held.trans hheld), if_neg (by rw [hw.load]; exact hload), if_neg (by rw [hw.state]; exact hstate)]
  refine completes_act (exec_stopReq r n v) ?_
  simp only [engineEffect]
  rw [seCtrlWrite_accepted hacc, s.chip.writeSeCtrl_stop hrun hstop hclr, hc, settle_seState, Chip.settle_bitSe _ (inSe_ctrl n.isLt),
    Chip.settle_engine, ← hw.state, ← hw.eng, ← hw.delay]
  refine ⟨(c.askRoleStop_asks n.val).flds _ (stat_free_stop n), ?_, ?_⟩
  · rw [hasked, Chip.bit_congr (Chip.cancelHandover_regs _ _), Chip.bit_put_self _ _ (by simp [F.SE_CTRL_stop_req])]
    rfl
  · rw [hasked, Chip.cancelHandover_engine]
    exact congrArg Eng.stopIn (c.stopNoted_engine n.val)

theorem engineClear_completes {r : Req} {n : Fin 17} {v : Word} : EngineRowCompletes (.engineClear r n v) s := by
  intro h
  simp only [engineReady, Bool.and_eq_true, Bool.not_eq_true', decide_eq_true_eq] at h
  obtain ⟨⟨⟨⟨hacc, hclr⟩, hrun⟩, hstop⟩, hstate⟩ := h
  have hw := s.chip.ctrlWritten_sameRole n v
  refine completes_act (exec_engineClear r n v) ?_
  simp only [engineEffect]
  rw [seCtrlWrite_accepted hacc, s.chip.writeSeCtrl_clear hrun hstop hclr, Chip.askClear, if_pos (hw.state.trans hstate),
    Chip.settle_bitSe _ (inSe_ctrl n.isLt), Chip.settle_engine, Chip.put_engine, Chip.bit_put_self _ _ (by simp [F.SE_CTRL_clr])]
  exact ⟨rfl, hw.eng⟩

theorem roleStart_completes {n : Fin 17} : EngineRowCompletes (.roleStart n) s := by
  intro h
  simp only [engineReady, Bool.and_eq_true, decide_eq_true_eq] at h
  obtain ⟨⟨hstate, hrun⟩, hstop⟩ := h
  refine completes_act (exec_roleStart n) ?_
  simp only [engineEffect]
  rw [settle_seState, Chip.settle_engine, s.chip.roleStart_due hstate hrun hstop, Chip.put_engine, Chip.put_engine,
    Chip.engine_setEngine_self, Chip.putCtrl_state _ rfl, Chip.putState_state _ (by decide)]
  exact ⟨rfl, rfl, rfl, rfl, rfl⟩

theorem roleStop_completes {n : Fin 17} : EngineRowCompletes (.roleStop n) s := by
  intro h
  simp only [engineReady, Bool.and_eq_true, decide_eq_true_eq] at h
  obtain ⟨hrole, hstop⟩ := h
  refine completes_act (exec_roleStop n) ?_
  simp only [engineEffect]
  rw [settle_seState, Chip.settle_engine, Chip.settle_bitSe _ (inSe_ctrl n.isLt), Chip.settle_bitSe _ (inSe_ctrl n.isLt),
    s.chip.roleStop_due hrole hstop, Chip.put_engine, Chip.put_engine, Chip.put_engine, Chip.engine_setEngine_self,
    Chip.putCtrl_state _ rfl, Chip.putCtrl_state _ rfl, Chip.putState_state _ (by decide)]
  refine ⟨rfl, rfl, ?_, Chip.put_zero_bit _ rfl, rfl⟩
  rw [((KeepsFlds.refl _).put (f := F.SE_CTRL_stop_req n.val)).bit (runReq_free_stop n)]
  exact Chip.put_zero_bit _ rfl

theorem engineClearDone_completes {n : Fin 17} : EngineRowCompletes (.engineClearDone n) s := by
  intro h
  refine completes_act (exec_engineClearDone n) ?_
  simp only [engineEffect]
  rw [Chip.settle_engine, Chip.settle_bitSe _ (inSe_ctrl n.isLt), s.chip.clearDone_due h, Chip.put_engine, Chip.engine_setEngine_self]
  exact ⟨Chip.put_zero_bit _ rfl, rfl, rfl, rfl, rfl, rfl, rfl⟩

theorem forcedFrameEnd_completes {n : Fin 17} : EngineRowCompletes (.forcedFrameEnd n) s := by
  intro h
  simp only [engineReady, Bool.and_eq_true, Bool.not_eq_true'] at h
  obtain ⟨hruns, hended⟩ := h
  obtain ⟨hcount, hfault⟩ := overrun_free_stop n
  have hover := s.chip.forceEnd_due hruns hended
  have hmoved := (s.chip.advanceTo_moves (s.chip.cycleRoot s.chip.tailCycle)).get (F.SE_OVR_CNT_count n.val) (count_free_tmr n)
  generalize s.chip.advanceTo (s.chip.cycleRoot s.chip.tailCycle) = b at hover hmoved
  refine completes_act (exec_forcedFrameEnd n) ?_
  simp only [engineEffect]
  rw [Chip.settle_engine, Chip.settle_bitSe _ (inSe_fault n.isLt), Chip.settle_getSe _ (inSe_ovrCnt n.isLt), ← hmoved,
    ← b.overrun_count n s.chip.tailCycle (s.chip.locEng n.val), (s.chip.forceEnd_ends n.val).ended hruns]
  rcases hover with h | h
  · rw [h]
    exact ⟨rfl, b.overrun_fault _ _ _, rfl⟩
  · exact ⟨rfl, (h.flds.bit hfault).trans (b.overrun_fault _ _ _), h.flds _ hcount⟩

end

/-- Settles O27: each row that is ready completes with its effect. -/
theorem engineControlRowsComplete : Obligations.EngineControlRowsComplete := by
  intro i s _ hready
  have h := hready
  unfold engineReady at h
  split at h
  next => exact runReq_completes hready
  next => exact stopReq_completes hready
  next => exact engineClear_completes hready
  next => exact roleStart_completes hready
  next => exact roleStop_completes hready
  next => exact engineClearDone_completes hready
  next => exact forcedFrameEnd_completes hready
  next => cases h

end Sys2Proof
end

section
/-! PROOFS. The steps of an engine's rotation complete with their effects (R79, R91 to R94). -/

namespace Sys2Proof.Machine

variable {α : Type}

/-! ## Reading back a block -/

theorem KMap.get_of_not_mem (d : α) {k : Nat} {m : KMap α} (h : ∀ e ∈ m, e.1 ≠ k) : KMap.get d k m = d := by
  induction m with
  | nil => rfl
  | cons e m ih =>
    obtain ⟨j, v⟩ := e
    rw [KMap.get, if_neg (h _ List.mem_cons_self)]
    exact ih fun e he => h e (List.mem_cons_of_mem _ he)

/-- Entries in front, none of them of the key. -/
theorem KMap.get_append_right (d : α) {k : Nat} {a : KMap α} (h : ∀ e ∈ a, e.1 ≠ k) (b : KMap α) :
    KMap.get d k (a ++ b) = KMap.get d k b := by
  induction a with
  | nil => rfl
  | cons e a ih =>
    obtain ⟨j, v⟩ := e
    rw [List.cons_append, KMap.get, if_neg (h _ List.mem_cons_self)]
    exact ih fun e he => h e (List.mem_cons_of_mem _ he)

/-- Entries behind, none of them of the key. -/
theorem KMap.get_append_left (d : α) {k : Nat} (a : KMap α) {b : KMap α} (h : ∀ e ∈ b, e.1 ≠ k) :
    KMap.get d k (a ++ b) = KMap.get d k a := by
  induction a with
  | nil => exact KMap.get_of_not_mem d h
  | cons e a ih =>
    obtain ⟨j, v⟩ := e
    rw [List.cons_append, KMap.get, KMap.get, ih]

variable [DecidableEq α]

/-- The entries of a block of `n` values from key `lo` on. -/
def KMap.block (d : α) (lo n : Nat) (f : Nat → α) : KMap α :=
  (List.range n).filterMap fun i => if f i = d then none else some (lo + i, f i)

theorem KMap.mem_block {d : α} {lo n : Nat} {f : Nat → α} {e : Nat × α} (h : e ∈ KMap.block d lo n f) : lo ≤ e.1 ∧ e.1 < lo + n := by
  simp only [KMap.block, List.mem_filterMap, List.mem_range, Option.ite_none_left_eq_some, Option.some.injEq] at h
  obtain ⟨i, hi, -, rfl⟩ := h
  exact ⟨Nat.le_add_right _ _, Nat.add_lt_add_left hi _⟩

theorem KMap.block_succ (d : α) (lo n : Nat) (f : Nat → α) :
    KMap.block d lo (n + 1) f = KMap.block d lo n f ++ if f n = d then [] else [(lo + n, f n)] := by
  simp only [KMap.block, List.range_succ, List.filterMap_append]
  split <;> simp [*]

theorem KMap.get_block (d : α) (lo : Nat) (f : Nat → α) : ∀ {n i : Nat}, i < n → KMap.get d (lo + i) (KMap.block d lo n f) = f i := by
  intro n
  induction n with
  | zero => exact fun h => absurd h (Nat.not_lt_zero _)
  | succ n ih =>
    intro i hi
    rw [KMap.block_succ]
    rcases Nat.lt_succ_iff_lt_or_eq.mp hi with h | rfl
    · rw [KMap.get_append_left, ih h]
      intro e he
      split at he
      · cases he
      · simp only [List.mem_singleton] at he
        subst he
        exact Nat.ne_of_gt (Nat.add_lt_add_left h lo)
    · rw [KMap.get_append_right _ fun e he => Nat.ne_of_lt (KMap.mem_block he).2]
      split
      next h => rw [h]; rfl
      next => simp [KMap.get]

/-- A key of the block that was filled in reads as the block's value there. -/
theorem KMap.get_refill (d : α) (lo : Nat) {n i : Nat} (f : Nat → α) (m : KMap α) (hi : i < n) :
    KMap.get d (lo + i) (KMap.refill d lo n f m) = f i := by
  have hlow : ∀ e ∈ m.filter (fun e => decide (e.1 < lo)), e.1 ≠ lo + i := by
    intro e he
    have h := of_decide_eq_true (List.mem_filter.mp he).2
    omega
  have hhigh : ∀ e ∈ m.filter (fun e => decide (lo + n ≤ e.1)), e.1 ≠ lo + i := by
    intro e he
    have h := of_decide_eq_true (List.mem_filter.mp he).2
    omega
  have hparts : KMap.refill d lo n f m =
      m.filter (fun e => decide (e.1 < lo)) ++ KMap.block d lo n f ++ m.filter fun e => decide (lo + n ≤ e.1) := rfl
  rw [hparts, KMap.get_append_left d _ hhigh, KMap.get_append_right d hlow, KMap.get_block d lo f hi]

end Sys2Proof.Machine

namespace Sys2Proof.Machine

variable (c : Chip)

/-! ## A core's frame that ends (R79) -/

theorem Wr.land_ended (base k : Core) (w : Wr) : (Wr.land base k w).ended = k.ended := by cases w <;> rfl

theorem Core.landGroup_ended (k : Core) (ws : List Wr) : (k.landGroup ws).ended = k.ended :=
  List.foldlRecOn (motive := fun x : Core => x.ended = k.ended) ws (Wr.land k) rfl fun x hx w _ => (Wr.land_ended k x w).trans hx

theorem Core.landSteps_ended (cyc : Nat) : ∀ (fuel : Nat) (k : Core), (Core.landSteps cyc fuel k).ended = k.ended
  | 0, _ => rfl
  | fuel + 1, k => by
    unfold Core.landSteps
    split
    · rfl
    · split
      · exact (Core.landSteps_ended cyc fuel _).trans (Core.landGroup_ended _ _)
      · rfl

theorem Core.drain_ended (k : Core) (cyc : Nat) : (k.drain cyc).ended = k.ended := Core.landSteps_ended _ _ k

/-! ## The handover under way -/

theorem handoverAt_of_cur {p : Fin 17 → Fin 17 → Nat → Bool} (h : Sys2Proof.handoverAt c p = true) {r : Nat} {e s : Fin 17} {b : Nat}
    (hcur : c.rot.cur = some (r, e, s, b)) : c.rot.cancel = false ∧ p e s b = true := by
  simp only [Sys2Proof.handoverAt, hcur, Bool.and_eq_true, Bool.not_eq_true'] at h
  exact h

theorem Chip.putPhase {v : Nat} (h : v < 8) : (c.put F.SE_ROT_STAT_phase v).get F.SE_ROT_STAT_phase = v :=
  (c.get_put_self _ (by decide) v).trans (Nat.mod_eq_of_lt h)

theorem inSe_rotStat : inSe R.SE_ROT_STAT := ⟨by decide, by decide⟩

theorem rotStat_ne_stat (n : Fin 17) : (F.SE_STAT_state n.val).addr ≠ R.SE_ROT_STAT := by
  simp only [F.SE_STAT_state, R.SE_STAT, R.SE_ROT_STAT]
  omega

section

variable {r : Nat} {e s : Fin 17} {b : Nat}

/-- The program store of engine `s` holds the bytes of that of `e`. -/
def Chip.programCopied (e s : Nat) : Chip :=
  { c with mem := KMap.refill 0 (0x20000000 + s * 0x10000) 0xC000 (fun i => c.mem.byte (0x20000000 + e * 0x10000 + i)) c.mem }

theorem Chip.programCopy_due (hcur : c.rot.cur = some (r, e, s, b)) (hb : c.onBoundary = true) (hc : c.rot.cancel = false)
    (ht : c.time.stc + 2 * c.frameTicks = b) (hs : c.seState s.val = seSpare) :
    c.programCopy = ((c.programCopied e.val s.val).put (F.SE_STAT_state s.val) sePrep).put F.SE_ROT_STAT_phase 2 := by
  unfold Chip.programCopy
  rw [hcur]
  dsimp only
  rw [if_neg (by simp [hb, hc, ht, hs])]
  rfl

/-- The scratch of engine `e` stands in `s` too. -/
def Chip.scratchCopied (e s : Nat) : Chip :=
  c.setEngine s { c.engine s with core := { (c.engine s).core with scratch := (c.engine e).core.scratch } }

theorem Chip.scratchMirror_due (hcur : c.rot.cur = some (r, e, s, b)) (hb : c.onBoundary = true) (hc : c.rot.cancel = false)
    (ht : c.time.stc + c.frameTicks = b) (hs : c.seState s.val = sePrep) :
    c.scratchMirror = (c.scratchCopied e.val s.val).put F.SE_ROT_STAT_phase 3 := by
  unfold Chip.scratchMirror
  rw [hcur]
  dsimp only
  rw [if_neg (by simp [hb, hc, ht, hs])]
  rfl

/-! ### STATE_COPY (R79, R92) -/

/-- A core `t` with the state of `k` that a rotation copies. -/
def Core.carrying (t k : Core) : Core :=
  { t with
    p := k.p, acc := k.acc, q := k.q, fl := k.fl, wd := k.wd, lc := k.lc, ls := k.ls, le := k.le, g := k.g
    outw := k.outw, scratch := k.scratch }

/-- The writes of the frame of engine `n` that ends have landed, `tail` being its first tail cycle. -/
def Chip.drained (n tail : Nat) : Chip := c.setEngine n { c.engine n with core := (c.engine n).core.drain tail }

/-- The state of engine `e` stands in `s` too. -/
def Chip.stateCopied (e s : Nat) : Chip :=
  c.setEngine s { c.engine s with core := (c.engine s).core.carrying (c.engine e).core }

theorem Chip.stateCopied_from (e s : Nat) : ((c.stateCopied e s).engine e).core = (c.engine e).core := by
  unfold Chip.stateCopied
  by_cases h : e = s
  · subst h
    rw [Chip.engine_setEngine_self]
    rfl
  · rw [c.engine_setEngine_ne h]

theorem Chip.stateCopied_to (e s : Nat) : ((c.stateCopied e s).engine s).core = (c.engine s).core.carrying (c.engine e).core := by
  rw [Chip.stateCopied, Chip.engine_setEngine_self]

/-- The device once engine `e` has come to the end of its frame and of the drain. -/
def Chip.frameDone (d : Chip) : Chip := d.advanceTo (c.cycleRoot (c.tailCycle + 8))

theorem Chip.stateCopy_due (hcur : c.rot.cur = some (r, e, s, b)) (hc : c.rot.cancel = false) (hp : c.get F.SE_ROT_STAT_phase = 3)
    (ht : c.time.stc < b) :
    c.stateCopy = ((c.frameDone (c.forceEnd e.val)).drained e.val c.tailCycle).stateCopied e.val s.val := by
  unfold Chip.stateCopy
  rw [hcur]
  dsimp only
  rw [if_neg (by simp [hc, hp, ht])]
  simp only [Chip.stateCopied, Chip.drained, Chip.frameDone, Chip.engine_setEngine_self]
  rfl

/-! ### TWIN_FRAME_START (R92) -/

/-- The engine of a twin frame that starts with the input words of engine `e`. -/
def Eng.twinStarted (x e : Eng) : Eng := ⟨{ x.core.startFrame with inw := e.core.inw, pend := [] }, 0, 0⟩

/-- The records of the twin frame are empty. -/
def Chip.recordsCleared : Chip := { c with rot := { c.rot with storesE := [], storesS := [], readsE := [] } }

theorem Chip.recordsCleared_engine (n : Nat) : c.recordsCleared.engine n = c.engine n := rfl

theorem Chip.twinStart_due (hcur : c.rot.cur = some (r, e, s, b)) (hb : c.onBoundary = true) (hc : c.rot.cancel = false)
    (ht : c.time.stc = b) (hs : c.seState s.val = sePrep) :
    c.twinStart = ((c.setEngine s.val ((c.engine s.val).twinStarted (c.engine e.val))).recordsCleared.put (F.SE_STAT_state s.val)
      seTwin).put F.SE_ROT_STAT_phase 4 := by
  unfold Chip.twinStart
  rw [hcur]
  dsimp only
  rw [if_neg (by simp [hb, hc, ht, hs])]
  rfl

/-! ### ROTATION_DUE (R91) -/

/-- A handover of role `r` from engine `e` to the spare `s` begins. -/
def Chip.handoverBegun (r e : Nat) (s : Fin 17) : Chip :=
  ((({ c with rot := { c.rot with cur := some (r, Fin.ofNat 17 e, s, c.time.stc + 384), cancel := false } }).put F.SE_ROT_STAT_role r).put
    F.SE_ROT_STAT_from e).put F.SE_ROT_STAT_phase 1

/-- May a rotation begin now, with a role and a spare for it (R91)? -/
def Chip.rotationOpen : Bool :=
  c.onSuperframe && c.bit F.FOLD_STAT_loaded && c.bit F.SE_ROT_CTRL_en && decide (c.get F.FOLD_STAT_state = 0) &&
    c.rot.cur.isNone && !c.someTest && decide (c.get F.BST_STAT_shut ≠ 2) &&
    (c.claimDue || decide (max (c.get F.SE_ROT_CTRL_per) 1 * 384 ≤ stcSince c.time.stc c.rot.lastH))

theorem Chip.rotationDue_due {e : Nat} (ho : c.rotationOpen = true) (hs : c.spareEngine = some s) (hspare : c.seState s.val = seSpare)
    (hr : c.pickRole = some r) (he : c.holder r = some e) : c.rotationDue = c.handoverBegun r e s := by
  simp only [Chip.rotationOpen, Bool.and_eq_true, Bool.not_eq_true', decide_eq_true_eq] at ho
  obtain ⟨⟨⟨⟨⟨⟨⟨hsf, hload⟩, hen⟩, hst⟩, hcur⟩, htest⟩, hshut⟩, hper⟩ := ho
  have hfilter : c.spareEngine.filter (fun s => decide (c.seState s.val = seSpare)) = some s := by simp [hs, hspare]
  unfold Chip.rotationDue
  dsimp only
  rw [if_neg (by simp [hsf, hload, hen, hst, Option.isNone_iff_eq_none.mp hcur, htest, hshut, hper]), hfilter, hr]
  simp only [he]
  rfl

/-! ### TWIN_COMPARE (R92 to R94) -/

/-- The first mismatch of a twin frame: its kind, its index and its cycle (R93). -/
def twinInfo (storesE storesS : List (Nat × Nat × Nat × Nat)) (ke ks : Core) (tail : Nat) : Option (Nat × Nat × Nat) :=
  match firstDiff storesE storesS, (List.range 64).find? fun i => decide (KMap.get 0 i ke.outw ≠ KMap.get 0 i ks.outw) with
  | some (cyc, kind, a, _), _ => some (kind, (if kind = 3 then a else 0), cyc)
  | none, some i => some (1, i, tail + 8)
  | none, none => none

theorem twinInfo_isSome (storesE storesS : List (Nat × Nat × Nat × Nat)) (ke ks : Core) (tail : Nat) :
    (twinInfo storesE storesS ke ks tail).isSome = ((firstDiff storesE storesS).isSome ||
      (List.range 64).any fun i => decide (KMap.get 0 i ke.outw ≠ KMap.get 0 i ks.outw)) := by
  rw [← List.isSome_find?]
  unfold twinInfo
  split
  next h => rw [h]; rfl
  next h hi => rw [h, hi]; rfl
  next h hi => rw [h, hi]; rfl

/-- The writes of the frames of both engines have landed. -/
def Chip.bothDrained (e s tail : Nat) : Chip :=
  (c.setEngine e { c.engine e with core := (c.engine e).core.drain tail }).setEngine s
    { c.engine s with core := (c.engine s).core.drain tail }

theorem Chip.bothDrained_from (e s tail : Nat) : ((c.bothDrained e s tail).engine e).core = (c.engine e).core.drain tail := by
  unfold Chip.bothDrained
  by_cases h : e = s
  · rw [h, Chip.engine_setEngine_self]
  · rw [Chip.engine_setEngine_ne _ h, Chip.engine_setEngine_self]

theorem Chip.bothDrained_to (e s tail : Nat) : ((c.bothDrained e s tail).engine s).core = (c.engine s).core.drain tail := by
  rw [Chip.bothDrained, Chip.engine_setEngine_self]

/-- The word `v` at `a` tells of a mismatch, and role `r` is to claim. -/
def Chip.mismatchNoted (r a : Nat) (v : Word) : Chip := { c.wr a v with rot := { c.rot with mism := some r } }

theorem Chip.mismatchNoted_eng (r a : Nat) (v : Word) : (c.mismatchNoted r a v).eng = c.eng := rfl

/-- What a mismatch sets: SE_TWIN_INFO, the claim to come, and the fault of both engines, each with its event (R94). -/
def Chip.twinJudged (r e s : Nat) (locE locS : Word) : Option (Nat × Nat × Nat) → Chip
  | none => c
  | some (kind, index, cyc) =>
    ((((c.mismatchNoted r R.SE_TWIN_INFO (BitVec.ofNat 32 (kind * 2 ^ 30 + index % 256 * 2 ^ 16 + cyc % 65536))).latch
      (F.SE_FAULT_twin e)).latch (F.SE_FAULT_twin s)).raise Ev.SE_TWIN_MISMATCH locE 0).raise Ev.SE_TWIN_MISMATCH locS 0

theorem Chip.twinCompare_due (hcur : c.rot.cur = some (r, e, s, b)) (hc : c.rot.cancel = false)
    (hp : c.get F.SE_ROT_STAT_phase = 4) (ht : b ≤ c.time.stc) :
    let d := c.frameDone ((c.forceEnd e.val).forceEnd s.val)
    c.twinCompare = (d.bothDrained e.val s.val c.tailCycle).recordsCleared.twinJudged r e.val s.val (c.locEng e.val) (c.locEng s.val)
      (twinInfo d.rot.storesE d.rot.storesS ((d.engine e.val).core.drain c.tailCycle) ((d.engine s.val).core.drain c.tailCycle)
        c.tailCycle) := by
  unfold Chip.twinCompare
  rw [hcur]
  dsimp only
  rw [if_neg (by simp [hc, hp, ht])]
  rfl

end

theorem Chip.twinJudged_eng (r e s : Nat) (locE locS : Word) (info : Option (Nat × Nat × Nat)) :
    (c.twinJudged r e s locE locS info).eng = c.eng := by
  cases info with
  | none => rw [Chip.twinJudged]
  | some x => rw [Chip.twinJudged, Chip.raise_eng, Chip.raise_eng, Chip.latch_eng, Chip.latch_eng, Chip.mismatchNoted_eng]

theorem twin_apart : ∀ e s : Fin 17, e = s ∨ (F.SE_FAULT_twin e.val).freeOf [F.SE_FAULT_twin s.val] = true := by decide +kernel

theorem Chip.bit_latch_self {f : Fld} (h : f.lo + f.width ≤ 32) (hw : f.width = 1) : (c.latch f).bit f = true := by
  rw [Chip.bit, c.get_latch_self h, hw]
  rfl

/-- The fault is set on both pages exactly where there is a mismatch, or where it was set (R94). -/
theorem Chip.twinJudged_twin (r : Nat) (e s : Fin 17) (locE locS : Word) (info : Option (Nat × Nat × Nat)) :
    (c.twinJudged r e.val s.val locE locS info).bit (F.SE_FAULT_twin e.val) = (info.isSome || c.bit (F.SE_FAULT_twin e.val)) ∧
      (c.twinJudged r e.val s.val locE locS info).bit (F.SE_FAULT_twin s.val) = (info.isSome || c.bit (F.SE_FAULT_twin s.val)) := by
  cases info with
  | none => exact ⟨rfl, rfl⟩
  | some x =>
    obtain ⟨kind, index, cyc⟩ := x
    rw [Chip.twinJudged, Chip.bit_congr (Chip.raise_regs _ _ _ _), Chip.bit_congr (Chip.raise_regs _ _ _ _),
      Chip.bit_congr (Chip.raise_regs _ _ _ _), Chip.bit_congr (Chip.raise_regs _ _ _ _),
      Chip.bit_latch_self _ (by simp [F.SE_FAULT_twin]) rfl]
    refine ⟨?_, rfl⟩
    rcases twin_apart e s with h | h
    · rw [h, Chip.bit_latch_self _ (by simp [F.SE_FAULT_twin]) rfl]
      rfl
    · rw [((KeepsFlds.refl _).latch).bit h, Chip.bit_latch_self _ (by simp [F.SE_FAULT_twin]) rfl]
      rfl

theorem twin_free_forced : ∀ x n : Fin 17, (F.SE_FAULT_twin x.val).freeOf
    (F.SE_STAT_rej n.val :: F.SE_CTRL_stop_req n.val :: (overrunFlds n.val ++ [Fld.whole R.PWR_TMR])) = true := by decide +kernel

/-- The end of both engines' frames leaves the twin faults as they are. -/
theorem Chip.framesEnded_twin (e s x : Fin 17) :
    (c.frameDone ((c.forceEnd e.val).forceEnd s.val)).bit (F.SE_FAULT_twin x.val) = c.bit (F.SE_FAULT_twin x.val) := by
  have htmr : (F.SE_FAULT_twin x.val).freeOf [Fld.whole R.PWR_TMR] = true := Fld.freeOf_mono (by simp) (twin_free_forced x x)
  unfold Chip.frameDone
  rw [(Chip.advanceTo_moves _ _).bit htmr, (Chip.forceEnd_ends _ s.val).flds.bit (twin_free_forced x s),
    (c.forceEnd_ends e.val).flds.bit (twin_free_forced x e)]

theorem Chip.framesEnded_stores (e s : Nat) :
    (c.frameDone ((c.forceEnd e).forceEnd s)).rot.storesE = c.rot.storesE ∧
      (c.frameDone ((c.forceEnd e).forceEnd s)).rot.storesS = c.rot.storesS := by
  have he := c.forceEnd_ends e
  have hs := (c.forceEnd e).forceEnd_ends s
  rw [Chip.frameDone, Chip.advanceTo_rot]
  exact ⟨hs.storesE.trans he.storesE, hs.storesS.trans he.storesS⟩

/-! ### HANDOVER (R92) -/

/-- Engine `n` in state `st` with a role and a flock, in its own status and in the fold's. -/
def Chip.roleSet (n st r fl : Nat) (v : Word) : Chip :=
  (((c.put (F.SE_STAT_state n) st).put (F.SE_STAT_role n) r).put (F.SE_STAT_flock n) fl).wr (R.FOLD_ENGINE n) v

/-- The fields that tell of the role of engine `n`. -/
def roleFlds (n : Nat) : List Fld := [Fld.whole (R.FOLD_ENGINE n), F.SE_STAT_flock n, F.SE_STAT_role n, F.SE_STAT_state n]

theorem Chip.roleSet_keeps (n st r fl : Nat) (v : Word) : KeepsFlds (roleFlds n) c (c.roleSet n st r fl v) :=
  (KeepsFlds.refl c).put.put.put.wr

theorem state_role_free : ∀ n : Fin 17, (F.SE_STAT_role n.val).freeOf [Fld.whole (R.FOLD_ENGINE n.val), F.SE_STAT_flock n.val] = true ∧
    (F.SE_STAT_state n.val).freeOf [Fld.whole (R.FOLD_ENGINE n.val), F.SE_STAT_flock n.val, F.SE_STAT_role n.val] = true := by
  decide +kernel

theorem Chip.roleSet_state (n : Fin 17) {st : Nat} (h : st < 16) (r fl : Nat) (v : Word) : (c.roleSet n.val st r fl v).seState n.val = st :=
  ((KeepsFlds.refl (c.put (F.SE_STAT_state n.val) st)).put.put.wr _ (state_role_free n).2).trans (c.putState_state h)

theorem Chip.roleSet_role (n : Fin 17) (st r fl : Nat) (v : Word) :
    (c.roleSet n.val st r fl v).get (F.SE_STAT_role n.val) = (F.SE_STAT_role n.val).cut r :=
  ((KeepsFlds.refl ((c.put (F.SE_STAT_state n.val) st).put (F.SE_STAT_role n.val) r)).put.wr _ (state_role_free n).1).trans
    (Chip.get_put_self _ _ (by simp [F.SE_STAT_role]) r)

/-- The requests that were pending on the role are those of engine `s` (R86). -/
def Chip.requestsMoved (e s stop run : Nat) : Chip :=
  (((c.put (F.SE_CTRL_stop_req s) stop).put (F.SE_CTRL_run_req s) run).put (F.SE_CTRL_stop_req e) 0).put (F.SE_CTRL_run_req e) 0

/-- The handover is counted, and shown as done. -/
def Chip.handoverCounted : Chip := (c.incr F.SE_ROT_COUNT_count).put F.SE_ROT_STAT_phase 5

/-- The handover is over: role `r` was the last, at `b`, and there is no spare. -/
def Chip.handoverClosed (r b : Nat) (f : BstSt → BstSt) : Chip :=
  ({ (c.put F.SE_ROT_STAT_spare 0x1F) with rot := { c.rot with
    cur := none, lastRole := some r, lastH := b, claims := c.rot.claims.filter fun x => !decide (x.1 = r) } }).setBst f

/-- Engine `s` has the input words and the requests of `e`. -/
def Chip.enginesSwapped (e s : Nat) : Chip :=
  (c.setEngine s ⟨{ (c.engine s).core with inw := (c.engine e).core.inw }, (c.engine e).runIn, (c.engine e).stopIn⟩).setEngine e
    ⟨(c.engine e).core, 0, 0⟩

/-- Role `r` is with engine `s`, and engine `e` waits for its test. -/
def Chip.handedOver (r e s b : Nat) (f : BstSt → BstSt) : Chip :=
  ((((c.enginesSwapped e s).roleSet s seRunning r (c.get (F.SE_STAT_flock e))
    (BitVec.ofNat 32 (2 ^ 14 + c.get (F.SE_STAT_flock e) * 256 + r))).roleSet e seTest 0 0 0).requestsMoved e s
      (c.get (F.SE_CTRL_stop_req e)) (c.get (F.SE_CTRL_run_req e))).handoverCounted.handoverClosed r b f

theorem Chip.handover_due {r : Nat} {e s : Fin 17} {b : Nat} (hcur : c.rot.cur = some (r, e, s, b)) (hb : c.onBoundary = true)
    (hc : c.rot.cancel = false) (ht : c.time.stc = b + c.frameTicks) (hs : c.seState s.val = seTwin) :
    ∃ f src, c.handover = (c.handedOver r e.val s.val b f).startTest (.engine e) src := by
  unfold Chip.handover
  rw [hcur]
  dsimp only
  rw [if_neg (by simp [hb, hc, ht, hs])]
  exact ⟨_, _, rfl⟩

/-- The fields of the requests that wait on engine `n`. -/
def requestFlds (n : Nat) : List Fld := [F.SE_CTRL_run_req n, F.SE_CTRL_stop_req n]

theorem Chip.requestsMoved_keeps (e s stop run : Nat) : KeepsFlds (requestFlds e ++ requestFlds s) c (c.requestsMoved e s stop run) :=
  (KeepsFlds.refl c).put.put.append (KeepsFlds.refl _).put.put

theorem Chip.handoverCounted_keeps : KeepsFlds [F.SE_ROT_STAT_phase, F.SE_ROT_COUNT_count] c c.handoverCounted :=
  (KeepsFlds.refl c).put.put

theorem Chip.handoverClosed_keeps (r b : Nat) (f : BstSt → BstSt) : KeepsFlds [F.SE_ROT_STAT_spare] c (c.handoverClosed r b f) :=
  (KeepsFlds.refl c).put.aside rfl

theorem stat_free_requests : ∀ n e : Fin 17, (F.SE_STAT_state n.val).freeOf (requestFlds e.val) = true ∧
    (F.SE_STAT_role n.val).freeOf (requestFlds e.val) = true := by decide +kernel

theorem stat_free_rotation : ∀ n : Fin 17,
    (F.SE_STAT_state n.val).freeOf [F.SE_ROT_STAT_spare, F.SE_ROT_STAT_phase, F.SE_ROT_COUNT_count] = true ∧
      (F.SE_STAT_role n.val).freeOf [F.SE_ROT_STAT_spare, F.SE_ROT_STAT_phase, F.SE_ROT_COUNT_count] = true := by decide +kernel

theorem Fld.freeOf_append {g : Fld} {l m : List Fld} (hl : g.freeOf l = true) (hm : g.freeOf m = true) : g.freeOf (l ++ m) = true := by
  simp only [Fld.freeOf, List.all_append, Bool.and_eq_true] at hl hm ⊢
  exact ⟨hl.1, hl.2, hm.2⟩

/-- The rest of a handover leaves the state and the role of every engine. -/
theorem Chip.closing_keeps (r : Nat) (n e s : Fin 17) (stop run b : Nat) (f : BstSt → BstSt) :
    ((c.requestsMoved e.val s.val stop run).handoverCounted.handoverClosed r b f).seState n.val = c.seState n.val ∧
      ((c.requestsMoved e.val s.val stop run).handoverCounted.handoverClosed r b f).get (F.SE_STAT_role n.val) =
        c.get (F.SE_STAT_role n.val) := by
  have hkeeps := ((c.requestsMoved_keeps e.val s.val stop run).append (Chip.handoverCounted_keeps _)).append
    (Chip.handoverClosed_keeps _ r b f)
  obtain ⟨hse, hre⟩ := stat_free_requests n e
  obtain ⟨hss, hrs⟩ := stat_free_requests n s
  obtain ⟨hst, hrt⟩ := stat_free_rotation n
  exact ⟨hkeeps _ (Fld.freeOf_append (l := [_, _, _]) hst (Fld.freeOf_append hse hss)),
    hkeeps _ (Fld.freeOf_append (l := [_, _, _]) hrt (Fld.freeOf_append hre hrs))⟩

theorem role_free : ∀ s e : Fin 17, e ≠ s → (F.SE_STAT_state s.val).freeOf (roleFlds e.val) = true ∧
    (F.SE_STAT_role s.val).freeOf (roleFlds e.val) = true := by decide +kernel

theorem Chip.handoverClosed_rot (r b : Nat) (f : BstSt → BstSt) :
    (c.handoverClosed r b f).rot.cur = none ∧ (c.handoverClosed r b f).rot.lastRole = some r := ⟨rfl, rfl⟩

theorem Chip.handoverCounted_phase : c.handoverCounted.get F.SE_ROT_STAT_phase = 5 := Chip.putPhase _ (by decide)

/-- What the device shows once role `r` has gone from engine `e` to engine `s`. -/
structure RoleHandedOver (r : Nat) (e s : Fin 17) (d : Chip) : Prop where
  stateTo : d.seState s.val = seRunning
  roleTo : d.get (F.SE_STAT_role s.val) = (F.SE_STAT_role s.val).cut r
  stateFrom : d.seState e.val = seTest
  phase : d.get F.SE_ROT_STAT_phase = 5
  cur : d.rot.cur = none
  lastRole : d.rot.lastRole = some r

theorem Chip.handedOver_shows (r : Nat) {e s : Fin 17} (hes : e ≠ s) (b : Nat) (f : BstSt → BstSt) :
    RoleHandedOver r e s (c.handedOver r e.val s.val b f) := by
  unfold Chip.handedOver
  obtain ⟨hstate, hrole⟩ := role_free s e hes
  generalize c.enginesSwapped e.val s.val = c1
  generalize BitVec.ofNat 32 _ = v
  generalize c.get (F.SE_STAT_flock e.val) = fl
  have hfrom := (c1.roleSet s.val seRunning r fl v).roleSet_keeps e.val seTest 0 0 0
  have hclose := fun n => ((c1.roleSet s.val seRunning r fl v).roleSet e.val seTest 0 0 0).closing_keeps r n e s
    (c.get (F.SE_CTRL_stop_req e.val)) (c.get (F.SE_CTRL_run_req e.val)) b f
  exact
    { stateTo := (hclose s).1.trans ((hfrom _ hstate).trans (c1.roleSet_state s (by decide) _ _ _))
      roleTo := (hclose s).2.trans ((hfrom _ hrole).trans (c1.roleSet_role s _ _ _ _))
      stateFrom := (hclose e).1.trans (Chip.roleSet_state _ e (by decide) _ _ _)
      phase := (Chip.handoverClosed_keeps _ r b f _ (by decide)).trans (Chip.handoverCounted_phase _)
      cur := (Chip.handoverClosed_rot _ r b f).1
      lastRole := (Chip.handoverClosed_rot _ r b f).2 }

theorem Chip.startTest_testing (u : TestUnit) (src : Nat) : (c.startTest u src).testing u = true := by
  unfold Chip.startTest
  split
  · assumption
  · simp [Chip.testing, Chip.setBst]

theorem ne_tmr_of_inSe {a : Nat} (h : inSe a) : a ≠ R.PWR_TMR := by
  have hhi := h.2
  simp only [R.PWR_TMR]
  omega

/-- The test that starts leaves what the device shows of the handover. -/
theorem RoleHandedOver.startTest {r : Nat} {e s : Fin 17} {d : Chip} (h : RoleHandedOver r e s d) (n : Fin 17) (src : Nat) :
    RoleHandedOver r e s (d.startTest (.engine n) src) := by
  have ht := d.testEngine_touches n src
  have hget : ∀ f : Fld, f.addr ≠ R.PWR_TMR → (d.startTest (.engine n) src).get f = d.get f := fun f hf => ht.get rfl hf
  have hrot : (d.startTest (.engine n) src).rot = d.rot := ht.same .rot (by decide)
  exact
    { stateTo := (hget _ (ne_tmr_of_inSe (inSe_stat s.isLt))).trans h.stateTo
      roleTo := (hget _ (ne_tmr_of_inSe (inSe_stat s.isLt))).trans h.roleTo
      stateFrom := (hget _ (ne_tmr_of_inSe (inSe_stat e.isLt))).trans h.stateFrom
      phase := (hget _ (by decide)).trans h.phase
      cur := hrot ▸ h.cur
      lastRole := hrot ▸ h.lastRole }

end Sys2Proof.Machine

namespace Sys2Proof

open Sys2Proof.Machine

section

variable {s : State}

theorem exec_rotationDue : exec .rotationDue s = s.act fun c => c.rotationDue := rfl
theorem exec_programCopy : exec .programCopy s = s.act fun c => c.programCopy := rfl
theorem exec_scratchMirror : exec .scratchMirror s = s.act fun c => c.scratchMirror := rfl
theorem exec_stateCopy : exec .stateCopy s = s.act fun c => c.stateCopy := rfl
theorem exec_twinFrameStart : exec .twinFrameStart s = s.act fun c => c.twinStart := rfl
theorem exec_twinCompare : exec .twinCompare s = s.act fun c => c.twinCompare := rfl
theorem exec_handover : exec .handover s = s.act fun c => c.handover := rfl

/-- The step completes with its effect where it is ready. -/
def RotationRowCompletes (i : Instr) (s : State) : Prop :=
  rotationReady s.chip i = true → Completes i s fun d => rotationEffect s.chip d i

theorem settle_phase (c : Chip) : c.settle.get F.SE_ROT_STAT_phase = c.get F.SE_ROT_STAT_phase := c.settle_getSe inSe_rotStat

theorem putPhase_state (c : Chip) (n : Fin 17) (v : Nat) : (c.put F.SE_ROT_STAT_phase v).seState n.val = c.seState n.val :=
  c.get_put_ne (rotStat_ne_stat n) v

theorem rotationDue_completes : RotationRowCompletes .rotationDue s := by
  intro h
  simp only [rotationReady, Bool.and_eq_true] at h
  obtain ⟨⟨⟨hper, hclaim⟩, hspare⟩, hrole⟩ := h
  have hopen : s.chip.rotationOpen = true := by
    simp only [Chip.rotationOpen, Bool.and_eq_true]
    exact ⟨hper, hclaim⟩
  refine completes_act exec_rotationDue ?_
  simp only [rotationEffect]
  intro r e t hr he ht
  have hstate : s.chip.seState t.val = seSpare := by simpa [ht] using hspare
  rw [settle_phase, Chip.settle_rot, s.chip.rotationDue_due hopen ht hstate hr he, Chip.handoverBegun]
  exact ⟨rfl, Chip.putPhase _ (by decide)⟩

theorem programCopy_completes : RotationRowCompletes .programCopy s := by
  intro h
  simp only [rotationReady, Bool.and_eq_true] at h
  obtain ⟨hb, hat⟩ := h
  refine completes_act exec_programCopy ?_
  simp only [rotationEffect]
  intro r e t b hcur
  obtain ⟨hcancel, hp⟩ := handoverAt_of_cur _ hat hcur
  simp only [Bool.and_eq_true, decide_eq_true_eq] at hp
  rw [settle_seState, settle_phase, Chip.settle_mem, s.chip.programCopy_due hcur hb hcancel hp.1 hp.2, putPhase_state,
    Chip.putState_state _ (by decide), Chip.putPhase _ (by decide), Chip.put_mem, Chip.put_mem]
  exact ⟨rfl, rfl, fun i hi => KMap.get_refill 0 _ _ _ hi⟩

theorem scratchMirror_completes : RotationRowCompletes .scratchMirror s := by
  intro h
  simp only [rotationReady, Bool.and_eq_true] at h
  obtain ⟨hb, hat⟩ := h
  refine completes_act exec_scratchMirror ?_
  simp only [rotationEffect]
  intro r e t b hcur
  obtain ⟨hcancel, hp⟩ := handoverAt_of_cur _ hat hcur
  simp only [Bool.and_eq_true, decide_eq_true_eq] at hp
  rw [settle_phase, Chip.settle_engine, s.chip.scratchMirror_due hcur hb hcancel hp.1 hp.2, Chip.putPhase _ (by decide),
    Chip.put_engine, Chip.scratchCopied, Chip.engine_setEngine_self]
  exact ⟨rfl, rfl⟩

theorem stateCopy_completes : RotationRowCompletes .stateCopy s := by
  intro h
  simp only [rotationReady, Bool.and_eq_true, decide_eq_true_eq] at h
  obtain ⟨hphase, hat⟩ := h
  refine completes_act exec_stateCopy ?_
  simp only [rotationEffect]
  intro r e t b hcur
  obtain ⟨hcancel, hp⟩ := handoverAt_of_cur _ hat hcur
  simp only [Bool.and_eq_true, decide_eq_true_eq] at hp
  have hended : ((s.chip.frameDone (s.chip.forceEnd e.val)).engine e.val).core.ended = true :=
    (congrArg (fun e : Eng => e.core.ended) (Chip.engine_congr (Chip.advanceTo_eng _ _) e.val)).trans
      ((s.chip.forceEnd_ends e.val).ended hp.2)
  rw [Chip.settle_engine, Chip.settle_engine, s.chip.stateCopy_due hcur hcancel hphase hp.1, Chip.stateCopied_from,
    Chip.stateCopied_to]
  generalize s.chip.frameDone (s.chip.forceEnd e.val) = d at hended
  rw [Chip.drained, Chip.engine_setEngine_self]
  exact ⟨(Core.drain_ended _ _).trans hended, rfl, rfl, rfl, rfl, rfl, rfl, rfl, rfl, rfl, rfl⟩

theorem twinFrameStart_completes : RotationRowCompletes .twinFrameStart s := by
  intro h
  simp only [rotationReady, Bool.and_eq_true] at h
  obtain ⟨hb, hat⟩ := h
  refine completes_act exec_twinFrameStart ?_
  simp only [rotationEffect]
  intro r e t b hcur
  obtain ⟨hcancel, hp⟩ := handoverAt_of_cur _ hat hcur
  simp only [Bool.and_eq_true, decide_eq_true_eq] at hp
  rw [settle_seState, settle_phase, Chip.settle_engine, s.chip.twinStart_due hcur hb hcancel hp.1 hp.2, putPhase_state,
    Chip.putState_state _ (by decide), Chip.putPhase _ (by decide), Chip.put_engine, Chip.put_engine,
    Chip.recordsCleared_engine, Chip.engine_setEngine_self]
  exact ⟨rfl, rfl, rfl, rfl⟩

theorem twinCompare_completes : RotationRowCompletes .twinCompare s := by
  intro h
  simp only [rotationReady, Bool.and_eq_true, decide_eq_true_eq] at h
  obtain ⟨hphase, hat⟩ := h
  refine completes_act exec_twinCompare ?_
  simp only [rotationEffect]
  intro r e t b hcur
  obtain ⟨hcancel, hp⟩ := handoverAt_of_cur _ hat hcur
  simp only [decide_eq_true_eq] at hp
  obtain ⟨hstoresE, hstoresS⟩ := s.chip.framesEnded_stores e.val t.val
  have htwin := s.chip.framesEnded_twin e t
  have hdue := s.chip.twinCompare_due hcur hcancel hphase hp
  generalize s.chip.frameDone ((s.chip.forceEnd e.val).forceEnd t.val) = d at hstoresE hstoresS htwin hdue
  have hjudged := (d.bothDrained e.val t.val s.chip.tailCycle).recordsCleared.twinJudged_twin r e t (s.chip.locEng e.val)
    (s.chip.locEng t.val) (twinInfo d.rot.storesE d.rot.storesS ((d.engine e.val).core.drain s.chip.tailCycle)
      ((d.engine t.val).core.drain s.chip.tailCycle) s.chip.tailCycle)
  have hregs : (d.bothDrained e.val t.val s.chip.tailCycle).recordsCleared.regs = d.regs := rfl
  rw [twinInfo_isSome, Chip.bit_congr hregs, Chip.bit_congr hregs, htwin, htwin, hstoresE, hstoresS] at hjudged
  rw [Chip.settle_bitSe _ (inSe_fault e.isLt), Chip.settle_bitSe _ (inSe_fault t.isLt), Chip.settle_engine, Chip.settle_engine, hdue,
    Chip.engine_congr (Chip.twinJudged_eng ..), Chip.engine_congr (Chip.twinJudged_eng ..), Chip.recordsCleared_engine,
    Chip.recordsCleared_engine, Chip.bothDrained_from, Chip.bothDrained_to, hstoresE, hstoresS]
  exact hjudged

theorem handover_completes : RotationRowCompletes .handover s := by
  intro h
  simp only [rotationReady, Bool.and_eq_true] at h
  obtain ⟨hb, hat⟩ := h
  refine completes_act exec_handover ?_
  simp only [rotationEffect]
  intro r e t b hcur
  obtain ⟨hcancel, hp⟩ := handoverAt_of_cur _ hat hcur
  simp only [Bool.and_eq_true, decide_eq_true_eq] at hp
  obtain ⟨⟨htime, hstate⟩, hne⟩ := hp
  obtain ⟨f, src, hdue⟩ := s.chip.handover_due hcur hb hcancel htime hstate
  have hshows := (s.chip.handedOver_shows r hne b f).startTest e src
  rw [settle_seState, settle_seState, settle_phase, Chip.settle_getSe _ (inSe_stat t.isLt), Chip.settle_rot, Chip.testing,
    Chip.settle_bst, hdue]
  exact ⟨hshows.stateTo, hshows.roleTo, hshows.stateFrom, hshows.cur, hshows.lastRole, hshows.phase, Chip.startTest_testing _ _ _⟩

end

/-- Settles O28: each step of a rotation that is ready completes with its effect. -/
theorem rotationRowsComplete : Obligations.RotationRowsComplete := by
  intro i s _ hready
  have h := hready
  unfold rotationReady at h
  split at h
  next => exact rotationDue_completes hready
  next => exact programCopy_completes hready
  next => exact scratchMirror_completes hready
  next => exact stateCopy_completes hready
  next => exact twinFrameStart_completes hready
  next => exact twinCompare_completes hready
  next => exact handover_completes hready
  next => cases h

end Sys2Proof
end

section
/-! PROOFS. The instructions that only write registers and flags complete, a nullified one only moves on, and `stg` converts its
register (R102, R126, R147 to R149). -/

namespace Sys2Proof

open Sys2Proof.Machine

/-- Where an instruction issues plainly no write is under way and no slot is open, and an engine is before its tail. -/
theorem plainIssue_parts {c : Chip} {w : Proc} {px : Px} {e : Enc} (hi : plainIssue c w px e = true) :
    (c.core w).pend = [] ∧ (c.core w).slot = .none ∧ (w.isCrook = true ∨ (c.core w).cyc < c.tailCycle) := by
  simp only [plainIssue, Bool.and_eq_true, decide_eq_true_eq, List.isEmpty_iff] at hi
  obtain ⟨⟨⟨⟨⟨⟨⟨hcan, hpend⟩, hslot⟩, -⟩, -⟩, -⟩, -⟩, -⟩ := hi
  refine ⟨hpend, hslot, ?_⟩
  cases w with
  | engine n => exact .inr (canIssue_tail c n hcan)
  | crook => exact .inl rfl

end Sys2Proof

namespace Sys2Proof.Machine

variable (c : Chip)

/-! ## What moving on leaves -/

theorem atIssue_regs (w : Proc) : (Sys2Proof.atIssue c w).regs = c.regs := by cases w <;> rfl
theorem atIssue_rf (w : Proc) : (Sys2Proof.atIssue c w).rf = c.rf := by cases w <;> rfl
theorem atIssue_time (w : Proc) : (Sys2Proof.atIssue c w).time = c.time := by cases w <;> rfl

theorem Chip.setCore_regs (w : Proc) (k : Core) : (c.setCore w k).regs = c.regs := by cases w <;> rfl
theorem Chip.setCore_rf (w : Proc) (k : Core) : (c.setCore w k).rf = c.rf := by cases w <;> rfl
theorem Chip.setCore_time (w : Proc) (k : Core) : (c.setCore w k).time = c.time := by cases w <;> rfl
theorem Chip.setCore_evt (w : Proc) (k : Core) : (c.setCore w k).evt = c.evt := by cases w <;> rfl
theorem Chip.setCore_mem (w : Proc) (k : Core) : (c.setCore w k).mem = c.mem := by cases w <;> rfl

theorem SamePermits.refl : SamePermits c c := ⟨fun _ _ => rfl, rfl, rfl, rfl⟩

theorem SamePermits.atIssue (w : Proc) : SamePermits c (Sys2Proof.atIssue c w) :=
  ⟨fun a _ => Chip.rd_congr (atIssue_regs c w) a, atIssue_rf c w, atIssue_time c w, congrArg EvtSt.batch (atIssue_evt c w)⟩

/-- A processor's core permits nothing. -/
theorem SamePermits.setCore {d : Chip} (h : SamePermits c d) (w : Proc) (k : Core) : SamePermits c (d.setCore w k) :=
  ⟨fun a ha => (Chip.rd_congr (d.setCore_regs w k) a).trans (h.rd a ha), (d.setCore_rf w k).trans h.rf,
    (d.setCore_time w k).trans h.time, (congrArg EvtSt.batch (d.setCore_evt w k)).trans h.batch⟩

theorem SamePermits.moveOn {d : Chip} (h : SamePermits c d) (w : Proc) (cyc len : Nat) (ws : List (Nat × Wr)) :
    SamePermits c (Sys2Proof.moveOn d w cyc len ws) :=
  h.setCore c w _

/-! ## A nullified instruction (R102) -/

theorem Chip.iterate_one_nullified {w : Proc} {px : Px} {body : Body} (ht : w.isCrook = true ∨ (c.core w).cyc < c.tailCycle)
    (hp : (c.core w).pend = []) (hn : Ctx.nullified ⟨w, c.core w, px⟩ = true) :
    Chip.iterate w px body 1 c = .done (c.setCore w { c.core w with cyc := (c.core w).cyc + 1 }) .seq := by
  have hc : (!w.isCrook && decide (c.tailCycle ≤ (c.core w).cyc)) = false := by
    rcases ht with h | h
    · simp [h]
    · simp [Nat.not_le.mpr h]
  simp [Chip.iterate, hc, Chip.landTo_nil c w _ hp, hn]

/-- An instruction that issues plainly is one iteration and the move to the next instruction. -/
theorem Chip.issue_of_done {w : Proc} {px : Px} {e : Enc} {body : Body} {d : Chip} {f : Flow}
    (hi : Sys2Proof.plainIssue c w px e = true) (hd : Chip.iterate w px body 1 (Sys2Proof.atIssue c w) = .done d f) :
    c.issue w px e body = d.advancePc w (instrLen px e) f := by
  simp only [Sys2Proof.plainIssue, Bool.and_eq_true, decide_eq_true_eq, List.isEmpty_iff, Option.isNone_iff_eq_none] at hi
  obtain ⟨⟨⟨⟨⟨⟨⟨hcan, hpend⟩, hslot⟩, hfetch⟩, henc⟩, hpriv⟩, hrep⟩, hleft⟩ := hi
  have hpriv' : (w.isCrook && privileged e.op && !c.crook.mode.getLsbD 0) = false := by
    rcases Bool.or_eq_true_iff.mp hpriv with h | h
    · rw [Bool.not_eq_true'] at h
      rw [h, Bool.false_and]
    · rw [h, Bool.not_true, Bool.and_false]
  have hr : Ctx.repCount ⟨w, c.core w, px⟩ = 1 := by simp [Ctx.repCount, hrep]
  unfold Chip.issue
  simp only [hcan, Chip.landTo_nil c w _ hpend, hslot, hfetch, hr, hpriv', hrep]
  cases w with
  | engine n => simp_all [Proc.isCrook, Sys2Proof.atIssue]
  | crook => simp_all [Proc.isCrook, Sys2Proof.atIssue]

/-- A nullified instruction moves on behind itself with no write under way. -/
theorem Chip.issue_nullified {w : Proc} {px : Px} {e : Enc} (body : Body) (hi : Sys2Proof.plainIssue c w px e = true)
    (hl : Sys2Proof.noLoop c w = true) (hn : Ctx.nullified ⟨w, c.core w, px⟩ = true) :
    c.issue w px e body = Sys2Proof.plainAfter c w px e [] := by
  obtain ⟨hpend, hslot, ht⟩ := Sys2Proof.plainIssue_parts hi
  have hlc : (c.core w).lc = [] := by simpa [Sys2Proof.noLoop] using hl
  have h1 := Chip.iterate_one_nullified (Sys2Proof.atIssue c w) (w := w) (px := px) (body := body)
  simp only [atIssue_core, atIssue_tail] at h1
  rw [c.issue_of_done hi (h1 ht hpend hn), Chip.advancePc_seq _ _ _ (by simpa using hlc) (by simpa using hslot)]
  simp [Chip.setCore_setCore, Sys2Proof.plainAfter, Sys2Proof.moveOn, Sys2Proof.pcAfter]

end Sys2Proof.Machine

namespace Sys2Proof

open Sys2Proof.Machine

variable {s : State} {i : Instr}

theorem PlainAt.settled {w : Proc} {px : Px} {e : Enc} (h : PlainAt s w px e) : safe s = true := by
  obtain ⟨hs, -, -, -⟩ := h
  exact hs

theorem PlainAt.issues {w : Proc} {px : Px} {e : Enc} (h : PlainAt s w px e) : plainIssue s.chip w px e = true := by
  obtain ⟨-, hi, -, -⟩ := h
  exact hi

theorem PlainAt.lc {w : Proc} {px : Px} {e : Enc} (h : PlainAt s w px e) : (s.chip.core w).lc = [] := by
  obtain ⟨-, -, hl, -⟩ := h
  simpa [noLoop] using hl

theorem PlainAt.slot {w : Proc} {px : Px} {e : Enc} (h : PlainAt s w px e) : (s.chip.core w).slot = .none := by
  obtain ⟨-, hslot, -⟩ := plainIssue_parts h.issues
  exact hslot

/-- An instruction whose body goes on in program order and leaves block repeats and slots alone moves on with its writes under way. -/
theorem PlainAt.exec_seq {w : Proc} {px : Px} {e : Enc} {body : Body} {d : Chip} {ws : List (Nat × Wr)} (h : PlainAt s w px e)
    (he : exec i s = s.act fun c => c.issue w px e body) (hb : body (atIssue s.chip w) (seen s.chip w px) = .ok (d, ws, .seq))
    (hl : (d.core w).lc = (s.chip.core w).lc) (hs : (d.core w).slot = (s.chip.core w).slot) :
    exec i s = .next { s with chip := (moveOn (issued s.chip d w) w (s.chip.core w).cyc (instrLen px e) ws).settle } := by
  obtain ⟨-, hi, -, hn⟩ := id h
  rw [he, State.act, s.chip.issue_seq w px e body d ws hi hn hb (hl.trans h.lc) (hs.trans h.slot)]

/-! ## The tables of instructions that only write registers and flags -/

/-- The instruction is an issue of the encoding of `m`, and its body only issues the writes that `m` names. -/
def WritesOnly (i : Instr) (m : RegMeaning) : Prop :=
  ∃ body : Body, (∀ s, exec i s = s.act fun c => c.issue m.w m.px m.enc body) ∧ ∀ c x, body c x = .ok (c, m.op c x, .seq)

/-- Such an instruction completes with its writes under way, and the end of the command changes nothing more: it raises nothing and
changes no register that permits something. -/
theorem WritesOnly.completes {m : RegMeaning} (h : WritesOnly i m) (hp : PlainAt s m.w m.px m.enc) :
    exec i s = .next { s with chip := plainAfter s.chip m.w m.px m.enc (m.op (atIssue s.chip m.w) (seen s.chip m.w m.px)) } := by
  obtain ⟨body, hexec, hbody⟩ := h
  have hsafe := hp.settled
  rw [hp.exec_seq (hexec s) (hbody _ _) (by rw [atIssue_core]) (by rw [atIssue_core]), issued_id _ _ _ (by rw [atIssue_evt])]
  have hsame := (SamePermits.atIssue s.chip m.w).moveOn s.chip m.w (s.chip.core m.w).cyc (instrLen m.px m.enc)
    (m.op (atIssue s.chip m.w) (seen s.chip m.w m.px))
  rw [hsame.settle hsafe]
  rfl

theorem writesOnly_of_mac {m : RegMeaning} (h : macMeaning i = some m) : WritesOnly i m := by
  unfold macMeaning at h
  split at h <;> cases h <;> exact ⟨_, fun _ => rfl, fun _ _ => rfl⟩

theorem writesOnly_of_arith {m : RegMeaning} (h : arithMeaning i = some m) : WritesOnly i m := by
  unfold arithMeaning at h
  split at h <;> cases h <;> exact ⟨_, fun _ => rfl, fun _ _ => rfl⟩

theorem writesOnly_of_acc {m : RegMeaning} (h : accMeaning i = some m) : WritesOnly i m := by
  unfold accMeaning at h
  split at h <;> cases h <;> exact ⟨_, fun _ => rfl, fun _ _ => rfl⟩

theorem writesOnly_of_logic {m : RegMeaning} (h : logicMeaning i = some m) : WritesOnly i m := by
  unfold logicMeaning at h
  split at h <;> cases h <;> exact ⟨_, fun _ => rfl, fun _ _ => rfl⟩

theorem writesOnly_of_decimal {m : RegMeaning} (h : decimalMeaning i = some m) : WritesOnly i m := by
  unfold decimalMeaning at h
  split at h <;> cases h <;> exact ⟨_, fun _ => rfl, fun _ _ => rfl⟩

theorem writesOnly_of_move {m : RegMeaning} (h : moveMeaning i = some m) : WritesOnly i m := by
  unfold moveMeaning at h
  split at h <;> cases h <;> exact ⟨_, fun _ => rfl, fun _ _ => rfl⟩

/-- Settles O1: every multiply-accumulate only writes accumulators and flags. -/
theorem macInstructionsComplete : Obligations.MacInstructionsComplete :=
  fun _ _ _ hm hp => (writesOnly_of_mac hm).completes hp

/-- Settles O2: every instruction of register arithmetic only writes registers and flags. -/
theorem arithmeticInstructionsComplete : Obligations.ArithmeticInstructionsComplete :=
  fun _ _ _ hm hp => (writesOnly_of_arith hm).completes hp

/-- Settles O3: every accumulator operation only writes accumulators, registers and flags. -/
theorem accumulatorInstructionsComplete : Obligations.AccumulatorInstructionsComplete :=
  fun _ _ _ hm hp => (writesOnly_of_acc hm).completes hp

/-- Settles O4: every shift and logic instruction only writes registers and flags. -/
theorem logicInstructionsComplete : Obligations.LogicInstructionsComplete :=
  fun _ _ _ hm hp => (writesOnly_of_logic hm).completes hp

/-- Settles O5: every decimal and bit-field instruction only writes registers and flags. -/
theorem decimalInstructionsComplete : Obligations.DecimalInstructionsComplete :=
  fun _ _ _ hm hp => (writesOnly_of_decimal hm).completes hp

/-- Settles O6: every move only writes registers and flags; `mvfeat` reads the registers of the device, which its issue leaves. -/
theorem moveInstructionsComplete : Obligations.MoveInstructionsComplete :=
  fun _ _ _ hm hp => (writesOnly_of_move hm).completes hp

/-- Settles O7: whatever its body, a nullified instruction is one iteration without it. -/
theorem nullifiedInstructionOnlyMovesOn : Obligations.NullifiedInstructionOnlyMovesOn := by
  intro i s w px e henc hsafe hissue hloop hnull
  obtain ⟨body, hexec⟩ := exec_eq_issue henc
  have hsame := (SamePermits.atIssue s.chip w).moveOn s.chip w (s.chip.core w).cyc (instrLen px e) []
  rw [hexec, State.act, s.chip.issue_nullified body hissue hloop hnull, plainAfter, hsame.settle hsafe]

/-! ## `stg` -/

theorem convWords_singleton (mode q : Nat) (g : Word) (v : PWord) :
    let g1 := if mode = 2 then ditherNext g else g
    convWords mode q g [v] = ([(convert mode q g1 (pR v)).1], (convert mode q g1 (pR v)).2, g1) := by
  simp [convWords]

/-- Settles O14: the body of `stg` is one conversion, which leaves of the device all but the engine's generator. -/
theorem stgConvertsIntoTheGateBuffer : Obligations.StgConvertsIntoTheGateBuffer := by
  intro s n px f8 g8 hp c x v g1 r after
  have hsafe := hp.settled
  have hbody : opStg f8.toNat g8.toNat (atIssue c (.engine n)) x = .ok (c.setCore (.engine n) { x.k with g := g1 },
      (2, Wr.outw (g8.toNat % 64) r.1) :: vsW 1 false r.2, .seq) := by
    simp [opStg, x, seen, convWords_singleton, atIssue, g1, r, v, c]
  rw [hp.exec_seq rfl hbody (by simp [x, seen, c]) (by simp [x, seen, c]),
    issued_id _ _ _ (by rw [Chip.setCore_evt])]
  have hsame : SamePermits s.chip after := (SamePermits.setCore s.chip (.refl s.chip) _ _).moveOn s.chip _ _ _ _
  exact congrArg (fun d => Host.Outcome.next (⟨s.pending, d⟩ : State)) (hsame.settle hsafe)

end Sys2Proof
end

section
/-! PROOFS. Loads and stores complete: what an operand names, what a bus access leaves of the processors, and the crook's accesses to
its RAM and beyond it (R119 to R123, R153 to R156). -/

namespace Sys2Proof.Machine

variable (c : Chip)

/-! ## The operand -/

/-- An operand names one register and one address, or a pair of each. -/
inductive MemOp.Shape (o : MemOp) : Prop
  | one (d a : Nat) (hregs : o.regs = [d]) (haddrs : o.addrs = [a])
  | pair (d a b : Nat) (hregs : o.regs = [d, d + 1]) (haddrs : o.addrs = [a, b])

theorem Chip.operand_shape {x : Ctx} {bus d ar mode scale : Nat} {hasDisp : Bool} {disp : Int} {pair : Bool} {bytes : Nat} {o : MemOp}
    (h : c.operand x bus d ar mode scale hasDisp disp pair bytes = .ok o) : o.Shape := by
  unfold Chip.operand at h
  dsimp only at h
  split at h
  · split at h
    · cases h
    · split at h
      · cases h
      · split at h
        · cases h
        · cases h
          cases pair
          · exact .one _ _ rfl rfl
          · exact .pair _ _ _ rfl rfl
  · cases h
    cases pair
    · exact .one _ _ rfl rfl
    · exact .pair _ _ _ rfl rfl

/-! ## What a bus access of an engine leaves of the engines (R120, R121) -/

theorem Chip.pasRead_eng (src k lb bank w : Nat) : (c.pasRead src k lb bank w).2.2.eng = c.eng := by
  unfold Chip.pasRead
  dsimp only
  split
  · rfl
  · split
    · rfl
    · unfold Chip.pasUncorr
      dsimp only
      split <;> rfl

theorem Chip.noteRead_eng (n cyc bus i : Nat) (v : PWord) : (c.noteRead n cyc bus i v).eng = c.eng := by
  unfold Chip.noteRead
  split <;> rfl

theorem Chip.twinRead_eng (cyc bus i : Nat) : (c.twinRead cyc bus i).2.eng = c.eng := by
  unfold Chip.twinRead
  split <;> rfl

theorem Chip.xReadWord_eng (n r cyc w : Nat) (first : Option Nat) : (c.xReadWord n r cyc w first).2.eng = c.eng := by
  unfold Chip.xReadWord
  dsimp only
  split
  · split
    · exact c.pasRead_eng _ _ _ _ _
    · rfl
  · rfl

/-- A load of an engine changes no engine. -/
theorem Chip.engLoad_eng {n cyc bus : Nat} {ws : List Nat} {vs : List PWord} {d : Chip} (h : c.engLoad n cyc bus ws = .ok (vs, d)) :
    d.eng = c.eng := by
  unfold Chip.engLoad at h
  dsimp only at h
  split at h
  · cases h
  next vs' d' first heq =>
    cases h
    refine List.foldlRecOn (motive := fun st : Except Trap (List PWord × Chip × Option Nat) =>
      ∀ us e f, st = .ok (us, e, f) → e.eng = c.eng) ws _ ?_ ?_ _ _ _ heq
    · intro us e f hst
      cases hst
      rfl
    · intro st ih w _ us e f hst
      split at hst
      · cases hst
      next us' e' f' =>
        have hin := ih us' e' f' rfl
        split at hst
        · split at hst
          · cases hst
          · cases hst
            rw [Chip.noteRead_eng]
            split
            · exact (e'.twinRead_eng _ _ _).trans hin
            · exact (e'.xReadWord_eng _ _ _ _ _).trans hin
        · split at hst
          · split at hst
            · cases hst
            · cases hst
              rw [Chip.noteRead_eng]
              split
              · exact (e'.twinRead_eng _ _ _).trans hin
              · exact hin
          · split at hst
            · cases hst
            · cases hst
              exact hin

theorem Chip.noteStore_eng (n : Nat) (st : Nat × Nat × Nat × Nat) : (c.noteStore n st).eng = c.eng := by
  unfold Chip.noteStore
  split
  · rfl
  · split <;> rfl

theorem Chip.relayWrite_eng (n r cyc key : Nat) (v : PWord) : (c.relayWrite n r cyc key v).eng = c.eng := by
  unfold Chip.relayWrite
  exact List.foldlRecOn (motive := fun e : Chip => e.eng = c.eng) _ _ rfl fun e he m _ => he

theorem Chip.xWriteWord_eng (n r cyc w : Nat) (first : Option Nat) (v : Word) : (c.xWriteWord n r cyc w first v).eng = c.eng := by
  unfold Chip.xWriteWord
  dsimp only
  split
  · exact c.noteStore_eng _ _
  · split
    · split
      · exact c.noteStore_eng _ _
      · exact c.noteStore_eng _ _
    · exact c.noteStore_eng _ _

theorem Chip.xWriteWords_eng (n r cyc : Nat) (l : List (Nat × Word)) (first : Option Nat) :
    (l.foldl (fun (st : Chip × Option Nat) p => (st.1.xWriteWord n r cyc p.1 st.2 p.2, some p.1)) (c, first)).1.eng = c.eng :=
  List.foldlRecOn (motive := fun st : Chip × Option Nat => st.1.eng = c.eng) l _ rfl fun st hst p _ =>
    (st.1.xWriteWord_eng n r cyc p.1 st.2 p.2).trans hst

/-- A store of an engine changes of its core the dither generator alone. -/
theorem Chip.engStore_core {n : Fin 17} {cyc bus mode : Nat} {ws : List Nat} {vs : List PWord} {d : Chip} {us : List (Nat × Wr)}
    (h : c.engStore n.val cyc bus mode ws vs = .ok (d, us)) : ∃ g, d.core (.engine n) = { c.core (.engine n) with g := g } := by
  have hcore : ∀ {e f : Chip}, e.eng = f.eng → e.core (.engine n) = f.core (.engine n) := fun he =>
    congrArg Eng.core (Chip.engine_congr he n.val)
  have hn : (Fin.ofNat 17 n.val) = n := Fin.ext (Nat.mod_eq_of_lt n.isLt)
  unfold Chip.engStore at h
  dsimp only at h
  rw [hn] at h
  split at h
  · cases h
  · split at h
    · cases h
      refine ⟨(c.core (.engine n)).g, hcore (List.foldlRecOn (motive := fun e : Chip => e.eng = c.eng) _ _ rfl fun e he p _ => ?_)⟩
      split
      · exact (e.noteStore_eng _ _).trans he
      · exact (Chip.relayWrite_eng _ _ _ _ _ _).trans ((e.noteStore_eng _ _).trans he)
    · split at h
      · cases h
      · split at h
        · cases h
        · split at h
          · cases h
            exact ⟨_, c.core_setCore _ _⟩
          · cases h
            exact ⟨_, (hcore (Chip.xWriteWords_eng _ _ _ _ _ _)).trans (c.core_setCore (.engine n) _)⟩

/-! ## The crook's accesses to its RAM (R123, R126, R170) -/

theorem Chip.ramAccess_ramAccess (lat : Nat) : (c.ramAccess lat).ramAccess lat = c.ramAccess lat := by
  simp [Chip.ramAccess]

/-- Accesses that each issue the write `w` and note their time in the RAM note it once. -/
theorem Chip.foldl_ramAccess {α : Type} {g : Chip → α → Chip × List (Nat × Wr)} {lat : Nat} {w : α → Nat × Wr} {l : List α}
    (hl : l ≠ []) (hg : ∀ x ∈ l, ∀ e : Chip, e = c ∨ e = c.ramAccess lat → g e x = (e.ramAccess lat, [w x])) :
    l.foldl (fun st x => ((g st.1 x).1, st.2 ++ (g st.1 x).2)) (c, []) = (c.ramAccess lat, l.map w) := by
  have hfrom : ∀ (l : List α) (acc : List (Nat × Wr)),
      (∀ x ∈ l, ∀ e : Chip, e = c ∨ e = c.ramAccess lat → g e x = (e.ramAccess lat, [w x])) →
      l.foldl (fun st x => ((g st.1 x).1, st.2 ++ (g st.1 x).2)) (c.ramAccess lat, acc) = (c.ramAccess lat, acc ++ l.map w) := by
    intro l
    induction l with
    | nil => simp
    | cons x l ih =>
      intro acc h
      rw [List.foldl_cons, h x (by simp) _ (.inr rfl), c.ramAccess_ramAccess, ih _ fun y hy => h y (by simp [hy])]
      simp
  cases l with
  | nil => exact absurd rfl hl
  | cons x l =>
    rw [List.foldl_cons, hg x (by simp) c (.inl rfl), hfrom l _ fun y hy => hg y (by simp [hy])]
    simp

/-- The word, byte or half-word that a load of the crook's RAM gives a register (R154). -/
def Chip.ramWord (c : Chip) (zext : Bool) (a bytes : Nat) : PWord :=
  if zext then BitVec.ofNat 40 (Mem.read c.mem a bytes) else wordToP (BitVec.ofNat 32 (Mem.read c.mem a bytes))

theorem Chip.crookLoad_ram {a bytes : Nat} (hr : isRam a = true) (ha : a % bytes = 0) (lat p : Nat) (zext : Bool) :
    c.crookLoad lat a bytes (if zext then .zext p bytes else .word p) = (c.ramAccess lat, [(lat, .p p (c.ramWord zext a bytes))]) := by
  cases zext <;> simp [Chip.crookLoad, hr, ha, Chip.ramWord]

theorem Chip.crookStore_ram {a bytes : Nat} (hr : isRam a = true) (ha : a % bytes = 0) (hb : c.bootRefused true a bytes = false)
    (v : Nat) : c.crookStore a bytes v = (c.ramAccess 2, [(2, .ram a bytes v)]) := by
  simp [Chip.crookStore, hr, ha, hb]

theorem MemOp.Shape.zip_ne_nil {α : Type} {o : MemOp} (h : o.Shape) {l : List α} (hl : l.length = o.regs.length) :
    l.zip o.addrs ≠ [] ∧ o.addrs.zip l ≠ [] := by
  rcases h with ⟨d, a, hr, ha⟩ | ⟨d, a, b, hr, ha⟩
  all_goals
    rw [hr] at hl
    cases l with
    | nil => simp at hl
    | cons x l => simp [ha]

theorem convWords_length (mode q : Nat) (g : Word) (vs : List PWord) : (convWords mode q g vs).1.length = vs.length := by
  induction vs generalizing g with
  | nil => rfl
  | cons v vs ih => simp [convWords, ih]

/-! ## Loads and stores that can be served now -/

/-- A load that can be served now gives its registers the words that are read. -/
theorem Chip.doLoad_now {x : Ctx} {o : MemOp} {narrow : Bool} {vs : List PWord} {d : Chip} (ho : o.Shape)
    (h : Sys2Proof.readsNow c x o narrow = some (vs, d)) :
    c.doLoad x o narrow = .ok (d, (o.regs.zip vs).map (fun p => x.setD (busLat o.bus) p.1 p.2) ++ o.updW) := by
  obtain ⟨w, k, px⟩ := x
  cases w with
  | engine n =>
    unfold Sys2Proof.readsNow at h
    unfold Chip.doLoad
    dsimp only at h ⊢
    split at h
    next r hr =>
      cases h
      rw [hr]
    next => cases h
  | crook =>
    unfold Sys2Proof.readsNow at h
    dsimp only at h
    split at h
    next hall =>
      cases h
      have hok : ∀ p ∈ o.regs.zip o.addrs, isRam p.2 = true ∧ p.2 % o.bytes = 0 := by
        intro p hp
        simpa using List.all_eq_true.mp hall p.2 (List.of_mem_zip hp).2
      have hfold := c.foldl_ramAccess (lat := busLat o.bus) (l := o.regs.zip o.addrs)
        (g := fun e p => e.crookLoad (busLat o.bus) p.2 o.bytes
          (if narrow then .zext (Ctx.preg ⟨.crook, k, px⟩ p.1) o.bytes else .word (Ctx.preg ⟨.crook, k, px⟩ p.1)))
        (w := fun p => Ctx.setD ⟨.crook, k, px⟩ (busLat o.bus) p.1 (c.ramWord narrow p.2 o.bytes))
        (ho.zip_ne_nil rfl).1 fun p hp e he => by
          obtain ⟨hr, ha⟩ := hok p hp
          rw [e.crookLoad_ram hr ha]
          rcases he with rfl | rfl <;> rfl
      simp only [Chip.doLoad]
      rw [hfold]
      simp [List.zip_map_right, List.map_map, Function.comp_def, Chip.ramWord]
    next => cases h

/-- A store that can be taken now issues the writes of its registers. -/
theorem Chip.doStore_now {x : Ctx} {o : MemOp} {raw : Bool} {ws : List (Nat × Wr)} {d : Chip} (ho : o.Shape)
    (h : Sys2Proof.storesNow c x o raw = some (ws, d)) : c.doStore x o raw = .ok (d, ws ++ o.updW) := by
  obtain ⟨w, k, px⟩ := x
  cases w with
  | engine n =>
    unfold Sys2Proof.storesNow at h
    unfold Chip.doStore
    dsimp only at h ⊢
    split at h
    next r us hr =>
      cases h
      rw [hr]
    next => cases h
  | crook =>
    unfold Sys2Proof.storesNow at h
    unfold Chip.doStore
    dsimp only at h ⊢
    split at h
    next hall =>
      cases h
      generalize hdata : (if raw = true then _ else _ : List Nat) = data
      have hlen : data.length = o.regs.length := by
        rw [← hdata]
        cases raw <;> simp [convWords_length]
      have hok : ∀ p ∈ o.addrs.zip data, isRam p.1 = true ∧ p.1 % o.bytes = 0 ∧ c.bootRefused true p.1 o.bytes = false := by
        intro p hp
        simpa [and_assoc] using List.all_eq_true.mp hall p.1 (List.of_mem_zip hp).1
      have hfold := c.foldl_ramAccess (lat := 2) (l := o.addrs.zip data) (g := fun e p => e.crookStore p.1 o.bytes p.2)
        (w := fun p => (2, Wr.ram p.1 o.bytes p.2)) (ho.zip_ne_nil hlen).2 fun p hp e he => by
          obtain ⟨hr, ha, hb⟩ := hok p hp
          exact e.crookStore_ram hr ha (by rcases he with rfl | rfl <;> exact hb) p.2
      rw [hfold]
    next => cases h

/-! ## Accesses of the crook outside its RAM (R123, R156) -/

/-- Such a load holds issue. -/
theorem Chip.holdLoad_crook (a bytes : Nat) (dst : LoadDst) (lat : Nat) : ∃ v, (c.holdLoad a bytes dst lat).crook =
    { c.crook with loads := c.crook.loads ++ [⟨a, bytes, dst, lat, v⟩] } := by
  have hrefused : (c.refused .crook false a).crook = c.crook := rfl
  unfold Chip.holdLoad
  dsimp only
  split
  · exact ⟨none, rfl⟩
  · split
    · exact ⟨none, rfl⟩
    · exact ⟨some 0, by rw [hrefused]⟩
    · exact ⟨some 0, rfl⟩

theorem Chip.refused_crook (r : Req) (wr : Bool) (a : Nat) : (c.refused r wr a).crook = c.crook := by
  unfold Chip.refused
  dsimp only
  split <;> rfl

/-- Such a store holds issue. -/
theorem Chip.holdStore_crook (a bytes v : Nat) : ∃ b, (c.holdStore a bytes v).crook =
    { c.crook with stores := c.crook.stores ++ [⟨a, bytes, v, b⟩] } := by
  unfold Chip.holdStore
  dsimp only
  split
  · exact ⟨false, rfl⟩
  · split
    · exact ⟨false, rfl⟩
    · exact ⟨true, by rw [c.refused_crook]⟩
    · exact ⟨true, rfl⟩

theorem Chip.doLoad_held {x : Ctx} {o : MemOp} {a : Nat} (hx : x.w = .crook) (ha : o.addrs = [a]) (hr : o.regs.length = 1)
    (hout : isRam a = false) (zext : Bool) : ∃ d, c.doLoad x o zext = .ok (d, o.updW) ∧
      ∃ dst lat v, d.crook = { c.crook with loads := c.crook.loads ++ [⟨a, o.bytes, dst, lat, v⟩] } := by
  obtain ⟨r, hregs⟩ := List.length_eq_one_iff.mp hr
  obtain ⟨w, k, px⟩ := x
  obtain rfl : w = .crook := hx
  obtain ⟨v, hv⟩ := c.holdLoad_crook a o.bytes
    (if zext then .zext (Ctx.preg ⟨.crook, k, px⟩ r) o.bytes else .word (Ctx.preg ⟨.crook, k, px⟩ r)) (busLat o.bus)
  exact ⟨_, by simp [Chip.doLoad, ha, hregs, Chip.crookLoad, hout], _, _, v, hv⟩

theorem Chip.doStore_held {x : Ctx} {o : MemOp} {a : Nat} (hx : x.w = .crook) (ha : o.addrs = [a]) (hr : o.regs.length = 1)
    (hout : isRam a = false) (raw : Bool) : ∃ d ws, c.doStore x o raw = .ok (d, ws) ∧
      ∃ v b, d.crook = { c.crook with stores := c.crook.stores ++ [⟨a, o.bytes, v, b⟩] } := by
  obtain ⟨w, k, px⟩ := x
  obtain rfl : w = .crook := hx
  unfold Chip.doStore
  dsimp only
  generalize hdata : (if raw = true then _ else _ : List Nat) = data
  have hlen : data.length = 1 := by
    rw [← hdata]
    cases raw <;> simp [convWords_length, hr]
  obtain ⟨v, rfl⟩ := List.length_eq_one_iff.mp hlen
  obtain ⟨b, hb⟩ := c.holdStore_crook a o.bytes v
  exact ⟨_, _, rfl, v, b, by simpa [ha, Chip.crookStore, hout] using hb⟩

end Sys2Proof.Machine

namespace Sys2Proof

open Sys2Proof.Machine

variable {s : State} {i : Instr} {m : MemMeaning} {o : MemOp}

/-! ## The tables of loads and stores -/

theorem exec_of_loadMeaning (h : loadMeaning i = some m) :
    exec i s = s.act fun c => c.issue m.w m.px m.enc (opLoad m.bus m.pair m.bytes m.narrow m.m m.disp) := by
  unfold loadMeaning at h
  split at h <;> cases h <;> rfl

theorem exec_of_storeMeaning (h : storeMeaning i = some m) :
    exec i s = s.act fun c => c.issue m.w m.px m.enc (opStore m.bus m.pair m.bytes m.narrow m.m m.disp) := by
  unfold storeMeaning at h
  split at h <;> cases h <;> rfl

theorem memOperand_shape (h : memOperand s m = .ok o) : o.Shape := Chip.operand_shape _ h

/-- A load that protection allows is what its access does. -/
theorem opLoad_eq (ho : memOperand s m = .ok o) (hp : (atIssue s.chip m.w).protect (seen s.chip m.w m.px) [(false, o)] = .ok ())
    {d : Chip} {ws : List (Nat × Wr)} (hd : (atIssue s.chip m.w).doLoad (seen s.chip m.w m.px) o m.narrow = .ok (d, ws)) :
    opLoad m.bus m.pair m.bytes m.narrow m.m m.disp (atIssue s.chip m.w) (seen s.chip m.w m.px) = .ok (d, ws, .seq) := by
  unfold memOperand at ho
  simp only [opLoad, ho, hp, hd]

/-- A store that protection allows is what its access does. -/
theorem opStore_eq (ho : memOperand s m = .ok o) (hp : (atIssue s.chip m.w).protect (seen s.chip m.w m.px) [(true, o)] = .ok ())
    {d : Chip} {ws : List (Nat × Wr)} (hd : (atIssue s.chip m.w).doStore (seen s.chip m.w m.px) o m.narrow = .ok (d, ws)) :
    opStore m.bus m.pair m.bytes m.narrow m.m m.disp (atIssue s.chip m.w) (seen s.chip m.w m.px) = .ok (d, ws, .seq) := by
  unfold memOperand at ho
  simp only [opStore, ho, hp, hd]

/-- A load that is served now leaves the core of its processor. -/
theorem readsNow_core {w : Proc} {px : Px} {narrow : Bool} {vs : List PWord} {d : Chip}
    (h : readsNow (atIssue s.chip w) (seen s.chip w px) o narrow = some (vs, d)) : d.core w = s.chip.core w := by
  cases w with
  | engine n =>
    unfold readsNow at h
    dsimp only [seen] at h
    split at h
    next r hr =>
      cases h
      exact congrArg Eng.core (Chip.engine_congr (Chip.engLoad_eng _ hr) n.val)
    next => cases h
  | crook =>
    unfold readsNow at h
    dsimp only [seen] at h
    split at h
    · cases h
      rfl
    · cases h

/-- A store that is taken now leaves of the core of its processor all but the dither generator. -/
theorem storesNow_core {w : Proc} {px : Px} {raw : Bool} {ws : List (Nat × Wr)} {d : Chip}
    (h : storesNow (atIssue s.chip w) (seen s.chip w px) o raw = some (ws, d)) : ∃ g, d.core w = { s.chip.core w with g := g } := by
  cases w with
  | engine n =>
    unfold storesNow at h
    dsimp only [seen] at h
    split at h
    next r us hr =>
      cases h
      exact Chip.engStore_core _ hr
    next => cases h
  | crook =>
    unfold storesNow at h
    dsimp only [seen] at h
    split at h
    · cases h
      exact ⟨s.chip.crook.core.g, rfl⟩
    · cases h

/-- Settles O10: a load is its operand, the protection check and the access, which leaves the core of its processor. -/
theorem loadInstructionsComplete : Obligations.LoadInstructionsComplete := by
  intro i s m o vs d hm hp ho hprot hread
  have hbody := opLoad_eq ho hprot (Chip.doLoad_now _ (memOperand_shape ho) hread)
  have hcore := readsNow_core hread
  exact hp.exec_seq (exec_of_loadMeaning hm) hbody (by rw [hcore]) (by rw [hcore])

/-- Settles O11: a store is its operand, the protection check and the access, which leaves block repeats and slots alone. -/
theorem storeInstructionsComplete : Obligations.StoreInstructionsComplete := by
  intro i s m o ws d hm hp ho hprot hstore
  have hbody := opStore_eq ho hprot (Chip.doStore_now _ (memOperand_shape ho) hstore)
  obtain ⟨g, hcore⟩ := storesNow_core hstore
  exact hp.exec_seq (exec_of_storeMeaning hm) hbody (by rw [hcore]) (by rw [hcore])

/-- Where an instruction of the crook issues plainly no access holds issue. -/
theorem plainIssue_noneHeld {c : Chip} {px : Px} {e : Enc} (hi : plainIssue c .crook px e = true) :
    c.crook.loads = [] ∧ c.crook.stores = [] := by
  simp only [plainIssue, Chip.canIssue, Bool.and_eq_true, List.isEmpty_iff] at hi
  obtain ⟨⟨⟨⟨⟨⟨⟨⟨⟨⟨⟨-, hloads⟩, hstores⟩, -⟩, -⟩, -⟩, -⟩, -⟩, -⟩, -⟩, -⟩, -⟩ := hi
  exact ⟨hloads, hstores⟩

/-- An instruction of the crook that goes on in program order leaves of the crook, but for its core, what its body does. -/
theorem PlainAt.completes_crook {px : Px} {e : Enc} {body : Body} {d : Chip} {ws : List (Nat × Wr)} (h : PlainAt s .crook px e)
    (he : exec i s = s.act fun c => c.issue .crook px e body)
    (hb : body (atIssue s.chip .crook) (seen s.chip .crook px) = .ok (d, ws, .seq)) (hd : d.crook.core = s.chip.crook.core) :
    Completes i s fun t => t.crook = { d.crook with core := t.crook.core } := by
  refine ⟨_, h.exec_seq he hb (congrArg Core.lc hd) (congrArg Core.slot hd), rfl, ?_⟩
  simp [moveOn, Chip.setCore, issued]

/-- Settles O13: outside RAM the access joins those that hold the crook's issue, of which there were none. -/
theorem crookAccessOutsideRamHoldsIssue : Obligations.CrookAccessOutsideRamHoldsIssue := by
  intro i s m o a hw hp ho haddrs hregs hout
  obtain ⟨hloads, hstores⟩ := plainIssue_noneHeld (hw ▸ hp.issues)
  refine ⟨fun hm hprot => ?_, fun hm hprot => ?_⟩
  · obtain ⟨d, hd, dst, lat, v, hcrook⟩ := (atIssue s.chip m.w).doLoad_held (x := seen s.chip m.w m.px) hw haddrs hregs hout m.narrow
    have hexec := exec_of_loadMeaning (s := s) hm
    have hbody := opLoad_eq ho hprot hd
    rw [hw] at hp hexec hbody hcrook
    obtain ⟨t, ht, hq, ht'⟩ := hp.completes_crook hexec hbody (by rw [hcrook]; rfl)
    have hheld : t.chip.crook.loads = [⟨a, o.bytes, dst, lat, v⟩] := by
      rw [ht', hcrook]
      exact congrArg (· ++ [_]) hloads
    exact ⟨t, ht, hq, by simp [Chip.canIssue, hheld], by simp [hheld]⟩
  · obtain ⟨d, ws, hd, v, b, hcrook⟩ := (atIssue s.chip m.w).doStore_held (x := seen s.chip m.w m.px) hw haddrs hregs hout m.narrow
    have hexec := exec_of_storeMeaning (s := s) hm
    have hbody := opStore_eq ho hprot hd
    rw [hw] at hp hexec hbody hcrook
    obtain ⟨t, ht, hq, ht'⟩ := hp.completes_crook hexec hbody (by rw [hcrook]; rfl)
    have hheld : t.chip.crook.stores = [⟨a, o.bytes, v, b⟩] := by
      rw [ht', hcrook]
      exact congrArg (· ++ [_]) hstores
    exact ⟨t, ht, hq, by simp [Chip.canIssue, hheld], by simp [hheld]⟩

end Sys2Proof
end

section
/-! PROOFS. Block repeats: the loop-back check at an open level, the levels that `brep` and `brepr` open, and the one that `bbrk` ends
(R129, R166, R167). -/

namespace Sys2Proof.Machine

/-! ## The loop-back check (R167) -/

/-- The check changes nothing where the innermost open level does not end at the next instruction. -/
theorem Core.loopCheck_inside {k : Core} {next l : Nat} (ho : k.lcAt l ≠ 0) (hle : KMap.get 0 l k.le ≠ next) :
    ∀ n, l < n → (∀ j, l < j → j < n → k.lcAt j = 0) → Core.loopCheck next n k = (k, next, none)
  | 0, hl, _ => absurd hl (Nat.not_lt_zero l)
  | n + 1, hl, hc => by
    unfold Core.loopCheck
    by_cases h : l = n
    · subst h
      rw [if_neg ho, if_pos hle]
    · rw [if_pos (hc n (by omega) n.lt_succ_self)]
      exact Core.loopCheck_inside ho hle n (by omega) fun j hj hn => hc j hj (by omega)

/-- What a search from above finds lies below nothing else that it would find. -/
theorem find?_range_reverse {p : Nat → Bool} {l : Nat} : ∀ {n}, (List.range n).reverse.find? p = some l →
    l < n ∧ p l = true ∧ ∀ j, l < j → j < n → p j = false
  | 0, h => by cases h
  | n + 1, h => by
    rw [List.range_succ, List.reverse_append, List.reverse_singleton, List.singleton_append, List.find?_cons] at h
    split at h
    next hn => cases h; exact ⟨Nat.lt_succ_self _, hn, fun j hj hjn => absurd hj (by omega)⟩
    next hn =>
      obtain ⟨hl, hp, hrest⟩ := find?_range_reverse h
      refine ⟨by omega, hp, fun j hj hjn => ?_⟩
      by_cases he : j = n
      · exact he ▸ hn
      · exact hrest j hj (by omega)

/-- The innermost open level is open, and the levels behind it are closed. -/
theorem Core.innermost_spec {k : Core} {l : Nat} (h : k.innermost = some l) :
    l < 4 ∧ k.lcAt l ≠ 0 ∧ ∀ j, l < j → j < 4 → k.lcAt j = 0 := by
  have hfind : (List.range 4).reverse.find? (fun i => decide (k.lcAt i ≠ 0)) = some l := h
  simpa using find?_range_reverse hfind

/-! ## Opening a level (R166) -/

theorem Core.freeLevel_none_open {k : Core} (h : k.lc = []) : k.freeLevel = some 0 := by
  simp [Core.freeLevel, List.range_succ, Core.lcAt_nil k h]

/-- With no level open the lowest opens. -/
theorem Core.openLevel_lowest {k : Core} (h : k.lc = []) (n start blen : Nat) : k.openLevel n start blen =
    { k with lc := KMap.set 0 0 n k.lc, ls := KMap.set 0 0 (start % 2 ^ 20) k.ls, le := KMap.set 0 0 ((start + blen) % 2 ^ 20) k.le } := by
  simp [Core.openLevel, Core.freeLevel_none_open h]

/-! ## The body behind the setup slots -/

theorem classLen_le (c : Cls) (pl : Nat) : classLen c pl ≤ 6 := by
  cases c <;> simp [classLen]
  omega

theorem Enc.len_le (e : Enc) : e.len ≤ 6 := by
  unfold Enc.len
  split
  · exact classLen_le _ _
  · omega

theorem pxLen_le (px : Px) : pxLen px ≤ 10 := by
  have hb : ∀ b, b2n b ≤ 1 := by decide
  have h1 := hb px.rep.isSome
  have h2 := hb px.cond.isSome
  have h3 := hb px.sm.isSome
  have h4 := hb px.wabs.isSome
  have h5 := hb px.bswap
  have h6 := hb px.split
  unfold pxLen
  omega

theorem lenAt_bounds (m : Mem) (base a : Nat) : 1 ≤ lenAt m base a ∧ lenAt m base a ≤ 16 := by
  unfold lenAt
  split
  next px e _ =>
    have h1 := pxLen_le px
    have h2 := e.len_le
    unfold instrLen
    omega
  next => omega

/-- The instruction that follows the next `n` lies behind them, and not far. -/
theorem addrAfter_bounds (m : Mem) (base : Nat) : ∀ n a, a + n ≤ addrAfter m base n a ∧ addrAfter m base n a ≤ a + 16 * n
  | 0, a => by simp [addrAfter]
  | n + 1, a => by
    have hlen := lenAt_bounds m base a
    have hrest := addrAfter_bounds m base n (a + lenAt m base a)
    unfold addrAfter
    omega

/-- The body of a new level does not end where its setup slots begin. -/
theorem bodyEnd_ne (m : Mem) (base : Nat) (next : Nat) (blen : Word16) :
    (addrAfter m base 3 next + blen.toNat) % 2 ^ 20 ≠ next := by
  have h := addrAfter_bounds m base 3 next
  have hb := blen.isLt
  omega

/-! ## The core behind an instruction of a block repeat -/

/-- `brep` and `brepr` open their level and go on behind themselves. -/
theorem Core.stepSeq_setup {k : Core} (hl : k.lc = []) (hs : k.slot = .none) {next n body blen : Nat} (hn : n ≠ 0)
    (he : (body + blen) % 2 ^ 20 ≠ next) (f : Nat → Nat → Bool) :
    k.stepSeq next (.setup n blen) body f = { k.openLevel n body blen with pc := next } := by
  have hopen := Core.openLevel_lowest hl n body blen
  have hlc : ∀ j, (k.openLevel n body blen).lcAt j = if j = 0 then n else 0 := by
    intro j
    rw [hopen]
    split
    next h => rw [h]; exact KMap.get_set_self _ _ _ _
    next h => exact (KMap.get_set_ne _ _ h _ _).trans (Core.lcAt_nil k hl j)
  have hend : KMap.get 0 0 (k.openLevel n body blen).le ≠ next := by
    rw [hopen]
    exact fun h => he ((KMap.get_set_self _ _ _ _).symm.trans h)
  have hcheck := Core.loopCheck_inside (l := 0) (by rw [hlc]; exact hn) hend 4 (by omega) fun j hj _ => by
    rw [hlc, if_neg (by omega)]
  unfold Core.stepSeq
  dsimp only
  rw [hcheck, hs]
  rfl

/-- `bbrk` makes the pass in progress of the innermost level the last and goes on behind itself. -/
theorem Core.stepSeq_bbrk {k : Core} {next l : Nat} (hin : k.innermost = some l) (hs : k.slot = .none)
    (he : KMap.get 0 l k.le ≠ next) (body : Nat) (f : Nat → Nat → Bool) :
    k.stepSeq next .bbrk body f = { k with lc := KMap.set 0 l 1 k.lc, pc := next } := by
  obtain ⟨hl, -, hclosed⟩ := Core.innermost_spec hin
  have hself : ({ k with lc := KMap.set 0 l 1 k.lc } : Core).lcAt l = 1 := KMap.get_set_self 0 l 1 k.lc
  have hcheck := Core.loopCheck_inside (k := { k with lc := KMap.set 0 l 1 k.lc }) (l := l) (by rw [hself]; decide) he 4 hl
    fun j hj hn => (KMap.get_set_ne 0 0 hj.ne' 1 k.lc).trans (hclosed j hj hn)
  unfold Core.stepSeq
  dsimp only
  rw [hin]
  dsimp only
  rw [hcheck, hs]
  rfl

variable (c : Chip)

theorem Chip.advancePc_setup {w : Proc} (hl : (c.core w).lc = []) (hs : (c.core w).slot = .none) (len : Nat) {n : Nat} (hn : n ≠ 0)
    (blen : Word16) : (c.advancePc w len (.setup n blen.toNat)).core w =
      { (c.core w).openLevel n (addrAfter c.mem (progBase w) 3 (Sys2Proof.pcAfter w (c.core w) len)) blen.toNat with
        pc := Sys2Proof.pcAfter w (c.core w) len, slot := .setup 3 } := by
  unfold Chip.advancePc
  dsimp only
  split
  next h => rw [hs] at h; cases h
  next =>
    rw [Chip.core_setCore, Core.stepSeq_setup hl hs hn (bodyEnd_ne c.mem (progBase w) _ blen)]
    rfl

theorem Chip.advancePc_bbrk {w : Proc} {l : Nat} (hin : (c.core w).innermost = some l) (hs : (c.core w).slot = .none) (len : Nat)
    (he : KMap.get 0 l (c.core w).le ≠ Sys2Proof.pcAfter w (c.core w) len) : (c.advancePc w len .bbrk).core w =
      { c.core w with lc := KMap.set 0 l 1 (c.core w).lc, pc := Sys2Proof.pcAfter w (c.core w) len } := by
  unfold Chip.advancePc
  dsimp only
  split
  next h => rw [hs] at h; cases h
  next => exact (Chip.core_setCore _ _ _).trans (Core.stepSeq_bbrk hin hs he _ _)

@[simp] theorem Chip.settle_core (w : Proc) : c.settle.core w = c.core w := by
  cases w with
  | engine n => exact congrArg Eng.core (Chip.settle_engine c n.val)
  | crook => exact congrArg CrookSt.core c.settle_crook

theorem atIssue_mem (w : Proc) : (Sys2Proof.atIssue c w).mem = c.mem := by cases w <;> rfl

/-- The core with which an instruction that issues no write moves on: one cycle later. -/
def Core.nextCycle (k : Core) : Core := { k with cyc := k.cyc + 1 }

/-- An instruction whose body only says how the program goes on moves on from the next cycle. -/
theorem Chip.issue_flow {w : Proc} {px : Px} {e : Enc} {body : Body} {f : Flow} (hi : Sys2Proof.plainIssue c w px e = true)
    (hn : Ctx.nullified ⟨w, c.core w, px⟩ = false)
    (hb : body (Sys2Proof.atIssue c w) ⟨w, c.core w, px⟩ = .ok (Sys2Proof.atIssue c w, [], f)) :
    ∃ d : Chip, c.issue w px e body = d.advancePc w (instrLen px e) f ∧ d.core w = (c.core w).nextCycle ∧ d.mem = c.mem := by
  refine ⟨_, c.issue_plain w px e body _ _ f hi hn hb, ?_, ?_⟩
  · simp [Core.nextCycle]
  · rw [Chip.setCore_mem, issued_id _ _ _ (by rw [atIssue_evt]), atIssue_mem]

end Sys2Proof.Machine

namespace Sys2Proof

open Sys2Proof.Machine

variable {s : State} {i : Instr}

/-- An instruction that opens a level completes with the level open and the setup slots behind it. -/
theorem PlainAt.completes_setup {w : Proc} {px : Px} {e : Enc} (h : PlainAt s w px e) {n : Ctx → Nat} {blen : Word16}
    (he : exec i s = s.act fun c => c.issue w px e (opBrep n blen.toNat)) (hn : n (seen s.chip w px) ≠ 0) :
    Completes i s fun d =>
      let k := s.chip.core w
      let next := pcAfter w k (instrLen px e)
      d.core w = { (k.openLevel (n (seen s.chip w px)) (addrAfter s.chip.mem (progBase w) 3 next) blen.toNat) with
        pc := next, cyc := k.cyc + 1, slot := .setup 3 } := by
  obtain ⟨-, hi, -, hnull⟩ := id h
  have hbody : opBrep n blen.toNat (atIssue s.chip w) (seen s.chip w px) =
      .ok (atIssue s.chip w, [], .setup (n (seen s.chip w px)) blen.toNat) := by
    simp [opBrep, seen, Core.freeLevel_none_open h.lc]
  obtain ⟨d, hissue, hcore, hmem⟩ := s.chip.issue_flow hi hnull hbody
  refine completes_act he ?_
  dsimp only
  rw [hissue, Chip.settle_core, d.advancePc_setup (by rw [hcore]; exact h.lc) (by rw [hcore]; exact h.slot) _ hn, hcore, hmem]
  simp [Core.nextCycle, Core.openLevel_lowest, h.lc, pcAfter]

/-- Settles O18: the new level is the lowest, since none is open, and its body ends beyond the instructions that follow at once, so that
no level loops back. -/
theorem blockRepeatsOpenBehindTheSetupSlots : Obligations.BlockRepeatsOpenBehindTheSetupSlots := by
  intro s w px f8 cnt blen k x e opens
  refine ⟨fun h => h.completes_setup (n := fun _ => cnt.toNat + 1) rfl (Nat.succ_ne_zero _),
    fun h => h.completes_setup (n := fun x => x.u (f8.toNat % 32) % 65536 + 1) rfl (Nat.succ_ne_zero _),
    fun l hi hnull hin hend => ?_⟩
  obtain ⟨d, hissue, hcore, -⟩ := s.chip.issue_flow (body := opFlow .bbrk) hi hnull rfl
  refine completes_act (f := fun c => c.issue w px ⟨0xA7, 0⟩ (opFlow .bbrk)) rfl ?_
  obtain ⟨-, hslot, -⟩ := plainIssue_parts hi
  rw [hissue, Chip.settle_core, d.advancePc_bbrk (l := l) (by rw [hcore]; exact hin) (by rw [hcore]; exact hslot) _
    (by rw [hcore]; exact hend), hcore]
  exact ⟨KMap.get_set_self 0 l 1 _, rfl⟩

end Sys2Proof
end

section
/-! PROOFS. The crook's held accesses, its interrupts and its watchdog complete with their effects (R123, R156, R170, R261, R266,
R268). -/

namespace Sys2Proof.Machine

variable (c : Chip)

/-! ## A read of the map leaves the crook (R6, R21) -/

theorem Chip.readLow_crook {r : Req} {a : Nat} {x : Word × Chip} (h : c.readLow r a = some x) : x.2.crook = c.crook := by
  have hglide : c.readGlideData.2.crook = c.crook := by
    unfold Chip.readGlideData Chip.glideAinc
    dsimp only
    split <;> rfl
  by_cases ha : a = R.CO_GLIDE_DATA
  · subst ha
    cases h
    exact hglide
  · unfold Chip.readLow at h
    dsimp only at h
    rw [if_neg ha] at h
    split_ifs at h
    all_goals cases h
    all_goals rfl

theorem Chip.readMid_crook {a : Nat} {x : Word × Chip} (h : c.readMid a = some x) : x.2.crook = c.crook := by
  unfold Chip.readMid at h
  dsimp only at h
  split at h
  · cases h
    rfl
  · split_ifs at h
    all_goals cases h
    all_goals rfl

theorem Chip.readHigh_crook {a : Nat} {x : Word × Chip} (h : c.readHigh a = some x) : x.2.crook = c.crook := by
  unfold Chip.readHigh at h
  dsimp only at h
  split at h
  · cases h
    rfl
  · split at h
    · cases h
      rfl
    · split_ifs at h
      all_goals cases h
      all_goals rfl

theorem Chip.readReg_crook (r : Req) (a : Nat) : (c.readReg r a).2.crook = c.crook := by
  unfold Chip.readReg
  dsimp only
  split
  next x h =>
    split_ifs at h
    · exact c.readLow_crook h
    · exact c.readMid_crook h
    · exact c.readHigh_crook h
  next =>
    split
    · rfl
    · split
      · rfl
      · rfl

theorem Chip.fetchMap_crook (r : Req) (a n : Nat) : (c.fetchMap r a n).2.crook = c.crook := by
  unfold Chip.fetchMap
  split
  · exact c.readReg_crook r a
  · split
    · rfl
    · split <;> rfl

theorem Chip.busReadN_crook (r : Req) (a n : Nat) : (c.busReadN r a n).2.2.crook = c.crook := by
  unfold Chip.busReadN
  split
  · exact c.fetchMap_crook r a n
  · exact c.refused_crook r false a
  · rfl

/-! ## Held loads and stores (R123, R156, R170) -/

theorem Chip.endLoad_loads (l : HeldLoad) : (c.endLoad l).crook.loads = c.crook.loads := by
  unfold Chip.endLoad
  split
  · rfl
  · have h := c.busReadN_crook .crook l.addr l.bytes
    generalize c.busReadN .crook l.addr l.bytes = x at h ⊢
    obtain ⟨ok, v, d⟩ := x
    exact (congrArg CrookSt.loads h : d.crook.loads = c.crook.loads)

theorem Chip.crookReturn_eq (h : c.crook.loads.any HeldLoad.waits = false) :
    c.crookReturn = c.crook.loads.foldl Chip.endLoad { c with crook := { c.crook with loads := [] } } := by
  unfold Chip.crookReturn
  rw [h]
  rfl

theorem Chip.crookReturn_loads (h : c.crook.loads.any HeldLoad.waits = false) : c.crookReturn.crook.loads = [] := by
  rw [c.crookReturn_eq h]
  exact List.foldlRecOn (motive := fun d : Chip => d.crook.loads = []) _ _ rfl fun d hd l _ => (d.endLoad_loads l).trans hd

/-- The data of a word that a gap slot has served goes under way to its register. -/
theorem Chip.endLoad_word {l : HeldLoad} {v : Word} {p : Nat} (hv : l.val = some v) (hd : l.dst = .word p) :
    (c.endLoad l).crook.core.pend = c.crook.core.pend ++ [(c.crook.core.cyc + l.lat, .p p (wordToP v))] ∧
      (c.endLoad l).bus.crook = v := by
  simp [Chip.endLoad, hv, Chip.fillReg, hd, Chip.keepRead]

theorem Chip.crookComplete_eq (hl : c.crook.loads = []) (hw : c.crook.stores.any HeldStore.waits = false) :
    c.crookComplete = (c.crook.stores.foldl (fun (c : Chip) s =>
      if inPasture s.addr then c else (c.busWriteN .crook s.addr s.bytes s.val).2)
        { c with crook := { c.crook with stores := [] } }).endSync := by
  unfold Chip.crookComplete
  rw [hl, hw]
  rfl

/-- Stores that a gap slot has served leave nothing more to do. -/
theorem Chip.crookComplete_pasture (hl : c.crook.loads = []) (hw : c.crook.stores.any HeldStore.waits = false)
    (hp : (c.crook.stores.all fun x => inPasture x.addr) = true) :
    c.crookComplete = ({ c with crook := { c.crook with stores := [] } } : Chip).endSync := by
  rw [c.crookComplete_eq hl hw]
  refine congrArg Chip.endSync (List.foldlRecOn (motive := fun d : Chip => d = _) _ _ rfl fun d hd x hx => ?_)
  rw [if_pos (List.all_eq_true.mp hp x hx)]
  exact hd

/-- `sync` ends where it holds issue, at the cycle by which every access has completed. -/
theorem Chip.endSync_crook : c.endSync.crook.stores = c.crook.stores ∧ c.endSync.crook.syncing = false ∧
    c.endSync.crook.core.cyc = if c.crook.syncing then max c.crook.core.cyc c.crook.memAt else c.crook.core.cyc := by
  unfold Chip.endSync
  cases h : c.crook.syncing
  · simp [h]
  · simp

/-! ## Interrupts (R261, R266) -/

/-- The crook as a trap or an interrupt finds it that takes its vector: what it saves and where it goes on. -/
theorem Chip.takeTrap_crook {vec : Nat} {sync : Bool} (hm : (sync && c.crook.mode.getLsbD 2) = false)
    (hv : c.crook.vbase.toNat + 16 * vec < 2 ^ 20) (h7 : vec ≠ 7) (epc t : Nat) :
    (c.takeTrap vec epc t false sync none).mem = c.mem ∧ (c.takeTrap vec epc t false sync none).crook = { c.crook with
      epc := epc % 2 ^ 20
      estat := (c.crook.mode.zeroExtend 8 <<< 5) ||| c.crook.core.fl.zeroExtend 8
      cause := BitVec.ofNat 17 vec
      mode := 0b101
      waiting := false
      afterRti := false
      repLeft := 0
      repHeld := false
      core := { c.crook.core with pc := c.crook.vbase.toNat + 16 * vec, slot := .none, cyc := c.crook.core.cyc + 3 } } := by
  have hpc : ¬ 2 ^ 20 ≤ c.crook.vbase.toNat + 16 * vec := Nat.not_le.mpr hv
  unfold Chip.takeTrap
  simp only [hm, Bool.false_eq_true, if_false, if_neg hpc, if_neg h7]
  exact ⟨rfl, rfl⟩

/-- The crook as an interrupt or the watchdog's warning finds it: REPC holds what is left of a repeat, and the warning is taken. -/
def Chip.entering (c : Chip) : Chip :=
  { c with crook := { c.crook with repc := if c.crook.repLeft = 0 then c.crook.repc else c.crook.repLeft, wdWarn := false } }

/-- The device with what is left of a repeat in REPC. -/
def Chip.repSaved (c : Chip) : Chip := if c.crook.repLeft = 0 then c else { c with crook := { c.crook with repc := c.crook.repLeft } }

theorem Chip.entering_of_warn : ({ c.repSaved with crook := { c.repSaved.crook with wdWarn := false } } : Chip) = c.entering := by
  unfold Chip.entering Chip.repSaved
  split <;> rfl

theorem Chip.entering_of_noWarn (h : c.crook.wdWarn = false) : c.repSaved = c.entering := by
  unfold Chip.entering Chip.repSaved
  split <;> rw [← h]

/-- An interrupt that is due is a trap to its vector, and only the warning's halts a crook that handles one already. -/
theorem Chip.interrupt_taken (hb : c.crookBetween = true) {v : Nat} (hv : Sys2Proof.nextVector (Sys2Proof.atEntry c) = some v) :
    ∃ sync, (sync && (Sys2Proof.atEntry c).crook.mode.getLsbD 2) = false ∧ v ≠ 7 ∧
      c.interrupt = (Sys2Proof.atEntry c).entering.takeTrap v (Sys2Proof.atEntry c).crook.core.pc 0 false sync none := by
  unfold Chip.interrupt
  rw [if_neg (by rw [hb]; decide)]
  dsimp only
  rw [show c.landTo .crook c.crook.core.cyc = Sys2Proof.atEntry c from rfl]
  generalize Sys2Proof.atEntry c = d at hv ⊢
  unfold Sys2Proof.nextVector at hv
  split at hv
  next hw =>
    split at hv
    next => cases hv
    next hm =>
      cases hv
      refine ⟨true, by simpa using hm, by decide, ?_⟩
      rw [if_pos hw, ← d.entering_of_warn]
      rfl
  next hw =>
    split at hv
    next hie =>
      rw [Option.map_eq_some_iff] at hv
      obtain ⟨i, hi, rfl⟩ := hv
      refine ⟨false, rfl, by omega, ?_⟩
      rw [if_neg hw, if_neg (by rw [hie]; decide), hi, ← d.entering_of_noWarn (by simpa using hw)]
      rfl
    next => cases hv

/-! ## The watchdog's registers (R268) -/

/-- A field depends on the bits under its mask alone. -/
theorem Fld.of_congr {f : Fld} {x y : Word} (h : x &&& f.mask = y &&& f.mask) : f.of x = f.of y := by
  rw [← Fld.of_merge (f := f) (rc := f.mask) BitVec.and_self 0 x, h, Fld.of_merge BitVec.and_self]

/-- A field that software writes as it likes, whatever the other bits of its register do. -/
def Fld.writable (f : Fld) : Bool :=
  decide (regCanon f.addr = f.addr) &&
    (regRow? f.addr).any fun r => decide (f.mask &&& r.rw = f.mask) && decide (f.mask &&& r.w1s = 0) && decide (r.w1c = 0)

theorem Chip.get_plainWrite_writable {f : Fld} (hf : f.writable = true) (v : Word) : (c.plainWrite f.addr v).get f = f.of v := by
  simp only [Fld.writable, Bool.and_eq_true, decide_eq_true_eq, Option.any_eq_true] at hf
  obtain ⟨ha, row, hr, ⟨hm, hs⟩, hc⟩ := hf
  have hrd := c.rd_plainWrite_self hr v
  rw [ha] at hrd
  have hof : (c.plainWrite f.addr v).get f = f.of ((c.plainWrite f.addr v).rd f.addr) := rfl
  rw [hof, hrd]
  refine Fld.of_congr ?_
  simp only [RegRow.written, hc, BitVec.ofNat_eq_ofNat, BitVec.and_zero, BitVec.or_zero, BitVec.not_zero, BitVec.and_allOnes]
  ext i hi
  have hmi := congrArg (fun w : Word => w[i]) hm
  have hsi := congrArg (fun w : Word => w[i]) hs
  simp only [BitVec.getElem_and] at hmi hsi
  cases h : f.mask[i] <;> simp_all

theorem Chip.plainWrite_crook (a : Nat) (v : Word) : (c.plainWrite a v).crook = c.crook := (congrArg Chip.crook (c.plainWrite_rest a v) :)

/-- What a write that enables the watchdog leaves: a count that starts where it was off. -/
theorem Chip.writeWdtCtrl_enables {v : Word} (hv : F.CRK_WDT_CTRL_en.ofB v = true) :
    (c.writeWdtCtrl v).bit F.CRK_WDT_CTRL_en = true ∧ (c.writeWdtCtrl v).get F.CRK_WDT_CTRL_per = F.CRK_WDT_CTRL_per.of v ∧
      ((c.writeWdtCtrl v).crook.wdCount, (c.writeWdtCtrl v).crook.wdFrac) =
        if c.bit F.CRK_WDT_CTRL_en then (c.crook.wdCount, c.crook.wdFrac) else (max (F.CRK_WDT_CTRL_per.of v) 1 * 65536, 0) := by
  have hen := c.bit_plainWrite_set (f := F.CRK_WDT_CTRL_en) (by decide) hv
  have hper := c.get_plainWrite_writable (f := F.CRK_WDT_CTRL_per) (by decide) v
  have haddr : c.plainWrite F.CRK_WDT_CTRL_per.addr v = c.plainWrite F.CRK_WDT_CTRL_en.addr v := rfl
  rw [haddr] at hper
  unfold Chip.writeWdtCtrl
  rw [show R.CRK_WDT_CTRL = F.CRK_WDT_CTRL_en.addr from rfl]
  dsimp only
  rw [hen]
  cases hc : c.bit F.CRK_WDT_CTRL_en
  · exact ⟨hen, hper, by simp [Chip.wdStage, hper]⟩
  · exact ⟨hen, hper, by simp [c.plainWrite_crook]⟩

theorem Chip.writeWdtKick_key {r : Req} (hr : reqCrook r = true) (hm : c.crook.mode.getLsbD 0 = true)
    (he : c.bit F.CRK_WDT_CTRL_en = true) : c.writeWdtKick r 0xA5A5 =
      ({ c with crook := { c.crook with wdCount := c.wdStage, wdFrac := 0 } } : Chip).put F.CRK_WDT_STAT_stage 0 := by
  unfold Chip.writeWdtKick
  rw [hr, hm, he]
  rfl

/-! ## The watchdog's expiry (R265, R268) -/

/-- What lands on the crook changes no register and not the watchdog's count. -/
structure KeepsWatch (c d : Chip) : Prop where
  regs : d.regs = c.regs
  count : d.crook.wdCount = c.crook.wdCount
  frac : d.crook.wdFrac = c.crook.wdFrac

theorem CrookSt.setSys_watch (s : CrookSt) (k : Nat) (v : Word) :
    (s.setSys k v).wdCount = s.wdCount ∧ (s.setSys k v).wdFrac = s.wdFrac := by
  have hite : ∀ (p : Prop) [Decidable p] (a b : CrookSt), a.wdCount = s.wdCount ∧ a.wdFrac = s.wdFrac →
      b.wdCount = s.wdCount ∧ b.wdFrac = s.wdFrac →
      (if p then a else b).wdCount = s.wdCount ∧ (if p then a else b).wdFrac = s.wdFrac := by
    intro p _ a b ha hb
    split
    · exact ha
    · exact hb
  unfold CrookSt.setSys
  iterate 16 refine hite _ _ _ ⟨rfl, rfl⟩ ?_
  exact ⟨rfl, rfl⟩

theorem Chip.landOuter_watch (w : Wr) : KeepsWatch c (c.landOuter w) := by
  unfold Chip.landOuter
  split
  · exact ⟨rfl, rfl, rfl⟩
  next k v => exact ⟨rfl, (c.crook.setSys_watch k v).1, (c.crook.setSys_watch k v).2⟩
  · exact ⟨rfl, rfl, rfl⟩

theorem Chip.landTo_watch (cyc : Nat) : KeepsWatch c (c.landTo .crook cyc) := by
  unfold Chip.landTo
  dsimp only
  split
  · exact ⟨rfl, rfl, rfl⟩
  · refine List.foldlRecOn (motive := fun d => KeepsWatch c d) _ _ ⟨rfl, rfl, rfl⟩ fun d hd w _ => ?_
    have hw := d.landOuter_watch w
    exact ⟨hw.regs.trans hd.regs, hw.count.trans hd.count, hw.frac.trans hd.frac⟩

/-- A crook that halts shows it, and keeps the watchdog's count. -/
theorem Chip.doubleFault_halts (cause : BitVec 17) (epc : Nat) (faddr : Word) :
    (c.doubleFault cause epc faddr).bit F.CRK_STAT_halted = true ∧
      (c.doubleFault cause epc faddr).crook.wdCount = c.crook.wdCount ∧
      (c.doubleFault cause epc faddr).crook.wdFrac = c.crook.wdFrac := by
  have hw := c.landTo_watch c.crook.core.lastLand
  refine ⟨?_, hw.count, hw.frac⟩
  have hset := (c.landTo .crook c.crook.core.lastLand).bit_put_self F.CRK_STAT_halted (by decide) 1
  have hkeeps := (((KeepsFlds.refl ((c.landTo .crook c.crook.core.lastLand).put F.CRK_STAT_halted 1)).wr (a := R.CRK_LAST_CAUSE)
    (v := cause.zeroExtend 32)).wr (a := R.CRK_LAST_EPC) (v := BitVec.ofNat 32 (epc % 2 ^ 20))).wr (a := R.CRK_LAST_FADDR) (v := faddr)
  exact (hkeeps.bit (g := F.CRK_STAT_halted) (by decide)).trans hset

/-- The warning comes up, or halts a crook that handles a trap or an interrupt, and keeps the watchdog's count. -/
theorem Chip.watchdogWarn_spec : (if c.crook.mode.getLsbD 2 then c.watchdogWarn.bit F.CRK_STAT_halted = true
      else c.watchdogWarn.crook.wdWarn = true) ∧
    c.watchdogWarn.crook.wdCount = c.crook.wdCount ∧ c.watchdogWarn.crook.wdFrac = c.crook.wdFrac := by
  unfold Chip.watchdogWarn
  dsimp only
  cases hm : c.crook.mode.getLsbD 2
  · exact ⟨rfl, rfl, rfl⟩
  · cases hh : c.bit F.CRK_STAT_halted
    · exact c.doubleFault_halts _ _ _
    · exact ⟨hh, rfl, rfl⟩

/-- The device at the end of the watchdog's count, which starts again. -/
def Chip.watchReloaded (c : Chip) : Chip :=
  let c1 := c.advance (8 * c.crook.wdCount - c.crook.wdFrac)
  { c1 with crook := { c1.crook with wdCount := c1.wdStage, wdFrac := 0 } }

theorem Chip.watchReloaded_keeps : KeepsFlds [Fld.whole R.PWR_TMR] c c.watchReloaded :=
  KeepsFlds.aside (c.advance_moves _).get rfl

theorem Chip.watchReloaded_stage : c.watchReloaded.crook.wdCount = max (c.get F.CRK_WDT_CTRL_per) 1 * 65536 :=
  congrArg (fun n => max n 1 * 65536) (c.watchReloaded_keeps F.CRK_WDT_CTRL_per (by decide))

theorem Chip.watchdogExpiry_due (he : c.bit F.CRK_WDT_CTRL_en = true) (hr : c.time.rootOn = true)
    (hb : (c.framesRun && decide (c.boundaryRoot < c.now + (8 * c.crook.wdCount - c.crook.wdFrac))) = false) :
    c.watchdogExpiry = if c.get F.CRK_WDT_STAT_stage = 0 then
      (c.watchReloaded.watchdogWarn.put F.CRK_WDT_STAT_stage 1).raise Ev.CRK_WDT_WARN locNone 0
    else (c.watchReloaded.put F.CRK_WDT_STAT_stage 2).softReset 4 := by
  have hstage := c.watchReloaded_keeps F.CRK_WDT_STAT_stage (by decide)
  rw [← hstage]
  unfold Chip.watchdogExpiry
  dsimp only
  rw [if_neg (by simp [he, hr, hb])]
  rfl

/-! ## A reset of the device (R427, R436, R438) -/

theorem KMap.get_keep_of_not {α : Type} (d : α) {p : Nat → Bool} {k : Nat} (h : p k = false) (m : KMap α) :
    KMap.get d k (KMap.keep p m) = d :=
  KMap.get_of_not_mem d fun e he hk => by
    have hp := (List.mem_filter.mp he).2
    rw [hk, h] at hp
    cases hp

/-- Registers outside the retention domain are at their reset values after a reset of the device. -/
theorem Chip.deviceReset_rd (cause : Nat) (stage : Stage) {a : Nat} (ha : retainedReg a = false) :
    (c.deviceReset cause stage).rd a = regReset a := by
  have hstat : a ≠ R.PWR_STAT := by rintro rfl; revert ha; decide
  have hcmd : a ≠ R.PWR_CMD := by rintro rfl; revert ha; decide
  unfold Chip.deviceReset
  dsimp only
  rw [Chip.rd_put_ne _ (f := F.PWR_CMD_sleep) hcmd, Chip.rd_put_ne _ (f := F.PWR_STAT_cause) hstat,
    Chip.rd_put_ne _ (f := F.PWR_STAT_state) hstat]
  exact KMap.get_keep_of_not _ ha _

theorem Chip.statOfReset {cause : Nat} (hc : cause < 16) :
    (((c.put F.PWR_STAT_state 0).put F.PWR_STAT_cause cause).put F.PWR_CMD_sleep 0).get F.PWR_STAT_cause = cause ∧
      (((c.put F.PWR_STAT_state 0).put F.PWR_STAT_cause cause).put F.PWR_CMD_sleep 0).get F.PWR_STAT_state = 0 := by
  rw [Chip.get_put_ne _ (f := F.PWR_CMD_sleep) (by decide), Chip.get_put_ne _ (f := F.PWR_CMD_sleep) (by decide),
    Chip.get_put_self _ _ (by decide), Chip.get_put_disj _ (f := F.PWR_STAT_cause) (g := F.PWR_STAT_state) rfl (by decide) (by decide),
    Chip.get_put_self _ _ (by decide)]
  exact ⟨Nat.mod_eq_of_lt hc, rfl⟩

theorem Chip.deviceReset_stat {cause : Nat} (hc : cause < 16) (stage : Stage) :
    (c.deviceReset cause stage).get F.PWR_STAT_cause = cause ∧ (c.deviceReset cause stage).get F.PWR_STAT_state = 0 :=
  Chip.statOfReset _ hc

/-- A device that was reset has nothing to route, no PA that is keyed and no pulse that runs. -/
theorem Chip.deviceReset_settle (cause : Nat) (stage : Stage) : (c.deviceReset cause stage).settle = c.deviceReset cause stage := by
  refine Chip.settle_id ⟨[], c.deviceReset cause stage⟩ ?_
  have hk : (c.deviceReset cause stage).rf.keyed = false := rfl
  have htp : ∀ n, ((c.deviceReset cause stage).tp n).active = false := by intro n; cases n <;> rfl
  have he : (c.deviceReset cause stage).evt.batch = [] := rfl
  simp [Sys2Proof.safe, Sys2Proof.paSafe, Sys2Proof.airSafe, Sys2Proof.tpSafe, Sys2Proof.evtSettled, hk, htp, he]

theorem Chip.deviceReset_effect {cause : Nat} (hc : cause < 16) : Sys2Proof.resetEffectOf (c.deviceReset cause .t0).settle cause := by
  rw [c.deviceReset_settle]
  exact ⟨rfl, (c.deviceReset_stat hc .t0).1, (c.deviceReset_stat hc .t0).2, rfl, fun a ha => c.deviceReset_rd cause .t0 ha⟩

end Sys2Proof.Machine

namespace Sys2Proof

open Sys2Proof.Machine

variable {s : State}

theorem crookLoadReturn_completes (hr : crookReady s.chip .crookLoadReturn = true) :
    Completes .crookLoadReturn s fun d => crookEffect s.chip d .crookLoadReturn := by
  simp only [crookReady, Bool.and_eq_true, Bool.not_eq_true'] at hr
  obtain ⟨-, hw⟩ := hr
  refine completes_act (f := Chip.crookReturn) rfl ⟨?_, fun l v p hl hv hd => ?_⟩
  · rw [Chip.settle_crook, s.chip.crookReturn_loads hw]
  · have hone : s.chip.crookReturn = Chip.endLoad { s.chip with crook := { s.chip.crook with loads := [] } } l := by
      rw [s.chip.crookReturn_eq hw, hl]
      rfl
    rw [Chip.settle_crook, Chip.settle_bus, hone]
    exact Chip.endLoad_word _ hv hd

theorem crookAccessComplete_completes (hr : crookReady s.chip .crookAccessComplete = true) :
    Completes .crookAccessComplete s fun d => crookEffect s.chip d .crookAccessComplete := by
  simp only [crookReady, Bool.and_eq_true, Bool.not_eq_true', List.isEmpty_iff] at hr
  obtain ⟨⟨hl, hw⟩, -⟩ := hr
  refine completes_act (f := Chip.crookComplete) rfl ⟨fun hp => ?_, fun x hx hp => ?_⟩
  · rw [Chip.settle_crook, s.chip.crookComplete_pasture hl hw hp]
    exact Chip.endSync_crook _
  · rw [s.chip.crookComplete_eq hl hw, hx, List.foldl_cons, List.foldl_nil, if_neg (by rw [hp]; decide)]

/-- An interrupt that is due is a trap out of the device in which the writes due by then have landed (R261). -/
theorem interruptEntry_completes (hr : crookReady s.chip .interruptEntry = true) :
    Completes .interruptEntry s fun d => crookEffect s.chip d .interruptEntry := by
  simp only [crookReady, Bool.and_eq_true, Option.any_eq_true, decide_eq_true_eq] at hr
  obtain ⟨hb, v, hv, hvec⟩ := hr
  obtain ⟨sync, hsync, h7, htaken⟩ := s.chip.interrupt_taken hb hv
  obtain ⟨hmem, hcrook⟩ := (atEntry s.chip).entering.takeTrap_crook (vec := v) hsync hvec h7 (atEntry s.chip).crook.core.pc 0
  refine completes_act (f := Chip.interrupt) rfl fun u hu => ?_
  obtain rfl : v = u := Option.some.inj (hv.symm.trans hu)
  rw [htaken, Chip.settle_crook, Chip.settle_mem, hmem, hcrook]
  exact ⟨rfl, rfl, rfl, rfl, rfl, rfl, rfl, rfl⟩

theorem watchdogEnable_completes {r : Req} {v : Word} (hr : crookReady s.chip (.watchdogEnable r v) = true) :
    Completes (.watchdogEnable r v) s fun d => crookEffect s.chip d (.watchdogEnable r v) := by
  simp only [crookReady, Bool.and_eq_true] at hr
  obtain ⟨hacc, hv⟩ := hr
  refine completes_act (f := fun c => c.guarded r R.CRK_WDT_CTRL fun c => c.writeWdtCtrl v) rfl ?_
  rw [s.chip.guarded_accepted hacc]
  unfold crookEffect
  dsimp only
  rw [Chip.settle_crook, Chip.settle_bit _ (by decide) (by decide), Chip.settle_get _ (by decide) (by decide)]
  exact s.chip.writeWdtCtrl_enables hv

theorem watchdogKick_completes {r : Req} {v : Word} (hr : crookReady s.chip (.watchdogKick r v) = true) :
    Completes (.watchdogKick r v) s fun d => crookEffect s.chip d (.watchdogKick r v) := by
  simp only [crookReady, Bool.and_eq_true, decide_eq_true_eq] at hr
  obtain ⟨⟨⟨⟨hacc, hreq⟩, hm⟩, rfl⟩, hen⟩ := hr
  refine completes_act (f := fun c => c.guarded r R.CRK_WDT_KICK fun c => c.writeWdtKick r 0xA5A5) rfl ?_
  rw [s.chip.guarded_accepted hacc, s.chip.writeWdtKick_key hreq hm hen]
  unfold crookEffect
  dsimp only
  rw [Chip.settle_crook, Chip.settle_get _ (by decide) (by decide), Chip.get_put_self _ _ (by decide)]
  exact ⟨rfl, rfl, rfl⟩

theorem watchdogExpiry_completes (hr : crookReady s.chip .watchdogExpiry = true) :
    Completes .watchdogExpiry s fun d => crookEffect s.chip d .watchdogExpiry := by
  simp only [crookReady, Bool.and_eq_true, decide_eq_true_eq, Bool.not_eq_true'] at hr
  obtain ⟨⟨⟨hen, hroot⟩, hphase⟩, hb⟩ := hr
  refine completes_act (f := Chip.watchdogExpiry) rfl ?_
  rw [s.chip.watchdogExpiry_due hen hroot hb]
  unfold crookEffect
  dsimp only
  split
  next =>
    obtain ⟨hwarn, hcount, hfrac⟩ := s.chip.watchReloaded.watchdogWarn_spec
    rw [Chip.settle_crook, Chip.settle_get _ (by decide) (by decide), Chip.settle_bit _ (by decide) (by decide)]
    have hstage := s.chip.watchReloaded.watchdogWarn.get_put_self F.CRK_WDT_STAT_stage (by decide) 1
    have hhalted := s.chip.watchReloaded.watchdogWarn.bit_put_ne (f := F.CRK_WDT_STAT_stage) (g := F.CRK_STAT_halted) (by decide) 1
    refine ⟨hstage, hcount.trans s.chip.watchReloaded_stage, hfrac, ?_⟩
    rw [← hhalted] at hwarn
    exact hwarn
  next =>
    have hkeeps := s.chip.watchReloaded_keeps.put (f := F.CRK_WDT_STAT_stage) (v := 2)
    have hsoft : (s.chip.watchReloaded.put F.CRK_WDT_STAT_stage 2).softResets = true := by
      rw [Chip.softResets, hkeeps F.SHP_STAT_phase (by decide)]
      exact decide_eq_true hphase
    rw [Chip.softReset, if_pos hsoft]
    exact Chip.deviceReset_effect _ (by decide)

/-- Settles O38: each row is ready under the conditions of its own operation, and does what that operation does. -/
theorem crookRowsComplete : Obligations.CrookRowsComplete := by
  intro i s _ hr
  have hready := hr
  unfold crookReady at hready
  split at hready
  next => exact crookLoadReturn_completes hr
  next => exact crookAccessComplete_completes hr
  next => exact interruptEntry_completes hr
  next => exact watchdogEnable_completes hr
  next => exact watchdogKick_completes hr
  next => exact watchdogExpiry_completes hr
  next => cases hready

end Sys2Proof
end

section
/-! PROOFS. The parallel-move instructions complete: both of their accesses leave the core of their processor but for
its dither generator, so that the two are one issue with the arithmetic (R151, R159 to R161). -/

namespace Sys2Proof.Machine

variable (c : Chip)

/-! ## What an access leaves of the core of its processor -/

/-- A load of the crook leaves its core, whether RAM serves or refuses it or it holds issue (R123). -/
theorem Chip.crookLoad_core (lat a bytes : Nat) (dst : LoadDst) : (c.crookLoad lat a bytes dst).1.crook.core = c.crook.core := by
  obtain ⟨v, hheld⟩ := c.holdLoad_crook a bytes dst lat
  unfold Chip.crookLoad
  dsimp only
  split
  · have hram : (if (a % bytes == 0) = true then c.ramAccess lat else c.violation .crook a).crook.core = c.crook.core := by
      split <;> rfl
    cases dst <;> exact hram
  · exact (congrArg CrookSt.core hheld :)

/-- A store of the crook leaves its core (R123, R156). -/
theorem Chip.crookStore_core (a bytes v : Nat) : (c.crookStore a bytes v).1.crook.core = c.crook.core := by
  obtain ⟨b, hheld⟩ := c.holdStore_crook a bytes v
  unfold Chip.crookStore
  split
  · split <;> rfl
  · exact (congrArg CrookSt.core hheld :)

/-- A load leaves the core of its processor: the words it reads are under way to the registers. -/
theorem Chip.doLoad_core {x : Ctx} {o : MemOp} {zext : Bool} {d : Chip} {ws : List (Nat × Wr)}
    (h : c.doLoad x o zext = .ok (d, ws)) : d.core x.w = c.core x.w := by
  obtain ⟨w, k, px⟩ := x
  unfold Chip.doLoad at h
  cases w with
  | engine n =>
    dsimp only at h
    split at h
    · cases h
    next vs e hload =>
      cases h
      exact congrArg Eng.core (Chip.engine_congr (Chip.engLoad_eng _ hload) n.val)
  | crook =>
    cases h
    exact List.foldlRecOn (motive := fun st : Chip × List (Nat × Wr) => st.1.crook.core = c.crook.core) _ _ rfl
      fun st hst p _ => (st.1.crookLoad_core _ _ _ _).trans hst

/-- A store leaves of the core of its processor all but the dither generator. -/
theorem Chip.doStore_core {x : Ctx} {o : MemOp} {raw : Bool} {d : Chip} {ws : List (Nat × Wr)}
    (h : c.doStore x o raw = .ok (d, ws)) : ∃ g, d.core x.w = { c.core x.w with g := g } := by
  obtain ⟨w, k, px⟩ := x
  unfold Chip.doStore at h
  cases w with
  | engine n =>
    dsimp only at h
    split at h
    · cases h
    next e us hstore =>
      cases h
      exact Chip.engStore_core _ hstore
  | crook =>
    cases h
    exact ⟨c.crook.core.g, List.foldlRecOn (motive := fun st : Chip × List (Nat × Wr) => st.1.crook.core = c.crook.core) _ _ rfl
      fun st hst p _ => (st.1.crookStore_core _ _ _).trans hst⟩

end Sys2Proof.Machine

namespace Sys2Proof

open Sys2Proof.Machine

variable {s : State} {i : Instr} {m : ParMeaning}

/-! ## The table of parallel moves -/

theorem exec_of_parMeaning (h : parMeaning i = some m) :
    exec i s = s.act fun c => c.issue m.w m.px m.enc (opPar m.o m.f.toNat m.v24.toNat m.arith) := by
  unfold parMeaning at h
  split at h <;> cases h <;> rfl

/-- A parallel move whose operands protection allows is its arithmetic, its first access and its second (R151, R160, R161). -/
theorem opPar_eq {a b : MemOp} {c1 c2 : Chip} {w1 w2 : List (Nat × Wr)} (ha : m.operand s false = .ok a)
    (hb : m.operand s true = .ok b)
    (hp : (atIssue s.chip m.w).protect (seen s.chip m.w m.px) [(moveStores m.o, a), (false, b)] = .ok ())
    (h1 : m.first s a = .ok (c1, w1)) (h2 : c1.doLoad (seen s.chip m.w m.px) b false = .ok (c2, w2)) :
    opPar m.o m.f.toNat m.v24.toNat m.arith (atIssue s.chip m.w) (seen s.chip m.w m.px) =
      .ok (c2, m.arith (seen s.chip m.w m.px) ++ w1 ++ w2, .seq) := by
  unfold ParMeaning.operand at ha hb
  unfold ParMeaning.first at h1
  simp only [opPar, ha, hb, hp, h1, h2]

/-- The first access leaves of the core of its processor all but the dither generator. -/
theorem ParMeaning.first_core {a : MemOp} {d : Chip} {ws : List (Nat × Wr)} (h : m.first s a = .ok (d, ws)) :
    ∃ g, d.core m.w = { s.chip.core m.w with g := g } := by
  rw [← atIssue_core s.chip m.w]
  unfold ParMeaning.first at h
  split at h
  · exact Chip.doStore_core _ h
  · exact ⟨_, Chip.doLoad_core _ h⟩

/-- Settles O15: the body is its arithmetic and the two accesses, neither of which touches block repeats or slots. -/
theorem parallelInstructionsComplete : Obligations.ParallelInstructionsComplete := by
  intro i s m a b c1 c2 w1 w2 hm hp ha hb hprot h1 h2
  obtain ⟨g, hfirst⟩ := ParMeaning.first_core h1
  have hcore : c2.core m.w = { s.chip.core m.w with g := g } := (c1.doLoad_core h2).trans hfirst
  exact hp.exec_seq (exec_of_parMeaning hm) (opPar_eq ha hb hprot h1 h2) (by rw [hcore]) (by rw [hcore])

end Sys2Proof
end

section
/-! PROOFS. The crook's system instructions: `rti` goes on at EPC, the others change the crook alone, and `spill` and `fill` move the
window and hold issue (R170 to R172, R255, R262). -/

namespace Sys2Proof.Machine

variable (c : Chip)

/-! ## The interrupt enable (R255) -/

/-- `ei` and `di` set bit 1 of MODE and keep the others. -/
theorem mode_withIe (m : BitVec 3) (on : Bool) :
    ((m &&& 0b101) ||| (if on then 0b010 else 0)).getLsbD 1 = on ∧
    ((m &&& 0b101) ||| (if on then 0b010 else 0)).getLsbD 0 = m.getLsbD 0 ∧
    ((m &&& 0b101) ||| (if on then 0b010 else 0)).getLsbD 2 = m.getLsbD 2 := by
  revert m on
  decide

/-! ## Moving on behind `rti` and behind an instruction that holds issue (R172, R262) -/

/-- `rti` goes on at EPC, with the flags and the mode that ESTAT holds. -/
theorem Chip.advancePc_rti (len : Nat) : (c.advancePc .crook len .rti).crook.core.pc = c.crook.epc ∧
    (c.advancePc .crook len .rti).crook.core.fl = BitVec.ofNat 5 (c.crook.estat.toNat % 32) ∧
    (c.advancePc .crook len .rti).crook.mode = BitVec.ofNat 3 (c.crook.estat.toNat / 32) :=
  ⟨rfl, rfl, rfl⟩

theorem Core.stepSeq_hold {k : Core} (hl : k.lc = []) (hs : k.slot = .none) (next body extra : Nat) (f : Nat → Nat → Bool) :
    k.stepSeq next (.hold extra) body f = { k with pc := next } := by
  simp [Core.stepSeq, Core.loopCheck_nil k hl, hs]

/-- Outside slots and block repeats an instruction that holds issue goes on behind itself, so many cycles later. -/
theorem Chip.advancePc_hold {w : Proc} (len extra : Nat) (hl : (c.core w).lc = []) (hs : (c.core w).slot = .none) :
    c.advancePc w len (.hold extra) = c.setCore w { c.core w with
      pc := Sys2Proof.pcAfter w (c.core w) len, cyc := (c.core w).cyc + extra } := by
  unfold Chip.advancePc
  simp only [hs, Core.stepSeq_hold hl hs, Sys2Proof.pcAfter]

/-! ## The window shifts of `spill` and `fill` (R172) -/

@[simp] theorem Slot.shift_none (up : Bool) : Slot.none.shift up = .none := rfl

/-- The core after a window shift to depth `wd` with the stack pointer at `a15`, outside slots. -/
structure WindowMoved (wd : Nat) (a15 : QWord) (k k' : Core) : Prop where
  wd : k'.wd = wd
  a15 : KMap.get 0 15 k'.q = a15
  lc : k'.lc = k.lc
  slot : k'.slot = k.slot

theorem opSpill_outermost {x : Ctx} (h : x.k.wd = 0) : opSpill c x = .ok (c, [], .seq) := by
  simp [opSpill, h]

theorem opFill_deepest {x : Ctx} (h : 14 ≤ x.k.wd) : opFill c x = .ok (c, [], .seq) := by
  simp [opFill, h]

/-- Below the outermost window `spill` frees a frame of the stack and holds issue. -/
theorem opSpill_moves {x : Ctx} (hwd : x.k.wd ≠ 0) (hs : x.k.slot = .none) : ∃ d ws, opSpill c x = .ok (d, ws, .hold 35) ∧
    WindowMoved (x.k.wd - 1) (KMap.get 0 15 x.k.q - 132) x.k (d.core x.w) := by
  unfold opSpill
  rw [if_neg hwd]
  refine ⟨_, _, rfl, ?_⟩
  rw [Chip.core_setCore]
  exact ⟨rfl, KMap.get_set_self _ _ _ _, rfl, by simp [hs]⟩

theorem Chip.holdLoad_core (a bytes : Nat) (dst : LoadDst) (lat : Nat) :
    (c.holdLoad a bytes dst lat).core .crook = c.core .crook := by
  obtain ⟨v, hheld⟩ := c.holdLoad_crook a bytes dst lat
  exact (congrArg CrookSt.core hheld :)

/-- A read of the stack leaves the crook's core: it is served at once (`now`), misaligned or not (`bad`), or it holds issue. -/
theorem Chip.fillRead_core {now bad : Prop} [Decidable now] [Decidable bad] (a : Nat) (dst : LoadDst) :
    (if now then (if bad then c.violation .crook a else c) else c.holdLoad a 4 dst 1).core .crook = c.core .crook := by
  split
  · split
    · rfl
    · rfl
  · exact c.holdLoad_core a 4 dst 1

/-- Above the deepest window `fill` takes a frame off the stack and holds issue; what it reads leaves the window's depth and the stack
pointer. -/
theorem opFill_moves {x : Ctx} (hw : x.w = .crook) (hk : x.k = c.crook.core) (hp : x.k.pend = []) (hwd : x.k.wd < 14)
    (hs : x.k.slot = .none) : ∃ d, opFill c x = .ok (d, [], .hold 35) ∧
    WindowMoved (x.k.wd + 1) (KMap.get 0 15 x.k.q + 132) x.k (d.core .crook) := by
  obtain ⟨w, k, px⟩ := x
  subst hw hk
  unfold opFill
  rw [if_neg (Nat.not_le.mpr hwd)]
  dsimp only
  rw [Chip.landTo_nil c .crook _ hp]
  refine ⟨_, rfl, ?_⟩
  refine List.foldlRecOn (motive := fun d : Chip => WindowMoved (c.crook.core.wd + 1) (KMap.get 0 15 c.crook.core.q + 132)
    c.crook.core (d.core .crook)) _ _ ?_ fun d hd i _ => ?_
  · rw [Chip.core_setCore]
    have hslot : c.crook.core.slot = .none := hs
    exact ⟨rfl, KMap.get_set_self _ _ _ _, rfl, (congrArg (Slot.shift true) hslot).trans hslot.symm⟩
  · rw [d.fillRead_core]
    exact hd

end Sys2Proof.Machine

namespace Sys2Proof

open Sys2Proof.Machine

variable {s : State} {i : Instr} {px : Px} {e : Enc} {body : Body}

/-! ## Instructions that change the crook alone -/

/-- An instruction of the crook that goes on in program order and changes the crook alone, its core apart, completes with that change,
its writes under way: the end of the command changes nothing more. -/
theorem PlainAt.completes_crookOnly {k : CrookSt} {ws : List (Nat × Wr)} (h : PlainAt s .crook px e)
    (he : exec i s = s.act fun c => c.issue .crook px e body)
    (hb : body (atIssue s.chip .crook) (seen s.chip .crook px) = .ok ({ s.chip with crook := k }, ws, .seq))
    (hk : k.core = s.chip.crook.core) : Completes i s fun d =>
      d = moveOn { s.chip with crook := k } .crook s.chip.crook.core.cyc (instrLen px e) ws := by
  refine ⟨_, h.exec_seq he hb (congrArg Core.lc hk) (congrArg Core.slot hk), rfl, ?_⟩
  have hcrook : SamePermits s.chip { s.chip with crook := k } := ⟨fun _ _ => rfl, rfl, rfl, rfl⟩
  rw [issued_id s.chip { s.chip with crook := k } .crook (le_refl _)]
  exact (hcrook.moveOn s.chip .crook _ _ _).settle h.settled

/-- `rti` completes: the issue ends, and the program goes on where EPC and ESTAT say. -/
theorem PlainAt.rti_completes (h : PlainAt s .crook px ⟨0xD0, 0⟩) : Completes (.rti .crook px) s fun d =>
    d.crook.core.pc = s.chip.crook.epc ∧ d.crook.core.fl = BitVec.ofNat 5 (s.chip.crook.estat.toNat % 32) ∧
      d.crook.mode = BitVec.ofNat 3 (s.chip.crook.estat.toNat / 32) := by
  obtain ⟨-, hi, -, hn⟩ := h
  refine completes_act (f := fun c => c.issue .crook px ⟨0xD0, 0⟩ fun c _ => .ok (c, [], .rti)) rfl ?_
  rw [s.chip.issue_plain .crook px _ _ _ _ _ hi hn rfl, issued_id _ _ _ (by rw [atIssue_evt]), Chip.settle_crook]
  exact Chip.advancePc_rti _ _

/-- The crook after `ei` (`on`) or `di`. -/
theorem PlainAt.ie_completes {on : Bool} (h : PlainAt s .crook px e)
    (he : exec i s = s.act fun c => c.issue .crook px e (opIe on)) : Completes i s fun d =>
      d.crook.mode.getLsbD 1 = on ∧ d.crook.mode.getLsbD 0 = s.chip.crook.mode.getLsbD 0 ∧
      d.crook.mode.getLsbD 2 = s.chip.crook.mode.getLsbD 2 := by
  refine (h.completes_crookOnly he rfl rfl).imp ?_
  rintro d rfl
  exact mode_withIe s.chip.crook.mode on

/-- `mvsr` completes with the register under way; the snapshot that a read of CYC_LO takes is the crook's too (R270). -/
theorem PlainAt.mvsr_completes {f8 : Byte} {sr : Word16} (h : PlainAt s .crook px ⟨0xD1, f8.toNat + 256 * sr.toNat⟩) :
    Completes (.mvsr .crook px f8 sr) s fun d => d.crook.core.pend = [(s.chip.crook.core.cyc + 1,
      .p ((seen s.chip .crook px).preg (f8.toNat % 32)) (xres ((atIssue s.chip .crook).sysReg sr.toNat)))] := by
  obtain ⟨k, hbody, hk⟩ : ∃ k : CrookSt, opMvsr f8.toNat sr.toNat (atIssue s.chip .crook) (seen s.chip .crook px) =
      .ok ({ s.chip with crook := k }, [(seen s.chip .crook px).setD 1 (f8.toNat % 32)
        (xres ((atIssue s.chip .crook).sysReg sr.toNat))], .seq) ∧ k.core = s.chip.crook.core := by
    unfold opMvsr
    dsimp only
    split
    · exact ⟨_, rfl, rfl⟩
    · exact ⟨_, rfl, rfl⟩
  obtain ⟨hpend, -, -⟩ := plainIssue_parts h.issues
  refine (h.completes_crookOnly rfl hbody hk).imp ?_
  rintro d rfl
  have hnone : k.core.pend = [] := (congrArg Core.pend hk).trans hpend
  exact congrArg (· ++ _) hnone

/-- `wait` holds issue until a line is pending and unmasked; it changes no line. -/
theorem PlainAt.wait_completes (h : PlainAt s .crook px ⟨0xD3, 0⟩) : Completes (.wait .crook px) s fun d =>
    d.crook.waiting = true ∧ (s.chip.pendingLine = none → d.canIssue .crook = false) := by
  refine (h.completes_crookOnly (i := .wait .crook px) rfl rfl rfl).imp ?_
  rintro d rfl
  refine ⟨rfl, fun hline => ?_⟩
  generalize hd : moveOn _ _ _ _ _ = d
  have hw : d.crook.waiting = true := by rw [← hd]; rfl
  have hsame : d.pendingLine = s.chip.pendingLine := by rw [← hd]; rfl
  simp [Chip.canIssue, hw, hsame, hline]

/-- `sync` holds issue, whether or not an access is outstanding: CROOK_ACCESS_COMPLETE ends it (R170). -/
theorem PlainAt.sync_completes (h : PlainAt s .crook px ⟨0xD8, 0⟩) : Completes (.sync .crook px) s fun d =>
    d.crook.syncing = true ∧ d.canIssue .crook = false := by
  refine (h.completes_crookOnly (i := .sync .crook px) rfl rfl rfl).imp ?_
  rintro d rfl
  generalize hd : moveOn _ _ _ _ _ = d
  have hsync : d.crook.syncing = true := by rw [← hd]; rfl
  exact ⟨hsync, by simp [Chip.canIssue, hsync]⟩

/-- Settles O21: `rti` is its move to EPC, and each of the others is a change of the crook alone. -/
theorem crookSystemInstructionsComplete : Obligations.CrookSystemInstructionsComplete := by
  intro s px f8 sr c k
  exact ⟨fun h => h.rti_completes, fun h => h.mvsr_completes, fun h => h.ie_completes (on := true) rfl,
    fun h => h.ie_completes (on := false) rfl, fun h => h.wait_completes, fun h => h.sync_completes⟩

/-! ## `spill` and `fill` -/

/-- An instruction of the crook that moves the window and holds issue completes with the window moved. -/
theorem PlainAt.completes_windowMoved {d : Chip} {ws : List (Nat × Wr)} {extra wd : Nat} {a15 : QWord} (h : PlainAt s .crook px e)
    (he : exec i s = s.act fun c => c.issue .crook px e body)
    (hb : body (atIssue s.chip .crook) (seen s.chip .crook px) = .ok (d, ws, .hold extra))
    (hd : WindowMoved wd a15 s.chip.crook.core (d.core .crook)) :
    Completes i s fun t => t.crook.core.wd = wd ∧ KMap.get 0 15 t.crook.core.q = a15 := by
  obtain ⟨-, hi, -, hn⟩ := id h
  refine completes_act he ?_
  rw [s.chip.issue_plain .crook px e body d ws _ hi hn hb, Chip.advancePc_hold, Chip.settle_crook]
  · exact ⟨hd.wd, hd.a15⟩
  · rw [Chip.core_setCore]
    exact hd.lc.trans h.lc
  · rw [Chip.core_setCore]
    exact hd.slot.trans h.slot

/-- An instruction of the crook that does nothing leaves the window. -/
theorem PlainAt.completes_windowKept (h : PlainAt s .crook px e) (he : exec i s = s.act fun c => c.issue .crook px e body)
    (hb : body (atIssue s.chip .crook) (seen s.chip .crook px) = .ok (atIssue s.chip .crook, [], .seq)) :
    Completes i s fun t => t.crook.core.wd = s.chip.crook.core.wd ∧
      KMap.get 0 15 t.crook.core.q = KMap.get 0 15 s.chip.crook.core.q := by
  refine (h.completes_crookOnly he hb rfl).imp ?_
  rintro d rfl
  exact ⟨rfl, rfl⟩

/-- Settles O22: at the end of its range the instruction does nothing; elsewhere its body moves the window, and the accesses to the
stack leave where it stands. -/
theorem spillAndFillMoveTheWindow : Obligations.SpillAndFillMoveTheWindow := by
  intro s px k a15
  refine ⟨fun h => ?_, fun h hle => ?_⟩
  · by_cases hwd : k.wd = 0
    · have hkept := h.completes_windowKept (i := .spill .crook px) rfl (opSpill_outermost _ hwd)
      simp only [if_pos hwd]
      exact hkept.imp fun d hd => ⟨hd.1.trans hwd, hd.2⟩
    · obtain ⟨d, ws, hbody, hmoved⟩ := opSpill_moves (atIssue s.chip .crook) (x := seen s.chip .crook px) hwd h.slot
      simp only [if_neg hwd]
      exact h.completes_windowMoved rfl hbody hmoved
  · by_cases hwd : k.wd = 14
    · have hkept := h.completes_windowKept (i := .fill .crook px) rfl (opFill_deepest _ hwd.ge)
      simp only [if_pos hwd]
      exact hkept.imp fun d hd => ⟨hd.1.trans hwd, hd.2⟩
    · obtain ⟨hpend, -, -⟩ := plainIssue_parts h.issues
      obtain ⟨d, hbody, hmoved⟩ := opFill_moves (atIssue s.chip .crook) (x := seen s.chip .crook px) rfl rfl hpend
        (lt_of_le_of_ne hle hwd) h.slot
      simp only [if_neg hwd]
      exact h.completes_windowMoved rfl hbody hmoved

end Sys2Proof
end

section
/-! PROOFS. The sample pointers' step at a frame boundary (R188). -/

namespace Sys2Proof.Machine

variable (c : Chip)

/-! ## One pointer -/

/-- The sample pointer of paddock `i` moves on, where there is one. -/
def Chip.movePointer (c : Chip) (i : Nat) : Chip :=
  match c.pas.pads[i]? with
  | some p => c.put (F.PAS_SP_sp i) ((c.get (F.PAS_SP_sp i) + p.length - 1) % p.length)
  | none => c

theorem Chip.movePointers_eq : c.movePointers = (List.range c.pas.pads.length).foldl Chip.movePointer c := rfl

theorem Chip.movePointer_pas (i : Nat) : (c.movePointer i).pas = c.pas := by
  unfold Chip.movePointer
  split <;> rfl

theorem Chip.movePointer_self {i : Nat} {p : Pad} (h : c.pas.pads[i]? = some p) :
    (c.movePointer i).get (F.PAS_SP_sp i) = (c.get (F.PAS_SP_sp i) + p.length - 1) % p.length % 2 ^ (F.PAS_SP_sp i).width := by
  unfold Chip.movePointer
  rw [h]
  exact c.get_put_self (F.PAS_SP_sp i) (show 0 + 23 ≤ 32 by decide) _

/-- Each pointer has a register of its own. -/
theorem Chip.movePointer_ne {i j : Nat} (h : i ≠ j) : (c.movePointer j).get (F.PAS_SP_sp i) = c.get (F.PAS_SP_sp i) := by
  unfold Chip.movePointer
  split
  · exact c.get_put_ne (show R.PAS_SP i ≠ R.PAS_SP j by unfold R.PAS_SP; omega) _
  · rfl

/-! ## All of them -/

theorem Chip.movePointers_not_mem {i : Nat} (l : List Nat) : ∀ c : Chip, i ∉ l →
    (l.foldl Chip.movePointer c).get (F.PAS_SP_sp i) = c.get (F.PAS_SP_sp i) := by
  induction l with
  | nil => exact fun _ _ => rfl
  | cons j l ih =>
    intro c hi
    obtain ⟨hij, hil⟩ := not_or.mp (mt List.mem_cons.mpr hi)
    exact (ih _ hil).trans (c.movePointer_ne hij)

/-- A pointer that is named once moves as it would alone. -/
theorem Chip.movePointers_mem {i : Nat} {p : Pad} (l : List Nat) : ∀ c : Chip, l.Nodup → i ∈ l → c.pas.pads[i]? = some p →
    (l.foldl Chip.movePointer c).get (F.PAS_SP_sp i) = (c.movePointer i).get (F.PAS_SP_sp i) := by
  induction l with
  | nil => exact fun _ _ hi => absurd hi List.not_mem_nil
  | cons j l ih =>
    intro c hl hi hp
    obtain ⟨hj, hl⟩ := List.nodup_cons.mp hl
    by_cases hij : i = j
    · subst hij
      exact Chip.movePointers_not_mem l _ hj
    · have hil : i ∈ l := (List.mem_cons.mp hi).resolve_left hij
      have hpj : (c.movePointer j).pas.pads[i]? = some p := by rw [c.movePointer_pas, hp]
      rw [List.foldl_cons, ih _ hl hil hpj, Chip.movePointer_self _ hpj, c.movePointer_self hp, c.movePointer_ne hij]

theorem Chip.movePointers_get {i : Nat} {p : Pad} (h : c.pas.pads[i]? = some p) :
    c.movePointers.get (F.PAS_SP_sp i) = (c.get (F.PAS_SP_sp i) + p.length - 1) % p.length % 2 ^ (F.PAS_SP_sp i).width := by
  obtain ⟨hi, -⟩ := List.getElem?_eq_some_iff.mp h
  rw [c.movePointers_eq, Chip.movePointers_mem _ c List.nodup_range (List.mem_range.mpr hi) h, c.movePointer_self h]

/-- One word back in a paddock of `n` words, as a natural number and as an integer. -/
theorem wordBack_cast {n : Nat} (h : 0 < n) (g : Nat) : Int.ofNat ((g + n - 1) % n) = (Int.ofNat g - 1) % Int.ofNat n := by
  have hcast : ((g + n - 1 : Nat) : Int) = (g : Int) - 1 + n := by omega
  simp only [Int.ofNat_eq_natCast, Int.natCast_emod, hcast, Int.add_emod_right]

end Sys2Proof.Machine

namespace Sys2Proof

open Sys2Proof.Machine

/-- Settles O58: the registers of the pointers are distinct, so each of them moves as it would alone; from B up to and at R the step is
left out. -/
theorem samplePointersStepBackOneWord : Obligations.SamplePointersStepBackOneWord := by
  intro c i p hp hlen hfit _ frozen
  refine ⟨fun hmoves => ?_, fun hfrozen => ?_⟩
  · have hlt : (c.get (F.PAS_SP_sp i) + p.length - 1) % p.length < 2 ^ (F.PAS_SP_sp i).width :=
      (Nat.mod_lt _ hlen).trans_le hfit
    have hstep : c.stepPointers = c.movePointers := if_neg hmoves
    rw [hstep, c.movePointers_get hp, Nat.mod_eq_of_lt hlt, wordBack_cast hlen]
  · exact congrArg (fun d : Chip => d.get (F.PAS_SP_sp i)) (if_pos hfrozen)

end Sys2Proof
end

section
/-! PROOFS. The rows of the coefficient store complete with their effects (R198 to R206, R472). -/

namespace Sys2Proof.Machine

/-! ## A commit that lands (R202) -/

/-- After a copy of the words `ws` each of them reads as in `sh`, and every other word as before. -/
theorem KMap.get_copied (sh : KMap Word) (w : Nat) (ws : List Nat) : ∀ a : KMap Word,
    KMap.get 0 w (ws.foldl (fun a x => KMap.set 0 x (KMap.get 0 x sh) a) a) = if w ∈ ws then KMap.get 0 w sh else KMap.get 0 w a := by
  induction ws with
  | nil => exact fun _ => rfl
  | cons x ws ih =>
    intro a
    rw [List.foldl_cons, ih]
    by_cases hx : w = x
    · subst hx
      simp
    · rw [KMap.get_set_ne _ _ hx]
      simp [hx]

theorem KMap.get_of_key_not_mem {α : Type} (d : α) {w : Nat} {m : KMap α} (h : w ∉ m.map (·.1)) : KMap.get d w m = d :=
  KMap.get_of_not_mem d fun _ he hw => h (hw ▸ List.mem_map_of_mem he)

theorem CoSt.governs_congr {s t : CoSt} (h : t.slots = s.slots) (w : Nat) : t.governs w = s.governs w := by
  simp only [CoSt.governs, h]

/-- From `s` to `t` the shadow and the glide table stand, and an active word `w` that shows its shadow value still does. -/
structure CoSt.KeepsWord (w : Nat) (s t : CoSt) : Prop where
  shadow : t.shadow = s.shadow
  slots : t.slots = s.slots
  word : KMap.get 0 w s.active = KMap.get 0 w s.shadow → KMap.get 0 w t.active = KMap.get 0 w s.shadow

namespace CoSt.KeepsWord

variable {w : Nat} {s t u : CoSt}

theorem refl (w : Nat) (s : CoSt) : CoSt.KeepsWord w s s := ⟨rfl, rfl, id⟩

theorem trans (h : CoSt.KeepsWord w s t) (k : CoSt.KeepsWord w t u) : CoSt.KeepsWord w s u :=
  ⟨k.shadow.trans h.shadow, k.slots.trans h.slots, fun hs => h.shadow ▸ k.word (h.shadow ▸ h.word hs)⟩

theorem governs (h : CoSt.KeepsWord w s t) (x : Nat) : t.governs x = s.governs x := CoSt.governs_congr h.slots x

end CoSt.KeepsWord

variable (s : CoSt)

/-- A plain word of the range takes its shadow value; one that neither copy lists is zero in both. -/
theorem CoSt.landPlain_covered {m : Commit} {w : Nat} (hm : m.covers w = true) (hg : s.governs w = none) :
    KMap.get 0 w (s.landPlain m).active = KMap.get 0 w s.shadow := by
  refine (KMap.get_copied s.shadow w _ s.active).trans ?_
  split
  · rfl
  next hw =>
    simp only [List.mem_filter, List.mem_append, hm, hg, Option.isNone_none, Bool.and_self, and_true, not_or] at hw
    rw [KMap.get_of_key_not_mem _ hw.1, KMap.get_of_key_not_mem _ hw.2]

theorem CoSt.landPlain_keeps (m : Commit) (w : Nat) : CoSt.KeepsWord w s (s.landPlain m) := by
  refine ⟨rfl, rfl, fun h => (KMap.get_copied s.shadow w _ s.active).trans ?_⟩
  split
  · rfl
  · exact h

theorem CoSt.landGlide_keeps (slot : Nat) {v : Word} {w : Nat} (h : w ≠ field v.toNat 0 17) :
    CoSt.KeepsWord w s (s.landGlide slot v) :=
  ⟨rfl, rfl, fun hs => (KMap.get_set_ne 0 0 h _ _).trans hs⟩

/-- The glides that a commit starts leave a word that no slot governs. -/
theorem CoSt.land_afterPlain (m : Commit) {w : Nat} (hg : s.governs w = none) : CoSt.KeepsWord w (s.landPlain m) (s.land m) := by
  refine List.foldlRecOn (motive := fun t => CoSt.KeepsWord w (s.landPlain m) t) _ _ (.refl w _) fun t ht e he => ht.trans ?_
  have hgov : ((s.landPlain m).governs (field e.2.toNat 0 17)).map (·.1) = some e.1 := by
    simpa using (Bool.and_eq_true_iff.mp (List.mem_filter.mp he).2).2
  have hne : w ≠ field e.2.toNat 0 17 := by
    rintro rfl
    rw [(s.landPlain_keeps m 0).governs, hg] at hgov
    exact absurd hgov (by simp)
  exact t.landGlide_keeps e.1 hne

theorem CoSt.land_keeps (m : Commit) {w : Nat} (hg : s.governs w = none) : CoSt.KeepsWord w s (s.land m) :=
  (s.landPlain_keeps m w).trans (s.land_afterPlain m hg)

theorem CoSt.land_covered {m : Commit} {w : Nat} (hm : m.covers w = true) (hg : s.governs w = none) :
    KMap.get 0 w (s.land m).active = KMap.get 0 w s.shadow :=
  (s.land_afterPlain m hg).word (s.landPlain_covered hm hg)

theorem CoSt.lands_keep {w : Nat} (l : List Commit) (hg : s.governs w = none) : CoSt.KeepsWord w s (l.foldl CoSt.land s) :=
  List.foldlRecOn (motive := fun t => CoSt.KeepsWord w s t) l CoSt.land (.refl w s) fun t ht m _ =>
    ht.trans (t.land_keeps m ((ht.governs w).trans hg))

/-- Of several commits the one that covers a plain word gives it the shadow value, and the later ones leave it there. -/
theorem CoSt.lands_covered {m : Commit} {w : Nat} (hm : m.covers w = true) (l : List Commit) :
    ∀ s : CoSt, s.governs w = none → m ∈ l → KMap.get 0 w (l.foldl CoSt.land s).active = KMap.get 0 w s.shadow := by
  induction l with
  | nil => exact fun _ _ h => absurd h List.not_mem_nil
  | cons x l ih =>
    intro s hg hl
    have hx := s.land_keeps x hg
    have hgx : (s.land x).governs w = none := (hx.governs w).trans hg
    rw [List.foldl_cons, ← hx.shadow]
    rcases List.mem_cons.mp hl with rfl | hin
    · refine ((s.land m).lands_keep l hgx).word ?_
      rw [s.land_covered hm hg, hx.shadow]
    · exact ih _ hgx hin

/-- A landing changes the shadow of no word. -/
theorem CoSt.lands_shadow (l : List Commit) : (l.foldl CoSt.land s).shadow = s.shadow := by
  refine List.foldlRecOn (motive := fun t => t.shadow = s.shadow) l CoSt.land rfl fun t ht m _ => ?_
  rw [← ht]
  exact List.foldlRecOn (motive := fun (u : CoSt) => u.shadow = t.shadow) _ _ rfl fun u hu e _ => hu

/-! ## The device behind each row -/

variable (c : Chip)

/-- The commits `due` have landed. -/
def Chip.commitsLanded (due : List Commit) : Chip :=
  let c1 := c.setCo fun s => { (due.foldl CoSt.land s) with commits := s.commits.filter fun m => !c.commitDue m }
  (c1.wr R.CO_LAND_CNT (c1.rd R.CO_LAND_CNT + BitVec.ofNat 32 due.length)).raise Ev.CO_COMMIT_DONE locNone 0

theorem Chip.commitLand_due (hb : c.onBoundary = true) (hd : c.co.commits.any c.commitDue = true) :
    c.commitLand = c.commitsLanded (c.co.commits.filter c.commitDue) := by
  have hne : c.co.commits.filter c.commitDue ≠ [] := by simpa using hd
  unfold Chip.commitLand
  rw [if_neg (by simp [hb])]
  split
  next h => exact absurd h hne
  next => rfl

theorem Chip.glideEnd_due {slot : Nat} (h : ((c.co.running slot).any fun g => decide (2 ^ g.k ≤ g.j)) = true) :
    c.glideEnd slot = c.setCo fun s => { s with glides := s.glides.filter fun x => !decide (x.slot = slot) } := by
  obtain ⟨g, hg, hj⟩ := (Option.any_eq_true _ _).mp h
  unfold Chip.glideEnd
  rw [hg]
  exact if_neg (Nat.not_lt.mpr (of_decide_eq_true hj))

theorem CoSt.running_dropped (slot : Nat) :
    ({ s with glides := s.glides.filter fun x => !decide (x.slot = slot) } : CoSt).running slot = none := by
  simp [CoSt.running]

/-- `ainc` moves the selected slot on, wrapping behind the last one (R206). -/
theorem Chip.glideAinc_sel : c.glideAinc.glideSel = Sys2Proof.nextSlot c := by
  unfold Chip.glideAinc Sys2Proof.nextSlot
  split
  · exact c.get_put_self F.CO_GLIDE_SEL_slot (by decide) _
  · rfl

theorem Chip.glideAinc_co : c.glideAinc.co = c.co := by
  unfold Chip.glideAinc
  split <;> rfl

theorem Chip.readReg_glideData (r : Req) : c.readReg r R.CO_GLIDE_DATA = c.readGlideData := rfl

theorem Chip.settle_glideSel : c.settle.glideSel = c.glideSel := c.settle_get (by decide) (by decide)

/-- The registers of the group descriptors are none that the end of a command writes. -/
theorem group_kept : ∀ (g : BitVec 8) (len : Bool),
    flushReg (if len then R.CO_GRP_LEN g.toNat else R.CO_GRP_BASE g.toNat) = false ∧
      holdReg (if len then R.CO_GRP_LEN g.toNat else R.CO_GRP_BASE g.toNat) = false := by
  decide +kernel

end Sys2Proof.Machine

namespace Sys2Proof

open Sys2Proof.Machine

/-! ## The rows -/

section

variable (s : State)

theorem exec_commit (r : Req) (v : Word) : exec (.commit r v) s = s.act fun c => c.guarded r R.CO_COMMIT fun c => c.writeCommit v := rfl
theorem exec_timedCommit (r : Req) (v : Word) : exec (.timedCommit r v) s =
    s.act fun c => c.guarded r R.CO_COMMIT fun c => c.writeCommit v := rfl
theorem exec_commitLand : exec .commitLand s = s.act fun c => c.commitLand := rfl
theorem exec_glideEnd (slot : BitVec 12) : exec (.glideEnd slot) s = s.act fun c => c.glideEnd slot.toNat := rfl
theorem exec_groupDescriptorWrite (r : Req) (g : BitVec 8) (len : Bool) (v : Word) :
    exec (.groupDescriptorWrite r g len v) s = s.act (groupWrite r g len v) := rfl
theorem exec_glideDataWrite (r : Req) (v : Word) : exec (.glideDataWrite r v) s =
    s.act fun c => c.guarded r R.CO_GLIDE_DATA fun c => c.writeGlideData v := rfl
theorem exec_glideDataRead (r : Req) : exec (.glideDataRead r) s = s.act fun c => c.readTo r R.CO_GLIDE_DATA := rfl

end

/-- A row of the coefficient store that is ready completes with its effect. -/
def CoeffRowCompletes (i : Instr) (s : State) : Prop :=
  coeffReady s.chip i = true → Completes i s fun d => coeffEffect s.chip d i

/-- A request that is taken waits with the range of now. -/
theorem writeCommit_taken {c : Chip} {r : Req} {v : Word} {timed : Bool} (h : commitReady c r v timed = true) :
    accepts c r R.CO_COMMIT = true ∧ c.writeCommit v = c.setCo fun s => { s with commits := s.commits ++ [commitOf c v timed] } := by
  simp only [commitReady, Bool.and_eq_true, Bool.or_eq_true, Bool.not_eq_true', decide_eq_true_eq] at h
  obtain ⟨⟨⟨⟨hacc, hgo⟩, hfree⟩, rfl⟩, hat⟩ := h
  have hok : (F.CO_COMMIT_at_time.ofB v && c.bit F.FOLD_STAT_loaded &&
      (decide (c.rd64 R.CO_AT_LO R.CO_AT_HI % c.frameTicks ≠ 0) ||
        decide (c.rd64 R.CO_AT_LO R.CO_AT_HI * rootPerTick < c.now + 2 * c.framePeriod))) = false := by
    rcases hat with (hplain | hunloaded) | ⟨hframe, hearly⟩
    · rw [hplain, Bool.false_and, Bool.false_and]
    · rw [hunloaded, Bool.and_false, Bool.false_and]
    · simp [hframe, Nat.not_lt.mpr hearly]
  refine ⟨hacc, ?_⟩
  unfold Chip.writeCommit
  dsimp only
  rw [if_neg (by simp [hgo]), if_neg (by simp [hfree]), if_neg (Bool.eq_false_iff.mp hok)]
  rfl

section

variable {s : State}

/-- A row that writes CO_COMMIT with a request that is taken leaves it waiting. -/
theorem takenCommit_completes {i : Instr} {r : Req} {v : Word} {timed : Bool} (h : commitReady s.chip r v timed = true)
    (he : exec i s = s.act fun c => c.guarded r R.CO_COMMIT fun c => c.writeCommit v) :
    Completes i s fun d => d.co.commits = s.chip.co.commits ++ [commitOf s.chip v timed] ∧ d.co.active = s.chip.co.active := by
  obtain ⟨hacc, htaken⟩ := writeCommit_taken h
  refine completes_act he ?_
  rw [s.chip.guarded_accepted hacc, htaken, Chip.settle_co]
  exact ⟨rfl, rfl⟩

theorem commit_completes {r : Req} {v : Word} : CoeffRowCompletes (.commit r v) s := fun h => takenCommit_completes h (exec_commit s r v)

theorem timedCommit_completes {r : Req} {v : Word} : CoeffRowCompletes (.timedCommit r v) s := fun h =>
  takenCommit_completes h (exec_timedCommit s r v)

theorem commitLand_completes : CoeffRowCompletes .commitLand s := by
  intro h
  obtain ⟨hb, hdue⟩ := Bool.and_eq_true_iff.mp h
  refine completes_act (exec_commitLand s) ?_
  simp only [coeffEffect]
  rw [s.chip.commitLand_due hb hdue, Chip.settle_co, Chip.settle_rd _ (by decide) (by decide)]
  refine ⟨rfl, Chip.rd_wr_self _ R.CO_LAND_CNT _, CoSt.lands_shadow _ _, fun m hm hmd w hw hg => ?_⟩
  exact CoSt.lands_covered hw _ _ hg (List.mem_filter.mpr ⟨hm, hmd⟩)

theorem glideEnd_completes {slot : BitVec 12} : CoeffRowCompletes (.glideEnd slot) s := by
  intro h
  refine completes_act (exec_glideEnd s slot) ?_
  simp only [coeffEffect]
  rw [s.chip.glideEnd_due h, Chip.settle_co]
  exact ⟨CoSt.running_dropped _ _, rfl⟩

theorem groupDescriptorWrite_completes {r : Req} {g : BitVec 8} {len : Bool} {v : Word} :
    CoeffRowCompletes (.groupDescriptorWrite r g len v) s := by
  intro h
  simp only [coeffReady, Bool.and_eq_true, Bool.not_eq_true'] at h
  obtain ⟨hacc, hfree⟩ := h
  obtain ⟨hflush, hhold⟩ := group_kept g len
  refine completes_act (exec_groupDescriptorWrite s r g len v) ?_
  simp only [coeffEffect]
  rw [Chip.settle_rd _ hflush hhold, groupWrite, s.chip.guarded_accepted hacc, Chip.writeGroup, if_neg (by simp [hfree])]

theorem glideDataWrite_completes {r : Req} {v : Word} : CoeffRowCompletes (.glideDataWrite r v) s := by
  intro h
  obtain ⟨hacc, hidle⟩ := Bool.and_eq_true_iff.mp h
  have hnone : ¬ (s.chip.co.running s.chip.glideSel).isSome = true := by simpa using hidle
  refine completes_act (exec_glideDataWrite s r v) ?_
  simp only [coeffEffect]
  rw [s.chip.guarded_accepted hacc, Chip.writeGlideData, if_neg hnone, Chip.settle_co, Chip.settle_glideSel, Chip.glideAinc_co,
    Chip.glideAinc_sel]
  exact ⟨KMap.get_set_self _ _ _ _, rfl⟩

theorem glideDataRead_completes {r : Req} : CoeffRowCompletes (.glideDataRead r) s := by
  intro hacc
  refine completes_act (exec_glideDataRead s r) ?_
  simp only [coeffEffect]
  rw [s.chip.readTo_accepted hacc (by decide), Chip.readReg_glideData, returned_settle, returned_keepRead, Chip.settle_glideSel,
    Chip.settle_co]
  exact ⟨rfl, s.chip.glideAinc_sel, s.chip.glideAinc_co⟩

end

/-- Settles O34: each row that is ready completes with its effect. -/
theorem coefficientRowsComplete : Obligations.CoefficientRowsComplete := by
  intro i s hs hready
  have h := hready
  unfold coeffReady at h
  split at h
  next => exact commit_completes hready
  next => exact timedCommit_completes hready
  next => exact commitLand_completes hready
  next => exact glideEnd_completes hready
  next => exact groupDescriptorWrite_completes hready
  next => exact glideDataWrite_completes hready
  next => exact glideDataRead_completes hready
  next => exact absurd h (by decide)

end Sys2Proof
end

section
/-! PROOFS. The rows of scrubbing and of bank rotation complete with their effects (R182, R191, R192). -/

namespace Sys2Proof.Machine

variable (c : Chip)

/-! ## SCRUB_REQUEST (R182) -/

/-- The bank map depends on the registers of the banks alone. -/
theorem Chip.physOf_congr {c d : Chip} (h : ∀ b < 49, d.rd (R.FOLD_BANK b) = c.rd (R.FOLD_BANK b)) (lb : Nat) :
    d.physOf lb = c.physOf lb := by
  refine List.find?_congr fun b hb => ?_
  have hget {f : Fld} (hf : f.addr = R.FOLD_BANK b) : d.get f = c.get f := by
    simp only [Chip.get, hf, h b (List.mem_range.mp hb)]
  rw [hget (f := F.FOLD_BANK_status b) rfl, hget (f := F.FOLD_BANK_logical b) rfl]

theorem Chip.advanceTo_touches (n : Nat) : Touches [.time] (onPages []) c (c.advanceTo n) := (Touches.refl _ _ c).advanceTo

theorem Chip.advanceTo_mappedBanks (n : Nat) : (c.advanceTo n).mappedBanks = c.mappedBanks := by
  have hphys := Chip.physOf_congr (c := c) (d := c.advanceTo n) fun b hb =>
    (c.advanceTo_touches n).rd _ rfl (by simp only [R.FOLD_BANK, R.PWR_TMR]; omega)
  simp only [Chip.mappedBanks, hphys]

theorem Chip.advanceTo_scrubStep (n : Nat) : (c.advanceTo n).scrubStep = c.scrubStep := by
  simp only [Chip.scrubStep, (c.advanceTo_touches n).get (f := F.PAS_SCRUB_per) rfl]

/-- A row read falls due in the banks `banks`, and the next request at `next`. -/
def PasSt.scrubDue (p : PasSt) (banks : List Nat) (next : Nat) : PasSt :=
  { p with scrubAt := some next, scrubReq := p.scrubReq ++ banks.filter fun lb => !p.scrubReq.contains lb }

theorem PasSt.mem_scrubDue (p : PasSt) {banks : List Nat} (next : Nat) {lb : Nat} (h : lb ∈ banks) :
    lb ∈ (p.scrubDue banks next).scrubReq := by
  by_cases hreq : lb ∈ p.scrubReq
  · exact List.mem_append_left _ hreq
  · exact List.mem_append_right _ (List.mem_filter.mpr ⟨h, by simpa using hreq⟩)

theorem Chip.scrubRequest_due {t : Nat} (ha : c.pas.scrubAt = some t) (he : c.bit F.PAS_SCRUB_en = true) (hz : c.fold.zeroing = false)
    (hb : t ≤ c.boundaryRoot) :
    c.scrubRequest = (c.advanceTo t).setPas fun p => p.scrubDue c.mappedBanks (t + c.scrubStep) := by
  rw [← c.advanceTo_mappedBanks t, ← c.advanceTo_scrubStep t]
  unfold Chip.scrubRequest
  rw [ha]
  exact if_neg (by simp [he, hz, hb])

/-! ## MIRROR_START (R191, R192) -/

/-- A mirror of logical bank `lb` from `p` to `s` begins. -/
def Chip.mirrorBegun (lb p : Nat) (s : Fin 49) : Chip :=
  ((((c.setPas fun x => { x with mirror := some ⟨lb, Fin.ofNat 49 p, s, 0, 0⟩, lastLb := some lb }).put F.PAS_ROT_STAT_phase 1).put
    F.PAS_ROT_STAT_from p).put F.PAS_ROT_STAT_logical lb).put F.PAS_ROT_PROG_rows 0

theorem Chip.mirrorBegun_phase (lb p : Nat) (s : Fin 49) : (c.mirrorBegun lb p s).get F.PAS_ROT_STAT_phase = 1 :=
  ((KeepsFlds.refl (Chip.put _ F.PAS_ROT_STAT_phase 1)).put.put.put _ (by decide)).trans (Chip.get_put_self _ _ (by decide) 1)

theorem Chip.mirrorStart_due {p : Nat} {s : Fin 49} (hr : Sys2Proof.pastureReady c .mirrorStart = true)
    (hp : c.physOf c.nextLogical = some p) (hs : c.spareBank = some s) : c.mirrorStart = c.mirrorBegun c.nextLogical p s := by
  simp only [Sys2Proof.pastureReady, Bool.and_eq_true, Bool.not_eq_true', decide_eq_true_eq, Option.isNone_iff_eq_none] at hr
  obtain ⟨⟨⟨⟨⟨⟨⟨⟨⟨⟨hsf, hload⟩, hen⟩, hstop⟩, hst⟩, hnone⟩, hphase⟩, hper⟩, hshut⟩, -⟩, -⟩ := hr
  unfold Chip.mirrorStart
  dsimp only
  rw [if_neg (by simp [hsf, hload, hen, hstop, hst, hnone, hphase, Nat.not_lt.mpr hper, hshut]), hp, hs]
  rfl

/-! ## BANK_SWAP (R192, R418) -/

/-- The record of uncorrectable words forgets logical bank `lb`. -/
def Chip.uncForgotten (lb : Nat) : Chip :=
  if lb < 32 then c.wr R.PAS_UNC_LB_LO (c.rd R.PAS_UNC_LB_LO &&& ~~~BitVec.ofNat 32 (2 ^ lb))
  else c.wr R.PAS_UNC_LB_HI (c.rd R.PAS_UNC_LB_HI &&& ~~~BitVec.ofNat 32 (2 ^ (lb - 32)))

/-- The fields of the record of uncorrectable words. -/
def uncFlds : List Fld := [Fld.whole R.PAS_UNC_LB_LO, Fld.whole R.PAS_UNC_LB_HI]

theorem Chip.uncForgotten_keeps (lb : Nat) : KeepsFlds uncFlds c (c.uncForgotten lb) := by
  unfold Chip.uncForgotten
  split
  · exact fun g hg => (KeepsFlds.refl c).wr g (Fld.freeOf_mono (by simp [uncFlds]) hg)
  · exact fun g hg => (KeepsFlds.refl c).wr g (Fld.freeOf_mono (by simp [uncFlds]) hg)

theorem Chip.uncForgotten_pas (lb : Nat) : (c.uncForgotten lb).pas = c.pas := by
  unfold Chip.uncForgotten
  split <;> rfl

/-- Bank `s` holds logical bank `lb` (R67). -/
def Chip.bankMapped (s : Fin 49) (lb : Nat) : Chip := (c.put (F.FOLD_BANK_status s) 1).put (F.FOLD_BANK_logical s) lb

/-- The rotation shows a bank under test, and no spare. -/
def Chip.swapShown (lb : Nat) : Chip :=
  (((c.incr F.PAS_ROT_COUNT_count).put F.PAS_ROT_STAT_phase 3).put F.PAS_ROT_STAT_spare 0x3F).uncForgotten lb

/-- The banks of the mirror `m` have been exchanged. -/
def Chip.banksSwapped (m : Mirror) : Chip :=
  ((((c.setPas fun p => { p with mirror := none, lastH := c.time.stc }).wr (R.FOLD_BANK m.p) 0).bankMapped m.s m.lb).swapShown m.lb).setBst
    fun b => { b with reqBank := if c.bst.reqBank = some m.p then none else b.reqBank }

theorem Chip.bankSwap_due {m : Mirror} (hm : c.pas.mirror = some m) (hb : c.onBoundary = true) (hrow : 65536 ≤ m.row) (hw : m.wait = 0) :
    c.bankSwap = (c.banksSwapped m).startTest (.bank m.p) (if c.bst.reqBank = some m.p then 3 else 1) := by
  unfold Chip.bankSwap
  rw [hm]
  dsimp only
  rw [if_neg (by simp [hb, hw, Nat.not_lt.mpr hrow])]
  simp only [decide_eq_true_eq]
  rfl

/-- What the fields of a bank, and of the rotation's state, share no bit with. -/
theorem bank_free : ∀ s : Fin 49, (F.FOLD_BANK_status s).freeOf [F.FOLD_BANK_logical s] = true ∧
    ∀ f ∈ [F.FOLD_BANK_status s, F.FOLD_BANK_logical s],
      f.freeOf (uncFlds ++ [F.PAS_ROT_STAT_spare, F.PAS_ROT_STAT_phase, F.PAS_ROT_COUNT_count]) = true := by
  decide +kernel

theorem Chip.swapShown_keeps (lb : Nat) :
    KeepsFlds (uncFlds ++ [F.PAS_ROT_STAT_spare, F.PAS_ROT_STAT_phase, F.PAS_ROT_COUNT_count]) c (c.swapShown lb) :=
  (KeepsFlds.refl c).put.put.put.append (Chip.uncForgotten_keeps _ lb)

theorem Chip.swapShown_phase (lb : Nat) : (c.swapShown lb).get F.PAS_ROT_STAT_phase = 3 :=
  (((KeepsFlds.refl (Chip.put _ F.PAS_ROT_STAT_phase 3)).put.append (Chip.uncForgotten_keeps _ lb)) _ (by decide)).trans
    (Chip.get_put_self _ _ (by decide) 3)

theorem Chip.bankMapped_status (s : Fin 49) (lb : Nat) : (c.bankMapped s lb).get (F.FOLD_BANK_status s) = 1 :=
  ((KeepsFlds.refl (c.put (F.FOLD_BANK_status s) 1)).put _ (bank_free s).1).trans (Chip.get_put_self _ _ (by simp [F.FOLD_BANK_status]) 1)

theorem Chip.bankMapped_logical (s : Fin 49) {lb : Nat} (h : lb < 64) : (c.bankMapped s lb).get (F.FOLD_BANK_logical s) = lb :=
  (Chip.get_put_self _ _ (by simp [F.FOLD_BANK_logical]) lb).trans (Nat.mod_eq_of_lt h)

/-- What the exchange of the banks of `m` shows: L stands on S, and the rotation waits for the test of P. -/
structure SwapShown (m : Mirror) (d : Chip) : Prop where
  mirror : d.pas.mirror = none
  status : d.get (F.FOLD_BANK_status m.s.val) = 1
  logical : d.get (F.FOLD_BANK_logical m.s.val) = m.lb
  phase : d.get F.PAS_ROT_STAT_phase = 3

theorem Chip.banksSwapped_shows {m : Mirror} (h : m.lb < 64) : SwapShown m (c.banksSwapped m) where
  mirror := congrArg PasSt.mirror (Chip.uncForgotten_pas _ m.lb)
  status := (Chip.swapShown_keeps _ m.lb _ ((bank_free m.s).2 _ (by simp))).trans (Chip.bankMapped_status _ m.s m.lb)
  logical := (Chip.swapShown_keeps _ m.lb _ ((bank_free m.s).2 _ (by simp))).trans (Chip.bankMapped_logical _ m.s h)
  phase := Chip.swapShown_phase _ m.lb

theorem Chip.testBank_mirror (b : Fin 49) (src : Nat) : (c.startTest (.bank b) src).pas.mirror = c.pas.mirror := by
  unfold Chip.startTest
  split <;> rfl

theorem foldBank_kept (s : Fin 49) :
    flushReg (R.FOLD_BANK s) = false ∧ holdReg (R.FOLD_BANK s) = false ∧ R.FOLD_BANK s ≠ R.PWR_TMR := by
  revert s
  decide +kernel

/-- The test of P leaves what the exchange shows. -/
theorem SwapShown.startTest {m : Mirror} {d : Chip} (h : SwapShown m d) (b : Fin 49) (src : Nat) :
    SwapShown m (d.startTest (.bank b) src) := by
  have ht := d.testBank_touches b src
  obtain ⟨-, -, htmr⟩ := foldBank_kept m.s
  exact ⟨(d.testBank_mirror b src).trans h.mirror, (ht.get rfl htmr).trans h.status, (ht.get rfl htmr).trans h.logical,
    (ht.get rfl).trans h.phase⟩

/-- So does the end of the command. -/
theorem SwapShown.settle {m : Mirror} {d : Chip} (h : SwapShown m d) : SwapShown m d.settle := by
  obtain ⟨hflush, hhold, -⟩ := foldBank_kept m.s
  exact ⟨(congrArg PasSt.mirror d.settle_pas).trans h.mirror, (d.settle_get hflush hhold).trans h.status,
    (d.settle_get hflush hhold).trans h.logical, (d.settle_get (by decide) (by decide)).trans h.phase⟩

end Sys2Proof.Machine

namespace Sys2Proof

open Sys2Proof.Machine

/-! ## The rows -/

section

variable (s : State)

theorem exec_scrubRequest : exec .scrubRequest s = s.act fun c => c.scrubRequest := rfl
theorem exec_mirrorStart : exec .mirrorStart s = s.act fun c => c.mirrorStart := rfl
theorem exec_bankSwap : exec .bankSwap s = s.act fun c => c.bankSwap := rfl

end

/-- A row of the pasture that is ready completes with its effect. -/
def PastureRowCompletes (i : Instr) (s : State) : Prop :=
  pastureReady s.chip i = true → Completes i s fun d => pastureEffect s.chip d i

section

variable {s : State}

theorem scrubRequest_completes : PastureRowCompletes .scrubRequest s := by
  intro h
  simp only [pastureReady, Bool.and_eq_true, Bool.not_eq_true'] at h
  obtain ⟨⟨hen, hz⟩, hany⟩ := h
  obtain ⟨t, ht, hb⟩ := (Option.any_eq_true _ _).mp hany
  refine completes_act (exec_scrubRequest s) ?_
  simp only [pastureEffect]
  rw [s.chip.scrubRequest_due ht hen hz (of_decide_eq_true hb), Chip.settle_pas, Chip.settle_now, Chip.setPas_pas, Chip.advanceTo_pas, ht]
  refine ⟨fun lb hlb => PasSt.mem_scrubDue _ _ hlb, rfl, fun u hu => ?_⟩
  cases hu
  rfl

theorem mirrorStart_completes : PastureRowCompletes .mirrorStart s := by
  intro h
  refine completes_act (exec_mirrorStart s) ?_
  simp only [pastureEffect]
  intro p sp hp hs
  rw [s.chip.mirrorStart_due h hp hs, Chip.settle_pas, Chip.settle_get _ (by decide) (by decide)]
  exact ⟨rfl, s.chip.mirrorBegun_phase _ p sp⟩

theorem bankSwap_completes : PastureRowCompletes .bankSwap s := by
  intro h
  simp only [pastureReady, Bool.and_eq_true] at h
  obtain ⟨hb, hany⟩ := h
  refine completes_act (exec_bankSwap s) ?_
  simp only [pastureEffect]
  intro m hm
  rw [hm] at hany
  simp only [Option.any_some, Bool.and_eq_true, decide_eq_true_eq] at hany
  obtain ⟨⟨hrow, hwait⟩, hlb⟩ := hany
  rw [s.chip.bankSwap_due hm hb hrow hwait]
  have hswap := ((s.chip.banksSwapped_shows (m := m) (by omega)).startTest m.p (if s.chip.bst.reqBank = some m.p then 3 else 1)).settle
  refine ⟨hswap.mirror, hswap.status, hswap.logical, hswap.phase, ?_⟩
  rw [Chip.testing, Chip.settle_bst]
  exact Chip.startTest_testing _ _ _

end

end Sys2Proof
end

section
/-! PROOFS. A gap slot's grant completes with its effect (R182, R186, R187, R192), and with it the rows of the pasture. -/

namespace Sys2Proof.Machine

variable (c : Chip)

/-! ## A word that is written in a bank cycle is read two cycles later (R179) -/

/-- A write of cycle `k` that stands behind those of cycle `k` and earlier is the last one. -/
theorem PasWr.later_of_le {b : Option PasWr} {e : PasWr} (h : ∀ x ∈ b, x.cyc ≤ e.cyc) : PasWr.later b e = some e := by
  cases b with
  | none => rfl
  | some x => exact if_pos (h x rfl)

/-- The last of some writes is one of them. -/
theorem PasWr.last_mem (l : List PasWr) : ∀ x ∈ l.foldl PasWr.later none, x ∈ l := by
  refine List.foldlRecOn (motive := fun b => ∀ x ∈ b, x ∈ l) l PasWr.later (by simp) fun b hb e he x hx => ?_
  cases b with
  | none => exact Option.mem_some.mp hx ▸ he
  | some y =>
    simp only [PasWr.later] at hx
    split at hx
    · exact Option.mem_some.mp hx ▸ he
    · exact hb x hx

/-- Does bank cycle `k` see the write at a key? -/
def PasWr.seenAt (k key : Nat) (e : PasWr) : Bool := decide (e.key = key ∧ e.cyc + 2 ≤ Int.ofNat k)

theorem PasSt.lastWrite_eq (p : PasSt) (k key : Nat) :
    p.lastWrite k key = (p.pend.filter (PasWr.seenAt k key)).foldl PasWr.later none := rfl

/-- The last write is one of cycle `k` and value `v`. -/
def PasWr.Stands (k : Nat) (v : Word) (b : Option PasWr) : Prop := ∃ e : PasWr, b = some e ∧ e.cyc = Int.ofNat k ∧ e.val = v

/-- Later writes of the same cycle and value leave that value. -/
theorem PasWr.Stands.foldl {k : Nat} {v : Word} {b : Option PasWr} (h : PasWr.Stands k v b) {l : List PasWr}
    (hl : ∀ x ∈ l, x.cyc = Int.ofNat k ∧ x.val = v) : PasWr.Stands k v (l.foldl PasWr.later b) := by
  refine List.foldlRecOn (motive := PasWr.Stands k v) l PasWr.later h ?_
  rintro _ ⟨e, rfl, hcyc, -⟩ x hx
  obtain ⟨hxc, hxv⟩ := hl x hx
  exact ⟨x, PasWr.later_of_le (by simp [hcyc, hxc]), hxc, hxv⟩

/-- A write of cycle `k`, behind which stand only writes of the same cycle and value, is read two cycles later. -/
theorem PasSt.readAt_written (p : PasSt) {k key err : Nat} {v : Word} {old rest : List PasWr}
    (hp : p.pend = old ++ ⟨Int.ofNat k, key, v, err⟩ :: rest) (hrest : ∀ x ∈ rest, x.cyc = Int.ofNat k ∧ x.val = v) :
    p.readAt (k + 2) key = v := by
  have hseen : PasWr.seenAt (k + 2) key ⟨Int.ofNat k, key, v, err⟩ = true := decide_eq_true ⟨rfl, by simp⟩
  have hlast : PasWr.later ((old.filter (PasWr.seenAt (k + 2) key)).foldl PasWr.later none) ⟨Int.ofNat k, key, v, err⟩ =
      some ⟨Int.ofNat k, key, v, err⟩ := by
    refine PasWr.later_of_le fun x hx => ?_
    have hx2 : x.cyc + 2 ≤ Int.ofNat (k + 2) := (of_decide_eq_true (List.mem_filter.mp (PasWr.last_mem _ x hx)).2).2
    simp only [Int.ofNat_eq_natCast] at hx2 ⊢
    omega
  have hstands : PasWr.Stands k v (p.lastWrite (k + 2) key) := by
    rw [p.lastWrite_eq, hp, List.filter_append, List.filter_cons_of_pos hseen, List.foldl_append, List.foldl_cons, hlast]
    exact PasWr.Stands.foldl ⟨_, rfl, rfl, rfl⟩ fun x hx => hrest x (List.mem_filter.mp hx).1
  obtain ⟨e, he, -, hv⟩ := hstands
  rw [PasSt.readAt, he]
  exact hv

theorem Chip.pasWrite_pend (k lb bank w : Nat) (v : Word) : ∃ rest : List PasWr,
    (c.pasWrite k lb bank w v).pas = { c.pas with pend := c.pas.pend ++ ⟨Int.ofNat k, bank * bankWords + w, v, 0⟩ :: rest } ∧
      ∀ x ∈ rest, x.cyc = Int.ofNat k ∧ x.val = v := by
  unfold Chip.pasWrite
  dsimp only
  split
  next m _ =>
    split
    · exact ⟨[⟨Int.ofNat k, m.s.val * bankWords + w, v, 0⟩], rfl, by simp⟩
    · exact ⟨[], rfl, by simp⟩
  next => exact ⟨[], rfl, by simp⟩

theorem Chip.pasWrite_readAt (k lb bank w : Nat) (v : Word) :
    (c.pasWrite k lb bank w v).pas.readAt (k + 2) (bank * bankWords + w) = v := by
  obtain ⟨rest, hp, hrest⟩ := c.pasWrite_pend k lb bank w v
  rw [hp]
  exact PasSt.readAt_written _ rfl hrest

theorem Chip.pasWrite_lastGrant (k lb bank w : Nat) (v : Word) : (c.pasWrite k lb bank w v).pas.lastGrant = c.pas.lastGrant := rfl

/-- What a read returns depends on nothing but the words. -/
theorem PasSt.readAt_congr {p q : PasSt} (hp : q.pend = p.pend) (hw : q.words = p.words) (k key : Nat) :
    q.readAt k key = p.readAt k key := by
  simp only [PasSt.readAt, PasSt.lastWrite, hp, hw]

/-! ## A word that is read (R180, R181) -/

theorem Chip.pasRead_value (src k lb bank w : Nat) : (c.pasRead src k lb bank w).1 =
    if c.pas.errAt k (bank * bankWords + w) ≤ 1 then c.pas.readAt k (bank * bankWords + w) else 0 := by
  unfold Chip.pasRead
  dsimp only
  split
  next h => rw [h]; rfl
  next h0 =>
    split
    next h => rw [h]; rfl
    next h1 => exact (if_neg (by omega)).symm

theorem Chip.pasRead_good (src k lb bank w : Nat) : (c.pasRead src k lb bank w).2.1 =
    decide (c.pas.errAt k (bank * bankWords + w) ≤ 1) := by
  unfold Chip.pasRead
  dsimp only
  split
  next h => rw [h]; rfl
  next h0 =>
    split
    next h => rw [h]; rfl
    next h1 => exact (decide_eq_false (by omega)).symm

/-- A read reports what it corrects or cannot correct, and changes nothing else. -/
theorem Chip.pasRead_touches (src k lb bank w : Nat) : Touches [] (onPages [.pas]) c (c.pasRead src k lb bank w).2.2 := by
  unfold Chip.pasRead
  dsimp only
  split
  · exact .refl _ _ c
  · split
    · exact (Touches.refl _ _ c).bump.raise
    · unfold Chip.pasUncorr
      dsimp only
      split
      · exact (Touches.refl _ _ c).bump.put.put.put.put.wr.raise
      · exact (Touches.refl _ _ c).bump.put.put.put.put.wr.raise

theorem Chip.pasRead_pas (src k lb bank w : Nat) : (c.pasRead src k lb bank w).2.2.pas = c.pas :=
  (c.pasRead_touches src k lb bank w).same .pas (by decide)

/-! ## The host's words (R449, R451) -/

/-- With no cell of a read transaction waiting to begin, nothing follows a host word. -/
theorem Chip.hostRun_idle (fuel : Nat) (ht : c.hif.todo.2.1 = 0) (hl : c.hif.late.isEmpty = true) : Chip.hostRun fuel c = c := by
  cases fuel with
  | zero => rfl
  | succ n => exact if_pos (by simp [ht, hl])

theorem Chip.hostGo_idle (ht : c.hif.todo.2.1 = 0) (hl : c.hif.late.isEmpty = true) :
    c.hostGo = c.setHif fun h => { h with cellAt := c.now } :=
  Chip.hostRun_idle _ _ ht hl

/-- A window word that the cell in progress waits for goes into it. -/
theorem Chip.hostServed_plain {id : Nat} (v : Word) (hid : c.hif.rid = id) (hw : c.cellWaits = true) (ht : c.hif.todo.2.1 = 0)
    (hl : c.hif.late.isEmpty = true) : (c.hostServed id v).hif.cells = c.hif.cells.dropLast ++ [.word v] ∧
      (c.hostServed id v).pas = c.pas := by
  unfold Chip.hostServed
  rw [if_pos ⟨hid, hw⟩, Chip.hostGo_idle]
  · exact ⟨rfl, rfl⟩
  · exact ht
  · exact hl

/-! ## The DMA's words (R240, R243) -/

theorem Chip.setRing_ring (n : Nat) (r : Ring) : (c.setRing n r).ring n = r := by
  have hdma : (c.setRing n r).dma = (c.keepRing n r).dma := by
    unfold Chip.setRing Chip.showRing
    split <;> rfl
  rw [Chip.ring, hdma]
  exact KMap.get_set_self _ _ _ _

/-- The transaction with the word that was read, and with an error where it could not be corrected. -/
def Txn.served (t : Txn) (i : Nat) (snd good : Bool) (v : Word) : Txn :=
  let t1 : Txn := if snd then { t with data2 := KMap.set 0 i v t.data2, owed := t.owed - 1 }
    else { t with data := KMap.set 0 i v t.data, owed := t.owed - 1 }
  if good then t1 else { t1 with err := some 5 }

theorem Txn.served_shows (t : Txn) (i : Nat) (snd good : Bool) (v : Word) : (t.served i snd good v).owed = t.owed - 1 ∧
    KMap.get 0 i (if snd then (t.served i snd good v).data2 else (t.served i snd good v).data) = v ∧
      (t.served i snd good v).err = if good then t.err else some 5 := by
  cases snd <;> cases good <;> exact ⟨rfl, KMap.get_set_self _ _ _ _, rfl⟩

theorem Chip.dmaWindowRead_found {n id j : Nat} {x : DescRun} {t : Txn} (i : Nat) (snd good : Bool) (v : Word)
    (h : ((c.ring n).findTxn fun _ t => decide (t.id = id)) = some (j, x, t)) :
    c.dmaWindowRead n id i snd good v = c.setRing n ((c.ring n).putDesc j (x.putTxn (t.served i snd good v))) := by
  unfold Chip.dmaWindowRead
  dsimp only
  rw [h]
  rfl

theorem Chip.dmaWindowRead_pas (n id i : Nat) (snd good : Bool) (v : Word) : (c.dmaWindowRead n id i snd good v).pas = c.pas := by
  unfold Chip.dmaWindowRead
  dsimp only
  split
  · rfl
  · exact Chip.setRing_pas _ _ _

/-- The next word of a ring's bursts joins the queue of the window. -/
theorem Chip.queueWrite_pas (n : Nat) : ∃ l, (c.queueWrite n).pas = { c.pas with queue := c.pas.queue ++ l } := by
  have hsame : c.pas = { c.pas with queue := c.pas.queue ++ [] } := by rw [List.append_nil]
  unfold Chip.queueWrite
  dsimp only
  split
  · exact ⟨[], hsame⟩
  · split
    · exact ⟨[], hsame⟩
    · exact ⟨_, rfl⟩

theorem Chip.dmaWindowWrite_pas (n id : Nat) : ∃ l, (c.dmaWindowWrite n id).pas = { c.pas with queue := c.pas.queue ++ l } := by
  unfold Chip.dmaWindowWrite
  dsimp only
  split
  · exact c.queueWrite_pas n
  · obtain ⟨l, hl⟩ := Chip.queueWrite_pas (c.setRing n _) n
    exact ⟨l, hl.trans (by rw [Chip.setRing_pas])⟩

/-! ## A window word that is served (R187) -/

/-- What the service of the request at word `w` of logical bank `lb`, on bank `b` in cycle `k`, leaves in `d`. -/
def Chip.wordServed (d : Chip) (k lb b w : Nat) : WinReq → Prop
  | .crookLoad i => (d.crook.loads[i]?).map (·.val) = some (some (c.pasRead 1 k lb b w).1)
  | .crookStore i => ∀ st, c.crook.stores[i]? = some st → d.pas.readAt (k + 2) (b * bankWords + w) = BitVec.ofNat 32 st.val ∧
      (d.crook.stores[i]?).map (·.done) = some true
  | .hostRead _ => d.hif.cells = c.hif.cells.dropLast ++ [.word (c.pasRead 1 k lb b w).1]
  | .hostWrite v | .acqWrite v | .linkWrite v | .dmaWrite _ _ v => d.pas.readAt (k + 2) (b * bankWords + w) = v
  | .dmaRead n id i snd => ∀ j x t, ((c.ring n).findTxn fun _ t => decide (t.id = id)) = some (j, x, t) →
      ∃ t1 : Txn, d.ring n = (c.ring n).putDesc j (x.putTxn t1) ∧ t1.owed = t.owed - 1 ∧
        KMap.get 0 i (if snd then t1.data2 else t1.data) = (c.pasRead 1 k lb b w).1 ∧
        t1.err = (if (c.pasRead 1 k lb b w).2.1 then t.err else some 5)
  | .linkRead i => ∀ job, c.lnk.aud = some job →
      d.lnk.aud = some { job with words := job.words.set i (some (c.pasRead 1 k lb b w).1) }

variable (k lb b w : Nat)

theorem Chip.serve_crookLoad {i : Nat} (hi : i < c.crook.loads.length) :
    c.wordServed (c.serveWord k lb b w (.crookLoad i)) k lb b w (.crookLoad i) := by
  have hloads : (c.pasRead 1 k lb b w).2.2.crook.loads = c.crook.loads :=
    (congrArg CrookSt.loads ((c.pasRead_touches 1 k lb b w).same .crook (by decide)) :)
  simp [Chip.wordServed, Chip.serveWord, Chip.crookServed, hloads, hi]

theorem Chip.serve_crookStore (i : Nat) : c.wordServed (c.serveWord k lb b w (.crookStore i)) k lb b w (.crookStore i) := by
  intro st hst
  obtain ⟨hi, -⟩ := List.getElem?_eq_some_iff.mp hst
  simp only [Chip.serveWord, hst]
  exact ⟨c.pasWrite_readAt k lb b w _, by simp [Chip.pasWrite, hi]⟩

theorem Chip.serve_hostRead {id : Nat} (hid : c.hif.rid = id) (hw : c.cellWaits = true) (ht : c.hif.todo.2.1 = 0)
    (hl : c.hif.late.isEmpty = true) :
    (c.serveWord k lb b w (.hostRead id)).hif.cells = c.hif.cells.dropLast ++ [.word (c.pasRead 1 k lb b w).1] ∧
      (c.serveWord k lb b w (.hostRead id)).pas = c.pas := by
  have hhif : (c.pasRead 1 k lb b w).2.2.hif = c.hif := (c.pasRead_touches 1 k lb b w).same .hif (by decide)
  have hcell : (c.pasRead 1 k lb b w).2.2.cellWaits = true := by rw [← hw, Chip.cellWaits, hhif]; rfl
  obtain ⟨hcells, hpas⟩ := Chip.hostServed_plain (c.pasRead 1 k lb b w).2.2 (c.pasRead 1 k lb b w).1 (hhif ▸ hid) hcell (hhif ▸ ht)
    (hhif ▸ hl)
  exact ⟨hhif ▸ hcells, hpas.trans (c.pasRead_pas 1 k lb b w)⟩

theorem Chip.serve_hostWrite (v : Word) (ht : c.hif.todo.2.1 = 0) (hl : c.hif.late.isEmpty = true) :
    (c.serveWord k lb b w (.hostWrite v)).pas = (c.pasWrite k lb b w v).pas :=
  (congrArg Chip.pas (Chip.hostGo_idle (c.pasWrite k lb b w v) ht hl) :)

theorem Chip.serve_dmaWrite (n id : Nat) (v : Word) : ∃ l, (c.serveWord k lb b w (.dmaWrite n id v)).pas =
    { (c.pasWrite k lb b w v).pas with queue := (c.pasWrite k lb b w v).pas.queue ++ l } :=
  Chip.dmaWindowWrite_pas _ n id

theorem Chip.serve_dmaRead (n id i : Nat) (snd : Bool) :
    c.wordServed (c.serveWord k lb b w (.dmaRead n id i snd)) k lb b w (.dmaRead n id i snd) := by
  intro j x t hfind
  have hdma : (c.pasRead 1 k lb b w).2.2.dma = c.dma := (c.pasRead_touches 1 k lb b w).same .dma (by decide)
  have hring : (c.pasRead 1 k lb b w).2.2.ring n = c.ring n := by simp only [Chip.ring, hdma]
  obtain ⟨howed, hdata, herr⟩ := t.served_shows i snd (c.pasRead 1 k lb b w).2.1 (c.pasRead 1 k lb b w).1
  refine ⟨t.served i snd (c.pasRead 1 k lb b w).2.1 (c.pasRead 1 k lb b w).1, ?_, howed, hdata, herr⟩
  simp only [Chip.serveWord]
  rw [Chip.dmaWindowRead_found _ i snd _ _ (hring ▸ hfind), Chip.setRing_ring, hring]

theorem Chip.serve_linkRead (i : Nat) : c.wordServed (c.serveWord k lb b w (.linkRead i)) k lb b w (.linkRead i) := by
  intro job hjob
  have hlnk : (c.pasRead 1 k lb b w).2.2.lnk = c.lnk := (c.pasRead_touches 1 k lb b w).same .lnk (by decide)
  simp [Chip.serveWord, Chip.linkServed, hlnk, hjob]

/-- Each request is served as its kind asks for. -/
theorem Chip.serveWord_served {r : WinReq} (h : Sys2Proof.plainWindow c r = true) :
    c.wordServed (c.serveWord k lb b w r) k lb b w r := by
  cases r with
  | crookLoad i => exact c.serve_crookLoad k lb b w (of_decide_eq_true h)
  | crookStore i => exact c.serve_crookStore k lb b w i
  | hostRead id =>
    simp only [Sys2Proof.plainWindow, Bool.and_eq_true, decide_eq_true_eq] at h
    obtain ⟨⟨⟨hid, hw⟩, ht⟩, hl⟩ := h
    exact (c.serve_hostRead k lb b w hid hw ht hl).1
  | hostWrite v =>
    simp only [Sys2Proof.plainWindow, Bool.and_eq_true, decide_eq_true_eq] at h
    simp only [Chip.wordServed, c.serve_hostWrite k lb b w v h.1 h.2, c.pasWrite_readAt]
  | dmaRead n id i snd => exact c.serve_dmaRead k lb b w n id i snd
  | dmaWrite n id v =>
    obtain ⟨l, hl⟩ := c.serve_dmaWrite k lb b w n id v
    simp only [Chip.wordServed, hl]
    exact (PasSt.readAt_congr rfl rfl _ _).trans (c.pasWrite_readAt k lb b w v)
  | acqWrite v => exact c.pasWrite_readAt k lb b w v
  | linkWrite v => exact c.pasWrite_readAt k lb b w v
  | linkRead i => exact c.serve_linkRead k lb b w i

/-- The service of a word leaves the record of grants. -/
theorem Chip.serveWord_lastGrant {r : WinReq} (h : Sys2Proof.plainWindow c r = true) :
    (c.serveWord k lb b w r).pas.lastGrant = c.pas.lastGrant := by
  have hread := congrArg PasSt.lastGrant (c.pasRead_pas 1 k lb b w)
  cases r with
  | crookLoad i => exact hread
  | crookStore i =>
    simp only [Chip.serveWord]
    split <;> rfl
  | hostRead id =>
    simp only [Sys2Proof.plainWindow, Bool.and_eq_true, decide_eq_true_eq] at h
    obtain ⟨⟨⟨hid, hw⟩, ht⟩, hl⟩ := h
    exact congrArg PasSt.lastGrant (c.serve_hostRead k lb b w hid hw ht hl).2
  | hostWrite v =>
    simp only [Sys2Proof.plainWindow, Bool.and_eq_true, decide_eq_true_eq] at h
    exact (congrArg PasSt.lastGrant (c.serve_hostWrite k lb b w v h.1 h.2) :)
  | dmaRead n id i snd => exact (congrArg PasSt.lastGrant (Chip.dmaWindowRead_pas _ n id i snd _ _)).trans hread
  | dmaWrite n id v =>
    obtain ⟨l, hl⟩ := c.serve_dmaWrite k lb b w n id v
    exact (congrArg PasSt.lastGrant hl :)
  | acqWrite v => rfl
  | linkWrite v => rfl
  | linkRead i => exact hread

/-! ## A row of the sweep (R192 to R194) -/

/-- The sweep of a word changes only the words that S holds. -/
theorem Chip.sweepWord_pas (m : Mirror) : ∃ ws es, (c.sweepWord k m w).pas = { c.pas with words := ws, err := es } := by
  unfold Chip.sweepWord
  dsimp only
  rw [Chip.setPas_pas, c.pasRead_pas]
  exact ⟨_, _, rfl⟩

theorem Chip.grantSweep_pas (m : Mirror) : ∃ ws es wait, (c.grantSweep k m).pas =
    { c.pas with words := ws, err := es, mirror := some { m with row := m.row + 1, wait := wait } } := by
  obtain ⟨ws, es, hfirst⟩ := c.sweepWord_pas k (2 * m.row) m
  obtain ⟨ws', es', hsecond⟩ := (c.sweepWord k m (2 * m.row)).sweepWord_pas k (2 * m.row + 1) m
  refine ⟨ws', es', if k + 2 < c.frameCycles then 1 else 2, ?_⟩
  unfold Chip.grantSweep
  dsimp only
  split <;> simp [hsecond, hfirst]

/-! ## A row of the scrubber (R180, R182) -/

theorem Chip.scrubWord_pas : ∃ l, (c.scrubWord k lb b w).pas = { c.pas with scrubBack := l } := by
  have hread := c.pasRead_pas 2 k lb b w
  unfold Chip.scrubWord
  dsimp only
  split
  · rw [Chip.setPas_pas, hread]
    exact ⟨_, rfl⟩
  · exact ⟨c.pas.scrubBack, hread⟩

/-- With no write-back waiting in the bank the grant serves its next row. -/
theorem Chip.grantScrub_row (h : (c.pas.scrubBack.all fun x => !decide (x / bankWords = b)) = true) :
    ∃ l, (c.grantScrub k lb b).pas = { c.pas with
      scrubBack := l
      scrubReq := c.pas.scrubReq.filter fun y => !decide (y = lb)
      scrubRow := KMap.set 0 lb ((KMap.get 0 lb c.pas.scrubRow + 1) % 65536) c.pas.scrubRow } := by
  have hnone : (c.pas.scrubBack.find? fun x => decide (x / bankWords = b)) = none := by
    simpa [List.find?_eq_none] using h
  obtain ⟨l, hfirst⟩ := c.scrubWord_pas k lb b (2 * KMap.get 0 lb c.pas.scrubRow)
  obtain ⟨l', hsecond⟩ := (c.scrubWord k lb b (2 * KMap.get 0 lb c.pas.scrubRow)).scrubWord_pas k lb b
    (2 * KMap.get 0 lb c.pas.scrubRow + 1)
  refine ⟨l', ?_⟩
  unfold Chip.grantScrub
  rw [hnone]
  simp [hsecond, hfirst]

theorem Chip.grantScrub_lastGrant : (c.grantScrub k lb b).pas.lastGrant = c.pas.lastGrant := by
  cases hall : c.pas.scrubBack.all fun x => !decide (x / bankWords = b) with
  | true =>
    obtain ⟨l, hl⟩ := c.grantScrub_row k lb b hall
    rw [hl]
  | false =>
    unfold Chip.grantScrub
    split
    · dsimp only
      split <;> rfl
    next hnone =>
      rw [List.find?_eq_none] at hnone
      exact absurd hall (by simpa using hnone)

/-! ## The grant (R186) -/

/-- The requester class `cls` is granted a gap slot of logical bank `lb`. -/
def Chip.grantNoted (cls : Nat) : Chip := c.setPas fun p => { p with lastGrant := KMap.set 2 lb cls p.lastGrant }

theorem Chip.grantNoted_last (cls : Nat) : KMap.get 2 lb (c.grantNoted lb cls).pas.lastGrant = cls := KMap.get_set_self _ _ _ _

/-- The first request of logical bank `lb` leaves the queue of the window. -/
def Chip.headTaken : Chip := c.setPas fun p => { p with queue := dropHead lb p.queue }

/-- The requester that the round robin grants is one of three, and has something pending. -/
theorem Chip.gapPick_spec {cls : Nat} (h : c.gapPick lb b = some cls) : cls < 3 ∧ c.gapPending lb b cls = true := by
  refine ⟨?_, List.find?_some h⟩
  obtain ⟨n, -, rfl⟩ := List.mem_map.mp (List.mem_of_find?_eq_some h)
  exact Nat.mod_lt n (by decide)

/-- What the requester class `cls` is granted is served. -/
def Chip.grantServed (cls : Nat) : Chip :=
  if cls = 0 then
    match c.pas.headOf lb with
    | some q => (c.headTaken lb).serveWord k lb b (q.1 % bankWords) q.2
    | none => c
  else if cls = 1 then
    match c.pas.sweeping lb with
    | some m => c.grantSweep k m
    | none => c
  else c.grantScrub k lb b

section

variable {c k lb b}

theorem Chip.gapGrant_to {cls : Nat} (hb : c.physOf lb = some b) (ho : c.gapOpen lb k = true) (hp : c.gapPick lb b = some cls) :
    c.gapGrant lb k = ((c.grantNoted lb cls).grantServed k lb b cls).restamp c.evt.batch.length (c.cycleRoot k) := by
  simp only [Chip.gapGrant, hb, ho, hp]
  rfl

theorem Chip.grantServed_window {q : Nat × WinReq} (hq : c.pas.headOf lb = some q) :
    c.grantServed k lb b 0 = (c.headTaken lb).serveWord k lb b (q.1 % bankWords) q.2 := by
  simp only [Chip.grantServed, hq, if_true]

theorem Chip.grantServed_sweep {m : Mirror} (hm : c.pas.sweeping lb = some m) : c.grantServed k lb b 1 = c.grantSweep k m := by
  simp only [Chip.grantServed, hm, Nat.one_ne_zero, if_false, if_true]

theorem Chip.grantServed_scrub : c.grantServed k lb b 2 = c.grantScrub k lb b := rfl

end

end Sys2Proof.Machine

namespace Sys2Proof

open Sys2Proof.Machine

variable {s : State}

theorem exec_gapSlotGrant (lb : Fin 48) (k : Nat) : exec (.gapSlotGrant lb k) s = s.act fun c => c.gapGrant lb.val k := rfl

/-- The stamps of a grant's occurrences, and the end of the command, leave its effect. -/
theorem gapEffect_stamped {c d : Chip} {lb : Fin 48} {k n : Nat} {t : Int} (h : pastureEffect c d (.gapSlotGrant lb k)) :
    pastureEffect c (d.restamp n t).settle (.gapSlotGrant lb k) := by
  simpa only [pastureEffect, Chip.ring, Chip.settle_pas, Chip.settle_crook, Chip.settle_hif, Chip.settle_dma, Chip.settle_lnk,
    Chip.restamp_pas, Chip.restamp_crook, Chip.restamp_hif, Chip.restamp_dma, Chip.restamp_lnk] using h

theorem granted_eq {c : Chip} {lb b cls : Nat} (hb : c.physOf lb = some b) (hp : c.gapPick lb b = some cls) :
    granted c lb = some (cls, if cls = 0 then c.pas.headOf lb else none) := by
  simp only [granted, hb, hp, Option.bind_some, Option.map_some]

/-- What a window word's grant leaves: the request is served as on the device that has noted the grant. -/
theorem windowGrant_effect {c : Chip} {lb : Fin 48} {k b : Nat} {q : Nat × WinReq} (hb : c.physOf lb.val = some b)
    (hg : granted c lb.val = some (0, some q)) (hpl : plainWindow c q.2 = true) :
    pastureEffect c (((c.grantNoted lb.val 0).headTaken lb.val).serveWord k lb.val b (q.1 % bankWords) q.2) (.gapSlotGrant lb k) := by
  have hserved := ((c.grantNoted lb.val 0).headTaken lb.val).serveWord_served k lb.val b (q.1 % bankWords) hpl
  have hlast := ((c.grantNoted lb.val 0).headTaken lb.val).serveWord_lastGrant k lb.val b (q.1 % bankWords) hpl
  intro b' hb'
  obtain rfl : b = b' := Option.some.inj (hb.symm.trans hb')
  rw [hg]
  refine ⟨(congrArg (KMap.get 2 lb.val) hlast).trans (c.grantNoted_last lb.val 0), ?_⟩
  obtain ⟨a, r⟩ := q
  cases r <;> simp only [Chip.wordServed, Chip.pasRead_value, Chip.pasRead_good] at hserved ⊢ <;> exact hserved

/-- What the sweep's grant leaves. -/
theorem sweepGrant_effect {c : Chip} {lb : Fin 48} {k : Nat} {m : Mirror} (hg : granted c lb.val = some (1, none))
    (hm : c.pas.sweeping lb.val = some m) :
    pastureEffect c ((c.grantNoted lb.val 1).grantSweep k m) (.gapSlotGrant lb k) := by
  obtain ⟨ws, es, wait, hpas⟩ := (c.grantNoted lb.val 1).grantSweep_pas k m
  intro b _
  rw [hg]
  simp only [hpas]
  refine ⟨c.grantNoted_last lb.val 1, fun _ m' hm' => ?_, fun h => absurd h (by decide)⟩
  obtain ⟨hmirror, -⟩ := Option.filter_eq_some_iff.mp hm
  rw [hmirror] at hm'
  cases hm'
  rfl

/-- What the scrubber's grant leaves. -/
theorem scrubGrant_effect {c : Chip} {lb : Fin 48} {k b : Nat} (hb : c.physOf lb.val = some b) (hg : granted c lb.val = some (2, none)) :
    pastureEffect c ((c.grantNoted lb.val 2).grantScrub k lb.val b) (.gapSlotGrant lb k) := by
  intro b' hb'
  obtain rfl : b = b' := Option.some.inj (hb.symm.trans hb')
  rw [hg]
  refine ⟨?_, fun h => absurd h (by decide), fun _ hall => ?_⟩
  · rw [Chip.grantScrub_lastGrant]
    exact c.grantNoted_last lb.val 2
  · obtain ⟨l, hpas⟩ := (c.grantNoted lb.val 2).grantScrub_row k lb.val b hall
    rw [hpas]
    exact ⟨by simp, KMap.get_set_self _ _ _ _⟩

theorem gapSlotGrant_completes {lb : Fin 48} {k : Nat} : PastureRowCompletes (.gapSlotGrant lb k) s := by
  intro h
  obtain ⟨ho, hready⟩ := Bool.and_eq_true_iff.mp h
  refine completes_act (exec_gapSlotGrant lb k) ?_
  cases hb : s.chip.physOf lb.val with
  | none => simp [granted, hb] at hready
  | some b =>
    cases hp : s.chip.gapPick lb.val b with
    | none => simp [granted, hb, hp] at hready
    | some cls =>
      have hg := granted_eq hb hp
      obtain ⟨hlt, hpending⟩ := s.chip.gapPick_spec lb.val b hp
      rw [hg] at hready
      match cls, hlt with
      | 0, _ =>
        cases hq : s.chip.pas.headOf lb.val with
        | none => simp [hq] at hready
        | some q =>
          rw [if_pos rfl, hq] at hg hready
          rw [Chip.gapGrant_to hb ho hp, Chip.grantServed_window (c := s.chip.grantNoted lb.val 0) hq]
          exact gapEffect_stamped (windowGrant_effect hb hg hready)
      | 1, _ =>
        obtain ⟨m, hm⟩ := Option.isSome_iff_exists.mp hpending
        rw [Chip.gapGrant_to hb ho hp, Chip.grantServed_sweep (c := s.chip.grantNoted lb.val 1) hm]
        exact gapEffect_stamped (sweepGrant_effect hg hm)
      | 2, _ =>
        rw [Chip.gapGrant_to hb ho hp, Chip.grantServed_scrub]
        exact gapEffect_stamped (scrubGrant_effect hb hg)

/-- Settles O33: each row that is ready completes with its effect. -/
theorem pastureRowsComplete : Obligations.PastureRowsComplete := by
  intro i s hs hready
  have h := hready
  unfold pastureReady at h
  split at h
  next => exact scrubRequest_completes hready
  next => exact gapSlotGrant_completes hready
  next => exact mirrorStart_completes hready
  next => exact bankSwap_completes hready
  next => exact absurd h (by decide)

end Sys2Proof
end

section
/-! PROOFS. The frame of the rows of chapters 09 to 12, 16, 18 and 19 fails at LANE_FILL_REACHED: the words that an input lane pops as it
reaches its fill level are latched by the engines at the same boundary (R80, R221). -/

namespace Sys2Proof.Machine

/-- A fold of one role in one flock, whose input word 0 comes from slot 0 of lane 0 (R60, R80). -/
def routedFold : Fold where
  foldId := 0
  rate := 0
  mck := 0
  clkCtrl := 0
  flocks := [(1, 0)]
  pads := []
  sched := []
  groups := []
  lanes := []
  routes := [⟨0, 0, 0, 0⟩]
  corr := []
  plan := none
  guard := []
  tree := none

/-- An input lane whose buffer holds the two words of its fill level. -/
def filledLane : Lane := { Lane.zero with buf := [1, 2] }

/-- At the frame boundary of STC 0 the slip-capable input lane 0 runs and waits for its fill level, with slot 0 enabled, and engine 0 holds
role 0 of the fold in force. -/
def fillingChip : Chip :=
  let c : Chip := { Chip.powerOn with fold := { FoldSt.zero with cur := some routedFold }, prt := ⟨[(0, filledLane)], [], []⟩ }
  ((((((c.put F.FOLD_STAT_loaded 1).put (F.SE_STAT_state 0) seRunning).put (F.PRT_LANE_CFG_en 0) 1).put
    (F.PRT_LANE_MASK_active 0) 1).put (F.PRT_LANE_STAT_state 0) laneRunning).put (F.PRT_LANE_STAT_waiting 0) 1)

theorem fillingChip_safe : Sys2Proof.safe ⟨[], fillingChip⟩ = true := by decide +kernel

/-- Engine 0 has no input word before the row, and the lane's first word after it. -/
theorem fillingChip_latches : KMap.get 0 0 (fillingChip.engine 0).core.inw = 0 ∧
    KMap.get 0 0 ((fillingChip.lanePass 0).engine 0).core.inw = 1 := by decide +kernel

end Sys2Proof.Machine

namespace Sys2Proof

open Sys2Proof.Machine

/-- Refutes O60: `edgeTouches` gives LANE_FILL_REACHED the ports alone, and the row latches the words it pops into the engines (R80). -/
theorem not_edgeRowsFrame : ¬ Obligations.EdgeRowsFrame := by
  intro h
  obtain ⟨_, hparts, _⟩ := h (.laneFillReached 0) ⟨[], fillingChip⟩ _ [.prt] [.prt] rfl fillingChip_safe rfl
  have heng : (fillingChip.lanePass 0).settle.eng = fillingChip.eng := hparts .eng (by decide)
  have hsame : (fillingChip.lanePass 0).engine 0 = fillingChip.engine 0 := Chip.engine_congr ((Chip.settle_eng _).symm.trans heng) 0
  obtain ⟨hbefore, hafter⟩ := fillingChip_latches
  rw [hsame, hbefore] at hafter
  exact absurd hafter (by decide)

end Sys2Proof
end

section
/-! PROOFS. What the rows of the serial audio ports show of lanes, clock groups and alignment groups (R207 to R233), and the change that a
word makes on its way through a lane. -/

-- One theorem at a time: many at once, each with a thread of its own, do not fit in memory.
set_option Elab.async false

namespace Sys2Proof.Machine

variable (c : Chip)

/-! ## The registers of the ports -/

/-- An address in the ports' pages. -/
def inPrt (a : Nat) : Prop := 0x40040000 ≤ a ∧ a ≤ 0x40042FFF

section

variable {n : Nat}

theorem inPrt_laneCtrl (hn : n < 32) : inPrt (R.PRT_LANE_CTRL n) := by unfold inPrt R.PRT_LANE_CTRL; omega
theorem inPrt_laneMask (hn : n < 32) : inPrt (R.PRT_LANE_MASK n) := by unfold inPrt R.PRT_LANE_MASK; omega
theorem inPrt_laneStat (hn : n < 32) : inPrt (R.PRT_LANE_STAT n) := by unfold inPrt R.PRT_LANE_STAT; omega
theorem inPrt_grpStat (hn : n < 8) : inPrt (R.PRT_GRP_STAT n) := by unfold inPrt R.PRT_GRP_STAT; omega
theorem inPrt_grpPhase (hn : n < 8) : inPrt (R.PRT_GRP_PHASE n) := by unfold inPrt R.PRT_GRP_PHASE; omega
theorem inPrt_grpCtrl (hn : n < 8) : inPrt (R.PRT_GRP_CTRL n) := by unfold inPrt R.PRT_GRP_CTRL; omega
theorem inPrt_alignCtrl (hn : n < 8) : inPrt (R.PRT_ALIGN_CTRL n) := by unfold inPrt R.PRT_ALIGN_CTRL; omega

end

/-- The registers of the ports are none that the end of a command changes. -/
theorem inPrt_kept {a : Nat} (h : inPrt a) : flushReg a = false ∧ holdReg a = false := by
  obtain ⟨hlo, hhi⟩ := h
  simp only [flushReg, holdReg, R.EVT_Q_DROP, R.EVT_STAT, R.EVT_LPEND_LO, R.EVT_LPEND_HI, R.EVT_HSUM, R.GUARD_AIR_CNT, R.RF_TX_STAT,
    R.RF_WAKE_TX_CTRL, R.RF_STAT, Bool.or_eq_false_iff, beq_eq_false_iff_ne]
  omega

/-- `d` shows of the ports what `c` shows: their state and their registers. -/
structure SamePorts (c d : Chip) : Prop where
  prt : d.prt = c.prt
  get : ∀ f : Fld, inPrt f.addr → d.get f = c.get f

namespace SamePorts

variable {c}
variable {d : Chip}

theorem bit (h : SamePorts c d) {f : Fld} (hf : inPrt f.addr) : d.bit f = c.bit f := by simp only [Chip.bit, h.get f hf]

theorem lane (h : SamePorts c d) (n : Nat) : d.lane n = c.lane n := by simp only [Chip.lane, h.prt]

theorem grp (h : SamePorts c d) (g : Nat) : d.grp g = c.grp g := by simp only [Chip.grp, h.prt]

theorem align (h : SamePorts c d) (a : Nat) : d.align a = c.align a := by simp only [Chip.align, h.prt]

theorem state (h : SamePorts c d) {n : Nat} (hn : n < 32) : d.laneState n = c.laneState n := h.get _ (inPrt_laneStat hn)

end SamePorts

theorem Chip.settle_samePorts : SamePorts c c.settle :=
  ⟨c.settle_prt, fun _ hf => c.settle_get (inPrt_kept hf).1 (inPrt_kept hf).2⟩

theorem Chip.alignLanes_lt {a n : Nat} (h : n ∈ c.alignLanes a) : n < 32 := List.mem_range.mp (List.mem_filter.mp h).1

open Sys2Proof in
/-- The effect of a row of the ports shows in the ports alone. -/
theorem portEffect_samePorts {c d e : Chip} (h : SamePorts d e) {i : Instr} (hd : portEffect c d i) : portEffect c e i := by
  cases i
  case groupHalt _ g => rwa [portEffect, h.bit (inPrt_grpCtrl g.isLt), h.grp]
  case groupRelease _ g => rwa [portEffect, h.bit (inPrt_grpCtrl g.isLt), h.grp]
  case groupHaltEffect g => rwa [portEffect, Chip.halted, h.bit (inPrt_grpStat g.isLt), h.bit (inPrt_grpStat g.isLt), h.grp]
  case groupReleaseEffect g => rwa [portEffect, Chip.halted, h.bit (inPrt_grpStat g.isLt), h.bit (inPrt_grpStat g.isLt), h.grp]
  case frameStart g _ _ =>
    rwa [portEffect, h.get _ (inPrt_grpPhase g.isLt), h.grp, h.bit (inPrt_grpStat g.isLt), h.bit (inPrt_grpStat g.isLt),
      h.bit (inPrt_grpStat g.isLt)]
  case slaveClockLoss g =>
    rwa [portEffect, h.bit (inPrt_grpStat g.isLt), h.bit (inPrt_grpStat g.isLt), h.bit (inPrt_grpStat g.isLt), h.grp]
  case asrcLockChange g _ _ => rwa [portEffect, h.bit (inPrt_grpStat g.isLt)]
  case serialWord n _ _ => rwa [portEffect, serialEffect, h.bit (inPrt_laneStat n.isLt), h.bit (inPrt_laneStat n.isLt), h.lane]
  case laneFillReached n => rwa [portEffect, h.bit (inPrt_laneStat n.isLt)]
  case maskWrite _ n _ _ => rwa [portEffect, Chip.maskOf, h.get _ (inPrt_laneMask n.isLt), h.lane]
  case maskApply n => rwa [portEffect, h.get _ (inPrt_laneMask n.isLt), h.lane]
  case laneStartRequest _ n _ => rwa [portEffect, h.state n.isLt, h.lane, h.bit (inPrt_laneCtrl n.isLt)]
  case laneStart n => rwa [portEffect, h.state n.isLt, h.lane, h.bit (inPrt_laneCtrl n.isLt)]
  case laneStopRequest _ n _ => rwa [portEffect, h.state n.isLt, h.lane, h.bit (inPrt_laneCtrl n.isLt)]
  case laneStop n => rwa [portEffect, h.state n.isLt, h.lane, h.bit (inPrt_laneCtrl n.isLt), h.bit (inPrt_laneCtrl n.isLt)]
  case alignGo _ a _ =>
    obtain ⟨htrig, hgo, hlanes⟩ := hd
    rw [portEffect, h.bit (inPrt_alignCtrl a.isLt), h.align]
    exact ⟨htrig, hgo, fun n hn => by rw [h.state (c.alignLanes_lt hn), h.lane]; exact hlanes n hn⟩
  case triggeredStart a =>
    obtain ⟨htrig, hgo, hlanes⟩ := hd
    rw [portEffect, h.bit (inPrt_alignCtrl a.isLt), h.align]
    exact ⟨htrig, hgo, fun n hn => by rw [h.state (c.alignLanes_lt hn)]; exact hlanes n hn⟩
  case alignStop _ a _ =>
    obtain ⟨htrig, hgo, hlanes⟩ := hd
    rw [portEffect, h.bit (inPrt_alignCtrl a.isLt), h.align]
    exact ⟨htrig, hgo, fun n hn => by rw [h.state (c.alignLanes_lt hn), h.lane]; exact hlanes n hn⟩
  all_goals trivial

end Sys2Proof.Machine
end

section
/-! PROOFS. The change that a word makes on its way through a lane (R216 to R223). -/

-- One theorem at a time: many at once, each with a thread of its own, do not fit in memory.
set_option Elab.async false

namespace Sys2Proof.Machine

variable (c : Chip)

namespace KeepsFlds

variable {c}
variable {d e : Chip} {l m : List Fld}

theorem mono (h : KeepsFlds l c d) (hl : l ⊆ m) : KeepsFlds m c d := fun g hg => h g (Fld.freeOf_mono hl hg)

theorem trans (h : KeepsFlds l c d) (k : KeepsFlds l d e) : KeepsFlds l c e := fun g hg => (k g hg).trans (h g hg)

end KeepsFlds

/-! ## The state of the ports -/

theorem Chip.lane_congr {c d : Chip} (h : d.prt = c.prt) (n : Nat) : d.lane n = c.lane n := by rw [Chip.lane, h, Chip.lane]

theorem Chip.grp_congr {c d : Chip} (h : d.prt.grps = c.prt.grps) (g : Nat) : d.grp g = c.grp g := by rw [Chip.grp, h, Chip.grp]

theorem Chip.align_congr {c d : Chip} (h : d.prt.aligns = c.prt.aligns) (a : Nat) : d.align a = c.align a := by
  rw [Chip.align, h, Chip.align]

@[simp] theorem Chip.lane_setLane_self (n : Nat) (l : Lane) : (c.setLane n l).lane n = l := KMap.get_set_self _ _ _ _

theorem Chip.lane_setLane_ne {n m : Nat} (h : m ≠ n) (l : Lane) : (c.setLane n l).lane m = c.lane m := KMap.get_set_ne _ _ h _ _

@[simp] theorem Chip.grp_setGrp_self (g : Nat) (x : Grp) : (c.setGrp g x).grp g = x := KMap.get_set_self _ _ _ _

@[simp] theorem Chip.align_setAlign_self (a : Nat) (x : AlignSt) : (c.setAlign a x).align a = x := KMap.get_set_self _ _ _ _

@[simp] theorem Chip.lane_put (f : Fld) (v n : Nat) : (c.put f v).lane n = c.lane n := Chip.lane_congr (c.put_prt f v) n
@[simp] theorem Chip.grp_put (f : Fld) (v g : Nat) : (c.put f v).grp g = c.grp g := Chip.grp_congr (congrArg PrtSt.grps (c.put_prt f v)) g
@[simp] theorem Chip.align_put (f : Fld) (v a : Nat) : (c.put f v).align a = c.align a :=
  Chip.align_congr (congrArg PrtSt.aligns (c.put_prt f v)) a
@[simp] theorem Chip.bit_raise (id : Nat) (loc arg : Word) (f : Fld) : (c.raise id loc arg).bit f = c.bit f :=
  Chip.bit_congr (c.raise_regs id loc arg) f

@[simp] theorem Chip.bit_levelOn (id : Nat) (loc arg : Word) (f : Fld) : (c.levelOn id loc arg).bit f = c.bit f :=
  Chip.bit_congr (c.levelOn_regs id loc arg) f
@[simp] theorem Chip.bit_levelOff (id : Nat) (loc : Word) (f : Fld) : (c.levelOff id loc).bit f = c.bit f :=
  Chip.bit_congr (c.levelOff_regs id loc) f
@[simp] theorem Chip.grp_levelOn (id : Nat) (loc arg : Word) (g : Nat) : (c.levelOn id loc arg).grp g = c.grp g := by
  rw [Chip.grp, c.levelOn_prt, Chip.grp]
@[simp] theorem Chip.grp_levelOff (id : Nat) (loc : Word) (g : Nat) : (c.levelOff id loc).grp g = c.grp g := by
  rw [Chip.grp, c.levelOff_prt, Chip.grp]

/-! ## The fields of one register -/

/-- Two fields of one register that share no bit. -/
theorem Fld.freeOf_same (a : Nat) {lo w lo' w' : Nat} (hfits : lo + w ≤ 32) (hapart : lo + w ≤ lo' ∨ lo' + w' ≤ lo) :
    (Fld.mk a lo w).freeOf [Fld.mk a lo' w'] = true := by
  simpa [Fld.freeOf, Fld.fits, Fld.apart, hfits] using hapart

theorem Chip.get_put_cut {f : Fld} (hfits : f.fits = true) (v : Nat) : (c.put f v).get f = f.cut v :=
  c.get_put_self f (by simpa [Fld.fits] using hfits) v

theorem Chip.get_put_free {f g : Fld} (hg : g.freeOf [f] = true) (v : Nat) : (c.put f v).get g = c.get g := (c.put_moves f v).get g hg

theorem Chip.bit_put_free {f g : Fld} (hg : g.freeOf [f] = true) (v : Nat) : (c.put f v).bit g = c.bit g := (c.put_moves f v).bit hg

theorem Chip.put_one_bit {f : Fld} (hfits : f.fits = true) (hw : f.width = 1) : (c.put f 1).bit f = true := by
  rw [c.bit_put_self f (by simpa [Fld.fits] using hfits), hw]
  rfl

theorem Chip.setLane_keepsFlds (n : Nat) (l : Lane) : KeepsFlds [F.PRT_LANE_STAT_fill n] c (c.setLane n l) :=
  KeepsFlds.put (c := c) (d := { c with prt := { c.prt with lanes := KMap.set Lane.zero n l c.prt.lanes } }) fun _ _ => rfl

/-! ## The change -/

/-- The fields that a word sets on its way through lane `n`: the lane's fill, its shift, the marks and counts of its slips, and the
alignment that a slip loses. -/
def wordFlds (n : Nat) : List Fld :=
  [F.PRT_LANE_STAT_fill n, F.PRT_LANE_STAT_shift n, F.PRT_LANE_STAT_udr n, F.PRT_LANE_STAT_ovr n, F.PRT_LANE_SLIP_udr_cnt n,
    F.PRT_LANE_SLIP_ovr_cnt n] ++ (List.range 8).map F.PRT_ALIGN_CTRL_lost

/-- What the lane's start and its stop go by. -/
def Lane.plan (l : Lane) : Option Nat × Option Nat × Bool := (l.startAt, l.stopAt, l.trig)

/-- From `c` to `d` nothing of the ports, of the registers and of time changes but lane `n`, its plan apart, and the fields of
`wordFlds`. -/
structure WordMoves (n : Nat) (c d : Chip) : Prop where
  get : KeepsFlds (wordFlds n) c d
  time : d.time = c.time
  other : ∀ m, m ≠ n → d.lane m = c.lane m
  plan : (d.lane n).plan = (c.lane n).plan
  grps : d.prt.grps = c.prt.grps
  aligns : d.prt.aligns = c.prt.aligns

namespace WordMoves

variable {c}
variable {d e : Chip} {n : Nat}

theorem refl (n : Nat) (c : Chip) : WordMoves n c c := ⟨fun _ _ => rfl, rfl, fun _ _ => rfl, rfl, rfl, rfl⟩

theorem trans (h : WordMoves n c d) (k : WordMoves n d e) : WordMoves n c e :=
  ⟨h.get.trans k.get, k.time.trans h.time, fun m hm => (k.other m hm).trans (h.other m hm), k.plan.trans h.plan, k.grps.trans h.grps,
    k.aligns.trans h.aligns⟩

/-- A change beside the ports. -/
theorem aside (h : WordMoves n c d) {l : List Fld} (hk : KeepsFlds l d e) (ht : e.time = d.time) (hp : e.prt = d.prt)
    (hl : l ⊆ wordFlds n) : WordMoves n c e :=
  h.trans ⟨hk.mono hl, ht, fun m _ => Chip.lane_congr hp m, by rw [Chip.lane_congr hp], by rw [hp], by rw [hp]⟩

theorem put (h : WordMoves n c d) {f : Fld} {v : Nat} (hf : f ∈ wordFlds n) : WordMoves n c (d.put f v) :=
  h.aside (KeepsFlds.refl d).put rfl rfl (by simpa using hf)

theorem latch (h : WordMoves n c d) {f : Fld} (hf : f ∈ wordFlds n) : WordMoves n c (d.latch f) :=
  h.aside (KeepsFlds.refl d).latch rfl rfl (by simpa using hf)

theorem bump (h : WordMoves n c d) {f : Fld} (hf : f ∈ wordFlds n) : WordMoves n c (d.bump f) :=
  h.aside (KeepsFlds.refl d).bump rfl rfl (by simpa using hf)

theorem raise (h : WordMoves n c d) {id : Nat} {loc arg : Word} : WordMoves n c (d.raise id loc arg) :=
  h.aside (l := []) (fun _ _ => rfl) rfl rfl (by simp)

theorem setLane (h : WordMoves n c d) {l : Lane} (hl : l.plan = (d.lane n).plan) : WordMoves n c (d.setLane n l) :=
  h.trans ⟨(d.setLane_keepsFlds n l).mono (by simp [wordFlds]), rfl, fun _ hm => d.lane_setLane_ne hm l,
    (congrArg Lane.plan (d.lane_setLane_self n l)).trans hl, rfl, rfl⟩

theorem setLost (h : WordMoves n c d) {a : Nat} : WordMoves n c (d.setLost a) := by
  unfold Chip.setLost
  split
  · exact h
  next ha =>
    exact (h.put (by simp only [wordFlds, List.mem_append, List.mem_map, List.mem_range]; exact .inr ⟨a, by omega, rfl⟩)).raise

theorem foldl {α : Type} {g : Chip → α → Chip} {l : List α} (hg : ∀ x ∈ l, ∀ e, WordMoves n e (g e x)) :
    WordMoves n c (l.foldl g c) :=
  List.foldlRecOn (motive := WordMoves n c) l g (refl n c) fun e he x hx => he.trans (hg x hx e)

end WordMoves

/-! ## Slips (R218, R219) -/

/-- The mark of a slip, and its count. -/
def slipFlag (n : Nat) (under : Bool) : Fld := if under then F.PRT_LANE_STAT_udr n else F.PRT_LANE_STAT_ovr n
def slipCount (n : Nat) (under : Bool) : Fld := if under then F.PRT_LANE_SLIP_udr_cnt n else F.PRT_LANE_SLIP_ovr_cnt n

/-- A slip shifts the lane and is marked; then it is counted. -/
def Chip.slipMarked (n : Nat) (under : Bool) : Chip :=
  (c.put (F.PRT_LANE_STAT_shift n) (c.get (F.PRT_LANE_STAT_shift n) + (if under then 1 else 255))).latch (slipFlag n under)
def Chip.slipCounted (n : Nat) (under : Bool) : Chip := (c.slipMarked n under).bump (slipCount n under)

/-- Has a slip of the kind been reported in the serial frame in progress, and the lane when it has. -/
def Lane.told (l : Lane) (under : Bool) : Bool := if under then l.slipU else l.slipO
def Lane.tell (l : Lane) (under : Bool) : Lane := if under then { l with slipU := true } else { l with slipO := true }

theorem Lane.tell_plan (l : Lane) (under : Bool) : (l.tell under).plan = l.plan := by cases under <;> rfl

theorem Lane.tell_buf (l : Lane) (under : Bool) : (l.tell under).buf = l.buf := by cases under <;> rfl

/-- The first slip of its kind in a serial frame is reported. -/
def Chip.slipTold (n slot : Nat) (under : Bool) : Chip :=
  if (c.lane n).told under then c.slipCounted n under
  else ((c.slipCounted n under).setLane n ((c.lane n).tell under)).raise (if under then Ev.PRT_UNDERRUN else Ev.PRT_OVERRUN)
    (locLane n slot) 0

theorem Chip.slip_eq (n slot : Nat) (under : Bool) : c.slip n slot under =
    (c.slipTold n slot under).setLost ((c.slipTold n slot under).grpAlign ((c.slipTold n slot under).laneGrp n)) := by
  cases under <;> rfl

theorem Chip.slipCounted_moves (n : Nat) (under : Bool) : WordMoves n c (c.slipCounted n under) := by
  have hflag : slipFlag n under ∈ wordFlds n := by cases under <;> simp [slipFlag, wordFlds]
  have hcount : slipCount n under ∈ wordFlds n := by cases under <;> simp [slipCount, wordFlds]
  exact (((WordMoves.refl n c).put (by simp [wordFlds])).latch hflag).bump hcount

theorem Chip.slipTold_moves (n slot : Nat) (under : Bool) : WordMoves n c (c.slipTold n slot under) := by
  unfold Chip.slipTold
  split
  · exact c.slipCounted_moves n under
  · exact ((c.slipCounted_moves n under).setLane (Lane.tell_plan _ under)).raise

theorem Chip.slip_moves (n slot : Nat) (under : Bool) : WordMoves n c (c.slip n slot under) := by
  rw [Chip.slip_eq]
  exact (c.slipTold_moves n slot under).setLost

theorem Chip.lane_setLost (a n : Nat) : (c.setLost a).lane n = c.lane n := by
  unfold Chip.setLost
  split <;> rfl

/-- A slip takes no word from the buffer, nor puts one there. -/
theorem Chip.slip_buf (n slot : Nat) (under : Bool) : ((c.slip n slot under).lane n).buf = (c.lane n).buf := by
  rw [Chip.slip_eq, Chip.lane_setLost]
  unfold Chip.slipTold
  split
  · rfl
  · exact (congrArg Lane.buf (Chip.lane_setLane_self _ n _)).trans (Lane.tell_buf _ under)

/-- The mark of a slip is free of what the slip changes after it. -/
theorem slipFlag_free (n : Nat) (under : Bool) : (slipFlag n under).freeOf
    (List.map F.PRT_ALIGN_CTRL_lost (List.range 8) ++ [F.PRT_LANE_STAT_fill n, slipCount n under]) = true := by
  refine Fld.freeOf_append (Fld.freeOf_of_addr (by cases under <;> rfl) fun f hf => ?_) ?_
  · obtain ⟨a, ha, rfl⟩ := List.mem_map.mp hf
    have haddr : (slipFlag n under).addr = R.PRT_LANE_STAT n := by cases under <;> rfl
    have := List.mem_range.mp ha
    rw [haddr]
    simp only [F.PRT_ALIGN_CTRL_lost, R.PRT_LANE_STAT, R.PRT_ALIGN_CTRL]
    omega
  · cases under <;> simp [slipFlag, slipCount, Fld.freeOf, Fld.fits, Fld.apart, F.PRT_LANE_STAT_udr, F.PRT_LANE_STAT_ovr,
      F.PRT_LANE_STAT_fill, F.PRT_LANE_SLIP_udr_cnt, F.PRT_LANE_SLIP_ovr_cnt, R.PRT_LANE_STAT, R.PRT_LANE_SLIP]

theorem Chip.setLost_keepsFlds (a : Nat) : KeepsFlds ((List.range 8).map F.PRT_ALIGN_CTRL_lost) c (c.setLost a) := by
  unfold Chip.setLost
  split
  · exact fun _ _ => rfl
  next ha =>
    refine KeepsFlds.mono (l := [F.PRT_ALIGN_CTRL_lost a]) ((KeepsFlds.refl c).put.aside rfl) ?_
    exact List.cons_subset.mpr ⟨List.mem_map.mpr ⟨a, List.mem_range.mpr (by omega), rfl⟩, List.nil_subset _⟩

theorem Chip.slipMarked_flag (n : Nat) (under : Bool) : (c.slipMarked n under).bit (slipFlag n under) = true := by
  cases under <;> exact Chip.bit_latch_self _ (by simp [slipFlag, F.PRT_LANE_STAT_udr, F.PRT_LANE_STAT_ovr]) rfl

theorem Chip.slipTold_keepsFlds (n slot : Nat) (under : Bool) :
    KeepsFlds [F.PRT_LANE_STAT_fill n, slipCount n under] (c.slipMarked n under) (c.slipTold n slot under) := by
  have hcount : KeepsFlds [slipCount n under] (c.slipMarked n under) (c.slipCounted n under) := (KeepsFlds.refl _).bump
  unfold Chip.slipTold
  split
  · exact hcount.mono (List.subset_cons_self _ _)
  · exact (hcount.append (Chip.setLane_keepsFlds _ n _)).aside rfl

/-- A slip is marked. -/
theorem Chip.slip_flag (n slot : Nat) (under : Bool) : (c.slip n slot under).bit (slipFlag n under) = true := by
  have hkeeps := fun a => (c.slipTold_keepsFlds n slot under).append ((c.slipTold n slot under).setLost_keepsFlds a)
  rw [Chip.slip_eq]
  exact ((hkeeps _).bit (slipFlag_free n under)).trans (c.slipMarked_flag n under)

/-! ## Words in and out -/

theorem Chip.pushWord_moves (n slot : Nat) (v : Word) : WordMoves n c (c.pushWord n slot v) := by
  unfold Chip.pushWord
  dsimp only
  split
  · exact (WordMoves.refl n c).setLane rfl
  · split
    · exact .refl n c
    · exact c.slip_moves n slot false

theorem Chip.popWord_moves (n slot : Nat) : WordMoves n c (c.popWord n slot).2 := by
  unfold Chip.popWord
  dsimp only
  split
  · exact c.slip_moves n slot true
  · exact (WordMoves.refl n c).setLane rfl

theorem Chip.popSlots_moves (n : Nat) (l : List Nat) : ∀ c : Chip, WordMoves n c (c.popSlots n l).2 := by
  induction l with
  | nil => exact .refl n
  | cons s r ih => exact fun c => (c.popWord_moves n s).trans (ih _)

theorem Chip.inputSide_moves (n : Nat) : WordMoves n c (c.inputSide n) := by
  have hrefl := WordMoves.refl n c
  unfold Chip.inputSide
  dsimp only
  split
  · exact hrefl.setLane rfl
  · split
    · exact (c.popSlots_moves n _).setLane rfl
    · split
      · exact hrefl.setLane rfl
      · exact hrefl.setLane rfl

theorem Lane.foldl_record_plan (l : Lane) (t : Int) (slots : List Nat) (w : Lane → Nat → Word) :
    (slots.foldl (fun l s => l.record s t (w l s)) l).plan = l.plan :=
  List.foldlRecOn (motive := fun k : Lane => k.plan = l.plan) slots _ rfl fun _ hk _ _ => hk

theorem Chip.outputSide_moves (n : Nat) : WordMoves n c (c.outputSide n) := by
  have hrefl := WordMoves.refl n c
  unfold Chip.outputSide
  dsimp only
  split
  · exact hrefl
  · split
    · exact hrefl.setLane (Lane.foldl_record_plan _ _ _ fun l s => KMap.get 0 s l.side)
    · split
      · exact hrefl.setLane rfl
      · exact .foldl fun s _ e => e.pushWord_moves n s _

theorem Chip.serialFrame_moves (n : Nat) : WordMoves n c (c.serialFrame n) := (WordMoves.refl n c).setLane rfl

end Sys2Proof.Machine
end

section
/-! PROOFS. The rows of clock groups: halts and releases, frame starts, the loss of a clock and a converter's lock (R211, R213, R214,
R222). -/

-- One theorem at a time: many at once, each with a thread of its own, do not fit in memory.
set_option Elab.async false

namespace Sys2Proof.Machine

variable (c : Chip)

/-! ## What stays in a change of a group -/

theorem ClockMoves.prt {l : List Fld} {d : Chip} (h : ClockMoves l c d) : d.prt = c.prt :=
  (congrArg Chip.prt h.rest :)

theorem SamePlan.aside {c d e : Chip} (h : SamePlan c d) (ht : e.time = d.time) (hf : e.fold = d.fold) (hr : e.regs = d.regs) :
    SamePlan c e := h.trans (.of_regs ht hf hr)

theorem SamePlan.putPrt {c d : Chip} (h : SamePlan c d) {f : Fld} (hf : inPrt f.addr) {v : Nat} : SamePlan c (d.put f v) := by
  obtain ⟨hlo, hhi⟩ := hf
  exact h.trans (.put d (by simp only [R.PWR_STAT]; omega) (by simp only [R.FOLD_STAT]; omega) v)

theorem SamePlan.framePeriod {c d : Chip} (h : SamePlan c d) : d.framePeriod = c.framePeriod := by
  rw [Chip.framePeriod, h.frameTicks, Chip.framePeriod]

theorem SamePlan.now {c d : Chip} (h : SamePlan c d) : d.now = c.now := by rw [Chip.now, h.time, Chip.now]

theorem SamePlan.sinceBoundary {c d : Chip} (h : SamePlan c d) : d.sinceBoundary = c.sinceBoundary := by
  rw [Chip.sinceBoundary, h.now, h.framePeriod, h.sameFrame.ends, Chip.sinceBoundary]

/-! ## Halts and releases (R211) -/

theorem ofB_mask_halt (g : Nat) : (F.PRT_GRP_CTRL_halt g).ofB (F.PRT_GRP_CTRL_halt g).mask = true := by
  simp [Fld.ofB, Fld.of, Fld.mask, F.PRT_GRP_CTRL_halt]

theorem ofB_zero_halt (g : Nat) : (F.PRT_GRP_CTRL_halt g).ofB 0 = false := by simp [Fld.ofB, Fld.of]

/-! ## The loss of a clock (R214), and of a converter's lock (R222) -/

theorem Chip.asrcUnlock_keepsFlds (g : Nat) : KeepsFlds [F.PRT_GRP_STAT_asrc_lock g] c (c.asrcUnlock g) := by
  unfold Chip.asrcUnlock
  split
  · exact (KeepsFlds.refl c).put.aside rfl
  · exact fun _ _ => rfl

theorem Chip.asrcUnlock_prt (g : Nat) : (c.asrcUnlock g).prt = c.prt := by
  unfold Chip.asrcUnlock
  split <;> rfl

theorem Chip.asrcUnlock_lock (g : Nat) : (c.asrcUnlock g).bit (F.PRT_GRP_STAT_asrc_lock g) = false := by
  unfold Chip.asrcUnlock
  split
  · exact c.put_zero_bit rfl
  next h => exact Bool.eq_false_iff.mpr h

theorem SamePlan.asrcUnlock {c d : Chip} (h : SamePlan c d) {g : Nat} (hg : g < 8) : SamePlan c (d.asrcUnlock g) := by
  unfold Chip.asrcUnlock
  split
  · exact (h.putPrt (inPrt_grpStat hg)).aside rfl rfl rfl
  · exact h

/-- A group whose clock is lost. -/
def Grp.clockLost (x : Grp) : Grp := { x with seen := false, good := 0, starts := [], ratios := [], lossAt := none }

/-- A group's clock is lost, its converter's lock apart. -/
def Chip.clockLostAt (g : Nat) : Chip :=
  (((c.setGrp g (c.grp g).clockLost).put (F.PRT_GRP_STAT_clk_ok g) 0).latch (F.PRT_GRP_STAT_clk_loss g)).levelOn Ev.PRT_CLK_LOSS
    (locGroup g) 0

theorem Chip.loseClock_eq (g : Nat) : c.loseClock g = (c.clockLostAt g).asrcUnlock g := rfl

theorem Chip.loseClock_grp (g : Nat) : (c.loseClock g).grp g = (c.grp g).clockLost := by
  rw [Chip.loseClock_eq, Chip.grp_congr (congrArg PrtSt.grps (Chip.asrcUnlock_prt _ g)), Chip.clockLostAt, Chip.grp_levelOn]
  exact c.grp_setGrp_self g _

theorem Chip.loseClock_clkOk (g : Nat) : (c.loseClock g).bit (F.PRT_GRP_STAT_clk_ok g) = false := by
  rw [Chip.loseClock_eq, (Chip.asrcUnlock_keepsFlds _ g).bit (g := F.PRT_GRP_STAT_clk_ok g) (Fld.freeOf_same _ (by decide) (by decide)),
    Chip.clockLostAt, Chip.bit_levelOn]
  exact ((Chip.latch_moves _ _).bit (Fld.freeOf_same _ (by decide) (by decide))).trans (Chip.put_zero_bit _ rfl)

theorem Chip.loseClock_clkLoss (g : Nat) : (c.loseClock g).bit (F.PRT_GRP_STAT_clk_loss g) = true := by
  rw [Chip.loseClock_eq, (Chip.asrcUnlock_keepsFlds _ g).bit (g := F.PRT_GRP_STAT_clk_loss g) (Fld.freeOf_same _ (by decide) (by decide)),
    Chip.clockLostAt, Chip.bit_levelOn]
  exact Chip.bit_latch_self _ (by simp [F.PRT_GRP_STAT_clk_loss]) rfl

theorem SamePlan.loseClock {c d : Chip} (h : SamePlan c d) {g : Nat} (hg : g < 8) : SamePlan c (d.loseClock g) := by
  have hstat := inPrt_grpStat hg
  have hset : SamePlan c (d.setGrp g (d.grp g).clockLost) := h.aside rfl rfl rfl
  have hlost : SamePlan c (d.clockLostAt g) :=
    ((hset.putPrt hstat).putPrt (f := F.PRT_GRP_STAT_clk_loss g) hstat).aside (by simp [Chip.clockLostAt])
      (by simp [Chip.clockLostAt]) (Chip.levelOn_regs _ _ _ _)
  exact hlost.asrcUnlock hg

theorem Chip.loseClock_keepsFlds (g : Nat) : KeepsFlds [F.PRT_GRP_STAT_asrc_lock g, F.PRT_GRP_STAT_clk_loss g, F.PRT_GRP_STAT_clk_ok g] c
    (c.loseClock g) := by
  have hset : KeepsFlds [] c (c.setGrp g (c.grp g).clockLost) := fun _ _ => rfl
  exact (hset.put.latch.aside (Chip.levelOn_regs _ _ _ _)).append (Chip.asrcUnlock_keepsFlds _ g)

/-! ## Frame starts (R213, R214, R221, R222) -/

/-- The group after a frame start that is judged. -/
def Grp.judged (x : Grp) (hit : Bool) : Grp :=
  if !x.seen then { x with seen := true, good := 0 } else { x with good := if hit then x.good + 1 else 0 }

/-- Does a frame start stand where the fold predicts it? -/
def Chip.frameHit (g bits : Nat) : Bool := decide (bits = c.grpSlots g * c.grpWidth g)

theorem Chip.judgeFrame_grp (g bits : Nat) : (c.judgeFrame g bits).grp g = (c.grp g).judged (c.frameHit g bits) := by
  unfold Chip.judgeFrame Grp.judged Chip.frameHit
  dsimp only
  split
  · exact c.grp_setGrp_self g _
  · split
    next h =>
      simp only [h, decide_true, if_true]
      split
      · exact (Chip.grp_levelOff _ _ _ g).trans (c.grp_setGrp_self g _)
      · exact c.grp_setGrp_self g _
    next h =>
      simp only [h, decide_false, Bool.false_eq_true, if_false]
      exact c.grp_setGrp_self g _

/-- The fields that a frame start that is judged sets. -/
def judgeFlds (g : Nat) : List Fld := [F.PRT_GRP_FERR_count g, F.PRT_GRP_STAT_fsy_err g, F.PRT_GRP_STAT_clk_ok g]

theorem Chip.judgeFrame_keepsFlds (g bits : Nat) : KeepsFlds (judgeFlds g) c (c.judgeFrame g bits) := by
  have hset : ∀ x, KeepsFlds [] c (c.setGrp g x) := fun _ _ _ => rfl
  unfold Chip.judgeFrame
  dsimp only
  split
  · exact (hset _).mono (List.nil_subset _)
  · split
    · split
      · exact ((hset _).put.aside (Chip.levelOff_regs _ _ _)).mono (by simp [judgeFlds])
      · exact (hset _).mono (List.nil_subset _)
    · exact ((hset _).latch.bump.aside rfl).mono (by simp [judgeFlds])

theorem Chip.judgeFrame_unseen {g : Nat} (bits : Nat) (h : (c.grp g).seen = false) : (c.judgeFrame g bits).regs = c.regs := by
  simp only [Chip.judgeFrame, h, Bool.not_false, if_true]
  rfl

theorem Chip.judgeFrame_clkOk {g bits : Nat} (hseen : (c.grp g).seen = true) (hhit : bits = c.grpSlots g * c.grpWidth g)
    (hgood : 1 ≤ (c.grp g).good) : (c.judgeFrame g bits).bit (F.PRT_GRP_STAT_clk_ok g) = true := by
  have htwo : 2 ≤ (c.grp g).good + 1 := by omega
  simp only [Chip.judgeFrame, hseen, ← hhit, htwo, Bool.not_true, Bool.false_eq_true, if_false, if_true]
  exact (Chip.bit_levelOff _ _ _ _).trans (Chip.put_one_bit _ rfl rfl)

theorem Chip.judgeFrame_fsyErr {g bits : Nat} (hseen : (c.grp g).seen = true) (hmiss : ¬ bits = c.grpSlots g * c.grpWidth g) :
    (c.judgeFrame g bits).bit (F.PRT_GRP_STAT_fsy_err g) = true := by
  simp only [Chip.judgeFrame, hseen, hmiss, Bool.not_true, Bool.false_eq_true, if_false]
  refine (Chip.bit_raise _ _ _ _ _).trans (((KeepsFlds.refl _).bump.bit ?_).trans (Chip.bit_latch_self _ ?_ rfl))
  all_goals simp [Fld.freeOf, Fld.fits, Fld.apart, F.PRT_GRP_STAT_fsy_err, F.PRT_GRP_FERR_count, R.PRT_GRP_STAT, R.PRT_GRP_FERR]

theorem Chip.measure_keepsFlds (g : Nat) : KeepsFlds [Fld.whole (R.PRT_GRP_RATIO g)] c (c.measure g) := by
  unfold Chip.measure
  dsimp only
  split
  · split
    · exact fun _ _ => rfl
    · exact KeepsFlds.wr (l := []) fun _ _ => rfl
  · exact fun _ _ => rfl

theorem Chip.grp_wr (a : Nat) (v : Word) (g : Nat) : (c.wr a v).grp g = c.grp g := rfl

theorem Chip.measure_grp (g : Nat) : ∃ l, (c.measure g).grp g = { c.grp g with ratios := l } := by
  unfold Chip.measure
  dsimp only
  split
  · split
    · exact ⟨_, rfl⟩
    · exact ⟨_, (Chip.grp_wr _ _ _ g).trans (c.grp_setGrp_self g _)⟩
  · exact ⟨_, rfl⟩

end Sys2Proof.Machine
end

section
/-! PROOFS. The rows of clock groups have their effects: halts and releases, frame starts, the loss of a clock and a converter's lock
(R211, R213, R214, R222). -/

-- One theorem at a time: many at once, each with a thread of its own, do not fit in memory.
set_option Elab.async false

namespace Sys2Proof.Machine

variable (c : Chip)

/-! ## Frame starts on the lanes -/

/-- The fields that say how a clock group stands. -/
def grpFlds (g : Nat) : List Fld :=
  [F.PRT_GRP_STAT_halted g, F.PRT_GRP_STAT_clk_loss g, F.PRT_GRP_STAT_fsy_err g, F.PRT_GRP_STAT_clk_ok g, F.PRT_GRP_PHASE_phase g]

theorem grpFlds_free_words : ∀ (g : Fin 8) (n : Fin 32), ∀ f ∈ grpFlds g.val, f.freeOf (wordFlds n.val) = true := by decide +kernel

theorem grpFlds_free_ratio : ∀ g : Fin 8, ∀ f ∈ grpFlds g.val, f.freeOf [Fld.whole (R.PRT_GRP_RATIO g.val)] = true := by
  decide +kernel

/-- What follows the judgement of a frame start: the rate is measured, and the serial frame starts on the group's lanes. -/
def Chip.frameBegun (g : Nat) : Chip := ((c.measure g).lanesOf g).foldl Chip.serialFrame (c.measure g)

theorem Chip.lanesOf_lt {g n : Nat} (h : n ∈ c.lanesOf g) : n < 32 := List.mem_range.mp (List.mem_filter.mp h).1

theorem Chip.frameBegun_get (g : Fin 8) {f : Fld} (hf : f ∈ grpFlds g.val) : (c.frameBegun g.val).get f = c.get f := by
  have hmeasure := c.measure_keepsFlds g.val f (grpFlds_free_ratio g f hf)
  refine List.foldlRecOn (motive := fun e : Chip => e.get f = c.get f) _ _ hmeasure fun e he n hn => ?_
  exact ((e.serialFrame_moves n).get f (grpFlds_free_words g ⟨n, Chip.lanesOf_lt _ hn⟩ f hf)).trans he

theorem Chip.frameBegun_bit (g : Fin 8) {f : Fld} (hf : f ∈ grpFlds g.val) : (c.frameBegun g.val).bit f = c.bit f := by
  simp only [Chip.bit, c.frameBegun_get g hf]

theorem Chip.frameBegun_grp (g : Nat) : ∃ l, (c.frameBegun g).grp g = { c.grp g with ratios := l } := by
  obtain ⟨l, hl⟩ := c.measure_grp g
  refine ⟨l, Eq.trans (Chip.grp_congr ?_ g) hl⟩
  exact List.foldlRecOn (motive := fun e : Chip => e.prt.grps = (c.measure g).prt.grps) _ _ rfl fun e he n _ =>
    (e.serialFrame_moves n).grps.trans he

/-- Where a slave's frame start stands, `phase` root cycles after the frame boundary; and the clock lost before it. -/
def Chip.frameAt (phase : Nat) : Chip := if phase < c.framePeriod then c.advanceTo (c.now - c.sinceBoundary + phase) else c
def Chip.lostBefore (g : Nat) : Chip := if dueAt c.now (c.grp g).lossAt then c.loseClock g else c

/-- The group and its phase at a frame start. -/
def Grp.noted (x : Grp) (now : Nat) : Grp := { x with starts := (Int.ofNat now :: x.starts).take 17, lossAt := some (now + clockWait) }
def Chip.frameNoted (g : Nat) : Chip :=
  (c.setGrp g ((c.grp g).noted c.now)).put (F.PRT_GRP_PHASE_phase g) c.sinceBoundary

/-- A frame start whose clock was not lost before it. -/
def Chip.frameTaken (g bits : Nat) : Chip := ((c.frameNoted g).judgeFrame g bits).frameBegun g

theorem Chip.frameStart_eq {g : Nat} (bits phase : Nat) (hen : c.grpEn g = true) (hslave : c.grpMaster g = false)
    (hhalt : c.halted g = false) :
    c.frameStart g bits phase = ((c.frameAt phase).lostBefore g).frameTaken g bits := by
  simp only [Chip.frameStart, hen, hslave, hhalt, Bool.not_true, Bool.false_or, Bool.false_eq_true, if_false]
  rfl

theorem Chip.frameAt_prt (phase : Nat) : (c.frameAt phase).prt = c.prt := by
  unfold Chip.frameAt
  split
  · exact c.advanceTo_prt _
  · rfl

theorem Chip.frameAt_get (phase : Nat) {f : Fld} (hf : f.freeOf [Fld.whole R.PWR_TMR] = true) : (c.frameAt phase).get f = c.get f := by
  unfold Chip.frameAt
  split
  · exact (c.advanceTo_moves _).get f hf
  · rfl

theorem SamePlan.lostBefore {g : Nat} (hg : g < 8) : SamePlan c (c.lostBefore g) := by
  have hrefl : SamePlan c c := .of_regs rfl rfl rfl
  unfold Chip.lostBefore
  split
  · exact hrefl.loseClock hg
  · exact hrefl

theorem Chip.frameNoted_grp (g : Nat) : (c.frameNoted g).grp g = (c.grp g).noted c.now := c.grp_setGrp_self g _

theorem Chip.frameNoted_keepsFlds (g : Nat) : KeepsFlds [F.PRT_GRP_PHASE_phase g] c (c.frameNoted g) :=
  KeepsFlds.put (l := []) (d := c.setGrp g ((c.grp g).noted c.now)) fun _ _ => rfl

theorem Chip.frameNoted_phase (g : Nat) :
    (c.frameNoted g).get (F.PRT_GRP_PHASE_phase g) = (F.PRT_GRP_PHASE_phase g).cut c.sinceBoundary :=
  Chip.get_put_cut _ rfl _

/-- The slots and the width of a group, which no frame start changes. -/
theorem cfg_free : ∀ g : Fin 8, ∀ f ∈ [F.PRT_GRP_CFG_slots g.val, F.PRT_GRP_CFG_width g.val],
    f.freeOf [Fld.whole R.PWR_TMR] = true ∧ f.freeOf [F.PRT_GRP_PHASE_phase g.val] = true ∧
    f.freeOf [F.PRT_GRP_STAT_asrc_lock g.val, F.PRT_GRP_STAT_clk_loss g.val, F.PRT_GRP_STAT_clk_ok g.val] = true := by decide +kernel

theorem Chip.lostBefore_keepsFlds (g : Nat) : KeepsFlds [F.PRT_GRP_STAT_asrc_lock g, F.PRT_GRP_STAT_clk_loss g, F.PRT_GRP_STAT_clk_ok g] c
    (c.lostBefore g) := by
  unfold Chip.lostBefore
  split
  · exact c.loseClock_keepsFlds g
  · exact fun _ _ => rfl

/-- Slots and width at the judgement are those at the row. -/
theorem Chip.frameNoted_cfg (g : Fin 8) (phase : Nat) {f : Fld} (hf : f ∈ [F.PRT_GRP_CFG_slots g.val, F.PRT_GRP_CFG_width g.val]) :
    (((c.frameAt phase).lostBefore g.val).frameNoted g.val).get f = c.get f := by
  obtain ⟨htime, hphase, hlost⟩ := cfg_free g f hf
  rw [Chip.frameNoted_keepsFlds _ _ f hphase, Chip.lostBefore_keepsFlds _ _ f hlost, c.frameAt_get phase htime]

/-! ## What a frame start shows -/

theorem Grp.judged_starts (x : Grp) (hit : Bool) : (x.judged hit).starts = x.starts := by
  unfold Grp.judged
  split <;> rfl

theorem Grp.judged_lossAt (x : Grp) (hit : Bool) : (x.judged hit).lossAt = x.lossAt := by
  unfold Grp.judged
  split <;> rfl

section

variable (g : Fin 8) (bits : Nat)

theorem Chip.frameTaken_grp : ∃ l, (c.frameTaken g.val bits).grp g.val =
    { ((c.grp g.val).noted c.now).judged ((c.frameNoted g.val).frameHit g.val bits) with ratios := l } := by
  obtain ⟨l, hl⟩ := ((c.frameNoted g.val).judgeFrame g.val bits).frameBegun_grp g.val
  rw [Chip.judgeFrame_grp, Chip.frameNoted_grp] at hl
  exact ⟨l, hl⟩

theorem Chip.frameTaken_starts : ((c.frameTaken g.val bits).grp g.val).starts.head? = some (Int.ofNat c.now) := by
  obtain ⟨l, hl⟩ := c.frameTaken_grp g bits
  rw [hl]
  exact congrArg List.head? (Grp.judged_starts _ _)

theorem Chip.frameTaken_lossAt : ((c.frameTaken g.val bits).grp g.val).lossAt = some (c.now + clockWait) := by
  obtain ⟨l, hl⟩ := c.frameTaken_grp g bits
  rw [hl]
  exact Grp.judged_lossAt _ _

theorem Chip.frameTaken_phase :
    (c.frameTaken g.val bits).get (F.PRT_GRP_PHASE_phase g.val) = (F.PRT_GRP_PHASE_phase g.val).cut c.sinceBoundary := by
  have hfree : (F.PRT_GRP_PHASE_phase g.val).freeOf (judgeFlds g.val) = true := by revert g; decide +kernel
  rw [Chip.frameTaken, Chip.frameBegun_get _ g (by simp [grpFlds]), Chip.judgeFrame_keepsFlds _ _ _ _ hfree]
  exact c.frameNoted_phase g.val

theorem Chip.frameNoted_bit {f : Fld} (hf : f.addr = R.PRT_GRP_STAT g.val) : (c.frameNoted g.val).bit f = c.bit f :=
  Chip.bit_put_ne _ (by rw [hf]; simp only [F.PRT_GRP_PHASE_phase, R.PRT_GRP_STAT, R.PRT_GRP_PHASE]; omega) _

variable {g bits}

theorem Chip.frameTaken_unseen (h : (c.grp g.val).seen = false) :
    ((c.frameTaken g.val bits).grp g.val).seen = true ∧ ((c.frameTaken g.val bits).grp g.val).good = 0 := by
  obtain ⟨l, hl⟩ := c.frameTaken_grp g bits
  have hnoted : ((c.grp g.val).noted c.now).seen = false := h
  rw [hl, Grp.judged, hnoted]
  exact ⟨rfl, rfl⟩

theorem Chip.frameTaken_unseen_bit (h : (c.grp g.val).seen = false) {f : Fld} (hf : f ∈ grpFlds g.val)
    (haddr : f.addr = R.PRT_GRP_STAT g.val) : (c.frameTaken g.val bits).bit f = c.bit f := by
  have hnoted : ((c.frameNoted g.val).grp g.val).seen = false := by rw [Chip.frameNoted_grp]; exact h
  rw [Chip.frameTaken, Chip.frameBegun_bit _ g hf, Chip.bit_congr (Chip.judgeFrame_unseen _ bits hnoted), c.frameNoted_bit g haddr]

variable (h : (c.grp g.val).seen = true)

include h

theorem Chip.frameNoted_seen : ((c.frameNoted g.val).grp g.val).seen = true := by
  rw [Chip.frameNoted_grp]
  exact h

theorem Chip.frameTaken_good :
    ((c.frameTaken g.val bits).grp g.val).good = if (c.frameNoted g.val).frameHit g.val bits then (c.grp g.val).good + 1 else 0 := by
  obtain ⟨l, hl⟩ := c.frameTaken_grp g bits
  have hnoted : ((c.grp g.val).noted c.now).seen = true := h
  rw [hl, Grp.judged, hnoted]
  rfl

theorem Chip.frameTaken_clkOk (hhit : bits = (c.frameNoted g.val).grpSlots g.val * (c.frameNoted g.val).grpWidth g.val)
    (hgood : 1 ≤ (c.grp g.val).good) : (c.frameTaken g.val bits).bit (F.PRT_GRP_STAT_clk_ok g.val) = true := by
  rw [Chip.frameTaken, Chip.frameBegun_bit _ g (by simp [grpFlds])]
  exact Chip.judgeFrame_clkOk _ (c.frameNoted_seen h) hhit (by rw [Chip.frameNoted_grp]; exact hgood)

theorem Chip.frameTaken_fsyErr (hmiss : ¬ bits = (c.frameNoted g.val).grpSlots g.val * (c.frameNoted g.val).grpWidth g.val) :
    (c.frameTaken g.val bits).bit (F.PRT_GRP_STAT_fsy_err g.val) = true := by
  rw [Chip.frameTaken, Chip.frameBegun_bit _ g (by simp [grpFlds])]
  exact Chip.judgeFrame_fsyErr _ (c.frameNoted_seen h) hmiss

end

/-- What a slave's frame start shows: a clock lost before it is lost, the first one begins the search, and each later one is at the
count predicted or is an error of FSY. -/
theorem Chip.frameTaken_shows {g : Fin 8} {bits predicted : Nat}
    (hcfg : ((c.lostBefore g.val).frameNoted g.val).grpSlots g.val * ((c.lostBefore g.val).frameNoted g.val).grpWidth g.val = predicted) :
    let d := (c.lostBefore g.val).frameTaken g.val bits
    let x := c.grp g.val
    if x.seen = false ∨ dueAt c.now x.lossAt = true then
      (d.grp g.val).seen = true ∧ (d.grp g.val).good = 0 ∧ (dueAt c.now x.lossAt = true →
        d.bit (F.PRT_GRP_STAT_clk_ok g.val) = false ∧ d.bit (F.PRT_GRP_STAT_clk_loss g.val) = true)
    else if bits = predicted then
      (d.grp g.val).good = x.good + 1 ∧ (1 ≤ x.good → d.bit (F.PRT_GRP_STAT_clk_ok g.val) = true)
    else (d.grp g.val).good = 0 ∧ d.bit (F.PRT_GRP_STAT_fsy_err g.val) = true := by
  subst hcfg
  intro d x
  by_cases hlost : dueAt c.now x.lossAt = true
  · have hcb : c.lostBefore g.val = c.loseClock g.val := if_pos hlost
    have hunseen : ((c.lostBefore g.val).grp g.val).seen = false := by rw [hcb, Chip.loseClock_grp]; rfl
    obtain ⟨hseen, hgood⟩ := (c.lostBefore g.val).frameTaken_unseen hunseen (bits := bits)
    have hbit := fun f => (c.lostBefore g.val).frameTaken_unseen_bit hunseen (bits := bits) (f := f)
    rw [if_pos (.inr hlost)]
    refine ⟨hseen, hgood, fun _ => ⟨?_, ?_⟩⟩
    · rw [hbit _ (by simp [grpFlds]) rfl, hcb, Chip.loseClock_clkOk]
    · rw [hbit _ (by simp [grpFlds]) rfl, hcb, Chip.loseClock_clkLoss]
  · have hcb : c.lostBefore g.val = c := if_neg hlost
    by_cases hseen : x.seen = true
    · rw [if_neg (by simp [hseen, hlost])]
      have hgood := (c.lostBefore g.val).frameTaken_good (bits := bits) (by rw [hcb]; exact hseen)
      split
      next hhit =>
        refine ⟨hgood.trans ?_, fun hone => Chip.frameTaken_clkOk _ (by rw [hcb]; exact hseen) hhit (by rw [hcb]; exact hone)⟩
        rw [Chip.frameHit, ← hhit, decide_eq_true rfl, if_pos rfl, hcb]
      next hmiss =>
        refine ⟨hgood.trans ?_, Chip.frameTaken_fsyErr _ (by rw [hcb]; exact hseen) hmiss⟩
        rw [Chip.frameHit, decide_eq_false hmiss]
        rfl
    · have hunseen := Bool.eq_false_iff.mpr hseen
      obtain ⟨hd, hgood⟩ := (c.lostBefore g.val).frameTaken_unseen (by rw [hcb]; exact hunseen) (bits := bits)
      rw [if_pos (.inl hunseen)]
      exact ⟨hd, hgood, fun hl => absurd hl hlost⟩

end Sys2Proof.Machine

namespace Sys2Proof

open Sys2Proof.Machine

section

variable {c : Chip} {r : Req} {g : BitVec 3}

theorem groupHalt_effect (h : portReady c (.groupHalt r g) = true) :
    accepts c r (R.PRT_GRP_CTRL g.toNat) = true ∧
      portEffect c (c.writeHalt g.toNat (F.PRT_GRP_CTRL_halt g.toNat).mask) (.groupHalt r g) := by
  simp only [portReady, Bool.and_eq_true, Bool.not_eq_true'] at h
  obtain ⟨⟨⟨hacc, hoff⟩, hbit⟩, hgo⟩ := h
  refine ⟨hacc, ?_⟩
  simp only [portEffect, Chip.writeHalt, ofB_mask_halt, hoff, hbit]
  by_cases hrel : (c.grp g.toNat).relAt.isSome = true
  · simp only [hrel, if_true]
    exact ⟨Chip.put_one_bit _ rfl rfl, by simp⟩
  · rw [Bool.or_eq_true, or_iff_right hrel] at hgo
    simp only [hrel, hgo, if_true]
    exact ⟨Chip.put_one_bit _ rfl rfl, by simp⟩

theorem groupRelease_effect (h : portReady c (.groupRelease r g) = true) :
    accepts c r (R.PRT_GRP_CTRL g.toNat) = true ∧ portEffect c (c.writeHalt g.toNat 0) (.groupRelease r g) := by
  simp only [portReady, Bool.and_eq_true, Bool.not_eq_true'] at h
  obtain ⟨⟨hacc, hoff⟩, hbit⟩ := h
  refine ⟨hacc, ?_⟩
  simp only [portEffect, Chip.writeHalt, ofB_zero_halt, hoff, hbit]
  by_cases hhalt : (c.grp g.toNat).haltAt.isSome = true
  · simp only [hhalt, if_true]
    exact ⟨c.put_zero_bit rfl, by simp⟩
  · simp only [hhalt]
    exact ⟨c.put_zero_bit rfl, by simp⟩

theorem groupHaltEffect_effect (h : portReady c (.groupHaltEffect g) = true) :
    portEffect c (c.haltEffect g.toNat) (.groupHaltEffect g) := by
  simp only [portReady, Bool.and_eq_true] at h
  obtain ⟨hb, hdue⟩ := h
  simp only [portEffect, Chip.haltEffect, hb, hdue, Chip.halted, Bool.not_true, Bool.or_self, Bool.false_eq_true, if_false,
    Chip.bit_levelOff, Chip.grp_levelOff, Chip.grp_put, Chip.grp_setGrp_self]
  refine ⟨(Chip.bit_put_free _ (Fld.freeOf_same _ (by decide) (by decide)) 0).trans (Chip.put_one_bit _ rfl rfl),
    Chip.put_zero_bit _ rfl, trivial⟩

theorem groupReleaseEffect_effect (h : portReady c (.groupReleaseEffect g) = true) :
    portEffect c (c.releaseEffect g.toNat) (.groupReleaseEffect g) := by
  simp only [portReady, Bool.and_eq_true] at h
  obtain ⟨hb, hdue⟩ := h
  simp only [portEffect, Chip.releaseEffect, hb, hdue, Chip.halted, Bool.not_true, Bool.or_self, Bool.false_eq_true, if_false]
  by_cases hrun : (c.grpEn g.toNat && c.grpMaster g.toNat) = true
  · simp only [hrun, if_true, Chip.grp_put, Chip.grp_setGrp_self]
    exact ⟨(Chip.bit_put_free _ (Fld.freeOf_same _ (by decide) (by decide)) 1).trans (Chip.put_zero_bit _ rfl), trivial,
      fun _ _ => Chip.put_one_bit _ rfl rfl⟩
  · simp only [hrun]
    exact ⟨Chip.put_zero_bit _ rfl, by simp, fun hen hmaster => absurd (by simp [hen, hmaster]) hrun⟩

theorem frameStart_effect {bits : Nat} {phase : Word16} (h : portReady c (.frameStart g bits phase) = true) :
    portEffect c (c.frameStart g.toNat bits phase.toNat) (.frameStart g bits phase) := by
  simp only [portReady, Bool.and_eq_true, Bool.not_eq_true'] at h
  obtain ⟨⟨hen, hslave⟩, hhalt⟩ := h
  obtain ⟨gf, hgf⟩ : ∃ gf : Fin 8, gf.val = g.toNat := ⟨⟨g.toNat, g.isLt⟩, rfl⟩
  have hgrp : (c.frameAt phase.toNat).grp gf.val = c.grp gf.val := Chip.grp_congr (congrArg PrtSt.grps (c.frameAt_prt _)) _
  have hplan := SamePlan.lostBefore (c.frameAt phase.toNat) gf.isLt
  have hslots := c.frameNoted_cfg gf phase.toNat (f := F.PRT_GRP_CFG_slots gf.val) (by simp)
  have hwidth := c.frameNoted_cfg gf phase.toNat (f := F.PRT_GRP_CFG_width gf.val) (by simp)
  have hshows := (c.frameAt phase.toNat).frameTaken_shows (bits := bits) (congrArg₂ (· * ·) hslots hwidth)
  have hca : (if phase.toNat < c.framePeriod then c.advanceTo (c.now - c.sinceBoundary + phase.toNat) else c) =
    c.frameAt phase.toNat := rfl
  rw [hgrp] at hshows
  rw [c.frameStart_eq bits phase.toNat hen hslave hhalt, portEffect, hca, ← hgf, Chip.frameTaken_phase, Chip.frameTaken_starts,
    Chip.frameTaken_lossAt, hplan.sinceBoundary, hplan.now]
  exact ⟨rfl, rfl, rfl, hshows⟩

theorem slaveClockLoss_effect (h : portReady c (.slaveClockLoss g) = true) :
    portEffect c (c.clockLoss g.toNat) (.slaveClockLoss g) := by
  simp only [portReady, Bool.and_eq_true, Bool.not_eq_true'] at h
  obtain ⟨⟨⟨hen, hslave⟩, hhalt⟩, hdue⟩ := h
  simp only [portEffect, Chip.clockLoss, hen, hslave, hhalt, hdue, Bool.not_true, Bool.or_self, Bool.false_eq_true, if_false]
  exact ⟨Chip.loseClock_clkOk _ _, Chip.loseClock_clkLoss _ _, Chip.asrcUnlock_lock _ _, congrArg Grp.seen (Chip.loseClock_grp _ _),
    congrArg Grp.lossAt (Chip.loseClock_grp _ _)⟩

theorem asrcLockChange_effect {locked : Bool} {ratio : Word} (h : portReady c (.asrcLockChange g locked ratio) = true) :
    portEffect c (c.asrcLock g.toNat locked ratio) (.asrcLockChange g locked ratio) := by
  simp only [portReady, Bool.and_eq_true, decide_eq_true_eq] at h
  obtain ⟨⟨⟨hen, hasrc⟩, hratio⟩, hlock⟩ := h
  cases locked with
  | true =>
    simp only [if_true, Bool.and_eq_true, Bool.not_eq_true'] at hlock
    obtain ⟨⟨hnone, hhalt⟩, hsteady⟩ := hlock
    have hgain : c.asrcLock g.toNat true ratio =
        (c.put (F.PRT_GRP_STAT_asrc_lock g.toNat) 1).raise Ev.PRT_ASRC_LOCK (locGroup g.toNat) 0 := by
      simp [Chip.asrcLock, hen, hasrc, hratio, hnone, hhalt, hsteady]
    rw [portEffect, hgain, Chip.bit_raise]
    exact Chip.put_one_bit _ rfl rfl
  | false =>
    simp only [Bool.false_eq_true, if_false, Bool.and_eq_true, Bool.or_eq_true] at hlock
    obtain ⟨hheld, hmoved⟩ := hlock
    have hlose : ∃ d : Chip, c.asrcLock g.toNat false ratio = d.asrcUnlock g.toNat := by
      by_cases hmove : movedRatio (c.grp g.toNat).ratios = true
      · exact ⟨c, by simp [Chip.asrcLock, hen, hasrc, hratio, hheld, hmove]⟩
      · have hdue := hmoved.resolve_left hmove
        by_cases hhalt : c.halted g.toNat = true
        · exact ⟨c.toLoss g.toNat, by simp [Chip.asrcLock, hen, hasrc, hratio, hheld, hmove, hdue, hhalt]⟩
        · exact ⟨(c.toLoss g.toNat).clockLostAt g.toNat, by
            simp [Chip.asrcLock, hen, hasrc, hratio, hheld, hmove, hdue, hhalt, Chip.loseClock_eq]⟩
    obtain ⟨d, hd⟩ := hlose
    rw [portEffect, hd]
    exact d.asrcUnlock_lock _

end
end Sys2Proof
end

section
/-! PROOFS. A slot word on a lane has its effect: what an output pin carries, and where an input word goes (R215 to R223). -/

-- One theorem at a time: many at once, each with a thread of its own, do not fit in memory.
set_option Elab.async false

namespace Sys2Proof.Machine

variable (c : Chip)

/-! ## Output lanes -/

/-- Does an output lane pass words (R216, R221, R71, R425)? -/
def Chip.passes (n : Nat) : Bool :=
  (c.lane n).serialOn && !c.bit (F.PRT_LANE_STAT_waiting n) && !decide (c.now < (c.lane n).muteTo) && decide (c.get F.BST_STAT_shut < 2)

theorem Chip.not_passes (n : Nat) : (!(c.lane n).serialOn || c.bit (F.PRT_LANE_STAT_waiting n) || decide (c.now < (c.lane n).muteTo) ||
    decide (2 ≤ c.get F.BST_STAT_shut)) = !c.passes n := by
  have hshut : decide (2 ≤ c.get F.BST_STAT_shut) = !decide (c.get F.BST_STAT_shut < 2) := by
    rw [← decide_not]
    exact decide_eq_decide.mpr Nat.not_lt.symm
  simp only [Chip.passes, Bool.not_and, Bool.not_not, hshut]

theorem Chip.serialOut_mute {n slot : Nat} (h : c.passes n = false) : c.serialOut n slot = (0, c) :=
  if_pos (by rw [c.not_passes, h]; rfl)

theorem Chip.serialOut_passes {n slot : Nat} (h : c.passes n = true) : c.serialOut n slot =
    if !c.laneLocked n then c.popWord n slot
    else if c.grpAsrc (c.laneGrp n) then (c.asrcOut n slot, c)
    else ((KMap.get none slot (c.lane n).outCur).getD 0,
      c.setLane n { c.lane n with outCur := KMap.set none slot none (c.lane n).outCur }) := by
  exact if_neg (by rw [c.not_passes, h]; decide)

theorem Chip.serialWord_out {n slot : Nat} (v : Word) (hen : c.laneEn n = true) (hruns : c.grpRuns (c.laneGrp n) = true)
    (hslot : slot < c.grpSlots (c.laneGrp n)) (hout : c.laneOut n = true) : c.serialWord n slot v =
    if c.slotOn n slot then (c.serialOut n slot).2.setLane n { (c.serialOut n slot).2.lane n with
      pin := some (cutWord (c.grpWidth (c.laneGrp n)) (c.gateWord (c.grpWidth (c.laneGrp n)) (c.serialOut n slot).1)) }
    else c.setLane n { c.lane n with pin := none } := by
  have hlt : ¬ c.grpSlots (c.laneGrp n) ≤ slot := Nat.not_le.mpr hslot
  cases hon : c.slotOn n slot <;> simp [Chip.serialWord, hen, hruns, hlt, hout, hon]

theorem Chip.serialWord_in {n slot : Nat} (v : Word) (hen : c.laneEn n = true) (hruns : c.grpRuns (c.laneGrp n) = true)
    (hslot : slot < c.grpSlots (c.laneGrp n)) (hout : c.laneOut n = false) : c.serialWord n slot v =
    if c.slotOn n slot then c.serialIn n slot (cutWord (c.grpWidth (c.laneGrp n)) v) else c := by
  have hlt : ¬ c.grpSlots (c.laneGrp n) ≤ slot := Nat.not_le.mpr hslot
  simp [Chip.serialWord, hen, hruns, hlt, hout]

/-! ## Input lanes -/

/-- Did the lane take part in the serial frame of the word (R215, R217, R220)? -/
def Chip.took (n slot : Nat) : Bool :=
  if c.lateSlot (c.laneGrp n) slot then (c.lane n).serialPrev && (c.lane n).serialOn else (c.lane n).serialOn

theorem Chip.serialIn_out {n slot : Nat} (v : Word) (h : c.took n slot = false) : c.serialIn n slot v = c := by
  rw [Chip.took] at h
  simp only [Chip.serialIn, h, Bool.not_false, if_true]

theorem Chip.serialIn_asrc {n slot : Nat} {t : Int} (v : Word) (h : c.took n slot = true) (hasrc : c.grpAsrc (c.laneGrp n) = true)
    (ht : (c.grp (c.laneGrp n)).starts[if c.lateSlot (c.laneGrp n) slot then 1 else 0]? = some t) :
    c.serialIn n slot v = c.setLane n ((c.lane n).record slot t v) := by
  rw [Chip.took] at h
  simp only [Chip.serialIn, h, hasrc, ht, Bool.not_true, Bool.false_eq_true, if_false, if_true]

theorem Chip.serialIn_took {n slot : Nat} (v : Word) (h : c.took n slot = true) (hasrc : c.grpAsrc (c.laneGrp n) = false) :
    c.serialIn n slot v =
    if !c.laneLocked n then c.pushWord n slot v
    else if c.lateSlot (c.laneGrp n) slot then c.setLane n { c.lane n with inPrev := KMap.set none slot (some v) (c.lane n).inPrev }
    else c.setLane n { c.lane n with inCur := KMap.set none slot (some v) (c.lane n).inCur } := by
  rw [Chip.took] at h
  simp only [Chip.serialIn, h, hasrc, Bool.not_true, Bool.false_eq_true, if_false]

/-- Where a word goes that enters a buffer (R218, R221). -/
theorem Chip.pushWord_shows (n slot : Nat) (v : Word) :
    if (c.lane n).buf.length < 64 then ((c.pushWord n slot v).lane n).buf = (c.lane n).buf ++ [v]
    else ((c.pushWord n slot v).lane n).buf = (c.lane n).buf ∧
      (c.bit (F.PRT_LANE_STAT_waiting n) = false → (c.pushWord n slot v).bit (F.PRT_LANE_STAT_ovr n) = true) := by
  simp only [Chip.pushWord]
  split
  · simp
  · split
    next hwait => exact ⟨rfl, fun h => absurd hwait (by simp [h])⟩
    · exact ⟨c.slip_buf n slot false, fun _ => c.slip_flag n slot false⟩

end Sys2Proof.Machine

namespace Sys2Proof

open Sys2Proof.Machine

section

variable {c : Chip} {n slot : Nat} {w : Word} (hen : c.laneEn n = true) (hruns : c.grpRuns (c.laneGrp n) = true)
  (hslot : slot < c.grpSlots (c.laneGrp n))

include hen hruns hslot

theorem serialWord_output (hout : c.laneOut n = true) : serialEffect c (c.serialWord n slot w) n slot w := by
  rw [serialEffect, if_pos hout, c.serialWord_out w hen hruns hslot hout]
  change (_ → _) ∧ (_ → c.passes n = false → _) ∧ (_ → c.passes n = true → _ → _) ∧ (_ → c.passes n = true → _ → _)
  refine ⟨fun hon => by simp [hon], fun hon hp => ?_, fun hon hp hlock => ?_, fun hon hp hlock => ?_⟩
  · simp [hon, c.serialOut_mute hp]
  · have hsent : (c.serialOut n slot).1 =
        if c.grpAsrc (c.laneGrp n) then c.asrcOut n slot else (KMap.get none slot (c.lane n).outCur).getD 0 := by
      rw [c.serialOut_passes hp, hlock]
      cases c.grpAsrc (c.laneGrp n) <;> rfl
    simp [hon, hsent]
  · have hpop : c.serialOut n slot = c.popWord n slot := by
      rw [c.serialOut_passes hp, hlock]
      rfl
    simp only [hon, if_true, hpop, Chip.popWord, Chip.lane_setLane_self]
    split
    next v rest hbuf => simp [hbuf]
    next hbuf =>
      simp only [hbuf]
      refine ⟨trivial, ?_⟩
      exact ((Chip.setLane_keepsFlds _ n _).bit (Fld.freeOf_same _ (by decide) (by decide))).trans (c.slip_flag n slot true)

theorem serialWord_input (hout : c.laneOut n = false) : serialEffect c (c.serialWord n slot w) n slot w := by
  rw [serialEffect, if_neg (by simp [hout]), c.serialWord_in w hen hruns hslot hout]
  change (_ ∨ c.took n slot = false → _) ∧ (_ → c.took n slot = true → _)
  refine ⟨fun hoff => ?_, fun hon htook => ?_⟩
  · rcases hoff with hoff | htook
    · simp [hoff]
    · rw [c.serialIn_out _ htook, ite_self]
  rw [if_pos hon]
  generalize cutWord (c.grpWidth (c.laneGrp n)) w = v
  by_cases hasrc : c.grpAsrc (c.laneGrp n) = true
  · rw [if_pos hasrc]
    intro t ht
    rw [c.serialIn_asrc v htook hasrc ht]
    exact c.lane_setLane_self n _
  rw [if_neg hasrc, c.serialIn_took v htook (Bool.eq_false_iff.mpr hasrc)]
  by_cases hlock : c.laneLocked n = true
  · simp only [hlock]
    cases c.lateSlot (c.laneGrp n) slot <;> simp
  · simpa [hlock] using c.pushWord_shows n slot v

end

theorem serialWord_effect {c : Chip} {n : BitVec 5} {slot : BitVec 4} {w : Word} (h : portReady c (.serialWord n slot w) = true) :
    portEffect c (c.serialWord n.toNat slot.toNat w) (.serialWord n slot w) := by
  simp only [portReady, Bool.and_eq_true, decide_eq_true_eq] at h
  obtain ⟨⟨hen, hruns⟩, hslot⟩ := h
  cases hout : c.laneOut n.toNat with
  | true => exact serialWord_output hen hruns hslot hout
  | false => exact serialWord_input hen hruns hslot hout

end Sys2Proof
end

section
/-! PROOFS. The rows of lanes have their effects: fill levels, masks, starts and stops (R221, R224 to R228). -/

-- One theorem at a time: many at once, each with a thread of its own, do not fit in memory.
set_option Elab.async false

namespace Sys2Proof.Machine

variable (c : Chip)

/-- The fields of a lane that no word on its way through a lane sets. -/
def stayFlds (n : Nat) : List Fld := [F.PRT_LANE_STAT_state n, F.PRT_LANE_STAT_waiting n, F.PRT_LANE_CTRL_start n]

theorem stayFlds_free_words : ∀ m n : Fin 32, ∀ f ∈ stayFlds m.val, f.freeOf (wordFlds n.val) = true := by decide +kernel

theorem WordMoves.stays {c d : Chip} {n m : Nat} (h : WordMoves n c d) (hn : n < 32) (hm : m < 32) {f : Fld} (hf : f ∈ stayFlds m) :
    d.get f = c.get f := h.get f (stayFlds_free_words ⟨m, hm⟩ ⟨n, hn⟩ f hf)

theorem WordMoves.state {c d : Chip} {n m : Nat} (h : WordMoves n c d) (hn : n < 32) (hm : m < 32) : d.laneState m = c.laneState m :=
  h.stays hn hm (by simp [stayFlds])

/-! ## The fill level (R221) -/

theorem Chip.latchInputs_regs : c.latchInputs.regs = c.regs := by
  unfold Chip.latchInputs
  split
  · rfl
  · refine List.foldlRecOn (motive := fun d : Chip => d.regs = c.regs) _ _ rfl fun d hd n _ => ?_
    split <;> exact hd

theorem Chip.lanePass_bit (n : Nat) (f : Fld) : (c.lanePass n).bit f = (c.laneFill n).bit f := by
  unfold Chip.lanePass
  dsimp only
  split
  · exact Chip.bit_congr (Chip.latchInputs_regs _) f
  · rfl

/-- A lane that waits no longer. -/
theorem Chip.laneFill_passes {n : Nat} (hn : n < 32) (hen : c.laneEn n = true) (hwait : c.bit (F.PRT_LANE_STAT_waiting n) = true)
    (hfill : c.fillLevel n ≤ (c.lane n).buf.length) (hinst : c.fillInstant n = true) :
    (c.laneFill n).bit (F.PRT_LANE_STAT_waiting n) = false := by
  have hcleared : (c.put (F.PRT_LANE_STAT_waiting n) 0).bit (F.PRT_LANE_STAT_waiting n) = false := c.put_zero_bit rfl
  have hlt : ¬ (c.lane n).buf.length < c.fillLevel n := Nat.not_lt.mpr hfill
  simp only [Chip.laneFill, hen, hwait, hinst, hlt, decide_false, Bool.not_true, Bool.or_self, Bool.false_eq_true, if_false]
  split
  · exact hcleared
  · refine Eq.trans ?_ hcleared
    simp only [Chip.bit, (Chip.inputSide_moves _ n).stays hn hn (f := F.PRT_LANE_STAT_waiting n) (by simp [stayFlds])]

/-! ## Masks (R224 to R226) -/

theorem Fld.of_mod (f : Fld) (v : Word) : f.of v % 2 ^ f.width = f.of v := Nat.mod_mod _ _

theorem Chip.setLane_get_ne {n : Nat} (l : Lane) {f : Fld} (hf : f.addr ≠ R.PRT_LANE_STAT n) : (c.setLane n l).get f = c.get f :=
  Chip.get_put_ne _ hf _

theorem laneMask_ne_laneStat (n : Nat) : R.PRT_LANE_MASK n ≠ R.PRT_LANE_STAT n := by
  simp only [R.PRT_LANE_MASK, R.PRT_LANE_STAT]
  omega

/-- A mask that is accepted. -/
theorem Chip.writeMask_accepted {n : Nat} {v : Word} (late : Bool) (hoff : c.laneOff n = false)
    (hok : Sys2Proof.maskRefused c n ((F.PRT_LANE_MASK_mask n).of v) = false) : c.writeMask n v late =
    (c.put (F.PRT_LANE_MASK_mask n) ((F.PRT_LANE_MASK_mask n).of v)).setLane n { c.lane n with
      maskPend := (c.lane n).maskPend ++ [((F.PRT_LANE_MASK_mask n).of v, if c.maskLate (c.laneGrp n) late then 2 else 1)] } := by
  rw [Sys2Proof.maskRefused] at hok
  simp only [Chip.writeMask, hoff, hok, Bool.false_eq_true, if_false]

/-! ## Starts (R221, R227, R230) -/

/-- A lane as it starts. -/
def Lane.begun (l : Lane) (keep master : Bool) : Lane :=
  { l with
    buf := if keep then l.buf else []
    inCur := []
    inPrev := []
    outCur := []
    outNext := []
    startAt := none
    trig := false
    hist := []
    maskLog := []
    serialOn := master
    serialPrev := false }

/-- The state of a lane that starts: a stop that is asked for still comes (R228). -/
def Lane.live (l : Lane) : Nat := if l.stopAt.isSome then laneStopping else laneRunning

/-- A lane starts, before it takes the first words. -/
def Chip.laneBegun (n : Nat) : Chip :=
  ((((c.setLane n ((c.lane n).begun (c.laneOut n && c.laneDma n) (c.grpMaster (c.laneGrp n)))).put (F.PRT_LANE_STAT_shift n) 0).put
    (F.PRT_LANE_CTRL_start n) 0).put (F.PRT_LANE_STAT_state n) (c.lane n).live).putB (F.PRT_LANE_STAT_waiting n)
      (!c.laneLocked n && !c.laneDma n)

theorem Chip.startLane_moves (n : Nat) (trig : Bool) : WordMoves n (c.laneBegun n) (c.startLane n trig) := by
  have hfed : WordMoves n (c.laneBegun n) (if c.laneOut n && !c.laneDma n then (c.laneBegun n).outputSide n else c.laneBegun n) := by
    split
    · exact (c.laneBegun n).outputSide_moves n
    · exact .refl n _
  unfold Chip.startLane
  dsimp only
  split
  · exact hfed.setLost
  · exact hfed

theorem Chip.laneBegun_lane (n : Nat) :
    (c.laneBegun n).lane n = (c.lane n).begun (c.laneOut n && c.laneDma n) (c.grpMaster (c.laneGrp n)) := by
  simp only [Chip.laneBegun, Chip.putB, Chip.lane_put, Chip.lane_setLane_self]

theorem Lane.live_mod (l : Lane) : l.live % 2 ^ 2 = l.live := by
  unfold Lane.live
  split <;> rfl

theorem Chip.laneBegun_state (n : Nat) : (c.laneBegun n).laneState n = (c.lane n).live :=
  ((Chip.get_put_free _ (Fld.freeOf_same _ (by decide) (by decide)) _).trans
    (Chip.get_put_cut _ rfl _)).trans (Lane.live_mod _)

theorem laneCtrl_ne_laneStat (n : Nat) : R.PRT_LANE_CTRL n ≠ R.PRT_LANE_STAT n := by
  simp only [R.PRT_LANE_CTRL, R.PRT_LANE_STAT]
  omega

theorem Chip.laneBegun_start (n : Nat) : (c.laneBegun n).bit (F.PRT_LANE_CTRL_start n) = false :=
  (Chip.bit_put_ne _ (laneCtrl_ne_laneStat n) _).trans ((Chip.bit_put_ne _ (laneCtrl_ne_laneStat n) _).trans (Chip.put_zero_bit _ rfl))

theorem Chip.startLane_state {n : Nat} (hn : n < 32) (trig : Bool) : (c.startLane n trig).laneState n = (c.lane n).live :=
  ((c.startLane_moves n trig).state hn hn).trans (c.laneBegun_state n)

theorem Chip.startLane_plan (n : Nat) (trig : Bool) : ((c.startLane n trig).lane n).plan = (none, (c.lane n).stopAt, false) := by
  rw [(c.startLane_moves n trig).plan, Chip.laneBegun_lane]
  rfl

theorem Chip.startLane_start {n : Nat} (hn : n < 32) (trig : Bool) : (c.startLane n trig).bit (F.PRT_LANE_CTRL_start n) = false := by
  refine Eq.trans ?_ (c.laneBegun_start n)
  simp only [Chip.bit, (c.startLane_moves n trig).stays hn hn (f := F.PRT_LANE_CTRL_start n) (by simp [stayFlds])]

/-! ## Requests (R227, R228) -/

/-- The fill level of a lane is written. -/
def Chip.lvlWritten (n : Nat) (v : Word) : Chip := c.put (F.PRT_LANE_CTRL_lvl n) ((F.PRT_LANE_CTRL_lvl n).of v)

/-- A start is asked for, and a stop. -/
def Chip.startAsked (n : Nat) : Chip :=
  ((c.setLane n { c.lane n with startAt := some (c.now + 2 * c.framePeriod), trig := false }).put (F.PRT_LANE_STAT_state n)
    laneStarting).put (F.PRT_LANE_CTRL_start n) 1
def Chip.stopAsked (n : Nat) : Chip :=
  ((c.setLane n { c.lane n with stopAt := some (c.now + c.framePeriod) }).put (F.PRT_LANE_STAT_state n) laneStopping).put
    (F.PRT_LANE_CTRL_stop n) 1

section

variable {n : Nat} (hn : n < 32) (v : Word)

theorem Chip.lvlWritten_get {f : Fld} (hf : f.addr ≠ R.PRT_LANE_CTRL n) : (c.lvlWritten n v).get f = c.get f := c.get_put_ne hf _

theorem Chip.lvlWritten_cfg {f : Fld} (hf : f.addr = R.PRT_LANE_CFG n) : (c.lvlWritten n v).get f = c.get f :=
  c.lvlWritten_get v (by rw [hf]; simp only [R.PRT_LANE_CFG, R.PRT_LANE_CTRL]; omega)

theorem Chip.lvlWritten_en : (c.lvlWritten n v).laneEn n = c.laneEn n := by
  simp only [Chip.laneEn, Chip.bit, c.lvlWritten_cfg v (f := F.PRT_LANE_CFG_en n) rfl]

theorem Chip.lvlWritten_grp : (c.lvlWritten n v).laneGrp n = c.laneGrp n := c.lvlWritten_cfg v rfl

theorem Chip.lvlWritten_state : (c.lvlWritten n v).laneState n = c.laneState n := c.lvlWritten_get v (laneCtrl_ne_laneStat n).symm

include hn in
theorem SamePlan.lvlWritten : SamePlan c (c.lvlWritten n v) :=
  SamePlan.putPrt (.of_regs rfl rfl rfl) (inPrt_laneCtrl hn)

theorem Chip.lvlWritten_halted (g : Nat) : (c.lvlWritten n v).halted g = c.halted g := by
  simp only [Chip.halted, Chip.bit]
  rw [c.lvlWritten_get v (by simp only [F.PRT_GRP_STAT_halted, R.PRT_GRP_STAT, R.PRT_LANE_CTRL]; omega)]

include hn in
theorem Chip.lvlWritten_loading : (c.lvlWritten n v).get F.FOLD_STAT_state = c.get F.FOLD_STAT_state :=
  c.lvlWritten_get v (by simp only [F.FOLD_STAT_state, R.FOLD_STAT, R.PRT_LANE_CTRL]; omega)

end

/-- A start that is taken. -/
theorem Chip.askStart_taken {n : Nat} (hen : c.laneEn n = true) (hstate : c.laneState n = laneStopped)
    (hhalt : c.halted (c.laneGrp n) = false) (hload : c.get F.FOLD_STAT_state ≠ 3) : c.askStart n = c.startAsked n := by
  simp only [Chip.askStart, hen, hstate, hhalt, hload, Bool.not_true, ne_eq, not_true_eq_false, decide_false, Bool.or_self,
    Bool.false_eq_true, if_false]
  rfl

/-- A stop that is taken. -/
theorem Chip.askStop_taken {n : Nat} (hen : c.laneEn n = true) (hstate : c.laneState n = laneStarting ∨ c.laneState n = laneRunning) :
    c.askStop n = c.stopAsked n := by
  have hlive : (decide (c.laneState n = laneStarting) || decide (c.laneState n = laneRunning)) = true := by simpa using hstate
  simp only [Chip.askStop, hen, hlive, Bool.not_true, Bool.or_self, Bool.false_eq_true, if_false]
  rfl

section

variable (n : Nat)

theorem Chip.startAsked_state : (c.startAsked n).laneState n = laneStarting :=
  (Chip.get_put_ne _ (laneCtrl_ne_laneStat n).symm 1).trans (Chip.get_put_cut _ rfl _)

theorem Chip.startAsked_lane : (c.startAsked n).lane n = { c.lane n with startAt := some (c.now + 2 * c.framePeriod), trig := false } := by
  simp only [Chip.startAsked, Chip.lane_put, Chip.lane_setLane_self]

theorem Chip.startAsked_start : (c.startAsked n).bit (F.PRT_LANE_CTRL_start n) = true := Chip.put_one_bit _ rfl rfl

theorem Chip.stopAsked_state : (c.stopAsked n).laneState n = laneStopping :=
  (Chip.get_put_ne _ (laneCtrl_ne_laneStat n).symm 1).trans (Chip.get_put_cut _ rfl _)

theorem Chip.stopAsked_lane : (c.stopAsked n).lane n = { c.lane n with stopAt := some (c.now + c.framePeriod) } := by
  simp only [Chip.stopAsked, Chip.lane_put, Chip.lane_setLane_self]

theorem Chip.stopAsked_stop : (c.stopAsked n).bit (F.PRT_LANE_CTRL_stop n) = true := Chip.put_one_bit _ rfl rfl

end

/-! ## Stops (R228) -/

/-- A lane as it stops: `now` where no serial frame runs to its end, `keep` where a ring feeds it. -/
def Lane.ended (l : Lane) (now keep : Bool) : Lane :=
  { l with
    buf := if now && !keep then [] else l.buf
    startAt := none
    stopAt := none
    trig := false
    serialOn := if now then false else l.serialOn
    hist := []
    inCur := []
    inPrev := []
    outNext := []
    outCur := if now then [] else l.outCur
    side := [] }

/-- A lane stops, the alignment group's stop apart. -/
def Chip.laneEnded (n : Nat) : Chip :=
  ((((c.setLane n ((c.lane n).ended (c.grpMaster (c.laneGrp n) || !(c.lane n).serialOn) (c.laneOut n && c.laneDma n))).put
    (F.PRT_LANE_CTRL_start n) 0).put (F.PRT_LANE_CTRL_stop n) 0).put (F.PRT_LANE_STAT_state n) laneStopped).put
      (F.PRT_LANE_STAT_waiting n) 0

theorem Chip.laneStop_due {n : Nat} (hb : c.onBoundary = true) (hdue : dueAt c.now (c.lane n).stopAt = true) : c.laneStop n =
    if (c.laneEnded n).grpAlign (c.laneGrp n) < 8 then (c.laneEnded n).settleAlign ((c.laneEnded n).grpAlign (c.laneGrp n))
    else c.laneEnded n := by
  simp only [Chip.laneStop, hb, hdue, Bool.not_true, Bool.or_self, Bool.false_eq_true, if_false]
  rfl

theorem Chip.settleAlign_prt (a : Nat) : (c.settleAlign a).prt = c.prt := by
  unfold Chip.settleAlign
  split <;> rfl

theorem Chip.settleAlign_keepsFlds (a : Nat) : KeepsFlds [F.PRT_ALIGN_CTRL_stop a] c (c.settleAlign a) := by
  unfold Chip.settleAlign
  split
  · exact (KeepsFlds.refl c).put
  · exact fun _ _ => rfl

theorem Chip.laneStop_lane {n : Nat} (hb : c.onBoundary = true) (hdue : dueAt c.now (c.lane n).stopAt = true) :
    (c.laneStop n).lane n = (c.lane n).ended (c.grpMaster (c.laneGrp n) || !(c.lane n).serialOn) (c.laneOut n && c.laneDma n) := by
  have hended : (c.laneEnded n).lane n =
      (c.lane n).ended (c.grpMaster (c.laneGrp n) || !(c.lane n).serialOn) (c.laneOut n && c.laneDma n) := by
    simp only [Chip.laneEnded, Chip.lane_put, Chip.lane_setLane_self]
  rw [c.laneStop_due hb hdue]
  split
  · rw [Chip.lane_congr (Chip.settleAlign_prt _ _), hended]
  · exact hended

theorem Chip.laneStop_get {n : Nat} (hn : n < 32) (hb : c.onBoundary = true) (hdue : dueAt c.now (c.lane n).stopAt = true) {f : Fld}
    (hfit : f.fits = true) (hf : f.addr = R.PRT_LANE_STAT n ∨ f.addr = R.PRT_LANE_CTRL n) :
    (c.laneStop n).get f = (c.laneEnded n).get f := by
  rw [c.laneStop_due hb hdue]
  split
  · refine Chip.settleAlign_keepsFlds _ _ f (Fld.freeOf_of_addr hfit fun g hg => ?_)
    rw [List.mem_singleton.mp hg]
    simp only [F.PRT_ALIGN_CTRL_stop, R.PRT_ALIGN_CTRL, R.PRT_LANE_STAT, R.PRT_LANE_CTRL] at hf ⊢
    omega
  · rfl

theorem Chip.laneEnded_state (n : Nat) : (c.laneEnded n).laneState n = laneStopped :=
  (Chip.get_put_free _ (Fld.freeOf_same _ (by decide) (by decide)) 0).trans (Chip.get_put_cut _ rfl _)

theorem Chip.laneEnded_ctrl (n : Nat) :
    (c.laneEnded n).bit (F.PRT_LANE_CTRL_stop n) = false ∧ (c.laneEnded n).bit (F.PRT_LANE_CTRL_start n) = false := by
  have hctrl : ∀ f : Fld, f.addr = R.PRT_LANE_CTRL n → ∀ d : Chip,
      ((d.put (F.PRT_LANE_STAT_state n) laneStopped).put (F.PRT_LANE_STAT_waiting n) 0).bit f = d.bit f := fun f hf d => by
    have hne : f.addr ≠ R.PRT_LANE_STAT n := hf ▸ laneCtrl_ne_laneStat n
    exact (Chip.bit_put_ne _ hne _).trans (Chip.bit_put_ne _ hne _)
  refine ⟨(hctrl _ rfl _).trans (Chip.put_zero_bit _ rfl), (hctrl _ rfl _).trans ?_⟩
  exact (Chip.bit_put_free _ (Fld.freeOf_same _ (by decide) (by decide)) _).trans (Chip.put_zero_bit _ rfl)

end Sys2Proof.Machine

namespace Sys2Proof

open Sys2Proof.Machine

variable {c : Chip} {r : Req} {n : BitVec 5} {v : Word}

theorem laneFillReached_effect (h : portReady c (.laneFillReached n) = true) :
    portEffect c (c.lanePass n.toNat) (.laneFillReached n) := by
  simp only [portReady, Bool.and_eq_true, decide_eq_true_eq] at h
  obtain ⟨⟨⟨hen, hwait⟩, hfill⟩, hinst⟩ := h
  exact (c.lanePass_bit _ _).trans (c.laneFill_passes n.isLt hen hwait hfill hinst)

theorem maskWrite_effect {late : Bool} (h : portReady c (.maskWrite r n v late) = true) :
    accepts c r (R.PRT_LANE_MASK n.toNat) = true ∧ portEffect c (c.writeMask n.toNat v late) (.maskWrite r n v late) := by
  simp only [portReady, Bool.and_eq_true, Bool.not_eq_true'] at h
  obtain ⟨⟨hacc, hoff⟩, hok⟩ := h
  refine ⟨hacc, ?_⟩
  rw [portEffect, c.writeMask_accepted late hoff hok, Chip.lane_setLane_self]
  refine ⟨?_, rfl⟩
  exact (Chip.setLane_get_ne _ _ (laneMask_ne_laneStat _)).trans ((Chip.get_put_cut _ rfl _).trans (Fld.of_mod _ v))

theorem maskApply_effect : portEffect c (c.maskApply n.toNat) (.maskApply n) := by
  intro p hp
  simp only [Chip.maskApply, hp]
  refine ⟨(Chip.setLane_get_ne _ _ (laneMask_ne_laneStat _)).trans (Chip.get_put_cut _ rfl _), ?_⟩
  rw [Chip.lane_setLane_self]
  split <;> rfl

theorem laneStartRequest_effect (h : portReady c (.laneStartRequest r n v) = true) :
    accepts c r (R.PRT_LANE_CTRL n.toNat) = true ∧ portEffect c (c.writeLaneCtrl n.toNat v) (.laneStartRequest r n v) := by
  simp only [portReady, Bool.and_eq_true, Bool.not_eq_true', decide_eq_true_eq] at h
  obtain ⟨⟨⟨⟨⟨⟨hacc, hstart⟩, hstop⟩, hen⟩, hstate⟩, hhalt⟩, hload⟩ := h
  refine ⟨hacc, ?_⟩
  let d := c.lvlWritten n.toNat v
  have hplan : SamePlan c d := .lvlWritten c n.isLt v
  have hwrite : c.writeLaneCtrl n.toNat v = d.startAsked n.toNat := by
    have htaken : d.askStart n.toNat = d.startAsked n.toNat :=
      d.askStart_taken ((c.lvlWritten_en v).trans hen) ((c.lvlWritten_state v).trans hstate)
        (by rw [c.lvlWritten_grp v, c.lvlWritten_halted v, hhalt]) (by rwa [c.lvlWritten_loading n.isLt v])
    rw [← htaken]
    simp [Chip.writeLaneCtrl, Chip.laneOff, hen, hstart, hstop, d, Chip.lvlWritten]
  rw [portEffect, hwrite]
  refine ⟨d.startAsked_state _, ?_, d.startAsked_start _⟩
  rw [d.startAsked_lane, hplan.now, hplan.framePeriod]

theorem laneStart_effect (h : portReady c (.laneStart n) = true) : portEffect c (c.laneStart n.toNat) (.laneStart n) := by
  simp only [portReady, Bool.and_eq_true, Bool.not_eq_true'] at h
  obtain ⟨⟨⟨hb, hdue⟩, hstop⟩, htrig⟩ := h
  have hgo : c.laneStart n.toNat = c.startLane n.toNat false := by simp [Chip.laneStart, hb, hdue, hstop, htrig]
  rw [portEffect, hgo]
  exact ⟨congrArg Prod.fst (c.startLane_plan _ false), c.startLane_start n.isLt false, c.startLane_state n.isLt false⟩

theorem laneStopRequest_effect (h : portReady c (.laneStopRequest r n v) = true) :
    accepts c r (R.PRT_LANE_CTRL n.toNat) = true ∧ portEffect c (c.writeLaneCtrl n.toNat v) (.laneStopRequest r n v) := by
  simp only [portReady, Bool.and_eq_true, Bool.not_eq_true', Bool.or_eq_true, decide_eq_true_eq] at h
  obtain ⟨⟨⟨⟨hacc, hstop⟩, hstart⟩, hen⟩, hstate⟩ := h
  refine ⟨hacc, ?_⟩
  let d := c.lvlWritten n.toNat v
  have hplan : SamePlan c d := .lvlWritten c n.isLt v
  have hwrite : c.writeLaneCtrl n.toNat v = d.stopAsked n.toNat := by
    rw [← d.askStop_taken ((c.lvlWritten_en v).trans hen) (by rwa [c.lvlWritten_state v])]
    simp [Chip.writeLaneCtrl, Chip.laneOff, hen, hstart, hstop, d, Chip.lvlWritten]
  rw [portEffect, hwrite]
  refine ⟨d.stopAsked_state _, ?_, d.stopAsked_stop _⟩
  rw [d.stopAsked_lane, hplan.now, hplan.framePeriod]

theorem laneStop_effect (h : portReady c (.laneStop n) = true) : portEffect c (c.laneStop n.toNat) (.laneStop n) := by
  simp only [portReady, Bool.and_eq_true] at h
  obtain ⟨hb, hdue⟩ := h
  have hget := fun f => c.laneStop_get n.isLt hb hdue (f := f)
  obtain ⟨hstop, hstart⟩ := c.laneEnded_ctrl n.toNat
  rw [portEffect, c.laneStop_lane hb hdue]
  refine ⟨(hget _ rfl (.inl rfl)).trans (c.laneEnded_state _), rfl, rfl, ?_, ?_, rfl⟩
  · simpa only [Chip.bit, hget (F.PRT_LANE_CTRL_stop n.toNat) rfl (.inr rfl)] using hstop
  · simpa only [Chip.bit, hget (F.PRT_LANE_CTRL_start n.toNat) rfl (.inr rfl)] using hstart

end Sys2Proof
end

section
/-! PROOFS. The rows of alignment groups have their effects: triggers, triggered starts and stops (R230, R231). -/

-- One theorem at a time: many at once, each with a thread of its own, do not fit in memory.
set_option Elab.async false

namespace Sys2Proof.Machine

variable (c : Chip)

/-- What one element of a list brings about, where what goes before it keeps `J`, stands after the whole list, where every element keeps
it. -/
theorem foldl_reaches {α : Type} {g : Chip → α → Chip} {x : α} {J K : Chip → Prop} (hto : ∀ d, J d → K (g d x)) :
    ∀ (l : List α), (∀ y ∈ l, ∀ d, J d → J (g d y)) → (∀ y ∈ l, ∀ d, K d → K (g d y)) → x ∈ l →
      ∀ c, J c → K (l.foldl g c) := by
  intro l
  induction l with
  | nil => exact fun _ _ hx => absurd hx List.not_mem_nil
  | cons y r ih =>
    intro hJ hK hx c hc
    rcases List.mem_cons.mp hx with rfl | hr
    · exact List.foldlRecOn (motive := K) r g (hto c hc) fun d hd z hz => hK z (List.mem_cons_of_mem _ hz) d hd
    · exact ih (fun z hz => hJ z (List.mem_cons_of_mem _ hz)) (fun z hz => hK z (List.mem_cons_of_mem _ hz)) hr _
        (hJ y List.mem_cons_self c hc)

/-! ## A change of one lane -/

/-- From `c` to `d` nothing of the ports and of the frame changes but lane `n` and its registers LANE_STAT and LANE_CTRL. -/
structure LaneMoves (n : Nat) (c d : Chip) : Prop where
  get : ∀ f : Fld, f.addr ≠ R.PRT_LANE_STAT n → f.addr ≠ R.PRT_LANE_CTRL n → d.get f = c.get f
  other : ∀ m, m ≠ n → d.lane m = c.lane m
  aligns : d.prt.aligns = c.prt.aligns
  time : d.time = c.time
  fold : d.fold = c.fold

namespace LaneMoves

variable {c}
variable {d e : Chip} {n m : Nat}

theorem refl (n : Nat) (c : Chip) : LaneMoves n c c := ⟨fun _ _ _ => rfl, fun _ _ => rfl, rfl, rfl, rfl⟩

theorem trans (h : LaneMoves n c d) (k : LaneMoves n d e) : LaneMoves n c e :=
  ⟨fun f hs hc => (k.get f hs hc).trans (h.get f hs hc), fun m hm => (k.other m hm).trans (h.other m hm), k.aligns.trans h.aligns,
    k.time.trans h.time, k.fold.trans h.fold⟩

theorem putStat (h : LaneMoves n c d) {f : Fld} {v : Nat} (hf : f.addr = R.PRT_LANE_STAT n := by rfl) : LaneMoves n c (d.put f v) :=
  h.trans ⟨fun _ hs _ => d.get_put_ne (hf ▸ hs) v, fun m _ => d.lane_put f v m, rfl, rfl, rfl⟩

theorem putCtrl (h : LaneMoves n c d) {f : Fld} {v : Nat} (hf : f.addr = R.PRT_LANE_CTRL n := by rfl) : LaneMoves n c (d.put f v) :=
  h.trans ⟨fun _ _ hc => d.get_put_ne (hf ▸ hc) v, fun m _ => d.lane_put f v m, rfl, rfl, rfl⟩

theorem setLane (h : LaneMoves n c d) {l : Lane} : LaneMoves n c (d.setLane n l) :=
  h.trans ⟨fun _ hs _ => d.setLane_get_ne l hs, fun _ hm => d.lane_setLane_ne hm l, rfl, rfl, rfl⟩

/-- The state of another lane. -/
theorem state (h : LaneMoves n c d) (hm : m ≠ n) : d.laneState m = c.laneState m := by
  refine h.get _ ?_ ?_
  all_goals
    simp only [F.PRT_LANE_STAT_state, R.PRT_LANE_STAT, R.PRT_LANE_CTRL]
    omega

theorem en (h : LaneMoves n c d) : d.laneEn m = c.laneEn m := by
  simp only [Chip.laneEn, Chip.bit]
  rw [h.get (F.PRT_LANE_CFG_en m)]
  all_goals
    simp only [F.PRT_LANE_CFG_en, R.PRT_LANE_CFG, R.PRT_LANE_STAT, R.PRT_LANE_CTRL]
    omega

theorem align (h : LaneMoves n c d) (a : Nat) : d.align a = c.align a := Chip.align_congr h.aligns a

theorem go (h : LaneMoves n c d) (hn : n < 32) (a : Nat) : d.bit (F.PRT_ALIGN_CTRL_go a) = c.bit (F.PRT_ALIGN_CTRL_go a) := by
  simp only [Chip.bit]
  rw [h.get (F.PRT_ALIGN_CTRL_go a)]
  all_goals
    simp only [F.PRT_ALIGN_CTRL_go, R.PRT_ALIGN_CTRL, R.PRT_LANE_STAT, R.PRT_LANE_CTRL]
    omega

theorem rd (h : LaneMoves n c d) {a : Nat} (hs : a ≠ R.PRT_LANE_STAT n) (hc : a ≠ R.PRT_LANE_CTRL n) : d.rd a = c.rd a := by
  have hw := h.get (Fld.whole a) hs hc
  rw [Chip.get_whole, Chip.get_whole] at hw
  exact BitVec.eq_of_toNat_eq hw

theorem plan (h : LaneMoves n c d) (hn : n < 32) : SamePlan c d := by
  refine ⟨h.time, h.fold, h.rd ?_ ?_, h.rd ?_ ?_⟩
  all_goals
    simp only [R.PWR_STAT, R.FOLD_STAT, R.PRT_LANE_STAT, R.PRT_LANE_CTRL]
    omega

end LaneMoves

theorem Chip.stopAsked_moves (n : Nat) : LaneMoves n c (c.stopAsked n) := (LaneMoves.refl n c).setLane.putStat.putCtrl

theorem Chip.askStop_moves (n : Nat) : LaneMoves n c (c.askStop n) := by
  unfold Chip.askStop
  dsimp only
  split
  · exact .refl n c
  · exact c.stopAsked_moves n

theorem Chip.dropTrig_moves (n : Nat) : LaneMoves n c (c.dropTrig n) := by
  unfold Chip.dropTrig
  dsimp only
  split
  · exact .refl n c
  · split
    · exact (LaneMoves.refl n c).setLane
    · exact (LaneMoves.refl n c).setLane.putStat

theorem Chip.laneBegun_moves (n : Nat) : LaneMoves n c (c.laneBegun n) :=
  (LaneMoves.refl n c).setLane.putStat.putCtrl.putStat.putStat

/-! ## A change of one alignment group -/

theorem Chip.laneGrp_lt (n : Nat) : c.laneGrp n < 8 := Nat.mod_lt _ (by simp [F.PRT_LANE_CFG_group])

/-- From `c` to `d` nothing of lanes and of the frame changes, and no register but ALIGN_CTRL of group `a`. -/
structure AlignMoves (a : Nat) (c d : Chip) : Prop where
  get : ∀ f : Fld, f.addr ≠ R.PRT_ALIGN_CTRL a → d.get f = c.get f
  lane : ∀ n, d.lane n = c.lane n
  time : d.time = c.time
  fold : d.fold = c.fold

namespace AlignMoves

variable {c}
variable {d : Chip} {a : Nat}

theorem bit (h : AlignMoves a c d) {f : Fld} (hf : f.addr ≠ R.PRT_ALIGN_CTRL a) : d.bit f = c.bit f := by simp only [Chip.bit, h.get f hf]

theorem en (h : AlignMoves a c d) (n : Nat) : d.laneEn n = c.laneEn n :=
  h.bit (by simp only [F.PRT_LANE_CFG_en, R.PRT_LANE_CFG, R.PRT_ALIGN_CTRL]; omega)

theorem laneGrp (h : AlignMoves a c d) (n : Nat) : d.laneGrp n = c.laneGrp n :=
  h.get _ (by simp only [F.PRT_LANE_CFG_group, R.PRT_LANE_CFG, R.PRT_ALIGN_CTRL]; omega)

theorem state (h : AlignMoves a c d) (n : Nat) : d.laneState n = c.laneState n :=
  h.get _ (by simp only [F.PRT_LANE_STAT_state, R.PRT_LANE_STAT, R.PRT_ALIGN_CTRL]; omega)

theorem halted (h : AlignMoves a c d) (g : Nat) : d.halted g = c.halted g :=
  h.bit (by simp only [F.PRT_GRP_STAT_halted, R.PRT_GRP_STAT, R.PRT_ALIGN_CTRL]; omega)

theorem grpEn (h : AlignMoves a c d) {g : Nat} (hg : g < 8) : d.grpEn g = c.grpEn g :=
  h.bit (by simp only [F.PRT_GRP_CFG_en, R.PRT_GRP_CFG, R.PRT_ALIGN_CTRL]; omega)

theorem grpAlign (h : AlignMoves a c d) {g : Nat} (hg : g < 8) : d.grpAlign g = c.grpAlign g :=
  h.get _ (by simp only [F.PRT_GRP_CFG_align, R.PRT_GRP_CFG, R.PRT_ALIGN_CTRL]; omega)

theorem alignLanes (h : AlignMoves a c d) (b : Nat) : d.alignLanes b = c.alignLanes b :=
  List.filter_congr fun n _ => by rw [h.en, h.laneGrp, h.grpAlign (c.laneGrp_lt n)]

theorem rd (h : AlignMoves a c d) {b : Nat} (hb : b ≠ R.PRT_ALIGN_CTRL a) : d.rd b = c.rd b := by
  have hw := h.get (Fld.whole b) hb
  rw [Chip.get_whole, Chip.get_whole] at hw
  exact BitVec.eq_of_toNat_eq hw

theorem plan (h : AlignMoves a c d) (ha : a < 8) : SamePlan c d := by
  refine ⟨h.time, h.fold, h.rd ?_, h.rd ?_⟩
  all_goals
    simp only [R.PWR_STAT, R.FOLD_STAT, R.PRT_ALIGN_CTRL]
    omega

theorem instant (h : AlignMoves a c d) (b : Nat) :
    d.rd64 (R.PRT_ALIGN_AT_LO b) (R.PRT_ALIGN_AT_HI b) = c.rd64 (R.PRT_ALIGN_AT_LO b) (R.PRT_ALIGN_AT_HI b) := by
  have hlo : d.rd (R.PRT_ALIGN_AT_LO b) = c.rd (R.PRT_ALIGN_AT_LO b) := h.rd (by simp only [R.PRT_ALIGN_AT_LO, R.PRT_ALIGN_CTRL]; omega)
  have hhi : d.rd (R.PRT_ALIGN_AT_HI b) = c.rd (R.PRT_ALIGN_AT_HI b) := h.rd (by simp only [R.PRT_ALIGN_AT_HI, R.PRT_ALIGN_CTRL]; omega)
  rw [Chip.rd64, hlo, hhi, Chip.rd64]

theorem loaded (h : AlignMoves a c d) : d.bit F.FOLD_STAT_loaded = c.bit F.FOLD_STAT_loaded :=
  h.bit (by simp only [F.FOLD_STAT_loaded, R.FOLD_STAT, R.PRT_ALIGN_CTRL]; omega)

theorem triggerable (h : AlignMoves a c d) (ha : a < 8) (b : Nat) : Sys2Proof.triggerable d b = Sys2Proof.triggerable c b := by
  have hgrps : ((List.range 8).any fun g => d.grpEn g && decide (d.grpAlign g = b) && d.halted g) =
      (List.range 8).any fun g => c.grpEn g && decide (c.grpAlign g = b) && c.halted g := by
    refine Bool.eq_iff_iff.mpr ?_
    simp only [List.any_eq_true]
    refine exists_congr fun g => and_congr_right fun hg => ?_
    have hlt := List.mem_range.mp hg
    rw [h.grpEn hlt, h.grpAlign hlt, h.halted]
  simp only [Sys2Proof.triggerable, h.instant, h.loaded, (h.plan ha).frameTicks, (h.plan ha).now, (h.plan ha).framePeriod,
    h.alignLanes, h.state, hgrps]

end AlignMoves

variable {c} in
theorem AlignMoves.trans {d e : Chip} {a : Nat} (h : AlignMoves a c d) (k : AlignMoves a d e) : AlignMoves a c e :=
  ⟨fun f hf => (k.get f hf).trans (h.get f hf), fun n => (k.lane n).trans (h.lane n), k.time.trans h.time, k.fold.trans h.fold⟩

theorem Chip.put_alignMoves {a : Nat} {f : Fld} (hf : f.addr = R.PRT_ALIGN_CTRL a) (v : Nat) : AlignMoves a c (c.put f v) :=
  ⟨fun _ hg => c.get_put_ne (hf ▸ hg) v, fun n => c.lane_put f v n, rfl, rfl⟩

theorem Chip.setAlign_alignMoves (a : Nat) (x : AlignSt) : AlignMoves a c (c.setAlign a x) :=
  ⟨fun f _ => Chip.get_congr rfl f, fun _ => rfl, rfl, rfl⟩

/-- The mark of a refused trigger is cleared where the word written says so. -/
def Chip.refusalCleared (a : Nat) (v : Word) : Chip :=
  if (F.PRT_ALIGN_CTRL_refused a).ofB v then c.w1c (F.PRT_ALIGN_CTRL_refused a) else c

theorem Chip.refusalCleared_moves (a : Nat) (v : Word) : AlignMoves a c (c.refusalCleared a v) := by
  unfold Chip.refusalCleared
  split
  · refine ⟨fun f hf => ?_, fun n => Chip.lane_congr (c.w1c_prt _) n, c.w1c_time _, c.w1c_fold _⟩
    unfold Chip.w1c
    split
    · exact (Chip.get_congr rfl f).trans (c.get_put_ne hf 0)
    · exact Chip.get_congr rfl f
  · exact ⟨fun _ _ => rfl, fun _ => rfl, rfl, rfl⟩

/-! ## Triggers (R230) -/

/-- A trigger is pending, and one lane's start with it. -/
def Chip.trigPending (a t : Nat) : Chip := (c.setAlign a { c.align a with trigAt := some t }).put (F.PRT_ALIGN_CTRL_go a) 1
def Chip.laneTriggered (t n : Nat) : Chip :=
  (c.setLane n { c.lane n with startAt := some (t * rootPerTick), trig := true }).put (F.PRT_LANE_STAT_state n) laneStarting

theorem Chip.laneTriggered_moves (t n : Nat) : LaneMoves n c (c.laneTriggered t n) := (LaneMoves.refl n c).setLane.putStat

theorem Chip.laneTriggered_state (t n : Nat) : (c.laneTriggered t n).laneState n = laneStarting := Chip.get_put_cut _ rfl _

theorem Chip.laneTriggered_startAt (t n : Nat) : ((c.laneTriggered t n).lane n).startAt = some (t * rootPerTick) := by
  rw [Chip.laneTriggered, Chip.lane_put, Chip.lane_setLane_self]

theorem Chip.askTrigger_taken {a : Nat} (h : Sys2Proof.triggerable c a = true) :
    c.askTrigger a = (c.alignLanes a).foldl (fun d n => d.laneTriggered (c.rd64 (R.PRT_ALIGN_AT_LO a) (R.PRT_ALIGN_AT_HI a)) n)
      (c.trigPending a (c.rd64 (R.PRT_ALIGN_AT_LO a) (R.PRT_ALIGN_AT_HI a))) := by
  simp only [Sys2Proof.triggerable, Bool.and_eq_true, decide_eq_true_eq, Bool.not_eq_true'] at h
  obtain ⟨⟨⟨⟨hloaded, hframe⟩, hsoon⟩, hstopped⟩, hhalted⟩ := h
  simp only [Chip.askTrigger, hloaded, hframe, Nat.not_lt.mpr hsoon, hstopped, hhalted, ne_eq, not_true_eq_false, decide_false,
    Bool.not_true, Bool.or_self, Bool.false_eq_true, if_false]
  rfl

/-- Lane `n` starts at the instant `t`. -/
def Triggered (t n : Nat) (d : Chip) : Prop := d.laneState n = laneStarting ∧ (d.lane n).startAt = some (t * rootPerTick)

theorem Triggered.step {t n : Nat} {d : Chip} (h : Triggered t n d) (m : Nat) : Triggered t n (d.laneTriggered t m) := by
  by_cases hm : n = m
  · subst hm
    exact ⟨d.laneTriggered_state t n, d.laneTriggered_startAt t n⟩
  · have hmoves := d.laneTriggered_moves t m
    exact ⟨(hmoves.state hm).trans h.1, (congrArg Lane.startAt (hmoves.other n hm)).trans h.2⟩

/-- What a list of lanes that each change alone keeps of an alignment group. -/
theorem foldl_laneMoves {g : Chip → Nat → Chip} (hg : ∀ n d, LaneMoves n d (g d n)) (l : List Nat) (hl : ∀ n ∈ l, n < 32)
    (a : Nat) : (l.foldl g c).align a = c.align a ∧ (l.foldl g c).bit (F.PRT_ALIGN_CTRL_go a) = c.bit (F.PRT_ALIGN_CTRL_go a) :=
  List.foldlRecOn (motive := fun d : Chip => d.align a = c.align a ∧ d.bit (F.PRT_ALIGN_CTRL_go a) = c.bit (F.PRT_ALIGN_CTRL_go a)) l g
    ⟨rfl, rfl⟩ fun d hd n hn => ⟨((hg n d).align a).trans hd.1, ((hg n d).go (hl n hn) a).trans hd.2⟩

/-! ## Triggered starts (R230, R232) -/

/-- The lane of a triggered start that is due, and the lane after it. -/
def Chip.trigDue (n : Nat) : Bool := (c.lane n).trig && (c.lane n).startAt.isSome && !dueAt c.now (c.lane n).stopAt
def Chip.trigLane (n : Nat) : Chip := if c.trigDue n then c.startLane n true else c

/-- The trigger of an alignment group is spent. -/
def Chip.trigSpent (a : Nat) : Chip :=
  ((c.setAlign a { c.align a with trigAt := none }).put (F.PRT_ALIGN_CTRL_go a) 0).put (F.PRT_ALIGN_CTRL_lost a) 0

theorem Chip.trigSpent_moves (a : Nat) : AlignMoves a c (c.trigSpent a) :=
  ((c.setAlign_alignMoves a _).trans (Chip.put_alignMoves _ rfl 0)).trans (Chip.put_alignMoves _ rfl 0)

theorem Chip.trigStart_due {a : Nat} (hb : c.onBoundary = true) (ht : (c.align a).trigAt = some c.time.stc)
    (hl : c.get F.FOLD_STAT_state ≠ 3) : c.trigStart a = (c.alignLanes a).foldl Chip.trigLane (c.trigSpent a) := by
  rw [← (c.trigSpent_moves a).alignLanes a]
  simp only [Chip.trigStart, hb, ht, hl, ne_eq, not_false_eq_true, decide_true, Bool.and_self, if_true]
  rfl

/-- Lane `n` started as `l` gives its state, and waits for no trigger. -/
def Started (n : Nat) (l : Lane) (d : Chip) : Prop := d.laneState n = l.live ∧ (d.lane n).trig = false

theorem Chip.startLane_other {n m : Nat} (hn : n < 32) (hm : m < 32) (hne : m ≠ n) (trig : Bool) :
    (c.startLane n trig).lane m = c.lane m ∧ (c.startLane n trig).laneState m = c.laneState m := by
  have hbegun := c.laneBegun_moves n
  have hmoves := c.startLane_moves n trig
  exact ⟨(hmoves.other m hne).trans (hbegun.other m hne), (hmoves.state hn hm).trans (hbegun.state hne)⟩

theorem Chip.startLane_time (n : Nat) (trig : Bool) : (c.startLane n trig).time = c.time :=
  (c.startLane_moves n trig).time.trans (c.laneBegun_moves n).time

theorem Chip.trigLane_time (n : Nat) : (c.trigLane n).time = c.time := by
  unfold Chip.trigLane
  split
  · exact c.startLane_time n true
  · rfl

theorem Started.step {n m : Nat} (hn : n < 32) (hm : m < 32) {l : Lane} {d : Chip} (h : Started n l d) : Started n l (d.trigLane m) := by
  obtain ⟨hstate, htrig⟩ := h
  unfold Chip.trigLane
  split
  next hdue =>
    have hne : n ≠ m := by
      rintro rfl
      simp [Chip.trigDue, htrig] at hdue
    obtain ⟨hlane, hother⟩ := d.startLane_other hm hn hne true
    exact ⟨hother.trans hstate, (congrArg Lane.trig hlane).trans htrig⟩
  next => exact ⟨hstate, htrig⟩

theorem Chip.trigLane_started {n : Nat} (hn : n < 32) (hdue : c.trigDue n = true) : Started n (c.lane n) (c.trigLane n) := by
  rw [Chip.trigLane, if_pos hdue]
  exact ⟨c.startLane_state hn true, congrArg (fun p => p.2.2) (c.startLane_plan n true)⟩

theorem Chip.trigLane_other {n m : Nat} (hn : n < 32) (hm : m < 32) (hne : n ≠ m) : (c.trigLane m).lane n = c.lane n := by
  unfold Chip.trigLane
  split
  · exact (c.startLane_other hm hn hne true).1
  · rfl

/-- Every lane of a list whose triggered start is due has started. -/
theorem foldl_trigLane {n : Nat} (hn : n < 32) (hdue : c.trigDue n = true) (l : List Nat) (hl : ∀ m ∈ l, m < 32) (hmem : n ∈ l) :
    Started n (c.lane n) (l.foldl Chip.trigLane c) := by
  have hto : ∀ d : Chip, d.time = c.time ∧ (d.lane n = c.lane n ∨ Started n (c.lane n) d) →
      Started n (c.lane n) (d.trigLane n) := by
    rintro d ⟨ht, hlane | hd⟩
    · have hd : d.trigDue n = true := by
        have hnow : d.now = c.now := by rw [Chip.now, ht, Chip.now]
        rw [Chip.trigDue, hlane, hnow]
        exact hdue
      exact hlane ▸ d.trigLane_started hn hd
    · exact hd.step hn hn
  refine foldl_reaches hto l (fun m hm d hd => ⟨(d.trigLane_time m).trans hd.1, ?_⟩) (fun m hm d hd => hd.step hn (hl m hm)) hmem c
    ⟨rfl, .inl rfl⟩
  by_cases hne : n = m
  · exact .inr (hne ▸ hto d hd)
  · exact hd.2.imp (fun h => (d.trigLane_other hn (hl m hm) hne).trans h) fun h => h.step hn (hl m hm)

theorem alignGo_free_words : ∀ (a : Fin 8) (n : Fin 32), (F.PRT_ALIGN_CTRL_go a.val).freeOf (wordFlds n.val) = true := by decide +kernel

theorem Chip.trigLane_align {n : Nat} (hn : n < 32) (a : Fin 8) :
    (c.trigLane n).align a.val = c.align a.val ∧ (c.trigLane n).bit (F.PRT_ALIGN_CTRL_go a.val) = c.bit (F.PRT_ALIGN_CTRL_go a.val) := by
  unfold Chip.trigLane
  split
  · have hbegun := c.laneBegun_moves n
    have hmoves := c.startLane_moves n true
    exact ⟨(Chip.align_congr hmoves.aligns _).trans (hbegun.align _),
      (hmoves.get.bit (alignGo_free_words a ⟨n, hn⟩)).trans (hbegun.go hn _)⟩
  · exact ⟨rfl, rfl⟩

theorem foldl_trigLane_align (l : List Nat) (hl : ∀ n ∈ l, n < 32) (a : Fin 8) :
    (l.foldl Chip.trigLane c).align a.val = c.align a.val ∧
      (l.foldl Chip.trigLane c).bit (F.PRT_ALIGN_CTRL_go a.val) = c.bit (F.PRT_ALIGN_CTRL_go a.val) :=
  List.foldlRecOn
    (motive := fun d : Chip => d.align a.val = c.align a.val ∧ d.bit (F.PRT_ALIGN_CTRL_go a.val) = c.bit (F.PRT_ALIGN_CTRL_go a.val)) l
    Chip.trigLane ⟨rfl, rfl⟩ fun d hd n hn =>
      ⟨(d.trigLane_align (hl n hn) a).1.trans hd.1, (d.trigLane_align (hl n hn) a).2.trans hd.2⟩

/-! ## Stops (R231) -/

/-- The trigger of an alignment group is cancelled, and its stop asked for. -/
def Chip.trigCancelled (a : Nat) : Chip := (c.setAlign a { c.align a with trigAt := none }).put (F.PRT_ALIGN_CTRL_go a) 0
def Chip.lanesStopped (a : Nat) : Chip :=
  ((c.trigCancelled a).alignLanes a).foldl Chip.askStop ((c.trigCancelled a).put (F.PRT_ALIGN_CTRL_stop a) 1)

theorem Chip.askAlignStop_eq (a : Nat) :
    c.askAlignStop a = (((c.lanesStopped a).alignLanes a).foldl Chip.dropTrig (c.lanesStopped a)).settleAlign a := rfl

theorem Chip.trigCancelled_moves (a : Nat) : AlignMoves a c (c.trigCancelled a) :=
  (c.setAlign_alignMoves a _).trans (Chip.put_alignMoves _ rfl 0)

/-- Lane `n` waits to stop at `t`. -/
def Stopping (n t : Nat) (d : Chip) : Prop := d.laneState n = laneStopping ∧ (d.lane n).stopAt = some t

section

variable {n t : Nat} {d : Chip}

theorem Stopping.other (h : Stopping n t d) {m : Nat} {e : Chip} (hm : LaneMoves m d e) (hne : n ≠ m) : Stopping n t e :=
  ⟨(hm.state hne).trans h.1, (congrArg Lane.stopAt (hm.other n hne)).trans h.2⟩

theorem Stopping.askStop (h : Stopping n t d) (m : Nat) : Stopping n t (d.askStop m) := by
  by_cases hne : n = m
  · subst hne
    have hkeep : d.askStop n = d := by simp [Chip.askStop, h.1, laneStopping, laneStarting, laneRunning]
    rwa [hkeep]
  · exact h.other (d.askStop_moves m) hne

theorem Stopping.dropTrig (h : Stopping n t d) (m : Nat) : Stopping n t (d.dropTrig m) := by
  by_cases hne : n = m
  · subst hne
    obtain ⟨hstate, hstop⟩ := h
    simp only [Chip.dropTrig, hstop, Option.isSome_some, if_true]
    split
    · exact ⟨hstate, hstop⟩
    · exact ⟨(((Chip.setLane_keepsFlds _ n _) _ (Fld.freeOf_same _ (by decide) (by decide))).trans hstate :),
        congrArg Lane.stopAt (d.lane_setLane_self n _)⟩
  · exact h.other (d.dropTrig_moves m) hne

end

/-- Every lane of a list that starts or runs waits to stop. -/
theorem foldl_askStop {n : Nat} (hen : c.laneEn n = true) (hlive : c.laneState n = laneStarting ∨ c.laneState n = laneRunning)
    (l : List Nat) (hl : ∀ m ∈ l, m < 32) (hmem : n ∈ l) : Stopping n (c.now + c.framePeriod) (l.foldl Chip.askStop c) := by
  have hto : ∀ d : Chip, (SamePlan c d ∧ d.laneEn n = true ∧ ((d.laneState n = laneStarting ∨ d.laneState n = laneRunning) ∨
      Stopping n (c.now + c.framePeriod) d)) → Stopping n (c.now + c.framePeriod) (d.askStop n) := by
    rintro d ⟨hplan, hon, hrun | hstop⟩
    · rw [d.askStop_taken hon hrun]
      exact ⟨d.stopAsked_state n, by rw [d.stopAsked_lane n, hplan.now, hplan.framePeriod]⟩
    · exact hstop.askStop n
  refine foldl_reaches hto l (fun m hm d hd => ?_) (fun m _ d hd => hd.askStop m) hmem c ⟨.of_regs rfl rfl rfl, hen, .inl hlive⟩
  have hmoves := d.askStop_moves m
  refine ⟨hd.1.trans (hmoves.plan (hl m hm)), hmoves.en.trans hd.2.1, ?_⟩
  by_cases hne : n = m
  · exact .inr (hne ▸ hto d hd)
  · exact hd.2.2.imp (fun h => by rwa [hmoves.state hne]) fun h => h.askStop m

theorem Stopping.settleAlign {n t : Nat} {d : Chip} (h : Stopping n t d) (a : Nat) : Stopping n t (d.settleAlign a) := by
  refine ⟨Eq.trans (d.settleAlign_keepsFlds a _ (Fld.freeOf_of_addr rfl fun f hf => ?_)) h.1, ?_⟩
  · rw [List.mem_singleton.mp hf]
    simp only [F.PRT_ALIGN_CTRL_stop, F.PRT_LANE_STAT_state, R.PRT_ALIGN_CTRL, R.PRT_LANE_STAT]
    omega
  · rw [Chip.lane_congr (d.settleAlign_prt a), h.2]

/-- A lane that starts or runs when its alignment group is stopped waits to stop (R231). -/
theorem Chip.askAlignStop_stopping {a n : Nat} (ha : a < 8) (hn : n ∈ c.alignLanes a)
    (hlive : c.laneState n = laneStarting ∨ c.laneState n = laneRunning) :
    Stopping n (c.now + c.framePeriod) (c.askAlignStop a) := by
  have hcancel := c.trigCancelled_moves a
  have hmoves : AlignMoves a c ((c.trigCancelled a).put (F.PRT_ALIGN_CTRL_stop a) 1) := hcancel.trans (Chip.put_alignMoves _ rfl 1)
  have hen : c.laneEn n = true := (Bool.and_eq_true _ _ ▸ (List.mem_filter.mp hn).2).1
  have hstopped : Stopping n (c.now + c.framePeriod) (c.lanesStopped a) := by
    rw [Chip.lanesStopped, hcancel.alignLanes, ← (hmoves.plan ha).now, ← (hmoves.plan ha).framePeriod]
    exact foldl_askStop _ ((hmoves.en n).trans hen) (by rwa [hmoves.state]) _ (fun m hm => c.alignLanes_lt hm) hn
  rw [Chip.askAlignStop_eq]
  exact (List.foldlRecOn (motive := Stopping n (c.now + c.framePeriod)) _ _ hstopped fun d hd m _ => hd.dropTrig m).settleAlign a

/-- No trigger is pending after a stop of an alignment group (R231). -/
theorem Chip.askAlignStop_align (a : Nat) :
    ((c.askAlignStop a).align a).trigAt = none ∧ (c.askAlignStop a).bit (F.PRT_ALIGN_CTRL_go a) = false := by
  obtain ⟨hstop, hstopGo⟩ := foldl_laneMoves ((c.trigCancelled a).put (F.PRT_ALIGN_CTRL_stop a) 1) (fun n d => d.askStop_moves n)
    ((c.trigCancelled a).alignLanes a) (fun n hn => Chip.alignLanes_lt _ hn) a
  obtain ⟨hdrop, hdropGo⟩ := foldl_laneMoves (c.lanesStopped a) (fun n d => d.dropTrig_moves n) ((c.lanesStopped a).alignLanes a)
    (fun n hn => Chip.alignLanes_lt _ hn) a
  rw [Chip.askAlignStop_eq, Chip.align_congr (congrArg PrtSt.aligns (Chip.settleAlign_prt _ a)), hdrop, Chip.lanesStopped, hstop,
    (Chip.settleAlign_keepsFlds _ a).bit (g := F.PRT_ALIGN_CTRL_go a) (Fld.freeOf_same _ (by decide) (by decide))]
  refine ⟨?_, hdropGo.trans (hstopGo.trans ?_)⟩
  · rw [Chip.align_put, Chip.trigCancelled, Chip.align_put, Chip.align_setAlign_self]
  · exact (Chip.bit_put_free _ (Fld.freeOf_same _ (by decide) (by decide)) 1).trans (Chip.put_zero_bit _ rfl)

end Sys2Proof.Machine

namespace Sys2Proof

open Sys2Proof.Machine

variable {c : Chip} {r : Req} {a : BitVec 3} {v : Word}

theorem alignGo_effect (h : portReady c (.alignGo r a v) = true) :
    accepts c r (R.PRT_ALIGN_CTRL a.toNat) = true ∧ portEffect c (c.writeAlign a.toNat v) (.alignGo r a v) := by
  simp only [portReady, Bool.and_eq_true, Bool.not_eq_true'] at h
  obtain ⟨⟨⟨hacc, hgo⟩, hstop⟩, htrig⟩ := h
  refine ⟨hacc, ?_⟩
  have hmoves := c.refusalCleared_moves a.toNat v
  have hwrite : c.writeAlign a.toNat v = (c.refusalCleared a.toNat v).askTrigger a.toNat := by
    simp only [Chip.writeAlign, hgo, hstop, if_true, Bool.false_eq_true, if_false]
    rfl
  rw [portEffect, hwrite, Chip.askTrigger_taken _ ((hmoves.triggerable a.isLt _).trans htrig), hmoves.instant, hmoves.alignLanes]
  generalize c.rd64 (R.PRT_ALIGN_AT_LO a.toNat) (R.PRT_ALIGN_AT_HI a.toNat) = t
  generalize c.refusalCleared a.toNat v = d
  obtain ⟨halign, hbit⟩ := foldl_laneMoves (d.trigPending a.toNat t) (fun n d => d.laneTriggered_moves t n) (c.alignLanes a.toNat)
    (fun n hn => c.alignLanes_lt hn) a.toNat
  refine ⟨?_, hbit.trans (Chip.put_one_bit _ rfl rfl), fun n hn => ?_⟩
  · rw [halign, Chip.trigPending, Chip.align_put, Chip.align_setAlign_self]
  · exact foldl_reaches (J := fun _ => True) (K := Triggered t n) (fun d _ => ⟨d.laneTriggered_state t n, d.laneTriggered_startAt t n⟩)
      _ (fun _ _ _ h => h) (fun m _ d h => h.step m) hn _ trivial

theorem triggeredStart_effect (h : portReady c (.triggeredStart a) = true) : portEffect c (c.trigStart a.toNat) (.triggeredStart a) := by
  simp only [portReady, Bool.and_eq_true, decide_eq_true_eq] at h
  obtain ⟨⟨hb, ht⟩, hl⟩ := h
  have hmoves := c.trigSpent_moves a.toNat
  rw [portEffect, c.trigStart_due hb ht hl]
  obtain ⟨halign, hbit⟩ := foldl_trigLane_align (c.trigSpent a.toNat) (c.alignLanes a.toNat) (fun n hn => c.alignLanes_lt hn)
    ⟨a.toNat, a.isLt⟩
  refine ⟨?_, hbit.trans ?_, fun n hn htrig hstart hstop => ?_⟩
  · rw [halign, Chip.trigSpent, Chip.align_put, Chip.align_put, Chip.align_setAlign_self]
  · exact (Chip.bit_put_free _ (Fld.freeOf_same _ (by decide) (by decide)) 0).trans (Chip.put_zero_bit _ rfl)
  · have hdue : (c.trigSpent a.toNat).trigDue n = true := by
      rw [Chip.trigDue, hmoves.lane, (hmoves.plan a.isLt).now, htrig, hstop, Option.isSome_iff_ne_none.mpr hstart]
      rfl
    have hstarted := foldl_trigLane _ (c.alignLanes_lt hn) hdue (c.alignLanes a.toNat) (fun m hm => c.alignLanes_lt hm) hn
    rw [hmoves.lane] at hstarted
    exact hstarted.1

theorem alignStop_effect (h : portReady c (.alignStop r a v) = true) :
    accepts c r (R.PRT_ALIGN_CTRL a.toNat) = true ∧ portEffect c (c.writeAlign a.toNat v) (.alignStop r a v) := by
  simp only [portReady, Bool.and_eq_true, Bool.not_eq_true'] at h
  obtain ⟨⟨hacc, hstop⟩, hgo⟩ := h
  refine ⟨hacc, ?_⟩
  have hmoves := c.refusalCleared_moves a.toNat v
  have hwrite : c.writeAlign a.toNat v = (c.refusalCleared a.toNat v).askAlignStop a.toNat := by
    simp only [Chip.writeAlign, hgo, hstop, if_true, Bool.false_eq_true, if_false]
    rfl
  obtain ⟨htrig, hgone⟩ := (c.refusalCleared a.toNat v).askAlignStop_align a.toNat
  rw [portEffect, hwrite]
  refine ⟨htrig, hgone, fun n hn hlive => ?_⟩
  have hstopping := Chip.askAlignStop_stopping _ a.isLt (by rwa [hmoves.alignLanes]) (by rwa [hmoves.state])
  rwa [(hmoves.plan a.isLt).now, (hmoves.plan a.isLt).framePeriod] at hstopping

end Sys2Proof
end

section
/-! PROOFS. The rows of lanes, clock groups and alignment groups complete with their effects (R207 to R233). -/

-- One theorem at a time: many at once, each with a thread of its own, do not fit in memory.
set_option Elab.async false

namespace Sys2Proof

open Sys2Proof.Machine

section

variable (s : State)

theorem exec_groupHalt (r : Req) (g : BitVec 3) : exec (.groupHalt r g) s =
    s.act fun c => c.guarded r (R.PRT_GRP_CTRL g.toNat) fun c => c.writeHalt g.toNat (F.PRT_GRP_CTRL_halt g.toNat).mask := rfl
theorem exec_groupRelease (r : Req) (g : BitVec 3) : exec (.groupRelease r g) s =
    s.act fun c => c.guarded r (R.PRT_GRP_CTRL g.toNat) fun c => c.writeHalt g.toNat 0 := rfl
theorem exec_groupHaltEffect (g : BitVec 3) : exec (.groupHaltEffect g) s = s.act fun c => c.haltEffect g.toNat := rfl
theorem exec_groupReleaseEffect (g : BitVec 3) : exec (.groupReleaseEffect g) s = s.act fun c => c.releaseEffect g.toNat := rfl
theorem exec_frameStart (g : BitVec 3) (bits : Nat) (phase : Word16) : exec (.frameStart g bits phase) s =
    s.act fun c => c.frameStart g.toNat bits phase.toNat := rfl
theorem exec_slaveClockLoss (g : BitVec 3) : exec (.slaveClockLoss g) s = s.act fun c => c.clockLoss g.toNat := rfl
theorem exec_asrcLockChange (g : BitVec 3) (locked : Bool) (ratio : Word) : exec (.asrcLockChange g locked ratio) s =
    s.act fun c => c.asrcLock g.toNat locked ratio := rfl
theorem exec_serialWord (n : BitVec 5) (slot : BitVec 4) (w : Word) : exec (.serialWord n slot w) s =
    s.act fun c => c.serialWord n.toNat slot.toNat w := rfl
theorem exec_laneFillReached (n : BitVec 5) : exec (.laneFillReached n) s = s.act fun c => c.lanePass n.toNat := rfl
theorem exec_maskWrite (r : Req) (n : BitVec 5) (v : Word) (late : Bool) : exec (.maskWrite r n v late) s =
    s.act fun c => c.guarded r (R.PRT_LANE_MASK n.toNat) fun c => c.writeMask n.toNat v late := rfl
theorem exec_maskApply (n : BitVec 5) : exec (.maskApply n) s = s.act fun c => c.maskApply n.toNat := rfl
theorem exec_laneStartRequest (r : Req) (n : BitVec 5) (v : Word) : exec (.laneStartRequest r n v) s =
    s.act fun c => c.guarded r (R.PRT_LANE_CTRL n.toNat) fun c => c.writeLaneCtrl n.toNat v := rfl
theorem exec_laneStart (n : BitVec 5) : exec (.laneStart n) s = s.act fun c => c.laneStart n.toNat := rfl
theorem exec_laneStopRequest (r : Req) (n : BitVec 5) (v : Word) : exec (.laneStopRequest r n v) s =
    s.act fun c => c.guarded r (R.PRT_LANE_CTRL n.toNat) fun c => c.writeLaneCtrl n.toNat v := rfl
theorem exec_laneStop (n : BitVec 5) : exec (.laneStop n) s = s.act fun c => c.laneStop n.toNat := rfl
theorem exec_alignGo (r : Req) (a : BitVec 3) (v : Word) : exec (.alignGo r a v) s =
    s.act fun c => c.guarded r (R.PRT_ALIGN_CTRL a.toNat) fun c => c.writeAlign a.toNat v := rfl
theorem exec_triggeredStart (a : BitVec 3) : exec (.triggeredStart a) s = s.act fun c => c.trigStart a.toNat := rfl
theorem exec_alignStop (r : Req) (a : BitVec 3) (v : Word) : exec (.alignStop r a v) s =
    s.act fun c => c.guarded r (R.PRT_ALIGN_CTRL a.toNat) fun c => c.writeAlign a.toNat v := rfl

end

/-- A row of the ports completes with the effect that its action has in the ports. -/
theorem completes_port {i : Instr} {s : State} {f : Chip → Chip} (he : exec i s = s.act f) (h : portEffect s.chip (f s.chip) i) :
    Completes i s fun d => portEffect s.chip d i :=
  completes_act he (portEffect_samePorts (f s.chip).settle_samePorts h)

/-- A request that is accepted completes with the effect of what it asks for. -/
theorem completes_portRequest {i : Instr} {s : State} {r : Req} {a : Nat} {f : Chip → Chip}
    (he : exec i s = s.act fun c => c.guarded r a f) (h : accepts s.chip r a = true ∧ portEffect s.chip (f s.chip) i) :
    Completes i s fun d => portEffect s.chip d i := by
  obtain ⟨hacc, heffect⟩ := h
  exact completes_port he (by rwa [Chip.guarded_accepted _ hacc])

/-- Settles O35: each row that is due, or that takes a request, has its effect in the ports, which the end of the command leaves
alone. -/
theorem portRowsComplete : Obligations.PortRowsComplete := by
  intro i s _ h
  cases i
  case groupHalt => exact completes_portRequest (exec_groupHalt s _ _) (groupHalt_effect h)
  case groupRelease => exact completes_portRequest (exec_groupRelease s _ _) (groupRelease_effect h)
  case groupHaltEffect => exact completes_port (exec_groupHaltEffect s _) (groupHaltEffect_effect h)
  case groupReleaseEffect => exact completes_port (exec_groupReleaseEffect s _) (groupReleaseEffect_effect h)
  case frameStart => exact completes_port (exec_frameStart s _ _ _) (frameStart_effect h)
  case slaveClockLoss => exact completes_port (exec_slaveClockLoss s _) (slaveClockLoss_effect h)
  case asrcLockChange => exact completes_port (exec_asrcLockChange s _ _ _) (asrcLockChange_effect h)
  case serialWord => exact completes_port (exec_serialWord s _ _ _) (serialWord_effect h)
  case laneFillReached => exact completes_port (exec_laneFillReached s _) (laneFillReached_effect h)
  case maskWrite => exact completes_portRequest (exec_maskWrite s _ _ _ _) (maskWrite_effect h)
  case maskApply => exact completes_port (exec_maskApply s _) maskApply_effect
  case laneStartRequest => exact completes_portRequest (exec_laneStartRequest s _ _ _) (laneStartRequest_effect h)
  case laneStart => exact completes_port (exec_laneStart s _) (laneStart_effect h)
  case laneStopRequest => exact completes_portRequest (exec_laneStopRequest s _ _ _) (laneStopRequest_effect h)
  case laneStop => exact completes_port (exec_laneStop s _) (laneStop_effect h)
  case alignGo => exact completes_portRequest (exec_alignGo s _ _ _) (alignGo_effect h)
  case triggeredStart => exact completes_port (exec_triggeredStart s _) (triggeredStart_effect h)
  case alignStop => exact completes_portRequest (exec_alignStop s _ _ _) (alignStop_effect h)
  all_goals exact absurd h Bool.false_ne_true

end Sys2Proof
end

section
/-! PROOFS. The crook's `trap` and its privileged instructions at user level (R255, R260 to R264), and the step's order of commands. -/

namespace Sys2Proof.Machine

variable (c : Chip)

/-! ## `trap` (R261, R263) -/

/-- The status that a trap saves (R255, R261). -/
theorem Chip.takeTrap_estat {vec : Nat} (hm : c.crook.mode.getLsbD 2 = false) (hv : c.crook.vbase.toNat + 16 * vec < 2 ^ 20)
    (epc t : Nat) (ds sync : Bool) (fa : Option Word) : (c.takeTrap vec epc t ds sync fa).crook.estat =
      (c.crook.mode.zeroExtend 8 <<< 5) ||| c.crook.core.fl.zeroExtend 8 := by
  unfold Chip.takeTrap
  simp only [hm, Bool.and_false, Bool.false_eq_true, if_false, if_neg (Nat.not_le.mpr hv)]
  rfl

/-- The cause of the trap instruction names its operand (R263). -/
theorem Chip.takeTrap_cause_seven (hm : c.crook.mode.getLsbD 2 = false) (hv : c.crook.vbase.toNat + 16 * 7 < 2 ^ 20)
    (epc t : Nat) (sync : Bool) (fa : Option Word) :
    (c.takeTrap 7 epc t false sync fa).crook.cause = BitVec.ofNat 17 (7 + 256 * t) := by
  unfold Chip.takeTrap
  simp only [hm, Bool.and_false, Bool.false_eq_true, if_false, if_neg (Nat.not_le.mpr hv)]
  exact congrArg (BitVec.ofNat 17) (by simp [b2n]; omega)

/-- A trap leaves the registers of the core. -/
theorem Chip.takeTrap_registers {vec : Nat} (hm : c.crook.mode.getLsbD 2 = false) (hv : c.crook.vbase.toNat + 16 * vec < 2 ^ 20)
    (epc t : Nat) (ds sync : Bool) (fa : Option Word) : let k := (c.takeTrap vec epc t ds sync fa).crook.core
      k.p = c.crook.core.p ∧ k.acc = c.crook.core.acc ∧ k.q = c.crook.core.q := by
  unfold Chip.takeTrap
  simp only [hm, Bool.and_false, Bool.false_eq_true, if_false, if_neg (Nat.not_le.mpr hv)]
  exact ⟨rfl, rfl, rfl⟩

/-- Outside slots and block repeats the trap instruction traps at the address behind it, in the cycle of its issue. -/
theorem Chip.advancePc_trap (len t : Nat) (hl : c.crook.core.lc = []) (hs : c.crook.core.slot = .none) :
    c.advancePc .crook len (.trap t) = (c.setCore .crook { c.crook.core with
      pc := Sys2Proof.pcAfter .crook c.crook.core len, cyc := c.crook.core.cyc - 1 }).takeTrap 7
        (Sys2Proof.pcAfter .crook c.crook.core len) t false true none := by
  have hseq := fun next body f => Core.stepSeq_plain c.crook.core hl hs next body f
  unfold Chip.advancePc
  simp only [Chip.core, hs, show ∀ next body f, c.crook.core.stepSeq next (.trap t) body f = c.crook.core.stepSeq next .seq body f
    from fun _ _ _ => rfl, hseq]
  rfl

/-- The crook as its trap instruction leaves it to the trap: its flags, mode and vectors are as they were. -/
structure BehindTrap (c d : Chip) : Prop where
  fl : d.crook.core.fl = c.crook.core.fl
  mode : d.crook.mode = c.crook.mode
  vbase : d.crook.vbase = c.crook.vbase

/-- The trap instruction is issued as a trap at the address behind it. -/
theorem Chip.issue_trap {px : Px} {e : Enc} (t : Nat) (hi : Sys2Proof.plainIssue c .crook px e = true)
    (hl : c.crook.core.lc = []) (hn : Ctx.nullified ⟨.crook, c.crook.core, px⟩ = false) :
    ∃ d, BehindTrap c d ∧ c.issue .crook px e (opFlow (.trap t)) =
      d.takeTrap 7 (Sys2Proof.pcAfter .crook c.crook.core (instrLen px e)) t false true none := by
  have hslot : c.crook.core.slot = .none := by
    simp only [Sys2Proof.plainIssue, Bool.and_eq_true, decide_eq_true_eq] at hi
    obtain ⟨⟨⟨⟨⟨⟨-, hslot⟩, -⟩, -⟩, -⟩, -⟩, -⟩ := hi
    exact hslot
  rw [Chip.issue_plain c .crook px e _ (Sys2Proof.atIssue c .crook) [] (.trap t) hi hn rfl, issued_id _ _ _ (by simp)]
  refine ⟨_, ?_, Chip.advancePc_trap _ (instrLen px e) t hl hslot⟩
  exact ⟨rfl, rfl, rfl⟩

end Sys2Proof.Machine

namespace Sys2Proof

open Sys2Proof.Machine

/-- Settles O49: the front command is what `step` gives to `exec`. -/
theorem stepRunsFrontCommand : Obligations.StepRunsFrontCommand := fun _ _ _ => rfl

/-- Settles O54: every step leaves the device safe, and a safe device keys the PA only with the fused radio. -/
theorem unfusedRadioNeverKeysThePa : Obligations.UnfusedRadioNeverKeysThePa := by
  intro s t hstep hfuse
  obtain ⟨hpa, -, -, -⟩ := safe_parts (everyStepLeavesTheDeviceSafe s t hstep)
  simpa [paSafe, Chip.paAllowed, hfuse] using hpa

/-- Settles O20: the trap is taken behind the instruction, since the crook's slots and levels are empty. -/
theorem trapInstructionEntersItsVector : Obligations.TrapInstructionEntersItsVector := by
  intro s px f8 t hplain hm hvec
  obtain ⟨-, hissue, hloop, hnull⟩ := hplain
  have hlc : s.chip.crook.core.lc = [] := by simpa [noLoop, Chip.core] using hloop
  refine completes_act (f := fun c => c.issue .crook px _ (opFlow (.trap t.toNat))) rfl ?_
  obtain ⟨d, hd, htrap⟩ := Chip.issue_trap s.chip t.toNat hissue hlc hnull
  have hmode : d.crook.mode.getLsbD 2 = false := hd.mode ▸ hm
  have hroom : d.crook.vbase.toNat + 16 * 7 < 2 ^ 20 := hd.vbase ▸ hvec
  have hin := Chip.takeTrap_enters d hmode hroom (pcAfter .crook s.chip.crook.core (instrLen px ⟨0xB0, f8.toNat + 256 * t.toNat⟩))
    t.toNat false true none
  rw [htrap, Chip.settle_crook, Chip.takeTrap_cause_seven d hmode hroom, Chip.takeTrap_estat d hmode hroom, hd.mode, hd.fl,
    hin.pc, hd.vbase]
  exact ⟨hin.epc, rfl, rfl, hin.mode, rfl⟩

/-- Settles O23: the issue stops at the privilege check, and its trap leaves the registers. -/
theorem privilegedInstructionTrapsInUserMode : Obligations.PrivilegedInstructionTrapsInUserMode := by
  intro i s px e henc hpriv huser hm hcan hpend hslot hfetch hok hvec
  obtain ⟨body, hexec⟩ := exec_eq_issue henc
  have hissue : s.chip.issue .crook px e body = s.chip.takeTrap 2 s.chip.crook.core.pc 0 false true none := by
    have hland := Chip.landTo_nil s.chip .crook s.chip.crook.core.cyc hpend
    unfold Chip.issue
    simp only [hcan, Chip.core, hland]
    simp only [hslot, hfetch, Proc.isCrook, ne_eq, not_true_eq_false, decide_false, hok, hpriv, huser]
    exact Chip.fail_crook s.chip hslot 0 (2, none)
  refine completes_act (hexec s) ?_
  rw [hissue, Chip.settle_crook]
  have hin := Chip.takeTrap_enters s.chip (vec := 2) hm hvec s.chip.crook.core.pc 0 false true none
  obtain ⟨hp, hacc, hq⟩ := Chip.takeTrap_registers s.chip (vec := 2) hm hvec s.chip.crook.core.pc 0 false true none
  exact ⟨hin.pc, hin.epc, hin.mode, hp, hacc, hq⟩

end Sys2Proof
end

section
/-! PROOFS. The word that the output guard delivers lies within its ceiling (R287, R288). -/

namespace Sys2Proof.Machine

variable (c : Chip) (ch : Nat)

/-! ## What the guard's steps leave of the registers -/

theorem Chip.dcLatch_keeps : KeepsFlds [F.GUARD_CH_STAT_dc ch] c (c.dcLatch ch) := by
  unfold Chip.dcLatch
  split
  · exact (KeepsFlds.refl c).latch.aside (Chip.levelOn_regs ..)
  · exact fun _ _ => rfl

/-- The DC detector sets its mean's register and the latch. -/
theorem Chip.guardDc_keeps (x : Int) : KeepsFlds [F.GUARD_CH_STAT_dc ch, Fld.whole (R.GUARD_CH_DCM ch)] c (c.guardDc ch x) := by
  have hmean : ∀ g w, KeepsFlds [Fld.whole (R.GUARD_CH_DCM ch)] c ((c.setGuardCh ch g).wr (R.GUARD_CH_DCM ch) w) := fun g w =>
    KeepsFlds.wr (.aside (.refl c) rfl)
  unfold Chip.guardDc
  exact (hmean _ _).append (Chip.dcLatch_keeps _ ch)

/-- The limits note a word that they cut. -/
theorem Chip.guardLimit_keeps (x : Int) :
    KeepsFlds [F.GUARD_CH_PEAK_CNT_count ch, F.GUARD_CH_STAT_peak ch] c (c.guardLimit ch x).2 := by
  unfold Chip.guardLimit
  split
  · exact fun _ _ => rfl
  · dsimp only
    by_cases h : satInt x (-Int.ofNat (c.effC ch)) (Int.ofNat (c.effC ch)) = x
    · rw [if_pos h]
      exact fun _ _ => rfl
    · rw [if_neg h]
      exact (KeepsFlds.refl c).latch.bump.aside rfl

/-- A level that begins or ends leaves the registers to the end of the command. -/
theorem Chip.levelIf_regs (t : Bool) (id : Nat) (loc : Word) : (if t then c.levelOn id loc 0 else c.levelOff id loc).regs = c.regs := by
  split
  · exact c.levelOn_regs id loc 0
  · exact c.levelOff_regs id loc

/-- The thermal model shows the heat and the trip. -/
theorem Chip.guardHeat_keeps (y : Int) :
    KeepsFlds [F.GUARD_CH_STAT_trip ch, Fld.whole (R.GUARD_CH_HEAT ch)] c (c.guardHeat ch y) := by
  have hset : ∀ g w v, KeepsFlds [F.GUARD_CH_STAT_trip ch, Fld.whole (R.GUARD_CH_HEAT ch)] c
      (((c.setGuardCh ch g).wr (R.GUARD_CH_HEAT ch) w).put (F.GUARD_CH_STAT_trip ch) v) := fun g w v =>
    (KeepsFlds.aside (.refl c) rfl).wr.put
  exact (hset _ _ _).aside (Chip.levelIf_regs _ _ Ev.GUARD_THERMAL (c.locGuardCh ch))

/-! ## The word -/

variable {c ch}

/-- A quarter lies no further from zero, rounded downwards, where zero is not the bound. -/
theorem fdiv_four_natAbs_le {y : Int} {n : Nat} (h : y.natAbs ≤ n) : (fdiv y 4).natAbs ≤ n := by
  have e : fdiv y 4 = y / 4 := Int.fdiv_eq_ediv_of_nonneg y (by decide)
  omega

theorem satInt_natAbs_le (x : Int) (n : Nat) : (satInt x (-Int.ofNat n) (Int.ofNat n)).natAbs ≤ n := by
  have h := satInt_mem (x := x) (show -Int.ofNat n ≤ Int.ofNat n by simp)
  simp only [Int.ofNat_eq_natCast] at h ⊢
  omega

theorem satInt_of_natAbs_le {x : Int} {n : Nat} (h : x.natAbs ≤ n) : satInt x (-Int.ofNat n) (Int.ofNat n) = x := by
  unfold satInt
  rw [if_neg (by simp; omega), if_neg (by simp; omega)]

/-- The limits deliver no word beyond the ceiling. -/
theorem Chip.guardLimit_le (x : Int) : (c.guardLimit ch x).1.natAbs ≤ c.effC ch := by
  unfold Chip.guardLimit
  split
  · exact Nat.zero_le _
  · dsimp only
    have hsat := satInt_natAbs_le x (c.effC ch)
    split
    · exact fdiv_four_natAbs_le hsat
    · exact hsat

theorem Chip.guardLimit_off (h : c.bit (F.GUARD_CH_STAT_dc ch) = true ∨ c.bit (F.GUARD_CH_CTRL_mute ch) = true) (x : Int) :
    (c.guardLimit ch x).1 = 0 := by
  unfold Chip.guardLimit
  rw [if_pos (by rwa [Bool.or_eq_true])]

theorem Chip.guardLimit_through (hdc : c.bit (F.GUARD_CH_STAT_dc ch) = false) (hmute : c.bit (F.GUARD_CH_CTRL_mute ch) = false)
    (htrip : c.bit (F.GUARD_CH_STAT_trip ch) = false) {x : Int} (hx : x.natAbs ≤ c.effC ch) : (c.guardLimit ch x).1 = x := by
  unfold Chip.guardLimit
  simp only [hdc, hmute, htrip, Bool.or_self, Bool.false_eq_true, if_false, satInt_of_natAbs_le hx]

/-- A register of which no field is set reads as before. -/
theorem KeepsFlds.rd {d : Chip} {l : List Fld} (h : KeepsFlds l c d) {a : Nat} (ha : (Fld.whole a).freeOf l = true) :
    d.rd a = c.rd a := by
  have hw := h _ ha
  rw [Chip.get_whole, Chip.get_whole] at hw
  exact BitVec.eq_of_toNat_eq hw

/-- The DC detector touches neither the limits nor the mute nor the trip of its channel. -/
theorem guardDc_free : ∀ ch : Fin 64, [Fld.whole (R.GUARD_CH_FUSE ch), F.GUARD_CH_LIM_pk ch, F.GUARD_CH_CTRL_mute ch,
    F.GUARD_CH_STAT_trip ch].all (·.freeOf [F.GUARD_CH_STAT_dc ch, Fld.whole (R.GUARD_CH_DCM ch)]) = true := by decide +kernel

/-- The limits and the thermal model leave the DC latch. -/
theorem dcLatch_free : ∀ ch : Fin 64, (F.GUARD_CH_STAT_dc ch).freeOf ([F.GUARD_CH_STAT_trip ch, Fld.whole (R.GUARD_CH_HEAT ch)] ++
    [F.GUARD_CH_PEAK_CNT_count ch, F.GUARD_CH_STAT_peak ch]) = true := by decide +kernel

/-- The ceiling is a word of 32 bits. -/
theorem Chip.effC_lt : c.effC ch < 2 ^ 31 := by
  have h := Nat.mod_lt (c.rd (R.GUARD_CH_FUSE ch)).toNat (show 0 < 2 ^ 16 by decide)
  unfold Chip.effC Chip.gPk
  omega

end Sys2Proof.Machine

namespace Sys2Proof

open Sys2Proof.Machine

/-- Settles O57: the limits keep the word within the ceiling, and neither the DC detector nor the thermal model touches what sets it. -/
theorem guardedWordNeverPassesItsCeiling : Obligations.GuardedWordNeverPassesItsCeiling := by
  intro c ch o hch y d ceil
  set c1 := c.guardDc ch o.toInt
  have hkeep : KeepsFlds _ c c1 := c.guardDc_keeps ch o.toInt
  have hfree := guardDc_free ⟨ch, hch⟩
  simp only [List.all_cons, List.all_nil, Bool.and_true, Bool.and_eq_true] at hfree
  obtain ⟨hfuse, hpk, hmutef, htripf⟩ := hfree
  have hceil : c1.effC ch = ceil := by
    simp only [Chip.effC, Chip.gPk, hkeep.rd hfuse, hkeep _ hpk]
    rfl
  have hy : y = BitVec.ofInt 32 (c1.guardLimit ch o.toInt).1 := rfl
  have hle := Chip.guardLimit_le (c := c1) (ch := ch) o.toInt
  have hyi : y.toInt = (c1.guardLimit ch o.toInt).1 := by
    have hlt := Chip.effC_lt (c := c1) (ch := ch)
    rw [hy]
    exact Word.toInt_ofInt (by omega) (by omega)
  have hdc : d.bit (F.GUARD_CH_STAT_dc ch) = c1.bit (F.GUARD_CH_STAT_dc ch) :=
    ((c1.guardLimit_keeps ch o.toInt).append (Chip.guardHeat_keeps _ ch _)).bit (dcLatch_free ⟨ch, hch⟩)
  have hmute : c1.bit (F.GUARD_CH_CTRL_mute ch) = c.bit (F.GUARD_CH_CTRL_mute ch) := hkeep.bit hmutef
  have htrip : c1.bit (F.GUARD_CH_STAT_trip ch) = c.bit (F.GUARD_CH_STAT_trip ch) := hkeep.bit htripf
  refine ⟨?_, fun h => ?_, fun h1 h2 h3 hx => ?_⟩
  · rw [hyi, ← hceil]
    exact hle
  · rw [hdc, ← hmute] at h
    rw [hy, Chip.guardLimit_off h]
    rfl
  · rw [hy, Chip.guardLimit_through (hdc ▸ h1) (hmute ▸ h2) (htrip ▸ h3) (hceil ▸ hx), BitVec.ofInt_toInt]

end Sys2Proof
end

section
/-! PROOFS. The rows of the event fabric and the guard: a clear of the DC latch in the CLK_FAB cycle that set it leaves it set (R7). -/

namespace Sys2Proof.Machine

/-- Behind pass, with the root on, at the instant at which the DC latch of channel 0 sets: its offset lies below every threshold. -/
def latchingChip : Chip :=
  let c : Chip := { Chip.powerOn with time := { TimeSt.zero with rootOn := true }, shp := { ShpSt.zero with stage := .passed } }
  (((c.put F.SHP_STAT_phase 3).put F.PWR_STAT_state 1).latch (F.GUARD_CH_STAT_dc 0))

/-- The write of `dc` that the row of R289 takes. -/
def dcClear : Word := (F.GUARD_CH_STAT_dc 0).mask

theorem latchingChip_ready : Sys2Proof.safe ⟨[], latchingChip⟩ = true ∧
    Sys2Proof.eventReady latchingChip (.dcLatchClear .host 0 dcClear) = true := by decide +kernel

/-- The bit that hardware has set in this cycle stays set (R7). -/
theorem latchingChip_stays :
    (latchingChip.guarded .host (R.GUARD_CH_STAT 0) fun d => d.writeChStat 0 dcClear).settle.bit (F.GUARD_CH_STAT_dc 0) = true := by
  decide +kernel

end Sys2Proof.Machine

namespace Sys2Proof

open Sys2Proof.Machine

/-- Refutes O37: a DC latch that sets in the CLK_FAB cycle of the clear stays set (R7), though its offset has gone (R289). -/
theorem not_eventRowsComplete : ¬ Obligations.EventRowsComplete := by
  intro h
  obtain ⟨hsafe, hready⟩ := latchingChip_ready
  obtain ⟨t, hnext, -, hclear⟩ := h (.dcLatchClear .host 0 dcClear) ⟨[], latchingChip⟩ hsafe hready
  cases hnext
  exact absurd (latchingChip_stays.symm.trans hclear) (by decide)

end Sys2Proof
end

section
/-! PROOFS. The host interface's commands: the statement bounds no buffer, and a buffer beyond its 64 words sets no `wovf` by an
empty write. -/

namespace Sys2Proof.Machine

/-- The root runs, and the write buffer holds one word more than its 64. -/
def overfullChip : Chip :=
  { Chip.powerOn with
    time := { TimeSt.zero with rootOn := true }
    hif := { HifSt.zero with buf := List.replicate 65 (.stream 0) } }

theorem overfullChip_ready :
    Sys2Proof.safe ⟨[], overfullChip⟩ = true ∧ Sys2Proof.hostReady overfullChip (.stream [] 0) = true := by decide +kernel

/-- A stream command without a word discards none. -/
theorem overfullChip_keeps : (overfullChip.hostStream [] 0).settle.bit F.HIF_STAT_wovf = false := by decide +kernel

end Sys2Proof.Machine

namespace Sys2Proof

open Sys2Proof.Machine

/-- Refutes O40: `wordsEffect` has `wovf` set wherever the words there were and those added pass 64; with more than 64 words there
already, which no hypothesis excludes, a command of no word sets nothing (R451). -/
theorem not_hostRowsComplete : ¬ Obligations.HostRowsComplete := by
  intro h
  obtain ⟨hsafe, hready⟩ := overfullChip_ready
  obtain ⟨t, hnext, -, -, hover, -⟩ := h (.stream [] 0) ⟨[], overfullChip⟩ hsafe hready
  cases hnext
  exact absurd (overfullChip_keeps.symm.trans (hover (by decide))) (by decide)

end Sys2Proof
end

section
/-! PROOFS. Fields read through the operations that change no register, and memory read back: what the rows of the remaining chapters
share. -/

namespace Sys2Proof.Machine

variable (c : Chip) (f : Fld) (a : Nat)

/-! ## Fields through changes beside the registers -/

@[simp] theorem Chip.get_raise (id : Nat) (loc arg : Word) : (c.raise id loc arg).get f = c.get f := rfl
@[simp] theorem Chip.rd_raise (id : Nat) (loc arg : Word) : (c.raise id loc arg).rd a = c.rd a := rfl
@[simp] theorem Chip.get_levelOn (id : Nat) (loc arg : Word) : (c.levelOn id loc arg).get f = c.get f :=
  Chip.get_congr (c.levelOn_regs id loc arg) f
@[simp] theorem Chip.get_levelOff (id : Nat) (loc : Word) : (c.levelOff id loc).get f = c.get f :=
  Chip.get_congr (c.levelOff_regs id loc) f
@[simp] theorem Chip.get_setBst (g : BstSt → BstSt) : (c.setBst g).get f = c.get f := rfl
@[simp] theorem Chip.bit_setBst (g : BstSt → BstSt) : (c.setBst g).bit f = c.bit f := rfl
@[simp] theorem Chip.get_setShp (g : ShpSt → ShpSt) : (c.setShp g).get f = c.get f := rfl
@[simp] theorem Chip.bit_setShp (g : ShpSt → ShpSt) : (c.setShp g).bit f = c.bit f := rfl
@[simp] theorem Chip.rd_setShp (g : ShpSt → ShpSt) : (c.setShp g).rd a = c.rd a := rfl
@[simp] theorem Chip.get_setPwr (g : PwrSt → PwrSt) : (c.setPwr g).get f = c.get f := rfl
@[simp] theorem Chip.bit_setPwr (g : PwrSt → PwrSt) : (c.setPwr g).bit f = c.bit f := rfl
@[simp] theorem Chip.get_setFold (g : FoldSt → FoldSt) : (c.setFold g).get f = c.get f := rfl
@[simp] theorem Chip.bit_setFold (g : FoldSt → FoldSt) : (c.setFold g).bit f = c.bit f := rfl
@[simp] theorem Chip.rd_setFold (g : FoldSt → FoldSt) : (c.setFold g).rd a = c.rd a := rfl
@[simp] theorem Chip.get_setRf (g : RfSt → RfSt) : (c.setRf g).get f = c.get f := rfl
@[simp] theorem Chip.bit_setRf (g : RfSt → RfSt) : (c.setRf g).bit f = c.bit f := rfl
@[simp] theorem Chip.get_setLnk (g : LnkSt → LnkSt) : (c.setLnk g).get f = c.get f := rfl
@[simp] theorem Chip.bit_setLnk (g : LnkSt → LnkSt) : (c.setLnk g).bit f = c.bit f := rfl
@[simp] theorem Chip.rd_setLnk (g : LnkSt → LnkSt) : (c.setLnk g).rd a = c.rd a := rfl

theorem Chip.rd_put_of_free (v : Nat) {b : Nat} (h : (Fld.whole b).freeOf [f] = true) : (c.put f v).rd b = c.rd b :=
  (c.put_moves f v).rd h

end Sys2Proof.Machine

/-! ## Memory read back (R2) -/

namespace Sys2Proof.Machine

theorem Mem.read_congr {m m' : Mem} : ∀ (n a : Nat), (∀ b, a ≤ b → b < a + n → m'.byte b = m.byte b) → Mem.read m' a n = Mem.read m a n
  | 0, _, _ => rfl
  | n + 1, a, h => by
    rw [Mem.read, Mem.read, h a le_rfl (by omega), Mem.read_congr n (a + 1) fun b hb hlt => h b (by omega) (by omega)]

theorem Mem.read_write_apart {a b k n : Nat} (h : b + k ≤ a ∨ a + n ≤ b) (v : Nat) (m : Mem) :
    Mem.read (Mem.write a v m n) b k = Mem.read m b k :=
  Mem.read_congr k b fun x hx hlt => Mem.byte_write_outside n a v m x (by omega)

theorem Mem.read_write_self (n : Nat) : ∀ (a v : Nat) (m : Mem), Mem.read (Mem.write a v m n) a n = v % 256 ^ n := by
  induction n with
  | zero => intro _ v _; simp [Mem.read, Nat.mod_one]
  | succ n ih =>
    intro a v m
    rw [Mem.read, Mem.write, ih, Mem.byte_write_outside n _ _ _ a (by omega), Mem.byte_setByte_self, BitVec.toNat_ofNat,
      show 256 ^ (n + 1) = 256 * 256 ^ n from Nat.pow_succ',
      Nat.mod_mul]

end Sys2Proof.Machine
end

section
/-! PROOFS. The verdict of a test, and the change of a unit's state that follows it (R95, R192, R195, R415, R417). -/

namespace Sys2Proof.Machine

variable (c : Chip)

/-! ## A test ends (R415) -/

/-- The verdict in the result registers. -/
def Chip.verdictShown (u : TestUnit) (src count : Nat) (sig : Word) : Chip :=
  (c.wr (resultA u) (BitVec.ofNat 32 (2 ^ 31 + b2n (judgeTest u count sig).1 * 2 ^ 30 + b2n (judgeTest u count sig).2 * 2 ^ 29 +
    src % 8 * 2 ^ 25 + count % 2 ^ 21))).wr (resultB u) sig

theorem Chip.recordVerdict_eq (u : TestUnit) (src count : Nat) (sig : Word) : c.recordVerdict u src count sig =
    if (judgeTest u count sig).1 || (judgeTest u count sig).2 then ((c.verdictShown u src count sig).bump F.BST_TALLY_fail).markUnit u
    else (c.verdictShown u src count sig).bump F.BST_TALLY_pass := rfl

/-- The registers of the verdicts. -/
def inResults (a : Nat) : Prop := 0x400D0100 ≤ a ∧ a ≤ 0x400D0387

theorem resultA_in (u : TestUnit) : inResults (resultA u) := by
  cases u <;> simp only [inResults, resultA, R.BST_ENG_A, R.BST_BANK_A] <;> omega
theorem resultB_in (u : TestUnit) : inResults (resultB u) := by
  cases u <;> simp only [inResults, resultB, R.BST_ENG_B, R.BST_BANK_B] <;> omega

theorem resultA_ne_resultB (u : TestUnit) : resultA u ≠ resultB u := by
  cases u <;> simp only [resultA, resultB, R.BST_ENG_A, R.BST_ENG_B, R.BST_BANK_A, R.BST_BANK_B] <;> omega

theorem inResults.kept {a : Nat} (h : inResults a) : flushReg a = false ∧ holdReg a = false := by
  unfold inResults at h
  constructor
  · simp only [flushReg, Bool.or_eq_false_iff, beq_eq_false_iff_ne, ne_eq, R.EVT_Q_DROP, R.EVT_STAT, R.EVT_LPEND_LO, R.EVT_LPEND_HI,
      R.EVT_HSUM]
    omega
  · simp only [holdReg, Bool.or_eq_false_iff, beq_eq_false_iff_ne, ne_eq, R.GUARD_AIR_CNT, R.RF_TX_STAT, R.RF_WAKE_TX_CTRL, R.RF_STAT]
    omega

theorem inResults.ne {a b : Nat} (h : inResults a) (hb : b < 0x400D0100 := by decide) : a ≠ b := by
  obtain ⟨hlo, -⟩ := h
  omega

theorem Chip.setMarks_rd (eng bank : Nat) {a : Nat} (h : inResults a) : (c.setMarks eng bank).rd a = c.rd a := by
  unfold Chip.setMarks
  rw [Chip.rd_wr_ne _ h.ne, Chip.rd_wr_ne _ h.ne, Chip.rd_wr_ne _ h.ne]

theorem Chip.saveMarks_regs : c.saveMarks.regs = c.regs := rfl

theorem Chip.markUnit_rd (u : TestUnit) {a : Nat} (h : inResults a) : (c.markUnit u).rd a = c.rd a := by
  unfold Chip.markUnit
  rw [Chip.rd_congr (Chip.saveMarks_regs _)]
  cases u with
  | engine n => exact c.setMarks_rd _ _ h
  | bank b => exact c.setMarks_rd _ _ h

/-- What follows the verdict leaves the result registers. -/
theorem Chip.recordVerdict_rd (u : TestUnit) (src count : Nat) (sig : Word) {a : Nat} (h : inResults a) :
    (c.recordVerdict u src count sig).rd a = (c.verdictShown u src count sig).rd a := by
  rw [Chip.recordVerdict_eq]
  split
  · exact (Chip.markUnit_rd _ u h).trans (Chip.rd_put_ne _ h.ne _)
  · exact Chip.rd_put_ne _ h.ne _

/-- The tests and verdicts once the test `t` has ended. -/
def BstSt.ended (b : BstSt) (t : RunTest) (bad short : Bool) : BstSt :=
  { b with
    tests := b.tests.filter fun x => !decide (x.unit = t.unit)
    shutFails := if t.src = 4 && (bad || short) then b.shutFails + 1 else b.shutFails
    verdicts := b.verdicts ++ [⟨t.unit, !(bad || short), false⟩] }

theorem Chip.endTest_eq (t : RunTest) (count : Nat) (sig : Word) : c.endTest t count sig =
    if (judgeTest t.unit count sig).1 || (judgeTest t.unit count sig).2 then
      ((c.setBst fun b => b.ended t (judgeTest t.unit count sig).1 (judgeTest t.unit count sig).2).recordVerdict t.unit t.src count
        sig).raiseFail t.unit t.src (judgeTest t.unit count sig).1 (judgeTest t.unit count sig).2
    else (c.setBst fun b => b.ended t (judgeTest t.unit count sig).1 (judgeTest t.unit count sig).2).recordVerdict t.unit t.src count sig :=
  rfl

theorem Chip.endTest_bst (t : RunTest) (count : Nat) (sig : Word) :
    (c.endTest t count sig).bst = c.bst.ended t (judgeTest t.unit count sig).1 (judgeTest t.unit count sig).2 := by
  rw [Chip.endTest_eq]
  split
  · exact (Chip.recordVerdict_touches _ _ _ _ _).same .bst (by decide)
  · exact (Chip.recordVerdict_touches _ _ _ _ _).same .bst (by decide)

theorem Chip.endTest_rd (t : RunTest) (count : Nat) (sig : Word) {a : Nat} (h : inResults a) :
    (c.endTest t count sig).rd a = (c.verdictShown t.unit t.src count sig).rd a := by
  have hrec : ∀ f, ((c.setBst f).recordVerdict t.unit t.src count sig).rd a = (c.verdictShown t.unit t.src count sig).rd a := fun _ =>
    Chip.recordVerdict_rd _ _ _ _ _ h
  rw [Chip.endTest_eq]
  split
  · exact hrec _
  · exact hrec _

end Sys2Proof.Machine

namespace Sys2Proof

open Sys2Proof.Machine

variable {c : Chip}

/-- The test of a unit that runs ends, at whatever instant, with its verdict. -/
theorem endTest_effect {u : TestUnit} {t : RunTest} (ht : c.runOf u = some t) (n count : Nat) (sig : Word) :
    verdictEffect c ((c.advanceTo n).endTest t count sig).settle u count sig := by
  have hu : t.unit = u := by simpa using List.find?_some ht
  subst hu
  obtain ⟨hflushA, hholdA⟩ := (resultA_in t.unit).kept
  obtain ⟨hflushB, hholdB⟩ := (resultB_in t.unit).kept
  refine ⟨?_, ?_, ?_, ?_⟩
  · rw [Chip.testing, Chip.settle_bst, Chip.endTest_bst]
    simp [BstSt.ended]
  · rw [Chip.settle_bst, Chip.endTest_bst, Chip.advanceTo_bst]
    rfl
  · rw [Chip.settle_rd _ hflushB hholdB, Chip.endTest_rd _ _ _ _ (resultB_in _)]
    exact Chip.rd_wr_self _ _ _
  · rw [Chip.settle_rd _ hflushA hholdA, Chip.endTest_rd _ _ _ _ (resultA_in _), Chip.verdictShown,
      Chip.rd_wr_ne _ (resultA_ne_resultB _), Chip.rd_wr_self, ht]
    rfl

end Sys2Proof
end

section
/-! PROOFS. The change of a unit's state that follows its verdict (R92, R95, R192, R195, R417). -/

namespace Sys2Proof.Machine

variable (c : Chip)

/-! ## Engines -/

/-- The fields of an engine's state are apart from what shows it elsewhere, and from those of other engines. -/
theorem engine_free : ∀ n : Fin 17,
    (F.SE_STAT_state n.val).freeOf [F.SE_ROT_STAT_phase, F.SE_ROT_STAT_spare, F.SE_ROT_STAT_stopped, F.FOLD_ENGINE_status n.val,
      F.SE_FAULT_unusable n.val] = true ∧
    (F.FOLD_ENGINE_status n.val).freeOf [F.SE_ROT_STAT_phase, F.SE_ROT_STAT_spare, F.SE_ROT_STAT_stopped, F.SE_FAULT_unusable n.val] =
      true := by
  decide +kernel

/-- What makes engine `i` the spare is apart from the state of another engine. -/
theorem engine_free_spare : ∀ n i : Fin 17, n ≠ i →
    (F.SE_STAT_state n.val).freeOf [F.SE_ROT_STAT_spare, F.FOLD_ENGINE_status i.val, F.SE_STAT_state i.val] = true ∧
      (F.FOLD_ENGINE_status n.val).freeOf [F.SE_ROT_STAT_spare, F.FOLD_ENGINE_status i.val, F.SE_STAT_state i.val] = true := by
  decide +kernel

theorem Chip.makeSpare_keeps (n : Nat) :
    KeepsFlds [F.SE_ROT_STAT_spare, F.FOLD_ENGINE_status n, F.SE_STAT_state n] c (c.makeSpare n) := (KeepsFlds.refl c).put.put.put

theorem Chip.makeSpare_state (n : Fin 17) : (c.makeSpare n.val).seState n.val = seSpare :=
  ((KeepsFlds.refl (c.put (F.SE_STAT_state n.val) seSpare)).put.put _
    (Fld.freeOf_mono (by simp) (engine_free n).1)).trans (c.putState_state (by decide))

theorem Chip.makeSpare_spare (n : Fin 17) : (c.makeSpare n.val).get F.SE_ROT_STAT_spare = n.val :=
  (Chip.get_put_self _ _ (by decide) _).trans (Nat.mod_eq_of_lt (n.isLt.trans (by decide)))

/-- An engine under test that passes becomes the spare (R92). -/
theorem Chip.enginePass_spare {n : Fin 17} (h : c.seState n.val = seTest) :
    (c.enginePass n.val).seState n.val = seSpare ∧ (c.enginePass n.val).get F.SE_ROT_STAT_spare = n.val := by
  have hphase : KeepsFlds [F.SE_ROT_STAT_phase] (c.makeSpare n.val) (c.enginePass n.val) := by
    unfold Chip.enginePass
    rw [if_neg (not_not.mpr h)]
    exact (KeepsFlds.refl _).put.aside rfl
  exact ⟨(hphase _ (Fld.freeOf_mono (by simp) (engine_free n).1)).trans (c.makeSpare_state n),
    (hphase _ (by decide)).trans (c.makeSpare_spare n)⟩

/-- The engine is shown as unusable. -/
def Chip.shownUnusable (n : Nat) : Chip :=
  (((c.put (F.SE_STAT_state n) seUnusable).put (F.FOLD_ENGINE_status n) 3).latch (F.SE_FAULT_unusable n)).raise Ev.SE_ENGINE_UNUSABLE
    (c.locEng n) 0

/-- Engine `n` is shown as unusable in both places. -/
structure Unusable (n : Fin 17) (d : Chip) : Prop where
  state : d.seState n.val = seUnusable
  status : d.get (F.FOLD_ENGINE_status n.val) = 3

/-- What keeps the fields of an unusable engine. -/
theorem Unusable.keep {n : Fin 17} {l : List Fld} {d e : Chip} (h : Unusable n d) (hk : KeepsFlds l d e)
    (hl : (F.SE_STAT_state n.val).freeOf l = true ∧ (F.FOLD_ENGINE_status n.val).freeOf l = true) : Unusable n e :=
  ⟨(hk _ hl.1).trans h.state, (hk _ hl.2).trans h.status⟩

theorem Unusable.keepRot {n : Fin 17} {l : List Fld} {d e : Chip} (h : Unusable n d) (hk : KeepsFlds l d e)
    (hl : l ⊆ [F.SE_ROT_STAT_phase, F.SE_ROT_STAT_spare, F.SE_ROT_STAT_stopped]) : Unusable n e :=
  h.keep hk ⟨Fld.freeOf_mono (List.Subset.trans hl (by simp)) (engine_free n).1,
    Fld.freeOf_mono (List.Subset.trans hl (by simp)) (engine_free n).2⟩

theorem Chip.shownUnusable_shows (n : Fin 17) : Unusable n (c.shownUnusable n.val) := by
  have hlatch : KeepsFlds [F.SE_FAULT_unusable n.val] ((c.put (F.SE_STAT_state n.val) seUnusable).put (F.FOLD_ENGINE_status n.val) 3)
      (c.shownUnusable n.val) := (KeepsFlds.refl _).latch.aside rfl
  refine ⟨(hlatch _ (Fld.freeOf_mono (by simp) (engine_free n).1)).trans ?_,
    (hlatch _ (Fld.freeOf_mono (by simp) (engine_free n).2)).trans (Chip.get_put_self _ _ (by simp [F.FOLD_ENGINE_status]) 3)⟩
  exact (Chip.get_put_free _ (Fld.freeOf_mono (by simp) (engine_free n).1) 3).trans (c.putState_state (by decide))

/-- The engine that fails leaves the rotation. -/
theorem Unusable.makeSpare {n : Fin 17} {i : Nat} {d : Chip} (h : Unusable n d) (hi : i < 17) (hne : d.seState i = seIdle) :
    Unusable n (d.makeSpare i) := by
  have hdiff : n ≠ ⟨i, hi⟩ := by
    rintro rfl
    exact absurd (h.state.symm.trans hne) (by decide)
  exact h.keep (d.makeSpare_keeps i) (engine_free_spare n ⟨i, hi⟩ hdiff)

theorem Chip.engineFail_unusable (n : Fin 17) : Unusable n (c.engineFail n.val) := by
  unfold Chip.engineFail
  extract_lets was c1 spare _ _ c2 c3
  have h1 : Unusable n c1 := c.shownUnusable_shows n
  have h2 : Unusable n c2 := by
    unfold c2
    split
    · exact h1.keepRot ((KeepsFlds.refl c1).put.aside rfl) (by simp)
    · exact h1
  have h3 : Unusable n c3 := by
    unfold c3
    split
    · exact h2.keepRot (KeepsFlds.refl c2).put (by simp)
    · exact h2
  split
  · exact h1
  · split
    · exact h3
    · split
      next i hi =>
        have hmem := List.mem_filter.mp (List.mem_of_getLast? hi)
        exact h3.makeSpare (List.mem_range.mp hmem.1) (of_decide_eq_true hmem.2)
      next => exact h3.keepRot ((KeepsFlds.refl c3).put.put.aside rfl) (by simp)

/-! ## Banks -/

/-- The status of a bank is apart from the rotation's. -/
theorem bankStatus_free : ∀ b : Fin 49, (F.FOLD_BANK_status b.val).freeOf [F.PAS_ROT_STAT_phase, F.PAS_ROT_STAT_spare,
    F.PAS_ROT_STAT_stopped] = true ∧ F.PAS_ROT_STAT_spare.freeOf [F.FOLD_BANK_status b.val] = true := by decide +kernel

theorem Chip.putBank_status (b : Fin 49) {v : Nat} (h : v < 4) : (c.put (F.FOLD_BANK_status b.val) v).get (F.FOLD_BANK_status b.val) = v :=
  (c.get_put_self _ (by simp [F.FOLD_BANK_status]) v).trans (Nat.mod_eq_of_lt h)

/-- A bank under test that passes becomes the spare bank (R192). -/
theorem Chip.bankPass_spare {b : Fin 49} (h : c.get (F.FOLD_BANK_status b.val) = 0) :
    (c.bankPass b.val).get (F.FOLD_BANK_status b.val) = 2 ∧ (c.bankPass b.val).get F.PAS_ROT_STAT_spare = b.val := by
  unfold Chip.bankPass
  rw [if_neg (not_not.mpr h)]
  refine ⟨?_, ?_⟩
  · exact ((KeepsFlds.refl (c.put (F.FOLD_BANK_status b.val) 2)).put.put _ (Fld.freeOf_mono (by simp) (bankStatus_free b).1)).trans
      (c.putBank_status b (by decide))
  · rw [Chip.get_put_free _ (by decide), Chip.get_put_self _ _ (by decide)]
    exact Nat.mod_eq_of_lt (b.isLt.trans (by decide))

/-- The rotation's spare depends on its field alone. -/
theorem Chip.spareBank_congr {c d : Chip} (h : d.get F.PAS_ROT_STAT_spare = c.get F.PAS_ROT_STAT_spare) : d.spareBank = c.spareBank := by
  simp only [Chip.spareBank, h]

theorem Chip.bankFail_status (b : Fin 49) : (c.bankFail b.val).get (F.FOLD_BANK_status b.val) = 3 := by
  unfold Chip.bankFail
  extract_lets c1
  have h1 : c1.get (F.FOLD_BANK_status b.val) = 3 := by
    rw [Chip.get_raise, Chip.get_put_free _ (Fld.freeOf_mono (by simp) (bankStatus_free b).1), c.putBank_status b (by decide)]
  split
  · exact h1
  · rw [Chip.get_raise, Chip.get_put_free _ (Fld.freeOf_mono (by simp) (bankStatus_free b).1),
      Chip.get_put_free _ (Fld.freeOf_mono (by simp) (bankStatus_free b).1), h1]

/-- Without a spare bank a failure stops the rotation (R195). -/
theorem Chip.bankFail_stopped {b : Fin 49} (h : c.spareBank = none) : (c.bankFail b.val).bit F.PAS_ROT_STAT_stopped = true := by
  unfold Chip.bankFail
  extract_lets c1
  have hspare : c1.spareBank = none := by
    rw [← h]
    refine Chip.spareBank_congr ?_
    rw [Chip.get_raise, Chip.get_put_free _ (by decide), Chip.get_put_free _ (bankStatus_free b).2]
  rw [hspare, if_neg (by simp), Chip.bit_raise]
  exact Chip.put_one_bit _ rfl rfl

/-! ## The change -/

/-- The verdicts of a unit are spent. -/
def Chip.verdictsSpent (u : TestUnit) : Chip := c.setBst fun b => { b with verdicts := b.verdicts.filter fun x => !decide (x.unit = u) }

/-- What the verdict makes of the unit. -/
def Chip.unitJudged (u : TestUnit) (pass : Bool) : Chip :=
  match u, pass with
  | .engine n, true => c.enginePass n.val
  | .engine n, false => c.engineFail n.val
  | .bank b, true => c.bankPass b.val
  | .bank b, false => c.bankFail b.val

theorem Chip.testStateChange_due {u : TestUnit} {v : Verdict} (h : c.bst.verdicts.find? (fun v => decide (v.unit = u) && v.due) = some v) :
    c.testStateChange u = (c.verdictsSpent u).unitJudged u v.pass := by
  unfold Chip.testStateChange
  rw [h]
  rfl

theorem Chip.unitJudged_bst (u : TestUnit) (pass : Bool) : (c.unitJudged u pass).bst = c.bst := by
  match u, pass with
  | .engine n, true => exact (c.enginePass_touches n.isLt).same .bst (by decide)
  | .engine n, false => exact (c.engineFail_touches n.isLt).same .bst (by decide)
  | .bank b, true => exact (c.bankPass_touches b.isLt).same .bst (by decide)
  | .bank b, false => exact (c.bankFail_touches b.isLt).same .bst (by decide)

end Sys2Proof.Machine

namespace Sys2Proof

open Sys2Proof.Machine

variable {c : Chip}

theorem foldEngine_kept : ∀ n : Fin 17, flushReg (R.FOLD_ENGINE n) = false ∧ holdReg (R.FOLD_ENGINE n) = false := by decide +kernel

theorem testStateChange_effect {u : TestUnit} (h : testReady c (.testStateChange u) = true) :
    testEffect c (c.testStateChange u).settle (.testStateChange u) := by
  obtain ⟨v, hv⟩ : ∃ v, c.bst.verdicts.find? (fun v => decide (v.unit = u) && v.due) = some v := by
    rw [← Option.isSome_iff_exists, List.find?_isSome]
    simpa [testReady] using h
  rw [c.testStateChange_due hv]
  refine ⟨?_, fun w hw => ?_⟩
  · rw [Chip.settle_bst, Chip.unitJudged_bst]
    simp [Chip.verdictsSpent, Chip.setBst]
  obtain rfl : v = w := Option.some.inj (hv.symm.trans hw)
  match u with
  | .engine n =>
    obtain ⟨hflush, hhold⟩ := foldEngine_kept n
    dsimp only
    rw [settle_seState, Chip.settle_get _ (f := F.SE_ROT_STAT_spare) (by decide) (by decide),
      Chip.settle_get _ (f := F.FOLD_ENGINE_status n.val) hflush hhold]
    split
    next hp =>
      rw [hp]
      exact fun hst => Chip.enginePass_spare _ hst
    next hp =>
      rw [eq_false_of_ne_true hp]
      exact ⟨(Chip.engineFail_unusable _ n).state, (Chip.engineFail_unusable _ n).status⟩
  | .bank b =>
    obtain ⟨hflush, hhold, -⟩ := foldBank_kept b
    dsimp only
    rw [Chip.settle_get _ (f := F.FOLD_BANK_status b.val) hflush hhold, Chip.settle_get _ (f := F.PAS_ROT_STAT_spare) (by decide) (by decide),
      Chip.settle_bit _ (f := F.PAS_ROT_STAT_stopped) (by decide) (by decide)]
    split
    next hp =>
      rw [hp]
      exact fun hst => Chip.bankPass_spare _ hst
    next hp =>
      rw [eq_false_of_ne_true hp]
      exact ⟨Chip.bankFail_status _ b, fun hnone => Chip.bankFail_stopped _ hnone⟩

end Sys2Proof
end

section
/-! PROOFS. Tests that start and are asked for, the mark record and the shutdown test: the rows of chapter 17 complete with their effects
(R415 to R426). -/

-- One theorem at a time: many at once, each with a thread of its own, do not fit in memory.
set_option Elab.async false

namespace Sys2Proof.Machine

variable (c : Chip)

/-! ## A test starts (R418) -/

theorem Chip.scramble_bst (u : TestUnit) : (c.scramble u).bst = c.bst := by
  cases u <;> rfl

theorem Chip.startTest_regs (u : TestUnit) (src : Nat) : (c.startTest u src).regs = c.regs := by
  unfold Chip.startTest
  split
  · rfl
  · cases u <;> rfl

theorem Chip.startTest_bst (u : TestUnit) (src : Nat) :
    ∃ l, (c.startTest u src).bst = { c.bst with tests := c.bst.tests ++ l } := by
  unfold Chip.startTest
  split
  · exact ⟨[], by simp⟩
  · exact ⟨[⟨u, src, c.now⟩], by rw [Chip.setBst, Chip.scramble_bst]⟩

/-- A test that starts leaves those that run. -/
theorem Chip.startTest_keeps {u v : TestUnit} (src : Nat) (h : c.testing v = true) : (c.startTest u src).testing v = true := by
  obtain ⟨l, hl⟩ := c.startTest_bst u src
  rw [Chip.testing, hl, List.any_append, show c.bst.tests.any (fun t => decide (t.unit = v)) = true from h, Bool.true_or]

/-! ### IDLE_TEST_START and SPARE_TEST_START -/

theorem Chip.idleTestStart_due (hb : c.onSuperframe = true) (hp : c.get F.SHP_STAT_phase = 3) (hr : c.idleTestRuns = false)
    (hs : c.get F.BST_STAT_shut < 2) {n : Nat} (hn : Sys2Proof.idleChoice c = some n) :
    ∃ f src, c.idleTestStart = (c.setBst f).startTest (.engine (Fin.ofNat 17 n)) src := by
  unfold Chip.idleTestStart
  rw [if_neg (by simp [hb, hp, hr, hs])]
  unfold Sys2Proof.idleChoice at hn
  split
  next m hm =>
    rw [hm] at hn
    obtain rfl : m.val = n := Option.some.inj hn
    exact ⟨_, 3, by rw [Fin.ofNat_val_eq_self]⟩
  next hm =>
    rw [hm] at hn
    dsimp only at hn
    split at hn
    next hen =>
      rw [if_neg (by simp [hen])]
      split
      next ho => simp [ho] at hn
      next i l ho =>
        obtain rfl : i = n := by simpa [ho] using hn
        exact ⟨_, 2, rfl⟩
    next => exact absurd hn (by simp)

/-- The spare bank goes under test: there is no spare, and it no longer waits for one. -/
def Chip.spareTested (b : Fin 49) : Chip :=
  (((c.setBst fun x => { x with reqBank := none }).put (F.FOLD_BANK_status b) 0).put F.PAS_ROT_STAT_spare 0x3F).startTest (.bank b) 3

/-- The same of the spare engine. -/
def Chip.spareEngineTested (n : Fin 17) : Chip :=
  ((((c.setBst fun x => { x with reqEng := none }).put (F.SE_STAT_state n) seTest).put (F.FOLD_ENGINE_status n) 0).put
    F.SE_ROT_STAT_spare 0x1F).startTest (.engine n) 3

theorem Chip.spareTestStart_bank (hb : c.onSuperframe = true) (hs : c.get F.BST_STAT_shut < 2) {b : Fin 49} (hr : c.bst.reqBank = some b)
    (hspare : c.spareBank = some b) (hm : c.pas.mirror = none) : c.spareTestStart true = c.spareTested b := by
  simp only [Chip.spareTestStart, hb, Nat.not_le.mpr hs, decide_false, Bool.not_true, Bool.or_self, Bool.false_eq_true, if_false, if_true,
    hr, hspare, hm, and_self]
  rfl

theorem Chip.spareTestStart_engine (hb : c.onSuperframe = true) (hs : c.get F.BST_STAT_shut < 2) {n : Fin 17}
    (hr : c.bst.reqEng = some n) (hspare : c.seState n = seSpare) (hm : c.rot.cur = none) :
    c.spareTestStart false = c.spareEngineTested n := by
  simp only [Chip.spareTestStart, hb, Nat.not_le.mpr hs, decide_false, Bool.not_true, Bool.or_self, Bool.false_eq_true, if_false, if_true,
    hr, hspare, hm, and_self]
  rfl

theorem Chip.spareBank_none (h : c.get F.PAS_ROT_STAT_spare = 63) : c.spareBank = none := by
  simp [Chip.spareBank, h]

theorem Chip.spareTested_shows (b : Fin 49) : (c.spareTested b).testing (.bank b) = true ∧ (c.spareTested b).bst.reqBank = none ∧
    (c.spareTested b).get F.PAS_ROT_STAT_spare = 63 := by
  refine ⟨Chip.startTest_testing _ _ _, ?_, ?_⟩
  · obtain ⟨l, hl⟩ := Chip.startTest_bst
      (((c.setBst fun x => { x with reqBank := none }).put (F.FOLD_BANK_status b) 0).put F.PAS_ROT_STAT_spare 0x3F) (.bank b) 3
    rw [Chip.spareTested, hl]
    rfl
  · rw [Chip.spareTested, Chip.get_congr (Chip.startTest_regs _ _ _), Chip.get_put_self _ _ (by decide)]
    rfl

theorem Chip.spareEngineTested_shows (n : Fin 17) : (c.spareEngineTested n).testing (.engine n) = true ∧
    (c.spareEngineTested n).bst.reqEng = none ∧ (c.spareEngineTested n).seState n = seTest := by
  refine ⟨Chip.startTest_testing _ _ _, ?_, ?_⟩
  · obtain ⟨l, hl⟩ := Chip.startTest_bst ((((c.setBst fun x => { x with reqEng := none }).put (F.SE_STAT_state n) seTest).put
      (F.FOLD_ENGINE_status n) 0).put F.SE_ROT_STAT_spare 0x1F) (.engine n) 3
    rw [Chip.spareEngineTested, hl]
    rfl
  · rw [Chip.seState, Chip.spareEngineTested, Chip.get_congr (Chip.startTest_regs _ _ _),
      Chip.get_put_free _ (Fld.freeOf_mono (by simp) (engine_free n).1), Chip.get_put_free _ (Fld.freeOf_mono (by simp) (engine_free n).1)]
    exact Chip.putState_state _ (by decide)

/-! ## Requests (R419, R425) -/

/-- The bits of BST_REQ are written. -/
def Chip.reqWritten (v : Word) : Chip :=
  let c1 := (c.put F.BST_REQ_unit (F.BST_REQ_unit.of v)).put F.BST_REQ_bank (F.BST_REQ_bank.of v)
  if F.BST_REQ_ref.ofB v then c1.w1c F.BST_REQ_ref else c1

theorem Chip.writeTestReq_go {v : Word} (h : F.BST_REQ_go.ofB v = true) :
    c.writeTestReq v = (c.reqWritten v).askTest (F.BST_REQ_bank.ofB v) (F.BST_REQ_unit.of v) := by
  simp only [Chip.writeTestReq, h, if_true]
  rfl

theorem Chip.reqWritten_bst (v : Word) : (c.reqWritten v).bst = c.bst := by
  unfold Chip.reqWritten
  dsimp only
  split <;> simp

theorem Chip.reqWritten_get {f : Fld} (h : f.addr ≠ R.BST_REQ) (v : Word) : (c.reqWritten v).get f = c.get f := by
  have h1 : ((c.put F.BST_REQ_unit (F.BST_REQ_unit.of v)).put F.BST_REQ_bank (F.BST_REQ_bank.of v)).get f = c.get f :=
    (Chip.get_put_ne _ h _).trans (Chip.get_put_ne _ h _)
  unfold Chip.reqWritten Chip.w1c
  dsimp only
  split
  · split
    · exact (Chip.get_put_ne _ h _).trans h1
    · exact h1
  · exact h1

theorem testing_congr {c d : Chip} (h : d.bst = c.bst) (u : TestUnit) : d.testing u = c.testing u := by rw [Chip.testing, h, Chip.testing]

theorem Chip.askTest_bank {n : Nat} (hn : n < 49) (hs : c.get (F.FOLD_BANK_status n) ≠ 3) (ht : c.testing (.bank (Fin.ofNat 49 n)) = false) :
    (c.askTest true n).bst.reqBank = some (Fin.ofNat 49 n) := by
  unfold Chip.askTest
  rw [if_pos rfl, if_neg (by omega), if_neg (Bool.eq_false_iff.mp ht)]
  rfl

theorem Chip.askTest_engine {n : Nat} (hn : n < 17) (hstop : c.seState n ≠ seStopped) (harm : c.seState n ≠ seArmed)
    (hun : c.seState n ≠ seUnusable) (ht : c.testing (.engine (Fin.ofNat 17 n)) = false) :
    (c.askTest false n).bst.reqEng = some (Fin.ofNat 17 n) := by
  unfold Chip.askTest
  rw [if_neg (by simp), if_neg (by omega)]
  dsimp only
  rw [if_neg (by tauto), if_neg (Bool.eq_false_iff.mp ht)]
  rfl

/-- BST_SHUTDOWN with its refusal cleared where the write says so. -/
def Chip.shutRefCleared (v : Word) : Chip := if F.BST_SHUTDOWN_ref.ofB v then c.w1c F.BST_SHUTDOWN_ref else c

theorem Chip.shutRefCleared_keeps (v : Word) : KeepsFlds [F.BST_SHUTDOWN_ref] c (c.shutRefCleared v) := by
  unfold Chip.shutRefCleared
  split
  · exact (c.w1c_moves _).get
  · exact (KeepsFlds.refl c).mono (List.nil_subset _)

/-- The shutdown test is accepted: it starts at `z`. -/
def Chip.shutdownAsked (z : Nat) : Chip :=
  ((c.put F.BST_STAT_shut 1).put F.BST_SHUTDOWN_go 1).setBst fun b => { b with zAt := z, shutFails := 0 }

theorem Chip.shutdownAsked_shows (z : Nat) : (c.shutdownAsked z).get F.BST_STAT_shut = 1 ∧
    (c.shutdownAsked z).bit F.BST_SHUTDOWN_go = true ∧ (c.shutdownAsked z).bst.zAt = z := by
  refine ⟨?_, ?_, rfl⟩
  · rw [Chip.shutdownAsked, Chip.get_setBst, Chip.get_put_free _ (by decide), Chip.get_put_self _ _ (by decide)]
    rfl
  · rw [Chip.shutdownAsked, Chip.bit_setBst, Chip.put_one_bit _ rfl rfl]

theorem Chip.writeShutdown_taken {r : Req} {v : Word} (hgo : F.BST_SHUTDOWN_go.ofB v = true) (hmay : c.mayShutdown r = true)
    (hfold : c.get F.FOLD_STAT_state = 0) (hshut : c.get F.BST_STAT_shut = 0 ∨ c.get F.BST_STAT_shut = 3) :
    c.writeShutdown r v = (c.shutRefCleared v).shutdownAsked (c.clearBoundary c.nextSuperframe) := by
  have hkeeps := c.shutRefCleared_keeps v
  have hrest : (c.shutRefCleared v).crook = c.crook ∧ (c.shutRefCleared v).rot = c.rot ∧ (c.shutRefCleared v).time = c.time := by
    unfold Chip.shutRefCleared
    split <;> simp
  obtain ⟨hcrook, hrot, htime⟩ := hrest
  have hmay' : (c.shutRefCleared v).mayShutdown r = true := by
    rw [← hmay]
    cases r <;> simp only [Chip.mayShutdown, hcrook]
  have hnext : (c.shutRefCleared v).clearBoundary (c.shutRefCleared v).nextSuperframe = c.clearBoundary c.nextSuperframe := by
    simp only [Chip.clearBoundary, Chip.nextSuperframe, hrot, htime] <;> rfl
  unfold Chip.writeShutdown
  extract_lets c1 shut
  have hc1 : c1 = c.shutRefCleared v := rfl
  have hfold1 : c1.get F.FOLD_STAT_state = 0 := (hkeeps _ (by decide)).trans hfold
  have hshut1 : shut = 0 ∨ shut = 3 := by
    have : shut = c.get F.BST_STAT_shut := hkeeps F.BST_STAT_shut (by decide)
    rwa [this]
  rw [← hc1] at hmay' hnext
  rw [if_neg (by simp [hgo, hmay']), if_neg (by rcases hshut1 with h | h <;> simp [hfold1, h]), hnext]
  rfl

/-! ## The mark record (R421, R422) -/

/-- The record's flags are those written. -/
theorem recField_recWrite (flags eng bank fails stc : Nat) (m : Mem) :
    recField (recWrite flags eng bank fails stc m) 4 4 = flags % 2 ^ 32 := by
  simp only [recField, recWrite, recOfs]
  rw [Mem.read_write_apart (by decide), Mem.read_write_apart (by decide), Mem.read_write_apart (by decide),
    Mem.read_write_apart (by decide), Mem.read_write_apart (by decide), Mem.read_write_apart (by decide), Mem.read_write_self]
  norm_num

theorem bitAt_or_pow (n k : Nat) (hk : k < 32) : bitAt ((n ||| 2 ^ k) % 2 ^ 32) k = true := by
  have h : ((n ||| 2 ^ k) % 2 ^ 32).testBit k = true := by
    rw [Nat.testBit_mod_two_pow, Nat.testBit_or, Nat.testBit_two_pow_self]
    simp [hk]
  rwa [Nat.testBit_eq_decide_div_mod_eq] at h

end Sys2Proof.Machine
end

section
/-! PROOFS. The shutdown test starts and ends, and with it the rows of self-test complete with their effects (R415 to R426). -/

-- One theorem at a time: many at once, each with a thread of its own, do not fit in memory.
set_option Elab.async false

namespace Sys2Proof.Machine

variable (c : Chip)

/-! ## The shutdown test starts (R425) -/

/-- The shutdown test runs on `d`, and no engine that was usable on `c` has become unusable. -/
structure Closing (c d : Chip) : Prop where
  shut : d.get F.BST_STAT_shut = 2
  usable : ∀ n : Fin 17, c.seState n.val ≠ seUnusable → d.seState n.val ≠ seUnusable

namespace Closing

variable {c} {d e : Chip}

theorem keep (h : Closing c d) (hshut : e.get F.BST_STAT_shut = d.get F.BST_STAT_shut)
    (hstate : ∀ n : Fin 17, e.seState n.val = d.seState n.val) : Closing c e :=
  ⟨hshut.trans h.shut, fun n hn => (hstate n).symm ▸ h.usable n hn⟩

theorem regs (h : Closing c d) (hr : e.regs = d.regs) : Closing c e := h.keep (Chip.get_congr hr _) fun _ => Chip.get_congr hr _

/-- What touches neither the engines' page nor that of self-test. -/
theorem touches {ps : List Part} {l : List Page} (h : Closing c d) (k : Touches ps (onPages l) d e)
    (hse : ∀ n : Fin 17, onPages l (R.SE_STAT n.val) = false ∧ R.SE_STAT n.val ≠ R.PWR_TMR := by decide +kernel)
    (hbst : onPages l R.BST_STAT = false := by decide) : Closing c e :=
  h.keep (k.get hbst) fun n => k.get (hse n).1 (hse n).2

/-- A write to another register than those. -/
theorem wr (h : Closing c d) {a : Nat} {v : Word} (hbst : R.BST_STAT ≠ a) (hse : ∀ n : Fin 17, R.SE_STAT n.val ≠ a) :
    Closing c (d.wr a v) :=
  h.keep (d.get_wr_ne hbst v) fun n => d.get_wr_ne (hse n) v

theorem put (h : Closing c d) {f : Fld} {v : Nat} (hbst : R.BST_STAT ≠ f.addr) (hse : ∀ n : Fin 17, R.SE_STAT n.val ≠ f.addr) :
    Closing c (d.put f v) :=
  h.wr hbst hse

/-- An engine that enters a state in which it is usable. -/
theorem putState (h : Closing c d) (m : Fin 17) {st : Nat} (hst : st < 8) : Closing c (d.put (F.SE_STAT_state m.val) st) where
  shut := (d.get_put_ne (by revert m; decide +kernel) st).trans h.shut
  usable n hn := by
    by_cases he : n = m
    · subst he
      rw [d.putState_state (by omega), seUnusable]
      omega
    · rw [Chip.seState, Chip.get_put_free d (Fld.freeOf_mono (by simp) (engine_free_spare n m he).1)]
      exact h.usable n hn

theorem dropHandover (h : Closing c d) : Closing c d.dropHandover := by
  unfold Chip.dropHandover
  split
  · exact h
  next r e s b _ =>
    exact ((h.regs (e := { d with rot := { d.rot with cur := none, cancel := false, lastRole := some r, mism := none } }) rfl).putState s
      (st := seSpare) (by decide)).put (by decide) (by decide +kernel)

theorem abandonTests (h : Closing c d) : Closing c d.abandonTests := by
  unfold Chip.abandonTests
  refine List.foldlRecOn (motive := Closing c) _ _ (h.regs rfl) fun e he t _ => ?_
  have hin := resultA_in t.unit
  exact he.wr hin.ne.symm fun n => (hin.ne (by revert n; decide +kernel)).symm

theorem stopNow (h : Closing c d) {n : Nat} (hn : n < 17) : Closing c (d.stopNow n) := by
  have hctrl : ∀ m : Fin 17, R.SE_STAT m.val ≠ R.SE_CTRL n := fun m => by simp only [R.SE_STAT, R.SE_CTRL]; omega
  have hbst : R.BST_STAT ≠ R.SE_CTRL n := by simp only [R.BST_STAT, R.SE_CTRL]; omega
  have h1 := ((h.regs (e := d.setEngine n ⟨{ (d.engine n).core with outw := [], ended := true, pend := [], slot := .none }, 0, 0⟩)
    rfl).put (f := F.SE_CTRL_run_req n) (v := 0) hbst hctrl).put (f := F.SE_CTRL_stop_req n) (v := 0) hbst hctrl
  unfold Chip.stopNow
  dsimp only
  split
  · exact h1.putState ⟨n, hn⟩ (by decide)
  · exact h1

end Closing

/-- Everything stops at Z. -/
def Chip.allStopped : Chip :=
  (List.range 17).foldl Chip.stopNow ((c.put F.BST_STAT_shut 2).dropHandover.dropMirror.abandonTests.pauseOnPasture false)

/-- The acquisition is abandoned, and the tests' start is reached. -/
def Chip.testsReached : Chip :=
  let c1 := if c.get F.GN_ACQ_STAT_state = 0 then c else c.acqAbort
  c1.advanceTo (c1.now + 256)

/-- The shutdown test of an engine, and of a bank. -/
def Chip.closeEngine (n : Nat) : Chip := if c.seState n = seUnusable then c else c.startTest (.engine (Fin.ofNat 17 n)) 4
def Chip.closeBank (b : Nat) : Chip := if c.get (F.FOLD_BANK_status b) = 3 then c else c.startTest (.bank (Fin.ofNat 49 b)) 4

theorem Chip.shutdownStart_due (hs : c.get F.BST_STAT_shut = 1) (ht : c.time.stc = c.bst.zAt) (hf : c.time.frac.val = 0) :
    c.shutdownStart = (List.range 49).foldl Chip.closeBank ((List.range 17).foldl Chip.closeEngine c.allStopped.testsReached) := by
  unfold Chip.shutdownStart
  rw [if_neg (by simp [hs, ht, hf])]
  rfl

theorem seStat_ne : ∀ n : Fin 17, R.SE_STAT n.val ≠ R.BST_STAT := by decide +kernel

theorem Chip.allStopped_closing : Closing c c.allStopped := by
  have h1 : Closing c (c.put F.BST_STAT_shut 2) :=
    ⟨c.get_put_self _ (by decide) 2, fun n hn => by
      rwa [Chip.seState, c.get_put_ne (seStat_ne n)]⟩
  have h2 := (h1.dropHandover.touches (Chip.dropMirror_touches _)).abandonTests.touches (Chip.pauseOnPasture_touches _ false)
  exact List.foldlRecOn (motive := Closing c) _ _ h2 fun d hd n hn => hd.stopNow (List.mem_range.mp hn)

theorem Chip.testsReached_closing {d : Chip} (h : Closing c d) : Closing c d.testsReached := by
  unfold Chip.testsReached
  extract_lets c1
  have h1 : Closing c c1 := by
    unfold c1
    split
    · exact h
    · exact h.touches d.acqAbort_touches
  exact h1.touches ((Touches.refl [.time] (onPages []) c1).advanceTo)

theorem Chip.closeEngine_regs (n : Nat) : (c.closeEngine n).regs = c.regs := by
  unfold Chip.closeEngine
  split
  · rfl
  · exact c.startTest_regs _ _

theorem Chip.closeBank_regs (b : Nat) : (c.closeBank b).regs = c.regs := by
  unfold Chip.closeBank
  split
  · rfl
  · exact c.startTest_regs _ _

theorem Chip.closeEngine_keeps (n : Nat) {v : TestUnit} (h : c.testing v = true) : (c.closeEngine n).testing v = true := by
  unfold Chip.closeEngine
  split
  · exact h
  · exact c.startTest_keeps 4 h

theorem Chip.closeBank_keeps (b : Nat) {v : TestUnit} (h : c.testing v = true) : (c.closeBank b).testing v = true := by
  unfold Chip.closeBank
  split
  · exact h
  · exact c.startTest_keeps 4 h

theorem foldl_regs {α : Type} {g : Chip → α → Chip} (hg : ∀ d x, (g d x).regs = d.regs) (l : List α) (c : Chip) :
    (l.foldl g c).regs = c.regs :=
  List.foldlRecOn (motive := fun d : Chip => d.regs = c.regs) l g rfl fun d hd x _ => (hg d x).trans hd

/-- Every usable engine is under test after the shutdown's start. -/
theorem foldl_closeEngine {d : Chip} {n : Fin 17} (h : d.seState n.val ≠ seUnusable) :
    ((List.range 17).foldl Chip.closeEngine d).testing (.engine n) = true := by
  have hstep : ∀ e : Chip, e.seState n.val ≠ seUnusable → (e.closeEngine n.val).testing (.engine n) = true := fun e he => by
    rw [Chip.closeEngine, if_neg he, Fin.ofNat_val_eq_self]
    exact e.startTest_testing _ _
  exact foldl_reaches (J := fun e : Chip => e.seState n.val ≠ seUnusable) (K := fun e => e.testing (.engine n) = true) hstep _
    (fun m _ e he => by rwa [Chip.seState, Chip.get_congr (e.closeEngine_regs m)]) (fun m _ e he => e.closeEngine_keeps m he)
    (List.mem_range.mpr n.isLt) d h

/-! ## It ends (R425, R426) -/

theorem Chip.shutdownEnd_due (hs : c.get F.BST_STAT_shut = 2) (ht : c.bst.tests = []) :
    ∃ m id arg, c.shutdownEnd = (((({ c with
      ret := recWrite (recField c.ret 4 4 ||| 1) c.markEng c.markBank c.bst.shutFails m c.ret }).put F.BST_STAT_shut 3).put
        F.BST_SHUTDOWN_go 0).put F.FOLD_STAT_loaded 0).raise id locNone arg := by
  unfold Chip.shutdownEnd
  rw [if_neg (by simp [hs, ht])]
  exact ⟨_, _, _, rfl⟩

end Sys2Proof.Machine

namespace Sys2Proof

open Sys2Proof.Machine

variable {c : Chip}

/-! ## The rows -/

theorem testing_settle (d : Chip) (u : TestUnit) : d.settle.testing u = d.testing u := testing_congr d.settle_bst u

theorem idleTestStart_effect (h : testReady c .idleTestStart = true) : testEffect c c.idleTestStart.settle .idleTestStart := by
  simp only [testReady, Bool.and_eq_true, decide_eq_true_eq, Bool.not_eq_true'] at h
  obtain ⟨⟨⟨⟨hb, hp⟩, hr⟩, hs⟩, -⟩ := h
  intro n hn
  obtain ⟨f, src, hstart⟩ := c.idleTestStart_due hb hp hr hs hn
  rw [testing_settle, hstart]
  exact Chip.startTest_testing _ _ _

theorem spareTestStart_effect {bank : Bool} (h : testReady c (.spareTestStart bank) = true) :
    testEffect c (c.spareTestStart bank).settle (.spareTestStart bank) := by
  simp only [testReady, Bool.and_eq_true, decide_eq_true_eq] at h
  obtain ⟨⟨hb, hs⟩, hready⟩ := h
  cases bank with
  | true =>
    intro b hreq
    rw [if_pos rfl, hreq] at hready
    simp only [Option.any_some, Bool.and_eq_true, decide_eq_true_eq, Option.isNone_iff_eq_none] at hready
    obtain ⟨htest, hnone, hspare⟩ := c.spareTested_shows b
    rw [c.spareTestStart_bank hb hs hreq hready.1 hready.2, testing_settle, Chip.settle_bst]
    exact ⟨htest, hnone, Chip.spareBank_none _ ((Chip.settle_get _ (f := F.PAS_ROT_STAT_spare) (by decide) (by decide)).trans hspare)⟩
  | false =>
    intro n hreq
    rw [if_neg (by simp), hreq] at hready
    simp only [Option.any_some, Bool.and_eq_true, decide_eq_true_eq, Option.isNone_iff_eq_none] at hready
    rw [c.spareTestStart_engine hb hs hreq hready.1 hready.2, testing_settle, Chip.settle_bst, settle_seState]
    exact c.spareEngineTested_shows n

theorem testRequest_effect {r : Req} {v : Word} (h : testReady c (.testRequest r v) = true) :
    accepts c r R.BST_REQ = true ∧ testEffect c (c.writeTestReq v).settle (.testRequest r v) := by
  simp only [testReady, Bool.and_eq_true] at h
  obtain ⟨⟨hacc, hgo⟩, hunit⟩ := h
  refine ⟨hacc, ?_⟩
  have hbst := c.reqWritten_bst v
  simp only [testEffect, Chip.settle_bst, c.writeTestReq_go hgo]
  split
  next hbank =>
    simp only [hbank, if_true, Bool.and_eq_true, decide_eq_true_eq, Bool.not_eq_true'] at hunit
    obtain ⟨⟨hlt, hstat⟩, htest⟩ := hunit
    rw [hbank]
    exact Chip.askTest_bank _ hlt (by rwa [Chip.reqWritten_get _ (by simp only [F.FOLD_BANK_status, R.FOLD_BANK, R.BST_REQ]; omega)])
      ((testing_congr hbst _).trans htest)
  next hbank =>
    have hfalse := eq_false_of_ne_true hbank
    simp only [hfalse, Bool.false_eq_true, if_false, Bool.and_eq_true, decide_eq_true_eq, Bool.not_eq_true'] at hunit
    obtain ⟨⟨⟨⟨hlt, hstop⟩, harm⟩, hun⟩, htest⟩ := hunit
    have hstate : (c.reqWritten v).seState (F.BST_REQ_unit.of v) = c.seState (F.BST_REQ_unit.of v) :=
      Chip.reqWritten_get _ (by simp only [F.SE_STAT_state, R.SE_STAT, R.BST_REQ]; omega) v
    rw [hfalse]
    exact Chip.askTest_engine _ hlt (by rwa [hstate]) (by rwa [hstate]) (by rwa [hstate]) ((testing_congr hbst _).trans htest)

theorem markClear_effect {r : Req} {v : Word} (h : testReady c (.markClear r v) = true) :
    accepts c r R.BST_MARK_CLR = true ∧ testEffect c (c.writeMarkClr v).settle (.markClear r v) := by
  simp only [testReady, Bool.and_eq_true, decide_eq_true_eq] at h
  obtain ⟨hacc, rfl⟩ := h
  refine ⟨hacc, ?_, Chip.settle_rd _ (a := R.BST_MARK_ENG) (by decide) (by decide)⟩
  rw [Chip.settle_ret, Chip.writeMarkClr, if_pos rfl, recField_recWrite]
  exact bitAt_or_pow _ 1 (by decide)

theorem shutdownRequest_effect {r : Req} {v : Word} (h : testReady c (.shutdownRequest r v) = true) :
    accepts c r R.BST_SHUTDOWN = true ∧ testEffect c (c.writeShutdown r v).settle (.shutdownRequest r v) := by
  simp only [testReady, Bool.and_eq_true, Bool.or_eq_true, decide_eq_true_eq] at h
  obtain ⟨⟨⟨⟨hacc, hgo⟩, hmay⟩, hfold⟩, hshut⟩ := h
  refine ⟨hacc, ?_⟩
  rw [testEffect, c.writeShutdown_taken hgo hmay hfold hshut, Chip.settle_get _ (f := F.BST_STAT_shut) (by decide) (by decide),
    Chip.settle_bit _ (f := F.BST_SHUTDOWN_go) (by decide) (by decide), Chip.settle_bst]
  exact Chip.shutdownAsked_shows _ _

theorem shutdownStart_effect (h : testReady c .shutdownStart = true) : testEffect c c.shutdownStart.settle .shutdownStart := by
  simp only [testReady, Bool.and_eq_true, decide_eq_true_eq] at h
  obtain ⟨⟨hs, ht⟩, hf⟩ := h
  have hclosing := c.testsReached_closing c.allStopped_closing
  rw [testEffect, c.shutdownStart_due hs ht hf, Chip.settle_get _ (f := F.BST_STAT_shut) (by decide) (by decide)]
  refine ⟨?_, fun n hn => ?_⟩
  · rw [Chip.get_congr (foldl_regs Chip.closeBank_regs _ _), Chip.get_congr (foldl_regs Chip.closeEngine_regs _ _), hclosing.shut]
  · rw [testing_settle]
    exact List.foldlRecOn (motive := fun d : Chip => d.testing (.engine n) = true) _ _ (foldl_closeEngine (hclosing.usable n hn))
      fun d hd b _ => d.closeBank_keeps b hd

theorem shutdownEnd_effect (h : testReady c .shutdownEnd = true) : testEffect c c.shutdownEnd.settle .shutdownEnd := by
  simp only [testReady, Bool.and_eq_true, decide_eq_true_eq, List.isEmpty_iff] at h
  obtain ⟨m, id, arg, hend⟩ := c.shutdownEnd_due h.1 h.2
  rw [testEffect, hend, Chip.settle_get _ (f := F.BST_STAT_shut) (by decide) (by decide),
    Chip.settle_bit _ (f := F.FOLD_STAT_loaded) (by decide) (by decide), Chip.settle_ret, Chip.get_raise, Chip.bit_raise]
  refine ⟨?_, Chip.put_zero_bit _ rfl, ?_⟩
  · rw [Chip.get_put_free _ (by decide), Chip.get_put_free _ (by decide), Chip.get_put_self _ _ (by decide)]
    rfl
  · simp only [Chip.raise_ret, Chip.put_ret, recField_recWrite]
    exact bitAt_or_pow _ 0 (by decide)

section

variable (s : State)

theorem exec_testComplete (u : TestUnit) (count : Nat) (sig : Word) :
    exec (.testComplete u count sig) s = s.act fun c => c.testComplete u count sig := rfl
theorem exec_testDeadline (u : TestUnit) (count : Nat) (sig : Word) :
    exec (.testDeadline u count sig) s = s.act fun c => c.testDeadline u count sig := rfl
theorem exec_testStateChange (u : TestUnit) : exec (.testStateChange u) s = s.act fun c => c.testStateChange u := rfl
theorem exec_idleTestStart : exec .idleTestStart s = s.act fun c => c.idleTestStart := rfl
theorem exec_spareTestStart (bank : Bool) : exec (.spareTestStart bank) s = s.act fun c => c.spareTestStart bank := rfl
theorem exec_testRequest (r : Req) (v : Word) : exec (.testRequest r v) s = s.act fun c => c.guarded r R.BST_REQ fun c => c.writeTestReq v :=
  rfl
theorem exec_markClear (r : Req) (v : Word) : exec (.markClear r v) s = s.act fun c => c.guarded r R.BST_MARK_CLR fun c => c.writeMarkClr v :=
  rfl
theorem exec_shutdownRequest (r : Req) (v : Word) : exec (.shutdownRequest r v) s =
    s.act fun c => c.guarded r R.BST_SHUTDOWN fun c => c.writeShutdown r v := rfl
theorem exec_shutdownStart : exec .shutdownStart s = s.act fun c => c.shutdownStart := rfl
theorem exec_shutdownEnd : exec .shutdownEnd s = s.act fun c => c.shutdownEnd := rfl

end

/-- A request that is accepted completes with what its action and the end of the command give. -/
theorem completes_request {i : Instr} {s : State} {r : Req} {a : Nat} {f : Chip → Chip} {P : Chip → Prop}
    (he : exec i s = s.act fun c => c.guarded r a f) (h : accepts s.chip r a = true ∧ P (f s.chip).settle) : Completes i s P :=
  completes_act he (by rw [Chip.guarded_accepted _ h.1]; exact h.2)

/-- Settles O32: each row that is due, or that takes a request, completes with its effect. -/
theorem testRowsComplete : Obligations.TestRowsComplete := by
  intro i s _ h
  cases i
  case testComplete u count sig =>
    obtain ⟨t, ht, htime⟩ := (Option.any_eq_true _ _).mp h
    refine completes_act (exec_testComplete s u count sig) ?_
    rw [Chip.testComplete, show s.chip.bst.tests.find? (fun t => decide (t.unit = u)) = some t from ht]
    dsimp only
    rw [if_neg (by simpa using htime)]
    exact endTest_effect ht _ _ _
  case testDeadline u count sig =>
    obtain ⟨t, ht⟩ := Option.isSome_iff_exists.mp h
    refine completes_act (exec_testDeadline s u count sig) ?_
    rw [Chip.testDeadline, show s.chip.bst.tests.find? (fun t => decide (t.unit = u)) = some t from ht]
    exact endTest_effect ht _ _ _
  case testStateChange u => exact completes_act (exec_testStateChange s u) (testStateChange_effect h)
  case idleTestStart => exact completes_act (exec_idleTestStart s) (idleTestStart_effect h)
  case spareTestStart bank => exact completes_act (exec_spareTestStart s bank) (spareTestStart_effect h)
  case testRequest r v => exact completes_request (exec_testRequest s r v) (testRequest_effect h)
  case markClear r v => exact completes_request (exec_markClear s r v) (markClear_effect h)
  case shutdownRequest r v => exact completes_request (exec_shutdownRequest s r v) (shutdownRequest_effect h)
  case shutdownStart => exact completes_act (exec_shutdownStart s) (shutdownStart_effect h)
  case shutdownEnd => exact completes_act (exec_shutdownEnd s) (shutdownEnd_effect h)
  all_goals exact absurd h Bool.false_ne_true

end Sys2Proof
end

section
/-! PROOFS. Sleep, wake and the sleep timer (R405, R406, R430 to R435, R444): what the rows of chapter 18 but the resets do. -/

-- One theorem at a time: many at once, each with a thread of its own, do not fit in memory.
set_option Elab.async false

namespace Sys2Proof.Machine

variable (c : Chip)

/-! ## Parts through the operations of the rows -/

theorem Chip.landOuter_parts (w : Wr) : (c.landOuter w).rf = c.rf ∧ (c.landOuter w).dma = c.dma := by cases w <;> exact ⟨rfl, rfl⟩

theorem Chip.landTo_rf (cyc : Nat) : (c.landTo .crook cyc).rf = c.rf := by
  unfold Chip.landTo
  dsimp only
  split
  · rfl
  · exact List.foldlRecOn (motive := fun d : Chip => d.rf = c.rf) _ _ rfl fun d hd w _ => (d.landOuter_parts w).1.trans hd

theorem Chip.clearResults_crook : c.clearResults.crook = c.crook := by
  unfold Chip.clearResults
  exact List.foldlRecOn (motive := fun e : Chip => e.crook = c.crook) _ _ rfl fun e he i _ => by
    rw [Chip.wr_crook, Chip.wr_crook, he]

theorem Chip.acqDone_crook (arg : Nat) : (c.acqDone arg).crook = c.crook := by
  unfold Chip.acqDone
  rw [Chip.raise_crook, Chip.setAcq_crook, Chip.put_crook, Chip.put_crook]

theorem Chip.acqAbort_parts : c.acqAbort.rf = c.rf ∧ c.acqAbort.dma = c.dma ∧ c.acqAbort.crook = c.crook := by
  have h := c.acqAbort_touches
  refine ⟨h.rf (by decide), h.same .dma (by decide), ?_⟩
  unfold Chip.acqAbort
  split
  · rfl
  · rw [Chip.acqDone_crook, Chip.clearResults_crook]
    rfl

theorem Chip.lnkOff_parts : c.lnkOff.rf = c.rf ∧ c.lnkOff.dma = c.dma ∧ c.lnkOff.crook = c.crook := by
  unfold Chip.lnkOff Chip.lkEnter
  rw [if_neg (by decide)]
  simp only [Chip.setLnk, Chip.put_rf, Chip.put_dma, Chip.put_crook, Chip.levelOff_rf, Chip.levelOff_dma, Chip.levelOff_crook]
  exact ⟨rfl, rfl, rfl⟩

/-! ## Entering SLEEP (R405, R430 to R432) -/

theorem Chip.writePwrCmd_taken {r : Req} {v : Word} (hr : reqHost r = true) (hv : F.PWR_CMD_sleep.ofB v = true)
    (hs : c.get F.PWR_STAT_state = 1) (hl : c.bit F.FOLD_STAT_loaded = true) (hf : c.get F.FOLD_STAT_state = 0)
    (hp : c.get F.SHP_STAT_phase = 3) (ht : c.get F.BST_STAT_shut = 0) :
    c.writePwrCmd r v = ((c.put F.PWR_STAT_state 2).put F.PWR_CMD_sleep 1).setPwr fun p =>
      { p with qAt := c.clearBoundary c.nextSuperframe, atQ := false } := by
  unfold Chip.writePwrCmd
  rw [if_neg (by simp [hr]), if_neg (by simp [hv]), if_pos ⟨hs, hl, hf, hp, ht⟩]

/-- The device as it stands at Q, but for what it records of itself. -/
def Chip.stoppedAtQ : Chip :=
  ((((List.range 17).foldl Chip.stopNow c.dropHandover.dropMirror.abandonTests).cutKeyed.stopCrook.stopDma.gnReset)).lnkOff

theorem Chip.sleepEntry_due (hs : c.get F.PWR_STAT_state = 2) (hq : c.pwr.atQ = false) (ht : c.time.stc = c.pwr.qAt)
    (hf : c.time.frac.val = 0) :
    ∃ ran kept, c.sleepEntry =
      (c.stoppedAtQ.setPwr fun p => { p with atQ := true, ran := ran, kept := kept }).writeWakeRecord := by
  unfold Chip.sleepEntry
  rw [if_neg (by simp [hs, hq, ht, hf])]
  exact ⟨_, _, rfl⟩

theorem Chip.stopCrook_crook : c.stopCrook.crook = CrookSt.zero := rfl
theorem Chip.stopCrook_rf : c.stopCrook.rf = c.rf := c.landTo_rf _
theorem Chip.stopDma_crook : c.stopDma.crook = c.crook := rfl
theorem Chip.stopDma_rf : c.stopDma.rf = c.rf := rfl
theorem Chip.stopDma_dma : c.stopDma.dma = ⟨[], 0, 0⟩ := rfl
theorem Chip.gnReset_parts : c.gnReset.rf = c.rf ∧ c.gnReset.dma = c.dma ∧ c.gnReset.crook = c.crook := c.acqAbort_parts

/-- At Q the crook is in reset, no ring is left and the PA is not keyed (R431). -/
theorem Chip.stoppedAtQ_stopped : c.stoppedAtQ.crook = CrookSt.zero ∧ c.stoppedAtQ.dma.rings = [] ∧ c.stoppedAtQ.rf.keyed = false := by
  unfold Chip.stoppedAtQ
  generalize (List.range 17).foldl Chip.stopNow c.dropHandover.dropMirror.abandonTests = d
  obtain ⟨hrf, hdma, hcrook⟩ := d.cutKeyed.stopCrook.stopDma.gnReset.lnkOff_parts
  obtain ⟨hrf', hdma', hcrook'⟩ := d.cutKeyed.stopCrook.stopDma.gnReset_parts
  rw [hrf, hdma, hcrook, hrf', hdma', hcrook', Chip.stopDma_crook, Chip.stopDma_rf, Chip.stopDma_dma, Chip.stopCrook_crook,
    Chip.stopCrook_rf]
  exact ⟨rfl, rfl, d.cutKeyed_keyed⟩

theorem paSafe_of_unkeyed {d : Chip} (h : d.rf.keyed = false) : Sys2Proof.paSafe d = true := by simp [Sys2Proof.paSafe, h]

theorem Chip.settle_unkeyed (h : c.rf.keyed = false) : c.settle.rf.keyed = false := by
  rw [c.settle_counts (paSafe_of_unkeyed h)]
  exact h

theorem Chip.writeWakeRecord_keeps : c.writeWakeRecord.rf = c.rf ∧ c.writeWakeRecord.dma = c.dma ∧ c.writeWakeRecord.crook = c.crook ∧
    c.writeWakeRecord.pwr = c.pwr := ⟨rfl, rfl, rfl, rfl⟩

theorem KMap.get_keep_of {α : Type} (d : α) {p : Nat → Bool} {k : Nat} (h : p k = true) (m : KMap α) :
    KMap.get d k (KMap.keep p m) = KMap.get d k m := by
  induction m with
  | nil => rfl
  | cons e r ih =>
    by_cases hk : e.1 = k
    · subst hk
      simp [KMap.keep, KMap.get, h]
    · by_cases hp : p e.1 = true <;> simp_all [KMap.keep, KMap.get]

end Sys2Proof.Machine
end

section
/-! PROOFS. The rows of power, sleep, wake and reset complete with their effects (R406, R427 to R444). -/

-- One theorem at a time: many at once, each with a thread of its own, do not fit in memory.
set_option Elab.async false

namespace Sys2Proof.Machine

variable (c : Chip)

/-! ## SLEEP (R432) -/

/-- The device at the instant at which the root is switched off. -/
def Chip.rootStops : Chip :=
  (if c.now ≤ (c.pwr.qAt + 192) * rootPerTick then (c.advanceTo ((c.pwr.qAt + 192) * rootPerTick)).steerStep else c).advanceTo
    ((c.pwr.qAt + 384) * rootPerTick)

theorem Chip.rootStops_moves : ClockMoves ([Fld.whole R.PWR_TMR] ++ (Fld.whole R.CLK_STEER :: targetFlds) ++ [Fld.whole R.PWR_TMR]) c
    c.rootStops := by
  unfold Chip.rootStops
  refine ClockMoves.append ?_ (Chip.advanceTo_moves _ _)
  split
  · exact (c.advanceTo_moves _).append (Chip.steerStep_moves _)
  · exact .refl c _

theorem ClockMoves.co_mem {c d : Chip} {l : List Fld} (h : ClockMoves l c d) : d.co = c.co ∧ d.mem = c.mem :=
  ⟨(congrArg Chip.co h.rest :), (congrArg Chip.mem h.rest :)⟩

theorem Chip.powerDown_co : c.powerDown.co = c.co := rfl
theorem Chip.powerDown_rootOn : c.powerDown.time.rootOn = false := rfl

theorem Chip.sleepEntered_due (hs : c.get F.PWR_STAT_state = 2) (hq : c.pwr.atQ = true) :
    c.sleepEntered = (c.rootStops.powerDown.put F.PWR_STAT_state 3).put F.PWR_CMD_sleep 0 := by
  unfold Chip.sleepEntered
  rw [if_neg (by simp [hs, hq])]
  rfl

theorem Chip.powerDown_byte {a : Nat} (ha : a < 0x100000) : c.powerDown.mem.byte a = c.mem.byte a := by
  have hin : (!within a 0x80000000 0xBFFFFFFF) = true := by
    simp only [within, Bool.not_eq_true', Bool.and_eq_false_iff, decide_eq_false_iff_not]
    omega
  exact KMap.get_keep_of (p := fun k => !within k 0x80000000 0xBFFFFFFF) 0 hin c.mem

theorem Chip.sleepEntered_effect (hs : c.get F.PWR_STAT_state = 2) (hq : c.pwr.atQ = true) :
    Sys2Proof.powerEffect c c.sleepEntered.settle .sleepEntered := by
  obtain ⟨hco, hmem⟩ := c.rootStops_moves.co_mem
  unfold Sys2Proof.powerEffect
  rw [c.sleepEntered_due hs hq, Chip.settle_get _ (f := F.PWR_STAT_state) (by decide) (by decide), Chip.get_put_free _ (by decide),
    Chip.get_put_self _ _ (by decide), Chip.settle_rootOn, Chip.put_time, Chip.put_time, Chip.powerDown_rootOn, Chip.settle_co, Chip.put_co,
    Chip.put_co, Chip.powerDown_co, hco, Chip.settle_mem, Chip.put_mem, Chip.put_mem]
  exact ⟨rfl, rfl, rfl, rfl, fun a ha => (Chip.powerDown_byte _ ha).trans (congrArg (fun m => Mem.byte m a) hmem)⟩

/-! ## WAKE_DIGEST (R406) -/

/-- The device once its wake record was found good, but for the fold that it loads. -/
theorem Chip.wakeDigest_matches (hs : c.get F.PWR_STAT_state = 4) (hr : c.time.rootOn = true) (hn : c.fold.next.isNone = true)
    (hm : (c.advanceTo c.pwr.hashAt).wakeMatches = true) :
    ∃ d : Chip, c.wakeDigest = d.setFold fun f => { f with next := some (readFold (toImage c.fold.buf)) } := by
  unfold Chip.wakeDigest
  rw [if_neg (by simp_all)]
  extract_lets c0 gate c1 c2 c3
  rw [if_neg (by simp [c0, hm])]
  exact ⟨_, rfl⟩

theorem Chip.wakeDigest_misses (hs : c.get F.PWR_STAT_state = 4) (hr : c.time.rootOn = true) (hn : c.fold.next.isNone = true)
    (hm : ¬ (c.advanceTo c.pwr.hashAt).wakeMatches = true) :
    c.wakeDigest = ((c.advanceTo c.pwr.hashAt).deviceReset 7 .t0).put F.SHP_STAT_wake_miss 1 := by
  unfold Chip.wakeDigest
  rw [if_neg (by simp_all)]
  extract_lets c0 gate c1 c2 c3
  exact if_pos (by simp [c0, hm])

theorem Chip.wakeDigest_effect (hs : c.get F.PWR_STAT_state = 4) (hr : c.time.rootOn = true) (hn : c.fold.next.isNone = true) :
    Sys2Proof.powerEffect c c.wakeDigest.settle .wakeDigest := by
  unfold Sys2Proof.powerEffect
  dsimp only
  split
  next hm =>
    obtain ⟨d, hd⟩ := c.wakeDigest_matches hs hr hn hm
    rw [Chip.settle_fold, hd]
    rfl
  next hm =>
    rw [c.wakeDigest_misses hs hr hn hm, Chip.settle_bit _ (f := F.SHP_STAT_wake_miss) (by decide) (by decide), Chip.settle_shp,
      Chip.settle_get _ (f := F.PWR_STAT_cause) (by decide) (by decide), Chip.get_put_free _ (by decide)]
    exact ⟨Chip.put_one_bit _ rfl rfl, rfl, (Chip.deviceReset_stat _ (by decide) _).1⟩

/-! ## WAKE_APPLY (R433, R434) -/

theorem Chip.makeSpare_keepsLoad {n : Nat} (hn : n < 17) : KeepsLoad c (c.makeSpare n) := by
  unfold Chip.makeSpare
  exact (((Touches.refl _ _ c).put (inSe_stat hn).off).put (foldEngine_off hn)).put

theorem Chip.wakeSpare_keeps (was : Chip) : KeepsLoad c (c.wakeSpare was) := by
  unfold Chip.wakeSpare
  split
  · exact .refl _ _ c
  next n hn =>
    have hlt : n < 17 := List.mem_range.mp (List.mem_of_find?_eq_some hn)
    extract_lets c1
    have h1 : KeepsLoad c c1 := by
      unfold c1
      split
      next m _ =>
        split
        · exact .refl _ _ c
        · exact ((Touches.refl _ _ c).put (inSe_stat m.isLt).off).put (foldEngine_off m.isLt)
      · exact .refl _ _ c
    exact h1.trans (Chip.makeSpare_keepsLoad _ hlt)

/-- At B_w units are placed; the pasture is next. -/
def Chip.wakePlaced (f : Fold) : Chip := ((((c.put F.FOLD_STAT_state 3).stopLanes f).placeEngines f).wakeSpare c).placeBanks

theorem Chip.wakePlaced_keeps (f : Fold) : KeepsLoad (c.put F.FOLD_STAT_state 3) (c.wakePlaced f) :=
  (((Chip.stopLanes_keeps _ f).trans (Chip.placeEngines_keeps _ f)).trans (Chip.wakeSpare_keeps _ c)).trans (Chip.placeBanks_keeps _)

theorem Chip.wakeApply_due {f : Fold} (hf : c.fold.next = some f) (hs : c.get F.PWR_STAT_state = 4) (hb : c.pwr.bwAt.isNone = true)
    (hat : c.atBoundary c.frameTicks = true) : c.wakeApply =
      ((((((c.wakePlaced f).zeroPasture.usePads f).setFold fun s =>
        { s with zeroing := true, bAt := c.time.stc, rAt := c.time.stc + c.wakeZeroTicks }).setPwr fun p => { p with bwAt := some c.time.stc }).wr
          R.PAS_R_STC_LO (BitVec.ofNat 32 (c.time.stc + c.wakeZeroTicks))).wr R.PAS_R_STC_HI
            (BitVec.ofNat 32 ((c.time.stc + c.wakeZeroTicks) / 2 ^ 32))) := by
  unfold Chip.wakeApply
  rw [hf]
  exact if_neg (by simp_all)

theorem Chip.wakeApply_effect {f : Fold} (hf : c.fold.next = some f) (hs : c.get F.PWR_STAT_state = 4) (hb : c.pwr.bwAt.isNone = true)
    (hat : c.atBoundary c.frameTicks = true) : Sys2Proof.powerEffect c c.wakeApply.settle .wakeApply := by
  have hpads := Chip.usePads_shows (c.wakePlaced f).zeroPasture f
  rw [c.wakeApply_due hf hs hb hat]
  refine ⟨?_, ?_, ?_, ?_⟩
  · rw [Chip.settle_get _ (f := F.FOLD_STAT_state) (by decide) (by decide), Chip.get_wr_ne _ (by decide), Chip.get_wr_ne _ (by decide),
      Chip.get_setPwr, Chip.get_setFold, hpads.get rfl]
    exact ((c.wakePlaced_keeps f).get (f := F.FOLD_STAT_state) rfl).trans (c.get_put_self _ (by decide) 3)
  · rw [Chip.settle_fold, Chip.wr_fold, Chip.wr_fold]
    rfl
  · rw [Chip.settle_pwr, Chip.wr_pwr, Chip.wr_pwr]
    rfl
  · rw [Chip.settle_pas, Chip.wr_pas, Chip.wr_pas, Chip.setPwr_pas, Chip.setFold_pas, hpads.same .pas (by decide)]
    rfl

/-! ## RUN_READY (R433) -/

/-- What runs and what waits at R_w. -/
def Chip.readyAtR : Chip := c.wakeEngines.wakeCommits

theorem Chip.runReady_due {f : Fold} (hf : c.fold.next = some f) (hs : c.get F.PWR_STAT_state = 4) (hat : c.atR = true) :
    ∃ us, c.runReady = ((((((c.readyAtR.reachR f true).put F.FOLD_STAT_held 0).setPwr fun p => { p with kept := [], ran := [], bwAt := none }).put
      F.PWR_WAKE_TIME_us us).put F.PWR_STAT_state 1).raise Ev.PWR_DONE locNone 0) := by
  unfold Chip.runReady
  rw [hf]
  dsimp only
  rw [if_neg (by simp [hs, hat])]
  exact ⟨_, rfl⟩

theorem Chip.runReady_effect {f : Fold} (hf : c.fold.next = some f) (hs : c.get F.PWR_STAT_state = 4) (hat : c.atR = true) :
    Sys2Proof.powerEffect c c.runReady.settle .runReady := by
  obtain ⟨us, hdue⟩ := c.runReady_due hf hs hat
  obtain ⟨hcur, -⟩ := c.readyAtR.reachR_fold f true
  have hloaded : (c.readyAtR.reachR f true).get F.FOLD_STAT_loaded = 1 :=
    (Chip.reachR_get _ f true (g := F.FOLD_STAT_loaded) rfl).trans (Chip.loadShown_loaded _ f true)
  rw [hdue]
  refine ⟨?_, ?_, ?_⟩
  · rw [Chip.settle_get _ (f := F.PWR_STAT_state) (by decide) (by decide), Chip.get_raise, Chip.get_put_self _ _ (by decide)]
    rfl
  · rw [Chip.settle_fold, Chip.raise_fold, Chip.put_fold, Chip.put_fold, Chip.setPwr_fold, Chip.put_fold, hcur, hf]
  · rw [Chip.settle_bit _ (f := F.FOLD_STAT_loaded) (by decide) (by decide), Chip.bit_raise, Chip.bit_put_free _ (by decide),
      Chip.bit_put_free _ (by decide), Chip.bit_setPwr, Chip.bit_put_free _ (by decide), Chip.bit, hloaded]
    rfl

/-! ## The sleep timer (R435) -/

theorem Chip.alarm_due (he : c.bit F.PWR_WAKE_alarm_en = true) (ht : (!c.time.rootOn || decide (c.toAlarm = 0) || !c.framesRun ||
    decide (c.now + (rootPer32k * c.toAlarm - c.pwr.frac32) ≤ c.boundaryRoot)) = true) : ∃ d : Chip, c.alarm = d.latch F.PWR_WAKE_alarm := by
  unfold Chip.alarm
  rw [if_neg (by simp [he])]
  dsimp only
  split
  next hr =>
    rw [if_neg (by
      rintro ⟨hn, hf, hb⟩
      simp only [hr, hn, hf, Bool.not_true, decide_false, Bool.false_or, decide_eq_true_eq] at ht
      omega)]
    exact ⟨_, rfl⟩
  · exact ⟨_, rfl⟩

/-! ## Resets (R427, R436) -/

theorem Chip.cutBurn_regs : c.cutBurn.regs = c.regs := by
  unfold Chip.cutBurn
  split
  · rfl
  · rfl

theorem Chip.cutBurn_pwr : c.cutBurn.pwr = c.pwr := by
  unfold Chip.cutBurn
  split
  · rfl
  · rfl

theorem Chip.deviceReset_retained (cause : Nat) (stage : Stage) {a : Nat} (ha : retainedReg a = true) (hstat : a ≠ R.PWR_STAT)
    (hcmd : a ≠ R.PWR_CMD) (hair : a ≠ R.GUARD_AIR_CNT) : (c.deviceReset cause stage).rd a = c.rd a := by
  unfold Chip.deviceReset
  dsimp only
  rw [Chip.rd_put_ne _ (f := F.PWR_CMD_sleep) hcmd, Chip.rd_put_ne _ (f := F.PWR_STAT_cause) hstat,
    Chip.rd_put_ne _ (f := F.PWR_STAT_state) hstat]
  calc KMap.get (regReset a) a (KMap.keep retainedReg c.countAir.cutBurn.regs)
      = KMap.get (regReset a) a c.countAir.cutBurn.regs := KMap.get_keep_of _ ha _
    _ = c.countAir.rd a := Chip.rd_congr (Chip.cutBurn_regs _) a
    _ = c.rd a := c.countAir_rd hair

theorem Chip.deviceReset_resets {cause : Nat} (hc : cause < 16) (stage : Stage) :
    Sys2Proof.resetEffect c (c.deviceReset cause stage).settle cause stage := by
  rw [c.deviceReset_settle]
  obtain ⟨hcause, hstate⟩ := c.deviceReset_stat hc stage
  exact ⟨rfl, hcause, hstate, rfl, rfl, fun a ha => c.deviceReset_rd cause stage ha, fun a ha => c.deviceReset_retained cause stage ha⟩

/-- A reset says what it does of the device whatever the pins that led to it. -/
theorem Chip.setPwr_resets {f : PwrSt → PwrSt} {d : Chip} {cause : Nat} {st : Stage} (h : Sys2Proof.resetEffect (c.setPwr f) d cause st) :
    Sys2Proof.resetEffect c d cause st := h

theorem Chip.deviceReset_pins (cause : Nat) (stage : Stage) : (c.deviceReset cause stage).pwr.rstN = c.countAir.cutBurn.pwr.rstN ∧
    (c.deviceReset cause stage).pwr.pg = c.countAir.cutBurn.pwr.pg := ⟨rfl, rfl⟩

theorem Chip.countAir_pwr : c.countAir.pwr = c.pwr := by
  unfold Chip.countAir
  split
  · dsimp only
    split
    · rfl
    · rfl
  · rfl

theorem Chip.fullReset_settle : c.fullReset.settle = c.fullReset := by
  refine Chip.settle_id ⟨[], c.fullReset⟩ ?_
  have hk : c.fullReset.rf.keyed = false := rfl
  have htp : ∀ n, (c.fullReset.tp n).active = false := by intro n; cases n <;> rfl
  have he : c.fullReset.evt.batch = [] := rfl
  simp [Sys2Proof.safe, Sys2Proof.paSafe, Sys2Proof.airSafe, Sys2Proof.tpSafe, Sys2Proof.evtSettled, hk, htp, he]

theorem Chip.fullReset_byte {a : Nat} (ha : a < 0xC0000000) : c.fullReset.mem.byte a = 0 := by
  have hout : within a 0xC0000000 0xC7FFFFFF = false := by
    simp only [within, Bool.and_eq_false_iff, decide_eq_false_iff_not]
    omega
  exact KMap.get_keep_of_not (p := fun k => within k 0xC0000000 0xC7FFFFFF) 0 hout c.mem

theorem Chip.tryStart_starts (hst : c.shp.stage = .inReset) (hs : c.pwr.supply = true) (hp : c.pwr.pg = true) (hr : c.pwr.rstN = true) :
    c.tryStart = c.setShp fun s => { s with stage := .t0 } := if_pos ⟨hst, hs, hp, hr⟩

/-! ## The die sensor (R444) -/

theorem Chip.tempShown_get (temp : BitVec 12) (v : Nat) : ((c.put F.PWR_TEMP_temp temp.toNat).put F.PWR_STAT_otemp v).get F.PWR_TEMP_temp =
    temp.toNat := by
  rw [Chip.get_put_free _ (by decide), Chip.get_put_self _ _ (by decide)]
  exact Nat.mod_eq_of_lt temp.isLt

end Sys2Proof.Machine

namespace Sys2Proof

open Sys2Proof.Machine

variable {c : Chip}

/-! ## The rows -/

theorem sleepCommand_effect {r : Req} {v : Word} (h : powerReady c (.sleepCommand r v) = true) :
    accepts c r R.PWR_CMD = true ∧ powerEffect c (c.writePwrCmd r v).settle (.sleepCommand r v) := by
  simp only [powerReady, Bool.and_eq_true, decide_eq_true_eq] at h
  obtain ⟨⟨⟨⟨⟨⟨⟨hacc, hr⟩, hv⟩, hs⟩, hl⟩, hf⟩, hp⟩, ht⟩ := h
  refine ⟨hacc, ?_⟩
  rw [c.writePwrCmd_taken hr hv hs hl hf hp ht]
  refine ⟨?_, ?_, ?_⟩
  · rw [Chip.settle_get _ (f := F.PWR_STAT_state) (by decide) (by decide), Chip.get_setPwr, Chip.get_put_free _ (by decide),
      Chip.get_put_self _ _ (by decide)]
    rfl
  · rw [Chip.settle_bit _ (f := F.PWR_CMD_sleep) (by decide) (by decide), Chip.bit_setPwr, Chip.put_one_bit _ rfl rfl]
  · rw [Chip.settle_pwr]
    rfl

theorem sleepEntry_effect (h : powerReady c .sleepEntry = true) : powerEffect c c.sleepEntry.settle .sleepEntry := by
  simp only [powerReady, Bool.and_eq_true, Bool.not_eq_true', decide_eq_true_eq] at h
  obtain ⟨⟨⟨hs, hq⟩, ht⟩, hf⟩ := h
  obtain ⟨ran, kept, hdue⟩ := c.sleepEntry_due hs hq ht hf
  obtain ⟨hcrook, hrings, hkeyed⟩ := c.stoppedAtQ_stopped
  obtain ⟨hrf, hdma, hcrk, hpwr⟩ := Chip.writeWakeRecord_keeps
    (c.stoppedAtQ.setPwr fun p => { p with atQ := true, ran := ran, kept := kept })
  unfold powerEffect
  dsimp only
  rw [hdue, Chip.settle_pwr, Chip.settle_crook, Chip.settle_dma, hpwr, hcrk, hdma, Chip.setPwr_crook, Chip.setPwr_dma]
  exact ⟨rfl, hcrook, hrings, Chip.settle_unkeyed _ (by rw [hrf, Chip.setPwr_rf, hkeyed])⟩

theorem wake_effect (h : powerReady c .wake = true) : powerEffect c c.wake.settle .wake := by
  simp only [powerReady, Bool.and_eq_true, decide_eq_true_eq] at h
  have hwake : c.wake = ((c.put F.PWR_STAT_state 4).put F.PWR_STAT_cause 6).setPwr fun p => { p with atQ := false } :=
    if_neg (by simp [h.1, h.2])
  rw [powerEffect, hwake, Chip.settle_get _ (f := F.PWR_STAT_state) (by decide) (by decide),
    Chip.settle_get _ (f := F.PWR_STAT_cause) (by decide) (by decide), Chip.get_setPwr, Chip.get_setPwr, Chip.get_put_free _ (by decide),
    Chip.get_put_self _ _ (by decide), Chip.get_put_self _ _ (by decide)]
  exact ⟨rfl, rfl⟩

theorem alarm_effect (h : powerReady c .alarm = true) : powerEffect c c.alarm.settle .alarm := by
  simp only [powerReady, Bool.and_eq_true] at h
  obtain ⟨d, hd⟩ := c.alarm_due h.1 h.2
  rw [powerEffect, hd, Chip.settle_bit _ (f := F.PWR_WAKE_alarm) (by decide) (by decide), Chip.bit_latch_self _ (by decide) rfl]

theorem rstFall_effect (h : c.pwr.supply = true) : powerEffect c c.rstFall.settle .rstNReset := by
  have hfall : c.rstFall = (c.setPwr fun p => { p with rstN := false }).deviceReset 1 .inReset := if_pos h
  rw [hfall]
  refine ⟨Chip.setPwr_resets c (Chip.deviceReset_resets _ (by decide) _), ?_⟩
  rw [Chip.settle_pwr, (Chip.deviceReset_pins _ _ _).1, Chip.cutBurn_pwr, Chip.countAir_pwr]
  rfl

theorem pgFall_effect (h : c.pwr.supply = true) (hs : c.get F.PWR_STAT_state ≠ 3) : powerEffect c c.pgFall.settle .pwrGoodReset := by
  have hsupply : (c.setPwr fun p => { p with pg := false }).pwr.supply = true := h
  have hfall : c.pgFall = (c.setPwr fun p => { p with pg := false }).deviceReset 2 .inReset :=
    if_neg (by rw [Chip.get_setPwr, hsupply]; simp [hs])
  rw [hfall]
  refine ⟨Chip.setPwr_resets c (Chip.deviceReset_resets _ (by decide) _), ?_⟩
  rw [Chip.settle_pwr, (Chip.deviceReset_pins _ _ _).2, Chip.cutBurn_pwr, Chip.countAir_pwr]
  rfl

theorem rstRise_effect (h : powerReady c .rstNRelease = true) : powerEffect c c.rstRise.settle .rstNRelease := by
  simp only [powerReady, Bool.and_eq_true, decide_eq_true_eq] at h
  obtain ⟨⟨hst, hs⟩, hp⟩ := h
  rw [powerEffect, Chip.settle_shp, Chip.settle_pwr, Chip.rstRise,
    Chip.tryStart_starts (c.setPwr fun p => { p with rstN := true }) hst hs hp rfl]
  exact ⟨rfl, rfl⟩

theorem pgRise_effect (h : powerReady c .pwrGoodRelease = true) : powerEffect c c.pgRise.settle .pwrGoodRelease := by
  simp only [powerReady, Bool.and_eq_true, decide_eq_true_eq] at h
  obtain ⟨⟨hst, hs⟩, hr⟩ := h
  rw [powerEffect, Chip.settle_shp, Chip.settle_pwr, Chip.pgRise,
    Chip.tryStart_starts (c.setPwr fun p => { p with pg := true }) hst hs rfl hr]
  exact ⟨rfl, rfl⟩

theorem hostSoftReset_effect {r : Req} {v : Word} (h : powerReady c (.hostSoftReset r v) = true) :
    accepts c r R.PWR_RESET = true ∧ powerEffect c (c.writePwrReset r v).settle (.hostSoftReset r v) := by
  simp only [powerReady, Bool.and_eq_true, decide_eq_true_eq] at h
  obtain ⟨⟨⟨hacc, hr⟩, hv⟩, hp⟩ := h
  refine ⟨hacc, ?_⟩
  unfold Chip.writePwrReset
  rw [if_neg (by simp [hr]), if_pos hv, Chip.softReset, if_pos (by simpa [Chip.softResets] using hp)]
  exact c.deviceReset_resets (by decide) _

theorem overtemp_effect {temp : BitVec 12} (h : 4 * Int.ofNat (c.get F.PWR_TEMP_thr) ≤ temp.toInt) :
    powerEffect c (c.overtemp temp).settle (.pwrOvertemp temp) := by
  unfold Chip.overtemp
  rw [if_neg (by omega), powerEffect, Chip.settle_bit _ (f := F.PWR_STAT_otemp) (by decide) (by decide),
    Chip.settle_get _ (f := F.PWR_TEMP_temp) (by decide) (by decide), (Chip.renewOvertemp_moves _).bit (by decide),
    (Chip.renewOvertemp_moves _).get _ (by decide), Chip.tempShown_get, Chip.put_one_bit _ rfl rfl]
  exact ⟨rfl, rfl⟩

theorem overtempEnd_effect {temp : BitVec 12} (h : temp.toInt ≤ 4 * Int.ofNat (c.get F.PWR_TEMP_thr) - 12) :
    powerEffect c (c.overtempEnd temp).settle (.overtempEnd temp) := by
  unfold Chip.overtempEnd
  rw [if_neg (by omega), powerEffect, Chip.settle_bit _ (f := F.PWR_STAT_otemp) (by decide) (by decide),
    Chip.settle_get _ (f := F.PWR_TEMP_temp) (by decide) (by decide), Chip.bit_levelOff, Chip.get_levelOff, Chip.tempShown_get,
    Chip.put_zero_bit _ rfl]
  exact ⟨rfl, rfl⟩

section

variable (s : State)

theorem exec_sleepCommand (r : Req) (v : Word) : exec (.sleepCommand r v) s =
    s.act fun c => c.guarded r R.PWR_CMD fun c => c.writePwrCmd r v := rfl
theorem exec_sleepEntry : exec .sleepEntry s = s.act fun c => c.sleepEntry := rfl
theorem exec_sleepEntered : exec .sleepEntered s = s.act fun c => c.sleepEntered := rfl
theorem exec_wake : exec .wake s = s.act fun c => c.wake := rfl
theorem exec_wakeDigest : exec .wakeDigest s = s.act fun c => c.wakeDigest := rfl
theorem exec_wakeApply : exec .wakeApply s = s.act fun c => c.wakeApply := rfl
theorem exec_runReady : exec .runReady s = s.act fun c => c.runReady := rfl
theorem exec_alarm : exec .alarm s = s.act fun c => c.alarm := rfl
theorem exec_powerOnReset : exec .powerOnReset s = s.act fun c => c.supplyRise := rfl
theorem exec_retentionSupplyLoss : exec .retentionSupplyLoss s = s.act fun c => c.supplyFall := rfl
theorem exec_rstNReset : exec .rstNReset s = s.act fun c => c.rstFall := rfl
theorem exec_rstNRelease : exec .rstNRelease s = s.act fun c => c.rstRise := rfl
theorem exec_pwrGoodReset : exec .pwrGoodReset s = s.act fun c => c.pgFall := rfl
theorem exec_pwrGoodRelease : exec .pwrGoodRelease s = s.act fun c => c.pgRise := rfl
theorem exec_hostSoftReset (r : Req) (v : Word) : exec (.hostSoftReset r v) s =
    s.act fun c => c.guarded r R.PWR_RESET fun c => c.writePwrReset r v := rfl
theorem exec_pwrOvertemp (temp : BitVec 12) : exec (.pwrOvertemp temp) s = s.act fun c => c.overtemp temp := rfl
theorem exec_overtempEnd (temp : BitVec 12) : exec (.overtempEnd temp) s = s.act fun c => c.overtempEnd temp := rfl

end

/-- Settles O31: each row that is due, or that takes a request, completes with its effect. -/
theorem powerRowsComplete : Obligations.PowerRowsComplete := by
  intro i s _ h
  cases i
  case sleepCommand r v => exact completes_request (exec_sleepCommand s r v) (sleepCommand_effect h)
  case sleepEntry => exact completes_act (exec_sleepEntry s) (sleepEntry_effect h)
  case sleepEntered =>
    simp only [powerReady, Bool.and_eq_true, decide_eq_true_eq] at h
    exact completes_act (exec_sleepEntered s) (s.chip.sleepEntered_effect h.1 h.2)
  case wake => exact completes_act (exec_wake s) (wake_effect h)
  case wakeDigest =>
    simp only [powerReady, Bool.and_eq_true, decide_eq_true_eq] at h
    exact completes_act (exec_wakeDigest s) (s.chip.wakeDigest_effect h.1.1 h.1.2 h.2)
  case wakeApply =>
    simp only [powerReady, Bool.and_eq_true, decide_eq_true_eq] at h
    obtain ⟨⟨⟨hs, hn⟩, hb⟩, hat⟩ := h
    obtain ⟨f, hf⟩ := Option.isSome_iff_exists.mp hn
    exact completes_act (exec_wakeApply s) (s.chip.wakeApply_effect hf hs hb hat)
  case runReady =>
    simp only [powerReady, Bool.and_eq_true, decide_eq_true_eq] at h
    obtain ⟨⟨hs, hn⟩, hat⟩ := h
    obtain ⟨f, hf⟩ := Option.isSome_iff_exists.mp hn
    exact completes_act (exec_runReady s) (s.chip.runReady_effect hf hs hat)
  case alarm => exact completes_act (exec_alarm s) (alarm_effect h)
  case powerOnReset =>
    refine completes_act (exec_powerOnReset s) ?_
    rw [Chip.supplyRise, Chip.fullReset_settle]
    exact ⟨rfl, rfl, rfl, fun _ => rfl, fun a ha => s.chip.fullReset_byte ha⟩
  case retentionSupplyLoss =>
    refine completes_act (exec_retentionSupplyLoss s) ?_
    have hset : (s.chip.fullReset.setPwr fun p => { p with supply := false }).settle =
        s.chip.fullReset.setPwr fun p => { p with supply := false } :=
      Chip.settle_id ⟨[], _⟩ rfl
    rw [Chip.supplyFall, hset]
    exact ⟨rfl, rfl, rfl, fun _ => rfl⟩
  case rstNReset => exact completes_act (exec_rstNReset s) (rstFall_effect h)
  case rstNRelease => exact completes_act (exec_rstNRelease s) (rstRise_effect h)
  case pwrGoodReset =>
    simp only [powerReady, Bool.and_eq_true, decide_eq_true_eq] at h
    exact completes_act (exec_pwrGoodReset s) (pgFall_effect h.1 h.2)
  case pwrGoodRelease => exact completes_act (exec_pwrGoodRelease s) (pgRise_effect h)
  case hostSoftReset r v => exact completes_request (exec_hostSoftReset s r v) (hostSoftReset_effect h)
  case pwrOvertemp temp => exact completes_act (exec_pwrOvertemp s temp) (overtemp_effect (of_decide_eq_true h))
  case overtempEnd temp => exact completes_act (exec_overtempEnd s temp) (overtempEnd_effect (of_decide_eq_true h))
  all_goals exact absurd h Bool.false_ne_true

end Sys2Proof
end

section
/-! PROOFS. The block resets of the mailbox (R438, R439): what they leave of the shepherd, the transmitter and the rings. -/

-- One theorem at a time: many at once, each with a thread of its own, do not fit in memory.
set_option Elab.async false

namespace Sys2Proof.Machine

variable (c : Chip)

/-- Whatever register a step sets, it touches no part but those named. -/
abbrev TouchesParts (ps : List Part) (c d : Chip) : Prop := Touches ps (fun _ => true) c d

namespace TouchesParts

variable {c}
variable {d e : Chip} {ps : List Part}

theorem refl (ps : List Part) (c : Chip) : TouchesParts ps c c := Touches.refl _ _ c

theorem of_touches {own : Nat → Bool} (h : Touches ps own c d) {qs : List Part} (hp : ps ⊆ qs := by decide) : TouchesParts qs c d :=
  Touches.mono h hp fun _ _ => rfl

theorem wr (h : TouchesParts ps c d) {a : Nat} {v : Word} : TouchesParts ps c (d.wr a v) := Touches.wr h rfl
theorem put (h : TouchesParts ps c d) {f : Fld} {v : Nat} : TouchesParts ps c (d.put f v) := Touches.put h rfl
theorem putB (h : TouchesParts ps c d) {f : Fld} {b : Bool} : TouchesParts ps c (d.putB f b) := Touches.putB h rfl

theorem pageReset (h : TouchesParts ps c d) (lo hi : Nat) : TouchesParts ps c (d.pageReset lo hi) :=
  Touches.trans h ⟨fun p _ => by cases p <;> rfl, fun _ => rfl, fun _ ha _ => nomatch ha⟩

theorem endLevel (h : TouchesParts ps c d) (id : Nat) : TouchesParts ps c (d.endLevel id) :=
  Touches.foldl h fun _ _ e => Touches.levelOff (Touches.refl _ _ e)

theorem setGrp (h : TouchesParts ps c d) (g : Nat) (x : Grp) (hp : .prt ∈ ps := by decide) : TouchesParts ps c (d.setGrp g x) :=
  Touches.prt h hp
theorem setLane (h : TouchesParts ps c d) (n : Nat) (l : Lane) (hp : .prt ∈ ps := by decide) : TouchesParts ps c (d.setLane n l) :=
  (Touches.prt (x := { d.prt with lanes := KMap.set Lane.zero n l d.prt.lanes }) h hp).put rfl

end TouchesParts

/-! ## The transmitter -/

theorem Chip.lkTune_keyed (ch : Nat) : (c.lkTune ch).rf.keyed = c.rf.keyed := by
  unfold Chip.lkTune Chip.askRx
  split
  · rfl
  · rfl

theorem Chip.calJudge_keyed : c.calJudge.rf.keyed = c.rf.keyed := by
  have hend : c.calEnd.rf.keyed = c.rf.keyed := by
    unfold Chip.calEnd
    split
    · rfl
    · rfl
  unfold Chip.calJudge Chip.calAbandon Chip.showTx
  split
  · split
    · rw [Chip.put_rf, hend]
    · rfl
  · rfl

theorem Chip.lnkFold_keyed (f : Fold) : (c.lnkFold f).rf.keyed = c.rf.keyed := by
  unfold Chip.lnkFold
  extract_lets from' c1
  have h1 : c1.rf.keyed = c.rf.keyed := by
    unfold c1
    split
    · rfl
    · rfl
  rw [Chip.calJudge_keyed]
  split
  · exact h1
  · exact (c1.lkTune_keyed _).trans h1

theorem Chip.lkTune_parts (ch : Nat) : TouchesParts [.rf] c (c.lkTune ch) := by
  have h1 : TouchesParts [.rf] c (c.put F.LNK_STAT_ch ch) := (TouchesParts.refl _ c).put
  unfold Chip.lkTune Chip.askRx
  split
  · exact h1
  · exact Touches.rfSt h1.put

theorem Chip.calJudge_parts : TouchesParts [.rf] c c.calJudge := by
  have hend : TouchesParts [.rf] c c.calEnd := by
    unfold Chip.calEnd
    split
    · exact Touches.rfSt (TouchesParts.refl _ c)
    · exact .refl _ c
  unfold Chip.calJudge Chip.calAbandon Chip.showTx
  split
  · split
    · exact hend.put
    · exact .refl _ c
  · exact .refl _ c

theorem Chip.lnkFold_parts (f : Fold) : TouchesParts [.rf, .lnk] c (c.lnkFold f) := by
  unfold Chip.lnkFold
  extract_lets from' c1
  have h1 : TouchesParts [.rf, .lnk] c c1 := by
    unfold c1
    split
    · exact Touches.lnk (TouchesParts.refl _ c)
    · exact .refl _ c
  refine Touches.trans ?_ (TouchesParts.of_touches (Chip.calJudge_parts _))
  split
  · exact Touches.lnk h1
  · exact Touches.lnk (Touches.trans h1 (TouchesParts.of_touches (c1.lkTune_parts _)))

/-! ## The ports -/

theorem Chip.usePorts_parts (f : Fold) : TouchesParts [.prt] c (c.usePorts f) := by
  unfold Chip.usePorts
  extract_lets c1 c2
  have h1 : TouchesParts [.prt] c c1 := Touches.foldl (TouchesParts.refl _ c) fun g _ e => by
    extract_lets d slave loss _ c0 c' c''
    have h' : TouchesParts [.prt] e c' :=
      ((((((((((TouchesParts.refl _ e).setGrp g _).put).put.wr).put).put).put).put).put).put).put
    have h'' : TouchesParts [.prt] e c'' := by
      unfold c''
      split
      · exact h'
      · exact h'.put
    split_ifs
    · exact h'.wr.wr.wr.wr
    · exact h''.put.put
    · exact h''
    · exact h''.put
  have h2 : TouchesParts [.prt] c c2 := Touches.foldl h1 fun n _ e => by
    extract_lets d g locked c0 c' l
    have h0 : TouchesParts [.prt] e c0 := by
      unfold c0
      split
      · exact (TouchesParts.refl _ e).wr.wr.wr
      · exact .refl _ e
    exact (((h0.wr.put.put.put.put.put.putB).put).put).setLane n _
  exact h2.wr

/-! ## The resets -/

theorem Chip.gnReset_touches : TouchesParts [.gn, .pas] c c.gnReset := Touches.gn (TouchesParts.of_touches c.acqAbort_touches)

theorem Chip.countAir_parts : TouchesParts [.rf] c c.countAir := by
  unfold Chip.countAir
  split
  · dsimp only
    split
    · exact Touches.rfSt (TouchesParts.refl _ c).put
    · exact .refl _ c
  · exact .refl _ c

theorem Chip.resetRf_parts : TouchesParts [.rf] c c.resetRf := by
  unfold Chip.resetRf
  exact Touches.rfSt (((c.countAir_parts.endLevel _).endLevel _).endLevel _ |>.pageReset _ _)

theorem Chip.resetGn_parts : TouchesParts [.gn, .pas] c c.resetGn := c.gnReset_touches.pageReset _ _

theorem Chip.resetLnk_parts : TouchesParts [.rf, .lnk] c c.resetLnk := by
  unfold Chip.resetLnk
  extract_lets _ c1
  have h1 : TouchesParts [.rf, .lnk] c c1 := Touches.lnk (((TouchesParts.refl _ c).endLevel _).pageReset _ _)
  split
  · exact Touches.trans h1 (c1.lnkFold_parts _)
  · exact h1

theorem Chip.ddrOff_parts : TouchesParts [.dma, .mem, .pas] c c.ddrOff := by
  unfold Chip.ddrOff
  extract_lets c1
  exact Touches.mem (TouchesParts.put (TouchesParts.put (TouchesParts.put (TouchesParts.put (.refl _ c)))))

theorem Chip.resetDma_parts : TouchesParts [.dma, .mem, .pas] c c.resetDma := by
  unfold Chip.resetDma
  extract_lets c1 isDma
  exact Touches.pas (Touches.dma (c.ddrOff_parts.pageReset 0x40050000 0x40051FFF) (x := ⟨[], 0, 0⟩))

theorem Chip.setLost_parts (a : Nat) : TouchesParts [] c (c.setLost a) := by
  unfold Chip.setLost
  split
  · exact .refl _ c
  · exact Touches.raise (TouchesParts.refl _ c).put

theorem Chip.resetPrt_parts : TouchesParts [.prt, .fold] c c.resetPrt := by
  unfold Chip.resetPrt
  extract_lets _ c1 c2
  have h1 : TouchesParts [.prt, .fold] c c1 := Touches.prt (((TouchesParts.refl _ c).endLevel _).pageReset _ _)
  have h2 : TouchesParts [.prt, .fold] c c2 := by
    unfold c2
    split
    · exact Touches.setFold (Touches.trans (Touches.setFold h1) (TouchesParts.of_touches (Chip.usePorts_parts _ _)))
    · exact h1
  refine Touches.foldl h2 fun a _ e => ?_
  split
  · exact (TouchesParts.refl _ e).put
  · exact TouchesParts.of_touches (e.setLost_parts a)

end Sys2Proof.Machine
end

section
/-! PROOFS. The commands of the mailbox complete with their effects (R397 to R404, R409, R439). -/

-- One theorem at a time: many at once, each with a thread of its own, do not fit in memory.
set_option Elab.async false

namespace Sys2Proof.Machine

variable (c : Chip)

/-! ## The channels' fields -/

theorem mbStat_ne (crook : Bool) {a : Nat} (ha : a < 0x400c0114 := by decide) : R.SHP_MB_STAT (b2n crook) ≠ a := by
  unfold R.SHP_MB_STAT
  omega

theorem mbStat_kept (crook : Bool) : flushReg (R.SHP_MB_STAT (b2n crook)) = false ∧ holdReg (R.SHP_MB_STAT (b2n crook)) = false := by
  cases crook <;> decide

theorem busy_free (crook : Bool) : (F.SHP_MB_STAT_busy (b2n crook)).freeOf [F.SHP_MB_STAT_done (b2n crook)] = true ∧
    (F.SHP_MB_STAT_result (b2n crook)).freeOf [F.SHP_MB_STAT_done (b2n crook)] = true ∧
    (F.SHP_MB_STAT_result (b2n crook)).freeOf [F.SHP_MB_STAT_busy (b2n crook)] = true := by
  cases crook <;> decide

/-! ## A command begins (R403, R404) -/

/-- The channel is busy with the command. -/
def Chip.mbBegun (crook : Bool) : Chip :=
  (c.put (F.SHP_MB_STAT_busy (b2n crook)) 1).setShp fun s => if crook then s else { s with drop := false }

/-- The command as its registers give it. -/
def Chip.mbAsked (crook : Bool) (code : Nat) : MbCmd :=
  ⟨code, BitVec.ofNat 32 (c.rd (R.SHP_MB_ARG0 (b2n crook))).toNat, BitVec.ofNat 32 (c.rd (R.SHP_MB_ARG1 (b2n crook))).toNat, none, []⟩

theorem Chip.mbBegun_busy (crook : Bool) : (c.mbBegun crook).bit (F.SHP_MB_STAT_busy (b2n crook)) = true := by
  rw [Chip.mbBegun, Chip.bit_setShp, Chip.put_one_bit _ rfl rfl]

theorem Chip.mbBegun_shp (crook : Bool) : (c.mbBegun crook).shp.burnQ = c.shp.burnQ ∧ (c.mbBegun crook).shp.fifo = c.shp.fifo ∧
    (c.mbBegun crook).shp.gatePass = c.shp.gatePass := by
  rw [Chip.mbBegun, Chip.setShp_shp, Chip.put_shp]
  cases crook <;> exact ⟨rfl, rfl, rfl⟩

theorem Chip.mbBegun_get (crook : Bool) {f : Fld} (h : f.addr < 0x400c0114) : (c.mbBegun crook).get f = c.get f := by
  rw [Chip.mbBegun, Chip.get_setShp, Chip.get_put_ne _ (mbStat_ne crook h).symm]

theorem Chip.mbBegun_rd (crook : Bool) {a : Nat} (h : a < 0x400c0114) : (c.mbBegun crook).rd a = c.rd a := by
  rw [Chip.mbBegun, Chip.rd_setShp, Chip.rd_put_ne _ (mbStat_ne crook h).symm]

@[simp] theorem Chip.mbCmd_setMbCmd (crook : Bool) (m : Option MbCmd) : (c.setMbCmd crook m).mbCmd crook = m := by
  cases crook <;> rfl

theorem Chip.mbCmd_congr {c d : Chip} (h : d.shp = c.shp) (crook : Bool) : d.mbCmd crook = c.mbCmd crook := by
  rw [Chip.mbCmd, h, Chip.mbCmd]

@[simp] theorem Chip.bit_setMbCmd (crook : Bool) (m : Option MbCmd) (f : Fld) : (c.setMbCmd crook m).bit f = c.bit f := rfl
@[simp] theorem Chip.get_setMbCmd (crook : Bool) (m : Option MbCmd) (f : Fld) : (c.setMbCmd crook m).get f = c.get f := rfl
@[simp] theorem Chip.rd_setMbCmd (crook : Bool) (m : Option MbCmd) (a : Nat) : (c.setMbCmd crook m).rd a = c.rd a := rfl

/-- What sets neither command nor what waits beside them. -/
theorem Chip.setMbCmd_shp (crook : Bool) (m : Option MbCmd) : (c.setMbCmd crook m).shp.burnQ = c.shp.burnQ ∧
    (c.setMbCmd crook m).shp.fifo = c.shp.fifo ∧ (c.setMbCmd crook m).shp.chal = c.shp.chal := by
  cases crook <;> exact ⟨rfl, rfl, rfl⟩

section

variable {c}
variable {crook : Bool} {code : Nat}

theorem Chip.startMb_result (h : Sys2Proof.mbStart c crook code = .result 0) : c.startMb crook code =
    (if code = 0x31 then (c.mbBegun crook).challenge (c.rd (R.SHP_MB_ARG0 (b2n crook))).toNat
      else if code = 0x40 then (c.mbBegun crook).setGate (c.rd (R.SHP_MB_ARG0 (b2n crook))).toNat
      else c.mbBegun crook).setMbCmd crook (some { c.mbAsked crook code with result := some 0 }) := by
  unfold Chip.startMb
  dsimp only
  rw [show c.judgeMb crook code (c.rd (R.SHP_MB_ARG0 (b2n crook))).toNat (c.rd (R.SHP_MB_ARG1 (b2n crook))).toNat = .result 0 from h]
  rfl

theorem Chip.startMb_burn {l : List (Nat × Nat)} (h : Sys2Proof.mbStart c crook code = .burn l) : c.startMb crook code =
    ((c.mbBegun crook).setMbCmd crook (some { c.mbAsked crook code with burns := l })).queueBurn crook := by
  unfold Chip.startMb
  dsimp only
  rw [show c.judgeMb crook code (c.rd (R.SHP_MB_ARG0 (b2n crook))).toNat (c.rd (R.SHP_MB_ARG1 (b2n crook))).toNat = .burn l from h]
  rfl

/-- The channel runs the command. -/
def Chip.mbRuns (c : Chip) (crook : Bool) (code : Nat) : Chip := (c.mbBegun crook).setMbCmd crook (some (c.mbAsked crook code))

theorem Chip.startMb_stream (h : Sys2Proof.mbStart c crook 0x10 = .runs) (ha : (c.rd (R.SHP_MB_ARG0 (b2n crook))).toNat ≠ 0)
    (hf : (c.mbRuns crook 0x10).shp.fifo.isEmpty = true) : c.startMb crook 0x10 =
      (c.mbRuns crook 0x10).setShp fun s =>
        { s with stage := .verify, boot := some ⟨2, [], 0, none, [], (c.rd (R.SHP_MB_ARG0 (b2n crook))).toNat, [], false, false⟩, fifo := [] } := by
  unfold Chip.startMb
  dsimp only
  rw [show c.judgeMb crook 0x10 (c.rd (R.SHP_MB_ARG0 (b2n crook))).toNat (c.rd (R.SHP_MB_ARG1 (b2n crook))).toNat = .runs from h]
  dsimp only
  rw [if_pos rfl, if_neg ha]
  exact if_pos hf

theorem Chip.startMb_flash (h : Sys2Proof.mbStart c crook 0x11 = .runs) : c.startMb crook 0x11 =
    (c.mbRuns crook 0x11).setShp fun s => { s with stage := .select } := by
  unfold Chip.startMb
  dsimp only
  rw [show c.judgeMb crook 0x11 (c.rd (R.SHP_MB_ARG0 (b2n crook))).toNat (c.rd (R.SHP_MB_ARG1 (b2n crook))).toNat = .runs from h]
  rfl

theorem Chip.startMb_respond (h : Sys2Proof.mbStart c crook 0x32 = .runs) : c.startMb crook 0x32 = (c.mbRuns crook 0x32).tryRespond := by
  unfold Chip.startMb
  dsimp only
  rw [show c.judgeMb crook 0x32 (c.rd (R.SHP_MB_ARG0 (b2n crook))).toNat (c.rd (R.SHP_MB_ARG1 (b2n crook))).toNat = .runs from h]
  rfl

theorem Chip.startMb_reset (h : Sys2Proof.mbStart c crook 0x41 = .runs) : c.startMb crook 0x41 =
    if (c.mbRuns crook 0x41).get F.FOLD_STAT_state = 0 then
      ((c.mbRuns crook 0x41).resetBlocks (c.rd (R.SHP_MB_ARG0 (b2n crook))).toNat).setShp fun s =>
        { s with crookCmd := s.crookCmd.map fun x => { x with result := some 0 } }
    else c.mbRuns crook 0x41 := by
  unfold Chip.startMb
  dsimp only
  rw [show c.judgeMb crook 0x41 (c.rd (R.SHP_MB_ARG0 (b2n crook))).toNat (c.rd (R.SHP_MB_ARG1 (b2n crook))).toNat = .runs from h]
  rfl

end

end Sys2Proof.Machine

namespace Sys2Proof

open Sys2Proof.Machine

variable {c : Chip} {r : Req} {code : Nat}

/-! ## What the device admits (R404) -/

/-- A command that is not turned away is accepted on a free channel, in a phase that takes commands, and comes to no error. -/
theorem mbAdmits_parts (h : mbAdmits c r code = true) : accepts c r (R.SHP_MB_CMD (b2n (reqCrook r))) = true ∧
    c.bit (F.SHP_MB_STAT_busy (b2n (reqCrook r))) = false ∧ (∀ n, mbStart c (reqCrook r) code = .result n → n = 0) := by
  simp only [mbAdmits, Bool.and_eq_true, Bool.not_eq_true'] at h
  refine ⟨h.1.1, h.1.2, fun n hn => ?_⟩
  have := h.2
  rw [hn] at this
  simpa using this

/-- What the start of a command comes to where its issuer and the state allow it. -/
theorem start_of_admitted {b : Bool} {x : MbStart} (h : ∀ n, (if b then x else .result 2) = MbStart.result n → n = 0) : b = true := by
  cases b
  · exact absurd (h 2 rfl) (by decide)
  · rfl

section

variable {crook : Bool}

theorem phase_of_admitted (h : ∀ n, mbStart c crook code = .result n → n = 0) : c.get F.SHP_STAT_phase ≠ 6 := fun hp => by
  have := h 2 (by rw [mbStart, Chip.judgeMb]; exact if_pos hp)
  contradiction

theorem early_of_admitted (h : ∀ n, mbStart c crook code = .result n → n = 0) : (crook && c.bit F.SHP_STAT_early) = false := by
  by_contra he
  have := h 4 (by rw [mbStart, Chip.judgeMb, if_neg (phase_of_admitted h)]; exact if_pos (eq_true_of_ne_false he))
  contradiction

/-- Bundle commands are the host's, and run (R404). -/
theorem mbStart_boot (hc : code = 0x10 ∨ code = 0x11) (h : ∀ n, mbStart c crook code = .result n → n = 0) :
    crook = false ∧ mbStart c crook code = .runs := by
  have heq : mbStart c crook code =
      if !crook && decide (c.shp.stage = .hold) && decide (c.get F.SHP_STAT_phase = 4) then .runs else .result 2 := by
    rw [mbStart, Chip.judgeMb, if_neg (phase_of_admitted h), early_of_admitted h, if_neg Bool.false_ne_true, if_pos hc]
  rw [heq] at h ⊢
  have hheld := start_of_admitted h
  exact ⟨by simp_all, if_pos hheld⟩

/-- CHALLENGE is the host's, and done at once. -/
theorem mbStart_challenge (h : ∀ n, mbStart c crook 0x31 = .result n → n = 0) : crook = false ∧ mbStart c crook 0x31 = .result 0 := by
  obtain ⟨x, heq⟩ : ∃ x : Bool, mbStart c crook 0x31 = if !crook && c.lifeState == 1 && decide (c.shp.fails < 3) then
      (if x then .result 0 else .result 3) else .result 2 := by
    refine ⟨decide ((c.rd (R.SHP_MB_ARG0 (b2n crook))).toNat = 1 ∨ (c.rd (R.SHP_MB_ARG0 (b2n crook))).toNat = 2), ?_⟩
    rw [mbStart, Chip.judgeMb, if_neg (phase_of_admitted h), early_of_admitted h]
    simp
  rw [heq] at h ⊢
  have hmay := start_of_admitted h
  rw [if_pos hmay] at h ⊢
  cases x
  · exact absurd (h 3 rfl) (by decide)
  · exact ⟨by simp_all, rfl⟩

/-- RESPOND is the host's, and runs. -/
theorem mbStart_respond (h : ∀ n, mbStart c crook 0x32 = .result n → n = 0) : crook = false ∧ mbStart c crook 0x32 = .runs := by
  have heq : mbStart c crook 0x32 = if !crook && c.lifeState == 1 then .runs else .result 2 := by
    rw [mbStart, Chip.judgeMb, if_neg (phase_of_admitted h), early_of_admitted h]
    simp
  rw [heq] at h ⊢
  have hmay := start_of_admitted h
  exact ⟨by simp_all, if_pos hmay⟩

/-- GATE_SET is done at once. -/
theorem mbStart_gate (h : ∀ n, mbStart c crook 0x40 = .result n → n = 0) : mbStart c crook 0x40 = .result 0 := by
  obtain ⟨x, heq⟩ : ∃ x : Bool, mbStart c crook 0x40 = if crook && c.passed then (if x then .result 3 else .result 0) else .result 2 := by
    refine ⟨bitAt (c.rd (R.SHP_MB_ARG0 (b2n crook))).toNat 1, ?_⟩
    rw [mbStart, Chip.judgeMb, if_neg (phase_of_admitted h), early_of_admitted h]
    simp
  rw [heq] at h ⊢
  have hmay := start_of_admitted h
  rw [if_pos hmay] at h ⊢
  cases x
  · rfl
  · exact absurd (h 3 rfl) (by decide)

/-- RESET_REQ is the crook's, and runs. -/
theorem mbStart_reset (h : ∀ n, mbStart c crook 0x41 = .result n → n = 0) : crook = true ∧ mbStart c crook 0x41 = .runs := by
  obtain ⟨x, heq⟩ : ∃ x : Bool, mbStart c crook 0x41 = if crook && c.passed then (if x then .result 3 else .runs) else .result 2 := by
    refine ⟨decide (64 ≤ (c.rd (R.SHP_MB_ARG0 (b2n crook))).toNat), ?_⟩
    rw [mbStart, Chip.judgeMb, if_neg (phase_of_admitted h), early_of_admitted h]
    simp
  rw [heq] at h ⊢
  have hmay := start_of_admitted h
  rw [if_pos hmay] at h ⊢
  cases x
  · exact ⟨by simp_all, rfl⟩
  · exact absurd (h 3 rfl) (by decide)

end

end Sys2Proof
end

section
/-! PROOFS. The rows of the mailbox complete with their effects (R397 to R404, R409, R439). -/

-- One theorem at a time: many at once, each with a thread of its own, do not fit in memory.
set_option Elab.async false

namespace Sys2Proof.Machine

variable (c : Chip)

/-! ## Burns (R386, R387) -/

theorem bitAt_eq_testBit (n k : Nat) : bitAt n k = n.testBit k := by rw [Nat.testBit_eq_decide_div_mod_eq, bitAt]

namespace ShpSt

variable {s : ShpSt} {x rb : Nat × Nat}

/-- A bit that takes a burn reads 1 after it. -/
theorem burn_burnt (hd : s.isDud rb = false) (hb : rb.2 < 32) : (s.burn rb).burnt rb = true := by
  have hpow : 2 ^ rb.2 % 2 ^ 32 = 2 ^ rb.2 := Nat.mod_eq_of_lt (Nat.pow_lt_pow_right (by decide) hb)
  rw [burn, if_neg (by simp [hd]), burnt]
  dsimp only [orBit]
  rw [KMap.get_set_self, BitVec.toNat_or, BitVec.toNat_ofNat, hpow, bitAt_eq_testBit, Nat.testBit_or, Nat.testBit_two_pow_self, Bool.or_true]

theorem burn_isDud (y : Nat × Nat) : (s.burn rb).isDud y = s.isDud y := by
  unfold burn weaken
  split
  · split
    · rfl
    · rfl
  · rfl

/-- A burn clears no bit. -/
theorem burn_keeps (h : s.burnt x = true) : (s.burn rb).burnt x = true := by
  unfold burn weaken
  split
  · split
    · exact h
    · exact h
  · dsimp only [burnt, orBit]
    by_cases hr : x.1 = rb.1
    · rw [hr, KMap.get_set_self, BitVec.toNat_or, bitAt_eq_testBit, Nat.testBit_or, ← bitAt_eq_testBit, ← hr, show bitAt _ _ = true from h,
        Bool.true_or]
    · rw [KMap.get_set_ne _ _ hr]
      exact h

theorem burnAll_keeps (l : List (Nat × Nat)) : ∀ s : ShpSt, s.burnt x = true → (s.burnAll l).1.burnt x = true := by
  induction l with
  | nil => exact fun _ h => h
  | cons rb r ih =>
    intro s h
    rw [burnAll]
    split
    · exact burn_keeps h
    · exact ih _ (burn_keeps h)

/-- Burns of bits that take a burn burn each of them. -/
theorem burnAll_burnt (l : List (Nat × Nat)) : ∀ s : ShpSt, (∀ x ∈ l, s.isDud x = false ∧ x.2 < 32) →
    ∀ x ∈ l, (s.burnAll l).1.burnt x = true := by
  induction l with
  | nil => exact fun _ _ x hx => nomatch hx
  | cons rb r ih =>
    intro s h x hx
    obtain ⟨hd, hb⟩ := h rb List.mem_cons_self
    rw [burnAll, if_neg (by simp [hd])]
    rcases List.mem_cons.mp hx with rfl | hin
    · exact burnAll_keeps r _ (burn_burnt hd hb)
    · exact ih _ (fun y hy => by rw [burn_isDud]; exact h y (List.mem_cons_of_mem _ hy)) x hin

end ShpSt

/-! ## A RESPOND takes its words (R409) -/

section

variable {c}
variable {m : MbCmd} (hm : c.shp.hostCmd = some m)

include hm

theorem Chip.tryRespond_waits (hl : c.shp.fifo.length < 49) : c.tryRespond = c := by
  unfold Chip.tryRespond
  rw [hm]
  exact if_pos (by simp [hl])

theorem Chip.tryRespond_takes (hcode : m.code = 0x32) (hres : m.result = none) (hb : m.burns = []) (hl : 49 ≤ c.shp.fifo.length) :
    c.tryRespond.shp.chal = none ∧ c.tryRespond.shp.fifo = c.shp.fifo.drop 49 := by
  unfold Chip.tryRespond
  rw [hm]
  dsimp only
  rw [if_neg (by simp [hcode, hres, hb]; omega)]
  split
  · exact ⟨rfl, rfl⟩
  · split
    · exact ⟨rfl, rfl⟩
    · exact ⟨rfl, rfl⟩

end

theorem Chip.tryRespond_bit {f : Fld} (h : f.addr ≠ R.SHP_STAT) : c.tryRespond.bit f = c.bit f := by
  unfold Chip.tryRespond
  split
  · rfl
  · split
    · rfl
    · dsimp only
      split
      · rfl
      · rw [Chip.bit_setMbCmd]
        split
        · exact Chip.bit_put_ne _ h _
        · rfl

/-! ## Block resets (R439) -/

theorem Chip.showFuses_shp : c.showFuses.shp = c.shp := by
  unfold Chip.showFuses
  dsimp only
  rw [Chip.put_shp, Chip.wr_shp]

theorem Chip.setMbCmd_fuse (crook : Bool) (m : Option MbCmd) : (c.setMbCmd crook m).shp.fuse = c.shp.fuse := by
  cases crook <;> rfl

/-- What a step that is taken under a bit of the mask keeps. -/
theorem keeps_if {c d : Chip} {b : Bool} {P : Chip → Prop} (hc : P c) (hd : P d) : P (if b then d else c) := by
  cases b
  · exact hc
  · exact hd

/-- The resets of a mask but for the device's own. -/
theorem Chip.resetBlocks_some {mask : Nat} (h : bitAt mask 0 = false) : c.resetBlocks mask =
    let c1 := if bitAt mask 1 then c.resetRf else c
    let c2 := if bitAt mask 2 then c1.resetGn else c1
    let c3 := if bitAt mask 3 then c2.resetLnk else c2
    let c4 := if bitAt mask 4 then c3.resetDma else c3
    if bitAt mask 5 then c4.resetPrt else c4 := by
  unfold Chip.resetBlocks
  rw [h, if_neg Bool.false_ne_true]

theorem Chip.resetBlocks_shp {mask : Nat} (h : bitAt mask 0 = false) : (c.resetBlocks mask).shp = c.shp := by
  rw [c.resetBlocks_some h]
  extract_lets c1 c2 c3 c4
  have h1 : c1.shp = c.shp := keeps_if (P := fun e => e.shp = c.shp) rfl (c.resetRf_parts.same .shp (by decide))
  have h2 : c2.shp = c.shp := keeps_if (P := fun e => e.shp = c.shp) h1 ((c1.resetGn_parts.same .shp (by decide)).trans h1)
  have h3 : c3.shp = c.shp := keeps_if (P := fun e => e.shp = c.shp) h2 ((c2.resetLnk_parts.same .shp (by decide)).trans h2)
  have h4 : c4.shp = c.shp := keeps_if (P := fun e => e.shp = c.shp) h3 ((c3.resetDma_parts.same .shp (by decide)).trans h3)
  exact keeps_if (P := fun e => e.shp = c.shp) h4 ((c4.resetPrt_parts.same .shp (by decide)).trans h4)

theorem Chip.resetLnk_keyed : c.resetLnk.rf.keyed = c.rf.keyed := by
  unfold Chip.resetLnk
  extract_lets _ c1
  have h1 : c1.rf = c.rf := Touches.rf (ps := [.lnk])
    (Touches.lnk (((TouchesParts.refl [.lnk] c).endLevel Ev.LNK_BEACON_LOST).pageReset 0x400B0000 0x400B0FFF)) (by decide)
  split
  · rw [Chip.lnkFold_keyed, h1]
  · rw [h1]

/-- A reset of the RF front end leaves the PA not keyed. -/
theorem Chip.resetBlocks_keyed {mask : Nat} (h : bitAt mask 0 = false) (hrf : bitAt mask 1 = true) : (c.resetBlocks mask).rf.keyed = false := by
  rw [c.resetBlocks_some h]
  extract_lets c1 c2 c3 c4
  have h1 : c1.rf.keyed = false := by
    unfold c1
    rw [if_pos hrf]
    rfl
  have h2 : c2.rf.keyed = false := keeps_if (P := fun e => e.rf.keyed = false) h1 (by rw [c1.resetGn_parts.rf (by decide), h1])
  have h3 : c3.rf.keyed = false := keeps_if (P := fun e => e.rf.keyed = false) h2 (by rw [c2.resetLnk_keyed, h2])
  have h4 : c4.rf.keyed = false := keeps_if (P := fun e => e.rf.keyed = false) h3 (by rw [c3.resetDma_parts.rf (by decide), h3])
  exact keeps_if (P := fun e => e.rf.keyed = false) h4 (by rw [c4.resetPrt_parts.rf (by decide), h4])

/-- A reset of the DMA leaves no ring. -/
theorem Chip.resetBlocks_rings {mask : Nat} (h : bitAt mask 0 = false) (hdma : bitAt mask 4 = true) : (c.resetBlocks mask).dma.rings = [] := by
  rw [c.resetBlocks_some h]
  extract_lets c1 c2 c3 c4
  have h4 : c4.dma = ⟨[], 0, 0⟩ := by
    unfold c4
    rw [if_pos hdma]
    rfl
  exact keeps_if (P := fun e => e.dma.rings = []) (by rw [h4]) (by rw [show c4.resetPrt.dma = c4.dma from c4.resetPrt_parts.same .dma (by decide), h4])

/-! ## Completion (R403) -/

/-- A command that completed: the channel is free, with the result. -/
structure MbDone (c d : Chip) (crook : Bool) (r : Nat) : Prop where
  busy : d.bit (F.SHP_MB_STAT_busy (b2n crook)) = false
  done : d.bit (F.SHP_MB_STAT_done (b2n crook)) = true
  result : d.get (F.SHP_MB_STAT_result (b2n crook)) = (F.SHP_MB_STAT_result (b2n crook)).cut r
  cmd : d.mbCmd crook = none
  fuse : d.shp.fuse = c.shp.fuse

theorem Chip.completeMb_done (crook : Bool) (m : MbCmd) (r : Nat) : MbDone c (c.completeMb crook m r) crook r := by
  obtain ⟨hbusy, hresult, hresult'⟩ := busy_free crook
  unfold Chip.completeMb Chip.drawMany
  dsimp -zeta only
  extract_lets n c2 c3
  have hshp : c3.shp = c.shp := by
    unfold c3
    rw [Chip.latch_shp, Chip.put_shp, Chip.put_shp]
    rfl
  have hbusy3 : c3.bit (F.SHP_MB_STAT_busy (b2n crook)) = false := ((Chip.latch_moves _ _).bit hbusy).trans (Chip.put_zero_bit _ rfl)
  have hdone3 : c3.bit (F.SHP_MB_STAT_done (b2n crook)) = true := Chip.bit_latch_self _ (show 1 + 1 ≤ 32 by decide) rfl
  have hresult3 : c3.get (F.SHP_MB_STAT_result (b2n crook)) = (F.SHP_MB_STAT_result (b2n crook)).cut r :=
    ((Chip.latch_moves _ _).get _ hresult).trans ((Chip.get_put_free _ hresult' _).trans (Chip.get_put_cut _ rfl _))
  clear_value c3
  refine ⟨?_, ?_, ?_, ?_, ?_⟩
  · rw [Chip.bit_raise, Chip.bit_setMbCmd, hbusy3]
  · rw [Chip.bit_raise, Chip.bit_setMbCmd, hdone3]
  · rw [Chip.get_raise, Chip.get_setMbCmd, hresult3]
  · rw [Chip.mbCmd_congr (Chip.raise_shp _ _ _ _), Chip.mbCmd_setMbCmd]
  · rw [Chip.raise_shp, Chip.setMbCmd_fuse, hshp]

/-- The burns of a command whose bits all take a burn are made. -/
theorem Chip.endBurns_burnt {m : MbCmd} (h : ∀ x ∈ m.burns, c.shp.isDud x = false ∧ x.2 < 32) :
    ∀ x ∈ m.burns, (c.endBurns m).2.shp.burnt x = true := by
  intro x hx
  have hb := ShpSt.burnAll_burnt m.burns c.shp h x hx
  have hfuse : (c.endBurns m).2.shp.fuse = (c.shp.burnAll m.burns).1.fuse := by
    unfold Chip.endBurns
    dsimp only
    split
    · rw [Chip.put_shp, Chip.showFuses_shp]
      rfl
    · rw [Chip.showFuses_shp]
      rfl
  rw [ShpSt.burnt, hfuse]
  exact hb

/-- MAILBOX_DONE completes the command, with its result where it has one, and its burns made. -/
theorem Chip.mailboxDone_done {crook : Bool} {m : MbCmd} (hm : c.mbCmd crook = some m)
    (h : (m.result.isSome || (!m.burns.isEmpty && decide (c.shp.burnQ.head? = some (!crook))) ||
      (m.burns.isEmpty && decide (m.code = 0x41) && decide (c.get F.FOLD_STAT_state = 0) && !bitAt m.arg0.toNat 0)) = true) :
    ∃ d r, MbDone d (c.mailboxDone crook) crook r ∧ (∀ n, m.result = some n → r = n) ∧
      (m.result = none → (∀ x ∈ m.burns, c.shp.isDud x = false ∧ x.2 < 32) → ∀ x ∈ m.burns, d.shp.burnt x = true) := by
  unfold Chip.mailboxDone
  rw [hm]
  dsimp only
  cases hres : m.result with
  | some n => exact ⟨c, n, c.completeMb_done crook m n, fun k hk => Option.some.inj hk, fun hn => nomatch hn⟩
  | none =>
    simp only [hres, Option.isSome_none, Bool.false_or, Bool.or_eq_true, Bool.and_eq_true, decide_eq_true_eq, Bool.not_eq_true',
      List.isEmpty_iff] at h
    dsimp only
    rcases h with ⟨hne, hhead⟩ | ⟨⟨⟨hnil, hcode⟩, hfold⟩, hbit⟩
    · rw [if_pos (by simpa using hne), if_pos hhead]
      exact ⟨_, _, Chip.completeMb_done _ _ _ _, (fun k hk => nomatch hk), fun _ hx => c.endBurns_burnt hx⟩
    · rw [hnil, if_neg (by simp), if_pos ⟨hcode, hfold⟩, if_pos (by rw [Chip.mbCmd_congr (c.resetBlocks_shp hbit), hm]; rfl)]
      exact ⟨_, _, Chip.completeMb_done _ _ _ _, (fun k hk => nomatch hk), (fun _ _ x hx => nomatch hx)⟩

end Sys2Proof.Machine
end

section
/-! PROOFS. The rows of the mailbox complete with their effects (R397 to R404, R409, R439). -/

-- One theorem at a time: many at once, each with a thread of its own, do not fit in memory.
set_option Elab.async false

namespace Sys2Proof.Machine

variable (c : Chip)

theorem Chip.mbRuns_hostCmd (code : Nat) : (c.mbRuns false code).shp.hostCmd = some (c.mbAsked false code) := rfl

theorem Chip.mbRuns_fifo (crook : Bool) (code : Nat) : (c.mbRuns crook code).shp.fifo = c.shp.fifo := by
  cases crook <;> rfl

theorem Chip.mbRuns_busy (crook : Bool) (code : Nat) : (c.mbRuns crook code).bit (F.SHP_MB_STAT_busy (b2n crook)) = true := by
  rw [Chip.mbRuns, Chip.bit_setMbCmd, Chip.mbBegun_busy]

theorem Chip.mbRuns_get (crook : Bool) (code : Nat) {f : Fld} (h : f.addr < 0x400c0114) : (c.mbRuns crook code).get f = c.get f := by
  rw [Chip.mbRuns, Chip.get_setMbCmd, c.mbBegun_get crook h]

theorem Chip.mbRuns_mbCmd (crook : Bool) (code : Nat) : (c.mbRuns crook code).mbCmd crook = some (c.mbAsked crook code) :=
  Chip.mbCmd_setMbCmd _ _ _

theorem Chip.challenge_chal (purpose : Nat) : (c.challenge purpose).shp.chal.isSome = true := by
  unfold Chip.challenge Chip.drawMany
  dsimp -zeta only
  extract_lets rnd le b c2
  exact List.foldlRecOn (motive := fun d : Chip => d.shp.chal.isSome = true) _ _ rfl fun d hd i _ => by rwa [Chip.wr_shp]

/-- RESET_REQ of the device, and of blocks, where no fold is under way. -/
theorem Chip.startMb_device {a0 : Nat} (hp : c.get F.SHP_STAT_phase ≠ 6) (h : bitAt a0 0 = true) :
    c.resetBlocks a0 = c.deviceReset 5 .t0 := by
  unfold Chip.resetBlocks
  rw [if_pos h, Chip.softReset, if_pos (by simpa [Chip.softResets] using hp)]

end Sys2Proof.Machine

namespace Sys2Proof

open Sys2Proof.Machine

variable {c : Chip} {r : Req} {code : Nat}

/-- A command that is admitted starts. -/
theorem mailbox_admitted (h : mbAdmits c r code = true) (hc : code ≠ 0) : c.mailbox r code = c.startMb (reqCrook r) code := by
  obtain ⟨hacc, hbusy, -⟩ := mbAdmits_parts h
  rw [Chip.mailbox, Chip.guarded_accepted _ hacc, Chip.writeMbCmd, if_neg hc, if_neg (Bool.eq_false_iff.mp hbusy)]

theorem mbCmd_settle (d : Chip) (crook : Bool) : d.settle.mbCmd crook = d.mbCmd crook := Chip.mbCmd_congr d.settle_shp crook

theorem busy_settle (d : Chip) (crook : Bool) : d.settle.bit (F.SHP_MB_STAT_busy (b2n crook)) = d.bit (F.SHP_MB_STAT_busy (b2n crook)) :=
  d.settle_bit (f := F.SHP_MB_STAT_busy (b2n crook)) (mbStat_kept crook).1 (mbStat_kept crook).2

theorem toNat_ne_zero {v : Word} (h : v ≠ 0) : v.toNat ≠ 0 := fun hz => h (BitVec.eq_of_toNat_eq hz)

theorem loadStream_effect (h : mailboxReady c (.loadStream r) = true) : mailboxEffect c (c.mailbox r 0x10).settle (.loadStream r) := by
  simp only [mailboxReady, Bool.and_eq_true, decide_eq_true_eq] at h
  obtain ⟨⟨hadm, harg⟩, hfifo⟩ := h
  obtain ⟨-, -, hnot⟩ := mbAdmits_parts hadm
  obtain ⟨hhost, hruns⟩ := mbStart_boot (Or.inl rfl) hnot
  rw [mailbox_admitted hadm (by decide), hhost] at *
  rw [Chip.startMb_stream hruns (toNat_ne_zero harg) (by rwa [Chip.mbRuns_fifo]), mailboxEffect, Chip.settle_shp]
  exact ⟨(busy_settle _ false).trans ((Chip.bit_setShp _ _ _).trans (c.mbRuns_busy false 0x10)), rfl, rfl⟩

theorem bootFlash_effect (h : mailboxReady c (.bootFlash r) = true) : mailboxEffect c (c.mailbox r 0x11).settle (.bootFlash r) := by
  obtain ⟨-, -, hnot⟩ := mbAdmits_parts h
  obtain ⟨hhost, hruns⟩ := mbStart_boot (Or.inr rfl) hnot
  rw [mailbox_admitted h (by decide), hhost] at *
  rw [Chip.startMb_flash hruns, mailboxEffect, Chip.settle_shp]
  exact ⟨(busy_settle _ false).trans ((Chip.bit_setShp _ _ _).trans (c.mbRuns_busy false 0x11)), rfl⟩

/-! ## Commands of the fuses -/

theorem if_ends {p : Prop} [Decidable p] {x y : MbStart} (hx : x ≠ .runs) (hy : y ≠ .runs) : (if p then x else y) ≠ .runs := by
  split
  · exact hx
  · exact hy

theorem judgeFuse_ends (crook : Bool) (row v : Nat) : c.judgeFuse crook row v ≠ .runs :=
  if_ends (if_ends nofun (if_ends nofun nofun)) (if_ends (if_ends (if_ends nofun nofun) nofun) nofun)

theorem judgeAdvance_ends (t : Nat) : c.judgeAdvance t ≠ .runs := if_ends nofun (if_ends nofun nofun)

theorem judgeRevoke_ends (k : Nat) : c.judgeRevoke k ≠ .runs := if_ends nofun nofun

theorem judgeSecure_ends : c.judgeSecure ≠ .runs := if_ends nofun nofun

/-- A command of the fuses burns, or has a result at once. -/
theorem mbStart_ends {crook : Bool} (hc : code = 0x20 ∨ code = 0x21 ∨ code = 0x22 ∨ code = 0x30) : mbStart c crook code ≠ .runs := by
  refine if_ends nofun (if_ends nofun ?_)
  rcases hc with rfl | rfl | rfl | rfl
  · exact judgeFuse_ends _ _ _
  · rw [if_neg (by decide), if_neg (by decide), if_pos rfl]
    exact if_ends (judgeAdvance_ends _) nofun
  · rw [if_neg (by decide), if_neg (by decide), if_neg (by decide), if_pos rfl]
    exact if_ends (judgeRevoke_ends _) nofun
  · rw [if_neg (by decide), if_neg (by decide), if_neg (by decide), if_neg (by decide), if_pos rfl]
    exact if_ends judgeSecure_ends nofun

theorem burn_effect (h : mbAdmits c r code = true) (hc : code = 0x20 ∨ code = 0x21 ∨ code = 0x22 ∨ code = 0x30) :
    burnEffect c (c.mailbox r code).settle r code := by
  obtain ⟨-, -, hnot⟩ := mbAdmits_parts h
  rw [mailbox_admitted h (by omega)]
  unfold burnEffect
  dsimp only
  rw [busy_settle, mbCmd_settle, Chip.settle_shp]
  cases hst : mbStart c (reqCrook r) code with
  | runs => exact absurd hst (mbStart_ends hc)
  | result n =>
    obtain rfl := hnot n hst
    rw [Chip.startMb_result hst, if_neg (by omega), if_neg (by omega), Chip.bit_setMbCmd, Chip.mbBegun_busy, Chip.mbCmd_setMbCmd]
    exact ⟨rfl, rfl⟩
  | burn l =>
    rw [Chip.startMb_burn hst]
    refine ⟨?_, ?_, ?_⟩
    · rw [Chip.queueBurn, Chip.bit_setShp, Chip.bit_setMbCmd, Chip.mbBegun_busy]
    · cases reqCrook r <;> rfl
    · rw [Chip.queueBurn, Chip.setShp_shp]
      dsimp only
      rw [(Chip.setMbCmd_shp _ _ _).1, (Chip.mbBegun_shp _ _).1]

/-! ## The other commands -/

theorem challenge_effect (h : mailboxReady c (.challenge r) = true) : mailboxEffect c (c.mailbox r 0x31).settle (.challenge r) := by
  obtain ⟨-, -, hnot⟩ := mbAdmits_parts h
  obtain ⟨hhost, hres⟩ := mbStart_challenge hnot
  rw [mailbox_admitted h (by decide), hhost] at *
  rw [Chip.startMb_result hres, if_pos rfl, mailboxEffect, Chip.settle_shp, mbCmd_settle, Chip.mbCmd_setMbCmd, (Chip.setMbCmd_shp _ _ _).2.2]
  exact ⟨Chip.challenge_chal _ _, rfl⟩

theorem respond_effect (h : mailboxReady c (.respond r) = true) : mailboxEffect c (c.mailbox r 0x32).settle (.respond r) := by
  obtain ⟨-, -, hnot⟩ := mbAdmits_parts h
  obtain ⟨hhost, hruns⟩ := mbStart_respond hnot
  rw [mailbox_admitted h (by decide), hhost] at *
  have hfifo := c.mbRuns_fifo false 0x32
  rw [Chip.startMb_respond hruns, mailboxEffect, Chip.settle_shp, mbCmd_settle]
  refine ⟨(busy_settle _ false).trans ((Chip.tryRespond_bit _ (mbStat_ne false)).trans (c.mbRuns_busy false 0x32)), fun hl => ?_, fun hl => ?_⟩
  · rw [Chip.tryRespond_waits (c.mbRuns_hostCmd 0x32) (by rwa [hfifo])]
    rfl
  · rw [← hfifo]
    exact Chip.tryRespond_takes (c.mbRuns_hostCmd 0x32) rfl rfl rfl (by rwa [hfifo])

theorem gateSet_effect (h : mailboxReady c (.gateSet r) = true) : mailboxEffect c (c.mailbox r 0x40).settle (.gateSet r) := by
  obtain ⟨-, -, hnot⟩ := mbAdmits_parts h
  rw [mailbox_admitted h (by decide), Chip.startMb_result (mbStart_gate hnot), if_neg (by decide), if_pos rfl, mailboxEffect, mbCmd_settle,
    Chip.mbCmd_setMbCmd, Chip.settle_rd _ (a := R.GUARD_GATE) (by decide) (by decide), Chip.rd_setMbCmd, Chip.setGate, Chip.rd_wr_self,
    Chip.mbBegun_rd _ _ (by decide), (Chip.mbBegun_shp _ _).2.2, BitVec.ofNat_toNat, BitVec.setWidth_eq]
  exact ⟨rfl, rfl⟩

theorem resetReq_effect (h : mailboxReady c (.resetReq r) = true) : mailboxEffect c (c.mailbox r 0x41).settle (.resetReq r) := by
  obtain ⟨-, -, hnot⟩ := mbAdmits_parts h
  obtain ⟨hcrook, hruns⟩ := mbStart_reset hnot
  have hphase := phase_of_admitted hnot
  rw [mailbox_admitted h (by decide), Chip.startMb_reset hruns, Chip.mbRuns_get _ _ _ (by decide)]
  unfold mailboxEffect
  dsimp only
  generalize (c.rd (R.SHP_MB_ARG0 (b2n (reqCrook r)))).toNat = mask
  by_cases hfold : c.get F.FOLD_STAT_state = 0
  · rw [if_pos hfold, if_neg (not_not_intro hfold)]
    cases hbit : bitAt mask 0 with
    | true =>
      rw [if_pos rfl, Chip.startMb_device _ (by rwa [Chip.mbRuns_get _ _ _ (by decide)]) hbit, Chip.settle_shp,
        Chip.settle_get _ (f := F.PWR_STAT_cause) (by decide) (by decide), Chip.get_setShp]
      exact ⟨rfl, (Chip.deviceReset_stat _ (by decide) _).1⟩
    | false =>
      have hshp := Chip.resetBlocks_shp (c.mbRuns (reqCrook r) 0x41) hbit
      rw [if_neg Bool.false_ne_true, Chip.settle_dma, mbCmd_settle]
      refine ⟨fun hrf => ?_, fun hdma => ?_, ?_⟩
      · exact Chip.settle_unkeyed _ (Chip.resetBlocks_keyed _ hbit hrf)
      · exact Chip.resetBlocks_rings _ hbit hdma
      · rw [hcrook] at hshp ⊢
        rw [Chip.mbCmd, if_pos rfl, Chip.setShp_shp, hshp]
        rfl
  · rw [if_neg hfold, if_pos hfold, mbCmd_settle, Chip.mbRuns_mbCmd]
    rfl

theorem mailboxDone_effect {ch : MbCh} (h : mailboxReady c (.mailboxDone ch) = true) :
    mailboxEffect c (c.mailboxDone (decide (ch = .crook))).settle (.mailboxDone ch) := by
  obtain ⟨m, hm, hready⟩ := (Option.any_eq_true _ _).mp h
  unfold mailboxEffect
  dsimp only
  generalize decide (ch = .crook) = crook at *
  obtain ⟨hflush, hhold⟩ := mbStat_kept crook
  obtain ⟨d, res, hdone, hresult, hburnt⟩ := c.mailboxDone_done hm hready
  rw [busy_settle, mbCmd_settle, Chip.settle_shp, Chip.settle_bit _ (f := F.SHP_MB_STAT_done (b2n crook)) hflush hhold,
    Chip.settle_get _ (f := F.SHP_MB_STAT_result (b2n crook)) hflush hhold]
  refine ⟨hdone.busy, hdone.done, hdone.cmd, fun k hk => ?_⟩
  obtain rfl : m = k := Option.some.inj (hm.symm.trans hk)
  refine ⟨fun n hn => ?_, fun hnone hx x hin => ?_⟩
  · rw [hdone.result, hresult n hn]
  · rw [ShpSt.burnt, hdone.fuse]
    exact hburnt hnone hx x hin

section

variable (s : State)

theorem exec_loadStream (r : Req) : exec (.loadStream r) s = s.act fun c => c.mailbox r 0x10 := rfl
theorem exec_bootFlash (r : Req) : exec (.bootFlash r) s = s.act fun c => c.mailbox r 0x11 := rfl
theorem exec_fuseProg (r : Req) : exec (.fuseProg r) s = s.act fun c => c.mailbox r 0x20 := rfl
theorem exec_arbAdvance (r : Req) : exec (.arbAdvance r) s = s.act fun c => c.mailbox r 0x21 := rfl
theorem exec_revoke (r : Req) : exec (.revoke r) s = s.act fun c => c.mailbox r 0x22 := rfl
theorem exec_lcSecure (r : Req) : exec (.lcSecure r) s = s.act fun c => c.mailbox r 0x30 := rfl
theorem exec_challenge (r : Req) : exec (.challenge r) s = s.act fun c => c.mailbox r 0x31 := rfl
theorem exec_respond (r : Req) : exec (.respond r) s = s.act fun c => c.mailbox r 0x32 := rfl
theorem exec_gateSet (r : Req) : exec (.gateSet r) s = s.act fun c => c.mailbox r 0x40 := rfl
theorem exec_resetReq (r : Req) : exec (.resetReq r) s = s.act fun c => c.mailbox r 0x41 := rfl
theorem exec_mailboxDone (ch : MbCh) : exec (.mailboxDone ch) s = s.act fun c => c.mailboxDone (decide (ch = .crook)) := rfl

end

/-- Settles O30: each command that is admitted begins with its effect, and each that is done completes. -/
theorem mailboxRowsComplete : Obligations.MailboxRowsComplete := by
  intro i s _ h
  cases i
  case loadStream r => exact completes_act (exec_loadStream s r) (loadStream_effect h)
  case bootFlash r => exact completes_act (exec_bootFlash s r) (bootFlash_effect h)
  case fuseProg r => exact completes_act (exec_fuseProg s r) (burn_effect h (Or.inl rfl))
  case arbAdvance r => exact completes_act (exec_arbAdvance s r) (burn_effect h (Or.inr (Or.inl rfl)))
  case revoke r => exact completes_act (exec_revoke s r) (burn_effect h (Or.inr (Or.inr (Or.inl rfl))))
  case lcSecure r => exact completes_act (exec_lcSecure s r) (burn_effect h (Or.inr (Or.inr (Or.inr rfl))))
  case challenge r => exact completes_act (exec_challenge s r) (challenge_effect h)
  case respond r => exact completes_act (exec_respond s r) (respond_effect h)
  case gateSet r => exact completes_act (exec_gateSet s r) (gateSet_effect h)
  case resetReq r => exact completes_act (exec_resetReq s r) (resetReq_effect h)
  case mailboxDone ch => exact completes_act (exec_mailboxDone s ch) (mailboxDone_effect h)
  all_goals exact absurd h Bool.false_ne_true

end Sys2Proof
end

section
/-! PROOFS. What the steps of the secure start are made of: the crook's release, the registers that show fuses and marks, and a failed
check (R269, R388, R394, R398, R423). -/

-- One theorem at a time: many at once, each with a thread of its own, do not fit in memory.
set_option Elab.async false

namespace Sys2Proof.Machine

variable (c : Chip)

namespace Touches

variable {c}
variable {d : Chip} {ps : List Part} {own : Nat → Bool}

theorem crook (h : Touches ps own c d) {x : CrookSt} (hp : .crook ∈ ps := by decide) : Touches ps own c { d with crook := x } :=
  h.set hp (fun q hq => by cases q <;> trivial) (fun _ => rfl) rfl
theorem setShp (h : Touches ps own c d) {f : ShpSt → ShpSt} (hp : .shp ∈ ps := by decide) : Touches ps own c (d.setShp f) :=
  h.set hp (fun q hq => by cases q <;> trivial) (fun _ => rfl) rfl

end Touches

/-! ## The crook leaves reset (R269) -/

theorem Chip.crookReset_touches : Touches [.crook, .pas] (onPages [.crk]) c c.crookReset := by
  refine ⟨fun p hp => ?_, fun _ => rfl, fun a ha _ => ?_⟩
  · cases p
    case crook => exact absurd (by decide) hp
    case pas => exact absurd (by decide) hp
    all_goals rfl
  · have hout : within a 0x40060000 0x40060FFF = false := by
      simpa only [onPages, List.any_cons, List.any_nil, Bool.or_false, Page.has] using ha
    exact KMap.get_keep_of (p := fun k => !within k 0x40060000 0x40060FFF) _ (by simp [hout]) _

/-- The crook out of reset at `entry`. -/
def Chip.crookStarted (entry : Nat) : Chip :=
  ((({ c.crookReset with crook := { CrookSt.zero with mode := 1, relAt := Int.ofNat c.now, core := { Core.zero with pc := entry } } }).wr
    R.CRK_ENTRY (BitVec.ofNat 32 entry)).put F.CRK_STAT_running 1)

theorem Chip.crookRelease_eq (entry : Nat) : c.crookRelease entry =
    if 2 ^ 20 ≤ entry then (c.crookStarted entry).doubleFault 0 entry (BitVec.ofNat 32 entry) else c.crookStarted entry := rfl

theorem Chip.crookStarted_crook (entry : Nat) : (c.crookStarted entry).crook.core.pc = entry ∧ (c.crookStarted entry).crook.mode = 1 ∧
    (c.crookStarted entry).crook.core.pend = [] := by
  rw [Chip.crookStarted, Chip.put_crook, Chip.wr_crook]
  exact ⟨rfl, rfl, rfl⟩

theorem Chip.crookStarted_touches (entry : Nat) : Touches [.crook, .pas] (onPages [.crk]) c (c.crookStarted entry) :=
  (Touches.crook c.crookReset_touches).wr.put

theorem Chip.crookStarted_running (entry : Nat) : (c.crookStarted entry).bit F.CRK_STAT_running = true := Chip.put_one_bit _ rfl rfl

/-- A double fault of a crook that has no write under way. -/
theorem Chip.doubleFault_touches (cause : BitVec 17) (epc : Nat) (faddr : Word) (h : c.crook.core.pend = []) :
    Touches [] (onPages [.crk]) c (c.doubleFault cause epc faddr) := by
  unfold Chip.doubleFault
  rw [Chip.landTo_nil c .crook _ h]
  exact ((Touches.refl _ _ c).put.wr.wr.wr).aside _ _ _

theorem Chip.doubleFault_running (cause : BitVec 17) (epc : Nat) (faddr : Word) (h : c.crook.core.pend = []) :
    (c.doubleFault cause epc faddr).bit F.CRK_STAT_running = c.bit F.CRK_STAT_running := by
  unfold Chip.doubleFault
  rw [Chip.landTo_nil c .crook _ h, Chip.bit_congr (Chip.raiseAt_regs _ _ _ _ _), Chip.bit, Chip.get_wr_ne _ (by decide),
    Chip.get_wr_ne _ (by decide), Chip.get_wr_ne _ (by decide), Chip.get_put_free _ (by decide), Chip.bit]

theorem Chip.crookRelease_touches (entry : Nat) : Touches [.crook, .pas] (onPages [.crk]) c (c.crookRelease entry) := by
  rw [Chip.crookRelease_eq]
  split
  · exact (c.crookStarted_touches entry).andThen (Chip.doubleFault_touches _ _ _ _ (c.crookStarted_crook entry).2.2)
  · exact c.crookStarted_touches entry

theorem Chip.crookRelease_running (entry : Nat) : (c.crookRelease entry).bit F.CRK_STAT_running = true := by
  rw [Chip.crookRelease_eq]
  split
  · rw [Chip.doubleFault_running _ _ _ _ (c.crookStarted_crook entry).2.2, Chip.crookStarted_running]
  · exact c.crookStarted_running entry

theorem Chip.crookRelease_crook {entry : Nat} (h : entry < 2 ^ 20) : (c.crookRelease entry).crook.core.pc = entry ∧
    (c.crookRelease entry).crook.mode = 1 := by
  obtain ⟨hpc, hmode, -⟩ := c.crookStarted_crook entry
  rw [Chip.crookRelease_eq, if_neg (by omega)]
  exact ⟨hpc, hmode⟩

/-! ## Registers that show fuses and marks (R388, R400, R423) -/

theorem guardFuse_on {i : Nat} (hi : i < 64) : onPages [.sys, .guard] (R.GUARD_CH_FUSE i) = true ∧
    onPages [.sys, .guard] (R.GUARD_CH_FUSE2 i) = true := by
  have h : ∀ n : Fin 64, onPages [.sys, .guard] (R.GUARD_CH_FUSE n.val) = true ∧ onPages [.sys, .guard] (R.GUARD_CH_FUSE2 n.val) = true := by
    decide +kernel
  exact h ⟨i, hi⟩

theorem Chip.loadMirrors_touches : Touches [] (onPages [.sys, .guard]) c c.loadMirrors := by
  unfold Chip.loadMirrors
  extract_lets r0 count c1 radio c2 c3
  have h2 : Touches [] (onPages [.sys, .guard]) c c2 := (Touches.refl _ _ c).put.put.put.put.put.put
  have h3 : Touches [] (onPages [.sys, .guard]) c c3 := h2.foldl fun i hi e => by
    obtain ⟨hfuse, hfuse2⟩ := guardFuse_on (List.mem_range.mp hi)
    dsimp only
    exact ((Touches.refl _ _ e).wr hfuse).wr hfuse2
  exact h3.wr.wr

theorem Chip.showFuses_keeps : KeepsFlds [F.SHP_CTR_ctr, Fld.whole R.SHP_KEYS] c c.showFuses := by
  unfold Chip.showFuses
  exact (KeepsFlds.refl c).wr.put

theorem Chip.showMark_touches (u : TestUnit) : Touches [] (onPages [.se, .fold]) c (c.showMark u) := by
  unfold Chip.showMark
  split
  · exact .refl _ _ c
  · cases u with
    | engine n => exact ((Touches.refl _ _ c).put (inSe_stat n.isLt).on).put (onPages_of_has (foldEngine_has n.isLt))
    | bank b => exact (Touches.refl _ _ c).put (onPages_of_has (foldBank_has b.isLt))

theorem Chip.showMarks_touches : Touches [] (onPages [.se, .fold]) c c.showMarks := by
  unfold Chip.showMarks
  exact (Touches.refl _ _ c).foldl fun u _ e => e.showMark_touches u

theorem Chip.setPhase_phase (p : Nat) (hp : p < 3) :
    (c.setPhase p).get F.SHP_STAT_phase = if c.get F.SHP_STAT_phase = 4 then 4 else p := by
  unfold Chip.setPhase
  by_cases h4 : c.get F.SHP_STAT_phase = 4
  · rw [if_pos ⟨h4, hp⟩, if_pos h4, h4]
  · rw [if_neg (fun h => h4 h.1), if_neg h4, Chip.get_put_cut _ rfl]
    exact Nat.mod_eq_of_lt (show p < 8 by omega)

theorem Chip.setPhase_touches (p : Nat) : Touches [] (onPages [.shp]) c (c.setPhase p) := by
  unfold Chip.setPhase
  split
  · exact .refl _ _ c
  · exact (Touches.refl _ _ c).put

/-! ## A check fails (R394, R398) -/

theorem Chip.enterHold_shows : c.enterHold.shp.stage = .hold ∧ c.enterHold.shp.boot = none ∧ c.enterHold.get F.SHP_STAT_phase = 4 :=
  ⟨rfl, rfl, c.get_put_self F.SHP_STAT_phase (by decide) 4⟩

theorem Chip.enterHold_get {f : Fld} (h : f.freeOf [F.SHP_STAT_phase] = true) : c.enterHold.get f = c.get f := c.get_put_free h 4

theorem Chip.enterHold_shp : c.enterHold.shp.fuse = c.shp.fuse ∧ c.enterHold.shp.shadow = c.shp.shadow := ⟨rfl, rfl⟩

end Sys2Proof.Machine
end

section
/-! PROOFS. The steps of the secure start from the sense of the fuses to a bundle (R383 to R399, R423, R424). -/

-- One theorem at a time: many at once, each with a thread of its own, do not fit in memory.
set_option Elab.async false

namespace Sys2Proof.Machine

variable (c : Chip)

/-! ## FUSE_REPAIR (R387, R388) -/

theorem lifecycle_lt (row0 : Nat) : lifecycle row0 < 4 := by
  unfold lifecycle
  split
  · decide
  · split
    · decide
    · decide

theorem Chip.shadow_congr {c d : Chip} (h : d.shp = c.shp) (row : Nat) : d.shadow row = c.shadow row := by
  rw [Chip.shadow, h, Chip.shadow]

/-- The device with the repaired fuses and their shadows, and what the registers show of them. -/
structure Sensed (s : ShpSt) (n : Nat) (d : Chip) : Prop where
  shp : d.shp = { s with shadow := s.fuse, stage := .test }
  lc : d.get F.SHP_STAT_lc = lifecycle (d.shadow 0)
  repaired : d.get F.SHP_STAT_repaired = min n 255

theorem Sensed.shown {s : ShpSt} {n : Nat} {d : Chip} (h : d.shp = { s with shadow := s.fuse, stage := .test }) :
    Sensed s n (((d.put F.SHP_STAT_lc (lifecycle (d.shadow 0))).put F.SHP_STAT_repaired (min n 255)).showFuses.loadMirrors) := by
  have hmirrors := Chip.loadMirrors_touches
    ((d.put F.SHP_STAT_lc (lifecycle (d.shadow 0))).put F.SHP_STAT_repaired (min n 255)).showFuses
  have hfuses := Chip.showFuses_keeps ((d.put F.SHP_STAT_lc (lifecycle (d.shadow 0))).put F.SHP_STAT_repaired (min n 255))
  have hshp : (((d.put F.SHP_STAT_lc (lifecycle (d.shadow 0))).put F.SHP_STAT_repaired (min n 255)).showFuses.loadMirrors).shp = d.shp := by
    rw [hmirrors.same .shp (by decide), Chip.showFuses_shp, Chip.put_shp, Chip.put_shp]
  refine ⟨hshp.trans h, ?_, ?_⟩
  · rw [hmirrors.get (by decide), hfuses _ (by decide), Chip.get_put_free _ (by decide), Chip.get_put_cut _ rfl, Chip.shadow_congr hshp]
    exact Nat.mod_eq_of_lt (lifecycle_lt _)
  · rw [hmirrors.get (by decide), hfuses _ (by decide), Chip.get_put_cut _ rfl]
    exact Nat.mod_eq_of_lt (show min n 255 < 256 by omega)

theorem Sensed.raise {s : ShpSt} {n : Nat} {d : Chip} (h : Sensed s n d) (id : Nat) (loc arg : Word) : Sensed s n (d.raise id loc arg) :=
  ⟨h.shp, h.lc, h.repaired⟩

/-- FUSE_REPAIR senses, and where a bit was not repaired the start holds. -/
theorem Chip.fuseRepair_sensed (h : c.shp.stage = .sense) : ∃ d, Sensed (Sys2Proof.repaired c)
    (c.shp.weakBits.filter (Sys2Proof.repaired c).burnt).length d ∧ c.fuseRepair =
      if (c.shp.weakBits.filter (Sys2Proof.repaired c).burnt).length < c.shp.weakBits.length then (d.put F.SHP_BOOT_ERR_last 0x0A).enterHold
      else d := by
  unfold Chip.fuseRepair
  rw [if_neg (by simp [h])]
  extract_lets bits s n c1 c2 c3 c4 c5
  refine ⟨c5, ?_, rfl⟩
  have h4 : Sensed (Sys2Proof.repaired c) n c4 := Sensed.shown rfl
  unfold c5
  split
  · exact h4
  · exact h4.raise _ _ _

theorem Chip.fuseRepair_effect (h : c.shp.stage = .sense) : Sys2Proof.startEffect c c.fuseRepair.settle .fuseRepair := by
  obtain ⟨d, hd, hdue⟩ := c.fuseRepair_sensed h
  obtain ⟨hshp, hlc, hrep⟩ := hd
  have hall : (c.shp.weakBits.all (Sys2Proof.repaired c).burnt = true) ↔
      ¬ (c.shp.weakBits.filter (Sys2Proof.repaired c).burnt).length < c.shp.weakBits.length := by
    have hle := List.length_filter_le (Sys2Proof.repaired c).burnt c.shp.weakBits
    rw [List.all_eq_true, ← List.length_filter_eq_length_iff]
    omega
  unfold Sys2Proof.startEffect
  dsimp only
  rw [Chip.shadow, Chip.settle_shp, Chip.settle_get _ (f := F.SHP_STAT_lc) (by decide) (by decide),
    Chip.settle_get _ (f := F.SHP_STAT_repaired) (by decide) (by decide), Chip.settle_get _ (f := F.SHP_BOOT_ERR_last) (by decide) (by decide),
    Chip.settle_get _ (f := F.SHP_STAT_phase) (by decide) (by decide), hdue]
  rw [Chip.shadow] at hlc
  by_cases hfew : (c.shp.weakBits.filter (Sys2Proof.repaired c).burnt).length < c.shp.weakBits.length
  · obtain ⟨hstage, -, hphase⟩ := (d.put F.SHP_BOOT_ERR_last 0x0A).enterHold_shows
    obtain ⟨hfuse, hshadow⟩ := (d.put F.SHP_BOOT_ERR_last 0x0A).enterHold_shp
    rw [if_pos hfew, if_neg (fun hx => hall.mp hx hfew), hfuse, hshadow, Chip.put_shp, Chip.enterHold_get _ (by decide),
      Chip.enterHold_get _ (by decide), Chip.enterHold_get _ (by decide), Chip.get_put_free _ (by decide), Chip.get_put_free _ (by decide),
      Chip.get_put_cut _ rfl, hlc, hrep, hshp]
    exact ⟨rfl, rfl, rfl, rfl, hstage, rfl, hphase⟩
  · rw [if_neg hfew, if_pos (hall.mpr hfew), hlc, hrep, hshp]
    exact ⟨rfl, rfl, rfl, rfl, rfl⟩

/-! ## START_TEST_END (R423, R424) -/

theorem Chip.startResult_touches (res : List TestRes) (u : TestUnit) :
    Touches [.eng, .mem, .pas, .ret] (onPages [.bst]) c (c.startResult res u) := by
  have hparts : testedParts u ⊆ [.eng, .mem, .pas, .ret] := by
    cases u
    · exact show [Part.eng, .mem] ⊆ [.eng, .mem, .pas, .ret] by decide
    · exact show [Part.pas] ⊆ [.eng, .mem, .pas, .ret] by decide
  unfold Chip.startResult
  dsimp only
  exact (((c.scramble_touches u).mono hparts (onPages_mono (List.nil_subset _))).andThen (Chip.recordVerdict_touches _ u _ _ _))

/-- The start test ends: the verdicts stand, and the marks are shown. -/
theorem Chip.startTestEnd_parts (h : c.shp.stage = .test) (res : List TestRes) : ∃ d skip fails,
    Touches [.eng, .mem, .pas, .ret] (onPages [.bst]) c d ∧ c.startTestEnd res =
      (((((d.putB F.BST_STAT_rec_valid (recValid c.ret)).putB F.BST_STAT_skipped skip).put F.BST_STAT_start_fails fails).showMarks).setPhase
        1).setShp fun s => { s with stage := .select } := by
  unfold Chip.startTestEnd
  rw [if_neg (by simp [h])]
  extract_lets flags valid keep skip c1 c2 c3 fails c4
  refine ⟨c3, skip, fails, ?_, rfl⟩
  have hmarks : ∀ eng bank, Touches [.eng, .mem, .pas, .ret] (onPages [.bst]) c (c.setMarks eng bank) := fun _ _ => by
    unfold Chip.setMarks
    exact (Touches.refl _ _ c).wr.wr.wr
  have h1 : Touches [.eng, .mem, .pas, .ret] (onPages [.bst]) c c1 := by
    unfold c1
    split
    · exact hmarks _ _
    · exact hmarks _ _
  have h2 : Touches [.eng, .mem, .pas, .ret] (onPages [.bst]) c c2 := h1.ret
  unfold c3
  split
  · exact h2
  · exact h2.foldl fun u _ e => e.startResult_touches res u

theorem Chip.startTestEnd_effect (h : c.shp.stage = .test) (res : List TestRes) :
    Sys2Proof.startEffect c (c.startTestEnd res).settle (.startTestEnd res) := by
  obtain ⟨d, skip, fails, hd, hend⟩ := c.startTestEnd_parts h res
  have hmarks := Chip.showMarks_touches
    (((d.putB F.BST_STAT_rec_valid (recValid c.ret)).putB F.BST_STAT_skipped skip).put F.BST_STAT_start_fails fails)
  rw [Sys2Proof.startEffect, Chip.settle_shp, Chip.settle_bit _ (f := F.BST_STAT_rec_valid) (by decide) (by decide),
    Chip.settle_get _ (f := F.SHP_STAT_phase) (by decide) (by decide), hend, Chip.bit_setShp, Chip.get_setShp,
    Chip.setPhase_phase _ _ (by decide), hmarks.get (by decide), (Chip.setPhase_touches _ _).bit (by decide), hmarks.bit (by decide),
    Chip.bit_put_free _ (by decide), Chip.putB, Chip.bit_put_free _ (by decide), Chip.get_put_ne _ (by decide), Chip.get_put_ne _ (by decide),
    Chip.putB, Chip.get_put_ne _ (by decide), hd.get (by decide)]
  exact ⟨rfl, Chip.bit_putB_self _ rfl rfl _, rfl⟩

/-! ## HEADER_CHECK (R394) -/

theorem Chip.headerCheck_effect (h : c.shp.stage = .select) : Sys2Proof.startEffect c c.headerCheck.settle .headerCheck := by
  have hhold : ∀ e : Chip, e.enterHold.settle.shp.stage = .hold ∧ e.enterHold.settle.get F.SHP_STAT_phase = 4 := fun e => by
    rw [Chip.settle_shp, Chip.settle_get _ (f := F.SHP_STAT_phase) (by decide) (by decide)]
    exact ⟨e.enterHold_shows.1, e.enterHold_shows.2.2⟩
  have hboot : ∀ (e : Chip) (src : Nat) (hdr : List Byte) (alt : Option (List Byte)),
      (e.startBoot src hdr alt).settle.shp.stage = .verify ∧ (e.startBoot src hdr alt).settle.shp.boot.map (·.src) = some src := fun e src hdr alt => by
    rw [Chip.settle_shp]
    exact ⟨rfl, rfl⟩
  unfold Sys2Proof.startEffect Sys2Proof.chosenSlot Chip.headerCheck
  dsimp only
  rw [if_neg (show ¬ c.shp.stage ≠ .select from not_not_intro h)]
  rcases c.readSlot 0 with ⟨ha, ea⟩
  rcases c.readSlot 1 with ⟨hb, eb⟩
  dsimp only
  by_cases hwait : bitAt (c.shadow 0) 11 = true
  · rw [if_pos hwait, if_pos hwait]
    exact hhold _
  · rw [if_neg hwait, if_neg hwait]
    by_cases hboth : ea = 0 ∧ eb = 0
    · rw [if_pos hboth, if_pos hboth]
      by_cases hver : bunVer (toImage ha) < bunVer (toImage hb)
      · rw [if_pos hver, if_pos hver]
        exact hboot _ _ _ _
      · rw [if_neg hver, if_neg hver]
        exact hboot _ _ _ _
    · rw [if_neg hboth, if_neg hboth]
      by_cases hfirst : ea = 0
      · rw [if_pos hfirst, if_pos hfirst]
        exact hboot _ _ _ _
      · rw [if_neg hfirst, if_neg hfirst]
        by_cases hsecond : eb = 0
        · rw [if_pos hsecond, if_pos hsecond]
          exact hboot _ _ _ _
        · rw [if_neg hsecond, if_neg hsecond]
          exact hhold _

end Sys2Proof.Machine
end

section
/-! PROOFS. The steps of the secure start from a bundle to pass, and the TAP complete with their effects (R395 to R399, R407, R408). -/

-- One theorem at a time: many at once, each with a thread of its own, do not fit in memory.
set_option Elab.async false

namespace Sys2Proof.Machine

variable (c : Chip)

/-! ## SECTION_VERIFY (R395, R396) -/

/-- A copy leaves the shepherd's part of the device, and adds to the bundle no more than where it went. -/
theorem Chip.copySection_keeps (b : Boot) (s : BSect) (data : List Nat) : (c.copySection b s data).1.shp = c.shp ∧
    (c.copySection b s data).2.late = b.late := by
  unfold Chip.copySection
  dsimp only
  split
  · exact ⟨rfl, rfl⟩
  · split
    · exact ⟨rfl, rfl⟩
    · split
      · split
        · exact ⟨rfl, rfl⟩
        · exact ⟨rfl, rfl⟩
      · exact ⟨rfl, rfl⟩

theorem Chip.sectErr_shp (sects : List BSect) (s : BSect) (data : List Nat) : (c.sectErr sects s data).2.shp = c.shp := by
  unfold Chip.sectErr
  split
  · rfl
  · split
    · rfl
    · split
      · exact (c.foldResult_touches _).same .shp (by decide)
      · have h : ∀ g, Touches [.fold] (onPages [.fold]) c (((c.foldResult (0, 0, 0)).put F.FOLD_STAT_state 1).setFold g) := fun _ =>
          ((Touches.refl _ _ c).andThen (c.foldResult_touches _)).put.setFold
        exact (h _).same .shp (by decide)

/-- The bundle's record after a section. -/
structure SectionDone (c d : Chip) (b : Boot) (late : Bool) : Prop where
  stage : d.shp.stage = c.shp.stage
  next : d.shp.boot.map (·.next) = some (b.next + 1)
  late : d.shp.boot.map (·.late) = some late

theorem SectionDone.kept {c d : Chip} {b b' : Boot} (hd : d.shp = c.shp) (hnext : b'.next = b.next + 1) :
    SectionDone c (d.keepBoot b') b b'.late :=
  ⟨show d.shp.stage = c.shp.stage by rw [hd], congrArg some hnext, rfl⟩

theorem Chip.nextSection_early {b : Boot} {sects : List BSect} {s : BSect} (hf : (b.src ≠ 2 && c.flashFails (slotBase b.src + s.ofs) s.len) = false)
    (he : Sys2Proof.earlySect b s = true) : c.nextSection b sects s =
      if (sects.drop (b.next + 1)).any fun x => x.typ == 1 then
        (c.copySection b s (c.sectBytes b s)).1.keepBoot { (c.copySection b s (c.sectBytes b s)).2 with next := b.next + 1 }
      else (((c.copySection b s (c.sectBytes b s)).1.crookRelease (bunEntry (toImage b.hdr))).put F.SHP_STAT_early 1).keepBoot
        { (c.copySection b s (c.sectBytes b s)).2 with next := b.next + 1, late := true } := by
  unfold Chip.nextSection
  rw [if_neg (by simpa using hf)]
  exact if_pos he

theorem Chip.nextSection_compared {b : Boot} {sects : List BSect} {s : BSect}
    (hf : (b.src ≠ 2 && c.flashFails (slotBase b.src + s.ofs) s.len) = false) (he : Sys2Proof.earlySect b s = false)
    (herr : ((c.copySection b s (c.sectBytes b s)).1.sectErr sects s (c.sectBytes b s)).1 = none) : c.nextSection b sects s =
      ((c.copySection b s (c.sectBytes b s)).1.sectErr sects s (c.sectBytes b s)).2.keepBoot
        { (c.copySection b s (c.sectBytes b s)).2 with next := b.next + 1 } := by
  unfold Chip.nextSection
  rw [if_neg (by simpa using hf)]
  dsimp only
  rw [if_neg (by rw [show (decide (s.typ = 1) && bunEarly (toImage b.hdr)) = false from he]; exact Bool.false_ne_true), herr]

theorem Chip.lateHashes_pass {b : Boot} {sects : List BSect}
    (h : (!sects.any fun s => decide (s.typ = 1) && sha384 (c.bytesAt s.dest s.len) != s.hash) = true) :
    c.lateHashes b sects = c.keepBoot { b with late := false } := by
  unfold Chip.lateHashes
  exact if_neg (by simpa using h)

/-- What a section's end shows of the crook that it starts. -/
def startsCrook (b : Boot) (d : Chip) : Prop :=
  d.bit F.CRK_STAT_running = true ∧ d.bit F.SHP_STAT_early = true ∧
    (bunEntry (toImage b.hdr) < 2 ^ 20 → d.crook.core.pc = bunEntry (toImage b.hdr) ∧ d.crook.mode = 1)

theorem Chip.earlyStarted (b b' : Boot) : startsCrook b
    (((c.crookRelease (bunEntry (toImage b.hdr))).put F.SHP_STAT_early 1).keepBoot b') := by
  refine ⟨?_, ?_, fun he => ?_⟩
  · rw [Chip.keepBoot, Chip.bit_setShp, Chip.bit_put_free _ (by decide), Chip.crookRelease_running]
  · rw [Chip.keepBoot, Chip.bit_setShp, Chip.put_one_bit _ rfl rfl]
  · rw [Chip.keepBoot, Chip.setShp_crook, Chip.put_crook]
    exact c.crookRelease_crook he

theorem startsCrook.settle {b : Boot} {d : Chip} (h : startsCrook b d) : startsCrook b d.settle := by
  unfold startsCrook
  rwa [Chip.settle_bit _ (f := F.CRK_STAT_running) (by decide) (by decide), Chip.settle_bit _ (f := F.SHP_STAT_early) (by decide) (by decide),
    Chip.settle_crook]

/-- A section that is copied, and compared where it is not left for later. -/
theorem Chip.nextSection_done {b : Boot} {sects : List BSect} {s : BSect} (hl : b.late = false)
    (hf : (b.src ≠ 2 && c.flashFails (slotBase b.src + s.ofs) s.len) = false)
    (hok : (Sys2Proof.earlySect b s || ((c.copySection b s (c.sectBytes b s)).1.sectErr sects s (c.sectBytes b s)).1.isNone) = true) :
    SectionDone c (c.nextSection b sects s) b (Sys2Proof.earlySect b s && !(sects.drop (b.next + 1)).any fun x => decide (x.typ = 1)) ∧
      ((Sys2Proof.earlySect b s && !(sects.drop (b.next + 1)).any fun x => decide (x.typ = 1)) = true → startsCrook b (c.nextSection b sects s)) := by
  obtain ⟨hshp, hlate⟩ := c.copySection_keeps b s (c.sectBytes b s)
  have hany : ((sects.drop (b.next + 1)).any fun x => x.typ == 1) = (sects.drop (b.next + 1)).any fun x => decide (x.typ = 1) := rfl
  cases he : Sys2Proof.earlySect b s with
  | true =>
    rw [c.nextSection_early hf he, Bool.true_and, hany]
    cases hmore : (sects.drop (b.next + 1)).any fun x => decide (x.typ = 1) with
    | true =>
      rw [if_pos rfl]
      refine ⟨?_, fun h => absurd h (by decide)⟩
      have := SectionDone.kept (b := b) (b' := { (c.copySection b s (c.sectBytes b s)).2 with next := b.next + 1 }) hshp rfl
      rwa [show _ = false from hlate.trans hl] at this
    | false =>
      rw [if_neg Bool.false_ne_true]
      refine ⟨SectionDone.kept ?_ rfl, fun _ => Chip.earlyStarted _ b _⟩
      rw [Chip.put_shp, (Chip.crookRelease_touches _ _).same .shp (by decide), hshp]
  | false =>
    rw [he, Bool.false_or, Option.isNone_iff_eq_none] at hok
    rw [c.nextSection_compared hf he hok, Bool.false_and]
    refine ⟨?_, fun h => absurd h (by decide)⟩
    have := SectionDone.kept (c := c) (b := b) (b' := { (c.copySection b s (c.sectBytes b s)).2 with next := b.next + 1 })
      ((Chip.sectErr_shp _ sects s (c.sectBytes b s)).trans hshp) rfl
    rwa [show _ = false from hlate.trans hl] at this

/-! ## PASS (R383, R397, R424) -/

/-- The bundle's values stand, and nothing holds the crook any longer. -/
def Chip.passShown (b : Boot) (key : List Byte) : Chip :=
  (((((((c.landCoefs (bunSects (toImage b.hdr))).setBootErr b.src 0).answerHost 0).put F.SHP_STAT_phase 3).put F.SHP_STAT_slot b.src).put
    F.SHP_CTR_key (bunKey (toImage b.hdr))).put F.SHP_CTR_ver (bunVer (toImage b.hdr))).wr R.GUARD_GATE (gateAtPass c.lifeState) |>.setShp
      fun s => { s with stage := .passed, boot := none, gatePass := gateAtPass c.lifeState, key := key }

/-- The crook runs. -/
def Chip.passRunning (b : Boot) (key : List Byte) : Chip :=
  (if (c.passShown b key).bit F.CRK_STAT_running then c.passShown b key
    else (c.passShown b key).crookRelease (bunEntry (toImage b.hdr))).put F.SHP_STAT_early 0

theorem Chip.pass_due {b : Boot} {f : Fold} (hb : c.shp.boot = some b) (hf : c.fold.next = some f) (hs : c.shp.stage = .passing) :
    ∃ key g n, c.pass = ((c.passRunning b key).startEvents.setFold g).foldWaits f n := by
  unfold Chip.pass
  rw [hb, hf]
  dsimp only
  rw [if_neg (not_not_intro hs)]
  exact ⟨_, _, _, rfl⟩

theorem Chip.landCoefs_touches (sects : List BSect) : Touches [.co] (onPages []) c (c.landCoefs sects) := by
  unfold Chip.landCoefs
  exact (Touches.refl _ _ c).foldl fun s _ e => (Touches.refl _ _ e).co

theorem Chip.startEvents_touches : Touches [] (onPages []) c c.startEvents := by
  unfold Chip.startEvents
  extract_lets arg c1
  have h1 : Touches [] (onPages []) c c1 := (Touches.refl _ _ c).raise
  refine h1.foldl fun u _ e => ?_
  dsimp only
  split
  · exact (Touches.refl _ _ e).raise
  · exact .refl _ _ e

theorem Chip.setBootErr_touches (src code : Nat) : Touches [] (onPages [.shp]) c (c.setBootErr src code) := by
  unfold Chip.setBootErr
  dsimp only
  refine Touches.put (Touches.put (.refl _ _ c) ?_)
  split
  · decide
  · split
    · decide
    · decide

theorem Chip.passShown_touches (b : Boot) (key : List Byte) : Touches [.co, .shp] (onPages [.shp, .guard]) c (c.passShown b key) := by
  have h1 : Touches [.co, .shp] (onPages [.shp, .guard]) c ((c.landCoefs (bunSects (toImage b.hdr))).setBootErr b.src 0) :=
    ((c.landCoefs_touches _).mono (by decide) (onPages_mono (by decide))).andThen (Chip.setBootErr_touches _ _ _)
  unfold Chip.passShown Chip.answerHost
  exact (h1.setShp.put.put.put.put.wr).setShp

theorem Chip.passShown_shows (b : Boot) (key : List Byte) : (c.passShown b key).shp.stage = .passed ∧
    (c.passShown b key).get F.SHP_STAT_phase = 3 ∧ (c.passShown b key).rd R.GUARD_GATE = gateAtPass c.lifeState := by
  refine ⟨rfl, ?_, ?_⟩
  · rw [Chip.passShown, Chip.get_setShp, Chip.get_wr_ne _ (by decide), Chip.get_put_ne _ (by decide), Chip.get_put_ne _ (by decide),
      Chip.get_put_free _ (by decide), Chip.get_put_cut _ rfl]
    rfl
  · rw [Chip.passShown, Chip.rd_setShp, Chip.rd_wr_self]

theorem Chip.passRunning_shows (b : Boot) (key : List Byte) : (c.passRunning b key).shp.stage = .passed ∧
    (c.passRunning b key).get F.SHP_STAT_phase = 3 ∧ (c.passRunning b key).rd R.GUARD_GATE = gateAtPass c.lifeState ∧
    (c.passRunning b key).bit F.CRK_STAT_running = true := by
  obtain ⟨hstage, hphase, hgate⟩ := c.passShown_shows b key
  have hrel := (c.passShown b key).crookRelease_touches (bunEntry (toImage b.hdr))
  unfold Chip.passRunning
  rw [Chip.put_shp, Chip.get_put_free _ (by decide), Chip.rd_put_ne _ (by decide), Chip.bit_put_free _ (by decide)]
  split
  next hrun => exact ⟨hstage, hphase, hgate, hrun⟩
  · exact ⟨(congrArg ShpSt.stage (hrel.same .shp (by decide))).trans hstage, (hrel.get (by decide)).trans hphase,
      (hrel.rd _ (by decide) (by decide)).trans hgate, Chip.crookRelease_running _ _⟩

theorem Chip.passRunning_crook {b : Boot} {key : List Byte} (hrun : c.bit F.CRK_STAT_running = false)
    (he : bunEntry (toImage b.hdr) < 2 ^ 20) : (c.passRunning b key).crook.core.pc = bunEntry (toImage b.hdr) ∧
      (c.passRunning b key).crook.mode = 1 := by
  have hrun' : (c.passShown b key).bit F.CRK_STAT_running = false := ((c.passShown_touches b key).bit (by decide)).trans hrun
  rw [Chip.passRunning, Chip.put_crook, if_neg (Bool.eq_false_iff.mp hrun')]
  exact Chip.crookRelease_crook _ he

end Sys2Proof.Machine
end

section
/-! PROOFS. The steps of the secure start, the stream's words and the TAP complete with their effects (R383 to R399, R407, R408). -/

-- One theorem at a time: many at once, each with a thread of its own, do not fit in memory.
set_option Elab.async false

namespace Sys2Proof.Machine

variable (c : Chip)

/-! ## A stream is cut short (R399) -/

theorem foldl_zeroRange_regs (l : List (Nat × Nat)) : (l.foldl Chip.zeroRange c).regs = c.regs :=
  List.foldlRecOn (motive := fun d : Chip => d.regs = c.regs) l Chip.zeroRange rfl fun d hd r _ => by
    unfold Chip.zeroRange
    split
    · exact hd
    · exact hd

/-- What follows a code of the host's bundle: the crook is held again, and every destination is zeroed. -/
theorem Chip.bootFail_host {b : Boot} (hsrc : b.src = 2) :
    ∃ d : Chip, d.get F.SHP_BOOT_ERR_host = 0x0B ∧ c.bootFail b 0x0B = d.enterHold := by
  unfold Chip.bootFail
  extract_lets c1 c2 c3 c4
  refine ⟨c4, ?_, ?_⟩
  · have h1 : c1.get F.SHP_BOOT_ERR_host = 0x0B := by
      have hset : c1 = (c.put F.SHP_BOOT_ERR_host 0x0B).put F.SHP_BOOT_ERR_last 0x0B := by
        unfold c1 Chip.setBootErr
        rw [hsrc]
        rfl
      rw [hset, Chip.get_put_free _ (by decide), Chip.get_put_cut _ rfl]
      rfl
    have h2 : c2.get F.SHP_BOOT_ERR_host = 0x0B := by
      unfold c2
      split
      · rw [Chip.get_put_ne _ (by decide), c1.crookReset_touches.get (by decide), h1]
      · exact h1
    unfold c4
    rw [Chip.get_put_ne _ (by decide), Chip.get_setFold, Chip.get_congr (foldl_zeroRange_regs _ _)]
    exact h2
  · split
    · exact if_neg (by decide)
    · rfl

theorem Chip.cutStream_effect {b : Boot} (hb : c.shp.boot = some b) (hsrc : b.src = 2) (hlen : b.bytes.length < b.len) :
    Sys2Proof.startEffect c c.cutStream.settle .streamTimeout := by
  obtain ⟨d, hd, hfail⟩ := c.bootFail_host hsrc
  obtain ⟨hstage, hboot, hphase⟩ := d.enterHold_shows
  have hcut : c.cutStream = d.enterHold := by
    rw [Chip.cutStream, hb, ← hfail]
    exact if_pos ⟨hsrc, hlen⟩
  rw [hcut, Sys2Proof.startEffect, Chip.settle_shp, Chip.settle_get _ (f := F.SHP_BOOT_ERR_host) (by decide) (by decide),
    Chip.settle_get _ (f := F.SHP_STAT_phase) (by decide) (by decide), Chip.enterHold_get _ (by decide)]
  exact ⟨hd, hstage, hboot, hphase⟩

/-! ## What pass leaves of the crook -/

theorem Chip.startEvents_crook : c.startEvents.crook = c.crook := by
  unfold Chip.startEvents
  dsimp only
  exact List.foldlRecOn (motive := fun d : Chip => d.crook = c.crook) _ _ rfl fun d hd u _ => by
    split
    · rw [Chip.raiseFail, Chip.raise_crook, hd]
    · exact hd

theorem Chip.foldWaits_crook (f : Fold) (n : Nat) : (c.foldWaits f n).crook = c.crook := rfl

/-! ## MB_DATA_WRITE (R399, R409) -/

theorem Chip.tryRespond_idle (h : (!c.shp.hostCmd.any fun m => decide (m.code = 0x32)) = true) : c.tryRespond = c := by
  unfold Chip.tryRespond
  cases hm : c.shp.hostCmd with
  | none => rfl
  | some m =>
    rw [hm] at h
    exact if_pos (by simp_all)

/-- A word that no RESPOND waits for. -/
theorem Chip.takeWord_idle (v : Word) (h : (!c.shp.hostCmd.any fun m => decide (m.code = 0x32)) = true) :
    (c.setShp fun s => { s with fifo := s.fifo ++ [v] }).tryRespond = c.setShp fun s => { s with fifo := s.fifo ++ [v] } :=
  Chip.tryRespond_idle _ h

theorem Chip.writeMbData_effect (r : Req) (v : Word) (h : (match c.shp.boot with
        | none => !c.shp.drop && decide (c.shp.fifo.length < 64) && !c.shp.hostCmd.any fun m => decide (m.code = 0x32)
        | some b => if b.src = 2 then b.checked && decide (b.bytes.length + 4 < b.len)
            else decide (c.shp.fifo.length < 64) && !c.shp.hostCmd.any fun m => decide (m.code = 0x32)) = true) :
    Sys2Proof.startEffect c (c.writeMbData v).settle (.mbDataWrite r v) := by
  unfold Sys2Proof.startEffect Chip.writeMbData
  dsimp only
  rw [Chip.settle_shp]
  cases hb : c.shp.boot with
  | none =>
    rw [hb] at h
    simp only [Bool.and_eq_true, decide_eq_true_eq] at h
    obtain ⟨⟨hdrop, hfifo⟩, hcmd⟩ := h
    dsimp only
    rw [if_neg (by simp_all), Chip.takeWord_idle _ _ hcmd]
    rfl
  | some b =>
    rw [hb] at h
    dsimp only at h ⊢
    by_cases hsrc : b.src = 2
    · rw [if_pos hsrc] at h
      simp only [Bool.and_eq_true, decide_eq_true_eq] at h
      obtain ⟨hchecked, hlen⟩ := h
      have hbytes : (b.bytes ++ [v].flatMap wordBytes) = b.bytes ++ wordBytes v := by simp
      have hmore : ¬ b.len ≤ (b.bytes ++ wordBytes v).length := by
        rw [List.length_append, show (wordBytes v).length = 4 from rfl]
        omega
      rw [if_pos hsrc, if_pos hsrc, Chip.streamWords, hb]
      dsimp only
      rw [if_pos ⟨hsrc, by omega⟩, hbytes, Chip.judgeStream]
      dsimp only
      rw [if_pos hchecked, if_neg (by simp only [hmore, decide_false, Bool.false_and]; exact Bool.false_ne_true)]
      rfl
    · rw [if_neg hsrc, Bool.and_eq_true, decide_eq_true_eq] at h
      rw [if_neg hsrc, if_neg hsrc, if_neg (by omega), Chip.takeWord_idle _ _ h.2]
      exact ⟨rfl, hb⟩

/-! ## The TAP (R407, R408) -/

theorem Chip.zeroise_shows : c.zeroise.get F.SHP_STAT_phase = 6 ∧ c.zeroise.rd R.GUARD_GATE = 0b10 ∧ c.zeroise.shp.shadow = [] ∧
    c.zeroise.shp.key = [] ∧ c.zeroise.fold.buf = [] ∧ c.zeroise.fold.bundle = [] := by
  unfold Chip.zeroise
  extract_lets c1 stop c2 c3
  have h3 : Touches [] (onPages [.shp]) c2 c3 := (Touches.refl _ _ c2).foldl fun i hi e =>
    (Touches.refl _ _ e).wr (by have : ∀ k : Fin 8, onPages [.shp] (R.SHP_CHAL k.val) = true := by decide +kernel
                                exact this ⟨i, List.mem_range.mp hi⟩)
  have hshp : c3.shp = c2.shp := h3.same .shp (by decide)
  have hfold : c3.fold = c2.fold := h3.same .fold (by decide)
  have hgate : c3.rd R.GUARD_GATE = 0b10 := by
    rw [h3.rd _ (by decide) (by decide)]
    exact c.rd_wr_self R.GUARD_GATE 0b10
  clear_value c3
  refine ⟨?_, ?_, ?_, ?_, ?_, ?_⟩
  · exact c3.get_put_self F.SHP_STAT_phase (by decide) 6
  · exact (c3.rd_put_ne (f := F.SHP_STAT_phase) (by decide) 6).trans hgate
  · exact congrArg ShpSt.shadow hshp
  · exact congrArg ShpSt.key hshp
  · exact congrArg FoldSt.buf hfold
  · exact congrArg FoldSt.bundle hfold

theorem Chip.tapEnter_effect (ir : Byte) : Sys2Proof.tapEffect c (c.tapEnter ir).settle ir := by
  unfold Sys2Proof.tapEffect Chip.tapEnter
  rw [Chip.settle_shp, Chip.settle_fold, Chip.settle_get _ (f := F.SHP_STAT_phase) (by decide) (by decide),
    Chip.settle_rd _ (a := R.GUARD_GATE) (by decide) (by decide)]
  by_cases h : c.tapAllowed = true
  · rw [if_pos h, if_pos h, Chip.setTap, Chip.get_setShp, Chip.rd_setShp, Chip.setShp_shp, Chip.setShp_fold]
    exact ⟨rfl, c.zeroise_shows⟩
  · rw [if_neg h, if_neg h, Chip.get_raise, Chip.raise_shp, Chip.setTap, Chip.get_setShp, Chip.setShp_shp]
    exact ⟨rfl, rfl, rfl⟩

end Sys2Proof.Machine

namespace Sys2Proof

open Sys2Proof.Machine

variable {c : Chip}

/-! ## The rows -/

theorem sectionVerify_effect (h : startReady c .sectionVerify = true) : startEffect c c.sectionVerify.settle .sectionVerify := by
  intro b hb
  dsimp only
  simp only [startReady, hb, Bool.and_eq_true, decide_eq_true_eq] at h
  obtain ⟨⟨hstage, hchecked⟩, hdue⟩ := h
  have hverify : c.sectionVerify = if b.late then c.lateHashes b (bunSects (toImage b.hdr)) else
      match (bunSects (toImage b.hdr))[b.next]? with
      | some s => if b.arrived (s.ofs + s.len) then c.nextSection b (bunSects (toImage b.hdr)) s else c
      | none => if b.arrived b.len then c.setShp fun s => { s with stage := .passing } else c := by
    unfold Chip.sectionVerify
    rw [hb]
    exact if_neg (by simp [hstage, hchecked])
  rw [hverify]
  by_cases hl : b.late = true
  · rw [if_pos hl] at hdue
    rw [if_pos hl, if_pos hl, Chip.lateHashes_pass c hdue, Chip.settle_shp]
    exact ⟨hstage, rfl⟩
  · rw [if_neg hl] at hdue
    rw [if_neg hl, if_neg hl]
    cases hsect : (bunSects (toImage b.hdr))[b.next]? with
    | none =>
      rw [hsect] at hdue
      dsimp only
      rw [if_pos hdue, Chip.settle_shp]
      rfl
    | some s =>
      rw [hsect] at hdue
      simp only [Bool.and_eq_true] at hdue
      obtain ⟨⟨harr, hflash⟩, hok⟩ := hdue
      obtain ⟨hdone, hstarts⟩ := c.nextSection_done (sects := bunSects (toImage b.hdr)) (eq_false_of_ne_true hl)
        (by rwa [Bool.not_eq_true'] at hflash) hok
      dsimp only
      rw [if_pos harr, Chip.settle_shp]
      exact ⟨hdone.stage.trans hstage, hdone.next, hdone.late, fun hst => (hstarts hst).settle⟩

theorem pass_effect (h : startReady c .pass = true) : startEffect c c.pass.settle .pass := by
  simp only [startReady, Bool.and_eq_true, decide_eq_true_eq] at h
  obtain ⟨⟨hs, hn⟩, hboot⟩ := h
  obtain ⟨f, hf⟩ := Option.isSome_iff_exists.mp hn
  cases hb : c.shp.boot with
  | none =>
    rw [hb] at hboot
    exact absurd hboot Bool.false_ne_true
  | some b =>
    obtain ⟨key, g, n, hpass⟩ := c.pass_due hb hf hs
    obtain ⟨hstage, hphase, hgate, hrun⟩ := c.passRunning_shows b key
    have hevents := (c.passRunning b key).startEvents_touches
    have hwaits := Chip.foldWaits_touches ((c.passRunning b key).startEvents.setFold g) f n
    have hcrook : c.pass.crook = (c.passRunning b key).crook := by
      rw [hpass, Chip.foldWaits_crook, Chip.setFold_crook, Chip.startEvents_crook]
    rw [startEffect, Chip.settle_shp, Chip.settle_fold, Chip.settle_crook, hcrook, hpass,
      Chip.settle_get _ (f := F.SHP_STAT_phase) (by decide) (by decide), Chip.settle_rd _ (a := R.GUARD_GATE) (by decide) (by decide),
      Chip.settle_get _ (f := F.FOLD_STAT_state) (by decide) (by decide), Chip.settle_bit _ (f := F.CRK_STAT_running) (by decide) (by decide),
      hwaits.same .shp (by decide), hwaits.get (f := F.SHP_STAT_phase) (by decide), hwaits.rd _ (by decide) (by decide),
      hwaits.bit (f := F.CRK_STAT_running) (by decide), (Chip.foldWaits_shows _ f n).1, Chip.setFold_shp, Chip.get_setFold, Chip.rd_setFold,
      Chip.bit_setFold, hevents.same .shp (by decide), hevents.get (f := F.SHP_STAT_phase) (by decide), hevents.rd _ (by decide) (by decide),
      hevents.bit (f := F.CRK_STAT_running) (by decide)]
    refine ⟨hstage, hphase, hgate, rfl, hf.symm, hrun, fun b' hb' hidle => ?_⟩
    obtain rfl : b = b' := Option.some.inj (hb.symm.trans hb')
    rw [hb, hidle] at hboot
    exact c.passRunning_crook hidle (of_decide_eq_true hboot)

section

variable (s : State)

theorem exec_fuseRepair : exec .fuseRepair s = s.act fun c => c.fuseRepair := rfl
theorem exec_startTestEnd (res : List TestRes) : exec (.startTestEnd res) s = s.act fun c => c.startTestEnd res := rfl
theorem exec_headerCheck : exec .headerCheck s = s.act fun c => c.headerCheck := rfl
theorem exec_sectionVerify : exec .sectionVerify s = s.act fun c => c.sectionVerify := rfl
theorem exec_pass : exec .pass s = s.act fun c => c.pass := rfl
theorem exec_mbDataWrite (r : Req) (v : Word) : exec (.mbDataWrite r v) s =
    s.act fun c => c.guarded r R.SHP_MB_DATA fun c => c.writeMbData v := rfl
theorem exec_streamTimeout : exec .streamTimeout s = s.act fun c => c.cutStream := rfl
theorem exec_dbgEnter : exec .dbgEnter s = s.act fun c => c.tapEnter 0x30 := rfl
theorem exec_scanEnter : exec .scanEnter s = s.act fun c => c.tapEnter 0x31 := rfl
theorem exec_bypass : exec .bypass s = s.act fun c => c.setTap 0xFF := rfl
theorem exec_idcode : exec .idcode s = s.act fun c => c.setTap 0x01 := rfl
theorem exec_boundaryScan (ir : Byte) : exec (.boundaryScan ir) s = s.act fun c => c.tapScan ir := rfl

end

theorem setTap_tap (ir : Byte) : (c.setTap ir).settle.shp.tap = ir := by
  rw [Chip.settle_shp]
  rfl

/-- Settles O29: each row that is due completes with its effect. -/
theorem startRowsComplete : Obligations.StartRowsComplete := by
  intro i s _ h
  cases i
  case fuseRepair => exact completes_act (exec_fuseRepair s) (s.chip.fuseRepair_effect (of_decide_eq_true h))
  case startTestEnd res => exact completes_act (exec_startTestEnd s res) (s.chip.startTestEnd_effect (of_decide_eq_true h) res)
  case headerCheck => exact completes_act (exec_headerCheck s) (s.chip.headerCheck_effect (of_decide_eq_true h))
  case sectionVerify => exact completes_act (exec_sectionVerify s) (sectionVerify_effect h)
  case pass => exact completes_act (exec_pass s) (pass_effect h)
  case mbDataWrite r v =>
    obtain ⟨hacc, hready⟩ := Bool.and_eq_true_iff.mp h
    exact completes_request (exec_mbDataWrite s r v) ⟨hacc, s.chip.writeMbData_effect r v hready⟩
  case streamTimeout =>
    obtain ⟨b, hb, hb'⟩ := (Option.any_eq_true _ _).mp h
    rw [Bool.and_eq_true, decide_eq_true_eq, decide_eq_true_eq] at hb'
    exact completes_act (exec_streamTimeout s) (s.chip.cutStream_effect hb hb'.1 hb'.2)
  case dbgEnter => exact completes_act (exec_dbgEnter s) (s.chip.tapEnter_effect 0x30)
  case scanEnter => exact completes_act (exec_scanEnter s) (s.chip.tapEnter_effect 0x31)
  case bypass => exact completes_act (exec_bypass s) (setTap_tap 0xFF)
  case idcode => exact completes_act (exec_idcode s) (setTap_tap 0x01)
  case boundaryScan ir =>
    refine completes_act (exec_boundaryScan s ir) ?_
    have hscan : s.chip.tapScan ir = s.chip.setTap ir := if_neg (by have := of_decide_eq_true h; tauto)
    rw [hscan]
    exact setTap_tap ir
  all_goals exact absurd h Bool.false_ne_true

end Sys2Proof
end

section
/-! PROOFS. What the rows of the RF front end touch (R295 to R318). -/

-- One theorem at a time: many at once, each with a thread of its own, do not fit in memory.
set_option Elab.async false

namespace Sys2Proof.Machine

variable (c : Chip)

namespace Touches

variable {c}
variable {d : Chip} {ps : List Part} {own : Nat → Bool}

theorem setRf (h : Touches ps own c d) {f : RfSt → RfSt} (hp : .rf ∈ ps := by decide) : Touches ps own c (d.setRf f) := h.rfSt hp

/-- What is done under a condition. -/
theorem ite {p : Prop} [Decidable p] {x y : Chip} (hx : Touches ps own c x) (hy : Touches ps own c y) :
    Touches ps own c (if p then x else y) := by
  split
  · exact hx
  · exact hy

end Touches

/-! ## The registers and the parts of the RF front end -/

/-- The registers of the family, and the count of airtime. -/
def rfOwn (a : Nat) : Bool := Sys2Proof.rfRegs a || a == R.GUARD_AIR_CNT

/-- A step of the RF front end and of its transmitter. -/
abbrev RfTouches (c d : Chip) : Prop := Touches [.time, .rf] rfOwn c d

theorem RfTouches.refl : RfTouches c c := Touches.refl _ _ c

theorem Chip.advanceTo_rf_touches (n : Nat) : RfTouches c (c.advanceTo n) := (RfTouches.refl c).advanceTo

theorem calRes_own {k : Nat} (hk : k < 8) : rfOwn (R.RF_CAL_RES k) = true := by
  have h : ∀ n : Fin 8, rfOwn (R.RF_CAL_RES n.val) = true := by decide +kernel
  exact h ⟨k, hk⟩

theorem monPeak_own {k : Nat} (hk : k < 8) : rfOwn (R.RF_MON_PEAK k) = true := by
  have h : ∀ n : Fin 8, rfOwn (R.RF_MON_PEAK n.val) = true := by decide +kernel
  exact h ⟨k, hk⟩

/-- The registers of the notches, with those of the acquisition. -/
def notchOwn (a : Nat) : Bool := within a 0x40090000 0x40091FFF

theorem rfOwn_of_notch {a : Nat} (h : notchOwn a = true) : rfOwn a = true := by simp [rfOwn, Sys2Proof.rfRegs, show within a _ _ = true from h]

theorem notchCtrl_own {k : Nat} (hk : k < 8) : notchOwn (R.GN_NOTCH_CTRL k) = true ∧ notchOwn (R.GN_NOTCH_FREQ k) = true := by
  have h : ∀ n : Fin 8, notchOwn (R.GN_NOTCH_CTRL n.val) = true ∧ notchOwn (R.GN_NOTCH_FREQ n.val) = true := by decide +kernel
  exact h ⟨k, hk⟩

/-! ## The PA -/

theorem Chip.showTx_touches : RfTouches c c.showTx := (RfTouches.refl c).put

theorem Chip.countAir_touches : RfTouches c c.countAir := by
  unfold Chip.countAir
  split
  · dsimp only
    split
    · exact (RfTouches.refl c).put.setRf
    · exact .refl c
  · exact .refl c

theorem Chip.endTx_touches : RfTouches c c.endTx := by
  unfold Chip.endTx
  extract_lets wake c1
  have h1 : RfTouches c c1 := (RfTouches.refl c).setRf
  refine Touches.trans ?_ (Chip.showTx_touches _)
  split
  · exact h1.put
  · exact h1

theorem Chip.cutKeyed_touches : RfTouches c c.cutKeyed := by
  unfold Chip.cutKeyed
  split
  · exact c.countAir_touches.latch.trans (Chip.endTx_touches _)
  · exact .refl c

theorem Chip.calEnd_touches : RfTouches c c.calEnd := by
  unfold Chip.calEnd
  split
  · exact (RfTouches.refl c).setRf
  · exact .refl c

theorem Chip.protectOff_touches : RfTouches c c.protectOff := by
  unfold Chip.protectOff
  split
  · exact (RfTouches.refl c).put.setRf
  · exact .refl c

/-! ## Receive side -/

theorem Chip.writeRfCtrl_touches (v : Word) : RfTouches c.skipBands (c.writeRfCtrl v) := by
  unfold Chip.writeRfCtrl
  extract_lets adc0 tx0 c1 adc1 tx1 c2 c3
  have h1 : RfTouches c.skipBands c1 := (RfTouches.refl _).plainWrite
  have h2 : RfTouches c.skipBands c2 := h1.setRf
  have h3 : RfTouches c.skipBands c3 := by
    unfold c3
    split
    · exact h2.put.put.setRf
    · split
      · exact h2.put.setRf
      · exact h2
  split
  · exact h3.trans (Chip.showTx_touches _)
  · split
    · exact ((h3.trans (Chip.cutKeyed_touches _)).trans (Chip.calEnd_touches _)).put.trans (Chip.showTx_touches _)
    · exact h3

theorem Chip.lnaApply_touches : RfTouches c c.lnaApply := by
  unfold Chip.lnaApply
  split
  · exact .refl c
  · exact (c.advanceTo_rf_touches _).setRf

theorem Chip.rxRetune_touches : RfTouches c c.rxRetune := by
  unfold Chip.rxRetune
  split
  · exact .refl c
  · exact (c.advanceTo_rf_touches _).setRf

theorem Chip.overloadEnd_touches : RfTouches c c.overloadEnd := by
  unfold Chip.overloadEnd
  split
  · exact .refl c
  · exact (RfTouches.refl c).put.levelOff.setRf

theorem Chip.ilcUpdate_touches (d : IlcStep) : RfTouches c (c.ilcUpdate d) := by
  unfold Chip.ilcUpdate
  split
  · exact .refl c
  · extract_lets c1 soon
    split
    · exact .refl c
    · exact (c.advanceTo_rf_touches _).setRf.put

theorem Chip.ilcGood_touches (img : Nat) : RfTouches c (c.ilcGood img) := by
  unfold Chip.ilcGood
  split
  · exact .refl c
  · dsimp only
    split
    · exact (RfTouches.refl c).put.put.put
    · exact (RfTouches.refl c).put.put

theorem Chip.ilcBad_touches (img : Nat) : RfTouches c (c.ilcBad img) := by
  unfold Chip.ilcBad
  split
  · exact .refl c
  · exact (RfTouches.refl c).put.put

/-! ## Transmit chain -/

theorem Chip.synthRetune_touches : RfTouches c c.synthRetune := by
  unfold Chip.synthRetune
  split
  · exact .refl c
  · split
    · exact .refl c
    · exact (RfTouches.refl c).put.put.levelOff.trans (Chip.showTx_touches _)

theorem Chip.synthLock_touches : RfTouches c c.synthLock := by
  unfold Chip.synthLock
  split
  · exact .refl c
  · exact (RfTouches.refl c).put.levelOff.trans (Chip.showTx_touches _)

theorem Chip.synthUnlock_touches : RfTouches c c.synthUnlock := by
  unfold Chip.synthUnlock
  split
  · exact .refl c
  · exact ((RfTouches.refl c).put.levelOn.trans (Chip.cutKeyed_touches _)).trans (Chip.showTx_touches _)

theorem Chip.dropPosted_touches (t : Tx) : RfTouches c (c.dropPosted t) := by
  unfold Chip.dropPosted
  split
  · exact (RfTouches.refl c).put.trans (Chip.showTx_touches _)
  · exact c.showTx_touches

theorem Chip.checkAtS_touches (t : Tx) : RfTouches c (c.checkAtS t) := by
  unfold Chip.checkAtS
  split
  · exact (RfTouches.refl c).latch.trans (Chip.dropPosted_touches _ t)
  split
  · exact (RfTouches.refl c).latch.trans (Chip.dropPosted_touches _ t)
  split
  · exact (RfTouches.refl c).latch.trans (Chip.dropPosted_touches _ t)
  split
  · exact (RfTouches.refl c).levelOn.trans (Chip.dropPosted_touches _ t)
  · extract_lets c1
    have h1 : RfTouches c c1 := by
      unfold c1
      split
      · exact (RfTouches.refl c).raise
      · exact .refl c
    exact h1.setRf.trans (Chip.showTx_touches _)

theorem Chip.keyedEnd_touches : RfTouches c c.keyedEnd := by
  unfold Chip.keyedEnd
  split
  · exact .refl c
  · split
    · exact .refl c
    · dsimp only
      split
      · exact (c.advanceTo_rf_touches _).trans (Chip.cutKeyed_touches _)
      · exact ((c.advanceTo_rf_touches _).trans (Chip.countAir_touches _)).trans (Chip.endTx_touches _)

theorem Chip.txStart_touches : RfTouches c c.txStart := by
  unfold Chip.txStart
  split
  · exact .refl c
  · exact (c.keyedEnd_touches.advanceTo.setRf).trans (Chip.checkAtS_touches _ _)

theorem Chip.protectStart_touches : RfTouches c c.protectStart := by
  unfold Chip.protectStart
  split
  · exact .refl c
  · split
    · exact .refl c
    · exact (c.advanceTo_rf_touches _).put

theorem Chip.protectEnd_touches : RfTouches c c.protectEnd := by
  unfold Chip.protectEnd
  dsimp only
  split
  · exact .refl c
  · exact (c.advanceTo_rf_touches _).trans (Chip.protectOff_touches _)

/-! ## Calibration and wake frames -/

theorem Chip.calStart_touches : RfTouches c c.calStart := by
  unfold Chip.calStart
  extract_lets lo iq c1 wake
  exact Touches.ite (RfTouches.refl c) ((c.advanceTo_rf_touches _).setRf.trans (Chip.showTx_touches _))

theorem Chip.calAbandon_touches : RfTouches c c.calAbandon := by
  unfold Chip.calAbandon
  split
  · exact c.calEnd_touches.trans (Chip.showTx_touches _)
  · exact .refl c

theorem Chip.get_lt (f : Fld) : c.get f < 2 ^ f.width := Nat.mod_lt _ (Nat.two_pow_pos _)

theorem Chip.calComplete_touches (res : Nat) : RfTouches c (c.calComplete res) := by
  unfold Chip.calComplete
  split
  · exact .refl c
  next iq _ =>
    split
    · exact c.calAbandon_touches
    · extract_lets k c1 c2
      have hk : k < 8 := c.get_lt F.RF_TX_STAT_ch
      have h1 : RfTouches c c1 := by
        cases iq
        · exact ((RfTouches.refl c).put (calRes_own hk)).put (calRes_own hk)
        · exact ((RfTouches.refl c).put (calRes_own hk)).put (calRes_own hk)
      have h2 : RfTouches c c2 := by
        cases iq
        · exact h1.put
        · exact h1.put
      exact (h2.trans (Chip.calEnd_touches _)).raise.trans (Chip.showTx_touches _)

theorem Chip.wakeFrame_touches (n : Bool) (code : Nat) : RfTouches c (c.wakeFrame n code) := by
  unfold Chip.wakeFrame
  split
  · exact .refl c
  · extract_lets c1
    have h1 : RfTouches c c1 := by
      cases n
      · exact (RfTouches.refl c).latch
      · exact (RfTouches.refl c).latch
    split
    · exact h1.raise
    · exact h1

theorem Chip.writeWakeTx_touches (v : Word) : RfTouches c (c.writeWakeTx v) := by
  unfold Chip.writeWakeTx Chip.postTx
  extract_lets busy c1 ch
  have h1 : RfTouches c c1 := (RfTouches.refl c).plainWrite
  split
  · exact h1
  · split
    · exact h1.put.latch
    · exact h1.setRf

end Sys2Proof.Machine
end

section
/-! PROOFS. What the rows of the RF front end leave unchanged (R295 to R318). -/

-- One theorem at a time: many at once, each with a thread of its own, do not fit in memory.
set_option Elab.async false

namespace Sys2Proof.Machine

variable (c : Chip)

/-! ## Rows that touch the baseband -/

/-- A step of the RF front end that may touch the baseband, but neither code phases nor sums of its channels. -/
structure RfMoves (c d : Chip) : Prop where
  touches : Touches [.time, .rf, .gn] rfOwn c d
  chans : ∀ n, (d.chan n).code = (c.chan n).code ∧ (d.chan n).sums = (c.chan n).sums

theorem chan_congr {c d : Chip} (h : d.gn.ch = c.gn.ch) (n : Nat) : d.chan n = c.chan n := by rw [Chip.chan, h, Chip.chan]

namespace RfMoves

variable {c}
variable {d e : Chip}

theorem of_ch (h : Touches [.time, .rf, .gn] rfOwn c d) (hch : d.gn.ch = c.gn.ch) : RfMoves c d :=
  ⟨h, fun n => by rw [chan_congr hch n]; exact ⟨rfl, rfl⟩⟩

theorem of_touches (h : RfTouches c d) : RfMoves c d :=
  .of_ch (h.mono (by decide) fun _ ha => ha) (congrArg GnSt.ch (h.same .gn (by decide)))

theorem trans (h : RfMoves c d) (k : RfMoves d e) : RfMoves c e :=
  ⟨h.touches.trans k.touches, fun n => ⟨(k.chans n).1.trans (h.chans n).1, (k.chans n).2.trans (h.chans n).2⟩⟩

/-- A register write that is refused is reported, and touches nothing else. -/
theorem guarded {r : Req} {a : Nat} {f : Chip → Chip} (h : RfMoves c (f c)) (ha : within a 0x20000000 0x2010FFFF = false := by decide) :
    RfMoves c (c.guarded r a f) := by
  unfold Chip.guarded
  split
  · exact h
  · have hs : c.storeRefused true a = none := by simp [Chip.storeRefused, ha]
    simp only [Chip.refused, hs]
    exact .of_touches (RfTouches.refl c).raise
  · exact .of_touches (RfTouches.refl c)

end RfMoves

theorem Chip.skipBands_moves : RfMoves c c.skipBands := .of_ch (Touches.gn (Touches.refl _ _ c)) rfl

theorem Chip.writeRfCtrl_rfMoves (v : Word) : RfMoves c (c.writeRfCtrl v) := c.skipBands_moves.trans (.of_touches (c.writeRfCtrl_touches v))

theorem Chip.adcReady_moves : RfMoves c c.adcReady := by
  unfold Chip.adcReady
  split
  · exact .of_touches (.refl c)
  · exact ((RfMoves.of_touches (c.advanceTo_rf_touches _)).trans (Chip.skipBands_moves _)).trans (.of_touches (RfTouches.refl _).setRf)

/-- The channels that a converter in overload feeds note it. -/
theorem get_noted (g : Nat → Chan → Bool) (m : KMap Chan) (n : Nat) :
    (KMap.get Chan.zero n (m.map fun e => (e.1, { e.2 with ovlInt := g e.1 e.2 }))).code = (KMap.get Chan.zero n m).code ∧
      (KMap.get Chan.zero n (m.map fun e => (e.1, { e.2 with ovlInt := g e.1 e.2 }))).sums = (KMap.get Chan.zero n m).sums := by
  induction m with
  | nil => exact ⟨rfl, rfl⟩
  | cons e r ih =>
    simp only [List.map_cons, KMap.get]
    by_cases h : e.1 = n
    · simp [h]
    · simpa [h] using ih

theorem Chip.overload_moves : RfMoves c c.overload := by
  unfold Chip.overload
  split
  · exact .of_touches (.refl c)
  · extract_lets c1 ch _ c2
    have h1 : RfTouches c c1 := (RfTouches.refl c).put.bump.levelOn
    have h2 : Touches [.time, .rf, .gn] rfOwn c c2 := Touches.gn (h1.mono (by decide) fun _ ha => ha)
    have hch : ∀ n, (c2.chan n).code = (c.chan n).code ∧ (c2.chan n).sums = (c.chan n).sums := fun n => by
      have hnoted := get_noted (fun i x => x.ovlInt || decide (c1.corrSrc i ≠ 3)) c1.gn.ch n
      have hgn : KMap.get Chan.zero n c1.gn.ch = c.chan n := chan_congr (congrArg GnSt.ch (h1.same .gn (by decide))) n
      rwa [hgn] at hnoted
    split
    · exact ⟨Touches.gn h2.latch, hch⟩
    · exact ⟨h2, hch⟩

/-! ### Notches and the spectrum monitor -/

/-- A step that sets notches and their registers. -/
structure NotchMoves (c d : Chip) : Prop where
  touches : Touches [.gn] notchOwn c d
  ch : d.gn.ch = c.gn.ch

namespace NotchMoves

variable {c}
variable {d e : Chip}

theorem refl (c : Chip) : NotchMoves c c := ⟨Touches.refl _ _ c, rfl⟩

theorem trans (h : NotchMoves c d) (k : NotchMoves d e) : NotchMoves c e := ⟨h.touches.trans k.touches, k.ch.trans h.ch⟩

theorem setNotch (h : NotchMoves c d) (i : Nat) (n : Notch) : NotchMoves c (d.setNotch i n) := ⟨h.touches.gn, h.ch⟩

theorem put (h : NotchMoves c d) {f : Fld} {v : Nat} (ha : notchOwn f.addr = true) : NotchMoves c (d.put f v) := ⟨h.touches.put ha, h.ch⟩

theorem wr (h : NotchMoves c d) {a : Nat} {v : Word} (ha : notchOwn a = true) : NotchMoves c (d.wr a v) := ⟨h.touches.wr ha, h.ch⟩

theorem foldl {α : Type} {g : Chip → α → Chip} {l : List α} (h : NotchMoves c d) (hg : ∀ x ∈ l, ∀ e, NotchMoves e (g e x)) :
    NotchMoves c (l.foldl g d) :=
  List.foldlRecOn (motive := fun e => NotchMoves c e) l g h fun e he x hx => he.trans (hg x hx e)

end NotchMoves

theorem Chip.notchPeak_moves (l1 : Bool) (b : Nat) : NotchMoves c (Chip.notchPeak l1 c b) := by
  unfold Chip.notchPeak
  extract_lets f own near
  split
  · exact .refl c
  · split
    · exact (NotchMoves.refl c).setNotch _ _
    · split
      · exact .refl c
      next i hi =>
        have hin : i < 8 := by
          have hmem := List.mem_of_find?_eq_some hi
          have hband : i ∈ if l1 then [0, 1, 2, 3] else [4, 5, 6, 7] := (List.mem_filter.mp hmem).1
          cases l1 <;> simp at hband <;> omega
        obtain ⟨hctrl, hfreq⟩ := notchCtrl_own hin
        exact (((NotchMoves.refl c).put hctrl).wr hfreq).setNotch _ _

theorem Chip.notchScan_moves (bins : List Nat) : NotchMoves c (c.notchScan bins) := by
  unfold Chip.notchScan
  extract_lets c1
  have h1 : NotchMoves c c1 := (NotchMoves.refl c).foldl fun i _ e => by
    split
    · exact (NotchMoves.refl e).setNotch _ _
    · exact .refl e
  exact h1.foldl fun b _ e => (e.notchPeak_moves true b).trans (Chip.notchPeak_moves _ false b)

theorem Chip.monitorScan_moves (bins : List Byte) : RfMoves c (c.monitorScan bins) := by
  unfold Chip.monitorScan
  extract_lets t d all lvl med2 top c1
  split
  · exact .of_touches (.refl c)
  · have hd : RfTouches c d := (c.advanceTo_rf_touches _).setRf
    split
    · exact .of_touches hd
    · have h1 : RfTouches c c1 := hd.foldl fun i hi e => by
        have hown := monPeak_own (List.mem_range.mp hi)
        split
        · exact (((RfTouches.refl e).put hown).put hown).put hown
        · exact (RfTouches.refl e).wr hown
      have hscan := (c1.incr F.RF_MON_SEQ_count).notchScan_moves (top.map (·.2))
      exact (RfMoves.of_touches h1.incr).trans (.of_ch (hscan.touches.mono (by decide) fun _ => rfOwn_of_notch) hscan.ch)

/-! ## TX_KEY -/

/-- The registers that TX_KEY may set: those of the family, and the members that a beacon's grants add. -/
def keyOwn (a : Nat) : Bool := rfOwn a || a == R.LNK_MEMBERS

/-- What TX_KEY touches of the device. -/
structure KeyMoves (c d : Chip) : Prop where
  touches : Touches [.time, .rf, .lnk] keyOwn c d
  plan : d.lnk.plan = c.lnk.plan

namespace KeyMoves

variable {c}
variable {d e : Chip}

theorem of_touches (h : RfTouches c d) : KeyMoves c d :=
  ⟨h.mono (by decide) fun a ha => by simp [keyOwn, ha], congrArg LnkSt.plan (h.same .lnk (by decide))⟩

theorem trans (h : KeyMoves c d) (k : KeyMoves d e) : KeyMoves c e := ⟨h.touches.trans k.touches, k.plan.trans h.plan⟩

end KeyMoves

theorem Chip.txKey_moves : KeyMoves c c.txKey := by
  have hend : ∀ {d : Chip}, RfTouches c d → RfTouches c (d.endTx.protectOff) := fun h =>
    (h.trans (Chip.endTx_touches _)).trans (Chip.protectOff_touches _)
  unfold Chip.txKey
  split
  · exact .of_touches (.refl c)
  next t _ =>
    split
    · exact .of_touches (.refl c)
    · extract_lets c1 c2 _ c3
      have h1 : RfTouches c c1 := c.advanceTo_rf_touches _
      have h2 : RfTouches c c2 := (h1.setRf.trans (Chip.countAir_touches _)).put
      have h3 : KeyMoves c c3 := by
        unfold c3
        split
        · exact ⟨(KeyMoves.of_touches h2).touches.lnk, (KeyMoves.of_touches h2).plan⟩
        · exact .of_touches h2
      split
      · exact .of_touches (hend h1)
      split
      · exact .of_touches (hend h1.latch)
      split
      · exact .of_touches (hend h1.latch)
      split
      · exact .of_touches (hend h1.latch.bump.raise)
      · exact h3.trans (.of_touches (Chip.showTx_touches _))

theorem Chip.takeGrants_moves : KeyMoves c c.takeGrants.2 := by
  unfold Chip.takeGrants
  exact ⟨(Touches.wr (Touches.refl _ _ c)).lnk, rfl⟩

theorem Chip.keyContent_moves (t : Tx) : KeyMoves c (c.keyContent t) := by
  unfold Chip.keyContent
  split
  · exact c.takeGrants_moves.trans (.of_touches (RfTouches.refl _).setRf)
  · split
    · exact .of_touches (RfTouches.refl c).setRf
    · exact .of_touches (.refl c)

theorem Chip.keyTx_moves : KeyMoves c c.keyTx := by
  unfold Chip.keyTx
  dsimp only
  split
  · split
    · exact c.txKey_moves.trans (Chip.keyContent_moves _ _)
    · exact c.txKey_moves
  · exact c.txKey_moves

end Sys2Proof.Machine
end

section
/-! PROOFS. The frame of the rows of the RF front end (R295 to R318). -/

-- One theorem at a time: many at once, each with a thread of its own, do not fit in memory.
set_option Elab.async false

namespace Sys2Proof

open Sys2Proof.Machine

/-! ## From what a step touches to the frames of the statements -/

section

variable {c d : Chip} {ps : List Part} {own : Nat → Bool}

/-- Stores and units that the radio's families never touch. -/
theorem sameStores_of (h : Touches ps own c d) (hp : ps ⊆ [.time, .rf, .gn, .lnk, .pas]) : SameStores c d.settle := by
  have hk : ∀ p, p ∉ [Part.time, .rf, .gn, .lnk, .pas] → p.same c d.settle := fun p hn =>
    p.same_trans (h.same p fun hin => hn (hp hin)) (Part.same_settle d (by rintro rfl; exact hn (by decide)))
  exact ⟨hk .mem (by decide), hk .ret (by decide), hk .co (by decide), hk .eng (by decide), hk .fold (by decide), hk .rot (by decide),
    hk .guard (by decide), hk .prt (by decide), hk .bst (by decide), hk .dma (by decide), hk .shp (by decide), hk .hif (by decide),
    hk .crook (by decide)⟩

/-- A register that neither the step nor the end of the command sets. -/
theorem settle_rd_touches (h : Touches ps own c d) {a : Nat} (ha : own a = false) (hevt : within a 0x40070000 0x40070FFF = false)
    (htmr : a ≠ R.PWR_TMR) (hhold : holdReg a = false) : d.settle.rd a = c.rd a :=
  (d.settle_rd (flushReg_of_outside hevt) hhold).trans (h.rd a ha htmr)

theorem sameRegs_of (h : Touches ps own c d) {own' : Nat → Bool} (ho : ∀ a, own' a = false → a ≠ R.GUARD_AIR_CNT → own a = false) :
    sameRegs own' c d.settle := fun a ha hevt htmr hair htx hwake hstat =>
  settle_rd_touches h (ho a ha hair) hevt htmr (by simp [holdReg, hair, htx, hwake, hstat])

end

section

variable (s : State)

theorem exec_adcEnable (r : Req) (v : Word) : exec (.adcEnable r v) s = s.act fun c => c.guarded r R.RF_CTRL fun c => c.writeRfCtrl v := rfl
theorem exec_adcDisable (r : Req) (v : Word) : exec (.adcDisable r v) s = s.act fun c => c.guarded r R.RF_CTRL fun c => c.writeRfCtrl v := rfl
theorem exec_txEnable (r : Req) (v : Word) : exec (.txEnable r v) s = s.act fun c => c.guarded r R.RF_CTRL fun c => c.writeRfCtrl v := rfl
theorem exec_txDisable (r : Req) (v : Word) : exec (.txDisable r v) s = s.act fun c => c.guarded r R.RF_CTRL fun c => c.writeRfCtrl v := rfl
theorem exec_adcValid : exec .adcValid s = s.act fun c => c.adcReady := rfl
theorem exec_lnaGainApply : exec .lnaGainApply s = s.act fun c => c.lnaApply := rfl
theorem exec_rxRetune : exec .rxRetune s = s.act fun c => c.rxRetune := rfl
theorem exec_rfAdcOverload : exec .rfAdcOverload s = s.act fun c => c.overload := rfl
theorem exec_rfAdcOverloadEnd : exec .rfAdcOverloadEnd s = s.act fun c => c.overloadEnd := rfl
theorem exec_ilcUpdate (d : IlcStep) : exec (.ilcUpdate d) s = s.act fun c => c.ilcUpdate d := rfl
theorem exec_ilcOk (img : Byte) : exec (.ilcOk img) s = s.act fun c => c.ilcGood img.toNat := rfl
theorem exec_ilcOkClear (img : Byte) : exec (.ilcOkClear img) s = s.act fun c => c.ilcBad img.toNat := rfl
theorem exec_monitorScan (bins : List Byte) : exec (.monitorScan bins) s = s.act fun c => c.monitorScan bins := rfl
theorem exec_synthRetune : exec .synthRetune s = s.act fun c => c.synthRetune := rfl
theorem exec_synthLock : exec .synthLock s = s.act fun c => c.synthLock := rfl
theorem exec_rfSynthUnlock : exec .rfSynthUnlock s = s.act fun c => c.synthUnlock := rfl
theorem exec_transmissionStart : exec .transmissionStart s = s.act fun c => c.txStart := rfl
theorem exec_txKey : exec .txKey s = s.act fun c => c.keyTx := rfl
theorem exec_keyedEnd : exec .keyedEnd s = s.act fun c => c.keyedEnd := rfl
theorem exec_protectStart : exec .protectStart s = s.act fun c => c.protectStart := rfl
theorem exec_protectEnd : exec .protectEnd s = s.act fun c => c.protectEnd := rfl
theorem exec_loCalRequest (r : Req) (v : Word) : exec (.loCalRequest r v) s =
    s.act fun c => c.guarded r R.RF_CAL_REQ fun c => c.writeCalReq v := rfl
theorem exec_iqCalRequest (r : Req) (v : Word) : exec (.iqCalRequest r v) s =
    s.act fun c => c.guarded r R.RF_CAL_REQ fun c => c.writeCalReq v := rfl
theorem exec_calStart : exec .calStart s = s.act fun c => c.calStart := rfl
theorem exec_calComplete (res : Byte) : exec (.calComplete res) s = s.act fun c => c.calComplete res.toNat := rfl
theorem exec_wakeFrame (n : Bool) (code : Word64) : exec (.wakeFrame n code) s = s.act fun c => c.wakeFrame n code.toNat := rfl
theorem exec_wakeTxGo (r : Req) (v : Word) : exec (.wakeTxGo r v) s =
    s.act fun c => c.guarded r R.RF_WAKE_TX_CTRL fun c => c.writeWakeTx v := rfl

end

/-- Each of these rows but TX_KEY is one action that moves the RF front end, and of the baseband no more than RfMoves names. -/
theorem rfRow_moves {i : Instr} (h : rfRow i = true) (hi : i ≠ .txKey) :
    ∃ f : Chip → Chip, (∀ s, exec i s = s.act f) ∧ ∀ c, RfMoves c (f c) := by
  have hctrl : ∀ (r : Req) (v : Word) (c : Chip), RfMoves c (c.guarded r R.RF_CTRL fun c => c.writeRfCtrl v) := fun _ v c =>
    (c.writeRfCtrl_rfMoves v).guarded
  have hcal : ∀ (r : Req) (v : Word) (c : Chip), RfMoves c (c.guarded r R.RF_CAL_REQ fun c => c.writeCalReq v) := fun _ _ c =>
    (RfMoves.of_touches (RfTouches.refl c).plainWrite).guarded
  unfold rfRow at h
  split at h
  next r v => exact ⟨_, fun s => exec_adcEnable s r v, hctrl r v⟩
  next r v => exact ⟨_, fun s => exec_adcDisable s r v, hctrl r v⟩
  next r v => exact ⟨_, fun s => exec_txEnable s r v, hctrl r v⟩
  next r v => exact ⟨_, fun s => exec_txDisable s r v, hctrl r v⟩
  next => exact ⟨_, exec_adcValid, Chip.adcReady_moves⟩
  next => exact ⟨_, exec_lnaGainApply, fun c => .of_touches c.lnaApply_touches⟩
  next => exact ⟨_, exec_rxRetune, fun c => .of_touches c.rxRetune_touches⟩
  next => exact ⟨_, exec_rfAdcOverload, Chip.overload_moves⟩
  next => exact ⟨_, exec_rfAdcOverloadEnd, fun c => .of_touches c.overloadEnd_touches⟩
  next d => exact ⟨_, fun s => exec_ilcUpdate s d, fun c => .of_touches (c.ilcUpdate_touches d)⟩
  next img => exact ⟨_, fun s => exec_ilcOk s img, fun c => .of_touches (c.ilcGood_touches _)⟩
  next img => exact ⟨_, fun s => exec_ilcOkClear s img, fun c => .of_touches (c.ilcBad_touches _)⟩
  next bins => exact ⟨_, fun s => exec_monitorScan s bins, fun c => c.monitorScan_moves bins⟩
  next => exact ⟨_, exec_synthRetune, fun c => .of_touches c.synthRetune_touches⟩
  next => exact ⟨_, exec_synthLock, fun c => .of_touches c.synthLock_touches⟩
  next => exact ⟨_, exec_rfSynthUnlock, fun c => .of_touches c.synthUnlock_touches⟩
  next => exact ⟨_, exec_transmissionStart, fun c => .of_touches c.txStart_touches⟩
  next => exact absurd rfl hi
  next => exact ⟨_, exec_keyedEnd, fun c => .of_touches c.keyedEnd_touches⟩
  next => exact ⟨_, exec_protectStart, fun c => .of_touches c.protectStart_touches⟩
  next => exact ⟨_, exec_protectEnd, fun c => .of_touches c.protectEnd_touches⟩
  next r v => exact ⟨_, fun s => exec_loCalRequest s r v, hcal r v⟩
  next r v => exact ⟨_, fun s => exec_iqCalRequest s r v, hcal r v⟩
  next => exact ⟨_, exec_calStart, fun c => .of_touches c.calStart_touches⟩
  next res => exact ⟨_, fun s => exec_calComplete s res, fun c => .of_touches (c.calComplete_touches _)⟩
  next n code => exact ⟨_, fun s => exec_wakeFrame s n code, fun c => .of_touches (c.wakeFrame_touches n _)⟩
  next r v => exact ⟨_, fun s => exec_wakeTxGo s r v, fun c => (RfMoves.of_touches (c.writeWakeTx_touches v)).guarded⟩
  next => cases h

/-- Settles O45: a row of the RF front end moves its own registers and parts, TX_KEY the link's members and uplinks besides, and the end
of the command the registers of routing and of the PA's hold. -/
theorem rfRowsFrame : Obligations.RfRowsFrame := by
  intro i s t hrow _ hnext
  by_cases hi : i = .txKey
  · subst hi
    obtain rfl : { s with chip := s.chip.keyTx.settle } = t := Host.Outcome.next.inj ((exec_txKey s).symm.trans hnext)
    have h := s.chip.keyTx_moves
    refine ⟨rfl, sameStores_of h.touches (by decide), ?_, ?_, fun hn => absurd rfl hn, fun n => ?_, sameRegs_of h.touches fun a ha hair => ?_⟩
    · rw [Chip.settle_pas]
      exact h.touches.same .pas (by decide)
    · rw [Chip.settle_lnk]
      exact h.plan
    · have hgn : s.chip.keyTx.settle.gn = s.chip.gn := (Chip.settle_gn _).trans (h.touches.same .gn (by decide))
      rw [chan_congr (congrArg GnSt.ch hgn) n]
      exact ⟨rfl, rfl⟩
    · simp only [Bool.or_eq_false_iff, Bool.and_eq_false_iff] at ha
      simpa [keyOwn, rfOwn, hair, ha.1] using ha.2
  · obtain ⟨f, hf, hmoves⟩ := rfRow_moves hrow hi
    obtain rfl : { s with chip := (f s.chip).settle } = t := Host.Outcome.next.inj ((hf s).symm.trans hnext)
    have h := hmoves s.chip
    have hlnk : (f s.chip).settle.lnk = s.chip.lnk := (Chip.settle_lnk _).trans (h.touches.same .lnk (by decide))
    refine ⟨rfl, sameStores_of h.touches (by decide), ?_, congrArg LnkSt.plan hlnk, fun _ => hlnk, fun n => ?_,
      sameRegs_of h.touches fun a ha hair => ?_⟩
    · rw [Chip.settle_pas]
      exact h.touches.same .pas (by decide)
    · rw [chan_congr (congrArg GnSt.ch (Chip.settle_gn _)) n]
      exact h.chans n
    · have hown := (Bool.or_eq_false_iff.mp ha).1
      simp [rfOwn, hair, hown]

end Sys2Proof
end

section
/-! PROOFS. What the rows of the positioning baseband touch (R319 to R346). -/

-- One theorem at a time: many at once, each with a thread of its own, do not fit in memory.
set_option Elab.async false

namespace Sys2Proof.Machine

open Sys2Proof (gnRegs asksWindow asksAnew)

variable (c : Chip)

/-! ## The registers and the parts of the positioning baseband -/

/-- A step of the positioning baseband that asks nothing of the pasture's window. -/
abbrev GnTouches (c d : Chip) : Prop := Touches [.time, .gn] gnRegs c d

theorem GnTouches.refl : GnTouches c c := Touches.refl _ _ c

theorem Chip.advanceTo_gn_touches (n : Nat) : GnTouches c (c.advanceTo n) := (GnTouches.refl c).advanceTo

theorem notch_own {k : Nat} (hk : k < 8) : gnRegs (R.GN_NOTCH_CTRL k) = true ∧ gnRegs (R.GN_NOTCH_FREQ k) = true ∧
    gnRegs (regCanon (R.GN_NOTCH_FREQ k)) = true := by
  have h : ∀ n : Fin 8, gnRegs (R.GN_NOTCH_CTRL n.val) = true ∧ gnRegs (R.GN_NOTCH_FREQ n.val) = true ∧
    gnRegs (regCanon (R.GN_NOTCH_FREQ n.val)) = true := by decide +kernel
  exact h ⟨k, hk⟩

theorem acqRes_own {k : Nat} (hk : k < 16) : gnRegs (R.GN_ACQ_RES_A k) = true ∧ gnRegs (R.GN_ACQ_RES_B k) = true := by
  have h : ∀ n : Fin 16, gnRegs (R.GN_ACQ_RES_A n.val) = true ∧ gnRegs (R.GN_ACQ_RES_B n.val) = true := by decide +kernel
  exact h ⟨k, hk⟩

theorem chCtrl_own (n : Fin 96) : gnRegs (R.GN_CH_CTRL n.val) = true ∧ gnRegs (R.GN_CH_STAT n.val) = true ∧ gnRegs (R.GN_CH_T0 n.val) = true := by
  have h : ∀ n : Fin 96, gnRegs (R.GN_CH_CTRL n.val) = true ∧ gnRegs (R.GN_CH_STAT n.val) = true ∧ gnRegs (R.GN_CH_T0 n.val) = true := by
    decide +kernel
  exact h n

theorem chCfg_own (k : ChCfgReg) (n : Fin 96) : gnRegs (regCanon (chCfgAddr k n.val)) = true ∧
    within (chCfgAddr k n.val) 0x20000000 0x2010FFFF = false := by
  have h : ∀ n : Fin 96, gnRegs (regCanon (chCfgAddr k n.val)) = true ∧ within (chCfgAddr k n.val) 0x20000000 0x2010FFFF = false := by
    cases k <;> decide +kernel
  exact h n

theorem chMeas_own {n i : Nat} (hn : n < 96) (hi : i < 8) : gnRegs (R.GN_CH_MEAS n i) = true := by
  have h : within (R.GN_CH_MEAS n i) 0x400A0000 0x400A5FFF = true := by
    unfold within R.GN_CH_MEAS
    simp
    omega
  simp [gnRegs, h]

/-! ## Notches -/

theorem Chip.setNotch_touches (i : Nat) (n : Notch) : GnTouches c (c.setNotch i n) := (GnTouches.refl c).gn

theorem Chip.notchMove_touches {i : Nat} (hi : i < 8) : GnTouches c (c.notchMove i) := by
  unfold Chip.notchMove
  extract_lets n c1 th raw d t lim
  have h1 : GnTouches c c1 := c.setNotch_touches _ _
  exact Touches.ite h1 (h1.wr (notch_own hi).2.1)

theorem Chip.notchSample_touches {i : Nat} (hi : i < 8) (x : Rat × Rat) : GnTouches c (c.notchSample i x).2 := by
  unfold Chip.notchSample
  split
  · exact .refl c
  · dsimp only
    split
    · exact (c.setNotch_touches _ _).trans (Chip.notchMove_touches _ hi)
    · exact c.setNotch_touches _ _

theorem Chip.notchExpire_touches {i : Nat} (hi : i < 8) : GnTouches c (c.notchExpire i) := by
  unfold Chip.notchExpire Chip.disengage
  exact Touches.ite (((GnTouches.refl c).put (notch_own hi).1).trans (Chip.setNotch_touches _ _ _)) (GnTouches.refl c)

theorem Chip.writeNotchFreq_touches {i : Nat} (hi : i < 8) (v : Word) : GnTouches c (c.writeNotchFreq i v) := by
  unfold Chip.writeNotchFreq
  exact ((GnTouches.refl c).plainWrite (notch_own hi).2.2).trans (Chip.setNotch_touches _ _ _)

/-! ## Phases and sums of the channels -/

theorem Chip.setChan_touches (n : Nat) (x : Chan) : GnTouches c (c.setChan n x) := (GnTouches.refl c).gn

theorem Chip.chanRun_touches (strict : Bool) (n t fuel : Nat) : GnTouches c (Chip.chanRun strict n t fuel c) := by
  induction fuel generalizing c with
  | zero => exact c.setChan_touches _ _
  | succ fuel ih =>
    unfold Chip.chanRun
    split
    · exact c.setChan_touches _ _
    · split
      · exact ((c.setChan_touches _ _).trans (Chip.setChan_touches _ _ _)).trans (ih _)
      · exact c.setChan_touches _ _

theorem Chip.chanMove_touches (strict : Bool) (n t : Nat) : GnTouches c (c.chanMove strict n t) := c.chanRun_touches _ _ _ _

theorem Chip.bandChan_touches (src u : Nat) (y : Int × Int) (n : Nat) : GnTouches c (Chip.bandChan src u y c n) := by
  unfold Chip.bandChan
  exact Touches.ite (GnTouches.refl c) ((c.chanMove_touches _ _ _).trans (Chip.setChan_touches _ _ _))

theorem Chip.takeDump_touches (n : Nat) (s : Sums) (nz : Int × Int) (rest : List (Sums × (Int × Int))) :
    GnTouches c (c.takeDump n s nz rest) := c.setChan_touches _ _

/-! ## Starts, stops and the state of a channel -/

section

variable (n : Fin 96)

theorem Chip.writeChCtrl_touches (v : Word) : GnTouches c (c.writeChCtrl n.val v) := by
  obtain ⟨hctrl, hstat, ht0⟩ := chCtrl_own n
  unfold Chip.writeChCtrl
  extract_lets c1 c2 t
  have h1 : GnTouches c c1 := (GnTouches.refl c).put hctrl
  have h2 : GnTouches c c2 := Touches.ite (h1.put hctrl) h1
  refine Touches.ite h2 (Touches.ite (h2.latch hstat) ?_)
  exact ((h2.put hctrl).wr ht0).trans (Chip.setChan_touches _ _ _)

theorem Chip.chanIdle_touches : GnTouches c (c.chanIdle n.val) :=
  ((c.setChan_touches _ _).put (chCtrl_own n).2.1).put (chCtrl_own n).1

theorem Chip.chanStart_touches : GnTouches c (c.chanStart n.val) := by
  unfold Chip.chanStart
  split
  · exact .refl c
  · exact (((c.advanceTo_gn_touches _).trans (Chip.setChan_touches _ _ _)).put (chCtrl_own n).2.1).put (chCtrl_own n).1

theorem Chip.chanStop_touches : GnTouches c (c.chanStop n.val) := by
  unfold Chip.chanStop
  split
  · exact .refl c
  · split
    · exact (c.advanceTo_gn_touches _).trans (Chip.chanIdle_touches _ n)
    · exact c.chanIdle_touches n

theorem Chip.writeChCfg_touches (k : ChCfgReg) (v : Word) : GnTouches c (c.writeChCfg n.val (chCfgAddr k n.val) v) := by
  unfold Chip.writeChCfg
  exact Touches.ite ((GnTouches.refl c).plainWrite (chCfg_own k n).1) ((GnTouches.refl c).latch (chCtrl_own n).2.1)

theorem Chip.pullTimeout_touches : GnTouches c (c.pullTimeout n.val) := by
  unfold Chip.pullTimeout
  exact Touches.ite ((c.chanIdle_touches n).latch (chCtrl_own n).2.1) (GnTouches.refl c)

theorem Chip.coastTimeout_touches : GnTouches c (c.coastTimeout n.val) := by
  unfold Chip.coastTimeout
  exact Touches.ite (c.chanIdle_touches n) (GnTouches.refl c)

theorem Chip.loops_touches (s : Sums) : GnTouches c (c.loops n.val s) := c.setChan_touches _ _

theorem Chip.detector_touches (s : Sums) : GnTouches c (c.detector n.val s) := by
  unfold Chip.detector
  dsimp only
  split
  · exact ((GnTouches.refl c).aside _ _ _).trans (Chip.setChan_touches _ _ _)
  · exact c.setChan_touches _ _

theorem Chip.enterTrack_touches : GnTouches c (c.enterTrack n.val) := (c.setChan_touches _ _).put (chCtrl_own n).2.1

theorem Chip.judgeChan_touches (ovl : Bool) : GnTouches c (c.judgeChan n.val ovl) := by
  have hstat := (chCtrl_own n).2.1
  unfold Chip.judgeChan
  extract_lets ok x good bad c1 st
  have h1 : GnTouches c c1 := c.setChan_touches _ _
  have hlost : GnTouches c (((c1.setChan n.val { c1.chan n.val with msIn := 0, good := 0, bad := 0, cont := false }).put
      (F.GN_CH_STAT_state n.val) chLost).put (F.GN_CH_STAT_lost n.val) 1) :=
    ((h1.trans (Chip.setChan_touches _ _ _)).put hstat).put hstat
  refine Touches.ite (Touches.ite ?_ h1) (Touches.ite (h1.trans (Chip.enterTrack_touches _ n)) h1)
  exact (hlost.aside _ _ _).raise

theorem Chip.integrationEnd_touches : GnTouches c (c.integrationEnd n.val) := by
  unfold Chip.integrationEnd
  dsimp only
  split
  · exact .refl c
  · refine Touches.ite (GnTouches.refl c) ?_
    exact (((c.loops_touches n _).trans (Chip.detector_touches _ n _)).trans (Chip.judgeChan_touches _ n _)).trans
      (Chip.setChan_touches _ _ _)

end

/-! ## Epochs -/

theorem Chip.latchRecord_touches (seq : Nat) {n : Nat} (hn : n < 96) : GnTouches c (Chip.latchRecord seq c n) := by
  unfold Chip.latchRecord
  extract_lets ws c2
  have h2 : GnTouches c c2 := (GnTouches.refl c).foldl fun i hi e => (GnTouches.refl e).wr (chMeas_own hn (List.mem_range.mp hi))
  exact h2.trans (Chip.setChan_touches _ _ _)

theorem Chip.epoch_touches : GnTouches c c.epoch := by
  unfold Chip.epoch
  refine Touches.ite (GnTouches.refl c) ?_
  extract_lets c1 seq c2 c3
  have h1 : GnTouches c c1 := c.advanceTo_gn_touches _
  have h2 : GnTouches c c2 := h1.foldl fun n hn e => e.latchRecord_touches seq (List.mem_range.mp hn)
  have h3 : GnTouches c c3 := h2.wr.wr.wr
  exact (Touches.gn (h3.wr)).raise

theorem Chip.epochRate_touches : GnTouches c c.epochRate := by
  unfold Chip.epochRate
  split
  · exact .refl c
  · exact (c.advanceTo_gn_touches _).gn

/-! ## Acquisition -/

theorem onGn_own (a : Nat) (h : onPages [.gn] a = true) : gnRegs a = true := by
  have hgn : within a 0x40090000 0x40091FFF = true := by simpa [onPages, Page.has] using h
  simp [gnRegs, hgn]

theorem Chip.clearResults_gn_touches : GnTouches c c.clearResults := c.clearResults_touches.mono (by decide) onGn_own

theorem Chip.acqDone_touches (arg : Nat) : GnTouches c (c.acqDone arg) := (Touches.gn (GnTouches.refl c).put.put).raise

theorem Chip.captureStart_touches : GnTouches c c.captureStart := by
  unfold Chip.captureStart
  refine Touches.ite (GnTouches.refl c) ?_
  extract_lets c1 s c2 on
  have h2 : GnTouches c c2 := (c.advanceTo_gn_touches _).wr.wr
  exact Touches.gn (Touches.ite h2.latch h2)

theorem Chip.captureDone_touches : GnTouches c c.captureDone := by
  unfold Chip.captureDone
  exact Touches.ite (GnTouches.refl c) (Touches.gn (GnTouches.refl c).put)

theorem Chip.pasRead_gn_touches (src k lb bank w : Nat) : GnTouches c (c.pasRead src k lb bank w).2.2 := by
  unfold Chip.pasRead
  dsimp only
  split
  · exact .refl c
  · split
    · exact (GnTouches.refl c).bump.raise
    · unfold Chip.pasUncorr
      extract_lets pad c1 c2
      have h1 : GnTouches c c1 := (GnTouches.refl c).bump.put.put.put.put
      exact (Touches.ite h1.wr h1.wr).raise

theorem Chip.acqWord_touches (i : Nat) : GnTouches c (c.acqWord i).2 := by
  unfold Chip.acqWord
  dsimp only
  split
  · exact c.pasRead_gn_touches _ _ _ _ _
  · exact .refl c

theorem Chip.captured_touches : GnTouches c c.captured.2 := by
  unfold Chip.captured
  exact List.foldlRecOn (motive := fun acc : List (Rat × Rat) × Chip => GnTouches c acc.2) _ _ (GnTouches.refl c) fun acc h i _ =>
    h.trans (acc.2.acqWord_touches i)

theorem Chip.recordCell_touches {i : Nat} (hi : i < 16) (cells : List Rat) : GnTouches c (c.recordCell i cells) := by
  obtain ⟨hA, hB⟩ := acqRes_own hi
  unfold Chip.recordCell Chip.draw
  dsimp only
  split
  · exact (((((GnTouches.refl c).aside _ _ _).put hA).putB hA).put hA |>.put hA).put hB
  · exact ((((GnTouches.refl c).put hA).putB hA).put hA |>.put hA).put hB

theorem Chip.searchEnd_touches (sig : Nat) : GnTouches c (c.searchEnd sig) := by
  unfold Chip.searchEnd
  refine Touches.ite (GnTouches.refl c) ?_
  dsimp only
  refine Touches.trans ?_ (Chip.acqDone_touches _ _)
  refine Touches.foldl ((c.advanceTo_gn_touches _).trans (Chip.captured_touches _)) fun e he d => d.recordCell_touches ?_ _
  exact List.mem_range.mp (List.of_mem_zip he).2

end Sys2Proof.Machine
end

section
/-! PROOFS. The frame of the rows of the positioning baseband (R319 to R346). -/

-- One theorem at a time: many at once, each with a thread of its own, do not fit in memory.
set_option Elab.async false

namespace Sys2Proof.Machine

open Sys2Proof (gnRegs asksWindow asksAnew)

/-! ## The requests at the pasture's window -/

/-- Beside requests of one kind, which are added or of which those that waited are taken back, the pasture stays. -/
def AsksOnly (kind : Nat × WinReq → Bool) (c d : Chip) : Prop := asksWindow kind c d ∨ asksAnew kind c d

namespace AsksOnly

variable {kind : Nat × WinReq → Bool} {c d e : Chip}

theorem same (h : d.pas = c.pas) : AsksOnly kind c d := .inl ⟨[], fun _ hq => (nomatch hq), by rw [h, List.append_nil]⟩

/-- None of requests of one kind stands among those of the others. -/
theorem filter_kind {l : List (Nat × WinReq)} (h : ∀ q ∈ l, kind q = true) : l.filter (fun q => !kind q) = [] :=
  List.filter_eq_nil_iff.mpr fun q hq => by simp [h q hq]

theorem trans (h : AsksOnly kind c d) (k : AsksOnly kind d e) : AsksOnly kind c e := by
  have hboth : ∀ {l m : List (Nat × WinReq)}, (∀ q ∈ l, kind q = true) → (∀ q ∈ m, kind q = true) → ∀ q ∈ l ++ m, kind q = true :=
    fun hl hm q hq => (List.mem_append.mp hq).elim (hl q) (hm q)
  obtain ⟨l, hl, hd⟩ | ⟨l, hl, hd⟩ := h <;> obtain ⟨m, hm, he⟩ | ⟨m, hm, he⟩ := k
  · exact .inl ⟨l ++ m, hboth hl hm, by rw [he, hd, List.append_assoc]⟩
  · exact .inr ⟨m, hm, by rw [he, hd, List.filter_append, filter_kind hl, List.append_nil]⟩
  · exact .inr ⟨l ++ m, hboth hl hm, by rw [he, hd, List.append_assoc]⟩
  · exact .inr ⟨m, hm, by rw [he, hd, List.filter_append, filter_kind hl, List.append_nil, List.filter_filter]; simp only [Bool.and_self]⟩

end AsksOnly

variable (c : Chip)

/-! ## Rows that ask the window -/

/-- A step of the positioning baseband, words of its capture added or taken back. -/
structure GnMoves (c d : Chip) : Prop where
  touches : Touches [.time, .gn, .pas] gnRegs c d
  asks : AsksOnly isAcqWord c d

namespace GnMoves

variable {c}
variable {d e : Chip}

theorem of_touches (h : GnTouches c d) : GnMoves c d := ⟨h.mono (by decide) fun _ ha => ha, .same (h.same .pas (by decide))⟩

theorem refl (c : Chip) : GnMoves c c := .of_touches (.refl c)

theorem trans (h : GnMoves c d) (k : GnMoves d e) : GnMoves c e := ⟨h.touches.trans k.touches, h.asks.trans k.asks⟩

theorem ite {p : Prop} [Decidable p] {x y : Chip} (hx : GnMoves c x) (hy : GnMoves c y) : GnMoves c (if p then x else y) := by
  split
  · exact hx
  · exact hy

theorem foldl {α : Type} {g : Chip → α → Chip} {l : List α} (h : GnMoves c d) (hg : ∀ x ∈ l, ∀ e, GnMoves e (g e x)) :
    GnMoves c (l.foldl g d) :=
  List.foldlRecOn (motive := fun e => GnMoves c e) l g h fun e he x hx => he.trans (hg x hx e)

/-- A register write that is refused is reported, and touches nothing else. -/
theorem guarded {r : Req} {a : Nat} {f : Chip → Chip} (h : GnMoves c (f c)) (ha : within a 0x20000000 0x2010FFFF = false := by decide) :
    GnMoves c (c.guarded r a f) := by
  unfold Chip.guarded
  split
  · exact h
  · have hs : c.storeRefused true a = none := by simp [Chip.storeRefused, ha]
    simp only [Chip.refused, hs]
    exact .of_touches (GnTouches.refl c).raise
  · exact .refl c

end GnMoves

theorem Chip.clearFifo_moves : GnMoves c c.clearFifo :=
  ⟨(Touches.refl _ _ c).pas, .inr ⟨[], fun _ hq => (nomatch hq), by rw [List.append_nil]; rfl⟩⟩

theorem Chip.acqAbort_gn_moves : GnMoves c c.acqAbort := by
  unfold Chip.acqAbort
  exact .ite (.refl c) (c.clearFifo_moves.trans (.of_touches ((Chip.clearResults_gn_touches _).trans (Chip.acqDone_touches _ _))))

theorem Chip.writeAcqCtrl_moves (v : Word) : GnMoves c (c.writeAcqCtrl v) := by
  unfold Chip.writeAcqCtrl
  extract_lets c1 c2 src pad per t
  have h1 : GnMoves c c1 := .of_touches (GnTouches.refl c).put.put
  have h2 : GnMoves c c2 := .ite (h1.trans c1.acqAbort_gn_moves) h1
  refine .ite h2 (.ite (h2.trans (.of_touches (GnTouches.refl c2).latch)) (h2.trans (.of_touches ?_)))
  exact Touches.gn (c2.clearResults_gn_touches.put.put)

theorem Chip.captureOverflow_moves : GnMoves c c.captureOverflow := by
  unfold Chip.captureOverflow
  exact .ite (.refl c) (c.clearFifo_moves.trans (.of_touches ((GnTouches.refl _).latch.trans (Chip.acqDone_touches _ _))))

/-! ## The samples of a band -/

theorem Chip.setAcq_moves (f : AcqSt → AcqSt) : GnMoves c (c.setAcq f) := .of_touches (GnTouches.refl c).gn

theorem Chip.takeSample_moves (x : Int × Int) : GnMoves c (c.takeSample x) := by
  unfold Chip.takeSample
  extract_lets a base c1
  refine .ite (.refl c) ?_
  split
  · exact c.setAcq_moves _
  · extract_lets c1
    have h1 : GnMoves c c1 := ⟨(Touches.refl _ _ c).pas, .inl ⟨[_], fun q hq => by rw [List.mem_singleton.mp hq]; rfl, rfl⟩⟩
    exact h1.trans (c1.setAcq_moves _)

theorem Chip.captureBand_moves (src u : Nat) (y : Int × Int) : GnMoves c (c.captureBand src u y) := by
  unfold Chip.captureBand
  refine .ite (.refl c) ?_
  extract_lets c1 a t
  have h1 : GnMoves c c1 := c.setAcq_moves _
  exact .ite ((h1.trans (c1.setAcq_moves _)).trans (Chip.takeSample_moves _ _)) h1

theorem Chip.bandOut_touches (l1 : Bool) (x : Int × Int) : GnTouches c (c.bandOut l1 x).2 := by
  unfold Chip.bandOut
  refine List.foldlRecOn (motive := fun acc : (Rat × Rat) × Chip => GnTouches c acc.2) _ _ (GnTouches.refl c) fun acc h i hi => ?_
  have hi8 : i < 8 := by
    unfold bandNotches at hi
    split at hi <;> simp at hi <;> omega
  exact h.trans (acc.2.notchSample_touches hi8 _)

theorem Chip.bandSample_moves (l1 : Bool) (u : Nat) (x : Int × Int) : GnMoves c (Chip.bandSample l1 c u x) := by
  unfold Chip.bandSample
  refine GnMoves.trans (.foldl (.of_touches (c.bandOut_touches l1 x)) fun n _ e => .of_touches (e.bandChan_touches _ _ _ _))
    (Chip.captureBand_moves _ _ _ _)

theorem Chip.setBandAt_touches (l1 : Bool) (t : Nat) : GnTouches c (c.setBandAt l1 t) := (GnTouches.refl c).gn

theorem Chip.bandTo_moves (l1 : Bool) (xs : List (Int × Int)) (t : Nat) : GnMoves c (c.bandTo l1 xs t) := by
  unfold Chip.bandTo
  extract_lets s a c1 c2
  have h1 : GnMoves c c1 := .of_touches (c.advanceTo_gn_touches t)
  have h2 : GnMoves c c2 := .ite (h1.foldl fun j _ e => e.bandSample_moves _ _ _) h1
  exact h2.trans (.of_touches (c2.setBandAt_touches _ _))

theorem Chip.notchAdapt_moves (i : Nat) (xs : List (Int × Int)) : GnMoves c (c.notchAdapt i xs) := by
  unfold Chip.notchAdapt
  exact .ite (.refl c) (c.bandTo_moves _ _ _)

theorem Chip.toDump_moves (n : Nat) (xs : List (Int × Int)) : GnMoves c (c.toDump n xs) := by
  unfold Chip.toDump
  split
  · exact .refl c
  · exact .ite (.refl c) ((c.bandTo_moves _ _ _).trans (.of_touches (Chip.chanMove_touches _ _ _ _)))

theorem Chip.dump_moves (n : Nat) (xs : List (Int × Int)) : GnMoves c (c.dump n xs) := by
  unfold Chip.dump
  refine .ite (.refl c) ?_
  extract_lets c1
  have h1 : GnMoves c c1 := .ite (c.toDump_moves n xs) (.refl c)
  split
  · exact .refl c
  · exact h1.trans (.of_touches (c1.takeDump_touches _ _ _ _))

theorem Chip.captureEnd_moves (xs : List (Int × Int)) : GnMoves c (c.captureEnd xs) := by
  unfold Chip.captureEnd
  refine .ite (.refl c) ?_
  extract_lets l1
  exact (GnMoves.ite (.refl c) (c.bandTo_moves _ _ _)).trans (.of_touches (Chip.captureDone_touches _))

end Sys2Proof.Machine

namespace Sys2Proof

open Sys2Proof.Machine

/-! ## The rows -/

section

variable (s : State)

theorem exec_notchAdapt (i : BitVec 3) (xs : List (Int × Int)) : exec (.notchAdapt i xs) s = s.act fun c => c.notchAdapt i.toNat xs := rfl
theorem exec_notchDisengage (i : BitVec 3) : exec (.notchDisengage i) s = s.act fun c => c.notchExpire i.toNat := rfl
theorem exec_notchFreqWrite (r : Req) (i : BitVec 3) (v : Word) : exec (.notchFreqWrite r i v) s =
    s.act fun c => c.guarded r (R.GN_NOTCH_FREQ i.toNat) fun c => c.writeNotchFreq i.toNat v := rfl
theorem exec_acqGo (r : Req) (v : Word) : exec (.acqGo r v) s = s.act fun c => c.guarded r R.GN_ACQ_CTRL fun c => c.writeAcqCtrl v := rfl
theorem exec_acqAbort (r : Req) (v : Word) : exec (.acqAbort r v) s =
    s.act fun c => c.guarded r R.GN_ACQ_CTRL fun c => c.writeAcqCtrl v := rfl
theorem exec_captureStart : exec .captureStart s = s.act fun c => c.captureStart := rfl
theorem exec_captureOverflow : exec .captureOverflow s = s.act fun c => c.captureOverflow := rfl
theorem exec_captureEnd (xs : List (Int × Int)) : exec (.captureEnd xs) s = s.act fun c => c.captureEnd xs := rfl
theorem exec_searchEnd (sig : BitVec 4) : exec (.searchEnd sig) s = s.act fun c => c.searchEnd sig.toNat := rfl
theorem exec_channelStartRequest (r : Req) (n : Fin 96) (v : Word) : exec (.channelStartRequest r n v) s =
    s.act fun c => c.guarded r (R.GN_CH_CTRL n.val) fun c => c.writeChCtrl n.val v := rfl
theorem exec_channelStopRequest (r : Req) (n : Fin 96) (v : Word) : exec (.channelStopRequest r n v) s =
    s.act fun c => c.guarded r (R.GN_CH_CTRL n.val) fun c => c.writeChCtrl n.val v := rfl
theorem exec_channelStart (n : Fin 96) : exec (.channelStart n) s = s.act fun c => c.chanStart n.val := rfl
theorem exec_channelStop (n : Fin 96) : exec (.channelStop n) s = s.act fun c => c.chanStop n.val := rfl
theorem exec_dump (n : Fin 96) (xs : List (Int × Int)) : exec (.dump n xs) s = s.act fun c => c.dump n.val xs := rfl
theorem exec_integrationEnd (n : Fin 96) : exec (.integrationEnd n) s = s.act fun c => c.integrationEnd n.val := rfl
theorem exec_pullTimeout (n : Fin 96) : exec (.pullTimeout n) s = s.act fun c => c.pullTimeout n.val := rfl
theorem exec_coastTimeout (n : Fin 96) : exec (.coastTimeout n) s = s.act fun c => c.coastTimeout n.val := rfl
theorem exec_channelConfigWrite (r : Req) (n : Fin 96) (k : ChCfgReg) (v : Word) : exec (.channelConfigWrite r n k v) s =
    s.act fun c => c.guarded r (chCfgAddr k n.val) fun c => c.writeChCfg n.val (chCfgAddr k n.val) v := rfl
theorem exec_epoch : exec .epoch s = s.act fun c => c.epoch := rfl
theorem exec_epochRateApply : exec .epochRateApply s = s.act fun c => c.epochRate := rfl

end

/-- Each of these rows is one action that moves the baseband, and of the pasture the words of its capture. -/
theorem gnRow_moves {i : Instr} (h : gnRow i = true) : ∃ f : Chip → Chip, (∀ s, exec i s = s.act f) ∧ ∀ c, GnMoves c (f c) := by
  have hacq : ∀ (r : Req) (v : Word) (c : Chip), GnMoves c (c.guarded r R.GN_ACQ_CTRL fun c => c.writeAcqCtrl v) := fun _ v c =>
    (c.writeAcqCtrl_moves v).guarded
  have hctrl : ∀ (r : Req) (n : Fin 96) (v : Word) (c : Chip),
      GnMoves c (c.guarded r (R.GN_CH_CTRL n.val) fun c => c.writeChCtrl n.val v) := fun _ n v c => by
    refine (GnMoves.of_touches (c.writeChCtrl_touches n v)).guarded ?_
    have hall : ∀ n : Fin 96, within (R.GN_CH_CTRL n.val) 0x20000000 0x2010FFFF = false := by decide +kernel
    exact hall n
  have hfreq : ∀ (r : Req) (i : BitVec 3) (v : Word) (c : Chip),
      GnMoves c (c.guarded r (R.GN_NOTCH_FREQ i.toNat) fun c => c.writeNotchFreq i.toNat v) := fun _ i v c => by
    refine (GnMoves.of_touches (c.writeNotchFreq_touches i.isLt v)).guarded ?_
    have hall : ∀ n : Fin 8, within (R.GN_NOTCH_FREQ n.val) 0x20000000 0x2010FFFF = false := by decide +kernel
    exact hall ⟨i.toNat, i.isLt⟩
  unfold gnRow at h
  split at h
  next i xs => exact ⟨_, fun s => exec_notchAdapt s i xs, fun c => c.notchAdapt_moves _ xs⟩
  next i => exact ⟨_, fun s => exec_notchDisengage s i, fun c => .of_touches (c.notchExpire_touches i.isLt)⟩
  next r i v => exact ⟨_, fun s => exec_notchFreqWrite s r i v, hfreq r i v⟩
  next r v => exact ⟨_, fun s => exec_acqGo s r v, hacq r v⟩
  next r v => exact ⟨_, fun s => exec_acqAbort s r v, hacq r v⟩
  next => exact ⟨_, exec_captureStart, fun c => .of_touches c.captureStart_touches⟩
  next => exact ⟨_, exec_captureOverflow, Chip.captureOverflow_moves⟩
  next xs => exact ⟨_, fun s => exec_captureEnd s xs, fun c => c.captureEnd_moves xs⟩
  next sig => exact ⟨_, fun s => exec_searchEnd s sig, fun c => .of_touches (c.searchEnd_touches _)⟩
  next r n v => exact ⟨_, fun s => exec_channelStartRequest s r n v, hctrl r n v⟩
  next n => exact ⟨_, fun s => exec_channelStart s n, fun c => .of_touches (c.chanStart_touches n)⟩
  next r n v => exact ⟨_, fun s => exec_channelStopRequest s r n v, hctrl r n v⟩
  next n => exact ⟨_, fun s => exec_channelStop s n, fun c => .of_touches (c.chanStop_touches n)⟩
  next n xs => exact ⟨_, fun s => exec_dump s n xs, fun c => c.dump_moves n.val xs⟩
  next n => exact ⟨_, fun s => exec_integrationEnd s n, fun c => .of_touches (c.integrationEnd_touches n)⟩
  next n => exact ⟨_, fun s => exec_pullTimeout s n, fun c => .of_touches (c.pullTimeout_touches n)⟩
  next n => exact ⟨_, fun s => exec_coastTimeout s n, fun c => .of_touches (c.coastTimeout_touches n)⟩
  next r n k v => exact ⟨_, fun s => exec_channelConfigWrite s r n k v, fun c =>
    (GnMoves.of_touches (c.writeChCfg_touches n k v)).guarded (chCfg_own k n).2⟩
  next => exact ⟨_, exec_epoch, fun c => .of_touches c.epoch_touches⟩
  next => exact ⟨_, exec_epochRateApply, fun c => .of_touches c.epochRate_touches⟩
  next => cases h

/-- At the end of a command that leaves the PA as it may be, a register that routing does not set keeps its value, unless it counts
airtime. -/
theorem settle_rd_paSafe {c : Chip} (hp : paSafe c = true) {a : Nat} (hf : flushReg a = false) (ha : a ≠ R.GUARD_AIR_CNT) :
    c.settle.rd a = c.rd a := by
  have hheld : c.paHeld = c.flush.countAir := Chip.holdPa_id _ (by rw [Chip.countAir_paSafe, Chip.flush_paSafe, hp])
  rw [c.settle_eq, hheld, Chip.rd_congr ((Chip.endHeldPulse_regs _ _).trans (Chip.endHeldPulse_regs _ _)), Chip.countAir_rd _ ha,
    c.flush_rd hf]

/-- A step that neither permits the PA nor is the transmitter leaves it as it may be. -/
theorem paSafe_of_touches {c d : Chip} {ps : List Part} {own : Nat → Bool} (h : Touches ps own c d) (hrf : Part.rf ∉ ps)
    (hpermit : ∀ a ∈ permitRegs, own a = false) (hp : paSafe c = true) : paSafe d = true := by
  rw [paSafe_congr (fun a ha => h.rd a (hpermit a ha) (by rintro rfl; revert ha; decide)) (congrArg RfSt.keyed (h.rf hrf))
    (congrArg RfSt.cal (h.rf hrf)), hp]

/-- The end of a command leaves the window's requests. -/
theorem asksOnly_settle {kind : Nat × WinReq → Bool} {c d : Chip} (h : AsksOnly kind c d) :
    asksWindow kind c d.settle ∨ asksAnew kind c d.settle :=
  h.imp (fun ⟨m, hm, hd⟩ => ⟨m, hm, d.settle_pas.trans hd⟩) fun ⟨m, hm, hd⟩ => ⟨m, hm, d.settle_pas.trans hd⟩

/-- Settles O46: a row of the baseband moves its own registers and parts and the words of its capture, and the end of the command
the registers of routing and the slot units counted of a keyed burst. -/
theorem gnRowsFrame : Obligations.GnRowsFrame := by
  intro i s t hrow hs hnext
  obtain ⟨f, hf, hmoves⟩ := gnRow_moves hrow
  obtain rfl : { s with chip := (f s.chip).settle } = t := Host.Outcome.next.inj ((hf s).symm.trans hnext)
  have h := hmoves s.chip
  have hp : paSafe (f s.chip) = true := paSafe_of_touches h.touches (by decide) (by decide) (safe_parts hs).1
  refine ⟨rfl, sameStores_of h.touches (by decide), ?_, ?_, asksOnly_settle h.asks, sameRegs_of h.touches fun a ha _ => ha, ?_⟩
  · rw [Chip.settle_lnk]
    exact h.touches.same .lnk (by decide)
  · exact ((f s.chip).settle_counts hp).trans (by rw [h.touches.rf (by decide)])
  · exact (settle_rd_paSafe hp (by decide) (by decide)).trans (h.touches.rd _ (by decide) (by decide))

end Sys2Proof
end

section
/-! PROOFS. What the rows of the flenan link touch (R347 to R382). -/

-- One theorem at a time: many at once, each with a thread of its own, do not fit in memory.
set_option Elab.async false

namespace Sys2Proof.Machine

open Sys2Proof (linkRegs)

variable (c : Chip)

/-! ## A sample of the discipline -/

/-- A step of the discipline of CLK. -/
abbrev DiscTouches (c d : Chip) : Prop := Touches [] linkRegs c d

theorem DiscTouches.setTime {d : Chip} (h : DiscTouches c d) (t : TimeSt) (ht : t.stc = d.time.stc ∧ t.frac = d.time.frac) :
    DiscTouches c { d with time := t } := by
  refine h.trans ⟨fun p _ => ?_, fun _ => rfl, fun _ _ _ => rfl⟩
  cases p
  case time => simp only [Part.same, Chip.now, ht]
  all_goals rfl

theorem Chip.setTarget_touches (t : Int) : DiscTouches c (c.setTarget t) := by
  unfold Chip.setTarget
  extract_lets v c1
  have h1 : DiscTouches c c1 := (Touches.refl _ _ c).wr.putB
  exact Touches.ite h1.put.levelOff h1.put.levelOn

theorem Chip.enterDisc_touches (st : Nat) : DiscTouches c (c.enterDisc st) := by
  unfold Chip.enterDisc
  exact Touches.ite (Touches.refl _ _ c) (DiscTouches.setTime c (Touches.refl _ _ c).put.raise _ ⟨rfl, rfl⟩)

theorem Chip.setDisc_touches (st : Nat) : DiscTouches c (c.setDisc st) := by
  have h1 := c.enterDisc_touches st
  rw [c.setDisc_eq]
  exact Touches.ite (h1.wr.trans (Chip.setTarget_touches _ _)) (Touches.ite (h1.trans (Chip.setTarget_touches _ _))
    (Touches.ite (h1.trans (Chip.setTarget_touches _ _)) h1))

theorem Chip.freshLock_touches : DiscTouches c c.freshLock := DiscTouches.setTime c (Touches.refl _ _ c) _ ⟨rfl, rfl⟩

theorem Chip.judgeDisc_touches : DiscTouches c c.judgeDisc := by
  rw [c.judgeDisc_eq]
  exact Touches.ite (Touches.refl _ _ c) (Touches.ite (c.setDisc_touches _)
    (Touches.ite ((c.setDisc_touches _).trans (Chip.freshLock_touches _)) (Touches.refl _ _ c)))

theorem Chip.invalidate_touches : DiscTouches c (c.invalidate 1) := by
  unfold Chip.invalidate
  extract_lets t t1
  have h1 : DiscTouches c { c with time := t1 } := DiscTouches.setTime c (Touches.refl _ _ c) _ ⟨rfl, rfl⟩
  exact (h1.put (f := validFld 1)).trans (Chip.judgeDisc_touches _)

theorem Chip.countSample_touches : DiscTouches c (c.countSample 1) := by
  unfold Chip.countSample
  refine Touches.ite (Touches.refl _ _ c) ?_
  extract_lets n t t1 t2 c1
  have ht2 : t2.stc = c.time.stc ∧ t2.frac = c.time.frac := by
    unfold t2
    split <;> exact ⟨rfl, rfl⟩
  have h1 : DiscTouches c c1 := DiscTouches.setTime c (Touches.refl _ _ c) _ ht2
  exact Touches.ite (h1.put (f := validFld 1)) h1

theorem Chip.judgeLock_touches (e : Int) : DiscTouches c (c.judgeLock e) := by
  have h1 : DiscTouches c (c.countLock e) := DiscTouches.setTime c (Touches.refl _ _ c) _ ⟨rfl, rfl⟩
  rw [c.judgeLock_eq]
  exact Touches.ite (h1.trans (Chip.setDisc_touches _ _))
    (Touches.ite ((h1.trans (Chip.setDisc_touches _ _)).trans (Chip.freshLock_touches _)) h1)

theorem Chip.sample_touches (e : Int) : DiscTouches c (c.sample 1 e) := by
  unfold Chip.sample
  refine Touches.ite (Touches.refl _ _ c) ?_
  extract_lets c1
  have h1 : DiscTouches c c1 := c.countSample_touches
  exact Touches.ite (((h1.wr.put.wr).trans (Chip.setTarget_touches _ _)).trans (Chip.judgeLock_touches _ e)) h1

/-! ## The registers and the parts of the link -/

/-- The registers of the link and the channel that it asks the receiver for. -/
def lnkOwn (a : Nat) : Bool := within a 0x400B0000 0x400B0FFF || a == R.RF_LNK_RX

/-- A step of the link controller alone. -/
abbrev LnkTouches (c d : Chip) : Prop := Touches [.time, .lnk] lnkOwn c d

theorem LnkTouches.refl : LnkTouches c c := Touches.refl _ _ c

theorem Touches.setLnk {ps : List Part} {own : Nat → Bool} {c d : Chip} (h : Touches ps own c d) (f : LnkSt → LnkSt)
    (hp : .lnk ∈ ps := by decide) : Touches ps own c (d.setLnk f) := h.lnk hp

theorem Touches.draw {ps : List Part} {own : Nat → Bool} {c d : Chip} (h : Touches ps own c d) : Touches ps own c d.draw.2 :=
  h.aside _ _ _

theorem Chip.setLnk_touches (f : LnkSt → LnkSt) : LnkTouches c (c.setLnk f) := (LnkTouches.refl c).setLnk f

theorem Chip.advanceTo_lnk_touches (n : Nat) : LnkTouches c (c.advanceTo n) := (LnkTouches.refl c).advanceTo

theorem strayLog_own {i : Nat} (hi : i < 16) : lnkOwn (R.LNK_STRAY_LOG_W0 i) = true ∧ lnkOwn (R.LNK_STRAY_LOG_W1 i) = true ∧
    lnkOwn (R.LNK_STRAY_LOG_W2 i) = true := by
  have h : ∀ n : Fin 16, lnkOwn (R.LNK_STRAY_LOG_W0 n.val) = true ∧ lnkOwn (R.LNK_STRAY_LOG_W1 n.val) = true ∧
    lnkOwn (R.LNK_STRAY_LOG_W2 n.val) = true := by decide +kernel
  exact h ⟨i, hi⟩

/-! ### States -/

theorem Chip.lkEnter_touches (st : Nat) : LnkTouches c (c.lkEnter st) := by
  unfold Chip.lkEnter
  extract_lets c1 cw
  have h1 : LnkTouches c c1 := (LnkTouches.refl c).put.setLnk _
  exact Touches.ite (h1.draw.setLnk _) h1

theorem Chip.lkJoin_touches : LnkTouches c c.lkJoin := by
  unfold Chip.lkJoin
  exact Touches.ite (c.lkEnter_touches _) (Touches.ite (c.lkEnter_touches _) (LnkTouches.refl c))

theorem Chip.dropMembers_touches : LnkTouches c c.dropMembers := (LnkTouches.refl c).wr.put.setLnk _

/-! ### Beacons -/

theorem Chip.fitted_touches (w : Nat) (v : Int) : LnkTouches c (c.fitted w v).2 := by
  unfold Chip.fitted
  split
  · exact .refl c
  · exact (LnkTouches.refl c).draw

theorem Chip.ttFail_touches (j : Nat) : LnkTouches c (c.ttFail j) := by
  unfold Chip.ttFail
  exact Touches.foldl (c.setLnk_touches _) fun e _ d => (LnkTouches.refl d).raise

theorem Chip.beaconState_touches (w0 w1 : List Byte) : LnkTouches c (c.beaconState w0 w1) := by
  unfold Chip.beaconState
  extract_lets st me c1
  have h1 : LnkTouches c c1 := c.lkJoin_touches
  refine Touches.ite ((c.lkEnter_touches _).trans (Chip.lkJoin_touches _)) (Touches.ite h1 (Touches.ite (Touches.ite h1 ?_) (Touches.ite
    (Touches.ite (LnkTouches.refl c) ((LnkTouches.refl c).put.trans (Chip.lkEnter_touches _ _)))
    (Touches.ite (Touches.ite (c.lkEnter_touches _) (LnkTouches.refl c)) (LnkTouches.refl c)))))
  split <;> exact h1.setLnk _

theorem Chip.beaconNews_touches (j : Nat) (w0 : List Byte) : LnkTouches c (c.beaconNews j w0) := by
  unfold Chip.beaconNews
  extract_lets hop h ch c1 pr c2 sf c3
  have h1 : LnkTouches c c1 := Touches.ite ((LnkTouches.refl c).put.setLnk _) (LnkTouches.refl c)
  have h3 : LnkTouches c c3 := h1.putB.put.wr.wr
  exact h3.wr.setLnk _

/-! ### Other receptions -/

theorem Chip.uplink_touches (b : BurstRx) : LnkTouches c (c.uplink b) := by
  unfold Chip.uplink
  extract_lets k
  split
  · exact .refl c
  · split
    · exact .refl c
    next bw before c1 c2 j _ _ _ _ _ =>
      have h1 : LnkTouches c c1 := c.setLnk_touches _
      have h2 : LnkTouches c c2 := Touches.ite h1.raise h1
      exact Touches.ite h2 ((h2.trans (Chip.fitted_touches _ _ _)).setLnk _)

theorem Chip.joinRequest_touches (b : BurstRx) : LnkTouches c (c.joinRequest b) := by
  unfold Chip.joinRequest
  refine Touches.ite (LnkTouches.refl c) ?_
  extract_lets addr
  split
  · exact LnkTouches.refl c
  · exact c.setLnk_touches _

theorem Chip.joinBackoff_touches : LnkTouches c c.joinBackoff := by
  unfold Chip.joinBackoff
  exact Touches.ite (LnkTouches.refl c) ((LnkTouches.refl c).draw.setLnk _)

theorem Chip.memberDrop_touches (k : Nat) : LnkTouches c (c.memberDrop k) := by
  unfold Chip.memberDrop
  exact Touches.ite (LnkTouches.refl c) ((LnkTouches.refl c).wr.setLnk _).raise

theorem Chip.beaconLoss_touches : LnkTouches c c.beaconLoss := by
  unfold Chip.beaconLoss
  exact Touches.ite (LnkTouches.refl c) ((LnkTouches.refl c).levelOn.trans (Chip.lkEnter_touches _ _))

theorem Chip.holdExpiry_touches : LnkTouches c c.holdExpiry := by
  unfold Chip.holdExpiry
  exact Touches.ite (LnkTouches.refl c) ((LnkTouches.refl c).put.trans (Chip.lkEnter_touches _ _))

theorem Chip.writeHop_touches (v : Word) : LnkTouches c (c.writeHop v) := by
  unfold Chip.writeHop
  extract_lets c1 ch h
  have h1 : LnkTouches c c1 := (LnkTouches.refl c).put.put
  exact Touches.ite h1 (h1.put.put.setLnk _)

/-! ### Strays -/

theorem Chip.closeStray_touches : LnkTouches c c.closeStray := by
  unfold Chip.closeStray
  split
  · exact .refl c
  · obtain ⟨h0, h1, h2⟩ := strayLog_own (c.get_lt F.LNK_STRAY_CNT_next)
    exact (((((LnkTouches.refl c).wr h0).wr h1).wr h2).put.bump.setLnk _).raise

theorem Chip.growStray_touches (unit v : Nat) (own : Option Nat) : LnkTouches c (c.growStray unit v own) := by
  unfold Chip.growStray
  exact c.setLnk_touches _

theorem Chip.strayUnit_touches (m : StrayMeas) : LnkTouches c (c.strayUnit m) := by
  unfold Chip.strayUnit
  refine Touches.ite (LnkTouches.refl c) ?_
  extract_lets c1 u head c2 loud own c3
  have h1 : LnkTouches c c1 := c.advanceTo_lnk_touches _
  have h2 : LnkTouches c c2 := Touches.ite (h1.setLnk _) h1
  have h3 : LnkTouches c c3 := Touches.ite (h2.setLnk _) h2
  exact Touches.ite h2 (Touches.ite ((h3.setLnk _).trans (Chip.growStray_touches _ _ _ _)) (h3.trans c3.closeStray_touches))

end Sys2Proof.Machine
end

section
/-! PROOFS. The frame of the rows of the flenan link (R347 to R382). -/

-- One theorem at a time: many at once, each with a thread of its own, do not fit in memory.
set_option Elab.async false

namespace Sys2Proof.Machine

open Sys2Proof (linkRegs asksWindow asksAnew)

variable (c : Chip)

/-! ## Rows that touch the discipline or the transmitter's queue -/

/-- A step of the link that leaves the root's lock, the transmission in hand and whether the PA is keyed. -/
structure LnkMoves (ps : List Part) (c d : Chip) : Prop where
  touches : Touches ps linkRegs c d
  locked : d.bit F.CLK_STAT_locked = c.bit F.CLK_STAT_locked
  cur : d.rf.cur = c.rf.cur
  keyed : d.rf.keyed = c.rf.keyed
  cal : d.rf.cal = c.rf.cal

/-- The parts that rows of the link move which ask nothing of the window. -/
abbrev lnkParts : List Part := [.time, .lnk, .rf]

namespace LnkMoves

variable {c}
variable {d e : Chip} {ps qs : List Part}

theorem refl (ps : List Part) (c : Chip) : LnkMoves ps c c := ⟨Touches.refl _ _ c, rfl, rfl, rfl, rfl⟩

theorem trans (h : LnkMoves ps c d) (k : LnkMoves ps d e) : LnkMoves ps c e :=
  ⟨h.touches.trans k.touches, k.locked.trans h.locked, k.cur.trans h.cur, k.keyed.trans h.keyed, k.cal.trans h.cal⟩

theorem mono (h : LnkMoves ps c d) (hp : ps ⊆ qs := by decide) : LnkMoves qs c d :=
  ⟨h.touches.mono hp fun _ ha => ha, h.locked, h.cur, h.keyed, h.cal⟩

theorem of_touches (h : LnkTouches c d) : LnkMoves lnkParts c d := by
  have hrf : d.rf = c.rf := h.rf (by decide)
  have hlocked : d.get F.CLK_STAT_locked = c.get F.CLK_STAT_locked := Touches.get h (by decide) (by decide)
  refine ⟨h.mono (by decide) fun a ha => ?_, by simp only [Chip.bit, hlocked], by rw [hrf], by rw [hrf], by rw [hrf]⟩
  simp only [lnkOwn, Bool.or_eq_true] at ha
  obtain ha | ha := ha <;> simp [linkRegs, ha]

theorem ite {p : Prop} [Decidable p] {x y : Chip} (hx : LnkMoves ps c x) (hy : LnkMoves ps c y) : LnkMoves ps c (if p then x else y) := by
  split
  · exact hx
  · exact hy

/-- A change of the RF front end's queue and tuning. -/
theorem setRf (h : LnkMoves lnkParts c d) {f : RfSt → RfSt} (hf : (f d.rf).cur = d.rf.cur ∧ (f d.rf).keyed = d.rf.keyed ∧ (f d.rf).cal = d.rf.cal) :
    LnkMoves lnkParts c (d.setRf f) :=
  h.trans ⟨(Touches.refl _ _ d).setRf, rfl, hf.1, hf.2.1, hf.2.2⟩

theorem setLnk (h : LnkMoves lnkParts c d) (f : LnkSt → LnkSt) : LnkMoves lnkParts c (d.setLnk f) := h.trans (of_touches (d.setLnk_touches f))

/-- A register write that is refused is reported, and touches nothing else. -/
theorem guarded {r : Req} {a : Nat} {f : Chip → Chip} (h : LnkMoves lnkParts c (f c))
    (ha : within a 0x20000000 0x2010FFFF = false := by decide) : LnkMoves lnkParts c (c.guarded r a f) := by
  unfold Chip.guarded
  split
  · exact h
  · have hs : c.storeRefused true a = none := by simp [Chip.storeRefused, ha]
    simp only [Chip.refused, hs]
    exact .of_touches (LnkTouches.refl c).raise
  · exact .refl _ c

end LnkMoves

theorem LnkMoves.of_disc {c d : Chip} (h : DiscTouches c d) (hl : d.bit F.CLK_STAT_locked = c.bit F.CLK_STAT_locked) :
    LnkMoves lnkParts c d := by
  have hrf : d.rf = c.rf := h.rf (by decide)
  exact ⟨h.mono (by decide) fun _ ha => ha, hl, by rw [hrf], by rw [hrf], by rw [hrf]⟩

theorem Chip.sample_lnk_moves (e : Int) : LnkMoves lnkParts c (c.sample 1 e) :=
  .of_disc (c.sample_touches e) ((c.sample_moves 1 e).bit (by decide))

theorem Chip.invalidate_lnk_moves : LnkMoves lnkParts c (c.invalidate 1) :=
  .of_disc c.invalidate_touches ((c.invalidate_moves 1).bit (by decide))

/-! ### Beacons -/

theorem Chip.timeTransfer_moves (j1 : Nat) (w1 : List Byte) : LnkMoves lnkParts c (c.timeTransfer j1 w1) := by
  unfold Chip.timeTransfer
  dsimp only
  split
  · exact (LnkMoves.of_touches ((((c.fitted_touches _ _).setLnk _).trans (Chip.fitted_touches _ _ _)).wr.wr)).trans
      (Chip.sample_lnk_moves _ _)
  · exact .ite (.of_touches (c.ttFail_touches _)) (.refl _ c)

/-- The offset that a beacon gives is shown (R366). -/
def Chip.beaconShown (b : BurstRx) : Chip :=
  ((c.wr R.LNK_BW_OFS_LO (BitVec.ofNat 32 (wrap (beaconD2 b) 64))).wr R.LNK_BW_OFS_HI (BitVec.ofNat 32 (wrap (beaconD2 b) 64 / 2 ^ 32))).putB
    F.LNK_STAT_aligned (decide ((beaconD2 b).natAbs ≤ 64000))

/-- Time is transferred by a beacon, and the node has heard it (R370, R372). -/
def Chip.beaconHeard (b : BurstRx) (w1 : List Byte) : Chip :=
  ((c.beaconShown b).timeTransfer (leField b.hdr.info 6 6) w1).setLnk fun l =>
    { l with d2 := some (leField b.hdr.info 6 6, beaconD2 b), heard := true, missed := 0, scanCnt := 0, bwm := [] }

theorem Chip.beacon_eq {b : BurstRx} {a w : RxWord} (h : b.words = [a, w]) : c.beacon b =
    if c.lkState = lkOff ∨ c.lkState = lkBell ∨ !c.ownBurst b 1 ∨ !rxDecodes a 223 ∨ !rxDecodes w 223 then c
    else (((c.beaconHeard b w.info).levelOff Ev.LNK_BEACON_LOST locNone).beaconNews (leField b.hdr.info 6 6) a.info).beaconState
      a.info w.info := by
  unfold Chip.beacon
  rw [h]
  rfl

theorem Chip.beaconHeard_moves (b : BurstRx) (w1 : List Byte) : LnkMoves lnkParts c (c.beaconHeard b w1) :=
  ((LnkMoves.of_touches (LnkTouches.refl c).wr.wr.putB).trans (Chip.timeTransfer_moves _ _ _)).setLnk _

theorem Chip.beacon_moves (b : BurstRx) : LnkMoves lnkParts c (c.beacon b) := by
  by_cases h : ∃ a w, b.words = [a, w]
  · obtain ⟨a, w, h⟩ := h
    rw [c.beacon_eq h]
    exact .ite (.refl _ c) ((c.beaconHeard_moves b w.info).trans
      (.of_touches (((LnkTouches.refl _).levelOff.trans (Chip.beaconNews_touches _ _ _)).trans (Chip.beaconState_touches _ _ _))))
  · unfold Chip.beacon
    dsimp only
    split
    next a w hw => exact absurd ⟨a, w, hw⟩ h
    · exact .refl _ c

/-! ### What is sent -/

theorem Chip.postTx_lnk_moves (t : Tx) : LnkMoves lnkParts c (c.postTx t) := (LnkMoves.refl _ c).setRf ⟨rfl, rfl, rfl⟩

theorem Chip.postBurst_moves (s len : Nat) (hdr : List Byte) (mod8 : Bool) (nb : Nat) (words : List (List Byte)) :
    LnkMoves lnkParts c (c.postBurst s len hdr mod8 nb words) := by
  unfold Chip.postBurst
  exact .ite (.of_touches (LnkTouches.refl c).latch) (.ite (.refl _ c) (c.postTx_lnk_moves _))

theorem Chip.beaconSend_moves : LnkMoves lnkParts c c.beaconSend := by
  have h1 : ∀ t, LnkMoves lnkParts c (c.advanceTo t) := fun t => .of_touches (c.advanceTo_lnk_touches t)
  unfold Chip.beaconSend
  refine .ite (.refl _ c) ?_
  split
  · exact .refl _ c
  · dsimp only
    split
    · exact (h1 _).trans (Chip.postBurst_moves _ _ _ _ _ _ _)
    · exact h1 _

theorem Chip.uplinkSend_moves : LnkMoves lnkParts c c.uplinkSend := by
  unfold Chip.uplinkSend
  refine .ite (.refl _ c) ?_
  split
  · exact .refl _ c
  · exact (LnkMoves.of_touches (c.advanceTo_lnk_touches _)).trans (Chip.postBurst_moves _ _ _ _ _ _ _)

theorem Chip.audioSend_moves : LnkMoves lnkParts c c.audioSend := by
  unfold Chip.audioSend
  refine .ite (.refl _ c) ?_
  split
  · extract_lets c1 ps words nb own
    have h1 : LnkMoves lnkParts c c1 := .of_touches (c.advanceTo_lnk_touches _)
    exact .ite (.refl _ c) (.ite h1 ((h1.trans (c1.postBurst_moves _ _ _ _ _ _)).setLnk _))
  · exact .refl _ c

theorem Chip.joinSend_moves (u v : Nat) (own : Bool) : LnkMoves lnkParts c (c.joinSend u v own) := by
  unfold Chip.joinSend
  refine .ite (.refl _ c) ?_
  split
  · exact .refl _ c
  · extract_lets s c1 hdr
    have h1 : LnkMoves lnkParts c c1 := .of_touches (c.advanceTo_lnk_touches _)
    exact .ite h1 (.ite (h1.setLnk _) (.ite h1 ((h1.trans (c1.postBurst_moves _ _ _ _ _ _)).setLnk _)))

/-! ### Tuning -/

theorem Chip.askRx_lnk_moves (ch : Nat) : LnkMoves lnkParts c (c.askRx ch) := by
  unfold Chip.askRx
  exact .ite (.refl _ c) ((LnkMoves.of_touches (LnkTouches.refl c).put).setRf ⟨rfl, rfl, rfl⟩)

theorem Chip.scanStep_moves : LnkMoves lnkParts c c.scanStep := by
  unfold Chip.scanStep
  exact .ite (.refl _ c) (((LnkMoves.of_touches (LnkTouches.refl c).put).trans (Chip.askRx_lnk_moves _ _)).setLnk _)

theorem Chip.hop_moves : LnkMoves lnkParts c c.hop := by
  unfold Chip.hop
  split
  · exact .refl _ c
  · extract_lets c1 c2
    have h2 : LnkMoves lnkParts c c2 := (LnkMoves.of_touches (c.advanceTo_lnk_touches _).put.put).setRf ⟨rfl, rfl, rfl⟩
    exact h2.trans (.of_touches (((LnkTouches.refl c2).put.put.setLnk _).raise))

/-! ### LNK_CTRL -/

theorem Chip.lnkApply_moves : LnkMoves lnkParts c c.lnkApply := by
  unfold Chip.lnkApply
  split
  · exact .refl _ c
  · extract_lets c1 old c2 en role roleNew enNew c2' c3 c4 c5 c6
    have h2 : LnkMoves lnkParts c c2 := .of_touches ((c.advanceTo_lnk_touches _).setLnk _)
    have h2' : LnkMoves lnkParts c c2' := .ite ((LnkMoves.ite (h2.setLnk _) h2).trans (Chip.invalidate_lnk_moves _)) h2
    have h3 : LnkMoves lnkParts c c3 := .ite (h2'.trans (.of_touches (LnkTouches.refl c2').levelOff)) h2'
    have h4 : LnkMoves lnkParts c c4 := .ite (h3.trans (.of_touches c3.dropMembers_touches)) h3
    have h5 : LnkMoves lnkParts c c5 :=
      .ite (h4.trans (.of_touches (c4.lkEnter_touches _))) (.ite (h4.trans (.of_touches (c4.lkEnter_touches _))) h4)
    have h6 : LnkMoves lnkParts c c6 := .ite (h5.trans (.of_touches (LnkTouches.refl c5).put)) h5
    exact h6.trans (.of_touches c6.lkJoin_touches)

/-! ## Rows that ask the window -/

/-- A step of the link, words of which may wait for the window. -/
structure LnkAsks (c d : Chip) : Prop where
  moves : LnkMoves [.time, .lnk, .rf, .pas] c d
  asks : asksWindow isLinkWord c d ∨ asksAnew isLinkRead c d

theorem LnkAsks.of_moves {c d : Chip} (h : LnkMoves lnkParts c d) : LnkAsks c d :=
  ⟨h.mono, .inl ⟨[], fun _ hq => (nomatch hq), by rw [h.touches.same .pas (by decide), List.append_nil]⟩⟩

theorem LnkMoves.setLnkPas {c d : Chip} (h : LnkMoves lnkParts c d) (x : LnkSt) (y : PasSt) :
    LnkMoves [.time, .lnk, .rf, .pas] c { d with lnk := x, pas := y } :=
  h.mono.trans ⟨((Touches.refl _ _ d).lnk (x := x)).pas (x := y), rfl, rfl, rfl, rfl⟩

theorem LnkMoves.setPas {c d : Chip} (h : LnkMoves lnkParts c d) (x : PasSt) : LnkMoves [.time, .lnk, .rf, .pas] c { d with pas := x } :=
  h.mono.trans ⟨(Touches.refl _ _ d).pas, rfl, rfl, rfl, rfl⟩

theorem Chip.audStart_asks {d : Chip} (h : LnkMoves lnkParts c d) : LnkAsks c d.audStart := by
  have hpas : d.pas = c.pas := h.touches.same .pas (by decide)
  unfold Chip.audStart
  split
  · dsimp only
    split
    · exact .of_moves h
    · refine ⟨h.setLnkPas _ _, .inr ⟨_, fun q hq => ?_, by rw [hpas]⟩⟩
      obtain ⟨s, _, rfl⟩ := List.mem_map.mp hq
      rfl
  · exact .of_moves h

theorem Chip.audioWrite_asks {d : Chip} (h : LnkMoves lnkParts c d) (ch j : Nat) (wide : Bool) (ps : List (Option (List Byte))) :
    LnkAsks c (d.audioWrite ch j wide ps) := by
  have hpas : d.pas = c.pas := h.touches.same .pas (by decide)
  unfold Chip.audioWrite
  split
  · exact .of_moves h
  · refine ⟨h.setPas _, .inl ⟨_, fun q hq => ?_, by rw [hpas]⟩⟩
    obtain ⟨s, _, hs⟩ := List.mem_filterMap.mp hq
    rw [Option.ite_none_right_eq_some, Option.some_inj] at hs
    rw [← hs.2]
    rfl

theorem Chip.addSat_touches (f : Fld) (n : Nat) (hf : lnkOwn f.addr = true) : LnkTouches c (c.addSat f n) := (LnkTouches.refl c).rcChange hf

/-- The packets that a burst's codewords give, and how many of them parity recovered (R361, R380). -/
def Chip.audioGot (b : BurstRx) : List (Option (List Byte)) × Nat :=
  if decide (nthByte b.hdr.info 9 / 32 % 4 = c.get F.FOLD_STAT_rate) && decide (leField b.hdr.info 6 2 = (c.sfn - 1) % 65536) then
    takeApart (nthByte b.hdr.info 9 % 16) (nthByte b.hdr.info 10 + 1) (nthByte b.hdr.info 10)
      (b.words.map fun w => if rxDecodes w 223 then some w.info else none)
  else (List.replicate (nthByte b.hdr.info 10) none, 0)

/-- The packets of a burst that are lost (R380). -/
def Chip.audioLost (b : BurstRx) : Nat := ((c.audioGot b).1.filter (·.isNone)).length

/-- Recovered and lost packets are counted, and lost ones reported (R380). -/
def Chip.audioCounted (b : BurstRx) : Chip :=
  let c1 := (c.addSat F.LNK_AUD_CNT_rec (c.audioGot b).2).addSat F.LNK_AUD_CNT_lost (c.audioLost b)
  if c.audioLost b = 0 then c1 else c1.raise Ev.LNK_PKT_LOST (locNode (hdrNode b)) (BitVec.ofNat 32 (c.audioLost b))

theorem Chip.audioBurst_eq (b : BurstRx) : c.audioBurst b =
    if !(decide (2 ≤ c.lkState ∧ c.lkState ≤ 5)) || !c.ownBurst b 2 then c
    else if (c.audioCounted b).time.stc < (c.audioCounted b).lnk.audFrom ∨ (c.audioCounted b).get F.FOLD_STAT_state = 3 ∨
        2 ≤ (c.audioCounted b).get F.BST_STAT_shut then c.audioCounted b
    else (c.audioCounted b).audioWrite (nthByte b.hdr.info 8 % 32 + 1) (c.sfn - 1) (bitAt (nthByte b.hdr.info 9) 4) (c.audioGot b).1 := rfl

theorem Chip.audioCounted_touches (b : BurstRx) : LnkTouches c (c.audioCounted b) := by
  have h1 : LnkTouches c ((c.addSat F.LNK_AUD_CNT_rec (c.audioGot b).2).addSat F.LNK_AUD_CNT_lost (c.audioLost b)) :=
    (c.addSat_touches _ _ (by decide)).trans (Chip.addSat_touches _ _ _ (by decide))
  exact Touches.ite h1 h1.raise

theorem Chip.audioBurst_asks (b : BurstRx) : LnkAsks c (c.audioBurst b) := by
  have h1 : LnkMoves lnkParts c (c.audioCounted b) := .of_touches (c.audioCounted_touches b)
  rw [c.audioBurst_eq]
  split
  · exact .of_moves (.refl _ c)
  · split
    · exact .of_moves h1
    · exact Chip.audioWrite_asks _ h1 _ _ _ _

end Sys2Proof.Machine

namespace Sys2Proof

open Sys2Proof.Machine

/-! ## The rows -/

section

variable (s : State)

theorem exec_linkControlApply : exec .linkControlApply s = s.act fun c => c.lnkApply.audStart := rfl
theorem exec_beacon (b : BurstRx) : exec (.beacon b) s = s.act fun c => c.beacon b := rfl
theorem exec_audioBurst (b : BurstRx) : exec (.audioBurst b) s = s.act fun c => c.audioBurst b := rfl
theorem exec_uplink (b : BurstRx) : exec (.uplink b) s = s.act fun c => c.uplink b := rfl
theorem exec_joinRequest (b : BurstRx) : exec (.joinRequest b) s = s.act fun c => c.joinRequest b := rfl
theorem exec_strayUnit (m : StrayMeas) : exec (.strayUnit m) s = s.act fun c => c.strayUnit m := rfl
theorem exec_beaconSend : exec .beaconSend s = s.act fun c => c.beaconSend := rfl
theorem exec_audioMulticastSend : exec .audioMulticastSend s = s.act fun c => c.audioSend := rfl
theorem exec_uplinkSend : exec .uplinkSend s = s.act fun c => c.uplinkSend := rfl
theorem exec_joinRequestSend (unit : BitVec 7) (heard : UnitHeard) : exec (.joinRequestSend unit heard) s =
    s.act fun c => c.joinSend unit.toNat heard.power.toNat heard.own := rfl
theorem exec_joinBackoff : exec .joinBackoff s = s.act fun c => c.joinBackoff := rfl
theorem exec_memberDrop (k : BitVec 5) : exec (.memberDrop k) s = s.act fun c => c.memberDrop k.toNat := rfl
theorem exec_beaconLoss : exec .beaconLoss s = s.act fun c => c.beaconLoss := rfl
theorem exec_channelScanStep : exec .channelScanStep s = s.act fun c => c.scanStep := rfl
theorem exec_holdExpiry : exec .holdExpiry s = s.act fun c => c.holdExpiry := rfl
theorem exec_hopRequest (r : Req) (v : Word) : exec (.hopRequest r v) s =
    s.act fun c => c.guarded r R.LNK_HOP fun c => c.writeHop v := rfl
theorem exec_hop : exec .hop s = s.act fun c => c.hop := rfl

end

/-- Each of these rows is one action that moves the link and what it posts, tunes or asks of the window. -/
theorem linkRow_asks {i : Instr} (h : linkRow i = true) : ∃ f : Chip → Chip, (∀ s, exec i s = s.act f) ∧ ∀ c, LnkAsks c (f c) := by
  unfold linkRow at h
  split at h
  next => exact ⟨_, exec_linkControlApply, fun c => Chip.audStart_asks c c.lnkApply_moves⟩
  next b => exact ⟨_, fun s => exec_beacon s b, fun c => .of_moves (c.beacon_moves b)⟩
  next b => exact ⟨_, fun s => exec_audioBurst s b, fun c => c.audioBurst_asks b⟩
  next b => exact ⟨_, fun s => exec_uplink s b, fun c => .of_moves (.of_touches (c.uplink_touches b))⟩
  next b => exact ⟨_, fun s => exec_joinRequest s b, fun c => .of_moves (.of_touches (c.joinRequest_touches b))⟩
  next m => exact ⟨_, fun s => exec_strayUnit s m, fun c => .of_moves (.of_touches (c.strayUnit_touches m))⟩
  next => exact ⟨_, exec_beaconSend, fun c => .of_moves c.beaconSend_moves⟩
  next => exact ⟨_, exec_audioMulticastSend, fun c => .of_moves c.audioSend_moves⟩
  next => exact ⟨_, exec_uplinkSend, fun c => .of_moves c.uplinkSend_moves⟩
  next unit heard => exact ⟨_, fun s => exec_joinRequestSend s unit heard, fun c => .of_moves (c.joinSend_moves _ _ _)⟩
  next => exact ⟨_, exec_joinBackoff, fun c => .of_moves (.of_touches c.joinBackoff_touches)⟩
  next k => exact ⟨_, fun s => exec_memberDrop s k, fun c => .of_moves (.of_touches (c.memberDrop_touches _))⟩
  next => exact ⟨_, exec_beaconLoss, fun c => .of_moves (.of_touches c.beaconLoss_touches)⟩
  next => exact ⟨_, exec_channelScanStep, fun c => .of_moves c.scanStep_moves⟩
  next => exact ⟨_, exec_holdExpiry, fun c => .of_moves (.of_touches c.holdExpiry_touches)⟩
  next r v => exact ⟨_, fun s => exec_hopRequest s r v, fun c => .of_moves (LnkMoves.of_touches (c.writeHop_touches v)).guarded⟩
  next => exact ⟨_, exec_hop, fun c => .of_moves c.hop_moves⟩
  next => cases h

/-- A step of the link leaves the PA as it may be. -/
theorem LnkMoves_paSafe {ps : List Part} {c d : Chip} (h : LnkMoves ps c d) (hp : paSafe c = true) : paSafe d = true := by
  rw [← hp]
  simp only [paSafe, Chip.paAllowed, h.keyed, h.cal, h.locked, h.touches.bit (f := F.GUARD_GATE_tx) (by decide),
    h.touches.bit (f := F.SYS_FEAT2_radio_fused) (by decide), h.touches.bit (f := F.RF_STAT_synth_lock) (by decide),
    h.touches.bit (f := F.RF_CTRL_tx_en) (by decide)]

/-- Settles O47: a row of the link moves its own registers and parts, the transmitter's queue and the words it asks the window for, and
the end of the command the registers of routing and the slot units counted of a keyed burst. -/
theorem linkRowsFrame : Obligations.LinkRowsFrame := by
  intro i s t hrow hs hnext
  obtain ⟨f, hf, hasks⟩ := linkRow_asks hrow
  obtain rfl : { s with chip := (f s.chip).settle } = t := Host.Outcome.next.inj ((hf s).symm.trans hnext)
  obtain ⟨h, hq⟩ := hasks s.chip
  have hrf := (f s.chip).settle_counts (LnkMoves_paSafe h (safe_parts hs).1)
  refine ⟨rfl, sameStores_of h.touches (by decide), ?_, ?_, ?_, ?_, sameRegs_of h.touches fun a ha _ => ha⟩
  · rw [Chip.settle_gn]
    exact h.touches.same .gn (by decide)
  · exact (congrArg RfSt.cur hrf).trans h.cur
  · exact (congrArg RfSt.keyed hrf).trans h.keyed
  · exact hq.imp (fun ⟨m, hm, hd⟩ => ⟨m, hm, (Chip.settle_pas _).trans hd⟩) fun ⟨m, hm, hd⟩ => ⟨m, hm, (Chip.settle_pas _).trans hd⟩

end Sys2Proof
end

section
/-! PROOFS. Which level events are active (R272): what a command starts or ends, and that routing leaves them. -/

-- One theorem at a time: many at once, each with a thread of its own, do not fit in memory.
set_option Elab.async false

namespace Sys2Proof.Machine

/-- The same level events are active. -/
def SameLevels (c d : Chip) : Prop := ∀ id loc, d.evt.isOn id loc = c.evt.isOn id loc

namespace SameLevels

variable {c d e : Chip}

theorem refl (c : Chip) : SameLevels c c := fun _ _ => rfl

theorem trans (h : SameLevels c d) (k : SameLevels d e) : SameLevels c e := fun id loc => (k id loc).trans (h id loc)

/-- A step that leaves the records of active events. -/
theorem of_active (h : d.evt.active = c.evt.active) : SameLevels c d := fun id loc => by rw [EvtSt.isOn, h, EvtSt.isOn]

theorem ite {p : Prop} [Decidable p] {x y : Chip} (hx : SameLevels c x) (hy : SameLevels c y) : SameLevels c (if p then x else y) := by
  split
  · exact hx
  · exact hy

theorem foldl {α : Type} {g : Chip → α → Chip} {l : List α} (h : SameLevels c d) (hg : ∀ x e, SameLevels e (g e x)) :
    SameLevels c (l.foldl g d) :=
  List.foldlRecOn (motive := fun e => SameLevels c e) l g h fun e he x _ => he.trans (hg x e)

/-- A change of the records of active events that keeps what they are records of. -/
theorem of_map {f : EvLevel → EvLevel} (h : d.evt.active = c.evt.active.map f) (hf : ∀ l, (f l).id = l.id ∧ (f l).loc = l.loc) :
    SameLevels c d := fun id loc => by
  rw [EvtSt.isOn, h, List.any_map, EvtSt.isOn]
  exact congrArg (fun p => c.evt.active.any p) (funext fun l => by simp only [Function.comp, (hf l).1, (hf l).2])

end SameLevels

variable (c : Chip)

/-! ## Starts and ends -/

theorem Chip.levelOn_isOn (id : Nat) (loc arg : Word) : (c.levelOn id loc arg).evt.isOn id loc = true := by
  unfold Chip.levelOn
  split
  · assumption
  · simp [EvtSt.isOn]

theorem Chip.levelOff_isOn (id : Nat) (loc : Word) : (c.levelOff id loc).evt.isOn id loc = false := by
  unfold Chip.levelOff
  split
  next h => simpa [EvtSt.isOn] using h
  · simp only [EvtSt.isOn, List.any_filter, List.any_eq_false]
    intro l _
    simp only [Bool.and_eq_true, Bool.not_eq_true', decide_eq_false_iff_not, decide_eq_true_eq]
    exact fun hl => hl.1 hl.2

/-! ## Routing and the end of a command -/

theorem Chip.enqueue_levels (o : Occ) : SameLevels c (c.enqueue o) := by
  have hmark : ∀ l : EvLevel, (if l.id = o.id ∧ l.loc = o.loc then { l with queued := true } else l).id = l.id ∧
      (if l.id = o.id ∧ l.loc = o.loc then { l with queued := true } else l).loc = l.loc := fun l => by
    split <;> exact ⟨rfl, rfl⟩
  unfold Chip.enqueue
  exact .ite (.of_map rfl hmark) (.ite (.of_active rfl) (.of_map rfl hmark))

theorem Chip.routeOcc_levels (o : Occ) : SameLevels c (c.routeOcc o) := by
  unfold Chip.routeOcc
  extract_lets r c1 c2
  have h2 : SameLevels c c2 :=
    (SameLevels.ite (c.enqueue_levels o) (.refl c)).trans (.of_active (by rw [Chip.setLine_evt]))
  exact .ite (h2.trans (.of_active rfl)) h2

theorem Chip.deliver_levels (batch : List Occ) (o : Occ) : SameLevels c (Chip.deliver batch c o) := by
  unfold Chip.deliver
  extract_lets anc held c1
  have h1 : SameLevels c c1 := .of_active rfl
  refine .ite (h1.trans (.of_map rfl fun l => ?_)) (h1.trans (c1.routeOcc_levels _))
  split <;> exact ⟨rfl, rfl⟩

theorem Chip.flush_levels : SameLevels c c.flush := by
  unfold Chip.flush
  split
  · exact .refl c
  next o rest _ =>
    have h0 : SameLevels c { c with evt := { c.evt with batch := [] } } := .of_active rfl
    exact (h0.foldl fun o e => e.deliver_levels _ o).trans (.of_active rfl)

theorem Chip.settle_levels : SameLevels c c.settle := by
  have hhold : c.settle.evt = c.flush.evt := c.flush.hold_evt
  exact c.flush_levels.trans (.of_active (by rw [hhold]))

/-! ## Operations that start and end none -/

theorem Chip.put_levels (f : Fld) (v : Nat) : SameLevels c (c.put f v) := .of_active rfl

theorem Chip.cutKeyed_levels : SameLevels c c.cutKeyed := by
  have h := congrArg Chip.evt (SameButHold.cutKeyed c).rest
  exact .of_active (congrArg EvtSt.active h)

end Sys2Proof.Machine
end

section
/-! PROOFS. The rows of the flenan link: the statement bounds no list of paddocks, and a paddock far enough down the list has its sample
pointer in the register that counts lost packets. -/

-- One theorem at a time: many at once, each with a thread of its own, do not fit in memory.
set_option Elab.async false

namespace Sys2Proof.Machine

/-- The paddock of received audio (R378). -/
def rxPad : Pad := ⟨0x11, 0, 4096⟩

/-- A node in SYNC that hears a burst of audio. -/
def hearingChip : Chip :=
  ((({ Chip.powerOn with
      time := { TimeSt.zero with rootOn := true, stc := 770 }
      rf := { RfSt.zero with adcValid := true } }).put F.LNK_STAT_state lkSync).put F.RF_CTRL_ddc_lnk 1).put F.RF_STAT_rx 1

/-- The place in the list at which a paddock's pointer register would be LNK_AUD_CNT. -/
def farIndex : Nat := 131024

/-- The same node, its receive paddock at that place. -/
def farChip : Chip := { hearingChip with pas := { hearingChip.pas with pads := List.replicate farIndex ⟨0, 0, 0⟩ ++ [rxPad] } }

/-- One packet, which no codeword carries. -/
def lostBurst : BurstRx :=
  let hdr : List Byte := padTo 16 [0x21, 0, 0, 0, 0x44, 2, 7, 0, 0, 0x11, 1]
  ⟨⟨(rsEncode (bytesNat hdr)).map (BitVec.ofNat 8), hdr⟩, [], 0⟩

/-- The paddock of an owner that none before it has. -/
theorem linkPad_last {c : Chip} {n owner : Nat} {x p : Pad} (hpads : c.pas.pads = List.replicate n x ++ [p]) (hx : x.owner ≠ owner)
    (hp : p.owner = owner) : c.linkPad owner = some (n, p) := by
  have hfirst : ((List.range n).zip (List.replicate n x)).find? (fun e : Nat × Pad => decide (e.2.owner = owner)) = none := by
    rw [List.find?_eq_none]
    intro e he
    rw [List.eq_of_mem_replicate (List.of_mem_zip he).2]
    simpa using hx
  have hlen : (List.replicate n x ++ [p]).length = n + 1 := by simp
  rw [Chip.linkPad, hpads, hlen, List.range_succ, List.zip_append (by simp), List.find?_append, hfirst]
  simp [hp]

theorem farChip_pad : farChip.linkPad 0x11 = some (farIndex, rxPad) := linkPad_last rfl (by decide) rfl

/-! ## What the burst asks for, with the paddock there -/

theorem hearingChip_ready :
    Sys2Proof.safe ⟨[], hearingChip⟩ = true ∧ Sys2Proof.linkReady hearingChip (.audioBurst lostBurst) = true := by decide +kernel

theorem farChip_ready : Sys2Proof.safe ⟨[], farChip⟩ = true ∧ Sys2Proof.linkReady farChip (.audioBurst lostBurst) = true :=
  hearingChip_ready

/-- The node after it has counted the packet. -/
def countedChip : Chip := farChip.audioCounted lostBurst

/-- The superframe, the frames of one, and the pointer that the paddock has before the packet is counted and after. -/
theorem farChip_values : farChip.sfn = 2 ∧ farChip.time.stc = 770 ∧ farChip.frameTicks = 4 ∧ farChip.phi = 96 ∧
    farChip.get (F.PAS_SP_sp farIndex) = 0 ∧ (95 % 1 + 1) * farChip.get F.LNK_RX_STRIDE_stride ≤ rxPad.length := by
  have h : hearingChip.sfn = 2 ∧ hearingChip.time.stc = 770 ∧ hearingChip.frameTicks = 4 ∧ hearingChip.phi = 96 ∧
    hearingChip.get (F.PAS_SP_sp farIndex) = 0 ∧ (95 % 1 + 1) * hearingChip.get F.LNK_RX_STRIDE_stride ≤ rxPad.length := by decide +kernel
  exact h

theorem countedChip_values : countedChip.time.stc = 770 ∧ countedChip.frameTicks = 4 ∧ countedChip.phi = 96 ∧
    countedChip.get (F.PAS_SP_sp farIndex) = 1 := by
  have h : (hearingChip.audioCounted lostBurst).time.stc = 770 ∧ (hearingChip.audioCounted lostBurst).frameTicks = 4 ∧
      (hearingChip.audioCounted lostBurst).phi = 96 ∧ (hearingChip.audioCounted lostBurst).get (F.PAS_SP_sp farIndex) = 1 := by decide +kernel
  exact h

theorem countedChip_pas : countedChip.pas = farChip.pas := (farChip.audioCounted_touches lostBurst).same .pas (by decide)

theorem countedChip_pad : countedChip.linkPad 0x11 = some (farIndex, rxPad) :=
  linkPad_last (congrArg PasSt.pads countedChip_pas) (by decide) rfl

theorem farChip_burst : farChip.audioBurst lostBurst =
    countedChip.audioWrite 1 (farChip.sfn - 1) true (farChip.audioGot lostBurst).1 := by
  have hhears : (!(decide (2 ≤ hearingChip.lkState ∧ hearingChip.lkState ≤ 5)) || !hearingChip.ownBurst lostBurst 2) = false := by
    decide +kernel
  have hopen : ¬((hearingChip.audioCounted lostBurst).time.stc < (hearingChip.audioCounted lostBurst).lnk.audFrom ∨
      (hearingChip.audioCounted lostBurst).get F.FOLD_STAT_state = 3 ∨ 2 ≤ (hearingChip.audioCounted lostBurst).get F.BST_STAT_shut) := by
    decide +kernel
  have hfar : (!(decide (2 ≤ farChip.lkState ∧ farChip.lkState ≤ 5)) || !farChip.ownBurst lostBurst 2) = false := hhears
  rw [Chip.audioBurst_eq, hfar, if_neg Bool.false_ne_true]
  exact if_neg hopen

theorem audioWrite_queue {c : Chip} {pad : Nat × Pad} (hp : c.linkPad 0x11 = some pad) (ch j : Nat) (wide : Bool)
    (ps : List (Option (List Byte))) {q : Nat × WinReq} (hq : q ∈ (c.audioWrite ch j wide ps).pas.queue) :
    q ∈ c.pas.queue ∨ ∃ s < ch * c.phi, q.1 = c.audWord pad (c.get F.LNK_RX_STRIDE_stride) j (s % ch) (s / ch) := by
  rw [Chip.audioWrite, hp] at hq
  obtain hq | hq := List.mem_append.mp hq
  · exact .inl hq
  · obtain ⟨s, hs, he⟩ := List.mem_filterMap.mp hq
    rw [Option.ite_none_right_eq_some, Option.some_inj] at he
    exact .inr ⟨s, List.mem_range.mp hs, by rw [← he.2]⟩

/-- The packet that was counted has moved the pointer, and the word before the first that is asked for is none of them. -/
theorem farChip_asks {q : Nat × WinReq} (hq : q ∈ (farChip.audioBurst lostBurst).pas.queue) : q.1 ≠ 1 := by
  obtain ⟨hsfn, -⟩ := farChip_values
  obtain ⟨hstc, hticks, hphi, hsp⟩ := countedChip_values
  rw [farChip_burst] at hq
  obtain hq | ⟨s, hs, he⟩ := audioWrite_queue countedChip_pad _ _ _ _ hq
  · rw [countedChip_pas] at hq
    cases hq
  · rw [he, Chip.audWord, hstc, hticks, hsp, hsfn]
    rw [hphi] at hs
    simp only [rxPad, Nat.mod_one, Nat.zero_mul, Nat.div_one]
    change ¬0 + (1 + 0 + (770 / 4 - (384 * (2 - 1) / 4 + s))) % 4096 = 1
    omega

/-- That word is the one that the statement wants for the last frame. -/
theorem farChip_wants (stride : Nat) : farChip.audWord (farIndex, rxPad) stride (farChip.sfn - 1) (95 % 1) (95 / 1) = 1 := by
  obtain ⟨hsfn, hstc, hticks, -, hsp, -⟩ := farChip_values
  rw [Chip.audWord, hstc, hticks, hsp, hsfn]
  simp only [rxPad, Nat.mod_one, Nat.zero_mul]
  decide

end Sys2Proof.Machine

namespace Sys2Proof

open Sys2Proof.Machine

/-- What the statement wants at the window of a burst's words. -/
theorem audioEffect_asks {c d : Chip} {b : BurstRx} (h : audioEffect c d b)
    (hopen : c.lnk.audFrom ≤ c.time.stc ∧ c.get F.FOLD_STAT_state ≠ 3 ∧ c.get F.BST_STAT_shut < 2) {pad : Nat × Pad}
    (hpad : c.linkPad 0x11 = some pad) {ch s : Nat} (hch : nthByte b.hdr.info 8 % 32 + 1 = ch) (hs : s < ch * c.phi)
    (hfits : (s % ch + 1) * c.get F.LNK_RX_STRIDE_stride ≤ pad.2.length) :
    ∃ w, (c.audWord pad (c.get F.LNK_RX_STRIDE_stride) (c.sfn - 1) (s % ch) (s / ch), w) ∈ d.pas.queue := by
  subst hch
  obtain ⟨-, -, hqueue⟩ := h
  exact ⟨_, hqueue hopen.1 hopen.2.1 hopen.2.2 pad hpad s hs hfits⟩

/-- Where an audio burst completes as the statement says, the word is asked of the window. -/
theorem audioBurst_asks {b : BurstRx} {c : Chip} {l : List Instr}
    (h : Completes (.audioBurst b) ⟨l, c⟩ fun d => audioEffect c d b)
    (hopen : c.lnk.audFrom ≤ c.time.stc ∧ c.get F.FOLD_STAT_state ≠ 3 ∧ c.get F.BST_STAT_shut < 2) {pad : Nat × Pad}
    (hpad : c.linkPad 0x11 = some pad) {ch k : Nat} (hch : nthByte b.hdr.info 8 % 32 + 1 = ch) (hk : k < ch * c.phi)
    (hfits : (k % ch + 1) * c.get F.LNK_RX_STRIDE_stride ≤ pad.2.length) :
    ∃ w, (c.audWord pad (c.get F.LNK_RX_STRIDE_stride) (c.sfn - 1) (k % ch) (k / ch), w) ∈
      (c.audioBurst b).pas.queue := by
  obtain ⟨t, hnext, -, hd⟩ := h
  obtain rfl : (⟨l, (c.audioBurst b).settle⟩ : State) = t := Host.Outcome.next.inj ((exec_audioBurst ⟨l, c⟩ b).symm.trans hnext)
  obtain ⟨w, hw⟩ := audioEffect_asks hd hopen hpad hch hk hfits
  exact ⟨w, by rwa [Chip.settle_pas] at hw⟩

/-- Refutes O43: nothing bounds the list of paddocks. With the receive paddock at place 131,024 its pointer register is LNK_AUD_CNT, so
that counting a lost packet of a burst moves the words that the burst's samples are written to; `audioEffect` takes them from the state
before (R378, R380). -/
theorem not_linkRowsComplete : ¬ Obligations.LinkRowsComplete := by
  intro h
  obtain ⟨hsafe, hready⟩ := farChip_ready
  obtain ⟨-, -, -, hphi, -, hfits⟩ := farChip_values
  have hopen : farChip.lnk.audFrom ≤ farChip.time.stc ∧ farChip.get F.FOLD_STAT_state ≠ 3 ∧ farChip.get F.BST_STAT_shut < 2 := by
    have hnear : hearingChip.lnk.audFrom ≤ hearingChip.time.stc ∧ hearingChip.get F.FOLD_STAT_state ≠ 3 ∧
      hearingChip.get F.BST_STAT_shut < 2 := by decide +kernel
    exact hnear
  have hch : nthByte lostBurst.hdr.info 8 % 32 + 1 = 1 := by decide +kernel
  have hdone : Completes (.audioBurst lostBurst) ⟨[], farChip⟩ fun d => audioEffect farChip d lostBurst := h _ _ hsafe hready
  obtain ⟨w, hasked⟩ := audioBurst_asks hdone hopen farChip_pad hch (k := 95) (by rw [hphi]; decide) hfits
  exact farChip_asks hasked (farChip_wants _)

end Sys2Proof
end

section
/-! PROOFS. The end of a command that leaves the PA as it may be, and the rows of the receive side (R295 to R304). -/

-- One theorem at a time: many at once, each with a thread of its own, do not fit in memory.
set_option Elab.async false

namespace Sys2Proof.Machine

/-! ## The PA is as it may be -/

/-- The fields on which it depends whether the PA may be keyed (R284, R293, R309, R312). -/
def permitFlds : List Fld := [F.GUARD_GATE_tx, F.SYS_FEAT2_radio_fused, F.CLK_STAT_locked, F.RF_STAT_synth_lock, F.RF_CTRL_tx_en]

/-- A step that leaves what permits the PA. -/
theorem paSafe_of_keeps {l : List Fld} {c d : Chip} (h : KeepsFlds l c d) (hp : Sys2Proof.paSafe c = true)
    (hl : permitFlds.all (fun f => f.freeOf l) = true) (hk : d.rf.keyed = c.rf.keyed) (hc : d.rf.cal = c.rf.cal) :
    Sys2Proof.paSafe d = true := by
  simp only [permitFlds, List.all_cons, List.all_nil, Bool.and_true, Bool.and_eq_true] at hl
  obtain ⟨hgate, hfuse, hroot, hlock, hen⟩ := hl
  rw [← hp]
  simp only [Sys2Proof.paSafe, Chip.paAllowed, hk, hc, h.bit hgate, h.bit hfuse, h.bit hroot, h.bit hlock, h.bit hen]

/-- The PA is not keyed where it may not be. -/
theorem unkeyed_of_paSafe {c : Chip} (hp : Sys2Proof.paSafe c = true) (h : c.paAllowed = false) : c.rf.keyed = false := by
  simpa [Sys2Proof.paSafe, h] using hp

section

variable {c : Chip} (hp : Sys2Proof.paSafe c = true)
include hp

/-- A field that neither routing nor the count of airtime sets. -/
theorem settle_get_safe {f : Fld} (hf : flushReg f.addr = false) (ha : f.addr ≠ R.GUARD_AIR_CNT) : c.settle.get f = c.get f := by
  simp only [Chip.get, settle_rd_paSafe hp hf ha]

theorem settle_bit_safe {f : Fld} (hf : flushReg f.addr = false) (ha : f.addr ≠ R.GUARD_AIR_CNT) : c.settle.bit f = c.bit f := by
  simp only [Chip.bit, settle_get_safe hp hf ha]

/-- What does not depend on the slot units counted. -/
theorem settle_rf_part {α : Type} (g : RfSt → α) (hg : ∀ r n, g { r with counted := n } = g r) : g c.settle.rf = g c.rf := by
  rw [c.settle_counts hp, hg]

end

/-! ## The transmission in hand ends -/

namespace KeepsFlds

variable {c d : Chip} {l m : List Fld}

theorem setRf (h : KeepsFlds l c d) {f : RfSt → RfSt} : KeepsFlds l c (d.setRf f) := h.aside rfl

theorem ite {p : Prop} [Decidable p] {x y : Chip} (hx : KeepsFlds l c x) (hy : KeepsFlds l c y) : KeepsFlds l c (if p then x else y) := by
  split
  · exact hx
  · exact hy

end KeepsFlds

variable (c : Chip)

/-- The fields that show the end of a transmission. -/
def endFlds : List Fld := [F.RF_STAT_tx, F.RF_WAKE_TX_CTRL_go]

/-- The fields that show that the PA was cut. -/
def cutFlds : List Fld := endFlds ++ [F.RF_TX_STAT_cut, F.GUARD_AIR_CNT_count]

theorem Chip.showTx_keeps : KeepsFlds [F.RF_STAT_tx] c c.showTx := (KeepsFlds.refl c).put

theorem Chip.countAir_keeps : KeepsFlds [F.GUARD_AIR_CNT_count] c c.countAir := by
  unfold Chip.countAir
  split
  · exact .ite (KeepsFlds.refl c).put.setRf ((KeepsFlds.refl c).mono (by simp))
  · exact (KeepsFlds.refl c).mono (by simp)

theorem Chip.endTx_keeps : KeepsFlds endFlds c c.endTx := by
  unfold Chip.endTx
  extract_lets wake c1
  have h1 : KeepsFlds [] c c1 := (KeepsFlds.refl c).setRf
  have h2 : KeepsFlds [F.RF_WAKE_TX_CTRL_go] c (if wake then c1.put F.RF_WAKE_TX_CTRL_go 0 else c1) := .ite h1.put (h1.mono (by simp))
  exact h2.append (Chip.showTx_keeps _)

theorem Chip.endTx_rf : c.endTx.rf =
    { c.rf with cur := none, keyed := false, counted := 0, air := [], endAt := if c.rf.keyed then c.now else c.rf.endAt } := by
  unfold Chip.endTx
  extract_lets wake c1
  split <;> rfl

theorem Chip.cutKeyed_keeps : KeepsFlds cutFlds c c.cutKeyed := by
  unfold Chip.cutKeyed
  exact .ite (((c.countAir_keeps).latch).append (Chip.endTx_keeps _)) ((KeepsFlds.refl c).mono (by simp))

/-- What a cut leaves of the transmitter. -/
theorem Chip.cutKeyed_rf : c.cutKeyed.rf = { c.rf with
    cur := c.cutKeyed.rf.cur, keyed := false, counted := c.cutKeyed.rf.counted, air := c.cutKeyed.rf.air,
    endAt := c.cutKeyed.rf.endAt } := by
  unfold Chip.cutKeyed
  split
  · rw [Chip.endTx_rf, Chip.latch_rf, c.countAir_rf]
  next h => simp only [Bool.not_eq_true] at h; rw [← h]

/-- The transmission in hand, the PA and a calibration are as they were. -/
structure TxState (c d : Chip) : Prop where
  cur : d.rf.cur = c.rf.cur
  keyed : d.rf.keyed = c.rf.keyed
  cal : d.rf.cal = c.rf.cal

theorem TxState.setRf {c d : Chip} (h : TxState c d) {e : Chip} (hcur : e.rf.cur = d.rf.cur) (hkeyed : e.rf.keyed = d.rf.keyed)
    (hcal : e.rf.cal = d.rf.cal) : TxState c e := ⟨hcur.trans h.cur, hkeyed.trans h.keyed, hcal.trans h.cal⟩

/-! ## RF_CTRL (R295, R305, R313, R314) -/

section

variable (v : Word)

/-- RF_CTRL holds what was written, and the monitor runs or not with it. -/
def Chip.ctrlTaken : Chip :=
  let c1 := c.skipBands.plainWrite R.RF_CTRL v
  c1.setRf fun r => { r with monAt := if c1.bit F.RF_CTRL_mon_en then some (r.monAt.getD c1.now) else none }

/-- The converter begins to settle, or stops. -/
def Chip.adcSwitched : Chip :=
  let c1 := c.ctrlTaken v
  if !c.bit F.RF_CTRL_adc_en && c1.bit F.RF_CTRL_adc_en then
    ((c1.put F.RF_STAT_rx 1).put F.RF_STAT_ilc_ok 0).setRf fun r => { r with adcValid := false, adcAt := c1.now + adcSettle }
  else if c.bit F.RF_CTRL_adc_en && !c1.bit F.RF_CTRL_adc_en then (c1.put F.RF_STAT_rx 0).setRf fun r => { r with adcValid := false }
  else c1

/-- The transmitter stops. -/
def Chip.txStopped : Chip := (c.cutKeyed.calEnd.put F.RF_STAT_synth_lock 0).showTx

theorem Chip.writeRfCtrl_eq : c.writeRfCtrl v =
    if !c.bit F.RF_CTRL_tx_en && (c.ctrlTaken v).bit F.RF_CTRL_tx_en then (c.adcSwitched v).showTx
    else if c.bit F.RF_CTRL_tx_en && !(c.ctrlTaken v).bit F.RF_CTRL_tx_en then (c.adcSwitched v).txStopped
    else c.adcSwitched v := rfl

/-! ### The register -/

theorem Chip.ctrlTaken_keeps : KeepsFlds [Fld.whole R.RF_CTRL] c (c.ctrlTaken v) :=
  KeepsFlds.setRf fun g hg => (c.skipBands.plainWrite_moves R.RF_CTRL v).get g hg

theorem Chip.ctrlTaken_adc : (c.ctrlTaken v).bit F.RF_CTRL_adc_en = F.RF_CTRL_adc_en.ofB v :=
  c.skipBands.bit_plainWrite (f := F.RF_CTRL_adc_en) (by decide +kernel) v

theorem Chip.ctrlTaken_tx : (c.ctrlTaken v).bit F.RF_CTRL_tx_en = F.RF_CTRL_tx_en.ofB v :=
  c.skipBands.bit_plainWrite (f := F.RF_CTRL_tx_en) (by decide +kernel) v

theorem Chip.ctrlTaken_now : (c.ctrlTaken v).now = c.now := by
  have h := c.skipBands.plainWrite_time R.RF_CTRL v
  unfold Chip.now
  exact congrArg (fun t : TimeSt => t.stc * rootPerTick + t.frac.val) h

theorem Chip.plainWrite_rf (a : Nat) : (c.plainWrite a v).rf = c.rf := (congrArg Chip.rf (c.plainWrite_rest a v) :)

theorem Chip.ctrlTaken_txState : TxState c (c.ctrlTaken v) := by
  have h : (c.skipBands.plainWrite R.RF_CTRL v).rf = c.rf := c.skipBands.plainWrite_rf v R.RF_CTRL
  exact ⟨(congrArg RfSt.cur h :), (congrArg RfSt.keyed h :), (congrArg RfSt.cal h :)⟩

/-! ### The converter -/

/-- The fields that show the converter. -/
def adcFlds : List Fld := [F.RF_STAT_ilc_ok, F.RF_STAT_rx]

theorem Chip.adcSwitched_keeps : KeepsFlds adcFlds (c.ctrlTaken v) (c.adcSwitched v) := by
  have h := KeepsFlds.refl (c.ctrlTaken v)
  unfold Chip.adcSwitched
  exact .ite h.put.put.setRf (.ite (h.put.setRf.mono (by simp [adcFlds])) (h.mono (by simp)))

theorem Chip.adcSwitched_tx : (c.adcSwitched v).bit F.RF_CTRL_tx_en = F.RF_CTRL_tx_en.ofB v :=
  ((c.adcSwitched_keeps v).bit (by decide)).trans (c.ctrlTaken_tx v)

theorem Chip.adcSwitched_txState : TxState c (c.adcSwitched v) := by
  have h := c.ctrlTaken_txState v
  unfold Chip.adcSwitched
  extract_lets c1
  split
  · exact h.setRf rfl rfl rfl
  · split
    · exact h.setRf rfl rfl rfl
    · exact h

theorem Chip.adcSwitched_on (h : c.bit F.RF_CTRL_adc_en = false) (hv : F.RF_CTRL_adc_en.ofB v = true) : c.adcSwitched v =
    (((c.ctrlTaken v).put F.RF_STAT_rx 1).put F.RF_STAT_ilc_ok 0).setRf fun r =>
      { r with adcValid := false, adcAt := (c.ctrlTaken v).now + adcSettle } := by
  unfold Chip.adcSwitched
  dsimp only
  rw [c.ctrlTaken_adc, h, hv]
  exact if_pos rfl

theorem Chip.adcSwitched_off (h : c.bit F.RF_CTRL_adc_en = true) (hv : F.RF_CTRL_adc_en.ofB v = false) : c.adcSwitched v =
    ((c.ctrlTaken v).put F.RF_STAT_rx 0).setRf fun r => { r with adcValid := false } := by
  unfold Chip.adcSwitched
  dsimp only
  rw [c.ctrlTaken_adc, h, hv]
  exact (if_neg (by decide)).trans (if_pos rfl)

/-! ### The transmitter -/

theorem Chip.calEnd_keeps : KeepsFlds [] c c.calEnd := by
  unfold Chip.calEnd
  exact .ite (KeepsFlds.refl c).setRf (.refl c)

theorem Chip.calEnd_cal : c.calEnd.rf.cal = none := by
  unfold Chip.calEnd
  split
  · rfl
  next h => simpa using h

theorem Chip.calEnd_rx : c.calEnd.rf.adcValid = c.rf.adcValid ∧ c.calEnd.rf.adcAt = c.rf.adcAt ∧ c.calEnd.rf.keyed = c.rf.keyed := by
  unfold Chip.calEnd
  split <;> exact ⟨rfl, rfl, rfl⟩

/-- The fields that show that the transmitter stopped. -/
def stopFlds : List Fld := F.RF_STAT_tx :: F.RF_STAT_synth_lock :: cutFlds

theorem Chip.txStopped_keeps : KeepsFlds stopFlds c c.txStopped :=
  (c.cutKeyed_keeps.append (Chip.calEnd_keeps _)).put.append (Chip.showTx_keeps _)

theorem Chip.txStopped_rf : c.txStopped.rf.keyed = false ∧ c.txStopped.rf.cal = none ∧
    c.txStopped.rf.adcValid = c.rf.adcValid ∧ c.txStopped.rf.adcAt = c.rf.adcAt := by
  obtain ⟨hvalid, hat, hkeyed⟩ := c.cutKeyed.calEnd_rx
  have hcut := c.cutKeyed_rf
  exact ⟨hkeyed.trans c.cutKeyed_keyed, Chip.calEnd_cal _, hvalid.trans (congrArg RfSt.adcValid hcut :),
    hat.trans (congrArg RfSt.adcAt hcut :)⟩

theorem Chip.showTx_get : c.showTx.get F.RF_STAT_tx = F.RF_STAT_tx.cut c.txState := Chip.get_put_cut _ rfl _

theorem Chip.txStopped_tx (h : c.bit F.RF_CTRL_tx_en = false) : c.txStopped.get F.RF_STAT_tx = 0 := by
  have hen : (c.cutKeyed.calEnd.put F.RF_STAT_synth_lock 0).bit F.RF_CTRL_tx_en = false :=
    ((c.cutKeyed_keeps.append (Chip.calEnd_keeps _)).put.bit (by decide)).trans h
  rw [Chip.txStopped, Chip.showTx_get, Chip.txState, hen]
  rfl

theorem Chip.txStopped_lock : c.txStopped.bit F.RF_STAT_synth_lock = false := by
  rw [Chip.txStopped, (Chip.showTx_keeps _).bit (by decide)]
  exact Chip.put_zero_bit _ rfl

/-! ### The write -/

theorem Chip.writeRfCtrl_keeps : KeepsFlds stopFlds (c.adcSwitched v) (c.writeRfCtrl v) := by
  rw [Chip.writeRfCtrl_eq]
  exact .ite ((Chip.showTx_keeps _).mono (by simp [stopFlds])) (.ite (Chip.txStopped_keeps _) ((KeepsFlds.refl _).mono (by simp)))

theorem Chip.writeRfCtrl_rx : (c.writeRfCtrl v).rf.adcValid = (c.adcSwitched v).rf.adcValid ∧
    (c.writeRfCtrl v).rf.adcAt = (c.adcSwitched v).rf.adcAt := by
  rw [Chip.writeRfCtrl_eq]
  split
  · exact ⟨rfl, rfl⟩
  · split
    · exact (c.adcSwitched v).txStopped_rf.2.2
    · exact ⟨rfl, rfl⟩

/-- A write of RF_CTRL stops the transmitter that it disables, and does not start one that was enabled. -/
theorem Chip.writeRfCtrl_paSafe (hp : Sys2Proof.paSafe c = true) : Sys2Proof.paSafe (c.writeRfCtrl v) = true := by
  have hkeyed := (c.adcSwitched_txState v).keyed
  have hcal := (c.adcSwitched_txState v).cal
  have hkeeps := (c.ctrlTaken_keeps v).append (c.adcSwitched_keeps v)
  have hset := c.adcSwitched_tx v
  rw [Chip.writeRfCtrl_eq, c.ctrlTaken_tx]
  generalize hd : c.adcSwitched v = d at *
  cases hen : c.bit F.RF_CTRL_tx_en with
  | false =>
    have hun : d.rf.keyed = false := hkeyed.trans (unkeyed_of_paSafe hp (by simp [Chip.paAllowed, hen]))
    split
    · exact paSafe_of_unkeyed hun
    · exact paSafe_of_unkeyed hun
  | true =>
    cases hv : F.RF_CTRL_tx_en.ofB v with
    | false => exact paSafe_of_unkeyed d.txStopped_rf.1
    | true =>
      rw [hv] at hset
      refine (?_ : Sys2Proof.paSafe d = Sys2Proof.paSafe c).trans hp
      simp only [Sys2Proof.paSafe, Chip.paAllowed, hkeyed, hcal, hset, hen, hkeeps.bit (g := F.GUARD_GATE_tx) (by decide),
        hkeeps.bit (g := F.SYS_FEAT2_radio_fused) (by decide), hkeeps.bit (g := F.CLK_STAT_locked) (by decide),
        hkeeps.bit (g := F.RF_STAT_synth_lock) (by decide)]

end

end Sys2Proof.Machine
end

section
/-! PROOFS. The rows of the receive side (R295 to R304) complete with their effects. -/

-- One theorem at a time: many at once, each with a thread of its own, do not fit in memory.
set_option Elab.async false

namespace Sys2Proof.Machine

variable (c : Chip)

/-! ## Overload (R300) -/

/-- The overload is shown, counted and started as an event. -/
def Chip.overloadShown : Chip := ((c.put F.RF_STAT_ovl 1).bump F.RF_OVL_CNT_count).levelOn Ev.RF_ADC_OVERLOAD locNone 0

/-- The records of the channels that the converter feeds show it, and so does a capture under way. -/
def Chip.overloadMarked : Chip :=
  let ch := c.gn.ch.map fun e => (e.1, { e.2 with ovlInt := e.2.ovlInt || decide (c.corrSrc e.1 ≠ 3) })
  let c2 : Chip := { c with gn := { c.gn with ch := ch, ovl := true } }
  if c2.gn.acq.capturing then { c2.latch F.GN_ACQ_STAT_ovl with gn := { c2.gn with acq := { c2.gn.acq with ovl := true } } }
  else c2

theorem Chip.overload_eq : c.overload =
    if !c.rf.adcValid || c.evt.isOn Ev.RF_ADC_OVERLOAD locNone then c else c.overloadShown.overloadMarked := rfl

theorem Chip.overloadMarked_keeps : KeepsFlds [F.GN_ACQ_STAT_ovl] c c.overloadMarked := by
  unfold Chip.overloadMarked
  extract_lets ch _ c2
  have h2 : KeepsFlds [] c c2 := (KeepsFlds.refl c).aside rfl
  exact .ite (h2.latch.aside rfl) (h2.mono (by simp))

theorem Chip.overloadMarked_rest : c.overloadMarked.rf = c.rf ∧ c.overloadMarked.evt = c.evt := by
  unfold Chip.overloadMarked
  extract_lets ch _ c2
  split <;> exact ⟨rfl, rfl⟩

/-- A counter that hardware advances stops at its largest value (R7). -/
theorem Chip.get_bump_self {f : Fld} (hf : f.fits = true) : (c.bump f).get f = min (c.get f + 1) (2 ^ f.width - 1) :=
  (Chip.get_put_cut _ hf _).trans (Fld.up_eq f _)

/-! ## The interleave calibration (R301 to R303) -/

/-- The corrections of an update are in force. -/
def Chip.ilcTaken (x : IlcStep) : Chip :=
  (c.setRf fun r => { r with
    off0 := r.off0 + x.off0
    off1 := r.off1 + x.off1
    gain := r.gain + x.gain
    skew := r.skew + x.skew
    ilcAt := some c.now }).put F.RF_ILC_STAT_img x.img.toNat

/-- Has a millisecond not yet passed since the last update (R302)? -/
def Chip.ilcSoon : Bool :=
  match c.rf.ilcAt with
  | some t => decide (c.now < t + rootPerMs)
  | none => false

theorem Chip.ilcUpdate_eq (x : IlcStep) : c.ilcUpdate x =
    if c.ilcBlind || c.bit F.RF_CTRL_ilc_frz then c
    else
      let c1 := c.advanceTo c.unitAt
      if decide (c1.get F.RF_STAT_rx = 2) && (!ilcSmall x || x.block || c1.ilcSoon) then c else c1.ilcTaken x := rfl

/-- An update that R302 allows is not held back. -/
theorem ilcAllowed_taken {c : Chip} {x : IlcStep} (h : Sys2Proof.ilcAllowed c x = true) :
    (decide (c.get F.RF_STAT_rx = 2) && (!ilcSmall x || x.block || c.ilcSoon)) = false := by
  by_cases hrx : c.get F.RF_STAT_rx = 2
  · have hall : (ilcSmall x && !x.block && c.rf.ilcAt.all fun t => decide (t + rootPerMs ≤ c.now)) = true :=
      (Bool.or_eq_true_iff.mp h).resolve_left fun hne => of_decide_eq_true hne hrx
    simp only [Bool.and_eq_true, Bool.not_eq_true'] at hall
    obtain ⟨⟨hsmall, hblock⟩, hsince⟩ := hall
    have hsoon : c.ilcSoon = false := by
      unfold Chip.ilcSoon
      split
      next t ht =>
        rw [ht, Option.all_some] at hsince
        exact decide_eq_false (Nat.not_lt.mpr (of_decide_eq_true hsince))
      · rfl
    rw [hsmall, hblock, hsoon]
    exact Bool.and_false _
  · rw [decide_eq_false hrx]
    exact Bool.false_and _

/-- The estimate of the image is shown, and whether it suffices. -/
def Chip.imgShown (img : Byte) (ok : Nat) : Chip := (c.put F.RF_ILC_STAT_img img.toNat).put F.RF_STAT_ilc_ok ok

theorem Chip.imgShown_keeps (img : Byte) (ok : Nat) : KeepsFlds [F.RF_STAT_ilc_ok, F.RF_ILC_STAT_img] c (c.imgShown img ok) :=
  (KeepsFlds.refl c).put.put

theorem Chip.imgShown_img (img : Byte) (ok : Nat) : (c.imgShown img ok).get F.RF_ILC_STAT_img = img.toNat :=
  (Chip.get_put_free _ (by decide) _).trans ((Chip.get_put_cut _ rfl _).trans (Nat.mod_eq_of_lt img.isLt))

/-! ## The enables (R295, R305, R313, R314) -/

section

variable {c : Chip} {v : Word} (hp : Sys2Proof.paSafe c = true)
include hp

/-- A field of the converter after a write of RF_CTRL is what the switch of the converter made it. -/
theorem writeRfCtrl_settle_get {f : Fld} (hf : f.freeOf stopFlds = true) (hflush : flushReg f.addr = false)
    (hair : f.addr ≠ R.GUARD_AIR_CNT) : (c.writeRfCtrl v).settle.get f = (c.adcSwitched v).get f :=
  (settle_get_safe (c.writeRfCtrl_paSafe v hp) hflush hair).trans (c.writeRfCtrl_keeps v f hf)

theorem writeRfCtrl_settle_bit {f : Fld} (hf : f.freeOf stopFlds = true) (hflush : flushReg f.addr = false)
    (hair : f.addr ≠ R.GUARD_AIR_CNT) : (c.writeRfCtrl v).settle.bit f = (c.adcSwitched v).bit f := by
  simp only [Chip.bit, writeRfCtrl_settle_get hp hf hflush hair]

theorem adcEnable_effect (hoff : c.bit F.RF_CTRL_adc_en = false) (hv : F.RF_CTRL_adc_en.ofB v = true) :
    (c.writeRfCtrl v).settle.bit F.RF_CTRL_adc_en = true ∧ (c.writeRfCtrl v).settle.get F.RF_STAT_rx = 1 ∧
      (c.writeRfCtrl v).settle.bit F.RF_STAT_ilc_ok = false ∧ (c.writeRfCtrl v).settle.rf.adcValid = false ∧
      (c.writeRfCtrl v).settle.rf.adcAt = c.now + 294912 := by
  have hon := c.adcSwitched_on v hoff hv
  have hsafe := c.writeRfCtrl_paSafe v hp
  obtain ⟨hvalid, hat⟩ := c.writeRfCtrl_rx v
  rw [writeRfCtrl_settle_bit hp (f := F.RF_CTRL_adc_en) (by decide) (by decide) (by decide),
    writeRfCtrl_settle_bit hp (f := F.RF_STAT_ilc_ok) (by decide) (by decide) (by decide),
    writeRfCtrl_settle_get hp (f := F.RF_STAT_rx) (by decide) (by decide) (by decide),
    settle_rf_part hsafe RfSt.adcValid fun _ _ => rfl, settle_rf_part hsafe RfSt.adcAt fun _ _ => rfl, hvalid, hat,
    (c.adcSwitched_keeps v).bit (by decide), c.ctrlTaken_adc, hv, hon]
  refine ⟨rfl, ?_, ?_, rfl, ?_⟩
  · rw [Chip.get_setRf, Chip.get_put_free _ (by decide)]
    exact Chip.get_put_cut _ rfl _
  · rw [Chip.bit_setRf]
    exact Chip.put_zero_bit _ rfl
  · exact congrArg (· + adcSettle) (c.ctrlTaken_now v)

theorem adcDisable_effect (hon : c.bit F.RF_CTRL_adc_en = true) (hv : F.RF_CTRL_adc_en.ofB v = false) :
    (c.writeRfCtrl v).settle.bit F.RF_CTRL_adc_en = false ∧ (c.writeRfCtrl v).settle.get F.RF_STAT_rx = 0 ∧
      (c.writeRfCtrl v).settle.rf.adcValid = false := by
  have hoff := c.adcSwitched_off v hon hv
  rw [writeRfCtrl_settle_bit hp (f := F.RF_CTRL_adc_en) (by decide) (by decide) (by decide),
    writeRfCtrl_settle_get hp (f := F.RF_STAT_rx) (by decide) (by decide) (by decide),
    settle_rf_part (c.writeRfCtrl_paSafe v hp) RfSt.adcValid fun _ _ => rfl, (c.writeRfCtrl_rx v).1,
    (c.adcSwitched_keeps v).bit (by decide), c.ctrlTaken_adc, hv, hoff]
  refine ⟨rfl, ?_, rfl⟩
  rw [Chip.get_setRf]
  exact Chip.get_put_cut _ rfl _

theorem txEnable_effect (hoff : c.bit F.RF_CTRL_tx_en = false) (hv : F.RF_CTRL_tx_en.ofB v = true) :
    (c.writeRfCtrl v).settle.bit F.RF_CTRL_tx_en = true ∧
      (c.bit F.RF_STAT_synth_lock = false → c.rf.cal = none → c.rf.cur = none → (c.writeRfCtrl v).settle.get F.RF_STAT_tx = 1) := by
  have hen := c.adcSwitched_tx v
  refine ⟨?_, fun hlock hcal hcur => ?_⟩
  · rw [writeRfCtrl_settle_bit hp (by decide) (by decide) (by decide), hen, hv]
  · have hrf := c.adcSwitched_txState v
    have hlock' : (c.adcSwitched v).bit F.RF_STAT_synth_lock = false :=
      (((c.ctrlTaken_keeps v).append (c.adcSwitched_keeps v)).bit (by decide)).trans hlock
    have hstate : (c.adcSwitched v).txState = 1 := by
      simp only [Chip.txState, hen, hv, hrf.cal, hcal, hrf.cur, hcur, hlock']
      rfl
    have hwrite : c.writeRfCtrl v = (c.adcSwitched v).showTx := by
      rw [Chip.writeRfCtrl_eq, c.ctrlTaken_tx, hoff, hv]
      exact if_pos rfl
    rw [settle_get_safe (c.writeRfCtrl_paSafe v hp) (by decide) (by decide), hwrite, Chip.showTx_get, hstate]
    rfl

theorem txDisable_effect (hon : c.bit F.RF_CTRL_tx_en = true) (hv : F.RF_CTRL_tx_en.ofB v = false) :
    (c.writeRfCtrl v).settle.bit F.RF_CTRL_tx_en = false ∧ (c.writeRfCtrl v).settle.rf.keyed = false ∧
      (c.writeRfCtrl v).settle.rf.cal = none ∧ (c.writeRfCtrl v).settle.bit F.RF_STAT_synth_lock = false ∧
      (c.writeRfCtrl v).settle.get F.RF_STAT_tx = 0 := by
  have hen : (c.adcSwitched v).bit F.RF_CTRL_tx_en = false := (c.adcSwitched_tx v).trans hv
  have hsafe := c.writeRfCtrl_paSafe v hp
  have hwrite : c.writeRfCtrl v = (c.adcSwitched v).txStopped := by
    rw [Chip.writeRfCtrl_eq, c.ctrlTaken_tx, hon, hv]
    exact (if_neg (by decide)).trans (if_pos rfl)
  obtain ⟨hkeyed, hcal, -⟩ := (c.adcSwitched v).txStopped_rf
  rw [writeRfCtrl_settle_bit hp (f := F.RF_CTRL_tx_en) (by decide) (by decide) (by decide), settle_bit_safe hsafe (by decide) (by decide),
    settle_get_safe hsafe (by decide) (by decide), settle_rf_part hsafe RfSt.keyed fun _ _ => rfl,
    settle_rf_part hsafe RfSt.cal fun _ _ => rfl, hwrite]
  exact ⟨hen, hkeyed, hcal, Chip.txStopped_lock _, Chip.txStopped_tx _ hen⟩

/-! ## The converter, the gain and the channel (R295, R299) -/

theorem adcValid_effect (hen : c.bit F.RF_CTRL_adc_en = true) (hinvalid : c.rf.adcValid = false) :
    c.adcReady.settle.rf.adcValid = true ∧ c.adcReady.settle.get F.RF_STAT_rx = c.get F.RF_STAT_rx ∧
      c.adcReady.settle.now = (c.advanceTo c.rf.adcAt).now := by
  have hready : c.adcReady = (c.advanceTo c.rf.adcAt).skipBands.setRf fun r => { r with adcValid := true } := by
    rw [Chip.adcReady, hen, hinvalid]
    rfl
  have hrf : (c.advanceTo c.rf.adcAt).rf = c.rf := c.advanceTo_rf _
  have hkeeps : KeepsFlds [Fld.whole R.PWR_TMR] c c.adcReady := by
    rw [hready]
    exact ((KeepsFlds.refl c).advanceTo (n := c.rf.adcAt)).aside rfl
  have hsafe : Sys2Proof.paSafe c.adcReady = true := paSafe_of_keeps hkeeps hp (by decide)
    (by rw [hready]; exact (congrArg RfSt.keyed hrf :)) (by rw [hready]; exact (congrArg RfSt.cal hrf :))
  rw [settle_rf_part hsafe RfSt.adcValid fun _ _ => rfl, settle_get_safe hsafe (by decide) (by decide), hkeeps _ (by decide),
    Chip.settle_now, hready]
  exact ⟨rfl, rfl, rfl⟩

theorem lnaGain_effect (hsome : c.rf.gainAt.isSome = true) :
    c.lnaApply.settle.rf.gainA = c.get F.RF_LNA_gain_a ∧ c.lnaApply.settle.rf.gainB = c.get F.RF_LNA_gain_b ∧
      c.lnaApply.settle.rf.gainAt = none ∧ ∀ t, c.rf.gainAt = some t → c.lnaApply.settle.now = (c.advanceTo t).now := by
  obtain ⟨n, hn⟩ := Option.isSome_iff_exists.mp hsome
  have happly : c.lnaApply = (c.advanceTo n).setRf fun r =>
      { r with gainA := (c.advanceTo n).get F.RF_LNA_gain_a, gainB := (c.advanceTo n).get F.RF_LNA_gain_b, gainAt := none } := by
    rw [Chip.lnaApply, hn]
  have hrf : (c.advanceTo n).rf = c.rf := c.advanceTo_rf _
  have hkeeps := (KeepsFlds.refl c).advanceTo (n := n)
  have hsafe : Sys2Proof.paSafe c.lnaApply = true := paSafe_of_keeps (by rw [happly]; exact hkeeps.setRf) hp (by decide)
    (by rw [happly]; exact (congrArg RfSt.keyed hrf :)) (by rw [happly]; exact (congrArg RfSt.cal hrf :))
  rw [settle_rf_part hsafe RfSt.gainA fun _ _ => rfl, settle_rf_part hsafe RfSt.gainB fun _ _ => rfl,
    settle_rf_part hsafe RfSt.gainAt fun _ _ => rfl, Chip.settle_now, happly]
  refine ⟨hkeeps F.RF_LNA_gain_a (by decide), hkeeps F.RF_LNA_gain_b (by decide), rfl, fun t ht => ?_⟩
  rw [hn] at ht
  cases ht
  rfl

theorem rxRetune_effect (hsome : c.rf.rxAt.isSome = true) :
    c.rxRetune.settle.rf.rxCh = c.get F.RF_LNK_RX_ch ∧ c.rxRetune.settle.rf.rxAt = none ∧
      ∀ t, c.rf.rxAt = some t → c.rxRetune.settle.now = (c.advanceTo t).now := by
  obtain ⟨n, hn⟩ := Option.isSome_iff_exists.mp hsome
  have hretune : c.rxRetune = (c.advanceTo n).setRf fun r => { r with rxCh := (c.advanceTo n).get F.RF_LNK_RX_ch, rxAt := none } := by
    rw [Chip.rxRetune, hn]
  have hrf : (c.advanceTo n).rf = c.rf := c.advanceTo_rf _
  have hkeeps := (KeepsFlds.refl c).advanceTo (n := n)
  have hsafe : Sys2Proof.paSafe c.rxRetune = true := paSafe_of_keeps (by rw [hretune]; exact hkeeps.setRf) hp (by decide)
    (by rw [hretune]; exact (congrArg RfSt.keyed hrf :)) (by rw [hretune]; exact (congrArg RfSt.cal hrf :))
  rw [settle_rf_part hsafe RfSt.rxCh fun _ _ => rfl, settle_rf_part hsafe RfSt.rxAt fun _ _ => rfl, Chip.settle_now, hretune]
  refine ⟨hkeeps F.RF_LNK_RX_ch (by decide), rfl, fun t ht => ?_⟩
  rw [hn] at ht
  cases ht
  rfl

/-! ## Overload (R300) -/

theorem overload_effect (hvalid : c.rf.adcValid = true) (hoff : c.evt.isOn Ev.RF_ADC_OVERLOAD locNone = false) :
    c.overload.settle.bit F.RF_STAT_ovl = true ∧
      c.overload.settle.get F.RF_OVL_CNT_count = min (c.get F.RF_OVL_CNT_count + 1) 65535 ∧
      c.overload.settle.evt.isOn Ev.RF_ADC_OVERLOAD locNone = true := by
  have hover : c.overload = c.overloadShown.overloadMarked := by
    rw [Chip.overload_eq, hvalid, hoff]
    rfl
  have hmarked := c.overloadShown.overloadMarked_keeps
  obtain ⟨hrf, hevt⟩ := c.overloadShown.overloadMarked_rest
  have hshown : KeepsFlds [F.RF_OVL_CNT_count, F.RF_STAT_ovl] c c.overloadShown :=
    (KeepsFlds.refl c).put.bump.aside (Chip.levelOn_regs _ _ _ _)
  have hrf' : c.overloadShown.rf = c.rf := Chip.levelOn_rf _ _ _ _
  have hsafe : Sys2Proof.paSafe c.overload = true := by
    rw [hover]
    exact paSafe_of_keeps (hshown.append hmarked) hp (by decide) (by rw [hrf, hrf']) (by rw [hrf, hrf'])
  rw [settle_bit_safe hsafe (by decide) (by decide), settle_get_safe hsafe (by decide) (by decide), Chip.settle_levels, hover,
    hmarked.bit (by decide), hmarked _ (by decide), hevt]
  refine ⟨?_, ?_, Chip.levelOn_isOn _ _ _ _⟩
  · rw [Chip.overloadShown, Chip.bit, Chip.get_levelOn, KeepsFlds.bump (KeepsFlds.refl _) _ (by decide)]
    exact Chip.put_one_bit _ rfl rfl
  · rw [Chip.overloadShown, Chip.get_levelOn, Chip.get_bump_self _ rfl, Chip.get_put_free _ (by decide)]
    rfl

theorem overloadEnd_effect (hon : c.bit F.RF_STAT_ovl = true) :
    c.overloadEnd.settle.bit F.RF_STAT_ovl = false ∧ c.overloadEnd.settle.evt.isOn Ev.RF_ADC_OVERLOAD locNone = false := by
  have hend : c.overloadEnd = ((c.put F.RF_STAT_ovl 0).levelOff Ev.RF_ADC_OVERLOAD locNone).setRf fun r =>
      { r with blindTo := Int.ofNat c.now } := by
    rw [Chip.overloadEnd, hon]
    rfl
  have hkeeps : KeepsFlds [F.RF_STAT_ovl] c c.overloadEnd := by
    rw [hend]
    exact ((KeepsFlds.refl c).put.aside ((c.put F.RF_STAT_ovl 0).levelOff_regs _ _)).setRf
  have hrf : ((c.put F.RF_STAT_ovl 0).levelOff Ev.RF_ADC_OVERLOAD locNone).rf = c.rf := Chip.levelOff_rf _ _ _
  have hsafe : Sys2Proof.paSafe c.overloadEnd = true := paSafe_of_keeps hkeeps hp (by decide)
    (by rw [hend]; exact (congrArg RfSt.keyed hrf :)) (by rw [hend]; exact (congrArg RfSt.cal hrf :))
  rw [settle_bit_safe hsafe (by decide) (by decide), Chip.settle_levels, hend]
  refine ⟨?_, Chip.levelOff_isOn _ _ _⟩
  rw [Chip.bit_setRf, Chip.bit, Chip.get_levelOff]
  exact Chip.put_zero_bit _ rfl

/-! ## The interleave calibration (R301 to R303) -/

theorem ilcUpdate_effect (x : IlcStep) (hsees : c.ilcBlind = false) (hfree : c.bit F.RF_CTRL_ilc_frz = false)
    (hallow : Sys2Proof.ilcAllowed (c.advanceTo c.unitAt) x = true) :
    (c.ilcUpdate x).settle.rf.off0 = c.rf.off0 + x.off0 ∧ (c.ilcUpdate x).settle.rf.off1 = c.rf.off1 + x.off1 ∧
      (c.ilcUpdate x).settle.rf.gain = c.rf.gain + x.gain ∧ (c.ilcUpdate x).settle.rf.skew = c.rf.skew + x.skew ∧
      (c.ilcUpdate x).settle.get F.RF_ILC_STAT_img = x.img.toNat := by
  have htaken : c.ilcUpdate x = (c.advanceTo c.unitAt).ilcTaken x := by
    rw [Chip.ilcUpdate_eq, hsees, hfree, if_neg (by decide)]
    exact if_neg (by rw [ilcAllowed_taken hallow]; exact Bool.false_ne_true)
  have hrf : (c.advanceTo c.unitAt).rf = c.rf := c.advanceTo_rf _
  have hsafe : Sys2Proof.paSafe (c.ilcUpdate x) = true := by
    rw [htaken]
    exact paSafe_of_keeps (((KeepsFlds.refl c).advanceTo (n := c.unitAt)).setRf.put) hp (by decide) (congrArg RfSt.keyed hrf :)
      (congrArg RfSt.cal hrf :)
  rw [settle_rf_part hsafe RfSt.off0 fun _ _ => rfl, settle_rf_part hsafe RfSt.off1 fun _ _ => rfl,
    settle_rf_part hsafe RfSt.gain fun _ _ => rfl, settle_rf_part hsafe RfSt.skew fun _ _ => rfl,
    settle_get_safe hsafe (by decide) (by decide), htaken, ← hrf]
  exact ⟨rfl, rfl, rfl, rfl, (Chip.get_put_cut _ rfl _).trans (Nat.mod_eq_of_lt x.img.isLt)⟩

theorem ilcOk_effect (img : Byte) (hsees : c.ilcBlind = false) (himg : 140 ≤ img.toNat) :
    (c.ilcGood img.toNat).settle.bit F.RF_STAT_ilc_ok = true ∧ (c.ilcGood img.toNat).settle.get F.RF_ILC_STAT_img = img.toNat ∧
      (c.ilcGood img.toNat).settle.get F.RF_STAT_rx = if c.get F.RF_STAT_rx = 1 then 2 else c.get F.RF_STAT_rx := by
  have hgood : c.ilcGood img.toNat = if (c.imgShown img 1).get F.RF_STAT_rx = 1 then (c.imgShown img 1).put F.RF_STAT_rx 2
      else c.imgShown img 1 := by
    rw [Chip.ilcGood, hsees, decide_eq_false (Nat.not_lt.mpr himg)]
    rfl
  have hshown := c.imgShown_keeps img 1
  have hkeeps : KeepsFlds [F.RF_STAT_rx] (c.imgShown img 1) (c.ilcGood img.toNat) := by
    rw [hgood]
    exact .ite (KeepsFlds.refl _).put ((KeepsFlds.refl _).mono (by simp))
  have hrf : (c.ilcGood img.toNat).rf = c.rf := by
    rw [hgood]
    split <;> rfl
  have hsafe : Sys2Proof.paSafe (c.ilcGood img.toNat) = true := paSafe_of_keeps (hshown.append hkeeps) hp (by decide) (by rw [hrf]) (by rw [hrf])
  rw [settle_bit_safe hsafe (by decide) (by decide), settle_get_safe hsafe (by decide) (by decide),
    settle_get_safe hsafe (by decide) (by decide), hkeeps.bit (by decide), hkeeps _ (by decide)]
  refine ⟨Chip.put_one_bit _ rfl rfl, c.imgShown_img img 1, ?_⟩
  have hrx : (c.imgShown img 1).get F.RF_STAT_rx = c.get F.RF_STAT_rx := hshown _ (by decide)
  rw [hgood, hrx]
  split
  · exact Chip.get_put_cut _ rfl _
  · exact hrx

theorem ilcOkClear_effect (img : Byte) (hsees : c.ilcBlind = false) (himg : img.toNat < 128) :
    (c.ilcBad img.toNat).settle.bit F.RF_STAT_ilc_ok = false ∧ (c.ilcBad img.toNat).settle.get F.RF_ILC_STAT_img = img.toNat ∧
      (c.ilcBad img.toNat).settle.get F.RF_STAT_rx = c.get F.RF_STAT_rx := by
  have hbad : c.ilcBad img.toNat = c.imgShown img 0 := by
    rw [Chip.ilcBad, hsees, decide_eq_false (Nat.not_le.mpr himg)]
    rfl
  have hshown := c.imgShown_keeps img 0
  rw [hbad]
  have hsafe : Sys2Proof.paSafe (c.imgShown img 0) = true := paSafe_of_keeps hshown hp (by decide) rfl rfl
  rw [settle_bit_safe hsafe (by decide) (by decide), settle_get_safe hsafe (by decide) (by decide),
    settle_get_safe hsafe (by decide) (by decide)]
  exact ⟨Chip.put_zero_bit _ rfl, c.imgShown_img img 0, hshown _ (by decide)⟩

end

end Sys2Proof.Machine
end

section
/-! PROOFS. The spectrum monitor (R304): a scan that may be taken is taken, and records its peaks. -/

-- One theorem at a time: many at once, each with a thread of its own, do not fit in memory.
set_option Elab.async false

namespace Sys2Proof.Machine

variable (c : Chip)

/-! ## The scan -/

/-- The scan's capture is over, and the next one is due. -/
def Chip.monTaken : Chip :=
  (c.advanceTo (Sys2Proof.monStart c + monSpan)).setRf fun r => { r with monAt := some (max (Sys2Proof.monStart c + rootPerMs) c.now) }

/-- The place of peak `i` shows it. -/
def Chip.peakSet (top : List (Nat × Nat)) (c : Chip) (i : Nat) : Chip :=
  match top[i]? with
  | some e => ((c.put (F.RF_MON_PEAK_valid i) 1).put (F.RF_MON_PEAK_bin i) e.2).put (F.RF_MON_PEAK_lvl i) e.1
  | none => c.wr (R.RF_MON_PEAK i) 0

/-- The peaks of a scan are recorded and counted. -/
def Chip.peaksSet (top : List (Nat × Nat)) : Chip := ((List.range 8).foldl (Chip.peakSet top) c).incr F.RF_MON_SEQ_count

theorem Chip.monitorScan_eq (bins : List Byte) : c.monitorScan bins =
    if !c.bit F.RF_CTRL_mon_en || decide (bins.length ≠ 2048) || decide (c.boundaryRoot < Sys2Proof.monStart c + monSpan) then c
    else if c.monTaken.ilcBlind || decide (Int.ofNat (Sys2Proof.monStart c) ≤ c.monTaken.rf.blindTo) then c.monTaken
    else (c.monTaken.peaksSet (Sys2Proof.monitorTop c.monTaken bins)).notchScan ((Sys2Proof.monitorTop c.monTaken bins).map (·.2)) := rfl

theorem Chip.monTaken_keeps : KeepsFlds [Fld.whole R.PWR_TMR] c c.monTaken := (KeepsFlds.refl c).advanceTo.setRf

theorem Chip.monTaken_touches : Touches [.time, .rf] (fun _ => false) c c.monTaken := (Touches.refl _ _ c).advanceTo.setRf

theorem Chip.monTaken_rf : c.monTaken.rf = { c.rf with monAt := some (max (Sys2Proof.monStart c + rootPerMs) c.now) } := by
  have h : (c.advanceTo (Sys2Proof.monStart c + monSpan)).rf = c.rf := c.advanceTo_rf _
  unfold Chip.monTaken Chip.setRf
  dsimp only
  rw [h]

theorem Chip.monTaken_ilcBlind : c.monTaken.ilcBlind = c.ilcBlind := by
  have h := c.monTaken_keeps
  simp only [Chip.ilcBlind, h.bit (g := F.RF_CTRL_adc_en) (by decide), h.bit (g := F.RF_STAT_ovl) (by decide),
    h.bit (g := F.RF_STAT_protect) (by decide), c.monTaken_rf]

theorem Chip.monTaken_top (bins : List Byte) : Sys2Proof.monitorTop c.monTaken bins = Sys2Proof.monitorTop c bins := by
  simp only [Sys2Proof.monitorTop, c.monTaken_keeps F.RF_MON_CTRL_thr (by decide)]

/-! ## The peaks -/

/-- The place of peak `i` shows the peak that stands there, or is empty. -/
def PeakShown (top : List (Nat × Nat)) (i : Nat) (c : Chip) : Prop :=
  match top[i]? with
  | some e => c.bit (F.RF_MON_PEAK_valid i) = true ∧ c.get (F.RF_MON_PEAK_bin i) = (F.RF_MON_PEAK_bin i).cut e.2 ∧
      c.get (F.RF_MON_PEAK_lvl i) = (F.RF_MON_PEAK_lvl i).cut e.1
  | none => c.rd (R.RF_MON_PEAK i) = 0

theorem PeakShown.congr {top : List (Nat × Nat)} {i : Nat} {c d : Chip} (h : PeakShown top i c)
    (hrd : d.rd (R.RF_MON_PEAK i) = c.rd (R.RF_MON_PEAK i)) : PeakShown top i d := by
  have hget : ∀ f : Fld, f.addr = R.RF_MON_PEAK i → d.get f = c.get f := fun f hf => by simp only [Chip.get, hf, hrd]
  unfold PeakShown at h ⊢
  split at h
  · exact ⟨(congrArg (fun v => decide (v ≠ 0)) (hget _ rfl)).trans h.1, (hget _ rfl).trans h.2.1, (hget _ rfl).trans h.2.2⟩
  · exact hrd.trans h

theorem Chip.peakSet_shown (top : List (Nat × Nat)) (i : Nat) : PeakShown top i (Chip.peakSet top c i) := by
  have hvalid : (F.RF_MON_PEAK_valid i).freeOf [F.RF_MON_PEAK_bin i] = true ∧ (F.RF_MON_PEAK_valid i).freeOf [F.RF_MON_PEAK_lvl i] = true :=
    ⟨Fld.freeOf_same _ (by decide) (by decide), Fld.freeOf_same _ (by decide) (by decide)⟩
  have hbin : (F.RF_MON_PEAK_bin i).freeOf [F.RF_MON_PEAK_lvl i] = true := Fld.freeOf_same _ (by decide) (by decide)
  unfold PeakShown Chip.peakSet
  cases top[i]? with
  | some e =>
    refine ⟨?_, ?_, Chip.get_put_cut _ rfl _⟩
    · dsimp only
      rw [Chip.bit_put_free _ hvalid.2, Chip.bit_put_free _ hvalid.1]
      exact Chip.put_one_bit _ rfl rfl
    · dsimp only
      rw [Chip.get_put_free _ hbin]
      exact Chip.get_put_cut _ rfl _
  | none => exact Chip.rd_wr_self _ _ _

/-- The registers of the peaks. -/
def peakOwn (a : Nat) : Bool := within a (R.RF_MON_PEAK 0) (R.RF_MON_PEAK 7 + 3)

theorem peakOwn_peak {i : Nat} (hi : i < 8) : peakOwn (R.RF_MON_PEAK i) = true := by
  have h : ∀ n : Fin 8, peakOwn (R.RF_MON_PEAK n.val) = true := by decide +kernel
  exact h ⟨i, hi⟩

/-- A peak's place is one register. -/
theorem Chip.peakSet_touches (top : List (Nat × Nat)) (i : Nat) : Touches [] (fun a => a == R.RF_MON_PEAK i) c (Chip.peakSet top c i) := by
  have h := Touches.refl [] (fun a => a == R.RF_MON_PEAK i) c
  unfold Chip.peakSet
  split
  · exact ((h.put (beq_self_eq_true _)).put (beq_self_eq_true _)).put (beq_self_eq_true _)
  · exact h.wr (beq_self_eq_true _)

theorem Chip.peaks_touches (top : List (Nat × Nat)) : Touches [] peakOwn c ((List.range 8).foldl (Chip.peakSet top) c) :=
  (Touches.refl _ _ c).foldl fun i hi d => (d.peakSet_touches top i).mono (by decide) fun a ha => by
    rw [eq_of_beq ha]
    exact peakOwn_peak (List.mem_range.mp hi)

theorem Chip.peaksSet_touches (top : List (Nat × Nat)) : Touches [] (fun a => peakOwn a || a == R.RF_MON_SEQ) c (c.peaksSet top) :=
  Touches.incr ((c.peaks_touches top).mono (by decide) fun a ha => by simp [ha])

/-- Every place of a peak shows it once all were set. -/
theorem Chip.peaksSet_shown (top : List (Nat × Nat)) {i : Nat} (hi : i < 8) : PeakShown top i (c.peaksSet top) := by
  have hpeaks : PeakShown top i ((List.range 8).foldl (Chip.peakSet top) c) := by
    refine foldl_reaches (J := fun _ => True) (fun d _ => d.peakSet_shown top i) (List.range 8) (fun _ _ _ _ => trivial)
      (fun j _ d hd => ?_) (List.mem_range.mpr hi) c trivial
    by_cases hij : j = i
    · rw [hij]
      exact d.peakSet_shown top i
    · refine hd.congr ((d.peakSet_touches top j).rd _ (beq_eq_false_iff_ne.mpr ?_) ?_)
      · simp only [R.RF_MON_PEAK]
        omega
      · simp only [R.RF_MON_PEAK, R.PWR_TMR]
        omega
  refine hpeaks.congr (Chip.rd_wr_ne _ ?_ _)
  simp only [R.RF_MON_PEAK, F.RF_MON_SEQ_count, R.RF_MON_SEQ]
  omega

/-- The count of scans goes on by one. -/
theorem Chip.peaksSet_seq (top : List (Nat × Nat)) : (c.peaksSet top).rd R.RF_MON_SEQ = c.rd R.RF_MON_SEQ + 1 := by
  have hsame := (c.peaks_touches top).rd R.RF_MON_SEQ (by decide) (by decide)
  unfold Chip.peaksSet
  generalize (List.range 8).foldl (Chip.peakSet top) c = d at hsame ⊢
  rw [← hsame]
  have hget : (d.incr F.RF_MON_SEQ_count).get F.RF_MON_SEQ_count = F.RF_MON_SEQ_count.cut (d.get F.RF_MON_SEQ_count + 1) :=
    d.get_put_cut (f := F.RF_MON_SEQ_count) rfl _
  have hwhole : ∀ e : Chip, e.get F.RF_MON_SEQ_count = (e.rd R.RF_MON_SEQ).toNat := fun e => e.get_whole R.RF_MON_SEQ
  rw [hwhole, hwhole] at hget
  apply BitVec.eq_of_toNat_eq
  rw [BitVec.toNat_add]
  exact hget

/-! ## The row -/

theorem monitorScan_effect {c : Chip} (hp : Sys2Proof.paSafe c = true) (bins : List Byte) (hen : c.bit F.RF_CTRL_mon_en = true)
    (hlen : bins.length = 2048) (hsees : c.ilcBlind = false) (hblind : c.rf.blindTo < Int.ofNat (Sys2Proof.monStart c))
    (hin : Sys2Proof.monStart c + 4096 ≤ c.boundaryRoot) :
    (c.monitorScan bins).settle.rd R.RF_MON_SEQ = c.rd R.RF_MON_SEQ + 1 ∧
      (c.monitorScan bins).settle.now = (c.advanceTo (Sys2Proof.monStart c + 4096)).now ∧
      (c.monitorScan bins).settle.rf.monAt = some (max (Sys2Proof.monStart c + 192 * rootPerTick) c.now) ∧
      ∀ i < 8, PeakShown (Sys2Proof.monitorTop c bins) i (c.monitorScan bins).settle := by
  have hscan : c.monitorScan bins =
      (c.monTaken.peaksSet (Sys2Proof.monitorTop c bins)).notchScan ((Sys2Proof.monitorTop c bins).map (·.2)) := by
    rw [Chip.monitorScan_eq, c.monTaken_ilcBlind, c.monTaken_top, c.monTaken_rf]
    refine (if_neg ?_).trans (if_neg ?_)
    · have hin' : ¬c.boundaryRoot < Sys2Proof.monStart c + monSpan := Nat.not_lt.mpr hin
      simp [hen, hlen, hin']
    · rw [hsees, Bool.false_or, decide_eq_true_eq]
      exact Int.not_le.mpr hblind
  generalize Sys2Proof.monitorTop c bins = top at hscan ⊢
  have hpeaks := c.monTaken.peaksSet_touches top
  have hnotch := ((c.monTaken.peaksSet top).notchScan_moves (top.map (·.2))).touches
  rw [← hscan] at hnotch
  have hall : Touches [.gn] (fun a => peakOwn a || a == R.RF_MON_SEQ || notchOwn a) c.monTaken (c.monitorScan bins) :=
    (hpeaks.mono (by decide) fun a ha => by simp [ha]).trans (hnotch.mono (by decide) fun a ha => by simp [ha])
  have hrf : (c.monitorScan bins).rf = c.monTaken.rf := hall.rf (by decide)
  have hsafe : Sys2Proof.paSafe (c.monitorScan bins) = true := paSafe_of_touches hall (by decide) (by decide)
    (paSafe_of_keeps c.monTaken_keeps hp (by decide) (by rw [c.monTaken_rf]) (by rw [c.monTaken_rf]))
  refine ⟨?_, ?_, ?_, fun i hi => ?_⟩
  · rw [settle_rd_paSafe hsafe (by decide) (by decide), hnotch.rd _ (by decide) (by decide), Chip.peaksSet_seq,
      c.monTaken_touches.rd _ rfl (by decide)]
  · have hnow : (c.monitorScan bins).now = c.monTaken.now := hall.same .time (by decide)
    exact (Chip.settle_now _).trans hnow
  · rw [settle_rf_part hsafe RfSt.monAt fun _ _ => rfl, hrf, c.monTaken_rf]
    rfl
  · have hplace : ∀ n : Fin 8, flushReg (R.RF_MON_PEAK n.val) = false ∧ R.RF_MON_PEAK n.val ≠ R.GUARD_AIR_CNT ∧
        notchOwn (R.RF_MON_PEAK n.val) = false ∧ R.RF_MON_PEAK n.val ≠ R.PWR_TMR := by decide +kernel
    obtain ⟨hflush, hair, hown, htmr⟩ := hplace ⟨i, hi⟩
    exact (Chip.peaksSet_shown _ top hi).congr ((settle_rd_paSafe hsafe hflush hair).trans (hnotch.rd _ hown htmr))

end Sys2Proof.Machine
end

section
/-! PROOFS. The synthesiser, S, the end of a keyed interval and protect (R305 to R310). -/

-- One theorem at a time: many at once, each with a thread of its own, do not fit in memory.
set_option Elab.async false

namespace Sys2Proof.Machine

variable (c : Chip)

theorem Chip.showTx_levels : SameLevels c c.showTx := .of_active rfl

/-! ## The synthesiser (R305, R309) -/

section

variable {c : Chip}

/-- Where the PA is not keyed and a channel to tune to stands, the synthesiser retunes to it. -/
theorem synthRetune_effect (hen : c.bit F.RF_CTRL_tx_en = true) (hun : c.rf.keyed = false)
    (hnext : (c.nextTx.any fun t => decide (t.ch ≠ c.get F.RF_TX_STAT_ch) && decide (t.ch ≤ 6)) = true) :
    c.synthRetune.settle.bit F.RF_STAT_synth_lock = false ∧ c.synthRetune.settle.rf.posted = c.rf.posted ∧
      c.synthRetune.settle.evt.isOn Ev.RF_SYNTH_UNLOCK locNone = false ∧
      ∀ t, c.nextTx = some t → c.synthRetune.settle.get F.RF_TX_STAT_ch = F.RF_TX_STAT_ch.cut t.ch := by
  obtain ⟨t, ht, hch⟩ := (Option.any_eq_true _ _).mp hnext
  rw [Bool.and_eq_true, decide_eq_true_eq, decide_eq_true_eq] at hch
  obtain ⟨hne, hle⟩ := hch
  have hretune : c.synthRetune =
      (((c.put F.RF_TX_STAT_ch t.ch).put F.RF_STAT_synth_lock 0).levelOff Ev.RF_SYNTH_UNLOCK locNone).showTx := by
    rw [Chip.synthRetune, ht]
    exact if_neg (by simp [hen, hun, hne, hle])
  have htuned : KeepsFlds [F.RF_STAT_synth_lock, F.RF_TX_STAT_ch] c
      (((c.put F.RF_TX_STAT_ch t.ch).put F.RF_STAT_synth_lock 0).levelOff Ev.RF_SYNTH_UNLOCK locNone) :=
    (KeepsFlds.refl c).put.put.aside (Chip.levelOff_regs _ _ _)
  have hrf : c.synthRetune.rf = c.rf := by
    rw [hretune, Chip.showTx_rf, Chip.levelOff_rf]
    rfl
  have hsafe : Sys2Proof.paSafe c.synthRetune = true := paSafe_of_unkeyed (by rw [hrf, hun])
  rw [settle_bit_safe hsafe (by decide) (by decide), settle_rf_part hsafe RfSt.posted fun _ _ => rfl, hrf, Chip.settle_levels,
    settle_get_safe hsafe (by decide) (by decide), hretune, (Chip.showTx_keeps _).bit (by decide), Chip.showTx_levels,
    (Chip.showTx_keeps _) _ (by decide), Chip.bit, Chip.get_levelOff, Chip.get_levelOff]
  refine ⟨Chip.put_zero_bit _ rfl, rfl, Chip.levelOff_isOn _ _ _, fun t' ht' => ?_⟩
  rw [ht] at ht'
  cases ht'
  rw [Chip.get_put_free _ (by decide)]
  exact Chip.get_put_cut _ rfl _

theorem synthLock_effect (hp : Sys2Proof.paSafe c = true) (hen : c.bit F.RF_CTRL_tx_en = true)
    (hlock : c.bit F.RF_STAT_synth_lock = false) :
    c.synthLock.settle.bit F.RF_STAT_synth_lock = true ∧ c.synthLock.settle.evt.isOn Ev.RF_SYNTH_UNLOCK locNone = false := by
  have hlocked : c.synthLock = ((c.put F.RF_STAT_synth_lock 1).levelOff Ev.RF_SYNTH_UNLOCK locNone).showTx := by
    rw [Chip.synthLock, hen, hlock]
    rfl
  have hun : c.rf.keyed = false := unkeyed_of_paSafe hp (by simp [Chip.paAllowed, hlock])
  have hsafe : Sys2Proof.paSafe c.synthLock = true := paSafe_of_unkeyed (by
    rw [hlocked, Chip.showTx_rf, Chip.levelOff_rf]
    exact hun)
  rw [settle_bit_safe hsafe (by decide) (by decide), Chip.settle_levels, hlocked, (Chip.showTx_keeps _).bit (by decide),
    Chip.showTx_levels, Chip.bit, Chip.get_levelOff]
  exact ⟨Chip.put_one_bit _ rfl rfl, Chip.levelOff_isOn _ _ _⟩

/-- A cut of a keyed interval is shown. -/
theorem Chip.cutKeyed_shown (hkeyed : c.rf.keyed = true) : c.cutKeyed.bit F.RF_TX_STAT_cut = true := by
  have hcut : c.cutKeyed = (c.countAir.latch F.RF_TX_STAT_cut).endTx := if_pos hkeyed
  rw [hcut, (Chip.endTx_keeps _).bit (by decide)]
  exact Chip.bit_latch_self _ (by decide) rfl

theorem synthUnlock_effect (hlock : c.bit F.RF_STAT_synth_lock = true) :
    c.synthUnlock.settle.bit F.RF_STAT_synth_lock = false ∧ c.synthUnlock.settle.rf.keyed = false ∧
      c.synthUnlock.settle.evt.isOn Ev.RF_SYNTH_UNLOCK locNone = true ∧
      (c.rf.keyed = true → c.rf.cur.isSome = true → c.synthUnlock.settle.bit F.RF_TX_STAT_cut = true) := by
  have hlost : c.synthUnlock = (((c.put F.RF_STAT_synth_lock 0).levelOn Ev.RF_SYNTH_UNLOCK locNone 0).cutKeyed).showTx := by
    rw [Chip.synthUnlock, hlock]
    rfl
  have hkeyed : ((c.put F.RF_STAT_synth_lock 0).levelOn Ev.RF_SYNTH_UNLOCK locNone 0).rf.keyed = c.rf.keyed := by
    rw [Chip.levelOn_rf]
    rfl
  have hun : c.synthUnlock.rf.keyed = false := by
    rw [hlost, Chip.showTx_rf]
    exact Chip.cutKeyed_keyed _
  have hsafe := paSafe_of_unkeyed hun
  rw [settle_bit_safe hsafe (by decide) (by decide), settle_bit_safe hsafe (by decide) (by decide), Chip.settle_unkeyed _ hun,
    Chip.settle_levels, hlost, (Chip.showTx_keeps _).bit (by decide), (Chip.showTx_keeps _).bit (by decide), Chip.showTx_levels,
    Chip.cutKeyed_levels, (Chip.cutKeyed_keeps _).bit (by decide)]
  refine ⟨?_, rfl, Chip.levelOn_isOn _ _ _ _, fun hk _ => Chip.cutKeyed_shown (hkeyed.trans hk)⟩
  rw [Chip.bit, Chip.get_levelOn]
  exact Chip.put_zero_bit _ rfl

end

/-! ## S (R308) -/

theorem Chip.dropPosted_keeps (t : Tx) : KeepsFlds endFlds c (c.dropPosted t) := by
  unfold Chip.dropPosted
  exact .ite ((KeepsFlds.refl c).put.append (Chip.showTx_keeps _)) (c.showTx_keeps.mono (by simp [endFlds]))

theorem Chip.dropPosted_rf (t : Tx) : (c.dropPosted t).rf = c.rf := by
  unfold Chip.dropPosted
  split <;> rfl

theorem Chip.dropPosted_levels (t : Tx) : SameLevels c (c.dropPosted t) := by
  unfold Chip.dropPosted
  exact .ite ((c.put_levels _ _).trans (Chip.showTx_levels _)) c.showTx_levels

/-- What is decided at S of a transmission, the PA being off. -/
structure DecidedAtS (c d : Chip) (t : Tx) : Prop where
  keyed : d.rf.keyed = false
  posted : d.rf.posted = c.rf.posted
  decided : Sys2Proof.decidedAtS c d t

/-- A refused transmission is dropped. -/
theorem DecidedAtS.of_refused {d : Chip} {t : Tx} (hun : c.rf.keyed = false) (hrf : d.rf = c.rf)
    (h : Sys2Proof.decidedAtS c (d.dropPosted t) t) : DecidedAtS c (d.dropPosted t) t :=
  ⟨by rw [Chip.dropPosted_rf, hrf, hun], by rw [Chip.dropPosted_rf, hrf], h⟩

theorem Chip.checkAtS_decides (t : Tx) (hun : c.rf.keyed = false) : DecidedAtS c (c.checkAtS t) t := by
  have hcur : ∀ d : Chip, d.rf = c.rf → (d.dropPosted t).rf.cur = c.rf.cur := fun d hd => by rw [Chip.dropPosted_rf, hd]
  unfold Chip.checkAtS
  cases hgate : c.bit F.GUARD_GATE_tx with
  | false =>
    refine .of_refused c hun rfl ?_
    rw [Sys2Proof.decidedAtS, if_pos hgate, (Chip.dropPosted_keeps _ t).bit (by decide)]
    exact ⟨Chip.bit_latch_self _ (by decide) rfl, hcur _ rfl⟩
  | true =>
    cases hfuse : c.bit F.SYS_FEAT2_radio_fused with
    | false =>
      refine .of_refused c hun rfl ?_
      rw [Sys2Proof.decidedAtS, if_neg (by simp [hgate]), if_pos hfuse, (Chip.dropPosted_keeps _ t).bit (by decide)]
      exact ⟨Chip.bit_latch_self _ (by decide) rfl, hcur _ rfl⟩
    | true =>
      cases hroot : c.bit F.CLK_STAT_locked with
      | false =>
        refine .of_refused c hun rfl ?_
        rw [Sys2Proof.decidedAtS, if_neg (by simp [hgate]), if_neg (by simp [hfuse]), if_pos hroot,
          (Chip.dropPosted_keeps _ t).bit (by decide)]
        exact ⟨Chip.bit_latch_self _ (by decide) rfl, hcur _ rfl⟩
      | true =>
        cases hair : c.airAllows t.units with
        | false =>
          refine .of_refused c hun (Chip.levelOn_rf _ _ _ _) ?_
          rw [Sys2Proof.decidedAtS, if_neg (by simp [hgate]), if_neg (by simp [hfuse]), if_neg (by simp [hroot]), if_pos hair,
            Chip.dropPosted_levels]
          exact ⟨Chip.levelOn_isOn _ _ _ _, hcur _ (Chip.levelOn_rf _ _ _ _)⟩
        | true =>
          have hposted : (if c.pwrCeiling < t.pwr then c.raise Ev.RF_PWR_CLAMP locNone (BitVec.ofNat 32 t.pwr) else c).rf.posted =
              c.rf.posted := by split <;> rfl
          refine ⟨rfl, hposted, ?_⟩
          · rw [Sys2Proof.decidedAtS, if_neg (by simp [hgate]), if_neg (by simp [hfuse]), if_neg (by simp [hroot]), if_neg (by simp [hair])]
            rfl

/-- Of the device before S, what is decided reads no more than permits, ceilings and the transmission in hand; of the device after it,
no more than its refusals, the airtime and the transmission in hand. -/
theorem decidedAtS_congr {c c' d d' : Chip} {t : Tx} (hc : KeepsFlds [Fld.whole R.PWR_TMR] c c') (hcur : c'.rf.cur = c.rf.cur)
    (hd : ∀ f ∈ [F.RF_TX_STAT_ref_gate, F.RF_TX_STAT_ref_fuse, F.RF_TX_STAT_ref_root], d'.bit f = d.bit f) (hcur' : d'.rf.cur = d.rf.cur)
    (hlevels : SameLevels d d') (h : Sys2Proof.decidedAtS c' d t) : Sys2Proof.decidedAtS c d' t := by
  have hceiling : c'.airCeiling = c.airCeiling := by
    simp only [Chip.airCeiling, hc F.GUARD_RADIO_FUSE_air_max (by decide), hc F.GUARD_RADIO_LIM_air (by decide)]
  have hair : c'.airAllows t.units = c.airAllows t.units := by
    rw [Chip.airAllows, hceiling, hc F.GUARD_AIR_CNT_count (by decide), Chip.airAllows]
  simp only [List.mem_cons, List.not_mem_nil, or_false, forall_eq_or_imp, forall_eq] at hd
  obtain ⟨hgate, hfuse, hroot⟩ := hd
  simp only [Sys2Proof.decidedAtS, hgate, hfuse, hroot, hcur', hlevels _ _]
  simpa only [Sys2Proof.decidedAtS, hcur, hair, hc.bit (g := F.GUARD_GATE_tx) (by decide),
    hc.bit (g := F.SYS_FEAT2_radio_fused) (by decide), hc.bit (g := F.CLK_STAT_locked) (by decide),
    hc F.GUARD_RADIO_FUSE_pwr_max (by decide), hc F.GUARD_RADIO_LIM_pwr (by decide)] using h

section

variable {c : Chip}

theorem Chip.keyedEnd_unkeyed (h : c.rf.keyed = false ∨ c.rf.cur.isSome = true) : c.keyedEnd.rf.keyed = false := by
  unfold Chip.keyedEnd
  split
  next hnone =>
    rcases h with hk | hsome
    · exact hk
    · rw [hnone] at hsome
      cases hsome
  next t _ =>
    split
    next hk => simpa using hk
    · dsimp only
      split
      · exact Chip.cutKeyed_keyed _
      · exact Chip.endTx_keyed _

theorem transmissionStart_effect (hposted : c.rf.posted.isEmpty = false) (hready : c.rf.keyed = false ∨ c.rf.cur.isSome = true) :
    c.txStart.settle.rf.keyed = false ∧ ∀ t rest, c.rf.posted = t :: rest →
      c.txStart.settle.rf.posted = rest ∧ Sys2Proof.decidedAtS c.keyedEnd c.txStart.settle t := by
  obtain ⟨t, rest, hlist⟩ : ∃ t rest, c.rf.posted = t :: rest := by
    cases h : c.rf.posted with
    | nil => simp [h] at hposted
    | cons t rest => exact ⟨t, rest, rfl⟩
  have hend : c.keyedEnd.rf.keyed = false := Chip.keyedEnd_unkeyed hready
  have hstart : c.txStart = ((c.keyedEnd.advanceTo t.sAt).setRf fun r => { r with posted := rest }).checkAtS t := by
    rw [Chip.txStart, hlist]
  have hrf : (c.keyedEnd.advanceTo t.sAt).rf = c.keyedEnd.rf := Chip.advanceTo_rf _ _
  have hkeeps : KeepsFlds [Fld.whole R.PWR_TMR] c.keyedEnd ((c.keyedEnd.advanceTo t.sAt).setRf fun r => { r with posted := rest }) :=
    (KeepsFlds.refl _).advanceTo.setRf
  have hchecked := ((c.keyedEnd.advanceTo t.sAt).setRf fun r => { r with posted := rest }).checkAtS_decides t
    ((congrArg RfSt.keyed hrf :).trans hend)
  rw [← hstart] at hchecked
  have hsafe := paSafe_of_unkeyed hchecked.keyed
  refine ⟨Chip.settle_unkeyed _ hchecked.keyed, fun t' rest' hlist' => ?_⟩
  obtain ⟨rfl, rfl⟩ : t = t' ∧ rest = rest' := by simpa [hlist] using hlist'
  refine ⟨(settle_rf_part hsafe RfSt.posted fun _ _ => rfl).trans hchecked.posted, ?_⟩
  refine decidedAtS_congr hkeeps (congrArg RfSt.cur hrf :) (fun f hf => ?_) (settle_rf_part hsafe RfSt.cur fun _ _ => rfl)
    (Chip.settle_levels _) hchecked.decided
  have hkept : flushReg f.addr = false ∧ f.addr ≠ R.GUARD_AIR_CNT := by
    simp only [List.mem_cons, List.not_mem_nil, or_false] at hf
    rcases hf with rfl | rfl | rfl <;> exact ⟨by decide, by decide⟩
  exact settle_bit_safe hsafe hkept.1 hkept.2

/-! ## The end of a keyed interval, and protect (R307, R310) -/

theorem keyedEnd_effect (hcur : c.rf.cur.isSome = true) (hkeyed : c.rf.keyed = true) :
    c.keyedEnd.settle.rf.keyed = false ∧ c.keyedEnd.settle.rf.cur = none ∧ ∀ t, c.rf.cur = some t →
      c.keyedEnd.settle.get F.RF_TX_STAT_cut = if t.cutAt < t.endAt then 1 else c.get F.RF_TX_STAT_cut := by
  obtain ⟨t, ht⟩ := Option.isSome_iff_exists.mp hcur
  generalize hd : c.advanceTo (min t.endAt t.cutAt) = d
  have hrf : d.rf = c.rf := by
    rw [← hd]
    exact Chip.advanceTo_rf _ _
  have hkeeps : KeepsFlds [Fld.whole R.PWR_TMR] c d := by
    rw [← hd]
    exact (KeepsFlds.refl c).advanceTo
  have hstop : c.keyedEnd = if t.cutAt < t.endAt then (d.countAir.latch F.RF_TX_STAT_cut).endTx else d.countAir.endTx := by
    have hcut : d.cutKeyed = (d.countAir.latch F.RF_TX_STAT_cut).endTx := if_pos (by rw [hrf, hkeyed])
    rw [← hcut, Chip.keyedEnd, ht, ← hd]
    exact if_neg (by simp [hkeyed])
  have hend : c.keyedEnd.rf.keyed = false ∧ c.keyedEnd.rf.cur = none := by
    rw [hstop]
    split
    · rw [Chip.endTx_rf]
      exact ⟨rfl, rfl⟩
    · rw [Chip.endTx_rf]
      exact ⟨rfl, rfl⟩
  have hsafe := paSafe_of_unkeyed hend.1
  rw [settle_rf_part hsafe RfSt.keyed fun _ _ => rfl, settle_rf_part hsafe RfSt.cur fun _ _ => rfl,
    settle_get_safe hsafe (by decide) (by decide)]
  refine ⟨hend.1, hend.2, fun t' ht' => ?_⟩
  rw [ht] at ht'
  cases ht'
  rw [hstop]
  split
  · rw [(Chip.endTx_keeps _) _ (by decide)]
    exact Chip.get_latch_self _ (by decide)
  · rw [(Chip.endTx_keeps _) _ (by decide), (Chip.countAir_keeps _) _ (by decide)]
    exact hkeeps _ (by decide)

theorem protectStart_effect (hcur : c.rf.cur.isSome = true) (hun : c.rf.keyed = false) :
    c.protectStart.settle.bit F.RF_STAT_protect = true ∧ c.protectStart.settle.rf.cur = c.rf.cur := by
  obtain ⟨t, ht⟩ := Option.isSome_iff_exists.mp hcur
  have hstart : c.protectStart = (c.advanceTo (t.keyAt - 2950)).put F.RF_STAT_protect 1 := by
    rw [Chip.protectStart, ht]
    exact if_neg (by simp [hun])
  have hrf : c.protectStart.rf = c.rf := by
    rw [hstart, Chip.put_rf, Chip.advanceTo_rf]
  have hsafe : Sys2Proof.paSafe c.protectStart = true := paSafe_of_unkeyed (by rw [hrf, hun])
  rw [settle_bit_safe hsafe (by decide) (by decide), settle_rf_part hsafe RfSt.cur fun _ _ => rfl, hrf, hstart]
  exact ⟨Chip.put_one_bit _ rfl rfl, rfl⟩

/-- Protect is off. -/
theorem Chip.protectOff_bit : c.protectOff.bit F.RF_STAT_protect = false := by
  unfold Chip.protectOff
  split
  · exact Chip.put_zero_bit _ rfl
  next h => simpa using h

theorem Chip.protectOff_txState : TxState c c.protectOff := by
  unfold Chip.protectOff
  split <;> exact ⟨rfl, rfl, rfl⟩

theorem protectEnd_effect (hon : c.bit F.RF_STAT_protect = true) (hun : c.rf.keyed = false)
    (hnext : c.protectNext (max c.now (c.rf.endAt + 2950)) = false) : c.protectEnd.settle.bit F.RF_STAT_protect = false := by
  have hend : c.protectEnd = (c.advanceTo (max c.now (c.rf.endAt + 2950))).protectOff := by
    rw [Chip.protectEnd]
    exact if_neg (by simp [hon, hun, hnext])
  have hsafe : Sys2Proof.paSafe c.protectEnd = true := paSafe_of_unkeyed (by
    rw [hend, (Chip.protectOff_txState).keyed, Chip.advanceTo_rf, hun])
  rw [settle_bit_safe hsafe (by decide) (by decide), hend]
  exact Chip.protectOff_bit

end

end Sys2Proof.Machine
end

section
/-! PROOFS. Foreground calibration, and wake frames (R311, R312, R315 to R318). -/

-- One theorem at a time: many at once, each with a thread of its own, do not fit in memory.
set_option Elab.async false

namespace Sys2Proof.Machine

/-! ## Fields that software writes beside others that it only sets or clears -/

/-- A field that software writes as it likes, in a register that has others which it sets or clears. -/
def Fld.written (f : Fld) : Bool :=
  decide (regCanon f.addr = f.addr) &&
    (regRow? f.addr).any fun r => decide (f.mask &&& r.rw = f.mask) && decide (f.mask &&& r.w1s = 0) && decide (f.mask &&& r.w1c = 0)

variable (c : Chip)

theorem Chip.get_plainWrite_written {f : Fld} (hf : f.written = true) (v : Word) : (c.plainWrite f.addr v).get f = f.of v := by
  simp only [Fld.written, Bool.and_eq_true, decide_eq_true_eq, Option.any_eq_true] at hf
  obtain ⟨ha, row, hr, ⟨hm, hs⟩, hc⟩ := hf
  have hrd := c.rd_plainWrite_self hr v
  rw [ha] at hrd
  have hof : (c.plainWrite f.addr v).get f = f.of ((c.plainWrite f.addr v).rd f.addr) := rfl
  rw [hof, hrd]
  refine Fld.of_congr ?_
  simp only [RegRow.written]
  ext i hi
  have hmi := congrArg (fun w : Word => w[i]) hm
  have hsi := congrArg (fun w : Word => w[i]) hs
  have hci := congrArg (fun w : Word => w[i]) hc
  simp only [BitVec.getElem_and] at hmi hsi hci
  cases h : f.mask[i] <;> simp_all

/-- A field whose bits software sets, in a register that has others which it clears. -/
def Fld.settable (f : Fld) : Bool := decide (regCanon f.addr = f.addr) && (regRow? f.addr).any fun r => decide (f.mask &&& r.w1s = f.mask)

theorem Chip.bit_plainWrite_settable {f : Fld} (hf : f.settable = true) {v : Word} (hv : f.ofB v = true) :
    (c.plainWrite f.addr v).bit f = true := by
  simp only [Fld.settable, Bool.and_eq_true, decide_eq_true_eq, Option.any_eq_true] at hf
  obtain ⟨ha, row, hr, hm⟩ := hf
  have hrd := c.rd_plainWrite_self hr v
  rw [ha] at hrd
  have hset : f.of (v &&& row.w1s) = f.of v := by
    have h := Fld.of_merge hm 0 v
    rwa [BitVec.ofNat_eq_ofNat, BitVec.zero_and, BitVec.zero_or] at h
  have hne : f.of v ≠ 0 := by simpa [Fld.ofB] using hv
  have hget : (c.plainWrite f.addr v).get f = f.of ((c.plainWrite f.addr v).rd f.addr) := rfl
  simp only [Chip.bit, decide_eq_true_eq, hget, hrd, RegRow.written, Fld.of_or, hset]
  exact fun h0 => hne (Nat.or_eq_zero_iff.mp (Nat.or_eq_zero_iff.mp h0).1).2

theorem Chip.plainWrite_keeps {a : Nat} (ha : regCanon a = a) (v : Word) : KeepsFlds [Fld.whole a] c (c.plainWrite a v) := fun g hg =>
  (c.plainWrite_moves a v).get g (by rwa [ha])

/-- The transmit state that a calibration shows. -/
theorem Chip.txState_cal (hen : c.bit F.RF_CTRL_tx_en = true) (hcal : c.rf.cal.isSome = true)
    (hun : c.rf.keyed = false) (hwake : c.rf.cur.any Tx.isWake = false) : c.txState = 4 := by
  simp only [Chip.txState, hen, hcal, hun]
  cases hcur : c.rf.cur with
  | none => rfl
  | some t =>
    have ht : t.isWake = false := by simpa [hcur] using hwake
    simp [ht]

/-- The calibration of the idle run that begins now is begun. -/
def Chip.calBegun (iq : Bool) : Chip :=
  (c.setRf fun r => { r with cal := some iq, calTo := c.now + c.idleUnits c.unitNow * rootPerUnit }).showTx

theorem Chip.calBegun_tx (iq : Bool) (hen : c.bit F.RF_CTRL_tx_en = true) (hun : c.rf.keyed = false)
    (hwake : c.rf.cur.any Tx.isWake = false) : (c.calBegun iq).get F.RF_STAT_tx = 4 := by
  rw [Chip.calBegun, Chip.showTx_get]
  have h : ∀ d : Chip, d.bit F.RF_CTRL_tx_en = true → d.rf.cal.isSome = true → d.rf.keyed = false → d.rf.cur.any Tx.isWake = false →
      F.RF_STAT_tx.cut d.txState = 4 := fun d hen hcal hun hwake => by
    rw [d.txState_cal hen hcal hun hwake]
    rfl
  exact h _ hen rfl hun hwake

/-- Where the result of a calibration stands, of the transmitter's leakage or of its image, and where it is requested. -/
def resFld (iq : Bool) (k : Nat) : Fld := if iq then F.RF_CAL_RES_img_res k else F.RF_CAL_RES_lo_res k
def reqFld (iq : Bool) : Fld := if iq then F.RF_CAL_REQ_iq else F.RF_CAL_REQ_lo

/-- The result of a calibration is stored for channel `k`, and its request is met. -/
def Chip.calStored (iq : Bool) (k res : Nat) : Chip := ((c.put (F.RF_CAL_RES_valid k) 1).put (resFld iq k) res).put (reqFld iq) 0

/-- A result, its mark and the requests are apart, and apart from what the end of a calibration shows. -/
theorem calRes_apart : ∀ (k : Fin 7) (iq : Bool),
    (F.RF_CAL_RES_valid k.val).freeOf [reqFld iq, resFld iq k.val] = true ∧ (resFld iq k.val).freeOf [reqFld iq] = true ∧
      (F.RF_CAL_RES_valid k.val).freeOf [F.RF_STAT_tx] = true ∧ (resFld iq k.val).freeOf [F.RF_STAT_tx] = true ∧
      (reqFld iq).freeOf [F.RF_STAT_tx] = true := by decide +kernel

theorem calRes_kept : ∀ (k : Fin 7) (iq : Bool), flushReg (R.RF_CAL_RES k.val) = false ∧ R.RF_CAL_RES k.val ≠ R.GUARD_AIR_CNT ∧
    (resFld iq k.val).addr = R.RF_CAL_RES k.val ∧ (reqFld iq).addr = R.RF_CAL_REQ := by decide +kernel

theorem Chip.calStored_shown (iq : Bool) (k : Fin 7) (res : Byte) :
    (c.calStored iq k.val res.toNat).bit (F.RF_CAL_RES_valid k.val) = true ∧
      (c.calStored iq k.val res.toNat).get (resFld iq k.val) = res.toNat ∧ (c.calStored iq k.val res.toNat).bit (reqFld iq) = false := by
  obtain ⟨hvalid, hres, -⟩ := calRes_apart k iq
  refine ⟨?_, ?_, ?_⟩
  · rw [Chip.calStored, KeepsFlds.bit (KeepsFlds.refl _).put.put hvalid]
    exact Chip.put_one_bit _ rfl rfl
  · rw [Chip.calStored, Chip.get_put_free _ hres]
    cases iq
    · exact (Chip.get_put_cut _ rfl _).trans (Nat.mod_eq_of_lt res.isLt)
    · exact (Chip.get_put_cut _ rfl _).trans (Nat.mod_eq_of_lt res.isLt)
  · cases iq
    · exact Chip.put_zero_bit _ rfl
    · exact Chip.put_zero_bit _ rfl

/-- CAL_COMPLETE within the run. -/
theorem Chip.calComplete_eq {iq : Bool} (hcal : c.rf.cal = some iq) (hidle : c.unitCode c.unitNow = 0) (hin : c.now ≤ c.rf.calTo)
    (res : Nat) : c.calComplete res = ((c.calStored iq (c.get F.RF_TX_STAT_ch) res).calEnd.raise Ev.RF_CAL_DONE locNone
      (BitVec.ofNat 32 (c.get F.RF_TX_STAT_ch + 256 * b2n iq))).showTx := by
  unfold Chip.calComplete
  rw [hcal]
  exact if_neg (by omega)

/-- A write of `go` while none is pending: the frame is refused, or posted with the channel and the power written with it. -/
theorem Chip.writeWakeTx_eq {v : Word} (hv : F.RF_WAKE_TX_CTRL_go.ofB v = true) (hidle : c.bit F.RF_WAKE_TX_CTRL_go = false) :
    c.writeWakeTx v =
      if !c.bit F.RF_CTRL_tx_en || c.givesTx || c.rf.cal.isSome then
        ((c.plainWrite R.RF_WAKE_TX_CTRL v).put F.RF_WAKE_TX_CTRL_go 0).latch F.RF_WAKE_TX_CTRL_ref
      else (c.plainWrite R.RF_WAKE_TX_CTRL v).postTx ⟨c.nextSuperframe / 3, 52,
        if F.RF_WAKE_TX_CTRL_ch.of v = 7 then 0 else F.RF_WAKE_TX_CTRL_ch.of v, F.RF_WAKE_TX_CTRL_pwr.of v,
        .wake (BitVec.ofNat 64 (c.rd64 R.RF_WAKE_TX_LO R.RF_WAKE_TX_HI))⟩ := by
  have hch := c.get_plainWrite_written (f := F.RF_WAKE_TX_CTRL_ch) (by decide +kernel) v
  have hpwr := c.get_plainWrite_written (f := F.RF_WAKE_TX_CTRL_pwr) (by decide +kernel) v
  have hcanon : regCanon R.RF_WAKE_TX_CTRL = R.RF_WAKE_TX_CTRL := by decide +kernel
  have hcode : (c.plainWrite R.RF_WAKE_TX_CTRL v).rd64 R.RF_WAKE_TX_LO R.RF_WAKE_TX_HI = c.rd64 R.RF_WAKE_TX_LO R.RF_WAKE_TX_HI := by
    simp only [Chip.rd64, c.rd_plainWrite_ne (a := R.RF_WAKE_TX_CTRL) (b := R.RF_WAKE_TX_LO) (by rw [hcanon]; decide),
      c.rd_plainWrite_ne (a := R.RF_WAKE_TX_CTRL) (b := R.RF_WAKE_TX_HI) (by rw [hcanon]; decide)]
  have hsf : (c.plainWrite R.RF_WAKE_TX_CTRL v).nextSuperframe = c.nextSuperframe := by
    rw [Chip.nextSuperframe, c.plainWrite_time, Chip.nextSuperframe]
  unfold Chip.writeWakeTx
  extract_lets busy c1 ch
  have hch1 : ch = F.RF_WAKE_TX_CTRL_ch.of v := hch
  have hpwr1 : c1.get F.RF_WAKE_TX_CTRL_pwr = F.RF_WAKE_TX_CTRL_pwr.of v := hpwr
  have hcode1 : c1.rd64 R.RF_WAKE_TX_LO R.RF_WAKE_TX_HI = c.rd64 R.RF_WAKE_TX_LO R.RF_WAKE_TX_HI := hcode
  have hsf1 : c1.nextSuperframe = c.nextSuperframe := hsf
  have hbusy : busy = false := hidle
  rw [hv, hbusy, hch1, hpwr1, hcode1, hsf1]
  exact if_neg (by decide)

theorem calStart_effect {c : Chip} (hreq : (c.bit F.RF_CAL_REQ_lo || c.bit F.RF_CAL_REQ_iq) = true) (hen : c.bit F.RF_CTRL_tx_en = true)
    (hlock : c.bit F.RF_STAT_synth_lock = true) (hcal : c.rf.cal.isSome = false) (hwake : Sys2Proof.wakeInAir c = false)
    (hun : c.rf.keyed = false)
    (hidle : (c.advanceTo c.unitAt).idleRun (c.advanceTo c.unitAt).unitNow (if c.bit F.RF_CAL_REQ_lo then 2 else 4) = true) :
    c.calStart.settle.rf.cal = some (!c.bit F.RF_CAL_REQ_lo) ∧
      c.calStart.settle.rf.calTo =
        (c.advanceTo c.unitAt).now + (c.advanceTo c.unitAt).idleUnits (c.advanceTo c.unitAt).unitNow * rootPerUnit ∧
      c.calStart.settle.get F.RF_STAT_tx = 4 ∧ c.calStart.settle.rd R.RF_CAL_REQ = c.rd R.RF_CAL_REQ := by
  have hany : (match c.rf.cur with
    | some t => t.isWake
    | none => false) = false := by
    cases hcur : c.rf.cur with
    | none => rfl
    | some t => simpa [Sys2Proof.wakeInAir, hcur] using hwake
  have hbegun : c.calStart = (c.advanceTo c.unitAt).calBegun (!c.bit F.RF_CAL_REQ_lo) := by
    unfold Chip.calStart
    extract_lets lo iq c1 wake
    refine if_neg ?_
    have hwake' : wake = false := hany
    have hreq' : (lo || iq) = true := hreq
    have hidle' : c1.idleRun c1.unitNow (if lo = true then 2 else 4) = true := hidle
    simp [hreq', hen, hlock, hcal, hwake', hun, hidle']
  have hrf : (c.advanceTo c.unitAt).rf = c.rf := c.advanceTo_rf _
  have htouch : RfTouches c (c.advanceTo c.unitAt) := c.advanceTo_rf_touches _
  have henat : (c.advanceTo c.unitAt).bit F.RF_CTRL_tx_en = true := ((KeepsFlds.refl c).advanceTo.bit (by decide)).trans hen
  have hreg : (c.advanceTo c.unitAt).rd R.RF_CAL_REQ = c.rd R.RF_CAL_REQ :=
    (Touches.advanceTo (Touches.refl [.time] (fun _ => false) c)).rd _ rfl (by decide)
  rw [hbegun]
  generalize c.advanceTo c.unitAt = e at hrf henat hreg ⊢
  have hkeyed : (e.calBegun (!c.bit F.RF_CAL_REQ_lo)).rf.keyed = false := (congrArg RfSt.keyed hrf).trans hun
  have hsafe := paSafe_of_unkeyed hkeyed
  rw [settle_rf_part hsafe RfSt.cal fun _ _ => rfl, settle_rf_part hsafe RfSt.calTo fun _ _ => rfl,
    settle_get_safe hsafe (by decide) (by decide), settle_rd_paSafe hsafe (by decide) (by decide)]
  refine ⟨rfl, rfl, ?_, ?_⟩
  · exact e.calBegun_tx _ henat ((congrArg RfSt.keyed hrf).trans hun) ((congrArg (fun r : RfSt => r.cur.any Tx.isWake) hrf).trans hwake)
  · rw [← hreg]
    exact Chip.rd_put_of_free _ _ _ (by decide)

/-- A transmission stands among the posted ones. -/
theorem Chip.postTx_mem (t : Tx) : t ∈ (c.postTx t).rf.posted := by simp [Chip.postTx, Chip.setRf]

section

variable {c : Chip} (hp : Sys2Proof.paSafe c = true)
include hp

/-! ## Calibration (R311, R312) -/

/-- A plain write of a register that does not permit the PA shows the 1 that it sets. -/
theorem calRequest_effect {f : Fld} (hf : f = F.RF_CAL_REQ_lo ∨ f = F.RF_CAL_REQ_iq) {v : Word} (hv : f.ofB v = true) :
    (c.writeCalReq v).settle.bit f = true := by
  have haddr : f.addr = R.RF_CAL_REQ := by rcases hf with rfl | rfl <;> rfl
  have hset : f.setting = true := by rcases hf with rfl | rfl <;> decide +kernel
  have hrf : (c.writeCalReq v).rf = c.rf := c.plainWrite_rf v R.RF_CAL_REQ
  have hsafe : Sys2Proof.paSafe (c.writeCalReq v) = true := paSafe_of_keeps (c.plainWrite_keeps (a := R.RF_CAL_REQ) (by decide +kernel) v)
    hp (by decide) (by rw [hrf]) (by rw [hrf])
  have hbit := c.bit_plainWrite_set hset hv
  rw [settle_bit_safe hsafe (by rw [haddr]; decide) (by rw [haddr]; decide), Chip.writeCalReq, ← haddr]
  exact hbit

/-- A calibration within its run ends with its result. -/
theorem calComplete_shown (res : Byte) {iq : Bool} (hcal : c.rf.cal = some iq) (hidle : c.unitCode c.unitNow = 0)
    (hin : c.now ≤ c.rf.calTo) (k : Fin 7) (hk : c.get F.RF_TX_STAT_ch = k.val) :
    (c.calComplete res.toNat).settle.rf.cal = none ∧ (c.calComplete res.toNat).settle.bit (F.RF_CAL_RES_valid k.val) = true ∧
      (c.calComplete res.toNat).settle.get (resFld iq k.val) = res.toNat ∧
      (c.calComplete res.toNat).settle.bit (reqFld iq) = false := by
  have hun : c.rf.keyed = false := unkeyed_of_paSafe hp (by simp [Chip.paAllowed, hcal])
  obtain ⟨hvalid, hres, hreq⟩ := c.calStored_shown iq k res
  obtain ⟨-, -, hvfree, hrfree, hqfree⟩ := calRes_apart k iq
  obtain ⟨hflush, hair, hresAt, hreqAt⟩ := calRes_kept k iq
  have hdone := c.calComplete_eq hcal hidle hin res.toNat
  rw [hk] at hdone
  have hrf : (c.calStored iq k.val res.toNat).rf = c.rf := rfl
  generalize c.calStored iq k.val res.toNat = e at hdone hvalid hres hreq hrf
  have hend : KeepsFlds [F.RF_STAT_tx] e (c.calComplete res.toNat) := by
    rw [hdone]
    exact KeepsFlds.append (e.calEnd_keeps.aside rfl) (Chip.showTx_keeps _)
  have hsafe : Sys2Proof.paSafe (c.calComplete res.toNat) = true := paSafe_of_unkeyed (by
    rw [hdone, Chip.showTx_rf, Chip.raise_rf, e.calEnd_rx.2.2, hrf, hun])
  rw [settle_rf_part hsafe RfSt.cal fun _ _ => rfl, settle_bit_safe hsafe hflush hair,
    settle_bit_safe hsafe (f := reqFld iq) (by rw [hreqAt]; decide) (by rw [hreqAt]; decide),
    settle_get_safe hsafe (f := resFld iq k.val) (by rw [hresAt]; exact hflush) (by rw [hresAt]; exact hair),
    hend.bit hvfree, hend _ hrfree, hend.bit hqfree]
  refine ⟨?_, hvalid, hres, hreq⟩
  rw [hdone, Chip.showTx_rf, Chip.raise_rf, Chip.calEnd_cal]

theorem calComplete_effect (res : Byte) (hcal : c.rf.cal.isSome = true) (hidle : c.unitCode c.unitNow = 0)
    (hin : c.now ≤ c.rf.calTo) (hch : c.get F.RF_TX_STAT_ch < 7) :
    (c.calComplete res.toNat).settle.rf.cal = none ∧
      (c.calComplete res.toNat).settle.bit (F.RF_CAL_RES_valid (c.get F.RF_TX_STAT_ch)) = true ∧
      (c.rf.cal = some false → (c.calComplete res.toNat).settle.get (F.RF_CAL_RES_lo_res (c.get F.RF_TX_STAT_ch)) = res.toNat ∧
        (c.calComplete res.toNat).settle.bit F.RF_CAL_REQ_lo = false) ∧
      (c.rf.cal = some true → (c.calComplete res.toNat).settle.get (F.RF_CAL_RES_img_res (c.get F.RF_TX_STAT_ch)) = res.toNat ∧
        (c.calComplete res.toNat).settle.bit F.RF_CAL_REQ_iq = false) := by
  obtain ⟨iq, hiq⟩ := Option.isSome_iff_exists.mp hcal
  obtain ⟨hnone, hvalid, hres, hreq⟩ := calComplete_shown hp res hiq hidle hin ⟨_, hch⟩ rfl
  refine ⟨hnone, hvalid, fun hlo => ?_, fun himg => ?_⟩
  · obtain rfl : iq = false := Option.some.inj (hiq.symm.trans hlo)
    exact ⟨hres, hreq⟩
  · obtain rfl : iq = true := Option.some.inj (hiq.symm.trans himg)
    exact ⟨hres, hreq⟩

/-! ## Wake frames (R316 to R318) -/

theorem wakeFrame_effect (n : Bool) (code : Nat) (hmatch : c.wakeMatch n code = true) :
    (c.wakeFrame n code).settle.bit (if n then F.RF_WAKE_STAT_hit1 else F.RF_WAKE_STAT_hit0) = true := by
  have hfld : ∃ f : Fld, (if n then F.RF_WAKE_STAT_hit1 else F.RF_WAKE_STAT_hit0) = f ∧ f.lo + f.width ≤ 32 ∧ f.width = 1 ∧
      f.addr = R.RF_WAKE_STAT := by
    cases n
    · exact ⟨_, rfl, by decide, rfl, rfl⟩
    · exact ⟨_, rfl, by decide, rfl, rfl⟩
  obtain ⟨f, hf, hfits, hw, haddr⟩ := hfld
  have hframe : c.wakeFrame n code =
      if (c.latch f).get F.PWR_STAT_state = 1 then (c.latch f).raise Ev.RF_WAKE locNone (BitVec.ofNat 32 (b2n n)) else c.latch f := by
    rw [← hf, Chip.wakeFrame, hmatch]
    rfl
  have htouch : Touches [] (fun a => a == R.RF_WAKE_STAT) c (c.wakeFrame n code) := by
    have hlatch : Touches [] (fun a => a == R.RF_WAKE_STAT) c (c.latch f) := (Touches.refl _ _ c).latch (by rw [haddr]; rfl)
    rw [hframe]
    exact hlatch.raise.ite hlatch
  have hsafe : Sys2Proof.paSafe (c.wakeFrame n code) = true := paSafe_of_touches htouch (by decide) (by decide) hp
  have hregs : (c.wakeFrame n code).regs = (c.latch f).regs := by
    rw [hframe]
    split <;> rfl
  rw [hf, settle_bit_safe hsafe (by rw [haddr]; decide) (by rw [haddr]; decide), Chip.bit_congr hregs]
  exact Chip.bit_latch_self _ hfits hw

theorem wakeTxGo_effect {v : Word} (hv : F.RF_WAKE_TX_CTRL_go.ofB v = true) (hidle : c.bit F.RF_WAKE_TX_CTRL_go = false) :
    if c.bit F.RF_CTRL_tx_en = false ∨ c.givesTx = true ∨ c.rf.cal.isSome = true then
      (c.writeWakeTx v).settle.bit F.RF_WAKE_TX_CTRL_ref = true ∧ (c.writeWakeTx v).settle.bit F.RF_WAKE_TX_CTRL_go = false ∧
        (c.writeWakeTx v).settle.rf.posted = c.rf.posted
    else (c.writeWakeTx v).settle.bit F.RF_WAKE_TX_CTRL_go = true ∧
      (⟨c.nextSuperframe / 3, 52, if F.RF_WAKE_TX_CTRL_ch.of v = 7 then 0 else F.RF_WAKE_TX_CTRL_ch.of v, F.RF_WAKE_TX_CTRL_pwr.of v,
        .wake (BitVec.ofNat 64 (c.rd64 R.RF_WAKE_TX_LO R.RF_WAKE_TX_HI))⟩ : Tx) ∈ (c.writeWakeTx v).settle.rf.posted := by
  have hwrite := c.writeWakeTx_eq hv hidle
  have hkeeps : KeepsFlds [Fld.whole R.RF_WAKE_TX_CTRL] c (c.plainWrite R.RF_WAKE_TX_CTRL v) :=
    c.plainWrite_keeps (a := R.RF_WAKE_TX_CTRL) (by decide +kernel) v
  have hrf : (c.plainWrite R.RF_WAKE_TX_CTRL v).rf = c.rf := c.plainWrite_rf v R.RF_WAKE_TX_CTRL
  have hgo := c.bit_plainWrite_settable (f := F.RF_WAKE_TX_CTRL_go) (by decide +kernel) hv
  split
  next hbusy =>
    rw [if_pos (by simpa [or_assoc] using hbusy)] at hwrite
    have hsafe : Sys2Proof.paSafe (c.writeWakeTx v) = true := by
      rw [hwrite]
      exact paSafe_of_keeps hkeeps.put.latch hp (by decide) (congrArg RfSt.keyed hrf :) (congrArg RfSt.cal hrf :)
    rw [settle_bit_safe hsafe (by decide) (by decide), settle_bit_safe hsafe (by decide) (by decide),
      settle_rf_part hsafe RfSt.posted fun _ _ => rfl, hwrite]
    refine ⟨Chip.bit_latch_self _ (by decide) rfl, ?_, (congrArg RfSt.posted hrf :)⟩
    rw [KeepsFlds.bit (KeepsFlds.refl _).latch (by decide)]
    exact Chip.put_zero_bit _ rfl
  next hfree =>
    rw [if_neg (by simpa [and_assoc] using hfree)] at hwrite
    have hsafe : Sys2Proof.paSafe (c.writeWakeTx v) = true := by
      rw [hwrite]
      exact paSafe_of_keeps hkeeps.setRf hp (by decide) (congrArg RfSt.keyed hrf :) (congrArg RfSt.cal hrf :)
    rw [settle_bit_safe hsafe (by decide) (by decide), settle_rf_part hsafe RfSt.posted fun _ _ => rfl, hwrite]
    exact ⟨hgo, Chip.postTx_mem _ _⟩

end

end Sys2Proof.Machine
end

section
/-! PROOFS. TX_KEY: what is keyed at K, what it carries, and what is not keyed (R307 to R310, R359, R360, R365, R367). -/

-- One theorem at a time: many at once, each with a thread of its own, do not fit in memory.
set_option Elab.async false

namespace Sys2Proof.Machine

variable (c : Chip)

/-! ## The stages of TX_KEY -/

/-- The transmission in hand is over before it was keyed. -/
def Chip.txDropped : Chip := c.endTx.protectOff

/-- The PA is keyed, its slot units are counted, and protect is on. -/
def Chip.txKeyed (t : Tx) : Chip := ((c.setRf fun r => { r with keyed := true, air := t.symbols }).countAir).put F.RF_STAT_protect 1

/-- An uplink is noted by the superframe that it is sent in. -/
def Chip.uplinkNoted (t : Tx) : Chip :=
  if t.hdrType = 3 then { c with lnk := { c.lnk with sentUp := c.lnk.sentUp ++ [(t.s / 128, c.get F.LNK_STAT_node)] } } else c

theorem Chip.txKey_eq {t : Tx} (ht : c.rf.cur = some t) (hun : c.rf.keyed = false) : c.txKey =
    if (c.advanceTo t.keyAt).rf.cal.isSome then (c.advanceTo t.keyAt).txDropped
    else if !(c.advanceTo t.keyAt).bit F.GUARD_GATE_tx then ((c.advanceTo t.keyAt).latch F.RF_TX_STAT_ref_gate).txDropped
    else if !(c.advanceTo t.keyAt).bit F.CLK_STAT_locked then ((c.advanceTo t.keyAt).latch F.RF_TX_STAT_ref_root).txDropped
    else if !(c.advanceTo t.keyAt).bit F.RF_STAT_synth_lock || decide ((c.advanceTo t.keyAt).get F.RF_TX_STAT_ch ≠ t.ch) then
      ((((c.advanceTo t.keyAt).latch F.RF_TX_STAT_late).bump F.RF_TX_LATE_CNT_count).raise Ev.TX_LATE locNone
        (BitVec.ofNat 32 (t.s % 128))).txDropped
    else (((c.advanceTo t.keyAt).txKeyed t).uplinkNoted t).showTx := by
  unfold Chip.txKey
  rw [ht]
  exact if_neg (by simp [hun])

/-! ## What is not keyed -/

theorem Chip.protectOff_keeps : KeepsFlds [F.RF_STAT_protect] c c.protectOff := by
  unfold Chip.protectOff
  exact .ite (KeepsFlds.refl c).put.setRf ((KeepsFlds.refl c).mono (by simp))

theorem Chip.txDropped_keeps : KeepsFlds (F.RF_STAT_protect :: endFlds) c c.txDropped := c.endTx_keeps.append (Chip.protectOff_keeps _)

theorem Chip.txDropped_rf : c.txDropped.rf.keyed = false ∧ c.txDropped.rf.cur = none := by
  have h := c.endTx.protectOff_txState
  rw [Chip.txDropped, h.keyed, h.cur, Chip.endTx_rf]
  exact ⟨rfl, rfl⟩

/-- What was dropped carries nothing. -/
theorem Chip.keyTx_dropped {d : Chip} (h : c.txKey = d.txDropped) : c.keyTx = d.txDropped := by
  unfold Chip.keyTx
  rw [h]
  dsimp only
  rw [d.txDropped_rf.2]

/-- At the end of a command the PA is not keyed where it may not be, and what was keyed is over. -/
theorem Chip.settle_cut (hk : c.rf.keyed = true) (h : c.paAllowed = false) : c.settle.rf.keyed = false ∧ c.settle.rf.cur = none := by
  have hsafe : Sys2Proof.paSafe c = false := by simp [Sys2Proof.paSafe, hk, h]
  have hheld : Sys2Proof.paSafe c.flush.countAir = false := by rw [Chip.countAir_paSafe, Chip.flush_paSafe, hsafe]
  simp only [Sys2Proof.paSafe, Bool.or_eq_false_iff, Bool.not_eq_false'] at hheld
  have hcut : c.paHeld = (c.flush.countAir.countAir.latch F.RF_TX_STAT_cut).endTx := by
    rw [Chip.paHeld, Chip.holdPa, hheld.2]
    exact if_pos hheld.1
  have hrf : c.settle.rf = c.paHeld.rf := by rw [c.settle_eq, Chip.endHeldPulse_rf, Chip.endHeldPulse_rf]
  rw [hrf, hcut, Chip.endTx_rf]
  exact ⟨rfl, rfl⟩

end Sys2Proof.Machine
end

section
/-! PROOFS. TX_KEY: the PA is keyed, and what a keyed transmission carries (R307, R359, R360, R365, R367). -/

-- One theorem at a time: many at once, each with a thread of its own, do not fit in memory.
set_option Elab.async false

namespace Sys2Proof.Machine

variable (c : Chip)

/-! ## What a burst says of the node -/

/-- The same link state, and the same registers of the link. -/
structure SameNode (c d : Chip) : Prop where
  lnk : d.lnk = c.lnk
  rd : ∀ a, within a 0x400B0000 0x400B0FFF = true → d.rd a = c.rd a

namespace SameNode

variable {c d : Chip} (h : SameNode c d)
include h

theorem get {f : Fld} (hf : within f.addr 0x400B0000 0x400B0FFF = true := by decide) : d.get f = c.get f := by simp only [Chip.get, h.rd _ hf]

theorem header (type node : Nat) (bwm un mod8 : Bool) (nb ncw : Nat) (own : List Byte) :
    d.header type node bwm un mod8 nb ncw own = c.header type node bwm un mod8 nb ncw own := by simp only [Chip.header, h.get (f := F.LNK_DROVE_drove)]

theorem beaconBody (s : Nat) (ws : List (List Byte)) : d.beaconBody s ws = c.beaconBody s ws := by
  have hchan : d.chanOf (s / 128) = c.chanOf (s / 128) := by simp only [Chip.chanOf, h.lnk, h.get (f := F.LNK_STAT_ch)]
  simp only [Chip.beaconBody, hchan, h.header, Chip.lctl, h.lnk]

theorem beaconWord0 (j : Nat) : d.beaconWord0 j = c.beaconWord0 j := by
  simp only [Chip.beaconWord0, h.lnk, h.get (f := F.LNK_PROBE_valid), h.get (f := F.LNK_PROBE_node), h.rd R.LNK_PROBE_SF_LO (by decide),
    h.rd R.LNK_PROBE_SF_HI (by decide), h.rd R.LNK_MEMBERS (by decide)]

theorem beaconWord1 (j : Nat) (gs : List Grant) : d.beaconWord1 j gs = c.beaconWord1 j gs := by simp only [Chip.beaconWord1, h.lnk]

end SameNode

/-- An uplink's header is read from the registers of the link. -/
theorem uplinkHdr_congr {c d : Chip} (h : ∀ a, within a 0x400B0000 0x400B0FFF = true → d.rd a = c.rd a) : d.uplinkHdr = c.uplinkHdr := by
  have hfoul : d.foulCount = c.foulCount := by
    have hword : ∀ u ∈ List.range 128, d.rd (R.LNK_FOUL (u / 32)) = c.rd (R.LNK_FOUL (u / 32)) := fun u hu => h _ (by
      have hin : ∀ n : Fin 4, within (R.LNK_FOUL n.val) 0x400B0000 0x400B0FFF = true := by decide +kernel
      have hlt := List.mem_range.mp hu
      exact hin ⟨u / 32, by omega⟩)
    unfold Chip.foulCount
    exact congrArg List.length (List.filter_congr fun u hu => by rw [hword u hu])
  have hdrove : d.get F.LNK_DROVE_drove = c.get F.LNK_DROVE_drove := by simp only [Chip.get, h F.LNK_DROVE_drove.addr (by decide)]
  have hnode : d.get F.LNK_STAT_node = c.get F.LNK_STAT_node := by simp only [Chip.get, h F.LNK_STAT_node.addr (by decide)]
  have hstate : d.lkState = c.lkState := by simp only [Chip.lkState, Chip.get, h F.LNK_STAT_state.addr (by decide)]
  simp only [Chip.uplinkHdr, Chip.header, hfoul, hdrove, hnode, hstate]

/-! ## The PA is keyed -/

/-- The slot units that were keyed up to now, and not counted before, are added to the airtime (R291, R292). -/
theorem Chip.countAir_count {c : Chip} {t : Tx} (ht : c.rf.cur = some t) (hk : c.rf.keyed = true) :
    c.countAir.get F.GUARD_AIR_CNT_count = min (c.get F.GUARD_AIR_CNT_count + (t.unitsBy c.now - c.rf.counted)) 65535 := by
  have hlt : c.get F.GUARD_AIR_CNT_count < 65536 := c.get_lt F.GUARD_AIR_CNT_count
  unfold Chip.countAir
  rw [ht]
  dsimp only
  split
  · rw [Chip.get_setRf, Chip.get_put_cut _ rfl]
    exact Nat.mod_eq_of_lt (by
      have : min (c.get F.GUARD_AIR_CNT_count + (t.unitsBy c.now - c.rf.counted)) 65535 ≤ 65535 := Nat.min_le_right _ _
      exact Nat.lt_of_le_of_lt this (by decide))
  next hnew =>
    have hnot : ¬c.rf.counted < t.unitsBy c.now := fun h => hnew ⟨hk, h⟩
    have hle : t.unitsBy c.now - c.rf.counted = 0 := by omega
    rw [hle, Nat.add_zero, Nat.min_eq_left (by omega)]

theorem Chip.countAir_now : c.countAir.now = c.now := by
  unfold Chip.countAir
  split
  · dsimp only
    split <;> rfl
  · rfl

theorem Chip.countAir_lnk : c.countAir.lnk = c.lnk := by
  unfold Chip.countAir
  split
  · dsimp only
    split <;> rfl
  · rfl

/-- The registers that show that the PA is keyed, and for what: the members that a beacon's grants add. -/
def keyFlds : List Fld := [F.RF_STAT_tx, F.RF_STAT_protect, F.GUARD_AIR_CNT_count, Fld.whole R.LNK_MEMBERS]

/-- From `c` to `d` the PA was keyed with `t` in hand. -/
structure KeyedWith (t : Tx) (c d : Chip) : Prop where
  keeps : KeepsFlds keyFlds c d
  cur : d.rf.cur = some t
  keyed : d.rf.keyed = true
  cal : d.rf.cal = c.rf.cal
  air : d.rf.air = t.symbols
  counted : Sys2Proof.airSafe d = true
  now : d.now = c.now
  protect : d.bit F.RF_STAT_protect = true
  count : d.get F.GUARD_AIR_CNT_count = min (c.get F.GUARD_AIR_CNT_count + (t.unitsBy c.now - c.rf.counted)) 65535

/-- What moves neither the transmitter nor time, nor a register but the shown state. -/
theorem KeyedWith.aside {t : Tx} {c d e : Chip} (h : KeyedWith t c d) (hk : KeepsFlds [F.RF_STAT_tx] d e) (hrf : e.rf = d.rf)
    (hnow : e.now = d.now) : KeyedWith t c e := by
  refine ⟨fun g hg => ?_, by rw [hrf, h.cur], by rw [hrf, h.keyed], by rw [hrf, h.cal], by rw [hrf, h.air],
    (airSafe_congr hrf hnow).trans h.counted, hnow.trans h.now, (hk.bit (by decide)).trans h.protect, (hk _ (by decide)).trans h.count⟩
  exact (hk g (Fld.freeOf_mono (by simp [keyFlds]) hg)).trans (h.keeps g hg)

theorem Chip.txKeyed_keyed {c : Chip} {t : Tx} (ht : c.rf.cur = some t) : KeyedWith t c (c.txKeyed t) := by
  have hcount := (Chip.countAir_count (c := c.setRf fun r => { r with keyed := true, air := t.symbols }) (t := t) ht rfl)
  have hkeeps := (c.setRf fun r => { r with keyed := true, air := t.symbols }).countAir_keeps
  have hrf := (c.setRf fun r => { r with keyed := true, air := t.symbols }).countAir_rf
  have hsafe := (c.setRf fun r => { r with keyed := true, air := t.symbols }).countAir_safe
  have hnow := (c.setRf fun r => { r with keyed := true, air := t.symbols }).countAir_now
  unfold Chip.txKeyed
  generalize (c.setRf fun r => { r with keyed := true, air := t.symbols }).countAir = d at hcount hkeeps hrf hsafe hnow ⊢
  refine ⟨?_, ?_, ?_, ?_, ?_, ?_, hnow, Chip.put_one_bit _ rfl rfl, (Chip.get_put_free _ (by decide) _).trans hcount⟩
  · exact ((KeepsFlds.append (KeepsFlds.refl c).setRf hkeeps).put).mono (by simp [keyFlds])
  · rw [Chip.put_rf, hrf]
    exact ht
  · rw [Chip.put_rf, hrf]
    rfl
  · rw [Chip.put_rf, hrf]
    rfl
  · rw [Chip.put_rf, hrf]
    rfl
  · exact (airSafe_congr (Chip.put_rf _ _ _) rfl).trans hsafe

theorem Chip.uplinkNoted_rest (t : Tx) : (c.uplinkNoted t).regs = c.regs ∧ (c.uplinkNoted t).rf = c.rf ∧ (c.uplinkNoted t).now = c.now := by
  unfold Chip.uplinkNoted
  split <;> exact ⟨rfl, rfl, rfl⟩

/-- The PA is keyed and the transmission's own record is made; what it carries is not yet formed. -/
theorem Chip.keyedShown {c : Chip} {t : Tx} (ht : c.rf.cur = some t) : KeyedWith t c ((c.txKeyed t).uplinkNoted t).showTx := by
  obtain ⟨hregs, hrf, hnow⟩ := (c.txKeyed t).uplinkNoted_rest t
  exact ((Chip.txKeyed_keyed ht).aside (((KeepsFlds.refl _).aside hregs).mono (by simp)) hrf hnow).aside (Chip.showTx_keeps _) rfl rfl

end Sys2Proof.Machine
end

section
/-! PROOFS. TX_KEY as a whole (R307 to R310, R359, R360, R365, R367). -/

-- One theorem at a time: many at once, each with a thread of its own, do not fit in memory.
set_option Elab.async false

namespace Sys2Proof.Machine

variable (c : Chip)

/-! ## What a keyed transmission carries -/

/-- Node `k` becomes a member. -/
def memberAdded (m : Word) (g : Grant) : Word := m ||| BitVec.ofNat 32 (2 ^ g.node)

theorem bitAt_or (x y k : Nat) : bitAt (x ||| y) k = (bitAt x k || bitAt y k) := by simp only [bitAt_eq_testBit, Nat.testBit_or]

theorem memberAdded_self (m : Word) {g : Grant} (hg : g.node < 32) : bitAt (memberAdded m g).toNat g.node = true := by
  have hpow : 2 ^ g.node < 2 ^ 32 := Nat.pow_lt_pow_right (by decide) hg
  rw [memberAdded, BitVec.toNat_or, BitVec.toNat_ofNat, Nat.mod_eq_of_lt hpow, bitAt_or]
  simp [bitAt_eq_testBit]

theorem memberAdded_stays {m : Word} (g : Grant) {k : Nat} (h : bitAt m.toNat k = true) : bitAt (memberAdded m g).toNat k = true := by
  rw [memberAdded, BitVec.toNat_or, bitAt_or, h, Bool.true_or]

/-- Every node that is granted becomes a member. -/
theorem membersAdded {g : Grant} (hnode : g.node < 32) :
    ∀ (l : List Grant), g ∈ l → ∀ m : Word, bitAt (l.foldl memberAdded m).toNat g.node = true
  | x :: r, hg, m => by
    rcases List.mem_cons.mp hg with rfl | hr
    · exact List.foldlRecOn (motive := fun w => bitAt w.toNat g.node = true) r memberAdded (memberAdded_self m hnode)
        fun w hw y _ => memberAdded_stays y hw
    · exact membersAdded hnode r hr _

theorem Chip.takeGrants_members : c.takeGrants.2.rd R.LNK_MEMBERS = (c.lnk.grants.take 4).foldl memberAdded (c.rd R.LNK_MEMBERS) :=
  Chip.rd_wr_self _ _ _

/-- A transmission whose content is formed at K is still the one that was keyed. -/
theorem KeyedWith.carry {t t1 : Tx} {c d e : Chip} (h : KeyedWith t c d) (hk : KeepsFlds [Fld.whole R.LNK_MEMBERS] d e)
    (hrf : e.rf = { d.rf with cur := some t1, air := t1.symbols }) (hnow : e.now = d.now) (ht : ∀ n, t1.unitsBy n = t.unitsBy n) :
    KeyedWith t1 c e := by
  have hcounted : Sys2Proof.airSafe e = true := by
    have hsafe := h.counted
    simp only [Sys2Proof.airSafe, h.keyed, h.cur] at hsafe
    simp only [Sys2Proof.airSafe, hrf, h.keyed, hnow, ht]
    exact hsafe
  refine ⟨fun g hg => ?_, by rw [hrf], by rw [hrf]; exact h.keyed, by rw [hrf]; exact h.cal, by rw [hrf], hcounted, hnow.trans h.now,
    (hk.bit (by decide)).trans h.protect, by rw [hk _ (by decide), h.count, ht]⟩
  exact (hk g (Fld.freeOf_mono (by simp [keyFlds]) hg)).trans (h.keeps g hg)

/-- What `t` carries when it is keyed. -/
def Chip.carried (t : Tx) : Tx :=
  if t.hdrType = 1 then
    let d := c.takeGrants.2
    { t with body := d.beaconBody t.s [d.beaconWord0 (t.s / 128), d.beaconWord1 (t.s / 128) (c.lnk.grants.take 4)] }
  else if t.hdrType = 3 then { t with body := .burst c.uplinkHdr false 1 [] }
  else t

theorem Chip.keyContent_carries {c d : Chip} {t : Tx} (h : KeyedWith t c d) : KeyedWith (d.carried t) c (d.keyContent t) := by
  unfold Chip.keyContent Chip.carried
  by_cases h1 : t.hdrType = 1
  · rw [if_pos h1, if_pos h1]
    exact h.carry (KeepsFlds.aside (d := d.takeGrants.2) ((KeepsFlds.refl d).wr.aside rfl) rfl) rfl rfl fun _ => rfl
  · rw [if_neg h1, if_neg h1]
    by_cases h3 : t.hdrType = 3
    · rw [if_pos h3, if_pos h3]
      exact h.carry ((KeepsFlds.refl d).setRf.mono (by simp)) rfl rfl fun _ => rfl
    · rw [if_neg h3, if_neg h3]
      exact h

/-! ## The end of the command -/

/-- TX_KEY leaves what permits the PA. -/
theorem KeyedWith.paAllowed {t : Tx} {c d : Chip} (h : KeyedWith t c d) : d.paAllowed = c.paAllowed := by
  simp only [Chip.paAllowed, h.cal, h.keeps.bit (g := F.GUARD_GATE_tx) (by decide),
    h.keeps.bit (g := F.SYS_FEAT2_radio_fused) (by decide), h.keeps.bit (g := F.CLK_STAT_locked) (by decide),
    h.keeps.bit (g := F.RF_STAT_synth_lock) (by decide), h.keeps.bit (g := F.RF_CTRL_tx_en) (by decide)]

theorem Chip.carried_unitsBy (t : Tx) (n : Nat) : (c.carried t).unitsBy n = t.unitsBy n := by
  unfold Chip.carried
  split
  · rfl
  · split <;> rfl

/-- The device in which `t` is keyed, before what it carries is formed. -/
def Chip.keyedBy (t : Tx) : Chip := (((c.advanceTo t.keyAt).txKeyed t).uplinkNoted t).showTx

theorem linkReg_apart {a : Nat} (h : within a 0x400B0000 0x400B0FFF = true) : rfOwn a = false ∧ a ≠ R.PWR_TMR := by
  simp only [within, Bool.and_eq_true, decide_eq_true_eq] at h
  constructor
  · simp only [rfOwn, Sys2Proof.rfRegs, within, R.GUARD_AIR_CNT, Bool.or_eq_false_iff, Bool.and_eq_false_iff, decide_eq_false_iff_not,
      beq_eq_false_iff_ne]
    omega
  · simp only [R.PWR_TMR]
    omega

theorem flushReg_of_link {a : Nat} (h : within a 0x400B0000 0x400B0FFF = true) : flushReg a = false := by
  refine flushReg_of_outside ?_
  simp only [within, Bool.and_eq_true, decide_eq_true_eq, Bool.and_eq_false_iff, decide_eq_false_iff_not] at h ⊢
  omega

section

variable {c : Chip} {t : Tx} (ht : c.rf.cur = some t)
include ht

theorem Chip.keyedBy_with : KeyedWith t (c.advanceTo t.keyAt) (c.keyedBy t) := Chip.keyedShown (by rw [Chip.advanceTo_rf, ht])

theorem Chip.keyTx_keyed (hun : c.rf.keyed = false) (hkey : c.txKey = c.keyedBy t) : c.keyTx = (c.keyedBy t).keyContent t := by
  have hwith := Chip.keyedBy_with ht
  unfold Chip.keyTx
  rw [hkey]
  dsimp only
  rw [hwith.cur]
  exact if_pos (by rw [hwith.keyed, hun]; rfl)

omit ht in
theorem Chip.txKeyed_touches (t : Tx) : RfTouches c (c.txKeyed t) := ((RfTouches.refl c).setRf.trans (Chip.countAir_touches _)).put

omit ht in
/-- The registers of the link are as they were until what is carried is formed. -/
theorem Chip.keyedBy_rd {a : Nat} (ha : within a 0x400B0000 0x400B0FFF = true) : (c.keyedBy t).rd a = c.rd a := by
  obtain ⟨hown, htmr⟩ := linkReg_apart ha
  have hkeyed : RfTouches c ((c.advanceTo t.keyAt).txKeyed t) := (c.advanceTo_rf_touches _).trans (Chip.txKeyed_touches t)
  rw [Chip.keyedBy, (Chip.showTx_touches _).rd a hown htmr, Chip.rd_congr (Chip.uplinkNoted_rest _ t).1]
  exact hkeyed.rd a hown htmr

omit ht in
theorem Chip.keyedBy_lnk : (c.keyedBy t).lnk =
    if t.hdrType = 3 then { c.lnk with sentUp := c.lnk.sentUp ++ [(t.s / 128, c.get F.LNK_STAT_node)] } else c.lnk := by
  have hkeyed : RfTouches c ((c.advanceTo t.keyAt).txKeyed t) := (c.advanceTo_rf_touches _).trans (Chip.txKeyed_touches t)
  have hlnk : ((c.advanceTo t.keyAt).txKeyed t).lnk = c.lnk := hkeyed.same .lnk (by decide)
  have hnode : ((c.advanceTo t.keyAt).txKeyed t).get F.LNK_STAT_node = c.get F.LNK_STAT_node := hkeyed.get (by decide)
  have hshown : (c.keyedBy t).lnk = (((c.advanceTo t.keyAt).txKeyed t).uplinkNoted t).lnk := rfl
  rw [hshown, Chip.uplinkNoted]
  split
  · rw [hlnk, hnode]
  · exact hlnk

/-! ## What stands at the end of the command -/

variable (hall : (c.advanceTo t.keyAt).paAllowed = true)
include hall

/-- At the end of the command all is as TX_KEY left it. -/
theorem keyContent_settled : ((c.keyedBy t).keyContent t).settle.rf = ((c.keyedBy t).keyContent t).rf ∧
    ∀ a, flushReg a = false → ((c.keyedBy t).keyContent t).settle.rd a = ((c.keyedBy t).keyContent t).rd a := by
  have hwith := Chip.keyContent_carries (Chip.keyedBy_with ht)
  have hsafe : Sys2Proof.paSafe ((c.keyedBy t).keyContent t) = true := by simp [Sys2Proof.paSafe, hwith.paAllowed, hall]
  exact ⟨Chip.settle_rf_of _ hsafe hwith.counted, fun a ha => Chip.settle_rd_of _ hsafe hwith.counted ha⟩

/-- The PA is keyed, protect is on, and the airtime is counted. -/
theorem keyContent_shown : ((c.keyedBy t).keyContent t).settle.rf.keyed = true ∧
    ((c.keyedBy t).keyContent t).settle.bit F.RF_STAT_protect = true ∧
    ((c.keyedBy t).keyContent t).settle.get F.GUARD_AIR_CNT_count =
      min (c.get F.GUARD_AIR_CNT_count + (t.unitsBy ((c.keyedBy t).keyContent t).settle.now - c.rf.counted)) 65535 := by
  have hwith := Chip.keyContent_carries (Chip.keyedBy_with ht)
  obtain ⟨hrf, hrd⟩ := keyContent_settled ht hall
  have hget : ∀ f : Fld, flushReg f.addr = false → ((c.keyedBy t).keyContent t).settle.get f = ((c.keyedBy t).keyContent t).get f :=
    fun f hf => by simp only [Chip.get, hrd _ hf]
  have hadv : (c.advanceTo t.keyAt).get F.GUARD_AIR_CNT_count = c.get F.GUARD_AIR_CNT_count :=
    KeepsFlds.advanceTo (KeepsFlds.refl c) _ (by decide)
  refine ⟨by rw [hrf, hwith.keyed], ?_, ?_⟩
  · rw [Chip.bit, hget _ (by decide)]
    exact hwith.protect
  · rw [hget _ (by decide), hwith.count, Chip.carried_unitsBy, hadv, Chip.advanceTo_rf, Chip.settle_now, hwith.now]

/-- What is keyed carries what R307 says. -/
theorem keyContent_effect : Sys2Proof.keyedEffect c ((c.keyedBy t).keyContent t).settle t := by
  have hwith := Chip.keyContent_carries (Chip.keyedBy_with ht)
  obtain ⟨hrf, hrd⟩ := keyContent_settled ht hall
  have hsends : ∀ t1, (c.keyedBy t).carried t = t1 → ((c.keyedBy t).keyContent t).settle.rf.cur = some t1 ∧
      ((c.keyedBy t).keyContent t).settle.rf.air = t1.symbols := fun t1 h1 => by
    rw [hrf, ← h1]
    exact ⟨hwith.cur, hwith.air⟩
  have hlnk : ((c.keyedBy t).keyContent t).settle.lnk = ((c.keyedBy t).keyContent t).lnk := Chip.settle_lnk _
  unfold Sys2Proof.keyedEffect
  extract_lets sends gs j
  by_cases h1 : t.hdrType = 1
  · have hgs : (c.keyedBy t).lnk.grants.take 4 = gs := by
      rw [Chip.keyedBy_lnk, if_neg (by omega)]
    have hcontent : (c.keyedBy t).keyContent t = (c.keyedBy t).takeGrants.2.setRf fun r =>
        { r with cur := some ((c.keyedBy t).carried t), air := ((c.keyedBy t).carried t).symbols } := by
      unfold Chip.keyContent Chip.carried
      rw [if_pos h1, if_pos h1]
      rfl
    have hnode : SameNode (c.keyedBy t).takeGrants.2 ((c.keyedBy t).keyContent t).settle := by
      refine ⟨?_, fun a ha => ?_⟩
      · rw [hlnk, hcontent]
        rfl
      · rw [hrd a (flushReg_of_link ha), hcontent]
        rfl
    rw [if_pos h1]
    refine ⟨hsends _ ?_, fun g hg hlt => ?_⟩
    · rw [hnode.beaconBody, hnode.beaconWord0, hnode.beaconWord1, Chip.carried, if_pos h1, hgs]
    · rw [hnode.rd R.LNK_MEMBERS (by decide), Chip.takeGrants_members, hgs]
      exact membersAdded hlt gs hg _
  · rw [if_neg h1]
    by_cases h3 : t.hdrType = 3
    · have hhdr : (c.keyedBy t).uplinkHdr = c.uplinkHdr := uplinkHdr_congr fun _ ha => Chip.keyedBy_rd ha
      have hcontent : ((c.keyedBy t).keyContent t).lnk = (c.keyedBy t).lnk := by
        unfold Chip.keyContent
        rw [if_neg h1, if_pos h3]
        rfl
      rw [if_pos h3]
      refine ⟨hsends _ ?_, ?_⟩
      · rw [Chip.carried, if_neg h1, if_pos h3, hhdr]
      · rw [hlnk, hcontent, Chip.keyedBy_lnk, if_pos h3]
    · have hcontent : (c.keyedBy t).keyContent t = c.keyedBy t := by
        unfold Chip.keyContent
        rw [if_neg h1, if_neg h3]
      rw [if_neg h3]
      refine ⟨hsends _ ?_, ?_⟩
      · rw [Chip.carried, if_neg h1, if_neg h3]
      · rw [hlnk, hcontent, Chip.keyedBy_lnk, if_neg h3]

end

/-! ## The row -/

section

variable {c : Chip} {t : Tx}

/-- What holds of permits at K is what holds of them now. -/
theorem Chip.keyAt_keeps (c : Chip) (t : Tx) : KeepsFlds [Fld.whole R.PWR_TMR] c (c.advanceTo t.keyAt) := (KeepsFlds.refl c).advanceTo

/-- What was dropped at K is not keyed at the end of the command. -/
theorem txDropped_settled (d : Chip) : d.txDropped.settle.rf.keyed = false ∧ d.txDropped.settle.rf.cur = none := by
  have hsafe := paSafe_of_unkeyed d.txDropped_rf.1
  rw [settle_rf_part hsafe RfSt.keyed fun _ _ => rfl, settle_rf_part hsafe RfSt.cur fun _ _ => rfl]
  exact d.txDropped_rf

/-- A transmission that may not be keyed is dropped at K, or cut at the end of the command. -/
theorem txKey_refused (ht : c.rf.cur = some t) (hun : c.rf.keyed = false) (hmay : Sys2Proof.mayKey c = false) :
    c.keyTx.settle.rf.keyed = false ∧ c.keyTx.settle.rf.cur = none := by
  have hdrop : ∀ d : Chip, c.txKey = d.txDropped → c.keyTx.settle.rf.keyed = false ∧ c.keyTx.settle.rf.cur = none := fun d hd => by
    rw [Chip.keyTx_dropped _ hd]
    exact txDropped_settled d
  have hkey := c.txKey_eq ht hun
  split_ifs at hkey with hcal hgate hroot hlock
  · exact hdrop _ hkey
  · exact hdrop _ hkey
  · exact hdrop _ hkey
  · exact hdrop _ hkey
  · have hall : (c.advanceTo t.keyAt).paAllowed = false := by
      have hkeeps := c.keyAt_keeps t
      have hsame : (c.advanceTo t.keyAt).paAllowed = c.paAllowed := by
        simp only [Chip.paAllowed, Chip.advanceTo_rf, hkeeps.bit (g := F.GUARD_GATE_tx) (by decide),
          hkeeps.bit (g := F.SYS_FEAT2_radio_fused) (by decide), hkeeps.bit (g := F.CLK_STAT_locked) (by decide),
          hkeeps.bit (g := F.RF_STAT_synth_lock) (by decide), hkeeps.bit (g := F.RF_CTRL_tx_en) (by decide)]
      rw [hsame]
      simp only [Sys2Proof.mayKey, Chip.paAllowed, Bool.and_eq_false_iff] at hmay ⊢
      tauto
    have hwith := Chip.keyContent_carries (Chip.keyedBy_with ht)
    rw [Chip.keyTx_keyed ht hun hkey]
    exact Chip.settle_cut _ hwith.keyed (hwith.paAllowed.trans hall)

/-- The transmission is late, and noted as such. -/
def Chip.lateNoted (c : Chip) (t : Tx) : Chip :=
  (((c.advanceTo t.keyAt).latch F.RF_TX_STAT_late).bump F.RF_TX_LATE_CNT_count).raise Ev.TX_LATE locNone (BitVec.ofNat 32 (t.s % 128))

/-- Where the PA may be keyed, the synthesiser decides. -/
theorem txKey_allowed (ht : c.rf.cur = some t) (hun : c.rf.keyed = false) (hmay : Sys2Proof.mayKey c = true) :
    c.txKey = if c.bit F.RF_STAT_synth_lock = true ∧ c.get F.RF_TX_STAT_ch = t.ch then c.keyedBy t else (c.lateNoted t).txDropped := by
  simp only [Sys2Proof.mayKey, Bool.and_eq_true] at hmay
  obtain ⟨⟨⟨⟨hgate, hroot⟩, -⟩, -⟩, hcal⟩ := hmay
  have hkeeps := c.keyAt_keeps t
  have hcalAt : (c.advanceTo t.keyAt).rf.cal.isSome = false := by
    rw [Chip.advanceTo_rf]
    simpa using hcal
  rw [c.txKey_eq ht hun, hcalAt, hkeeps.bit (g := F.GUARD_GATE_tx) (by decide), hgate, hkeeps.bit (g := F.CLK_STAT_locked) (by decide), hroot,
    hkeeps.bit (g := F.RF_STAT_synth_lock) (by decide), hkeeps F.RF_TX_STAT_ch (by decide)]
  refine (if_neg (by decide)).trans ((if_neg (by decide)).trans ((if_neg (by decide)).trans ?_))
  by_cases hlock : c.bit F.RF_STAT_synth_lock = true ∧ c.get F.RF_TX_STAT_ch = t.ch
  · rw [if_pos hlock, if_neg (by simp [hlock.1, hlock.2])]
    rfl
  · rw [if_neg hlock]
    refine if_pos ?_
    rw [Bool.or_eq_true, Bool.not_eq_true', decide_eq_true_eq]
    by_cases hon : c.bit F.RF_STAT_synth_lock = true
    · exact .inr fun hch => hlock ⟨hon, hch⟩
    · exact .inl (by simpa using hon)

/-- A transmission whose channel the synthesiser is not locked on at K is late. -/
theorem txKey_late (hkey : c.txKey = (c.lateNoted t).txDropped) :
    c.keyTx.settle.rf.keyed = false ∧ c.keyTx.settle.rf.cur = none ∧ c.keyTx.settle.bit F.RF_TX_STAT_late = true ∧
      c.keyTx.settle.get F.RF_TX_LATE_CNT_count = min (c.get F.RF_TX_LATE_CNT_count + 1) 65535 := by
  have hkeeps := (c.lateNoted t).txDropped_keeps
  have hsafe := paSafe_of_unkeyed (c.lateNoted t).txDropped_rf.1
  obtain ⟨hun, hcur⟩ := txDropped_settled (c.lateNoted t)
  rw [Chip.keyTx_dropped _ hkey]
  refine ⟨hun, hcur, ?_, ?_⟩
  · rw [settle_bit_safe hsafe (by decide) (by decide), hkeeps.bit (by decide), Chip.lateNoted, Chip.bit, Chip.get_raise]
    refine (KeepsFlds.bit (KeepsFlds.bump (KeepsFlds.refl _)) (by decide)).trans ?_
    exact Chip.bit_latch_self _ (by decide) rfl
  · rw [settle_get_safe hsafe (by decide) (by decide), hkeeps _ (by decide), Chip.lateNoted, Chip.get_raise, Chip.get_bump_self _ rfl,
      KeepsFlds.latch (KeepsFlds.refl _) _ (by decide), c.keyAt_keeps t _ (by decide)]
    rfl

theorem txKey_effect (hun : c.rf.keyed = false) (ht : c.rf.cur = some t) :
    if Sys2Proof.mayKey c = false then c.keyTx.settle.rf.keyed = false ∧ c.keyTx.settle.rf.cur = none
    else if c.bit F.RF_STAT_synth_lock = true ∧ c.get F.RF_TX_STAT_ch = t.ch then
      c.keyTx.settle.rf.keyed = true ∧ c.keyTx.settle.bit F.RF_STAT_protect = true ∧ Sys2Proof.keyedEffect c c.keyTx.settle t ∧
        c.keyTx.settle.get F.GUARD_AIR_CNT_count =
          min (c.get F.GUARD_AIR_CNT_count + (t.unitsBy c.keyTx.settle.now - c.rf.counted)) 65535
    else c.keyTx.settle.rf.keyed = false ∧ c.keyTx.settle.rf.cur = none ∧ c.keyTx.settle.bit F.RF_TX_STAT_late = true ∧
      c.keyTx.settle.get F.RF_TX_LATE_CNT_count = min (c.get F.RF_TX_LATE_CNT_count + 1) 65535 := by
  cases hmay : Sys2Proof.mayKey c with
  | false =>
    rw [if_pos rfl]
    exact txKey_refused ht hun hmay
  | true =>
    rw [if_neg (by decide)]
    have hkey := txKey_allowed ht hun hmay
    split
    next hlock =>
      rw [if_pos hlock] at hkey
      have hall : (c.advanceTo t.keyAt).paAllowed = true := by
        have hkeeps := c.keyAt_keeps t
        simp only [Sys2Proof.mayKey, Bool.and_eq_true] at hmay
        obtain ⟨⟨⟨⟨hgate, hroot⟩, hfuse⟩, hen⟩, hcal⟩ := hmay
        simp only [Chip.paAllowed, Chip.advanceTo_rf, hkeeps.bit (g := F.GUARD_GATE_tx) (by decide), hgate,
          hkeeps.bit (g := F.SYS_FEAT2_radio_fused) (by decide), hfuse, hkeeps.bit (g := F.CLK_STAT_locked) (by decide), hroot,
          hkeeps.bit (g := F.RF_STAT_synth_lock) (by decide), hlock.1, hkeeps.bit (g := F.RF_CTRL_tx_en) (by decide), hen, hcal]
        rfl
      obtain ⟨hkeyed, hprotect, hcount⟩ := keyContent_shown ht hall
      have hcarried := keyContent_effect ht hall
      rw [← Chip.keyTx_keyed ht hun hkey] at hkeyed hprotect hcount hcarried
      exact ⟨hkeyed, hprotect, hcarried, hcount⟩
    next hlock =>
      rw [if_neg hlock] at hkey
      exact txKey_late hkey

end

end Sys2Proof.Machine
end

section
/-! PROOFS. Every row of the RF front end and the wake receivers completes with its effect (R295 to R318). -/

-- One theorem at a time: many at once, each with a thread of its own, do not fit in memory.
set_option Elab.async false

namespace Sys2Proof

open Sys2Proof.Machine

/-- Settles O41: each row that is due, or whose request is accepted, is one action of the front end, and what it leaves of the PA lets
the end of the command keep it; TX_KEY alone may key what the end of the command cuts. -/
theorem rfRowsComplete : Obligations.RfRowsComplete := by
  intro i s hs h
  have hp : paSafe s.chip = true := (safe_parts hs).1
  cases i
  case adcEnable r v =>
    simp only [rfReady, Bool.and_eq_true, Bool.not_eq_true'] at h
    obtain ⟨⟨hacc, hv⟩, hoff⟩ := h
    exact completes_request (exec_adcEnable s r v) ⟨hacc, adcEnable_effect hp hoff hv⟩
  case adcDisable r v =>
    simp only [rfReady, Bool.and_eq_true, Bool.not_eq_true'] at h
    obtain ⟨⟨hacc, hv⟩, hon⟩ := h
    exact completes_request (exec_adcDisable s r v) ⟨hacc, adcDisable_effect hp hon hv⟩
  case txEnable r v =>
    simp only [rfReady, Bool.and_eq_true, Bool.not_eq_true'] at h
    obtain ⟨⟨hacc, hv⟩, hoff⟩ := h
    exact completes_request (exec_txEnable s r v) ⟨hacc, txEnable_effect hp hoff hv⟩
  case txDisable r v =>
    simp only [rfReady, Bool.and_eq_true, Bool.not_eq_true'] at h
    obtain ⟨⟨hacc, hv⟩, hon⟩ := h
    exact completes_request (exec_txDisable s r v) ⟨hacc, txDisable_effect hp hon hv⟩
  case adcValid =>
    simp only [rfReady, Bool.and_eq_true, Bool.not_eq_true'] at h
    exact completes_act (exec_adcValid s) (adcValid_effect hp h.1 h.2)
  case lnaGainApply => exact completes_act (exec_lnaGainApply s) (lnaGain_effect hp h)
  case rxRetune => exact completes_act (exec_rxRetune s) (rxRetune_effect hp h)
  case rfAdcOverload =>
    simp only [rfReady, Bool.and_eq_true, Bool.not_eq_true'] at h
    exact completes_act (exec_rfAdcOverload s) (overload_effect hp h.1 h.2)
  case rfAdcOverloadEnd => exact completes_act (exec_rfAdcOverloadEnd s) (overloadEnd_effect hp h)
  case ilcUpdate x =>
    simp only [rfReady, Bool.and_eq_true, Bool.not_eq_true'] at h
    obtain ⟨⟨hsees, hfree⟩, hallow⟩ := h
    exact completes_act (exec_ilcUpdate s x) (ilcUpdate_effect hp x hsees hfree hallow)
  case ilcOk img =>
    simp only [rfReady, Bool.and_eq_true, Bool.not_eq_true', decide_eq_true_eq] at h
    exact completes_act (exec_ilcOk s img) (ilcOk_effect hp img h.1 h.2)
  case ilcOkClear img =>
    simp only [rfReady, Bool.and_eq_true, Bool.not_eq_true', decide_eq_true_eq] at h
    exact completes_act (exec_ilcOkClear s img) (ilcOkClear_effect hp img h.1 h.2)
  case monitorScan bins =>
    simp only [rfReady, Bool.and_eq_true, Bool.not_eq_true', decide_eq_true_eq] at h
    obtain ⟨⟨⟨⟨hen, hlen⟩, hsees⟩, hblind⟩, hin⟩ := h
    exact completes_act (exec_monitorScan s bins) (monitorScan_effect hp bins hen hlen hsees hblind hin)
  case synthRetune =>
    simp only [rfReady, Bool.and_eq_true, Bool.not_eq_true'] at h
    obtain ⟨⟨hen, hun⟩, hnext⟩ := h
    exact completes_act (exec_synthRetune s) (synthRetune_effect hen hun hnext)
  case synthLock =>
    simp only [rfReady, Bool.and_eq_true, Bool.not_eq_true'] at h
    exact completes_act (exec_synthLock s) (synthLock_effect hp h.1 h.2)
  case rfSynthUnlock => exact completes_act (exec_rfSynthUnlock s) (synthUnlock_effect h)
  case transmissionStart =>
    simp only [rfReady, Bool.and_eq_true, Bool.or_eq_true, Bool.not_eq_true'] at h
    exact completes_act (exec_transmissionStart s) (transmissionStart_effect h.1 h.2)
  case txKey =>
    simp only [rfReady, Bool.and_eq_true, Bool.not_eq_true'] at h
    exact completes_act (exec_txKey s) fun t ht => txKey_effect h.2 ht
  case keyedEnd =>
    simp only [rfReady, Bool.and_eq_true] at h
    exact completes_act (exec_keyedEnd s) (keyedEnd_effect h.1 h.2)
  case protectStart =>
    simp only [rfReady, Bool.and_eq_true, Bool.not_eq_true'] at h
    exact completes_act (exec_protectStart s) (protectStart_effect h.1 h.2)
  case protectEnd =>
    simp only [rfReady, Bool.and_eq_true, Bool.not_eq_true'] at h
    obtain ⟨⟨hon, hun⟩, hnext⟩ := h
    exact completes_act (exec_protectEnd s) (protectEnd_effect hon hun hnext)
  case loCalRequest r v =>
    simp only [rfReady, Bool.and_eq_true] at h
    exact completes_request (exec_loCalRequest s r v) ⟨h.1, calRequest_effect hp (.inl rfl) h.2⟩
  case iqCalRequest r v =>
    simp only [rfReady, Bool.and_eq_true] at h
    exact completes_request (exec_iqCalRequest s r v) ⟨h.1, calRequest_effect hp (.inr rfl) h.2⟩
  case calStart =>
    simp only [rfReady, Bool.and_eq_true, Bool.not_eq_true'] at h
    obtain ⟨⟨⟨⟨⟨⟨hreq, hen⟩, hlock⟩, hcal⟩, hwake⟩, hun⟩, hidle⟩ := h
    exact completes_act (exec_calStart s) (calStart_effect hreq hen hlock hcal hwake hun hidle)
  case calComplete res =>
    simp only [rfReady, Bool.and_eq_true, decide_eq_true_eq] at h
    obtain ⟨⟨⟨hcal, hidle⟩, hin⟩, hch⟩ := h
    exact completes_act (exec_calComplete s res) (calComplete_effect hp res hcal hidle hin hch)
  case wakeFrame n code => exact completes_act (exec_wakeFrame s n code) (wakeFrame_effect hp n _ h)
  case wakeTxGo r v =>
    simp only [rfReady, Bool.and_eq_true, Bool.not_eq_true'] at h
    obtain ⟨⟨hacc, hv⟩, hidle⟩ := h
    exact completes_request (exec_wakeTxGo s r v) ⟨hacc, wakeTxGo_effect hp hv hidle⟩
  all_goals exact absurd h Bool.false_ne_true

end Sys2Proof
end

section
/-! PROOFS. Notches set by software, and the requests and the ends of an acquisition (R323 to R329). -/

-- One theorem at a time: many at once, each with a thread of its own, do not fit in memory.
set_option Elab.async false

namespace Sys2Proof.Machine

open Sys2Proof (gnRegs)

variable (c : Chip)

/-! ## The end of a command -/

/-- Neither routing nor the PA's hold sets a register of the baseband. -/
theorem gnReg_kept {a : Nat} (h : gnRegs a = true) : flushReg a = false ∧ holdReg a = false := by
  simp only [gnRegs, within, Bool.or_eq_true, Bool.and_eq_true, decide_eq_true_eq] at h
  refine ⟨flushReg_of_outside ?_, ?_⟩
  · simp only [within, Bool.and_eq_false_iff, decide_eq_false_iff_not]
    omega
  · simp only [holdReg, R.GUARD_AIR_CNT, R.RF_TX_STAT, R.RF_WAKE_TX_CTRL, R.RF_STAT, Bool.or_eq_false_iff, beq_eq_false_iff_ne]
    omega

theorem settle_gn_rd {a : Nat} (h : gnRegs a = true) : c.settle.rd a = c.rd a := c.settle_rd (gnReg_kept h).1 (gnReg_kept h).2

theorem settle_gn_get {f : Fld} (h : gnRegs f.addr = true) : c.settle.get f = c.get f := by simp only [Chip.get, settle_gn_rd c h]

theorem settle_gn_bit {f : Fld} (h : gnRegs f.addr = true) : c.settle.bit f = c.bit f := by simp only [Chip.bit, settle_gn_get c h]

/-! ## Notches -/

@[simp] theorem Chip.notch_setNotch_self (i : Nat) (n : Notch) : (c.setNotch i n).notch i = n := KMap.get_set_self _ _ _ _

theorem Chip.notch_setNotch_ne {i j : Nat} (h : j ≠ i) (n : Notch) : (c.setNotch i n).notch j = c.notch j := KMap.get_set_ne _ _ h _ _

theorem notch_congr {c d : Chip} (h : d.gn.notch = c.gn.notch) (i : Nat) : d.notch i = c.notch i := by rw [Chip.notch, h, Chip.notch]

theorem settle_notch (i : Nat) : c.settle.notch i = c.notch i := notch_congr (congrArg GnSt.notch (Chip.settle_gn c)) i

variable {c} in
theorem notchDisengage_effect {i : Nat} (hi : i < 8) (hon : c.bit (F.GN_NOTCH_CTRL_engaged i) = true)
    (hauto : c.bit (F.GN_NOTCH_CTRL_auto i) = true) (hage : 16 ≤ (c.notch i).age) :
    (c.notchExpire i).settle.bit (F.GN_NOTCH_CTRL_engaged i) = false ∧ ((c.notchExpire i).settle.notch i).v = (0, 0) := by
  have hend : c.notchExpire i = c.disengage i := if_pos (by simp [hon, hauto, hage])
  rw [settle_gn_bit _ (notch_own hi).1, settle_notch, hend, Chip.disengage, Chip.notch_setNotch_self]
  exact ⟨Chip.put_zero_bit _ rfl, rfl⟩

/-- The centre of a notch is a register that takes all that is written. -/
theorem notchFreq_taken : ∀ i : Fin 8, regCanon (R.GN_NOTCH_FREQ i.val) = R.GN_NOTCH_FREQ i.val ∧
    ((regRow? (R.GN_NOTCH_FREQ i.val)).any fun r => decide (r.rw = BitVec.allOnes 32) && decide (r.w1c = 0) && decide (r.w1s = 0)) = true := by
  decide +kernel

theorem notchFreqWrite_effect (i : Fin 8) (v : Word) :
    (c.writeNotchFreq i.val v).settle.rd (R.GN_NOTCH_FREQ i.val) = v ∧ ((c.writeNotchFreq i.val v).settle.notch i.val).ref = v.toInt := by
  obtain ⟨hcanon, hany⟩ := notchFreq_taken i
  obtain ⟨row, hrow, htaken⟩ := (Option.any_eq_true _ _).mp hany
  simp only [Bool.and_eq_true, decide_eq_true_eq] at htaken
  obtain ⟨⟨hrw, hw1c⟩, hw1s⟩ := htaken
  have hrd := c.rd_plainWrite_self hrow v
  rw [hcanon] at hrd
  rw [settle_gn_rd _ (notch_own i.isLt).2.1, settle_notch, Chip.writeNotchFreq, Chip.notch_setNotch_self]
  refine ⟨hrd.trans ?_, rfl⟩
  simp only [RegRow.written, hrw, hw1c, hw1s, BitVec.and_allOnes]
  simp [Word.and_ones]

/-! ## The end of an acquisition (R327, R329) -/

/-- The registers of the results. -/
def resOwn (a : Nat) : Bool := (List.range 16).any fun i => a == R.GN_ACQ_RES_A i || a == R.GN_ACQ_RES_B i

theorem resOwn_res {i : Nat} (hi : i < 16) : resOwn (R.GN_ACQ_RES_A i) = true ∧ resOwn (R.GN_ACQ_RES_B i) = true := by
  have h : ∀ n : Fin 16, resOwn (R.GN_ACQ_RES_A n.val) = true ∧ resOwn (R.GN_ACQ_RES_B n.val) = true := by decide +kernel
  exact h ⟨i, hi⟩

theorem Chip.clearResults_res_touches : Touches [] resOwn c c.clearResults :=
  (Touches.refl _ _ c).foldl fun _ hi d =>
    ((Touches.refl _ _ d).wr (resOwn_res (List.mem_range.mp hi)).1).wr (resOwn_res (List.mem_range.mp hi)).2

/-- Entry `i` holds no result. -/
def Chip.resCleared (c : Chip) (i : Nat) : Chip := (c.wr (R.GN_ACQ_RES_A i) 0).wr (R.GN_ACQ_RES_B i) 0

theorem Chip.resCleared_rd (i j : Nat) : (c.resCleared j).rd (R.GN_ACQ_RES_A i) = if i = j then 0 else c.rd (R.GN_ACQ_RES_A i) := by
  have hB : R.GN_ACQ_RES_A i ≠ R.GN_ACQ_RES_B j := by
    simp only [R.GN_ACQ_RES_A, R.GN_ACQ_RES_B]
    omega
  rw [Chip.resCleared, Chip.rd_wr_ne _ hB]
  split
  next h => rw [h, Chip.rd_wr_self]
  next h =>
    refine Chip.rd_wr_ne _ ?_ _
    simp only [R.GN_ACQ_RES_A]
    omega

/-- No entry of the results holds one. -/
theorem Chip.clearResults_rd {i : Nat} (hi : i < 16) : c.clearResults.rd (R.GN_ACQ_RES_A i) = 0 := by
  refine foldl_reaches (g := Chip.resCleared) (x := i) (J := fun _ => True) (K := fun d => d.rd (R.GN_ACQ_RES_A i) = 0) (fun d _ => ?_)
    (List.range 16) (fun _ _ _ _ => trivial) (fun j _ d hd => ?_) (List.mem_range.mpr hi) c trivial
  · rw [Chip.resCleared_rd, if_pos rfl]
  · rw [Chip.resCleared_rd, hd, ite_self]

theorem bit_of_rd_zero {c : Chip} {f : Fld} (h : c.rd f.addr = 0) : c.bit f = false := by simp [Chip.bit, Chip.get, h]

theorem Chip.acqDone_keeps (arg : Nat) : KeepsFlds [F.GN_ACQ_CTRL_go, F.GN_ACQ_STAT_state] c (c.acqDone arg) :=
  (KeepsFlds.refl c).put.put.aside rfl

/-- The engine is idle once it has reported. -/
theorem Chip.acqDone_idle (arg : Nat) : (c.acqDone arg).get F.GN_ACQ_STAT_state = acqIdle ∧ (c.acqDone arg).bit F.GN_ACQ_CTRL_go = false ∧
    (c.acqDone arg).gn.acq.capturing = false := by
  have hstate : (c.acqDone arg).get F.GN_ACQ_STAT_state = ((c.put F.GN_ACQ_STAT_state acqIdle).put F.GN_ACQ_CTRL_go 0).get F.GN_ACQ_STAT_state := rfl
  refine ⟨?_, Chip.put_zero_bit _ rfl, rfl⟩
  rw [hstate, Chip.get_put_free _ (by decide)]
  exact Chip.get_put_cut _ rfl _

/-- GN_ACQ_CTRL holds what was written of it. -/
def Chip.acqCtrlSet (v : Word) : Chip := (c.put F.GN_ACQ_CTRL_pad (F.GN_ACQ_CTRL_pad.of v)).put F.GN_ACQ_CTRL_src (F.GN_ACQ_CTRL_src.of v)

theorem Chip.acqCtrlSet_keeps (v : Word) : KeepsFlds [F.GN_ACQ_CTRL_src, F.GN_ACQ_CTRL_pad] c (c.acqCtrlSet v) := (KeepsFlds.refl c).put.put

section

variable {c : Chip} {v : Word}

theorem Chip.writeAcqCtrl_abort (hv : F.GN_ACQ_CTRL_abort.ofB v = true) (hon : c.get F.GN_ACQ_STAT_state ≠ acqIdle) :
    c.writeAcqCtrl v = (c.acqCtrlSet v).clearFifo.clearResults.acqDone (2 ^ 17 + 2 ^ 18 * b2n c.gn.acq.ovl) := by
  have hstate : (c.acqCtrlSet v).get F.GN_ACQ_STAT_state ≠ acqIdle := by
    rw [(c.acqCtrlSet_keeps v) _ (by decide)]
    exact hon
  have habort : (c.acqCtrlSet v).acqAbort =
      (c.acqCtrlSet v).clearFifo.clearResults.acqDone (2 ^ 17 + 2 ^ 18 * b2n c.gn.acq.ovl) := if_neg hstate
  rw [← habort]
  unfold Chip.writeAcqCtrl
  rw [hv]
  exact if_pos (by simp [hon])

theorem acqAbort_effect (hv : F.GN_ACQ_CTRL_abort.ofB v = true) (hon : c.get F.GN_ACQ_STAT_state ≠ acqIdle) :
    (c.writeAcqCtrl v).settle.get F.GN_ACQ_STAT_state = acqIdle ∧ (c.writeAcqCtrl v).settle.bit F.GN_ACQ_CTRL_go = false ∧
      (c.writeAcqCtrl v).settle.gn.acq.capturing = false ∧
      (∀ i < 16, (c.writeAcqCtrl v).settle.bit (F.GN_ACQ_RES_A_valid i) = false) ∧
      (c.writeAcqCtrl v).settle.pas.queue = c.pas.queue.filter fun q => !isAcqWord q := by
  rw [settle_gn_get _ (by decide), settle_gn_bit _ (by decide), Chip.settle_gn, Chip.settle_pas, Chip.writeAcqCtrl_abort hv hon]
  obtain ⟨hstate, hgo, hcap⟩ := ((c.acqCtrlSet v).clearFifo.clearResults).acqDone_idle (2 ^ 17 + 2 ^ 18 * b2n c.gn.acq.ovl)
  refine ⟨hstate, hgo, hcap, fun i hi => ?_, ?_⟩
  · rw [settle_gn_bit _ (acqRes_own hi).1]
    have hfree : ∀ n : Fin 16, (F.GN_ACQ_RES_A_valid n.val).freeOf [F.GN_ACQ_CTRL_go, F.GN_ACQ_STAT_state] = true := by decide +kernel
    rw [(Chip.acqDone_keeps _ _).bit (hfree ⟨i, hi⟩)]
    exact bit_of_rd_zero (Chip.clearResults_rd _ hi)
  · have hpas : (c.acqCtrlSet v).clearFifo.clearResults.pas = (c.acqCtrlSet v).clearFifo.pas :=
      (Chip.clearResults_res_touches _).same .pas (by decide)
    exact congrArg PasSt.queue hpas

end

end Sys2Proof.Machine
end

section
/-! PROOFS. An acquisition requested, and its capture begun or lost (R325, R326, R329). -/

-- One theorem at a time: many at once, each with a thread of its own, do not fit in memory.
set_option Elab.async false

namespace Sys2Proof.Machine

open Sys2Proof (gnRegs)

variable (c : Chip)

/-! ## A request (R326) -/

theorem Chip.acqCtrlSet_rd (v : Word) {a : Nat} (ha : a ≠ R.GN_ACQ_CTRL) : (c.acqCtrlSet v).rd a = c.rd a :=
  (Chip.rd_wr_ne _ ha _).trans (Chip.rd_wr_ne _ ha _)

theorem Chip.acqCtrlSet_acqPrn (v : Word) : (c.acqCtrlSet v).acqPrn = c.acqPrn := by
  funext i
  have hne : R.GN_ACQ_PRN (i / 4) ≠ R.GN_ACQ_CTRL := by
    simp only [R.GN_ACQ_PRN, R.GN_ACQ_CTRL]
    omega
  rw [Chip.acqPrn, c.acqCtrlSet_rd v hne, Chip.acqPrn]

/-- What R326 asks for is not in GN_ACQ_CTRL. -/
theorem Chip.acqCtrlSet_acqRefused (v : Word) (src pad : Nat) : (c.acqCtrlSet v).acqRefused src pad = c.acqRefused src pad := by
  have hget : ∀ f : Fld, f.addr ≠ R.GN_ACQ_CTRL → (c.acqCtrlSet v).get f = c.get f := fun f hf => by
    simp only [Chip.get, c.acqCtrlSet_rd v hf]
  have hbit : ∀ f : Fld, f.addr ≠ R.GN_ACQ_CTRL → (c.acqCtrlSet v).bit f = c.bit f := fun f hf => by simp only [Chip.bit, hget f hf]
  have hpas : (c.acqCtrlSet v).pas = c.pas := rfl
  have hpad : (c.acqCtrlSet v).acqPad = c.acqPad := by rw [Chip.acqPad, hbit _ (by decide), hpas, Chip.acqPad]
  unfold Chip.acqRefused
  dsimp only
  rw [hget F.GN_ACQ_SIG_sig (by decide), hget F.GN_ACQ_SIG_cnt (by decide), hget F.GN_ACQ_PRM_tc (by decide),
    hget F.GN_ACQ_PRM_nn (by decide), hget F.GN_ACQ_PRM_nb (by decide), hget F.GN_ACQ_STAT_state (by decide), hpad, hpas,
    hbit F.RF_CTRL_ddc_l1 (by decide), hbit F.RF_CTRL_ddc_l5 (by decide), c.acqCtrlSet_acqPrn v]

theorem Chip.acqCtrlSet_searchReq (v : Word) : (c.acqCtrlSet v).searchReq = c.searchReq := by
  have hget : ∀ f : Fld, f.addr ≠ R.GN_ACQ_CTRL → (c.acqCtrlSet v).get f = c.get f := fun f hf => by
    simp only [Chip.get, c.acqCtrlSet_rd v hf]
  simp only [Chip.searchReq, hget F.GN_ACQ_SIG_sig (by decide), hget F.GN_ACQ_SIG_cnt (by decide), hget F.GN_ACQ_PRM_tc (by decide),
    hget F.GN_ACQ_PRM_nn (by decide), hget F.GN_ACQ_PRM_nb (by decide), hget F.GN_ACQ_DOP_step (by decide),
    hget F.GN_ACQ_DOP_ctr (by decide), c.acqCtrlSet_acqPrn v]

/-- The acquisition that a write asks for, as it waits for its capture. -/
def Chip.acqAsked (v : Word) : AcqSt :=
  let src := F.GN_ACQ_CTRL_src.of v
  let per := if src = 2 then c.frameTicks else 192
  { AcqSt.zero with
    startAt := (c.time.stc / per + 1) * per * rootPerTick
    src := src
    pad := F.GN_ACQ_CTRL_pad.of v
    sh := c.get F.GN_ACQ_PRM_sh
    words := captureWords src (c.get F.GN_ACQ_PRM_tc) (c.get F.GN_ACQ_PRM_nn)
    req := c.searchReq }

theorem Chip.writeAcqCtrl_go {v : Word} (hgo : F.GN_ACQ_CTRL_go.ofB v = true) (habort : F.GN_ACQ_CTRL_abort.ofB v = false) :
    c.writeAcqCtrl v =
      if (c.acqCtrlSet v).acqRefused (F.GN_ACQ_CTRL_src.of v) (F.GN_ACQ_CTRL_pad.of v) then (c.acqCtrlSet v).latch F.GN_ACQ_STAT_ref
      else (((c.acqCtrlSet v).clearResults.put F.GN_ACQ_CTRL_go 1).put F.GN_ACQ_STAT_state acqCapture).setAcq
        fun _ => (c.acqCtrlSet v).acqAsked v := by
  unfold Chip.writeAcqCtrl
  rw [hgo, habort]
  rfl

theorem Chip.acqCtrlSet_acqAsked (v : Word) : (c.acqCtrlSet v).acqAsked v = c.acqAsked v := by
  have hget : ∀ f : Fld, f.addr ≠ R.GN_ACQ_CTRL → (c.acqCtrlSet v).get f = c.get f := fun f hf => by
    simp only [Chip.get, c.acqCtrlSet_rd v hf]
  have hticks : (c.acqCtrlSet v).frameTicks = c.frameTicks := by
    simp only [Chip.frameTicks, hget F.PWR_STAT_state (by decide), hget F.FOLD_STAT_rate (by decide)]
    rfl
  unfold Chip.acqAsked
  rw [hticks, c.acqCtrlSet_searchReq v, hget F.GN_ACQ_PRM_sh (by decide), hget F.GN_ACQ_PRM_tc (by decide), hget F.GN_ACQ_PRM_nn (by decide)]
  rfl

theorem acqGo_effect {v : Word} (hgo : F.GN_ACQ_CTRL_go.ofB v = true) (habort : F.GN_ACQ_CTRL_abort.ofB v = false) :
    Sys2Proof.acqEffect c (c.writeAcqCtrl v).settle v := by
  have hwrite := c.writeAcqCtrl_go hgo habort
  rw [c.acqCtrlSet_acqRefused, c.acqCtrlSet_acqAsked] at hwrite
  unfold Sys2Proof.acqEffect
  rw [settle_gn_get _ (by decide), settle_gn_bit _ (by decide), settle_gn_bit _ (by decide), Chip.settle_gn]
  split
  next href =>
    rw [hwrite.trans (if_pos href)]
    refine ⟨Chip.bit_latch_self _ (by decide) rfl, ?_, rfl⟩
    rw [KeepsFlds.latch (KeepsFlds.refl _) _ (by decide)]
    exact c.acqCtrlSet_keeps v _ (by decide)
  next href =>
    rw [hwrite.trans (if_neg href)]
    have hacq : ∀ (d : Chip) (a : AcqSt), (d.setAcq fun _ => a).gn.acq = a := fun _ _ => rfl
    rw [hacq, Chip.get_congr (Chip.setAcq_regs _ _), Chip.bit_congr (Chip.setAcq_regs _ _), Chip.bit_put_free _ (by decide)]
    exact ⟨Chip.get_put_cut _ rfl _, Chip.put_one_bit _ rfl rfl, rfl, rfl, rfl, rfl, rfl, rfl, rfl⟩

/-! ## The capture (R325) -/

section

variable {c : Chip}

theorem captureStart_effect (hstate : c.get F.GN_ACQ_STAT_state = acqCapture) (hwaits : c.gn.acq.capturing = false) :
    c.captureStart.settle.gn.acq.capturing = true ∧ c.captureStart.settle.gn.acq.startAt = c.gn.acq.startAt ∧
      c.captureStart.settle.rd R.GN_ACQ_T0_LO = BitVec.ofNat 32 (c.gn.acq.startAt / rootPerTick) ∧
      c.captureStart.settle.rd R.GN_ACQ_T0_HI = BitVec.ofNat 32 (c.gn.acq.startAt / rootPerTick / 2 ^ 32) := by
  obtain ⟨lo, hlo⟩ : ∃ w : Word, w = BitVec.ofNat 32 (c.gn.acq.startAt / rootPerTick) := ⟨_, rfl⟩
  obtain ⟨hi, hhi⟩ : ∃ w : Word, w = BitVec.ofNat 32 (c.gn.acq.startAt / rootPerTick / 2 ^ 32) := ⟨_, rfl⟩
  have hadv : (c.advanceTo c.gn.acq.startAt).gn = c.gn := c.advanceTo_gn _
  obtain ⟨d, hd⟩ : ∃ d, d = ((c.advanceTo c.gn.acq.startAt).wr R.GN_ACQ_T0_LO lo).wr R.GN_ACQ_T0_HI hi := ⟨_, rfl⟩
  have hgn : d.gn = c.gn := by
    rw [hd, Chip.wr_gn, Chip.wr_gn, hadv]
  have hstart : c.captureStart = (if d.bit F.RF_STAT_ovl then d.latch F.GN_ACQ_STAT_ovl else d).setAcq fun a =>
      { a with capturing := true, ovl := d.bit F.RF_STAT_ovl } := by
    rw [hd, hlo, hhi]
    exact if_neg (by simp [hstate, hwaits])
  have hrd : ∀ a, a ≠ R.GN_ACQ_STAT → c.captureStart.rd a = d.rd a := fun a ha => by
    rw [hstart, Chip.rd_congr (Chip.setAcq_regs _ _)]
    split
    · exact Chip.rd_wr_ne _ ha _
    · rfl
  have hacq : c.captureStart.gn.acq = { c.gn.acq with capturing := true, ovl := d.bit F.RF_STAT_ovl } := by
    rw [hstart, ← hgn]
    split <;> rfl
  rw [Chip.settle_gn, settle_gn_rd _ (by decide), settle_gn_rd _ (by decide), hrd _ (by decide), hrd _ (by decide), hacq, hd, ← hlo, ← hhi]
  refine ⟨rfl, rfl, ?_, Chip.rd_wr_self _ _ _⟩
  rw [Chip.rd_wr_ne _ (by decide), Chip.rd_wr_self]

theorem captureOverflow_effect (hcap : c.gn.acq.capturing = true) (hfull : c.gn.acq.fifoFull = true) :
    c.captureOverflow.settle.bit F.GN_ACQ_STAT_ovf = true ∧ c.captureOverflow.settle.get F.GN_ACQ_STAT_state = acqIdle ∧
      c.captureOverflow.settle.bit F.GN_ACQ_CTRL_go = false ∧ c.captureOverflow.settle.gn.acq.capturing = false ∧
      c.captureOverflow.settle.pas.queue = c.pas.queue.filter fun q => !isAcqWord q := by
  have hlost : c.captureOverflow = (c.clearFifo.latch F.GN_ACQ_STAT_ovf).acqDone (2 ^ 16 + 2 ^ 18 * b2n c.gn.acq.ovl) := by
    rw [Chip.captureOverflow, hcap, hfull]
    rfl
  rw [settle_gn_bit _ (by decide), settle_gn_get _ (by decide), settle_gn_bit _ (by decide), Chip.settle_gn, Chip.settle_pas, hlost]
  obtain ⟨hstate, hgo, hoff⟩ := (c.clearFifo.latch F.GN_ACQ_STAT_ovf).acqDone_idle (2 ^ 16 + 2 ^ 18 * b2n c.gn.acq.ovl)
  refine ⟨?_, hstate, hgo, hoff, rfl⟩
  rw [(Chip.acqDone_keeps _ _).bit (by decide)]
  exact Chip.bit_latch_self _ (by decide) rfl

/-! ## The rate of epochs (R339) -/

theorem epochRate_effect (hsome : c.gn.rateAt.isSome = true) :
    c.epochRate.settle.gn.rate = c.get F.GN_CTRL_rate ∧ c.epochRate.settle.gn.rateAt = none := by
  obtain ⟨n, hn⟩ := Option.isSome_iff_exists.mp hsome
  have hrate : (c.advanceTo (n * 192000 * rootPerTick)).get F.GN_CTRL_rate = c.get F.GN_CTRL_rate :=
    KeepsFlds.advanceTo (KeepsFlds.refl c) _ (by decide)
  rw [Chip.settle_gn, Chip.epochRate, hn]
  exact ⟨hrate, rfl⟩

end

end Sys2Proof.Machine
end

section
/-! PROOFS. Tracking channels: starts, stops, configuration, dumps and timeouts (R331 to R338). -/

-- One theorem at a time: many at once, each with a thread of its own, do not fit in memory.
set_option Elab.async false

namespace Sys2Proof.Machine

open Sys2Proof (gnRegs)

variable (c : Chip)

/-! ## A channel -/

@[simp] theorem Chip.chan_setChan_self (n : Nat) (x : Chan) : (c.setChan n x).chan n = x := KMap.get_set_self _ _ _ _

theorem Chip.chan_setChan_ne {n m : Nat} (h : m ≠ n) (x : Chan) : (c.setChan n x).chan m = c.chan m := KMap.get_set_ne _ _ h _ _

theorem settle_chan (n : Nat) : c.settle.chan n = c.chan n := chan_congr (congrArg GnSt.ch (Chip.settle_gn c)) n

theorem chStat_ne_ctrl (n : Nat) : R.GN_CH_STAT n ≠ R.GN_CH_CTRL n := by
  simp only [R.GN_CH_STAT, R.GN_CH_CTRL]
  omega

section

variable (n : Fin 96)

theorem settle_chState : c.settle.chState n.val = c.chState n.val := settle_gn_get c (chCtrl_own n).2.1

theorem settle_chCtrl {f : Fld} (hf : f.addr = R.GN_CH_CTRL n.val) : c.settle.bit f = c.bit f :=
  settle_gn_bit c (by rw [hf]; exact (chCtrl_own n).1)

theorem settle_chStat {f : Fld} (hf : f.addr = R.GN_CH_STAT n.val) : c.settle.bit f = c.bit f :=
  settle_gn_bit c (by rw [hf]; exact (chCtrl_own n).2.1)

end

/-! ## A write of GN_CH_CTRL (R331, R335, R336) -/

/-- `hold` is taken, and `stop` where the channel runs. -/
def Chip.chCtrlSet (n : Nat) (v : Word) : Chip :=
  let c1 := c.put (F.GN_CH_CTRL_hold n) ((F.GN_CH_CTRL_hold n).of v)
  if (F.GN_CH_CTRL_stop n).ofB v && decide (c1.chState n ≠ chIdle) then c1.put (F.GN_CH_CTRL_stop n) 1 else c1

theorem Chip.writeChCtrl_eq (n : Nat) (v : Word) : c.writeChCtrl n v =
    if !(F.GN_CH_CTRL_start n).ofB v then c.chCtrlSet n v
    else if (c.chCtrlSet n v).startRefused n then (c.chCtrlSet n v).latch (F.GN_CH_STAT_rej n)
    else
      let t := (((c.chCtrlSet n v).now + rootPerMs + (rootPerMs - 1)) / rootPerMs) * rootPerMs
      (((c.chCtrlSet n v).put (F.GN_CH_CTRL_start n) 1).wr (R.GN_CH_T0 n) (BitVec.ofNat 32 (t / rootPerTick))).setChan n
        { (c.chCtrlSet n v).chan n with startAt := some t } := rfl

theorem Chip.chCtrlSet_rd (n : Nat) (v : Word) {a : Nat} (ha : a ≠ R.GN_CH_CTRL n) : (c.chCtrlSet n v).rd a = c.rd a := by
  unfold Chip.chCtrlSet
  dsimp only
  split
  · exact (Chip.rd_wr_ne _ ha _).trans (Chip.rd_wr_ne _ ha _)
  · exact Chip.rd_wr_ne _ ha _

theorem Chip.chCtrlSet_rest (n : Nat) (v : Word) :
    (c.chCtrlSet n v).gn = c.gn ∧ (c.chCtrlSet n v).time = c.time ∧ (c.chCtrlSet n v).fold = c.fold := by
  unfold Chip.chCtrlSet
  dsimp only
  split <;> exact ⟨rfl, rfl, rfl⟩

theorem Chip.chCtrlSet_chState (n : Nat) (v : Word) : (c.chCtrlSet n v).chState n = c.chState n := by
  simp only [Chip.chState, Chip.get, c.chCtrlSet_rd n v (show (F.GN_CH_STAT_state n).addr ≠ R.GN_CH_CTRL n from chStat_ne_ctrl n)]

/-- What R331 asks for is not in GN_CH_CTRL. -/
theorem Chip.chCtrlSet_startRefused (n : Nat) (v : Word) : (c.chCtrlSet n v).startRefused n = c.startRefused n := by
  have hget : ∀ f : Fld, f.addr ≠ R.GN_CH_CTRL n → (c.chCtrlSet n v).get f = c.get f := fun f hf => by
    simp only [Chip.get, c.chCtrlSet_rd n v hf]
  have hcfg : R.GN_CH_CFG n ≠ R.GN_CH_CTRL n := by
    simp only [R.GN_CH_CFG, R.GN_CH_CTRL]
    omega
  have hspace : R.GN_CH_SPACE n ≠ R.GN_CH_CTRL n := by
    simp only [R.GN_CH_SPACE, R.GN_CH_CTRL]
    omega
  have hsrc : (c.chCtrlSet n v).corrSrc n = c.corrSrc n := by rw [Chip.corrSrc, (c.chCtrlSet_rest n v).2.2, Chip.corrSrc]
  unfold Chip.startRefused
  dsimp only
  rw [hget (F.GN_CH_SPACE_sp n) hspace, hget (F.GN_CH_SPACE_vsp n) hspace, hget (F.GN_CH_CFG_acc n) hcfg, hget (F.GN_CH_CFG_aph n) hcfg,
    hget (F.GN_CH_CFG_sig n) hcfg, hget (F.GN_CH_CFG_prn n) hcfg, hget (F.GN_CH_CFG_comp n) hcfg, c.chCtrlSet_chState, hsrc]

/-- A refused start is shown, and leaves the state. -/
theorem Chip.rejected_shown (n : Nat) : (c.latch (F.GN_CH_STAT_rej n)).bit (F.GN_CH_STAT_rej n) = true ∧
    (c.latch (F.GN_CH_STAT_rej n)).chState n = c.chState n :=
  ⟨Chip.bit_latch_self _ (by simp [F.GN_CH_STAT_rej]) rfl,
    KeepsFlds.latch (KeepsFlds.refl c) _ (Fld.freeOf_same _ (by decide) (by decide))⟩

section

variable {c : Chip} {v : Word} (n : Fin 96)

theorem channelStartRequest_effect (hv : (F.GN_CH_CTRL_start n.val).ofB v = true) :
    Sys2Proof.chStartEffect c (c.writeChCtrl n.val v).settle n.val := by
  have hwrite := c.writeChCtrl_eq n.val v
  rw [hv, c.chCtrlSet_startRefused] at hwrite
  obtain ⟨hgn, htime, -⟩ := c.chCtrlSet_rest n.val v
  have hchan : (c.chCtrlSet n.val v).chan n.val = c.chan n.val := chan_congr (congrArg GnSt.ch hgn) _
  unfold Sys2Proof.chStartEffect
  rw [settle_chStat _ n rfl, settle_chCtrl _ n rfl, settle_chState, settle_chan, settle_gn_rd _ (chCtrl_own n).2.2]
  split
  next href =>
    rw [hwrite.trans ((if_neg (by decide)).trans (if_pos href))]
    obtain ⟨hrej, hstate⟩ := (c.chCtrlSet n.val v).rejected_shown n.val
    exact ⟨hrej, hstate.trans (c.chCtrlSet_chState _ _), hchan⟩
  next href =>
    have hnow : (c.chCtrlSet n.val v).now = c.now := congrArg (fun t : TimeSt => t.stc * rootPerTick + t.frac.val) htime
    have hms : rootPerMs = 192 * rootPerTick := rfl
    have hend : ∀ m : Nat, 0 < m → c.now + m + (m - 1) = c.now + 2 * m - 1 := fun m hm => by omega
    have ht0 : (F.GN_CH_CTRL_start n.val).addr ≠ R.GN_CH_T0 n.val := by
      simp only [F.GN_CH_CTRL_start, R.GN_CH_CTRL, R.GN_CH_T0]
      omega
    rw [hwrite.trans ((if_neg (by decide)).trans (if_neg href)), hnow, hend _ (by decide), hms, hchan, Chip.chan_setChan_self]
    refine ⟨rfl, ?_, by rw [Chip.rd_congr (Chip.setChan_regs _ _ _), Chip.rd_wr_self]⟩
    rw [Chip.bit_congr (Chip.setChan_regs _ _ _), Chip.bit, Chip.get_wr_ne _ ht0]
    exact Chip.put_one_bit _ rfl rfl

theorem channelStopRequest_effect (hv : (F.GN_CH_CTRL_stop n.val).ofB v = true) (hon : c.chState n.val ≠ chIdle) :
    (c.writeChCtrl n.val v).settle.bit (F.GN_CH_CTRL_stop n.val) = true ∧
      (c.writeChCtrl n.val v).settle.chState n.val = c.chState n.val := by
  have hstop : (c.chCtrlSet n.val v).bit (F.GN_CH_CTRL_stop n.val) = true := by
    have hstate : (c.put (F.GN_CH_CTRL_hold n.val) ((F.GN_CH_CTRL_hold n.val).of v)).chState n.val ≠ chIdle := by
      rw [Chip.chState, Chip.get_put_ne _ (chStat_ne_ctrl n.val)]
      exact hon
    unfold Chip.chCtrlSet
    dsimp only
    rw [if_pos (by simp [hv, hstate])]
    exact Chip.put_one_bit _ rfl rfl
  have href : (c.chCtrlSet n.val v).startRefused n.val = true := by
    rw [c.chCtrlSet_startRefused, Chip.startRefused]
    simp [hon]
  rw [settle_chCtrl _ n rfl, settle_chState, c.writeChCtrl_eq, href]
  obtain ⟨-, hstate⟩ := (c.chCtrlSet n.val v).rejected_shown n.val
  split
  · exact ⟨hstop, c.chCtrlSet_chState _ _⟩
  · rw [if_pos rfl]
    refine ⟨?_, hstate.trans (c.chCtrlSet_chState _ _)⟩
    exact (Chip.bit_put_ne _ (chStat_ne_ctrl n.val).symm _).trans hstop

/-! ## Starts, stops and timeouts (R331, R336) -/

/-- The channel with the state and the request of a start or of a stop at their ends. -/
theorem Chip.chState_ended {d : Chip} (st : Nat) (hst : st < 4) (f : Fld) (hf : f.addr = R.GN_CH_CTRL n.val) :
    ((d.put (F.GN_CH_STAT_state n.val) st).put f 0).chState n.val = st := by
  have hne : (F.GN_CH_STAT_state n.val).addr ≠ f.addr := by
    rw [hf]
    exact chStat_ne_ctrl n.val
  rw [Chip.chState, Chip.get_put_ne _ hne]
  exact (Chip.get_put_cut _ rfl _).trans (Nat.mod_eq_of_lt hst)

theorem channelStart_effect (hsome : (c.chan n.val).startAt.isSome = true) :
    (c.chanStart n.val).settle.chState n.val = chPull ∧ (c.chanStart n.val).settle.bit (F.GN_CH_CTRL_start n.val) = false ∧
      ((c.chanStart n.val).settle.chan n.val).startAt = none ∧
      ((c.chanStart n.val).settle.chan n.val).code = ((c.rd (R.GN_CH_CODE n.val)).toNat : Rat) / 65536 ∧
      ((c.chanStart n.val).settle.chan n.val).carr = 0 ∧
      ((c.chanStart n.val).settle.chan n.val).w = ((c.rd (R.GN_CH_DOP n.val)).toInt : Rat) / 1024 ∧
      ((c.chanStart n.val).settle.chan n.val).sec = c.get (F.GN_CH_SEC_sec n.val) ∧
      ∀ t, (c.chan n.val).startAt = some t →
        (c.chanStart n.val).settle.now = (c.advanceTo t).now ∧ ((c.chanStart n.val).settle.chan n.val).at_ = t := by
  obtain ⟨t, ht⟩ := Option.isSome_iff_exists.mp hsome
  have htmr : R.GN_CH_CODE n.val ≠ R.PWR_TMR ∧ R.GN_CH_DOP n.val ≠ R.PWR_TMR ∧ R.GN_CH_SEC n.val ≠ R.PWR_TMR := by
    simp only [R.GN_CH_CODE, R.GN_CH_DOP, R.GN_CH_SEC, R.PWR_TMR]
    omega
  obtain ⟨hcode, hdop, hsec⟩ := htmr
  have hrd : ∀ a, a ≠ R.PWR_TMR → (c.advanceTo t).rd a = c.rd a := fun a ha =>
    (Touches.advanceTo (Touches.refl [.time] (fun _ => false) c)).rd a rfl ha
  obtain ⟨x, hx, hstart⟩ : ∃ x : Chan, (x.startAt = none ∧ x.code = ((c.rd (R.GN_CH_CODE n.val)).toNat : Rat) / 65536 ∧ x.carr = 0 ∧
      x.w = ((c.rd (R.GN_CH_DOP n.val)).toInt : Rat) / 1024 ∧ x.sec = c.get (F.GN_CH_SEC_sec n.val) ∧ x.at_ = t) ∧
      c.chanStart n.val = (((c.advanceTo t).setChan n.val x).put (F.GN_CH_STAT_state n.val) chPull).put (F.GN_CH_CTRL_start n.val) 0 := by
    have hsecAt : c.get (F.GN_CH_SEC_sec n.val) = (c.advanceTo t).get (F.GN_CH_SEC_sec n.val) := by
      simp only [Chip.get, hrd (F.GN_CH_SEC_sec n.val).addr hsec]
    rw [← hrd _ hcode, ← hrd _ hdop, hsecAt, Chip.chanStart, ht]
    exact ⟨_, ⟨rfl, rfl, rfl, rfl, rfl, rfl⟩, rfl⟩
  obtain ⟨hnone, hxcode, hxcarr, hxw, hxsec, hxat⟩ := hx
  have hchan : (c.chanStart n.val).chan n.val = x := by
    rw [hstart]
    exact Chip.chan_setChan_self _ _ _
  rw [settle_chState, settle_chCtrl _ n rfl, settle_chan, hchan, Chip.settle_now]
  refine ⟨?_, ?_, hnone, hxcode, hxcarr, hxw, hxsec, fun t' ht' => ?_⟩
  · rw [hstart]
    exact Chip.chState_ended n _ (by decide) _ rfl
  · rw [hstart]
    exact Chip.put_zero_bit _ rfl
  · rw [ht] at ht'
    cases ht'
    refine ⟨?_, hxat⟩
    rw [hstart]
    rfl

/-- A channel that becomes idle. -/
theorem Chip.chanIdle_idle (c : Chip) : (c.chanIdle n.val).chState n.val = chIdle ∧ (c.chanIdle n.val).bit (F.GN_CH_CTRL_stop n.val) = false :=
  ⟨Chip.chState_ended n _ (by decide) _ rfl, Chip.put_zero_bit _ rfl⟩

theorem channelStop_effect (hstop : c.bit (F.GN_CH_CTRL_stop n.val) = true) :
    (c.chanStop n.val).settle.chState n.val = chIdle ∧ (c.chanStop n.val).settle.bit (F.GN_CH_CTRL_stop n.val) = false := by
  obtain ⟨d, hd⟩ : ∃ d : Chip, c.chanStop n.val = d.chanIdle n.val := by
    unfold Chip.chanStop
    rw [hstop]
    exact ⟨_, if_neg (by decide)⟩
  rw [settle_chState, settle_chCtrl _ n rfl, hd]
  exact Chip.chanIdle_idle n d

theorem pullTimeout_effect (hst : c.chState n.val = chPull)
    (hlate : max 1 (c.get (F.GN_CH_COAST_coast n.val)) ≤ (c.chan n.val).msIn) :
    (c.pullTimeout n.val).settle.chState n.val = chIdle ∧ (c.pullTimeout n.val).settle.bit (F.GN_CH_STAT_fail n.val) = true := by
  have hfail : c.pullTimeout n.val = (c.chanIdle n.val).latch (F.GN_CH_STAT_fail n.val) := if_pos ⟨hst, hlate⟩
  have hstate : ((c.chanIdle n.val).latch (F.GN_CH_STAT_fail n.val)).chState n.val = (c.chanIdle n.val).chState n.val :=
    KeepsFlds.latch (KeepsFlds.refl _) _ (Fld.freeOf_same _ (by decide) (by decide))
  rw [settle_chState, settle_chStat _ n rfl, hfail, hstate]
  exact ⟨(Chip.chanIdle_idle n c).1, Chip.bit_latch_self _ (by simp [F.GN_CH_STAT_fail]) rfl⟩

theorem coastTimeout_effect (hst : c.chState n.val = chLost)
    (hlate : max 1 (c.get (F.GN_CH_COAST_coast n.val)) ≤ (c.chan n.val).msIn) :
    (c.coastTimeout n.val).settle.chState n.val = chIdle ∧
      (c.coastTimeout n.val).settle.get (F.GN_CH_STAT_fail n.val) = c.get (F.GN_CH_STAT_fail n.val) := by
  have hidle : c.coastTimeout n.val = c.chanIdle n.val := if_pos ⟨hst, hlate⟩
  rw [settle_chState, settle_gn_get _ (chCtrl_own n).2.1, hidle]
  have hfree : (F.GN_CH_STAT_fail n.val).freeOf [F.GN_CH_STAT_state n.val] = true := Fld.freeOf_same _ (by decide) (by decide)
  refine ⟨(Chip.chanIdle_idle n c).1, ?_⟩
  rw [Chip.chanIdle, Chip.get_put_ne _ (chStat_ne_ctrl n.val), Chip.get_put_free _ hfree]
  rfl

/-! ## Configuration (R338) -/

theorem chCfg_ne_stat (k : ChCfgReg) (n : Nat) : chCfgAddr k n ≠ R.GN_CH_STAT n := by
  cases k <;> simp only [chCfgAddr, R.GN_CH_CFG, R.GN_CH_SPACE, R.GN_CH_CODE, R.GN_CH_SEC, R.GN_CH_STAT] <;> omega

theorem chCfg_gn (k : ChCfgReg) (n : Fin 96) : gnRegs (chCfgAddr k n.val) = true := by
  have h : ∀ n : Fin 96, gnRegs (chCfgAddr k n.val) = true := by cases k <;> decide +kernel
  exact h n

theorem channelConfigWrite_effect (k : ChCfgReg) (v : Word) {row : RegRow} (hrow : regRow? (chCfgAddr k n.val) = some row) :
    if c.chState n.val = chIdle then
      (c.writeChCfg n.val (chCfgAddr k n.val) v).settle.rd (regCanon (chCfgAddr k n.val)) =
        (row.written (c.rd (regCanon (chCfgAddr k n.val))) v ||| (c.collide (regCanon (chCfgAddr k n.val)) v &&& row.w1c))
    else (c.writeChCfg n.val (chCfgAddr k n.val) v).settle.bit (F.GN_CH_STAT_rej n.val) = true ∧
      (c.writeChCfg n.val (chCfgAddr k n.val) v).settle.rd (chCfgAddr k n.val) = c.rd (chCfgAddr k n.val) := by
  split
  next hidle =>
    rw [settle_gn_rd _ (chCfg_own k n).1, Chip.writeChCfg, if_pos hidle]
    exact c.rd_plainWrite_self hrow v
  next hrun =>
    rw [settle_chStat _ n rfl, settle_gn_rd _ (chCfg_gn k n), Chip.writeChCfg, if_neg hrun]
    exact ⟨(c.rejected_shown n.val).1, Chip.rd_wr_ne _ (chCfg_ne_stat k n.val) _⟩

/-! ## Dumps (R334, R336) -/

theorem dump_effect (xs : List (Int × Int)) (hon : c.chState n.val ≠ chIdle) (hfull : (c.chan n.val).full = false) :
    Sys2Proof.dumpEffect (Sys2Proof.withDump c n.val xs) (c.dump n.val xs).settle n.val := by
  generalize hd : Sys2Proof.withDump c n.val xs = d
  intro s nz rest hlist
  have hdump : c.dump n.val xs = d.takeDump n.val s nz rest := by
    have hd' : (if (c.chan n.val).ready.isEmpty then c.toDump n.val xs else c) = d := hd
    unfold Chip.dump
    rw [if_neg (by simp [hon, hfull])]
    dsimp only
    rw [hd', hlist]
  have hchan : (d.takeDump n.val s nz rest).chan n.val = _ := Chip.chan_setChan_self _ _ _
  rw [settle_chState, settle_chan, hdump, hchan]
  exact ⟨rfl, rfl, rfl, rfl, rfl, rfl⟩

end

end Sys2Proof.Machine
end

section
/-! PROOFS. The end of an integration: loops, lock detector and the state it leaves (R335, R336). -/

-- One theorem at a time: many at once, each with a thread of its own, do not fit in memory.
set_option Elab.async false

namespace Sys2Proof.Machine

open Sys2Proof (gnRegs)

variable (c : Chip) (n : Nat)

/-! ## The loops (R335) -/

/-- Are the loops of a channel held? -/
def Chip.loopsHeld : Prop :=
  c.bit (F.GN_CH_CTRL_hold n) = true ∨ (c.bit F.RF_STAT_ovl = true ∧ c.corrSrc n ≠ 3) ∨ c.chState n = chLost

/-- What the loops at the end of an integration with the sums `s` make of the channel `k`. -/
structure Looped (s : Sums) (k x : Chan) : Prop where
  aid : x.aid = none
  fdop : x.fdop = k.fdop
  rate : x.rate = k.rate
  due : x.due.isSome = true
  held : k.aid = none → c.loopsHeld n → x.w = loopHeld k.w
  phase : k.aid = none → ¬c.loopsHeld n → c.chState n = chTrack → c.bit (F.GN_CH_CFG_pll n) = true →
    x.w = loopHeld (k.w + (c.get (F.GN_CH_LOOP_A_kf n) : Rat) / 65536 *
      (c.discriminate n s ((max 1 (c.get (F.GN_CH_CFG_acc n)) : Rat) / 1000)).1 / ((max 1 (c.get (F.GN_CH_CFG_acc n)) : Rat) / 1000))
  freq : k.aid = none → ¬c.loopsHeld n → (c.chState n = chPull ∨ c.bit (F.GN_CH_CFG_pll n) = false) →
    x.w = loopHeld (k.w + (c.get (F.GN_CH_LOOP_B_kfl n) : Rat) / 65536 *
      (c.discriminate n s ((max 1 (c.get (F.GN_CH_CFG_acc n)) : Rat) / 1000)).2.1)
  aided : ∀ v, k.aid = some v → x.w = loopHeld ((v.toInt : Rat) / 1024)
  lk : x.lk = k.lk
  spAvg : x.spAvg = k.spAvg
  bad : x.bad = k.bad
  good : x.good = k.good

theorem Chip.loops_looped (s : Sums) : ∃ x, c.loops n s = c.setChan n x ∧ Looped c n s (c.chan n) x := by
  have hheld : (c.bit (F.GN_CH_CTRL_hold n) || (c.bit F.RF_STAT_ovl && decide (c.corrSrc n ≠ 3)) || decide (c.chState n = chLost)) = true ↔
      c.loopsHeld n := by
    simp only [Bool.or_eq_true, Bool.and_eq_true, decide_eq_true_eq, Chip.loopsHeld, or_assoc]
  refine ⟨_, rfl, ⟨rfl, rfl, rfl, rfl, fun haid h => ?_, fun haid h hst hpll => ?_, fun haid h hst => ?_, fun v haid => ?_, rfl, rfl, rfl, rfl⟩⟩
  · dsimp only
    rw [haid, if_pos (hheld.mpr h)]
  · have hmode : ¬(c.chState n = chPull ∨ (!c.bit (F.GN_CH_CFG_pll n)) = true) := by
      rw [hst, hpll]
      decide
    dsimp only
    rw [haid, if_neg fun hh => h (hheld.mp hh), if_neg hmode]
    rfl
  · have hmode : c.chState n = chPull ∨ (!c.bit (F.GN_CH_CFG_pll n)) = true := hst.imp_right fun hpll => by rw [hpll]; rfl
    dsimp only
    rw [haid, if_neg fun hh => h (hheld.mp hh), if_pos hmode]
    rfl
  · dsimp only
    rw [haid]

/-! ## The lock detector (R336) -/

/-- The prompt power of an integration. -/
def Sums.power (s : Sums) : Int := s.p.1 * s.p.1 + s.p.2 * s.p.2

/-- What the detector at the end of an integration with the sums `s` makes of the channel `x`. -/
structure Detected (s : Sums) (x y : Chan) : Prop where
  loop : y.w = x.w ∧ y.aid = x.aid ∧ y.fdop = x.fdop ∧ y.rate = x.rate ∧ y.due = x.due
  lk : s.power ≠ 0 → y.lk = x.lk + (((s.p.1 * s.p.1 - s.p.2 * s.p.2 : Int) : Rat) / (s.power : Rat) - x.lk) / 8
  spAvg : y.spAvg = x.spAvg + ((s.power : Rat) - x.spAvg) / 16
  bad : y.bad = x.bad
  good : y.good = x.good

theorem Chip.detector_detected (s : Sums) : ∃ (d : Chip) (y : Chan), c.detector n s = d.setChan n y ∧ d.regs = c.regs ∧ Detected s (c.chan n) y := by
  unfold Chip.detector
  dsimp only
  by_cases hpw : norm2 s.p = 0
  · rw [if_pos hpw]
    exact ⟨_, _, rfl, rfl, ⟨⟨rfl, rfl, rfl, rfl, rfl⟩, fun h => absurd hpw h, rfl, rfl, rfl⟩⟩
  · rw [if_neg hpw]
    exact ⟨_, _, rfl, rfl, ⟨⟨rfl, rfl, rfl, rfl, rfl⟩, fun _ => rfl, rfl, rfl, rfl⟩⟩

/-! ## The state (R336) -/

/-- The channel in which the integrations were counted, good and not. -/
def Chan.counted (x : Chan) (ok : Bool) : Chan := { x with good := if ok then x.good + 1 else 0, bad := if ok then 0 else x.bad + 1 }

/-- Lock is lost: the coast begins, and the loss is shown and reported. -/
def Chip.lockLost (ovl : Bool) : Chip :=
  ((((c.setChan n { c.chan n with msIn := 0, good := 0, bad := 0, cont := false }).put (F.GN_CH_STAT_state n) chLost).put
    (F.GN_CH_STAT_lost n) 1).noteBits (R.GN_CH_STAT n) (F.GN_CH_STAT_lost n).mask).raise Ev.GN_LOCK_LOST (locChannel n)
    (BitVec.ofNat 32 (c.get (F.GN_CH_CFG_prn n) + 256 * c.get (F.GN_CH_CFG_sig n) + 65536 * b2n ovl))

theorem Chip.judgeChan_eq (ovl : Bool) : c.judgeChan n ovl =
    if c.chState n = chTrack then
      if max 1 (c.get (F.GN_CH_LOCK_lost_n n)) ≤ ((c.chan n).counted (c.isGood n)).bad then
        (c.setChan n ((c.chan n).counted (c.isGood n))).lockLost n ovl
      else c.setChan n ((c.chan n).counted (c.isGood n))
    else if 8 ≤ ((c.chan n).counted (c.isGood n)).good then (c.setChan n ((c.chan n).counted (c.isGood n))).enterTrack n
    else c.setChan n ((c.chan n).counted (c.isGood n)) := rfl

/-- The loops and the detector of a channel are as they were. -/
structure SameLoops (x y : Chan) : Prop where
  w : y.w = x.w
  aid : y.aid = x.aid
  fdop : y.fdop = x.fdop
  rate : y.rate = x.rate
  due : y.due = x.due
  lk : y.lk = x.lk
  spAvg : y.spAvg = x.spAvg
  cn0 : y.cn0 = x.cn0

theorem Chip.lockLost_loops (ovl : Bool) : SameLoops (c.chan n) ((c.lockLost n ovl).chan n) := by
  have h : (c.lockLost n ovl).chan n = { c.chan n with msIn := 0, good := 0, bad := 0, cont := false } := Chip.chan_setChan_self _ _ _
  rw [h]
  exact ⟨rfl, rfl, rfl, rfl, rfl, rfl, rfl, rfl⟩

theorem Chip.enterTrack_loops : SameLoops (c.chan n) ((c.enterTrack n).chan n) ∧ ((c.enterTrack n).chan n).adr = 0 := by
  have h : (c.enterTrack n).chan n = { c.chan n with
      good := 0, bad := 0, msIn := 0, lockMs := 0, adr := 0, cont := false,
      carr := if decide (c.chState n = chLost) then 0 else (c.chan n).carr } := Chip.chan_setChan_self _ _ _
  rw [h]
  exact ⟨⟨rfl, rfl, rfl, rfl, rfl, rfl, rfl, rfl⟩, rfl⟩

theorem Chip.judgeChan_loops (ovl : Bool) : SameLoops (c.chan n) ((c.judgeChan n ovl).chan n) := by
  have hcounted : (c.setChan n ((c.chan n).counted (c.isGood n))).chan n = (c.chan n).counted (c.isGood n) := Chip.chan_setChan_self _ _ _
  have hsame : SameLoops (c.chan n) ((c.chan n).counted (c.isGood n)) := ⟨rfl, rfl, rfl, rfl, rfl, rfl, rfl, rfl⟩
  have htrans : ∀ {x y z : Chan}, SameLoops x y → SameLoops y z → SameLoops x z := fun h k =>
    ⟨k.w.trans h.w, k.aid.trans h.aid, k.fdop.trans h.fdop, k.rate.trans h.rate, k.due.trans h.due, k.lk.trans h.lk, k.spAvg.trans h.spAvg,
      k.cn0.trans h.cn0⟩
  rw [← hcounted] at hsame
  rw [Chip.judgeChan_eq]
  split
  · split
    · exact htrans hsame (Chip.lockLost_loops _ n ovl)
    · exact hsame
  · split
    · exact htrans hsame (Chip.enterTrack_loops _ n).1
    · exact hsame

/-- The state that an integration leaves. -/
structure Judged (c d : Chip) (n : Nat) : Prop where
  lost : c.chState n = chTrack → c.isGood n = false → max 1 (c.get (F.GN_CH_LOCK_lost_n n)) ≤ (c.chan n).bad + 1 →
    d.chState n = chLost ∧ d.bit (F.GN_CH_STAT_lost n) = true
  stays : c.chState n = chTrack → (c.isGood n = true ∨ (c.chan n).bad + 1 < max 1 (c.get (F.GN_CH_LOCK_lost_n n))) → d.chState n = chTrack
  found : c.chState n ≠ chTrack → c.isGood n = true → 8 ≤ (c.chan n).good + 1 → d.chState n = chTrack ∧ (d.chan n).adr = 0
  waits : c.chState n ≠ chTrack → (c.isGood n = false ∨ (c.chan n).good + 1 < 8) → d.chState n = c.chState n

theorem Chip.lockLost_shown (ovl : Bool) : (c.lockLost n ovl).chState n = chLost ∧ (c.lockLost n ovl).bit (F.GN_CH_STAT_lost n) = true := by
  have hfree : (F.GN_CH_STAT_state n).freeOf [F.GN_CH_STAT_lost n] = true := Fld.freeOf_same _ (by decide) (by decide)
  have hregs : ∀ d : Chip, ((d.put (F.GN_CH_STAT_state n) chLost).put (F.GN_CH_STAT_lost n) 1).chState n = chLost ∧
      ((d.put (F.GN_CH_STAT_state n) chLost).put (F.GN_CH_STAT_lost n) 1).bit (F.GN_CH_STAT_lost n) = true := fun d => by
    rw [Chip.chState, Chip.get_put_free _ hfree]
    exact ⟨Chip.get_put_cut _ rfl _, Chip.put_one_bit _ rfl rfl⟩
  exact hregs _

theorem Chip.enterTrack_state : (c.enterTrack n).chState n = chTrack := Chip.get_put_cut _ rfl _

theorem Chip.judgeChan_judged (ovl : Bool) : Judged c (c.judgeChan n ovl) n := by
  have hbad : c.isGood n = false → ((c.chan n).counted (c.isGood n)).bad = (c.chan n).bad + 1 := fun h => by rw [h]; rfl
  have hgood : c.isGood n = true → ((c.chan n).counted (c.isGood n)).good = (c.chan n).good + 1 := fun h => by rw [h]; rfl
  have hbad0 : c.isGood n = true → ((c.chan n).counted (c.isGood n)).bad = 0 := fun h => by rw [h]; rfl
  have hgood0 : c.isGood n = false → ((c.chan n).counted (c.isGood n)).good = 0 := fun h => by rw [h]; rfl
  rw [Chip.judgeChan_eq]
  refine ⟨fun hst hok hlate => ?_, fun hst hok => ?_, fun hst hok hlong => ?_, fun hst hok => ?_⟩
  · rw [if_pos hst, if_pos (by rw [hbad hok]; exact hlate)]
    exact Chip.lockLost_shown _ n ovl
  · rw [if_pos hst, if_neg]
    · exact hst
    · cases hgd : c.isGood n with
      | true =>
        rw [← hgd, hbad0 hgd]
        omega
      | false =>
        rw [← hgd, hbad hgd]
        exact Nat.not_le.mpr (hok.resolve_left (by rw [hgd]; decide))
  · rw [if_neg hst, if_pos (by rw [hgood hok]; exact hlong)]
    exact ⟨Chip.enterTrack_state _ n, (Chip.enterTrack_loops _ n).2⟩
  · rw [if_neg hst, if_neg]
    · rfl
    · cases hgd : c.isGood n with
      | true =>
        rw [← hgd, hgood hgd]
        exact Nat.not_le.mpr (hok.resolve_left (by rw [hgd]; decide))
      | false =>
        rw [← hgd, hgood0 hgd]
        decide

/-! ## The row -/

/-- A channel whose integration is over. -/
structure Closed (x y : Chan) : Prop where
  loops : SameLoops x y
  adr : y.adr = x.adr
  sums : y.sums = none
  full : y.full = false

theorem Chip.integrationEnd_eq {s : Sums} (hsums : (c.chan n).sums = some s) (hfull : (c.chan n).full = true) (hon : c.chState n ≠ chIdle) :
    ∃ x : Chan, c.integrationEnd n = (((c.loops n s).detector n s).judgeChan n (c.chan n).ovlInt).setChan n x ∧
      Closed ((((c.loops n s).detector n s).judgeChan n (c.chan n).ovlInt).chan n) x := by
  have hguard : ¬((!(c.chan n).full) = true ∨ c.chState n = chIdle) := by
    rw [hfull]
    exact fun h => h.elim (by decide) hon
  unfold Chip.integrationEnd
  simp only [hsums]
  rw [if_neg hguard]
  exact ⟨_, rfl, ⟨rfl, rfl, rfl, rfl, rfl, rfl, rfl, rfl⟩, rfl, rfl, rfl⟩

theorem Chip.isGood_iff : c.isGood n = true ↔
    (c.get (F.GN_CH_LOCK_thr n) : Rat) / 256 ≤ (c.chan n).lk ∧ (c.get (F.GN_CH_LOCK_cn0_min n) : Rat) / 100 ≤ (c.chan n).cn0 := by
  simp only [Chip.isGood, Bool.and_eq_true, decide_eq_true_eq]

theorem integrationEnd_effect (n : Fin 96) {s : Sums} (hsums : (c.chan n.val).sums = some s) (hfull : (c.chan n.val).full = true)
    (hon : c.chState n.val ≠ chIdle) : integrationEffect c (c.integrationEnd n.val).settle n.val s := by
  obtain ⟨z, hrow, hclosed⟩ := c.integrationEnd_eq n.val hsums hfull hon
  obtain ⟨x, hloops, hx⟩ := c.loops_looped n.val s
  obtain ⟨e, y, hdet, hregs, hy⟩ := (c.loops n.val s).detector_detected n.val s
  have hxchan : (c.loops n.val s).chan n.val = x := by rw [hloops, Chip.chan_setChan_self]
  rw [hxchan] at hy
  generalize hd : (c.loops n.val s).detector n.val s = d at hrow hclosed hdet
  have hychan : d.chan n.val = y := by rw [hdet, Chip.chan_setChan_self]
  have hget : ∀ f, d.get f = c.get f := fun f => by
    have hrd : d.regs = c.regs := by rw [hdet, Chip.setChan_regs, hregs, hloops, Chip.setChan_regs]
    rw [Chip.get, Chip.rd_congr hrd, Chip.get]
  have hjl := d.judgeChan_loops n.val (c.chan n.val).ovlInt
  have hj := d.judgeChan_judged n.val (c.chan n.val).ovlInt
  generalize hg : d.judgeChan n.val (c.chan n.val).ovlInt = g at hrow hclosed hjl hj
  have hchan : (c.integrationEnd n.val).settle.chan n.val = z := by rw [settle_chan, hrow, Chip.chan_setChan_self]
  have hstate : (c.integrationEnd n.val).settle.chState n.val = g.chState n.val := by
    rw [settle_chState, hrow, Chip.chState, Chip.get, Chip.rd_congr (Chip.setChan_regs ..)]
    rfl
  have hlost : (c.integrationEnd n.val).settle.bit (F.GN_CH_STAT_lost n.val) = g.bit (F.GN_CH_STAT_lost n.val) := by
    rw [settle_chStat _ n rfl, hrow, Chip.bit, Chip.get, Chip.rd_congr (Chip.setChan_regs ..)]
    rfl
  rw [hychan] at hjl
  have hgood := d.isGood_iff n.val
  rw [hget, hget, hychan, ← hjl.lk, ← hclosed.loops.lk, ← hjl.cn0, ← hclosed.loops.cn0] at hgood
  have hbad : d.isGood n.val = false ↔
      ¬((c.get (F.GN_CH_LOCK_thr n.val) : Rat) / 256 ≤ z.lk ∧ (c.get (F.GN_CH_LOCK_cn0_min n.val) : Rat) / 100 ≤ z.cn0) := by
    rw [← hgood, Bool.not_eq_true]
  obtain ⟨hyw, hyaid, hyfdop, hyrate, hydue⟩ := hy.loop
  have hw : z.w = x.w := (hclosed.loops.w.trans hjl.w).trans hyw
  have hst : d.chState n.val = c.chState n.val := hget _
  simp only [integrationEffect, hchan, hstate, hlost, hclosed.sums, hclosed.full, hw, true_and]
  refine ⟨((hclosed.loops.aid.trans hjl.aid).trans hyaid).trans hx.aid, ((hclosed.loops.fdop.trans hjl.fdop).trans hyfdop).trans hx.fdop,
    ((hclosed.loops.rate.trans hjl.rate).trans hyrate).trans hx.rate, ?_, hx.held, hx.phase, hx.freq, hx.aided, fun hpw => ?_, ?_,
    fun hs ok late => ?_, fun hs ok => ?_, fun hs ok late => ?_, fun hs ok => ?_⟩
  · rw [hclosed.loops.due, hjl.due, hydue]
    exact hx.due
  · rw [hclosed.loops.lk, hjl.lk, hy.lk hpw, hx.lk]
    rfl
  · rw [hclosed.loops.spAvg, hjl.spAvg, hy.spAvg, hx.spAvg]
    rfl
  · exact hj.lost (hst.trans hs) (hbad.mpr ok) (by rw [hget, hychan, hy.bad, hx.bad]; exact late)
  · exact hj.stays (hst.trans hs) (by rw [hgood, hget, hychan, hy.bad, hx.bad]; exact ok)
  · obtain ⟨hfound, hadr⟩ := hj.found (fun h => hs (hst.symm.trans h)) (hgood.mpr ok) (by rw [hychan, hy.good, hx.good]; exact late)
    exact ⟨hfound, hclosed.adr.trans hadr⟩
  · rw [← hst]
    exact hj.waits (fun h => hs (hst.symm.trans h)) (by rw [hbad, hychan, hy.good, hx.good]; exact ok)

end Sys2Proof.Machine
end

section
/-! PROOFS. Epochs: every channel's record, latched one after the other (R339, R340). -/

-- One theorem at a time: many at once, each with a thread of its own, do not fit in memory.
set_option Elab.async false

namespace Sys2Proof.Machine

open Sys2Proof (gnRegs)

/-! ## What a record depends on -/

/-- The registers of the records. -/
def measOwn (a : Nat) : Bool := within a 0x400A0000 0x400A5FFF && decide (64 ≤ a % 256)

theorem measOwn_meas (n : Fin 96) (i : Fin 8) : measOwn (R.GN_CH_MEAS n.val i.val) = true := by
  simp only [measOwn, within, Bool.and_eq_true, decide_eq_true_eq]
  unfold R.GN_CH_MEAS
  omega

/-- All that the record of channel `n` depends on is as it was. -/
structure Alike (n : Nat) (c d : Chip) : Prop where
  chan : d.chan n = c.chan n
  rd : ∀ a, measOwn a = false → d.rd a = c.rd a
  time : d.time = c.time
  fold : d.fold = c.fold
  ovl : d.gn.ovl = c.gn.ovl
  ru : d.gn.ru = c.gn.ru

namespace Alike

variable {n : Nat} {c d : Chip}

theorem refl (n : Nat) (c : Chip) : Alike n c c := ⟨rfl, fun _ _ => rfl, rfl, rfl, rfl, rfl⟩

theorem trans {e : Chip} (h : Alike n c d) (k : Alike n d e) : Alike n c e :=
  ⟨k.chan.trans h.chan, fun a ha => (k.rd a ha).trans (h.rd a ha), k.time.trans h.time, k.fold.trans h.fold, k.ovl.trans h.ovl, k.ru.trans h.ru⟩

theorem setChan (h : Alike n c d) (x : Chan) : Alike n (c.setChan n x) (d.setChan n x) :=
  ⟨by rw [Chip.chan_setChan_self, Chip.chan_setChan_self], fun a ha => by
    rw [Chip.rd_congr (Chip.setChan_regs ..), Chip.rd_congr (Chip.setChan_regs ..), h.rd a ha], h.time, h.fold, h.ovl, h.ru⟩

theorem get (h : Alike n c d) {f : Fld} (hf : measOwn f.addr = false) : d.get f = c.get f := by rw [Chip.get, h.rd _ hf, Chip.get]

theorem cfg_free (n : Nat) : measOwn (R.GN_CH_CFG n) = false ∧ measOwn (R.GN_CH_STAT n) = false := by
  simp only [measOwn, within, Bool.and_eq_false_iff, decide_eq_false_iff_not]
  unfold R.GN_CH_CFG R.GN_CH_STAT
  omega

theorem cfg (h : Alike n c d) {f : Fld} (hf : f.addr = R.GN_CH_CFG n) : d.get f = c.get f := h.get (by rw [hf]; exact (cfg_free n).1)

theorem state (h : Alike n c d) : d.chState n = c.chState n := h.get (cfg_free n).2

theorem now (h : Alike n c d) : d.now = c.now := by rw [Chip.now, h.time, Chip.now]

theorem frameRate (h : Alike n c d) : d.frameRate = c.frameRate := by
  rw [Chip.frameRate, Chip.frameTicks, h.fold, h.get (f := F.PWR_STAT_state) (by decide), h.get (f := F.FOLD_STAT_rate) (by decide),
    Chip.frameRate, Chip.frameTicks]

theorem corrSrc (h : Alike n c d) : d.corrSrc n = c.corrSrc n := by rw [Chip.corrSrc, h.fold, Chip.corrSrc]

theorem chSig (h : Alike n c d) : d.chSig n = c.chSig n := by rw [Chip.chSig, h.cfg rfl, Chip.chSig]

theorem chipRate (h : Alike n c d) : d.chipRate n = c.chipRate n := by rw [Chip.chipRate, h.chSig, h.frameRate, Chip.chipRate]

theorem chIf (h : Alike n c d) : d.chIf n = c.chIf n := by rw [Chip.chIf, h.chSig, Chip.chIf]

theorem chipsPerMs (h : Alike n c d) : d.chipsPerMs n = c.chipsPerMs n := by rw [Chip.chipsPerMs, h.chipRate, Chip.chipsPerMs]

theorem periodMs (h : Alike n c d) : d.periodMs n = c.periodMs n := by rw [Chip.periodMs, h.chSig, Chip.periodMs]

theorem onPilot (h : Alike n c d) : d.onPilot n = c.onPilot n := by rw [Chip.onPilot, h.chSig, h.cfg rfl, Chip.onPilot]

theorem secNeg (h : Alike n c d) (pilot : Bool) : d.secNeg n pilot = c.secNeg n pilot := by
  rw [Chip.secNeg, h.cfg rfl, h.chSig, h.cfg rfl, h.chan, Chip.secNeg]

theorem sec (h : Alike n c d) : d.bit (F.GN_CH_CFG_sec n) = c.bit (F.GN_CH_CFG_sec n) := by rw [Chip.bit, h.cfg rfl, Chip.bit]

theorem wipe (h : Alike n c d) (s : Sums) : d.wipe n s = c.wipe n s := by
  simp only [Chip.wipe, h.sec, h.secNeg, h.onPilot, h.cfg (f := F.GN_CH_CFG_comp n) rfl]

theorem secAfter (h : Alike n c d) (k : Nat) : d.secAfter n k = c.secAfter n k := by
  simp only [Chip.secAfter, h.sec, h.chSig, h.onPilot, h.chan]

theorem dumpAt (h : Alike n c d) : d.dumpAt n = c.dumpAt n := by simp only [Chip.dumpAt, h.chan, h.chSig, h.chipsPerMs]

/-! ## The phases at the epoch -/

theorem chanStep (h : Alike n c d) (t : Nat) : Alike n (c.chanStep n t) (d.chanStep n t) := by
  simp only [Chip.chanStep, h.chan, h.chSig, h.chIf, h.state]
  exact h.setChan _

theorem chanEdge (h : Alike n c d) : Alike n (c.chanEdge n) (d.chanEdge n) := by
  simp only [Chip.chanEdge, h.chan, h.periodMs, h.wipe, h.secAfter]
  exact h.setChan _

theorem chanRun (strict : Bool) (t fuel : Nat) (h : Alike n c d) : Alike n (Chip.chanRun strict n t fuel c) (Chip.chanRun strict n t fuel d) := by
  induction fuel generalizing c d with
  | zero => exact h.chanStep t
  | succ fuel ih =>
    simp only [Chip.chanRun, h.dumpAt]
    split
    · exact h.chanStep t
    · split
      · exact ih (h.chanStep _).chanEdge
      · exact h.chanStep t

theorem chanMove (strict : Bool) (t : Nat) (h : Alike n c d) : Alike n (c.chanMove strict n t) (d.chanMove strict n t) := by
  rw [Chip.chanMove, Chip.chanMove, h.chan]
  exact h.chanRun _ _ _

/-! ## The record -/

theorem loopWas (h : Alike n c d) : d.loopWas n = c.loopWas n := by simp only [Chip.loopWas, h.chan, h.now, h.state]

theorem latched (h : Alike n c d) : d.latched n = c.latched n := by simp only [Chip.latched, h.chan, h.now, h.loopWas]

theorem record (h : Alike n c d) (seq : Nat) : d.record n seq = c.record n seq := by
  simp only [Chip.record, h.chan, h.latched, h.cfg (f := F.GN_CH_CFG_comp n) rfl, h.cfg (f := F.GN_CH_CFG_sig n) rfl,
    h.cfg (f := F.GN_CH_CFG_prn n) rfl, h.ovl, h.ru, h.corrSrc]

/-! ## What latching the records changes -/

/-- Another channel's record, and its span, are nothing to this one. -/
theorem setChan_ne {m : Nat} (hm : n ≠ m) (x : Chan) : Alike n c (c.setChan m x) :=
  ⟨Chip.chan_setChan_ne c hm x, fun a _ => Chip.rd_congr (Chip.setChan_regs ..) a, rfl, rfl, rfl, rfl⟩

theorem wr_meas {a : Nat} (ha : measOwn a = true) (v : Word) : Alike n c (c.wr a v) :=
  ⟨rfl, fun b hb => Chip.rd_wr_ne c (by rintro rfl; rw [ha] at hb; exact absurd hb (by decide)) v, rfl, rfl, rfl, rfl⟩

end Alike

/-! ## Records of all channels -/

/-- What one element of a list brings about, where what goes before it keeps `J`, stands after the whole list, where every other element
keeps it. -/
theorem foldl_once {α : Type} {g : Chip → α → Chip} {x : α} {l : List α} {J K : Chip → Prop} {c : Chip} (hto : ∀ d, J d → K (g d x))
    (hl : l.Nodup) (hJ : ∀ y ∈ l, y ≠ x → ∀ d, J d → J (g d y)) (hK : ∀ y ∈ l, y ≠ x → ∀ d, K d → K (g d y)) (hx : x ∈ l) (hc : J c) :
    K (l.foldl g c) := by
  obtain ⟨before, after, rfl⟩ := List.append_of_mem hx
  have hsplit := List.nodup_append.mp hl
  have hnot : ∀ y ∈ before, y ≠ x := fun y hy => hsplit.2.2 y hy x List.mem_cons_self
  have hafter : x ∉ after := (List.nodup_cons.mp hsplit.2.1).1
  rw [List.foldl_append, List.foldl_cons]
  refine List.foldlRecOn (motive := K) after g (hto _ ?_) fun d hd y hy =>
    hK y (List.mem_append_right _ (List.mem_cons_of_mem _ hy)) (fun h => hafter (h ▸ hy)) d hd
  exact List.foldlRecOn (motive := J) before g hc fun d hd y hy => hJ y (List.mem_append_left _ hy) (hnot y hy) d hd

section

variable (c : Chip)

/-- A record written to its registers. -/
def Chip.measSet (c : Chip) (n : Nat) (ws : List Nat) : Chip :=
  (List.range 8).foldl (fun c i => c.wr (R.GN_CH_MEAS n i) (BitVec.ofNat 32 ((ws[i]?).getD 0))) c

/-- The record that an epoch latches of a channel. -/
def Chip.recordNow (c : Chip) (n seq : Nat) : List Nat := (if c.chState n = chIdle then c else c.chanMove true n c.now).record n seq

theorem Alike.recordNow {n : Nat} {c d : Chip} (h : Alike n c d) (seq : Nat) : d.recordNow n seq = c.recordNow n seq := by
  rw [Chip.recordNow, Chip.recordNow, h.state, h.now]
  split
  · exact h.record seq
  · exact (h.chanMove true c.now).record seq

theorem Chip.latchRecord_eq (seq n : Nat) : Chip.latchRecord seq c n = (c.measSet n (c.recordNow n seq)).setChan n
    { (c.measSet n (c.recordNow n seq)).chan n with
      cont := decide ((c.measSet n (c.recordNow n seq)).chState n = chTrack), gap := false } := rfl

theorem Chip.latchRecord_rd (seq n a : Nat) : (Chip.latchRecord seq c n).rd a = (c.measSet n (c.recordNow n seq)).rd a := by
  rw [Chip.latchRecord_eq, Chip.rd_congr (Chip.setChan_regs ..)]

theorem Chip.measSet_alike (n : Nat) (m : Fin 96) (ws : List Nat) : Alike n c (c.measSet m.val ws) :=
  List.foldlRecOn (motive := fun d => Alike n c d) _ _ (.refl n c) fun _ hd i hi =>
    hd.trans (.wr_meas (measOwn_meas m ⟨i, List.mem_range.mp hi⟩) _)

theorem Chip.latchRecord_alike {n : Nat} {m : Fin 96} (hm : n ≠ m.val) (seq : Nat) : Alike n c (Chip.latchRecord seq c m.val) := by
  rw [Chip.latchRecord_eq]
  exact (c.measSet_alike n m _).trans (.setChan_ne hm _)

/-- The registers of a channel hold a record. -/
def Chip.measured (c : Chip) (n : Nat) (ws : List Nat) : Prop := ∀ i < 8, c.rd (R.GN_CH_MEAS n i) = BitVec.ofNat 32 ((ws[i]?).getD 0)

theorem meas_ne {n m : Nat} {i j : Nat} (hi : i < 8) (hj : j < 8) (h : n ≠ m ∨ i ≠ j) : R.GN_CH_MEAS n i ≠ R.GN_CH_MEAS m j := by
  unfold R.GN_CH_MEAS
  omega

theorem Chip.measSet_other {n m i : Nat} (hi : i < 8) (hm : n ≠ m) (ws : List Nat) :
    (c.measSet m ws).rd (R.GN_CH_MEAS n i) = c.rd (R.GN_CH_MEAS n i) :=
  List.foldlRecOn (motive := fun d : Chip => d.rd (R.GN_CH_MEAS n i) = c.rd (R.GN_CH_MEAS n i)) _ _ rfl fun _ hd _ hj =>
    (Chip.rd_wr_ne _ (meas_ne hi (List.mem_range.mp hj) (.inl hm)) _).trans hd

theorem Chip.measSet_measured (n : Nat) (ws : List Nat) : (c.measSet n ws).measured n ws := fun i hi => by
  refine foldl_reaches (g := fun c i => c.wr (R.GN_CH_MEAS n i) (BitVec.ofNat 32 ((ws[i]?).getD 0))) (x := i) (J := fun _ => True)
    (K := fun d => d.rd (R.GN_CH_MEAS n i) = BitVec.ofNat 32 ((ws[i]?).getD 0)) (fun d _ => Chip.rd_wr_self _ _ _)
    (List.range 8) (fun _ _ _ _ => trivial) (fun j hj d hd => ?_) (List.mem_range.mpr hi) c trivial
  by_cases hij : i = j
  · rw [hij]
    exact Chip.rd_wr_self _ _ _
  · exact (Chip.rd_wr_ne _ (meas_ne hi (List.mem_range.mp hj) (.inr hij)) _).trans hd

/-- All records of an epoch. -/
def Chip.records (c : Chip) (seq : Nat) : Chip := (List.range 96).foldl (Chip.latchRecord seq) c

/-- Every channel's record is latched as it stands before all of them. -/
theorem Chip.records_latched (seq : Nat) {n : Nat} (hn : n < 96) :
    (c.records seq).measured n (c.recordNow n seq) := by
  refine foldl_once (J := Alike n c) (K := fun d => d.measured n (c.recordNow n seq)) (fun d hd i hi => ?_)
    List.nodup_range (fun m hm hne d hd => ?_) (fun m hm hne d hd i hi => ?_)
    (List.mem_range.mpr hn) (.refl n c)
  · rw [Chip.latchRecord_rd, hd.recordNow seq]
    exact Chip.measSet_measured _ n _ i hi
  · exact hd.trans (d.latchRecord_alike (m := ⟨m, List.mem_range.mp hm⟩) (Ne.symm hne) seq)
  · rw [Chip.latchRecord_rd, Chip.measSet_other _ hi (Ne.symm hne)]
    exact hd i hi

/-! ## The row -/

/-- The chip at an epoch's instant. -/
def Chip.atEpoch (c : Chip) : Chip := c.advanceTo (c.epochStc * rootPerTick)

theorem Chip.atEpoch_rd {a : Nat} (ha : a ≠ R.PWR_TMR) : c.atEpoch.rd a = c.rd a := (c.advanceTo_touches _).rd a rfl ha

theorem chStat_ne_tmr (n : Nat) : R.GN_CH_STAT n ≠ R.PWR_TMR := by
  unfold R.GN_CH_STAT R.PWR_TMR
  omega

/-- The number of the next epoch. -/
def Chip.epochSeq (c : Chip) : Nat := (c.get F.GN_EPOCH_SEQ_value + 1) % 2 ^ 32

/-- What an epoch writes besides the records: its time, the steering then, its number. -/
def Chip.epochNoted (c : Chip) (steer : Word) (stc seq : Nat) : Chip :=
  (((c.wr R.GN_EPOCH_STC_LO (BitVec.ofNat 32 stc)).wr R.GN_EPOCH_STC_HI (BitVec.ofNat 32 (stc / 2 ^ 32))).wr R.GN_EPOCH_STEER steer).wr
    R.GN_EPOCH_SEQ (BitVec.ofNat 32 seq)

/-- The end of an epoch: its values in the registers, and its report. -/
def Chip.epochClosed (c : Chip) (steer : Word) (stc seq : Nat) : Chip :=
  let c3 := ((c.wr R.GN_EPOCH_STC_LO (BitVec.ofNat 32 stc)).wr R.GN_EPOCH_STC_HI (BitVec.ofNat 32 (stc / 2 ^ 32))).wr R.GN_EPOCH_STEER steer
  ({ (c3.wr R.GN_EPOCH_SEQ (BitVec.ofNat 32 seq)) with
    gn := { c3.gn with epochAt := some stc, ru := !c3.bit F.CLK_STAT_locked, ovl := c3.bit F.RF_STAT_ovl } }).raise
    Ev.GN_EPOCH locNone (BitVec.ofNat 32 seq)

theorem Chip.epoch_eq : c.epoch = if !c.bit F.GN_CTRL_ep_en then c
    else (c.atEpoch.records c.atEpoch.epochSeq).epochClosed (c.atEpoch.rd R.CLK_STEER) c.atEpoch.time.stc c.atEpoch.epochSeq := rfl

theorem Chip.epochClosed_shape (steer : Word) (stc seq : Nat) :
    (c.epochClosed steer stc seq).regs = (c.epochNoted steer stc seq).regs ∧ (c.epochClosed steer stc seq).time = c.time := ⟨rfl, rfl⟩

theorem Chip.records_time (seq : Nat) : (c.records seq).time = c.time :=
  List.foldlRecOn (motive := fun d : Chip => d.time = c.time) _ _ rfl fun d hd m hm =>
    (d.latchRecord_alike (n := 96) (m := ⟨m, List.mem_range.mp hm⟩) (Ne.symm (List.mem_range.mp hm).ne) seq).time.trans hd

theorem Chip.epochNoted_rd (steer : Word) (stc seq : Nat) :
    (c.epochNoted steer stc seq).rd R.GN_EPOCH_SEQ = BitVec.ofNat 32 seq ∧
      (c.epochNoted steer stc seq).rd R.GN_EPOCH_STC_LO = BitVec.ofNat 32 stc ∧
      (c.epochNoted steer stc seq).rd R.GN_EPOCH_STC_HI = BitVec.ofNat 32 (stc / 2 ^ 32) ∧
      (c.epochNoted steer stc seq).rd R.GN_EPOCH_STEER = steer ∧
      ∀ a, measOwn a = true → (c.epochNoted steer stc seq).rd a = c.rd a := by
  unfold Chip.epochNoted
  generalize BitVec.ofNat 32 stc = lo
  generalize BitVec.ofNat 32 (stc / 2 ^ 32) = hi
  refine ⟨Chip.rd_wr_self _ _ _, ?_, ?_, ?_, fun a ha => ?_⟩
  · rw [Chip.rd_wr_ne _ (by decide), Chip.rd_wr_ne _ (by decide), Chip.rd_wr_ne _ (by decide), Chip.rd_wr_self]
  · rw [Chip.rd_wr_ne _ (by decide), Chip.rd_wr_ne _ (by decide), Chip.rd_wr_self]
  · rw [Chip.rd_wr_ne _ (by decide), Chip.rd_wr_self]
  · have hne : ∀ b, measOwn b = false → a ≠ b := fun b hb h => by
      rw [← h, ha] at hb
      exact absurd hb (by decide)
    rw [Chip.rd_wr_ne _ (hne _ (by decide)), Chip.rd_wr_ne _ (hne _ (by decide)), Chip.rd_wr_ne _ (hne _ (by decide)),
      Chip.rd_wr_ne _ (hne _ (by decide))]

variable {c} in
theorem epoch_effect (hen : c.bit F.GN_CTRL_ep_en = true) : Sys2Proof.epochEffect c c.epoch.settle := by
  have hrow : c.epoch = _ := c.epoch_eq.trans (if_neg (by rw [hen]; decide))
  obtain ⟨hregs, htime⟩ := (c.atEpoch.records c.atEpoch.epochSeq).epochClosed_shape (c.atEpoch.rd R.CLK_STEER) c.atEpoch.time.stc c.atEpoch.epochSeq
  rw [← hrow] at hregs htime
  have hstc : c.epoch.settle.time.stc = c.atEpoch.time.stc := by rw [Chip.settle_stc, htime, Chip.records_time]
  have hrd : ∀ {a : Nat}, gnRegs a = true → c.epoch.settle.rd a = _ := fun {a} ha => (settle_gn_rd _ ha).trans (Chip.rd_congr hregs a)
  obtain ⟨hseq, hlo, hhi, hsteer, hmeas⟩ := (c.atEpoch.records c.atEpoch.epochSeq).epochNoted_rd (c.atEpoch.rd R.CLK_STEER)
    c.atEpoch.time.stc c.atEpoch.epochSeq
  have hnum : c.atEpoch.epochSeq = (c.get F.GN_EPOCH_SEQ_value + 1) % 2 ^ 32 := by
    rw [Chip.epochSeq, Chip.get, c.atEpoch_rd (by decide)]
    rfl
  unfold Sys2Proof.epochEffect
  dsimp only
  rw [hstc, hrd (by decide), hrd (by decide), hrd (by decide), hrd (by decide), hseq, hlo, hhi, hsteer, ← hnum]
  refine ⟨rfl, ?_, rfl, rfl, ?_, fun n hn i hi => ?_⟩
  · have hwhole : c.get F.GN_EPOCH_SEQ_value = (c.rd R.GN_EPOCH_SEQ).toNat := c.get_whole R.GN_EPOCH_SEQ
    rw [hnum, hwhole]
    apply BitVec.eq_of_toNat_eq
    rw [BitVec.toNat_add, BitVec.toNat_ofNat, Nat.mod_mod]
    rfl
  · exact c.atEpoch_rd (by decide)
  · have hrec := c.atEpoch.records_latched c.atEpoch.epochSeq hn i hi
    have hstate : c.atEpoch.chState n = c.chState n := by
      rw [Chip.chState, Chip.get, c.atEpoch_rd (show (F.GN_CH_STAT_state n).addr ≠ R.PWR_TMR from chStat_ne_tmr n)]
      rfl
    rw [Chip.recordNow, hstate] at hrec
    rw [hrd (chMeas_own hn hi), hmeas _ (measOwn_meas ⟨n, hn⟩ ⟨i, hi⟩)]
    exact hrec

end

end Sys2Proof.Machine
end

section
/-! PROOFS. The end of a search: its duration, and the record of each PRN (R327, R328). -/

-- One theorem at a time: many at once, each with a thread of its own, do not fit in memory.
set_option Elab.async false

namespace Sys2Proof.Machine

open Sys2Proof (gnRegs)

/-! ## The captured samples -/

/-- The registers in which the pasture reports errors. -/
def eccOwn (a : Nat) : Bool := within a 0x40030004 0x40030013

section

variable (c : Chip)

theorem Chip.pasRead_ecc_touches (src k lb bank w : Nat) : Touches [] eccOwn c (c.pasRead src k lb bank w).2.2 := by
  unfold Chip.pasRead
  dsimp only
  split
  · exact .refl _ _ c
  · split
    · exact (Touches.refl _ _ c).bump.raise
    · unfold Chip.pasUncorr
      extract_lets pad c1 c2
      have h1 : Touches [] eccOwn c c1 := (Touches.refl _ _ c).bump.put.put.put.put
      exact (Touches.ite h1.wr h1.wr).raise

theorem Chip.acqWord_ecc_touches (i : Nat) : Touches [] eccOwn c (c.acqWord i).2 := by
  unfold Chip.acqWord
  dsimp only
  split
  · exact c.pasRead_ecc_touches _ _ _ _ _
  · exact .refl _ _ c

theorem Chip.captured_ecc_touches : Touches [] eccOwn c c.captured.2 := by
  unfold Chip.captured
  exact List.foldlRecOn (motive := fun acc : List (Rat × Rat) × Chip => Touches [] eccOwn c acc.2) _ _ (.refl _ _ c) fun acc h i _ =>
    h.trans (acc.2.acqWord_ecc_touches i)

end

/-! ## The record of one PRN -/

section

variable {c d e : Chip}

theorem Chip.cells_congr (hgn : d.gn = c.gn) (hf : d.frameRate = c.frameRate) (xs : List (Rat × Rat)) (prn : Nat) :
    d.cells xs prn = c.cells xs prn := by
  simp only [Chip.cells, hgn, hf]

theorem Touches.frameRate {ps : List Part} {own : Nat → Bool} (h : Touches ps own c d) (hp : Part.fold ∉ ps := by decide)
    (hpwr : own R.PWR_STAT = false := by decide) (hfold : own R.FOLD_STAT = false := by decide) : d.frameRate = c.frameRate := by
  rw [Chip.frameRate, Chip.frameTicks, show d.fold = c.fold from h.same .fold hp, h.get (f := F.PWR_STAT_state) hpwr (by decide),
    h.get (f := F.FOLD_STAT_rate) hfold (by decide), Chip.frameRate, Chip.frameTicks]

/-- The registers of one entry. -/
def entryOwn (i a : Nat) : Bool := a == R.GN_ACQ_RES_A i || a == R.GN_ACQ_RES_B i

theorem Chip.recordCell_touches_entry (c : Chip) (i : Nat) (cells : List Rat) : Touches [] (entryOwn i) c (c.recordCell i cells) := by
  have hA : entryOwn i (R.GN_ACQ_RES_A i) = true := by simp [entryOwn]
  have hB : entryOwn i (R.GN_ACQ_RES_B i) = true := by simp [entryOwn]
  unfold Chip.recordCell Chip.draw
  dsimp only
  split
  · exact (((((Touches.refl _ _ c).aside _ _ _).put hA).putB hA).put hA |>.put hA).put hB
  · exact ((((Touches.refl _ _ c).put hA).putB hA).put hA |>.put hA).put hB

/-- An entry written. -/
def Chip.entrySet (c : Chip) (i k metric : Nat) : Chip :=
  ((((c.put (F.GN_ACQ_RES_A_valid i) 1).putB (F.GN_ACQ_RES_A_det i) (decide (c.get F.GN_ACQ_THR_thr ≤ metric))).put
    (F.GN_ACQ_RES_A_bin i) (k / segLen)).put (F.GN_ACQ_RES_A_sample i) (k % segLen)).put (F.GN_ACQ_RES_B_metric i) metric

theorem Chip.recordCell_eq (c : Chip) (i : Nat) (cells : List Rat) : c.recordCell i cells =
    if cells.foldl (· + ·) 0 = 0 then c.draw.2.entrySet i (topCell cells 0 (0, 0)).1 (min c.draw.1 65535)
    else c.entrySet i (topCell cells 0 (0, 0)).1
      (min ((topCell cells 0 (0, 0)).2 * 256 * (cells.length : Rat) / cells.foldl (· + ·) 0).floor.toNat 65535) := by
  unfold Chip.recordCell
  dsimp only
  split <;> rfl

/-- The fields of an entry stand apart. -/
theorem entry_apart : ∀ i : Fin 16,
    (F.GN_ACQ_RES_A_valid i.val).freeOf [F.GN_ACQ_RES_B_metric i.val, F.GN_ACQ_RES_A_sample i.val, F.GN_ACQ_RES_A_bin i.val,
      F.GN_ACQ_RES_A_det i.val] = true ∧
    (F.GN_ACQ_RES_A_det i.val).freeOf [F.GN_ACQ_RES_B_metric i.val, F.GN_ACQ_RES_A_sample i.val, F.GN_ACQ_RES_A_bin i.val] = true ∧
    (F.GN_ACQ_RES_A_bin i.val).freeOf [F.GN_ACQ_RES_B_metric i.val, F.GN_ACQ_RES_A_sample i.val] = true ∧
    (F.GN_ACQ_RES_A_sample i.val).freeOf [F.GN_ACQ_RES_B_metric i.val] = true := by decide +kernel

/-- What an entry shows: its highest cell `k` and its metric `m`. -/
structure EntryShown (c d : Chip) (i k m : Nat) : Prop where
  metric : d.get (F.GN_ACQ_RES_B_metric i) = (F.GN_ACQ_RES_B_metric i).cut m
  sample : d.get (F.GN_ACQ_RES_A_sample i) = (F.GN_ACQ_RES_A_sample i).cut (k % segLen)
  bin : d.get (F.GN_ACQ_RES_A_bin i) = (F.GN_ACQ_RES_A_bin i).cut (k / segLen)
  det : d.bit (F.GN_ACQ_RES_A_det i) = decide (c.get F.GN_ACQ_THR_thr ≤ m)

theorem Chip.entrySet_shown (c : Chip) (i : Fin 16) (k metric : Nat) :
    (c.entrySet i.val k metric).bit (F.GN_ACQ_RES_A_valid i.val) = true ∧ EntryShown c (c.entrySet i.val k metric) i.val k metric := by
  obtain ⟨hvalid, hdet, hbin, hsample⟩ := entry_apart i
  unfold Chip.entrySet
  obtain ⟨d1, hd1⟩ : ∃ d, d = c.put (F.GN_ACQ_RES_A_valid i.val) 1 := ⟨_, rfl⟩
  obtain ⟨d2, hd2⟩ : ∃ d, d = d1.putB (F.GN_ACQ_RES_A_det i.val) (decide (c.get F.GN_ACQ_THR_thr ≤ metric)) := ⟨_, rfl⟩
  obtain ⟨d3, hd3⟩ : ∃ d, d = d2.put (F.GN_ACQ_RES_A_bin i.val) (k / segLen) := ⟨_, rfl⟩
  obtain ⟨d4, hd4⟩ : ∃ d, d = d3.put (F.GN_ACQ_RES_A_sample i.val) (k % segLen) := ⟨_, rfl⟩
  rw [← hd1, ← hd2, ← hd3, ← hd4]
  have h4 : KeepsFlds [F.GN_ACQ_RES_B_metric i.val] d4 (d4.put (F.GN_ACQ_RES_B_metric i.val) metric) := (KeepsFlds.refl _).put
  have h3 : KeepsFlds [F.GN_ACQ_RES_B_metric i.val, F.GN_ACQ_RES_A_sample i.val] d3 (d4.put (F.GN_ACQ_RES_B_metric i.val) metric) := by
    rw [hd4]
    exact (KeepsFlds.refl d3).put.put
  have h2 : KeepsFlds [F.GN_ACQ_RES_B_metric i.val, F.GN_ACQ_RES_A_sample i.val, F.GN_ACQ_RES_A_bin i.val] d2
      (d4.put (F.GN_ACQ_RES_B_metric i.val) metric) := by
    rw [hd4, hd3]
    exact (KeepsFlds.refl d2).put.put.put
  have h1 : KeepsFlds [F.GN_ACQ_RES_B_metric i.val, F.GN_ACQ_RES_A_sample i.val, F.GN_ACQ_RES_A_bin i.val, F.GN_ACQ_RES_A_det i.val] d1
      (d4.put (F.GN_ACQ_RES_B_metric i.val) metric) := by
    rw [hd4, hd3, hd2]
    exact (KeepsFlds.refl d1).put.put.put.put
  refine ⟨(h1.bit hvalid).trans (hd1 ▸ Chip.put_one_bit _ rfl rfl), Chip.get_put_cut _ rfl _, ?_, ?_, ?_⟩
  · exact (h4 _ hsample).trans (hd4 ▸ Chip.get_put_cut _ rfl _)
  · exact (h3 _ hbin).trans (hd3 ▸ Chip.get_put_cut _ rfl _)
  · exact (h2.bit hdet).trans (hd2 ▸ Chip.bit_putB_self _ rfl rfl _)

/-- A PRN's record is that of its cells. -/
theorem Chip.recordCell_result (c : Chip) (i : Fin 16) (cells : List Rat) : Sys2Proof.resultEffect c (c.recordCell i.val cells) i.val cells := by
  rw [Chip.recordCell_eq]
  split
  next hzero => exact ⟨(Chip.entrySet_shown _ i _ _).1, fun hsum => absurd hzero hsum⟩
  next =>
    obtain ⟨hvalid, hshown⟩ := c.entrySet_shown i (topCell cells 0 (0, 0)).1
      (min ((topCell cells 0 (0, 0)).2 * 256 * (cells.length : Rat) / cells.foldl (· + ·) 0).floor.toNat 65535)
    refine ⟨hvalid, fun _ k peak htop => ?_⟩
    rw [htop] at hshown ⊢
    exact ⟨hshown.metric, hshown.sample, hshown.bin, hshown.det⟩

theorem resultEffect_congr {c' d' : Chip} {i : Nat} {l : List Rat} (h : Sys2Proof.resultEffect c d i l)
    (hthr : c'.get F.GN_ACQ_THR_thr = c.get F.GN_ACQ_THR_thr) (hA : d'.rd (R.GN_ACQ_RES_A i) = d.rd (R.GN_ACQ_RES_A i))
    (hB : d'.rd (R.GN_ACQ_RES_B i) = d.rd (R.GN_ACQ_RES_B i)) : Sys2Proof.resultEffect c' d' i l := by
  have hget : ∀ f : Fld, d'.rd f.addr = d.rd f.addr → d'.get f = d.get f := fun f hf => by rw [Chip.get, hf, Chip.get]
  have hbit : ∀ f : Fld, d'.rd f.addr = d.rd f.addr → d'.bit f = d.bit f := fun f hf => by rw [Chip.bit, hget f hf, Chip.bit]
  unfold Sys2Proof.resultEffect
  rw [hthr, hbit (F.GN_ACQ_RES_A_valid i) hA, hbit (F.GN_ACQ_RES_A_det i) hA, hget (F.GN_ACQ_RES_A_bin i) hA,
    hget (F.GN_ACQ_RES_A_sample i) hA, hget (F.GN_ACQ_RES_B_metric i) hB]
  exact h

/-! ## The row -/

theorem mem_zip_range {α : Type} {l : List α} {m i : Nat} {x : α} : (x, i) ∈ l.zip (List.range m) ↔ l[i]? = some x ∧ i < m := by
  constructor
  · intro h
    obtain ⟨j, hj⟩ := List.mem_iff_getElem?.mp h
    obtain ⟨hx, hi⟩ := List.getElem?_zip_eq_some.mp hj
    obtain ⟨hjm, rfl⟩ := List.getElem?_eq_some_iff.mp hi
    simp only [List.getElem_range] at hx ⊢
    exact ⟨hx, by simpa using hjm⟩
  · intro ⟨hx, hi⟩
    exact List.mem_iff_getElem?.mpr ⟨i, List.getElem?_zip_eq_some.mpr ⟨hx, by simp [List.getElem?_range hi]⟩⟩

/-- The record of one PRN, from the samples `xs`. -/
def Chip.resultSet (xs : List (Rat × Rat)) (c : Chip) (e : Nat × Nat) : Chip := c.recordCell e.2 (c.cells xs e.1)

theorem entryOwn_res {i : Nat} (hi : i < 16) (a : Nat) (h : entryOwn i a = true) : resOwn a = true :=
  List.any_eq_true.mpr ⟨i, List.mem_range.mpr hi, h⟩

theorem Chip.resultSet_touches (c : Chip) (xs : List (Rat × Rat)) {e : Nat × Nat} (he : e.2 < 16) :
    Touches [] resOwn c (Chip.resultSet xs c e) := (c.recordCell_touches_entry e.2 _).mono (fun _ h => h) (entryOwn_res he)

/-- What a PRN's record is does not depend on those of others. -/
theorem resultSet_result (xs : List (Rat × Rat)) {i : Nat} (hi : i < 16) (prn : Nat) (h : Touches [] resOwn c d) :
    Sys2Proof.resultEffect c (Chip.resultSet xs d (prn, i)) i (c.cells xs prn) := by
  have hcells : d.cells xs prn = c.cells xs prn := Chip.cells_congr (h.same .gn (by decide)) h.frameRate xs prn
  have hthr : c.get F.GN_ACQ_THR_thr = d.get F.GN_ACQ_THR_thr := (h.get (f := F.GN_ACQ_THR_thr) (by decide) (by decide)).symm
  rw [← hcells]
  exact resultEffect_congr (d.recordCell_result ⟨i, hi⟩ _) hthr rfl rfl

theorem entryOwn_other {i j : Nat} (h : i ≠ j) : entryOwn j (R.GN_ACQ_RES_A i) = false ∧ entryOwn j (R.GN_ACQ_RES_B i) = false := by
  simp only [entryOwn, Bool.or_eq_false_iff, beq_eq_false_iff_ne]
  unfold R.GN_ACQ_RES_A R.GN_ACQ_RES_B
  omega

theorem resultSet_other (xs : List (Rat × Rat)) {i : Nat} (hi : i < 16) {e : Nat × Nat} (he : i ≠ e.2) {l : List Rat}
    (h : Sys2Proof.resultEffect c d i l) : Sys2Proof.resultEffect c (Chip.resultSet xs d e) i l := by
  have htmr : ∀ n : Fin 16, R.GN_ACQ_RES_A n.val ≠ R.PWR_TMR ∧ R.GN_ACQ_RES_B n.val ≠ R.PWR_TMR := by decide +kernel
  obtain ⟨hA, hB⟩ := entryOwn_other he
  have hrest := d.recordCell_touches_entry e.2 (d.cells xs e.1)
  exact resultEffect_congr h rfl (hrest.rd _ hA (htmr ⟨i, hi⟩).1) (hrest.rd _ hB (htmr ⟨i, hi⟩).2)

/-- The records of all PRNs, from the samples `xs`. -/
def Chip.resultsSet (c : Chip) (prns : List Nat) (xs : List (Rat × Rat)) : Chip := (prns.zip (List.range 16)).foldl (Chip.resultSet xs) c

theorem Chip.resultsSet_touches (c : Chip) (prns : List Nat) (xs : List (Rat × Rat)) : Touches [] resOwn c (c.resultsSet prns xs) :=
  (Touches.refl _ _ c).foldl fun _ he d => d.resultSet_touches xs (List.mem_range.mp (List.of_mem_zip he).2)

/-- The records as they are set so far, that of the PRN `prn` among them. -/
def ResultIn (c : Chip) (xs : List (Rat × Rat)) (i prn : Nat) (d : Chip) : Prop :=
  Touches [] resOwn c d ∧ Sys2Proof.resultEffect c d i (c.cells xs prn)

theorem Chip.resultsSet_results (c : Chip) (prns : List Nat) (xs : List (Rat × Rat)) {i prn : Nat} (hi : i < 16) (hprn : prns[i]? = some prn) :
    Sys2Proof.resultEffect c (c.resultsSet prns xs) i (c.cells xs prn) := by
  have hin : (prn, i) ∈ prns.zip (List.range 16) := mem_zip_range.mpr ⟨hprn, hi⟩
  have hstep : ∀ e ∈ prns.zip (List.range 16), ∀ d, Touches [] resOwn c d → Touches [] resOwn c (Chip.resultSet xs d e) :=
    fun e he d hd => hd.trans (d.resultSet_touches xs (List.mem_range.mp (List.of_mem_zip he).2))
  have hkeep : ∀ e ∈ prns.zip (List.range 16), ∀ d, ResultIn c xs i prn d → ResultIn c xs i prn (Chip.resultSet xs d e) := fun e he d hd => by
    refine ⟨hstep e he d hd.1, ?_⟩
    by_cases hei : i = e.2
    · have hprn' : some e.1 = some prn := (hei ▸ (mem_zip_range.mp he).1).symm.trans hprn
      have he' : e = (prn, i) := Prod.ext (Option.some.inj hprn') hei.symm
      rw [he']
      exact resultSet_result xs hi prn hd.1
    · exact resultSet_other xs hi hei hd.2
  have hall : ResultIn c xs i prn (c.resultsSet prns xs) :=
    foldl_reaches (x := (prn, i)) (fun d hd => ⟨hstep _ hin d hd, resultSet_result xs hi prn hd⟩) _ hstep hkeep hin c (.refl _ _ c)
  exact hall.2

/-- The chip at the end of a search. -/
def Chip.searchOver (c : Chip) : Chip := c.advanceTo (c.gn.acq.searchAt + c.gn.acq.req.span)

theorem Chip.searchEnd_eq {sig : Nat} (hstate : c.get F.GN_ACQ_STAT_state = acqSearch) (hsig : c.gn.acq.req.sig = sig) :
    ∃ arg, c.searchEnd sig = (c.searchOver.captured.2.resultsSet c.gn.acq.req.prns c.searchOver.captured.1).acqDone arg := by
  unfold Chip.searchEnd
  rw [if_neg (by simp [hstate, hsig])]
  exact ⟨_, rfl⟩

theorem searchEnd_effect {sig : Nat} (hstate : c.get F.GN_ACQ_STAT_state = acqSearch) (hsig : c.gn.acq.req.sig = sig) :
    Sys2Proof.searchEffect c (c.searchEnd sig).settle := by
  obtain ⟨arg, hrow⟩ := c.searchEnd_eq hstate hsig
  have hover : Touches [.time] (onPages []) c c.searchOver := c.advanceTo_touches _
  have htaken := c.searchOver.captured_ecc_touches
  generalize hd : c.searchOver.captured.2 = d at hrow htaken
  have hset := d.resultsSet_touches c.gn.acq.req.prns c.searchOver.captured.1
  have hres := fun i hi prn => d.resultsSet_results c.gn.acq.req.prns c.searchOver.captured.1 (i := i) (prn := prn) hi
  generalize hz : d.resultsSet c.gn.acq.req.prns c.searchOver.captured.1 = z at hrow hset hres
  have hcells : ∀ xs prn, d.cells xs prn = c.cells xs prn := Chip.cells_congr
    ((htaken.same .gn (by decide)).trans (hover.same .gn (by decide))) (htaken.frameRate.trans hover.frameRate)
  have hthr : d.get F.GN_ACQ_THR_thr = c.get F.GN_ACQ_THR_thr :=
    (htaken.get (by decide) (by decide)).trans (hover.get (by decide) (by decide))
  obtain ⟨hidle, hgo, -⟩ := z.acqDone_idle arg
  have hdone : ∀ a, a ≠ R.GN_ACQ_STAT → a ≠ R.GN_ACQ_CTRL → (z.acqDone arg).rd a = z.rd a := fun a hs hc =>
    (Chip.rd_wr_ne _ hc _).trans (Chip.rd_wr_ne _ hs _)
  unfold Sys2Proof.searchEffect
  rw [settle_gn_get _ (by decide), settle_gn_bit _ (by decide), Chip.settle_now, hrow]
  refine ⟨hidle, hgo, ?_, fun i hi prn hprn => ?_⟩
  · have hnow : (z.acqDone arg).now = z.now := rfl
    exact hnow.trans ((hset.same .time (by decide)).trans (htaken.same .time (by decide)))
  · have h := hres i hi prn hprn
    rw [hcells] at h
    have hne : ∀ n : Fin 16, (R.GN_ACQ_RES_A n.val ≠ R.GN_ACQ_STAT ∧ R.GN_ACQ_RES_A n.val ≠ R.GN_ACQ_CTRL) ∧
        R.GN_ACQ_RES_B n.val ≠ R.GN_ACQ_STAT ∧ R.GN_ACQ_RES_B n.val ≠ R.GN_ACQ_CTRL := by decide +kernel
    obtain ⟨⟨hAs, hAc⟩, hBs, hBc⟩ := hne ⟨i, hi⟩
    exact resultEffect_congr h hthr.symm ((settle_gn_rd _ (acqRes_own hi).1).trans (hdone _ hAs hAc))
      ((settle_gn_rd _ (acqRes_own hi).2).trans (hdone _ hBs hBc))

end

end Sys2Proof.Machine
end

section
/-! PROOFS. The end of a capture: the words that its band's samples complete wait at the window (R325, R328). -/

-- One theorem at a time: many at once, each with a thread of its own, do not fit in memory.
set_option Elab.async false

namespace Sys2Proof.Machine

open Sys2Proof (capturedTo)

/-! ## What leaves the acquisition and its words -/

/-- The acquisition and the pasture are as they were. -/
def SameAcq (c d : Chip) : Prop := d.gn.acq = c.gn.acq ∧ d.pas = c.pas

theorem SameAcq.refl (c : Chip) : SameAcq c c := ⟨rfl, rfl⟩

theorem SameAcq.trans {c d e : Chip} (h : SameAcq c d) (k : SameAcq d e) : SameAcq c e := ⟨k.1.trans h.1, k.2.trans h.2⟩

section

variable (c : Chip)

theorem Chip.notchMove_sameAcq (i : Nat) : SameAcq c (c.notchMove i) := by
  unfold Chip.notchMove
  dsimp only
  split <;> exact ⟨rfl, rfl⟩

theorem Chip.notchSample_sameAcq (i : Nat) (x : Rat × Rat) : SameAcq c (c.notchSample i x).2 := by
  unfold Chip.notchSample
  split
  · exact .refl c
  · dsimp only
    split
    · exact SameAcq.trans ⟨rfl, rfl⟩ (Chip.notchMove_sameAcq _ i)
    · exact ⟨rfl, rfl⟩

theorem Chip.bandOut_sameAcq (l1 : Bool) (x : Int × Int) : SameAcq c (c.bandOut l1 x).2 := by
  unfold Chip.bandOut
  exact List.foldlRecOn (motive := fun acc : (Rat × Rat) × Chip => SameAcq c acc.2) _ _ (.refl c) fun acc h i _ =>
    h.trans (acc.2.notchSample_sameAcq i _)

theorem Chip.chanRun_sameAcq (strict : Bool) (n t fuel : Nat) : SameAcq c (Chip.chanRun strict n t fuel c) := by
  induction fuel generalizing c with
  | zero => exact ⟨rfl, rfl⟩
  | succ fuel ih =>
    unfold Chip.chanRun
    split
    · exact ⟨rfl, rfl⟩
    · split
      · exact SameAcq.trans ⟨rfl, rfl⟩ (ih _)
      · exact ⟨rfl, rfl⟩

theorem Chip.bandChan_sameAcq (src u : Nat) (y : Int × Int) (n : Nat) : SameAcq c (Chip.bandChan src u y c n) := by
  unfold Chip.bandChan
  split
  · exact .refl c
  · exact (c.chanRun_sameAcq false n u _).trans ⟨rfl, rfl⟩

end

/-! ## Words of the capture -/

/-- From `c` to `d` the capture has brought words to the window, no more than it writes. -/
def Captured (c d : Chip) : Prop :=
  d.gn.acq.words = c.gn.acq.words ∧ ∃ q, d.pas.queue = c.pas.queue ++ q ∧ (∀ x ∈ q, isAcqWord x = true) ∧
    d.gn.acq.done = c.gn.acq.done + q.length ∧ (q = [] ∨ d.gn.acq.done ≤ d.gn.acq.words)

namespace Captured

variable {c d e : Chip}

theorem of_same (h : SameAcq c d) : Captured c d :=
  ⟨congrArg AcqSt.words h.1, [], by rw [h.2, List.append_nil], fun _ hx => (nomatch hx), congrArg AcqSt.done h.1, .inl rfl⟩

theorem trans (h : Captured c d) (k : Captured d e) : Captured c e := by
  obtain ⟨hw, q, hq, hacq, hdone, hin⟩ := h
  obtain ⟨kw, r, kq, kacq, kdone, kin⟩ := k
  refine ⟨kw.trans hw, q ++ r, by rw [kq, hq, List.append_assoc], fun x hx => (List.mem_append.mp hx).elim (hacq x) (kacq x),
    by rw [kdone, hdone, List.length_append]; omega, ?_⟩
  rcases kin with rfl | kin
  · rw [List.append_nil, kdone, kw]
    exact hin
  · exact .inr kin

theorem foldl {α : Type} {g : Chip → α → Chip} {l : List α} (h : Captured c d) (hg : ∀ x e, Captured e (g e x)) : Captured c (l.foldl g d) :=
  List.foldlRecOn (motive := fun e => Captured c e) l g h fun e he x _ => he.trans (hg x e)

end Captured

variable (c : Chip)

theorem Chip.takeSample_captured (x : Int × Int) : Captured c (c.takeSample x) := by
  unfold Chip.takeSample
  dsimp only
  split
  next => exact .of_same (.refl c)
  next hgo =>
    split
    · exact ⟨rfl, [], (List.append_nil _).symm, fun _ hx => (nomatch hx), rfl, .inl rfl⟩
    · refine ⟨rfl, [_], rfl, fun q hq => by rw [List.mem_singleton.mp hq]; rfl, rfl, .inr ?_⟩
      exact Nat.lt_of_not_le fun h => hgo (.inl h)

theorem Chip.captureBand_captured (src u : Nat) (y : Int × Int) : Captured c (c.captureBand src u y) := by
  have hset : ∀ (d : Chip) (f : AcqSt → AcqSt), (f d.gn.acq).words = d.gn.acq.words → (f d.gn.acq).done = d.gn.acq.done →
      Captured d (d.setAcq f) := fun d f hw hd => ⟨hw, [], (List.append_nil _).symm, fun _ hx => (nomatch hx), hd, .inl rfl⟩
  unfold Chip.captureBand
  split
  · exact .of_same (.refl c)
  · dsimp only
    split
    · exact ((hset _ _ rfl rfl).trans (hset _ _ rfl rfl)).trans (Chip.takeSample_captured _ _)
    · exact hset _ _ rfl rfl

theorem Chip.bandSample_captured (l1 : Bool) (u : Nat) (x : Int × Int) : Captured c (Chip.bandSample l1 c u x) := by
  unfold Chip.bandSample
  exact ((Captured.of_same (c.bandOut_sameAcq l1 x)).foldl fun n e => .of_same (e.bandChan_sameAcq _ _ _ n)).trans
    (Chip.captureBand_captured _ _ _ _)

theorem Chip.bandTo_captured (l1 : Bool) (xs : List (Int × Int)) (t : Nat) : Captured c (c.bandTo l1 xs t) := by
  have hadv : SameAcq c (c.advanceTo t) := ⟨congrArg GnSt.acq (c.advanceTo_gn t), c.advanceTo_pas t⟩
  have hat : ∀ (d : Chip) (k : Nat), SameAcq d (d.setBandAt l1 k) := fun d k => by cases l1 <;> exact ⟨rfl, rfl⟩
  unfold Chip.bandTo
  dsimp only
  refine Captured.trans ?_ (.of_same (hat _ _))
  split
  · exact (Captured.of_same hadv).foldl fun j e => e.bandSample_captured _ _ _
  · exact .of_same hadv

theorem capturedTo_captured (xs : List (Int × Int)) : Captured c (capturedTo c xs) := by
  unfold capturedTo
  dsimp only
  split
  · exact .of_same (.refl c)
  · exact c.bandTo_captured _ _ _

/-! ## The row -/

variable {c}

theorem captureEnd_effect {xs : List (Int × Int)} (hcap : c.gn.acq.capturing = true)
    (hdone : (capturedTo c xs).gn.acq.words ≤ (capturedTo c xs).gn.acq.done) :
    (c.captureEnd xs).settle.get F.GN_ACQ_STAT_state = acqSearch ∧ (c.captureEnd xs).settle.gn.acq.capturing = false ∧
      (c.captureEnd xs).settle.gn.acq.searchAt = (capturedTo c xs).now ∧
      ∃ q, (c.captureEnd xs).settle.pas.queue = c.pas.queue ++ q ∧ q.length = c.gn.acq.words - c.gn.acq.done ∧
        ∀ x ∈ q, isAcqWord x = true := by
  obtain ⟨hwords, q, hq, hacq, hlen, hin⟩ := capturedTo_captured c xs
  have hrow : c.captureEnd xs = (capturedTo c xs).captureDone := if_neg (by rw [hcap]; decide)
  have hsearch : (capturedTo c xs).captureDone = _ := if_neg (Nat.not_lt.mpr hdone)
  rw [settle_gn_get _ (by decide), Chip.settle_gn, Chip.settle_pas, hrow, hsearch]
  refine ⟨Chip.get_put_cut _ rfl _, rfl, rfl, q, hq, ?_, hacq⟩
  rcases hin with rfl | hin
  · rw [hlen, hwords] at hdone
    simp only [List.length_nil] at hdone ⊢
    omega
  · omega

end Sys2Proof.Machine
end

section
/-! PROOFS. One sample of a band through a notch that acts (R322, R323). -/

-- One theorem at a time: many at once, each with a thread of its own, do not fit in memory.
set_option Elab.async false

namespace Sys2Proof.Machine

/-! ## What leaves a notch alone -/

/-- The registers that samples and time may write besides the centre of notch `i`. -/
def besideNotch (i a : Nat) : Bool := a == R.PWR_TMR || (List.range 8).any fun j => j != i && a == R.GN_NOTCH_FREQ j

/-- Notch `i`, its registers and all that no sample writes are as they were. -/
structure NotchKept (i : Nat) (c d : Chip) : Prop where
  notch : d.notch i = c.notch i
  rd : ∀ a, besideNotch i a = false → d.rd a = c.rd a

namespace NotchKept

variable {i : Nat} {c d e : Chip}

theorem refl (i : Nat) (c : Chip) : NotchKept i c c := ⟨rfl, fun _ _ => rfl⟩

theorem trans (h : NotchKept i c d) (k : NotchKept i d e) : NotchKept i c e :=
  ⟨k.notch.trans h.notch, fun a ha => (k.rd a ha).trans (h.rd a ha)⟩

theorem of_same (hn : d.gn.notch = c.gn.notch) (hr : d.regs = c.regs) : NotchKept i c d := ⟨notch_congr hn i, fun a _ => Chip.rd_congr hr a⟩

theorem foldl {α : Type} {g : Chip → α → Chip} {l : List α} (h : NotchKept i c d) (hg : ∀ x ∈ l, ∀ e, NotchKept i e (g e x)) :
    NotchKept i c (l.foldl g d) :=
  List.foldlRecOn (motive := fun e => NotchKept i c e) l g h fun e he x hx => he.trans (hg x hx e)

theorem get (h : NotchKept i c d) {f : Fld} (hf : besideNotch i f.addr = false) : d.get f = c.get f := by rw [Chip.get, h.rd _ hf, Chip.get]

theorem bit (h : NotchKept i c d) {f : Fld} (hf : besideNotch i f.addr = false) : d.bit f = c.bit f := by rw [Chip.bit, h.get hf, Chip.bit]

end NotchKept

/-- The registers of the notches, and the state of the RF front end, are not beside a notch. -/
theorem notch_kept_regs : ∀ i : Fin 8, besideNotch i.val (R.GN_NOTCH_FREQ i.val) = false ∧ besideNotch i.val R.RF_STAT = false ∧
    besideNotch i.val R.RF_CTRL = false ∧ ∀ j : Fin 8, besideNotch i.val (R.GN_NOTCH_CTRL j.val) = false := by decide +kernel

theorem besideNotch_other {i j : Nat} (hj : j < 8) (h : j ≠ i) : besideNotch i (R.GN_NOTCH_FREQ j) = true := by
  rw [besideNotch, Bool.or_eq_true]
  exact .inr (List.any_eq_true.mpr ⟨j, List.mem_range.mpr hj, by simp [h]⟩)

section

variable (c : Chip)

theorem Chip.setNotch_regs (j : Nat) (n : Notch) : (c.setNotch j n).regs = c.regs := rfl

theorem Chip.setNotch_kept {i j : Nat} (h : j ≠ i) (n : Notch) : NotchKept i c (c.setNotch j n) :=
  ⟨c.notch_setNotch_ne (Ne.symm h) n, fun a _ => Chip.rd_congr (c.setNotch_regs j n) a⟩

theorem Chip.wr_kept {i a : Nat} (ha : besideNotch i a = true) (v : Word) : NotchKept i c (c.wr a v) :=
  ⟨rfl, fun b hb => Chip.rd_wr_ne c (by rintro rfl; rw [ha] at hb; exact absurd hb (by decide)) v⟩

theorem Chip.notchMove_kept {i j : Nat} (hj : j < 8) (h : j ≠ i) : NotchKept i c (c.notchMove j) := by
  unfold Chip.notchMove
  dsimp only
  split
  · exact c.setNotch_kept h _
  · exact (c.setNotch_kept h _).trans (Chip.wr_kept _ (besideNotch_other hj h) _)

theorem Chip.notchSample_kept {i j : Nat} (hj : j < 8) (h : j ≠ i) (x : Rat × Rat) : NotchKept i c (c.notchSample j x).2 := by
  unfold Chip.notchSample
  split
  · exact .refl i c
  · dsimp only
    split
    · exact (c.setNotch_kept h _).trans (Chip.notchMove_kept _ hj h)
    · exact c.setNotch_kept h _

theorem Chip.chanRun_kept (i : Nat) (strict : Bool) (n t fuel : Nat) : NotchKept i c (Chip.chanRun strict n t fuel c) := by
  have hset : ∀ (d : Chip) (x : Chan), NotchKept i d (d.setChan n x) := fun d x => .of_same rfl rfl
  induction fuel generalizing c with
  | zero => exact hset c _
  | succ fuel ih =>
    unfold Chip.chanRun
    split
    · exact hset c _
    · split
      · exact ((hset c _).trans (hset _ _)).trans (ih _)
      · exact hset c _

theorem Chip.bandChan_kept (i src u : Nat) (y : Int × Int) (n : Nat) : NotchKept i c (Chip.bandChan src u y c n) := by
  unfold Chip.bandChan
  split
  · exact .refl i c
  · exact (c.chanRun_kept i false n u _).trans (.of_same rfl rfl)

theorem Chip.takeSample_kept (i : Nat) (x : Int × Int) : NotchKept i c (c.takeSample x) := by
  unfold Chip.takeSample
  dsimp only
  split
  · exact .refl i c
  · split <;> exact .of_same rfl rfl

theorem Chip.captureBand_kept (i src u : Nat) (y : Int × Int) : NotchKept i c (c.captureBand src u y) := by
  have hset : ∀ (d : Chip) (f : AcqSt → AcqSt), NotchKept i d (d.setAcq f) := fun d f => .of_same rfl rfl
  unfold Chip.captureBand
  split
  · exact .refl i c
  · dsimp only
    split
    · exact ((hset c _).trans (hset _ _)).trans (Chip.takeSample_kept _ i _)
    · exact hset c _

end

/-! ## A sample at the notch -/

/-- A notch after one more sample. -/
def Notch.take (rho : Rat) (w : Rat × Rat) (n : Notch) (x : Rat × Rat) : Notch :=
  let s := notchStep rho w n.v x
  let y := s.2
  { n with
    v := s.1
    y := y
    sum := (n.sum.1 + (y.1 * n.y.1 + y.2 * n.y.2), n.sum.2 + (y.2 * n.y.1 - y.1 * n.y.2))
    cnt := n.cnt + 1 }

theorem notchRun_eq (rho : Rat) (w : Rat × Rat) (n : Notch) (xs : List (Rat × Rat)) :
    Sys2Proof.notchRun rho w n xs = xs.foldl (Notch.take rho w) n := rfl

section

variable (c : Chip) (i : Nat)

/-- The pole of a notch, and its direction. -/
def Chip.notchRho : Rat := 1 - 1 / ((2 : Rat) ^ c.notchK i)
def Chip.notchDir : Rat × Rat := (Config.cos ((c.theta i : Rat) / 4294967296), Config.sin ((c.theta i : Rat) / 4294967296))

/-- A notch that acts takes a sample, the last one of its block with what that brings. -/
def Chip.notchTaken (x : Rat × Rat) : Chip :=
  let n := (c.notch i).take (c.notchRho i) (c.notchDir i) x
  if n.cnt = 1024 then (c.setNotch i n).notchMove i else c.setNotch i n

variable {c i}

theorem Chip.notchSample_on (hon : c.bit (F.GN_NOTCH_CTRL_engaged i) = true) (x : Rat × Rat) : (c.notchSample i x).2 = c.notchTaken i x := by
  unfold Chip.notchSample
  rw [if_neg (by rw [hon]; decide)]
  rfl

theorem Chip.notchSample_off (hoff : c.bit (F.GN_NOTCH_CTRL_engaged i) = false) (x : Rat × Rat) : c.notchSample i x = (x, c) :=
  if_pos (by rw [hoff]; rfl)

end

/-! ## The notches of a band in their order -/

/-- Of a band's notches, those that act before notch `i` do not act on the samples. -/
def Chip.unfiltered (c : Chip) (l1 : Bool) (i : Nat) : Prop := ∀ j ∈ bandNotches l1, j < i → c.bit (F.GN_NOTCH_CTRL_engaged j) = false

theorem bandNotches_lt (l1 : Bool) {j : Nat} (hj : j ∈ bandNotches l1) : j < 8 := by
  have h : ∀ b : Bool, ∀ j ∈ bandNotches b, j < 8 := by decide
  exact h l1 j hj

theorem bandNotches_split {l1 : Bool} {i : Nat} (hi : i ∈ bandNotches l1) : ∃ before after, bandNotches l1 = before ++ i :: after ∧
    (∀ j ∈ before, j < i) ∧ ∀ j ∈ after, j ≠ i := by
  obtain ⟨before, after, heq⟩ := List.append_of_mem hi
  have hsorted : ∀ b : Bool, (bandNotches b).Pairwise (· < ·) := by decide
  have h := hsorted l1
  rw [heq] at h
  obtain ⟨-, htail, hcross⟩ := List.pairwise_append.mp h
  exact ⟨before, after, heq, fun j hj => hcross j hj i List.mem_cons_self, fun j hj => ((List.pairwise_cons.mp htail).1 j hj).ne'⟩

/-- The notches of a list, one after the other. -/
def Chip.throughNotches (l : List Nat) (acc : (Rat × Rat) × Chip) : (Rat × Rat) × Chip :=
  l.foldl (fun acc i => acc.2.notchSample i acc.1) acc

theorem throughNotches_kept {i : Nat} {l : List Nat} (hl : ∀ j ∈ l, j < 8 ∧ j ≠ i) (acc : (Rat × Rat) × Chip) :
    NotchKept i acc.2 (Chip.throughNotches l acc).2 :=
  List.foldlRecOn (motive := fun r : (Rat × Rat) × Chip => NotchKept i acc.2 r.2) _ _ (.refl i acc.2) fun r h j hj =>
    h.trans (r.2.notchSample_kept (hl j hj).1 (hl j hj).2 _)

theorem throughNotches_append (before after : List Nat) (i : Nat) (acc : (Rat × Rat) × Chip) : Chip.throughNotches (before ++ i :: after) acc =
    Chip.throughNotches after ((Chip.throughNotches before acc).2.notchSample i (Chip.throughNotches before acc).1) :=
  List.foldl_append

theorem throughNotches_off {l : List Nat} (acc : (Rat × Rat) × Chip) (hl : ∀ j ∈ l, acc.2.bit (F.GN_NOTCH_CTRL_engaged j) = false) :
    Chip.throughNotches l acc = acc :=
  List.foldlRecOn (motive := fun r => r = acc) _ _ rfl fun r h j hj => by
    rw [h]
    exact Chip.notchSample_off (hl j hj) _

/-- A sample as the notches take it. -/
def ratPair (x : Int × Int) : Rat × Rat := ((x.1 : Rat), (x.2 : Rat))

theorem Chip.bandOut_snd (c : Chip) (l1 : Bool) (x : Int × Int) : (c.bandOut l1 x).2 = (Chip.throughNotches (bandNotches l1) (ratPair x, c)).2 := rfl

section

variable {c : Chip} {l1 : Bool} {i : Nat}

theorem engaged_kept {d : Chip} (hi : i ∈ bandNotches l1) (h : NotchKept i c d) {j : Nat} (hj : j ∈ bandNotches l1) :
    d.bit (F.GN_NOTCH_CTRL_engaged j) = c.bit (F.GN_NOTCH_CTRL_engaged j) :=
  h.bit ((notch_kept_regs ⟨i, bandNotches_lt l1 hi⟩).2.2.2 ⟨j, bandNotches_lt l1 hj⟩)

/-- Notch `i` takes one sample of each that its band brings: the band's own where no notch acts before it. -/
theorem bandOut_taken (hi : i ∈ bandNotches l1) (hon : c.bit (F.GN_NOTCH_CTRL_engaged i) = true) (x : Int × Int) :
    ∃ z d, NotchKept i c d ∧ (c.unfiltered l1 i → z = ratPair x) ∧ NotchKept i (d.notchTaken i z) (c.bandOut l1 x).2 := by
  obtain ⟨before, after, hsplit, hbefore, hafter⟩ := bandNotches_split hi
  have hin : ∀ j ∈ before, j ∈ bandNotches l1 := fun j hj => by rw [hsplit]; exact List.mem_append_left _ hj
  have hin' : ∀ j ∈ after, j ∈ bandNotches l1 := fun j hj => by
    rw [hsplit]
    exact List.mem_append_right _ (List.mem_cons_of_mem _ hj)
  have hkept : NotchKept i c (Chip.throughNotches before (ratPair x, c)).2 :=
    throughNotches_kept (fun j hj => ⟨bandNotches_lt l1 (hin j hj), (hbefore j hj).ne⟩) (ratPair x, c)
  refine ⟨(Chip.throughNotches before (ratPair x, c)).1, (Chip.throughNotches before (ratPair x, c)).2, hkept, fun hoff => ?_, ?_⟩
  · rw [throughNotches_off (ratPair x, c) fun j hj => hoff j (hin j hj) (hbefore j hj)]
  · rw [Chip.bandOut_snd, hsplit, throughNotches_append, ← Chip.notchSample_on ((engaged_kept hi hkept hi).trans hon)]
    exact throughNotches_kept (fun j hj => ⟨bandNotches_lt l1 (hin' j hj), hafter j hj⟩) _

theorem bandSample_taken (hi : i ∈ bandNotches l1) (hon : c.bit (F.GN_NOTCH_CTRL_engaged i) = true) (u : Nat) (x : Int × Int) :
    ∃ z d, NotchKept i c d ∧ (c.unfiltered l1 i → z = ratPair x) ∧ NotchKept i (d.notchTaken i z) (Chip.bandSample l1 c u x) := by
  obtain ⟨z, d, hkept, hz, hout⟩ := bandOut_taken hi hon x
  refine ⟨z, d, hkept, hz, ?_⟩
  unfold Chip.bandSample
  exact (hout.foldl fun n _ e => e.bandChan_kept i _ _ _ n).trans (Chip.captureBand_kept _ i _ _ _)

end

end Sys2Proof.Machine
end

section
/-! PROOFS. A notch at the end of its block, and the rows of the positioning baseband (R322 to R346). -/

-- One theorem at a time: many at once, each with a thread of its own, do not fit in memory.
set_option Elab.async false

namespace Sys2Proof.Machine

open Sys2Proof (gnRegs)

/-! ## The samples of a block -/

/-- From `c` to `d` notch `i` has taken the samples `zs`. -/
structure Sampled (c : Chip) (i : Nat) (zs : List (Rat × Rat)) (d : Chip) : Prop where
  notch : d.notch i = zs.foldl (Notch.take (c.notchRho i) (c.notchDir i)) (c.notch i)
  rd : ∀ a, besideNotch i a = false → d.rd a = c.rd a

theorem notchRun_cnt (rho : Rat) (w : Rat × Rat) (n : Notch) (zs : List (Rat × Rat)) :
    (zs.foldl (Notch.take rho w) n).cnt = n.cnt + zs.length := by
  induction zs generalizing n with
  | nil => rfl
  | cons z zs ih =>
    rw [List.foldl_cons, ih, List.length_cons]
    show n.cnt + 1 + zs.length = _
    omega

section

variable {c d e b : Chip} {l1 : Bool} {i : Nat} {zs : List (Rat × Rat)}

theorem Sampled.kept (h : Sampled c i zs d) (k : NotchKept i d e) : Sampled c i zs e :=
  ⟨k.notch.trans h.notch, fun a ha => (k.rd a ha).trans (h.rd a ha)⟩

theorem Sampled.get (h : Sampled c i zs d) {f : Fld} (hf : besideNotch i f.addr = false) : d.get f = c.get f := by
  rw [Chip.get, h.rd _ hf, Chip.get]

theorem Sampled.bit (h : Sampled c i zs d) {f : Fld} (hf : besideNotch i f.addr = false) : d.bit f = c.bit f := by
  rw [Chip.bit, h.get hf, Chip.bit]

/-- The controls of the notches stay. -/
theorem notchCtrl_kept {i j : Nat} (hi : i < 8) (hj : j < 8) : besideNotch i (R.GN_NOTCH_CTRL j) = false :=
  (notch_kept_regs ⟨i, hi⟩).2.2.2 ⟨j, hj⟩

theorem Sampled.setNotch (hi : i < 8) (h : Sampled c i zs d) (z : Rat × Rat) :
    Sampled c i (zs ++ [z]) (d.setNotch i ((d.notch i).take (d.notchRho i) (d.notchDir i) z)) := by
  have hfreq : besideNotch i (R.GN_NOTCH_FREQ i) = false := (notch_kept_regs ⟨i, hi⟩).1
  have hrho : d.notchRho i = c.notchRho i := by
    rw [Chip.notchRho, Chip.notchK, h.get (f := F.GN_NOTCH_CTRL_k i) (notchCtrl_kept hi hi), Chip.notchRho, Chip.notchK]
  have hdir : d.notchDir i = c.notchDir i := by rw [Chip.notchDir, Chip.theta, h.rd _ hfreq, Chip.notchDir, Chip.theta]
  refine ⟨?_, h.rd⟩
  rw [Chip.notch_setNotch_self, hrho, hdir, h.notch, List.foldl_append]
  rfl

theorem Sampled.unfiltered (hi : i ∈ bandNotches l1) (h : Sampled c i zs d) (hoff : c.unfiltered l1 i) : d.unfiltered l1 i := fun j hj hji =>
  (h.bit (f := F.GN_NOTCH_CTRL_engaged j) (notchCtrl_kept (bandNotches_lt l1 hi) (bandNotches_lt l1 hj))).trans (hoff j hj hji)

/-- The band's samples, one after the other. -/
def Chip.bandSamples (c : Chip) (l1 : Bool) (u : Nat → Nat) (x : Nat → Int × Int) (m : Nat) : Chip :=
  (List.range m).foldl (fun c j => Chip.bandSample l1 c (u j) (x j)) c

theorem Chip.bandSamples_succ (c : Chip) (l1 : Bool) (u : Nat → Nat) (x : Nat → Int × Int) (m : Nat) :
    c.bandSamples l1 u x (m + 1) = Chip.bandSample l1 (c.bandSamples l1 u x m) (u m) (x m) := by
  rw [Chip.bandSamples, List.range_succ, List.foldl_append]
  rfl

/-- One sample more: what the notch takes it from, and what follows it. -/
theorem Sampled.next (hi : i ∈ bandNotches l1) (hon : c.bit (F.GN_NOTCH_CTRL_engaged i) = true) (h : Sampled c i zs d) (u : Nat)
    (x : Int × Int) :
    ∃ z e, (c.unfiltered l1 i → z = ratPair x) ∧ Sampled c i zs e ∧ NotchKept i (e.notchTaken i z) (Chip.bandSample l1 d u x) := by
  have hi8 := bandNotches_lt l1 hi
  have hond : d.bit (F.GN_NOTCH_CTRL_engaged i) = true := (h.bit (f := F.GN_NOTCH_CTRL_engaged i) (notchCtrl_kept hi8 hi8)).trans hon
  obtain ⟨z, e, hkept, hz, hout⟩ := bandSample_taken hi hond u x
  exact ⟨z, e, fun hoff => hz (h.unfiltered hi hoff), h.kept hkept, hout⟩

theorem Sampled.cnt (h : Sampled c i zs d) (z : Rat × Rat) :
    ((d.notch i).take (d.notchRho i) (d.notchDir i) z).cnt = (c.notch i).cnt + zs.length + 1 := by
  rw [← notchRun_cnt (c.notchRho i) (c.notchDir i), ← h.notch]
  rfl

/-- The samples before the last one of a block. -/
theorem bandSamples_sampled (hb : Sampled c i [] b) (hi : i ∈ bandNotches l1) (hon : c.bit (F.GN_NOTCH_CTRL_engaged i) = true)
    (u : Nat → Nat) (x : Nat → Int × Int)
    (k : Nat) (hk : (c.notch i).cnt + k < 1024) :
    ∃ zs, zs.length = k ∧ (c.unfiltered l1 i → zs = (List.range k).map fun j => ratPair (x j)) ∧ Sampled c i zs (b.bandSamples l1 u x k) := by
  induction k with
  | zero => exact ⟨[], rfl, fun _ => rfl, hb⟩
  | succ k ih =>
    obtain ⟨zs, hlen, hzs, hs⟩ := ih (by omega)
    obtain ⟨z, e, hz, he, hout⟩ := hs.next hi hon (u k) (x k)
    refine ⟨zs ++ [z], by rw [List.length_append, hlen, List.length_singleton], fun hoff => ?_, ?_⟩
    · rw [hzs hoff, hz hoff, List.range_succ, List.map_append, List.map_singleton]
    · have htaken : e.notchTaken i z = e.setNotch i ((e.notch i).take (e.notchRho i) (e.notchDir i) z) :=
        if_neg (by rw [he.cnt z, hlen]; omega)
      rw [htaken] at hout
      rw [Chip.bandSamples_succ]
      exact (he.setNotch (bandNotches_lt l1 hi) z).kept hout

/-- The samples of a block, its last one among them: the notch is where they bring it, and then its centre moves. -/
theorem bandSamples_block (hb : Sampled c i [] b) (hi : i ∈ bandNotches l1) (hon : c.bit (F.GN_NOTCH_CTRL_engaged i) = true)
    (u : Nat → Nat) (x : Nat → Int × Int)
    {k : Nat} (hk : (c.notch i).cnt + k + 1 = 1024) :
    ∃ zs e, (c.unfiltered l1 i → zs = (List.range (k + 1)).map fun j => ratPair (x j)) ∧ Sampled c i zs e ∧
      NotchKept i (e.notchMove i) (b.bandSamples l1 u x (k + 1)) := by
  obtain ⟨zs, hlen, hzs, hs⟩ := bandSamples_sampled hb hi hon u x k (by omega)
  obtain ⟨z, e, hz, he, hout⟩ := hs.next hi hon (u k) (x k)
  refine ⟨zs ++ [z], _, fun hoff => ?_, he.setNotch (bandNotches_lt l1 hi) z, ?_⟩
  · rw [hzs hoff, hz hoff, List.range_succ, List.map_append, List.map_singleton]
  · have htaken : e.notchTaken i z = (e.setNotch i ((e.notch i).take (e.notchRho i) (e.notchDir i) z)).notchMove i :=
      if_pos (by rw [he.cnt z, hlen, hk])
    rw [Chip.bandSamples_succ, ← htaken]
    exact hout

/-! ## The centre -/

/-- Where the centre of a notch at the end of its block goes (R323). -/
def Chip.centreMoved (c : Chip) (i : Nat) (n : Notch) : Int :=
  let th := c.theta i
  let lim := fdiv (Int.ofNat (c.get (F.GN_NOTCH_CTRL_span i)) * 10 * 2 ^ 32) (notchRate i)
  satInt (th + fdiv (sext (wrap ((Config.atan2 n.sum.2 n.sum.1 * 4294967296).floor - th) 32) 32) (2 ^ c.get (F.GN_NOTCH_CTRL_mu i)))
    (n.ref - lim) (n.ref + lim)

theorem Chip.notchMove_eq (c : Chip) (i : Nat) : c.notchMove i =
    if !c.bit (F.GN_NOTCH_CTRL_adapt i) || c.bit F.RF_STAT_ovl then c.setNotch i { c.notch i with sum := (0, 0), cnt := 0 }
    else (c.setNotch i { c.notch i with sum := (0, 0), cnt := 0 }).wr (R.GN_NOTCH_FREQ i) (BitVec.ofInt 32 (c.centreMoved i (c.notch i))) := rfl

theorem Chip.notchMove_moved (c : Chip) (i : Nat) :
    (c.notchMove i).notch i = { c.notch i with sum := (0, 0), cnt := 0 } ∧
      (c.notchMove i).rd (R.GN_NOTCH_FREQ i) =
        if c.bit (F.GN_NOTCH_CTRL_adapt i) = true ∧ c.bit F.RF_STAT_ovl = false then BitVec.ofInt 32 (c.centreMoved i (c.notch i))
        else c.rd (R.GN_NOTCH_FREQ i) := by
  have hwr : ∀ (d : Chip) (a : Nat) (v : Word), (d.wr a v).notch i = d.notch i := fun _ _ _ => rfl
  rw [Chip.notchMove_eq]
  cases hadapt : c.bit (F.GN_NOTCH_CTRL_adapt i) <;> cases hovl : c.bit F.RF_STAT_ovl
  case true.false =>
    rw [if_neg (by decide), if_pos ⟨rfl, rfl⟩, hwr, Chip.notch_setNotch_self]
    exact ⟨rfl, Chip.rd_wr_self _ _ _⟩
  all_goals
    rw [if_pos (by decide), if_neg (by decide), Chip.notch_setNotch_self]
    exact ⟨rfl, rfl⟩

end

end Sys2Proof.Machine
end

section
/-! PROOFS. The notches at the end of their blocks (R322, R323). -/

-- One theorem at a time: many at once, each with a thread of its own, do not fit in memory.
set_option Elab.async false

namespace Sys2Proof.Machine

variable {c d : Chip} {i : Nat}

/-- The band of a notch. -/
theorem mem_bandNotches (hi : i < 8) : i ∈ bandNotches (decide (i < 4)) := by
  have h : ∀ n : Fin 8, n.val ∈ bandNotches (decide (n.val < 4)) := by decide
  exact h ⟨i, hi⟩

theorem bandStep_pos (l1 : Bool) : 0 < bandStep l1 := by cases l1 <;> decide

theorem Chip.bandAt_setBandAt (c : Chip) (l1 : Bool) (t : Nat) : (c.setBandAt l1 t).bandAt l1 = t := by cases l1 <;> rfl

theorem Chip.setBandAt_kept (c : Chip) (l1 : Bool) (t i : Nat) : NotchKept i c (c.setBandAt l1 t) := by
  cases l1 <;> exact .of_same rfl rfl

theorem Chip.advanceTo_sampled (c : Chip) (t i : Nat) : Sampled c i [] (c.advanceTo t) := by
  refine ⟨notch_congr (congrArg GnSt.notch (c.advanceTo_gn t)) i, fun a ha => (c.advanceTo_touches t).rd a rfl ?_⟩
  rw [besideNotch, Bool.or_eq_false_iff, beq_eq_false_iff_ne] at ha
  exact ha.1

theorem Chip.advanceTo_bandOn (c : Chip) (l1 : Bool) (t : Nat) : (c.advanceTo t).bandOn l1 = c.bandOn l1 := by
  have hrf : (c.advanceTo t).rf = c.rf := (c.advanceTo_touches t).rf (by decide)
  have hkeep : KeepsFlds [Fld.whole R.PWR_TMR] c (c.advanceTo t) := (KeepsFlds.refl c).advanceTo
  rw [Chip.bandOn, Chip.ddcOn, hrf, hkeep F.RF_STAT_rx (by decide), Chip.bandOn, Chip.ddcOn]
  cases l1
  · rw [if_neg (by decide), hkeep.bit (g := F.RF_CTRL_ddc_l5) (by decide)]
  · rw [if_pos rfl, hkeep.bit (g := F.RF_CTRL_ddc_l1) (by decide)]

/-- The samples of a band up to the instant after `m` more of them. -/
theorem Chip.bandTo_samples (c : Chip) (l1 : Bool) (xs : List (Int × Int)) (m : Nat) (hon : c.bandOn l1 = true) :
    c.bandTo l1 xs ((c.bandAt l1 / bandStep l1 + m) * bandStep l1 + 1) =
      ((c.advanceTo ((c.bandAt l1 / bandStep l1 + m) * bandStep l1 + 1)).bandSamples l1
        (fun j => (c.bandAt l1 / bandStep l1 + 1 + j) * bandStep l1) (fun j => (xs[j]?).getD (0, 0)) m).setBandAt l1
        (max (c.bandAt l1) ((c.bandAt l1 / bandStep l1 + m) * bandStep l1)) := by
  unfold Chip.bandTo
  dsimp only
  rw [Nat.add_sub_cancel, Nat.mul_div_cancel _ (bandStep_pos l1), Nat.add_sub_cancel_left, Chip.advanceTo_bandOn, if_pos hon]
  rfl

theorem Chip.notchAdapt_eq {xs : List (Int × Int)} (heng : c.bit (F.GN_NOTCH_CTRL_engaged i) = true) (hon : c.bandOn (decide (i < 4)) = true) :
    c.notchAdapt i xs = c.bandTo (decide (i < 4)) xs
      ((c.bandAt (decide (i < 4)) / bandStep (decide (i < 4)) + (1024 - (c.notch i).cnt)) * bandStep (decide (i < 4)) + 1) :=
  if_neg (by rw [heng, hon]; decide)

/-- A band's count of samples is not behind where it stood. -/
theorem bandAt_max (l1 : Bool) (a m : Nat) (hm : 0 < m) : max a ((a / bandStep l1 + m) * bandStep l1) = (a / bandStep l1 + m) * bandStep l1 := by
  refine Nat.max_eq_right ?_
  have h1 : a < (a / bandStep l1 + 1) * bandStep l1 := Nat.lt_mul_of_div_lt (Nat.lt_succ_self _) (bandStep_pos l1)
  exact h1.le.trans (Nat.mul_le_mul_right _ (by omega))

/-- The centre that chips alike in the notch's registers give it. -/
theorem Sampled.centreMoved {zs : List (Rat × Rat)} (hi : i < 8) (h : Sampled c i zs d) (n : Notch) : d.centreMoved i n = c.centreMoved i n := by
  have hctrl := notchCtrl_kept hi hi
  unfold Chip.centreMoved Chip.theta
  rw [h.rd _ (notch_kept_regs ⟨i, hi⟩).1, h.get (f := F.GN_NOTCH_CTRL_span i) hctrl, h.get (f := F.GN_NOTCH_CTRL_mu i) hctrl]

/-- The end of a block: how far the band's samples have come, and the notch and its centre after them. -/
theorem notchAdapt_block (hi : i < 8) (heng : c.bit (F.GN_NOTCH_CTRL_engaged i) = true) (hon : c.bandOn (decide (i < 4)) = true)
    (hcnt : (c.notch i).cnt < 1024) (xs : List (Int × Int)) :
    (c.notchAdapt i xs).bandAt (decide (i < 4)) =
        (c.bandAt (decide (i < 4)) / bandStep (decide (i < 4)) + (1024 - (c.notch i).cnt)) * bandStep (decide (i < 4)) ∧
      ∃ zs, (c.unfiltered (decide (i < 4)) i →
          zs = (List.range (1024 - (c.notch i).cnt)).map fun j => ratPair ((xs[j]?).getD (0, 0))) ∧
        (c.notchAdapt i xs).notch i = { zs.foldl (Notch.take (c.notchRho i) (c.notchDir i)) (c.notch i) with sum := (0, 0), cnt := 0 } ∧
        (c.notchAdapt i xs).rd (R.GN_NOTCH_FREQ i) =
          if c.bit (F.GN_NOTCH_CTRL_adapt i) = true ∧ c.bit F.RF_STAT_ovl = false then
            BitVec.ofInt 32 (c.centreMoved i (zs.foldl (Notch.take (c.notchRho i) (c.notchDir i)) (c.notch i)))
          else c.rd (R.GN_NOTCH_FREQ i) := by
  rw [Chip.notchAdapt_eq heng hon, Chip.bandTo_samples c _ xs _ hon, bandAt_max _ _ _ (by omega), Chip.bandAt_setBandAt]
  refine ⟨rfl, ?_⟩
  obtain ⟨k, hk⟩ : ∃ k, 1024 - (c.notch i).cnt = k + 1 := ⟨1023 - (c.notch i).cnt, by omega⟩
  rw [hk]
  obtain ⟨zs, e, hzs, he, hblock⟩ := bandSamples_block (c.advanceTo_sampled _ i) (mem_bandNotches hi) heng
    (fun j => (c.bandAt (decide (i < 4)) / bandStep (decide (i < 4)) + 1 + j) * bandStep (decide (i < 4))) (fun j => (xs[j]?).getD (0, 0))
    (k := k) (by omega)
  have hkept := hblock.trans (Chip.setBandAt_kept _ (decide (i < 4))
    ((c.bandAt (decide (i < 4)) / bandStep (decide (i < 4)) + (k + 1)) * bandStep (decide (i < 4))) i)
  obtain ⟨hnotch, hfreq⟩ := e.notchMove_moved i
  obtain ⟨hown, hstat, -, -⟩ := notch_kept_regs ⟨i, hi⟩
  refine ⟨zs, hzs, ?_, ?_⟩
  · rw [hkept.notch, hnotch, he.notch]
  · rw [hkept.rd _ hown, hfreq, he.bit (f := F.GN_NOTCH_CTRL_adapt i) (notchCtrl_kept hi hi), he.bit (f := F.RF_STAT_ovl) hstat,
      he.rd _ hown, he.centreMoved hi, he.notch]

theorem notchAdapt_effect (hi : i < 8) (heng : c.bit (F.GN_NOTCH_CTRL_engaged i) = true) (hon : c.bandOn (decide (i < 4)) = true)
    (hcnt : (c.notch i).cnt < 1024) (xs : List (Int × Int)) : Sys2Proof.adaptEffect c (c.notchAdapt i xs).settle i xs := by
  obtain ⟨hat, zs, hzs, hnotch, hfreq⟩ := notchAdapt_block hi heng hon hcnt xs
  have hband : (c.notchAdapt i xs).settle.bandAt (decide (i < 4)) = (c.notchAdapt i xs).bandAt (decide (i < 4)) := by
    rw [Chip.bandAt, Chip.settle_gn, Chip.bandAt]
  unfold Sys2Proof.adaptEffect
  dsimp only
  rw [settle_notch, hband, settle_gn_rd _ (notch_own hi).2.1, hnotch, hat, hfreq]
  refine ⟨rfl, rfl, fun hoff => ?_⟩
  have hturn : (2 : Rat) ^ 32 = 4294967296 := by norm_num
  rw [hzs hoff, hturn, notchRun_eq]
  exact ⟨rfl, rfl⟩

end Sys2Proof.Machine
end

section
/-! PROOFS. Every row of the positioning baseband completes with its effect (R322 to R346). -/

-- One theorem at a time: many at once, each with a thread of its own, do not fit in memory.
set_option Elab.async false

namespace Sys2Proof

open Sys2Proof.Machine

/-- Settles O42: each row of the positioning baseband that is due, or that takes a request, completes with its effect. -/
theorem gnRowsComplete : Obligations.GnRowsComplete := by
  intro i s _ h
  cases i
  case notchAdapt i xs =>
    simp only [gnReady, Bool.and_eq_true, decide_eq_true_eq] at h
    obtain ⟨⟨⟨heng, hon⟩, -⟩, hcnt⟩ := h
    exact completes_act (exec_notchAdapt s i xs) (notchAdapt_effect i.isLt heng hon hcnt xs)
  case notchDisengage i =>
    simp only [gnReady, Bool.and_eq_true, decide_eq_true_eq] at h
    obtain ⟨⟨heng, hauto⟩, hage⟩ := h
    exact completes_act (exec_notchDisengage s i) (notchDisengage_effect i.isLt heng hauto hage)
  case notchFreqWrite r i v => exact completes_request (exec_notchFreqWrite s r i v) ⟨h, notchFreqWrite_effect s.chip ⟨i.toNat, i.isLt⟩ v⟩
  case acqGo r v =>
    simp only [gnReady, Bool.and_eq_true, Bool.not_eq_true'] at h
    obtain ⟨⟨hacc, hgo⟩, habort⟩ := h
    exact completes_request (exec_acqGo s r v) ⟨hacc, acqGo_effect s.chip hgo habort⟩
  case acqAbort r v =>
    simp only [gnReady, Bool.and_eq_true, decide_eq_true_eq] at h
    obtain ⟨⟨hacc, habort⟩, hon⟩ := h
    exact completes_request (exec_acqAbort s r v) ⟨hacc, acqAbort_effect habort hon⟩
  case captureStart =>
    simp only [gnReady, Bool.and_eq_true, Bool.not_eq_true', decide_eq_true_eq] at h
    exact completes_act (exec_captureStart s) (captureStart_effect h.1 h.2)
  case captureOverflow =>
    simp only [gnReady, Bool.and_eq_true] at h
    exact completes_act (exec_captureOverflow s) (captureOverflow_effect h.1 h.2)
  case captureEnd xs =>
    simp only [gnReady, Bool.and_eq_true, decide_eq_true_eq] at h
    exact completes_act (exec_captureEnd s xs) (captureEnd_effect h.1 h.2)
  case searchEnd sig =>
    simp only [gnReady, Bool.and_eq_true, decide_eq_true_eq] at h
    exact completes_act (exec_searchEnd s sig) (searchEnd_effect h.1 h.2)
  case channelStartRequest r n v =>
    simp only [gnReady, Bool.and_eq_true] at h
    exact completes_request (exec_channelStartRequest s r n v) ⟨h.1, channelStartRequest_effect n h.2⟩
  case channelStart n => exact completes_act (exec_channelStart s n) (channelStart_effect n h)
  case channelStopRequest r n v =>
    simp only [gnReady, Bool.and_eq_true, decide_eq_true_eq] at h
    obtain ⟨⟨hacc, hv⟩, hon⟩ := h
    exact completes_request (exec_channelStopRequest s r n v) ⟨hacc, channelStopRequest_effect n hv hon⟩
  case channelStop n => exact completes_act (exec_channelStop s n) (channelStop_effect n h)
  case dump n xs =>
    simp only [gnReady, Bool.and_eq_true, Bool.not_eq_true', decide_eq_true_eq] at h
    obtain ⟨⟨hon, hfull⟩, -⟩ := h
    exact completes_act (exec_dump s n xs) (dump_effect n xs hon hfull)
  case integrationEnd n =>
    simp only [gnReady, Bool.and_eq_true, decide_eq_true_eq] at h
    obtain ⟨⟨-, hfull⟩, hon⟩ := h
    exact completes_act (exec_integrationEnd s n) fun _ hsums => integrationEnd_effect s.chip n hsums hfull hon
  case pullTimeout n =>
    simp only [gnReady, Bool.and_eq_true, decide_eq_true_eq] at h
    exact completes_act (exec_pullTimeout s n) (pullTimeout_effect n h.1 h.2)
  case coastTimeout n =>
    simp only [gnReady, Bool.and_eq_true, decide_eq_true_eq] at h
    exact completes_act (exec_coastTimeout s n) (coastTimeout_effect n h.1 h.2)
  case channelConfigWrite r n k v =>
    exact completes_request (exec_channelConfigWrite s r n k v) ⟨h, fun _ hrow => channelConfigWrite_effect n k v hrow⟩
  case epoch => exact completes_act (exec_epoch s) (epoch_effect h)
  case epochRateApply => exact completes_act (exec_epochRateApply s) (epochRate_effect h)
  all_goals exact absurd h Bool.false_ne_true

end Sys2Proof
end
